-- ==== Sys2Proof/Word.lean ====
section
/-! DEFINITION. The word types of the LRX9120 model: a register is 32 bits (R110), memory is bytes (R7). -/

namespace Sys2Proof

/-- One 32-bit register (R110). -/
abbrev Word := BitVec 32

/-- One byte. -/
abbrev Byte := BitVec 8

/-- One 16-bit engine lane or one pixel component (R9). -/
abbrev Half := BitVec 16

/-- A 66-bit block that a Headwater lane receives (R183). -/
structure LaneBlock where
  lane : Nat
  block : BitVec 66
deriving DecidableEq, Repr

/-- n bits that a Headwater lane receives, the first in bit 0. -/
structure LaneBits where
  lane : Nat
  n : Nat
  bits : Nat
deriving DecidableEq, Repr

/-- Errors that a lane's re-centre scan counts at each phase (R195). -/
structure LaneErrors where
  lane : Nat
  errors : List Nat
deriving DecidableEq, Repr

/-- IDLE blocks that a Sluice lane has sent since its last other block (R464). -/
structure LaneIdle where
  lane : Nat
  idle : Nat
deriving DecidableEq, Repr

/-- The load_offset that the lane clock gives a line packet (R467), and the IDLE blocks sent since the last other block. -/
structure PacketTime where
  offset : Nat
  idle : Nat
deriving DecidableEq, Repr

/-- What a composition line start brings: the line's distance to the scan line that reads it (R256), how many Reservoir lines
its reads and those of the scan since the last one have corrected (R416), and the lines, by region code of R438 and number,
that they have found uncorrectable (R418). -/
structure LineReads where
  dist : Nat
  corrected : Nat := 0
  bad : List (Nat × Nat) := []
deriving DecidableEq, Repr

/-- A rail whose STATUS_WORD shows power-good, and the VOUT_MODE byte that its regulator has reported (R534). -/
structure RailReport where
  rail : Nat
  voutMode : Nat
deriving DecidableEq, Repr

/-- A descriptor's sequence number, and the events that the counter which it sets counts in the cycle of its effect (R497). -/
structure SeqCounts where
  seq : Nat
  counts : Nat
deriving DecidableEq, Repr

end Sys2Proof
end

