-- ==== Sys2Proof/Machine/Bits.lean ====
section
/-! DEFINITION. Bit fields, byte order and the fixed-point helpers (R6 to R9) that every block uses. -/

namespace Sys2Proof.Machine

/-- Bits [lo+n-1:lo] of a number (R6). -/
def bitsAt (x lo n : Nat) : Nat := x / 2 ^ lo % 2 ^ n

/-- Bit i of a number. -/
def bitAt (x i : Nat) : Bool := x.testBit i

/-- A number with bits [lo+n-1:lo] replaced by v. -/
def putBits (x lo n v : Nat) : Nat :=
  x - bitsAt x lo n * 2 ^ lo + v % 2 ^ n * 2 ^ lo

/-- Field [lo+n-1:lo] of a register, as a number. -/
def field (w : Word) (lo n : Nat) : Nat := bitsAt w.toNat lo n

/-- A register with field [lo+n-1:lo] set to v; v is reduced to the field's width. -/
def withField (w : Word) (lo n v : Nat) : Word :=
  BitVec.ofNat 32 (putBits w.toNat lo n v)

/-- 1 for true. -/
def b2n (b : Bool) : Nat := if b then 1 else 0

/-- The n bytes of a number, least significant first (R7). -/
def leBytes : Nat → Nat → List Byte
  | 0, _ => []
  | n + 1, x => BitVec.ofNat 8 (x % 256) :: leBytes n (x / 256)

/-- The number that bytes spell, least significant first (R7). -/
def ofLe : List Byte → Nat
  | [] => 0
  | b :: bs => b.toNat + 256 * ofLe bs

/-- n bytes of a byte list from offset o, a missing byte counting as 0, as a little-endian number. -/
def leAt (bs : List Byte) (o n : Nat) : Nat := ofLe ((bs.drop o).take n)

/-- Two's complement value of an n-bit pattern (R8, type sN). -/
def signed (n x : Nat) : Int :=
  if x % 2 ^ n < 2 ^ (n - 1) then (x % 2 ^ n : Nat) else (x % 2 ^ n : Nat) - (2 ^ n : Nat)

/-- The n-bit pattern of an integer (R8). -/
def pattern (n : Nat) (i : Int) : Nat := (i % (2 ^ n : Nat)).toNat

/-- An integer held between two bounds. -/
def clampI (lo hi i : Int) : Int := if i < lo then lo else if i > hi then hi else i

/-- sat_u16() of the stage definitions: an integer held to 0 to 65,535. -/
def satU16 (i : Int) : Nat := (clampI 0 65535 i).toNat

/-- The n-bit signed saturation of the stage definitions. -/
def satS (n : Nat) (i : Int) : Int := clampI (-(2 ^ (n - 1) : Nat)) ((2 ^ (n - 1) : Nat) - 1) i

/-- round_shift(x, n): half an output unit is added, then an arithmetic shift right by n. -/
def roundShift (x : Int) (n : Nat) : Int :=
  if n = 0 then x else (x + (2 ^ (n - 1) : Nat)) / (2 ^ n : Nat)

/-- A count that stays at its largest n-bit value (R138, R140). -/
def satAdd (n x d : Nat) : Nat := min (x + d) (2 ^ n - 1)

/-- Replace the element at an index of a list; an index past the end changes nothing. -/
def listPut {α : Type} (xs : List α) (i : Nat) (v : α) : List α := xs.set i v

end Sys2Proof.Machine
end

