-- ==== Sys2Proof/Syntax.lean ====
section
/-! DEFINITION. The commands of the block: one constructor for each row of the command table, each with
the rule that gives it: the Eddy instructions, then the commands with operands, then those without, each in the
table's order. An Eddy instruction (R383) is a command whose first operand is the engine that
issues it. Nat operands are numbers the board, a host or an analog circuit gives; WellFormed bounds them. -/

namespace Sys2Proof

/-- A command of the LRX9120. -/
inductive Instr where
  /-- R384. Scalar add modulo 2^32. -/
  | add (e : Nat) (rd ra rb : BitVec 5)
  /-- R384. Scalar subtract modulo 2^32. -/
  | sub (e : Nat) (rd ra rb : BitVec 5)
  /-- R384. Scalar bitwise and. -/
  | and (e : Nat) (rd ra rb : BitVec 5)
  /-- R384. Scalar bitwise or. -/
  | or (e : Nat) (rd ra rb : BitVec 5)
  /-- R384. Scalar bitwise xor. -/
  | xor (e : Nat) (rd ra rb : BitVec 5)
  /-- R384. Scalar shift left by bits [4:0]. -/
  | shl (e : Nat) (rd ra rb : BitVec 5)
  /-- R384. Scalar logical shift right. -/
  | shr (e : Nat) (rd ra rb : BitVec 5)
  /-- R384. Scalar arithmetic shift right. -/
  | sra (e : Nat) (rd ra rb : BitVec 5)
  /-- R384. Scalar signed set-less-than. -/
  | slt (e : Nat) (rd ra rb : BitVec 5)
  /-- R384. Scalar unsigned set-less-than. -/
  | sltu (e : Nat) (rd ra rb : BitVec 5)
  /-- R384. Scalar signed minimum. -/
  | min (e : Nat) (rd ra rb : BitVec 5)
  /-- R384. Scalar unsigned minimum. -/
  | minu (e : Nat) (rd ra rb : BitVec 5)
  /-- R384. Scalar signed maximum. -/
  | max (e : Nat) (rd ra rb : BitVec 5)
  /-- R384. Scalar unsigned maximum. -/
  | maxu (e : Nat) (rd ra rb : BitVec 5)
  /-- R384. Low 32 bits of the scalar product. -/
  | mul (e : Nat) (rd ra rb : BitVec 5)
  /-- R384. High 32 bits of the signed 64-bit product. -/
  | mulh (e : Nat) (rd ra rb : BitVec 5)
  /-- R384. High 32 bits of the unsigned 64-bit product. -/
  | mulhu (e : Nat) (rd ra rb : BitVec 5)
  /-- R384. Add a sign-extended immediate. -/
  | addi (e : Nat) (rd ra : BitVec 5) (imm : BitVec 15)
  /-- R384. And with a zero-extended immediate. -/
  | andi (e : Nat) (rd ra : BitVec 5) (imm : BitVec 15)
  /-- R384. Or with a zero-extended immediate. -/
  | ori (e : Nat) (rd ra : BitVec 5) (imm : BitVec 15)
  /-- R384. Xor with a zero-extended immediate. -/
  | xori (e : Nat) (rd ra : BitVec 5) (imm : BitVec 15)
  /-- R383. Shift left by an immediate. -/
  | shli (e : Nat) (rd ra sh : BitVec 5)
  /-- R383. Logical shift right by an immediate. -/
  | shri (e : Nat) (rd ra sh : BitVec 5)
  /-- R383. Arithmetic shift right by an immediate. -/
  | srai (e : Nat) (rd ra sh : BitVec 5)
  /-- R384. Signed set-less-than against a sign-extended immediate. -/
  | slti (e : Nat) (rd ra : BitVec 5) (imm : BitVec 15)
  /-- R384. Unsigned set-less-than against a sign-extended immediate. -/
  | sltiu (e : Nat) (rd ra : BitVec 5) (imm : BitVec 15)
  /-- R383. rd = imm20 << 12. -/
  | lui (e : Nat) (rd : BitVec 5) (imm : BitVec 20)
  /-- R383. Jump relative, linking pc + 4. -/
  | jal (e : Nat) (rd : BitVec 5) (imm : BitVec 20)
  /-- R383. Jump to register plus immediate, linking pc + 4. -/
  | jalr (e : Nat) (rd ra : BitVec 5) (imm : BitVec 15)
  /-- R384. Conditional branch by 4 × off12. -/
  | br (e : Nat) (cond : BitVec 3) (ra rb : BitVec 5) (off : BitVec 12)
  /-- R385. Scalar 32-bit load. -/
  | lw (e : Nat) (rd ra : BitVec 5) (off : BitVec 12)
  /-- R385. Scalar 16-bit load, sign-extended. -/
  | lh (e : Nat) (rd ra : BitVec 5) (off : BitVec 12)
  /-- R385. Scalar 16-bit load, zero-extended. -/
  | lhu (e : Nat) (rd ra : BitVec 5) (off : BitVec 12)
  /-- R385. Scalar byte load, sign-extended. -/
  | lb (e : Nat) (rd ra : BitVec 5) (off : BitVec 12)
  /-- R385. Scalar byte load, zero-extended. -/
  | lbu (e : Nat) (rd ra : BitVec 5) (off : BitVec 12)
  /-- R385. Scalar 32-bit store. -/
  | sw (e : Nat) (rd ra : BitVec 5) (off : BitVec 12)
  /-- R385. Scalar 16-bit store. -/
  | sh (e : Nat) (rd ra : BitVec 5) (off : BitVec 12)
  /-- R385. Scalar byte store. -/
  | sb (e : Nat) (rd ra : BitVec 5) (off : BitVec 12)
  /-- R385. Vector load of 32 bytes into the active lanes. -/
  | vld (e : Nat) (pg : BitVec 3) (vd ra : BitVec 5) (off : BitVec 12)
  /-- R385. Vector store of the active lanes. -/
  | vst (e : Nat) (pg : BitVec 3) (vd ra : BitVec 5) (off : BitVec 12)
  /-- R385. Broadcast one u16 to every active lane. -/
  | vldb (e : Nat) (pg : BitVec 3) (vd ra : BitVec 5) (off : BitVec 12)
  /-- R387. 16-bit atomic add on the scratchpad. -/
  | aaddH (e : Nat) (rd ra rb : BitVec 5)
  /-- R387. 32-bit atomic add on the scratchpad. -/
  | aaddW (e : Nat) (rd ra rb : BitVec 5)
  /-- R387. 16-bit saturating atomic add. -/
  | aaddsH (e : Nat) (rd ra rb : BitVec 5)
  /-- R387. 32-bit saturating atomic add. -/
  | aaddsW (e : Nat) (rd ra rb : BitVec 5)
  /-- R387. 16-bit atomic swap. -/
  | aswpH (e : Nat) (rd ra rb : BitVec 5)
  /-- R387. 32-bit atomic swap. -/
  | aswpW (e : Nat) (rd ra rb : BitVec 5)
  /-- R388. Lane add modulo 2^16. -/
  | vadd (e : Nat) (pg : BitVec 3) (vd va vb : BitVec 5)
  /-- R388. Lane subtract modulo 2^16. -/
  | vsub (e : Nat) (pg : BitVec 3) (vd va vb : BitVec 5)
  /-- R388. Lane signed saturating add. -/
  | vadds (e : Nat) (pg : BitVec 3) (vd va vb : BitVec 5)
  /-- R388. Lane signed saturating subtract. -/
  | vsubs (e : Nat) (pg : BitVec 3) (vd va vb : BitVec 5)
  /-- R388. Lane unsigned saturating add. -/
  | vaddus (e : Nat) (pg : BitVec 3) (vd va vb : BitVec 5)
  /-- R388. Lane unsigned saturating subtract. -/
  | vsubus (e : Nat) (pg : BitVec 3) (vd va vb : BitVec 5)
  /-- R388. Lane unsigned plus signed, saturated to u16. -/
  | vaddsu (e : Nat) (pg : BitVec 3) (vd va vb : BitVec 5)
  /-- R388. Lane signed minimum. -/
  | vmin (e : Nat) (pg : BitVec 3) (vd va vb : BitVec 5)
  /-- R388. Lane signed maximum. -/
  | vmax (e : Nat) (pg : BitVec 3) (vd va vb : BitVec 5)
  /-- R388. Lane unsigned minimum. -/
  | vminu (e : Nat) (pg : BitVec 3) (vd va vb : BitVec 5)
  /-- R388. Lane unsigned maximum. -/
  | vmaxu (e : Nat) (pg : BitVec 3) (vd va vb : BitVec 5)
  /-- R388. Lane bitwise and. -/
  | vand (e : Nat) (pg : BitVec 3) (vd va vb : BitVec 5)
  /-- R388. Lane bitwise or. -/
  | vor (e : Nat) (pg : BitVec 3) (vd va vb : BitVec 5)
  /-- R388. Lane bitwise xor. -/
  | vxor (e : Nat) (pg : BitVec 3) (vd va vb : BitVec 5)
  /-- R388. Lane shift left. -/
  | vshl (e : Nat) (pg : BitVec 3) (vd va vb : BitVec 5)
  /-- R388. Lane logical shift right. -/
  | vshr (e : Nat) (pg : BitVec 3) (vd va vb : BitVec 5)
  /-- R388. Lane arithmetic shift right. -/
  | vsra (e : Nat) (pg : BitVec 3) (vd va vb : BitVec 5)
  /-- R388. Lane multiply modulo 2^16. -/
  | vmul (e : Nat) (pg : BitVec 3) (vd va vb : BitVec 5)
  /-- R388. High 16 bits of the lane signed product. -/
  | vmulh (e : Nat) (pg : BitVec 3) (vd va vb : BitVec 5)
  /-- R388. High 16 bits of the lane unsigned product. -/
  | vmulhu (e : Nat) (pg : BitVec 3) (vd va vb : BitVec 5)
  /-- R388. Lane absolute difference. -/
  | vabsdu (e : Nat) (pg : BitVec 3) (vd va vb : BitVec 5)
  /-- R388. Lane rounded average. -/
  | vavgu (e : Nat) (pg : BitVec 3) (vd va vb : BitVec 5)
  /-- R388. Per-lane select by predicate. -/
  | vsel (e : Nat) (pg : BitVec 3) (vd va vb : BitVec 5)
  /-- R388. Lane shift left by an immediate. -/
  | vshli (e : Nat) (pg : BitVec 3) (vd va imm : BitVec 5)
  /-- R388. Lane logical shift right by an immediate. -/
  | vshri (e : Nat) (pg : BitVec 3) (vd va imm : BitVec 5)
  /-- R388. Lane arithmetic shift right by an immediate. -/
  | vsrai (e : Nat) (pg : BitVec 3) (vd va imm : BitVec 5)
  /-- R388. Lane add of a signed immediate. -/
  | vaddi (e : Nat) (pg : BitVec 3) (vd va imm : BitVec 5)
  /-- R390. Lane move. -/
  | vmov (e : Nat) (pg : BitVec 3) (vd va : BitVec 5)
  /-- R390. Lane count of leading zeros. -/
  | vclz (e : Nat) (pg : BitVec 3) (vd va : BitVec 5)
  /-- R390. Lane reciprocal in uQ1.15. -/
  | vrcp (e : Nat) (pg : BitVec 3) (vd va : BitVec 5)
  /-- R390. Lane reciprocal square root in uQ1.15. -/
  | vrsqrt (e : Nat) (pg : BitVec 3) (vd va : BitVec 5)
  /-- R390. Each lane takes its lane number. -/
  | vlane (e : Nat) (pg : BitVec 3) (vd va : BitVec 5)
  /-- R383. Broadcast a scalar register to the active lanes. -/
  | vmvs (e : Nat) (pg : BitVec 3) (vd ra : BitVec 5)
  /-- R389. Lane compare into a predicate register. -/
  | vcmp (e : Nat) (pg pd cond : BitVec 3) (va vb : BitVec 5)
  /-- R389. Predicate and. -/
  | pand (e : Nat) (pd pa pb : BitVec 3)
  /-- R389. Predicate or. -/
  | por (e : Nat) (pd pa pb : BitVec 3)
  /-- R389. Predicate xor. -/
  | pxor (e : Nat) (pd pa pb : BitVec 3)
  /-- R389. Predicate and-not. -/
  | pandn (e : Nat) (pd pa pb : BitVec 3)
  /-- R389. Set a predicate from a scalar register. -/
  | pset (e : Nat) (pd : BitVec 3) (ra : BitVec 5) (pb : BitVec 3)
  /-- R389. Read a predicate into a scalar register. -/
  | pget (e : Nat) (rd : BitVec 5) (pa pb : BitVec 3)
  /-- R391. Lane multiply-accumulate into an accumulator. -/
  | vmac (e : Nat) (pg : BitVec 3) (ak : BitVec 2) (va vb : BitVec 5) (mode : BitVec 4)
  /-- R391. Clear the active accumulator lanes. -/
  | aclr (e : Nat) (pg : BitVec 3) (ak : BitVec 2)
  /-- R391. Set accumulator lanes from a vector register, shifted. -/
  | aset (e : Nat) (pg : BitVec 3) (ak : BitVec 2) (va sh : BitVec 5) (sgn : Bool)
  /-- R392. Round an accumulator into a vector register with saturation or wrap. -/
  | vrnd (e : Nat) (pg : BitVec 3) (ak : BitVec 2) (vd sh : BitVec 5) (mode : BitVec 2)
  /-- R394. Interpolating 1-D table lookup per lane. -/
  | lut1 (e : Nat) (pg : BitVec 3) (vd vx sd : BitVec 5) (sgn : Bool)
  /-- R394. Interpolating 2-D table lookup per lane. -/
  | lut2 (e : Nat) (pg : BitVec 3) (vd vx vy sd : BitVec 5) (sgn : Bool)
  /-- R396. Enqueue a checked tile mover request and return its tag. -/
  | mvq (e : Nat) (rd ra : BitVec 5)
  /-- R398. Wait at a barrier of the job's engine group. -/
  | bar (e : Nat) (id : BitVec 4)
  /-- R399. Stall until a selected condition holds. -/
  | wait (e : Nat) (mask : BitVec 3)
  /-- R402. Read a CSR. -/
  | csrr (e : Nat) (rd : BitVec 5) (csr : BitVec 3)
  /-- R402. Write a CSR. -/
  | csrw (e : Nat) (ra : BitVec 5) (csr : BitVec 3)
  /-- R404. Return from a handler to epc. -/
  | eret (e : Nat)
  /-- R405. End the stage once no request is outstanding. -/
  | halt (e : Nat)
  /-- R55. RESET_N rises; PWR starts on the AON oscillator and sequences the rails in order, and the whole device is
  reset. -/
  | powerOn (bscan : Bool)
  /-- R55. A rail reports power-good and PWR enables the next rail in the power-up order. -/
  | railPowerGood (r : RailReport)
  /-- R56. A rail misses power-good for 3 ms; PWR turns off the enabled rails, waits and retries once, or leaves
  only VDD_AON on. -/
  | railPowerGoodTimeout (n : Nat)
  /-- R50. 100 µs after VDDIO reaches power-good, the device samples the straps once. -/
  | strapSample (ownerSel : Nat) (merge01 merge23 : Bool) (bmcAddr : Nat)
  /-- R108. HPm_PERST_N low, link-down, function level reset, fatal AER or DEEP entry resets one port; its DMA stops
  and its pending descriptors are dropped. -/
  | portReset (port cause : Nat)
  /-- R88. The boot ROM finishes streaming and verifying a slot image; it boots the image, tries the other slot, or
  clears and enters RECOVERY_WAIT. -/
  | bootImageVerified (identified : Bool) (slotA slotB : List Byte)
  /-- R73. Clearing of the SRAMs and the Reservoir completes, or fails with RSV_CLEAR, and boot moves on to
  Reservoir training. -/
  | bootClearDone (ok : Bool)
  /-- R73. Reservoir full-rate training completes, or fails with RSV_TRAIN and the device enters STOPPED. -/
  | rsvTrainDone (ok : Bool)
  /-- R427. The store link trains and the device sets CC.EN. -/
  | storeLinkUp (speed width : Nat)
  /-- R427. CSTS.RDY becomes 1 and the device runs Identify, queue creation and the metadata reads. -/
  | storeControllerReady (formatOk : Bool) (nsze : Nat)
  /-- R73. The boot loads end and the device sets READY, or enters HOLD when hold is 1. -/
  | ready (ms : Nat)
  /-- R76. BOOT_HOLD_LIMIT expires in HOLD; the device sets READY and posts HOLD_LIMIT. -/
  | bootHoldLimitExpiry (ms : Nat)
  /-- R76. A write of BOOT_CTRL.hold = 1 before READY makes boot stop at stage HOLD. -/
  | bootCtrlHold (port : Nat) (val : Word)
  /-- R84. A write of BOOT_CTRL.release = 1 leaves HOLD and sets READY. -/
  | bootCtrlRelease (port ms : Nat)
  /-- R89. A write of BOOT_CTRL.recovery_go = 1 in RECOVERY_WAIT starts verification of the staged image. -/
  | bootCtrlRecoveryGo (port : Nat)
  /-- R85. A write of BOOT_XFER_CTRL.open = 1 starts a new staged image with length 0. -/
  | bootXferOpen (port : Nat)
  /-- R89. A write to BOOT_XFER_DATA stores image bytes at BOOT_XFER_OFFSET in the staging area. -/
  | bootXferDataWrite (port off : Nat) (data : List Byte)
  /-- R76. A write of BOOT_HOLD_LIMIT in HOLD replaces the limit, which may expire at once. -/
  | bootHoldLimitWrite (port : Nat) (val : Word) (elapsed ms : Nat)
  /-- R568. The owner writes key 0x5A5A to TOP_RESET and the device performs a device reset. -/
  | topReset (port key : Nat)
  /-- R138. A write of 1 to a W1C status flag clears the flag and its occurrence count. -/
  | flagClear (port off : Nat) (val : Word)
  /-- R135. A direct write to a register with no row of its own takes effect when it reaches its block, or is
  ignored under R12 and R13. -/
  | registerWrite (port off size : Nat) (val : BitVec 64)
  /-- R113. The owner writes a permission mask; it applies to later descriptors, and the device posts
  PERMISSION_CHANGED. -/
  | topHostPermWrite (port m : Nat) (val : Word)
  /-- R243. A write of VTOTAL and V_LATCH is accepted within its limits while the raster is disabled, or is ignored
  and sets cfg_err. -/
  | rastGeomWrite (port : Nat) (val : Word)
  /-- R263. A write of lag and rear_lead is checked against the minimum LAG and the rear_lead range, and rear_lead
  may raise LAG. -/
  | rastLagWrite (port : Nat) (val : Word)
  /-- R257. A direct write of RAST_CTRL.timeline is handled as a SET_TIMELINE request with the LAG in force. -/
  | rastCtrlTimelineWrite (port : Nat) (val : Word)
  /-- R345. A write of seg_width is accepted while the raster is disabled when it divides the width, or is ignored
  and sets cfg_err. -/
  | pipeFmtWrite (port : Nat) (val : Word)
  /-- R349. A write of the quadrant roles is accepted while the raster is disabled when every needed role keeps a
  quadrant, or sets cfg_err. -/
  | engCtrlRearRoleWrite (port : Nat) (val : Word)
  /-- R413. An RWL write of the Reservoir region sizes is checked against the limits, and a breach sets cfg_err. -/
  | rsvAllocWrite (port reg : Nat) (val : Word)
  /-- R121. A host write to PORT_KICK triggers a doorbell block fetch, or one more fetch when a fetch is in flight.
  -/
  | portKick (port : Nat) (val : Word)
  /-- R121. The port poll timer expires and triggers a doorbell block fetch. -/
  | pollTimerExpiry (port : Nat)
  /-- R120. The read of the doorbell block returns; each doorbell and consumer word is tested and accepted or
  rejected. -/
  | doorbellFetchDone (port : Nat) (words : Option (List (BitVec 64)))
  /-- R123. A fetched descriptor is checked in order (flags, opcode, strict, header, permission, assignment,
  payload) and dispatched or completed. -/
  | descriptorFetchDone (port sq : Nat) (raw : Option (BitVec 512))
  /-- R117. A write of SQn_CFG enables a submission ring, or disables it and drains its fetched descriptors. -/
  | sqCfgWrite (port n : Nat) (val : Word)
  /-- R117. A write of CQn_CFG enables a completion ring, or disables it unless a submission ring names it. -/
  | cqCfgWrite (port n : Nat) (val : Word)
  /-- R129. A write of EVQ_CFG enables the event ring, which posts EVENTS_LOST and the held start-up failures, or
  disables it. -/
  | evqCfgWrite (port : Nat) (val : Word)
  /-- R136. time_us passes since the first record not yet signalled, and the device sends the ring's MSI-X message.
  -/
  | coalesceTimerExpiry (port ring : Nat)
  /-- R151. The owner sets panel size, rate, cell mode and depth, with VTOTAL, rear_lead, LAG and the CK_COMP floor
  that follow. -/
  | setPanel (port sq seq : Nat)
  /-- R151. The owner selects buffered or locked-through mode, auto return and LAG, subject to the precondition and
  window checks. -/
  | setTimeline (port sq seq : Nat)
  /-- R152. The owner gives a range of layers, counters, rectangles, codec lanes, store regions or monitors to a
  host port. -/
  | assign (port sq seq : Nat)
  /-- R151. A groupable command sets the background colour at a latch instant. -/
  | setBackground (port sq seq : Nat)
  /-- R266. The owner starts the raster enable sequence, or the reverse sequence with enable = 0. -/
  | rasterEnable (port sq seq : Nat)
  /-- R153. A groupable command configures kind, format, z, size, position, colour path and fallback of a layer. -/
  | layerConfig (port sq seq : Nat)
  /-- R155. A groupable command gives a layer new plane addresses and pitches, as a SNAPSHOT fetch or a LIVE flip.
  -/
  | layerFlip (port sq seq : Nat)
  /-- R153. A groupable command enables or disables a layer. -/
  | layerEnable (port sq seq : Nat)
  /-- R153. A groupable command sets the custom input matrix or the gamut matrix of a layer. -/
  | layerMatrix (port sq seq : Nat)
  /-- R158. The device reads, verifies and stages a Mirgo table image from a host buffer or the store. -/
  | tableLoad (port sq seq : Nat)
  /-- R159. A groupable command makes a staged table active at a latch instant. -/
  | tableActivateC (port sq seq : Nat)
  /-- R159. The device makes a staged table active at a scan frame start. -/
  | tableActivateS (port sq seq : Nat)
  /-- R159. The device frees the staged version of a table identifier. -/
  | tableDrop (port sq seq : Nat)
  /-- R160. The device reads, verifies and loads a Mirgo kernel image and returns a handle. -/
  | kernelLoad (port sq seq : Nat)
  /-- R161. The device binds a loaded kernel with its parameter block to a stage and cell at a scan frame start. -/
  | kernelBind (port sq seq : Nat) (param : Option (List Byte))
  /-- R160. The device unloads a kernel that is neither bound nor pending. -/
  | kernelUnload (port sq seq : Nat)
  /-- R92. The read and verification of a table or kernel image end; the images are staged or loaded, measured, and
  the load completes. -/
  | imageLoadDone (port sq seq : Nat) (data : Option (List Byte))
  /-- R422. The device starts to read a hold item from the store, decode it and write it into the hold cache. -/
  | holdStage (port sq seq : Nat)
  /-- R422. The whole item is resident, or a check fails, and the staging completes. -/
  | holdStageDone (item : Nat)
  /-- R423. At a scan frame start, the device starts playing a resident hold item once or in a loop. -/
  | holdPlay (port sq seq : Nat)
  /-- R163. The device ends hold playback at a scan frame start. -/
  | holdStop (port sq seq : Nat)
  /-- R162. The owner sets the hold timeout, the freeze timeout and the policy item, which is staged in the
  background when not resident. -/
  | holdPolicy (port sq seq : Nat)
  /-- R163. The device removes a hold item from the hold cache unless it plays or is named in the policy. -/
  | holdEvict (port sq seq : Nat)
  /-- R165. The device reads LBAs of a store region into a host buffer. -/
  | storeRead (port sq seq : Nat)
  /-- R436. The device writes a host buffer to LBAs of a store region with FUA. -/
  | storeWrite (port sq seq : Nat) (data : Option (List Byte))
  /-- R430. The owner creates a store region in the lowest free aligned run, and the directory is updated. -/
  | storeCreate (port sq seq : Nat)
  /-- R430. The owner deletes a store region; the device deallocates its LBAs and clears its entry. -/
  | storeDelete (port sq seq : Nat)
  /-- R164. The device returns the store's capacity, its free LBAs and its region count. -/
  | storeInfo (port sq seq : Nat)
  /-- R437. An NVMe command completes, with retries on error, and the descriptor or internal operation that issued
  it goes on. -/
  | nvmeCompletion (cid status : Nat) (data : List Byte)
  /-- R426. An NVMe command has been outstanding for 10 s; the device issues Abort, and the descriptor completes
  with TIMEOUT. -/
  | nvmeCommandTimeout (cid : Nat)
  /-- R427. Link-down or controller fatal status marks the store absent, and store commands complete with NOT_READY.
  -/
  | storeLost (reason : Nat)
  /-- R456. The device starts a compress or decompress job on a codec lane. -/
  | codecJob (port sq seq : Nat)
  /-- R167. An output buffer is queued on a lane, and a paused job resumes. -/
  | codecOutBuf (port sq seq : Nat)
  /-- R168. The running job of a lane and every queued buffer complete with ABORTED. -/
  | codecCancel (port sq seq : Nat)
  /-- R457. A lane finishes a block and places it; buffers close, the job may pause or end, and strict jobs may end
  with NO_GAIN. -/
  | codecBlockDone (lane : Nat) (bytes : Option (List Byte))
  /-- R485. The device defines, enables or disables a CRC rectangle. -/
  | checkRect (port sq seq : Nat)
  /-- R489. The device installs a per-frame or sticky expected CRC and compares it or keeps it waiting. -/
  | checkExpect (port sq seq : Nat)
  /-- R484. A rectangle's CRC computation of a frame ends, and the frame is compared with the waiting or sticky
  values. -/
  | checkFrameComputed (rect : Nat)
  /-- R493. The device presets and configures a programmable counter in its domain. -/
  | ctrProgram (port sq : Nat) (seq : SeqCounts)
  /-- R500. A pulse copies every counter into the snapshot area and increments snapshot_seq. -/
  | ctrSnapshot (port sq seq : Nat)
  /-- R500. A pulse stops or resumes every counter together. -/
  | ctrFreeze (port sq seq : Nat)
  /-- R502. The device sets a bandwidth monitor's window and starts a new window. -/
  | bwMonitor (port sq seq : Nat)
  /-- R502. A monitor window ends; the monitor publishes the total, minimum and maximum and increments its sequence.
  -/
  | bwWindowEnd (monitor lo hi : Nat)
  /-- R503. The owner sets the tile tagging rate k, seeds the register and optionally clears the tag buffer. -/
  | tagConfig (port sq seq : Nat)
  /-- R512. A host asks for a power state, which starts a transition or waits in the pending slot. -/
  | powerReq (port sq seq : Nat)
  /-- R172. The owner sets the minimum and maximum operating point of a quadrant or of CK_COMP. -/
  | opLimit (port sq seq : Nat)
  /-- R174. The owner starts fast or full training of the masked lanes. -/
  | laneTrain (port sq seq : Nat)
  /-- R189. The word boundary of a lane moves by count UI, or a slip request is forwarded to the column driver. -/
  | laneBitSlip (port sq seq : Nat)
  /-- R203. The device starts an eye scan on a lane. -/
  | laneEyeScan (port sq seq : Nat)
  /-- R205. A lane starts or stops a PRBS pattern test, with optional error injection. -/
  | lanePrbs (port sq seq : Nat)
  /-- R250. At a scan frame start, the owner's lock mode, crash lock and loop bandwidth take effect. -/
  | timeLock (port sq seq : Nat)
  /-- R251. At a scan frame start, the photon phase offset takes effect. -/
  | timePhase (port sq seq : Nat)
  /-- R260. The device returns the flip or photon timestamp of one of the last 16 scan frames. -/
  | timeStamp (port sq seq : Nat)
  /-- R175. The owner sets device time, unless timestamps follow REF_TOD. -/
  | timeSet (port sq seq : Nat)
  /-- R98. SEC signs an attestation report over the measurements and the nonce and writes it to the host. -/
  | secAttest (port sq seq : Nat)
  /-- R177. SEC issues a 32-byte challenge for the next SEC_ENROL from the same port. -/
  | secChallenge (port sq seq : Nat)
  /-- R95. SEC verifies the key's signature over the challenge and fuses the key hash into a slot. -/
  | secEnrol (port sq seq : Nat) (data : Option (List Byte))
  /-- R96. SEC blows the state fuse of a key slot to revoked. -/
  | secRevoke (port sq seq : Nat)
  /-- R177. SEC verifies a firmware image and starts writing it to the slot that did not boot. -/
  | secFwUpdate (port sq seq : Nat) (data : Option (List Byte))
  /-- R177. The flash write of a firmware update finishes, or times out after 300 s. -/
  | fwFlashWriteDone (ok : Bool)
  /-- R93. SEC raises the fused minimum firmware security version. -/
  | secRollback (port sq seq : Nat)
  /-- R97. The device writes the identity certificate to the host. -/
  | secCert (port sq seq : Nat)
  /-- R553. The device captures the 64 KiB field record to the host buffer and to the store. -/
  | diagFieldRecord (port sq seq : Nat)
  /-- R364. The device re-enables a fenced quadrant or cluster after a clean patrol pass and the data path's
  acknowledgement. -/
  | diagUnitEnable (port sq seq : Nat)
  /-- R548. The owner fences a quadrant or cluster, and its running jobs fall back. -/
  | diagUnitFence (port sq seq : Nat)
  /-- R433. The device writes event-log entries from a sequence number to a host buffer. -/
  | diagLogRead (port sq seq : Nat)
  /-- R142. The BMC UNIT_TABLE command returns entries of the unit state table from an ID on. -/
  | bmcUnitTable (first : Nat)
  /-- R142. The BMC FIELD_READ command returns one 256-byte page of the last captured record. -/
  | bmcFieldRead (page : Nat)
  /-- R142. The BMC POWER_REQ command asks for SLEEP or OFF. -/
  | bmcPowerReq (target : Nat)
  /-- R186. A write of LANE_CFG enables a lane, which starts full training or stays OFF with cfg_err, or disables
  it. -/
  | laneCfgWrite (port link lane : Nat) (val : Word)
  /-- R188. A direct write of LANE_SLIP moves the word boundary, unless the lane carries active video. -/
  | laneSlipWrite (port link lane : Nat) (val : Word)
  /-- R203. A direct write of LANE_EYE_START starts an eye scan or sets busy_reject. -/
  | laneEyeStartWrite (port link lane : Nat) (val : Word)
  /-- R205. A direct write of PRBS_CTRL starts or ends a PRBS test, or is ignored with cfg_err on an active-video
  lane. -/
  | prbsCtrlWrite (port link lane : Nat) (val : Word)
  /-- R206. A write of PRBS_INJECT inverts a single bit or a burst of bits. -/
  | prbsInjectWrite (port link lane n bits : Nat) (val : Word)
  /-- R210. A read of PRBS_BITS_LO captures the upper count bits into PRBS_BITS_HI. -/
  | prbsBitsLoRead (port link lane n bits : Nat)
  /-- R270. A read of RAST_SFN_LO captures the high word. -/
  | rastSfnLoRead (port : Nat)
  /-- R270. A read of RAST_CFN_LO captures the high word. -/
  | rastCfnLoRead (port : Nat)
  /-- R270. A read of HFN_OFFSET_LO captures the high word. -/
  | hfnOffsetLoRead (port : Nat)
  /-- R270. A read of RAST_TIME_NS captures the seconds into RAST_TIME_SEC_LO and RAST_TIME_SEC_HI. -/
  | rastTimeNsRead (port : Nat)
  /-- R327. A read of BKL_STATS_SFN_LO captures the high word. -/
  | bklStatsSfnLoRead (port : Nat)
  /-- R508. A read of CHK_Rr_FRAME_LO captures the frame's high word and CHK_Rr_LAST. -/
  | chkFrameLoRead (port rect : Nat)
  /-- R187. Full or fast training of a lane ends with the lane ACTIVE. -/
  | laneTrainingDone (link lane status fom crc : Nat)
  /-- R187. A training step misses its time; training restarts, fails into FAILED with LANE_FAILED, or moves on to
  the next boundary. -/
  | laneTrainingTimeout (link lane : Nat)
  /-- R197. A lane loses signal, CDR lock or block lock, or its driver reports lock loss; the lane enters
  FAST_RETRAIN. -/
  | laneLockLost (link lane cause : Nat)
  /-- R200. A fast retrain misses its time; the device sets fast_fail and retries, or escalates to full training
  after three failures. -/
  | fastRetrainTimeout (link lane : Nat)
  /-- R200. A lane has stayed ACTIVE for 1 s and its failure count returns to 0. -/
  | retrainCountReset (link lane : Nat)
  /-- R191. A 4,096 UI window ends; FoM updates, the DFE taps adapt, and a re-centre starts when FoM drops while
  frozen. -/
  | fomWindow (lane disagree : Nat) (steps : List Int)
  /-- R192. Every 1 ms, an ACTIVE adapting Headwater lane tries CTLE code + 1 and − 1 and keeps a better code. -/
  | ctleTrial (lane : Nat)
  /-- R194. The count of consecutive IDLE blocks reaches 4,097 and the lane freezes its equaliser. -/
  | idleFreeze (link lane : Nat)
  /-- R195. A re-centre ends; fom_ref updates, recentre is flagged and LANE_RECENTRED is posted. -/
  | recentreDone (scan : LaneErrors)
  /-- R202. An eye scan ends or is abandoned and its result becomes valid in the lane page. -/
  | eyeScanDone (link lane : Nat) (left right top bottom : List Nat) (centre : Nat) (answered : Bool)
  /-- R218. A whole Headwater line packet is checked and accepted as a line of a plane, or discarded with a flag. -/
  | hwlLinePacket (lane : Nat) (blocks : List (BitVec 66))
  /-- R219. A FRAME_START block starts or is absorbed into a Headwater frame, ends the previous frame, and may end
  silence or sleep. -/
  | frameStart (lane header : Nat) (low high : BitVec 32) (late : Bool)
  /-- R222. A FRAME_END block arrives, and when every active lane has sent one, the missing lines are patched at
  once. -/
  | frameEnd (lane header : Nat) (low high : BitVec 32)
  /-- R230. A SLEEP block completes the current frame, sets sleeping, posts HWL_SLEEP and switches to buffered mode.
  -/
  | hwlSleepBlock (b : LaneBlock)
  /-- R231. A WAKE block clears sleeping, posts HWL_WAKE and starts silence detection. -/
  | hwlWakeBlock (b : LaneBlock)
  /-- R226. A TRAIN block is used in training, or discarded on an ACTIVE lane and resets the idle count. -/
  | hwlTrainBlock (b : LaneBlock)
  /-- R194. An IDLE block increments the lane's count of consecutive idle blocks. -/
  | hwlIdleBlock (b : LaneBlock)
  /-- R213. A control block of an unknown type, or a data block outside a packet, sets pkt_err. -/
  | hwlUnknownBlock (lane : Nat) (block : BitVec 66)
  /-- R221. A line's deadline passes before the line is accepted, and the line is patched. -/
  | lineDeadline (plane line : Nat)
  /-- R239. A REF_FRAME edge is accepted or discarded, and the device compares the photon phase and updates the loop
  and lock state. -/
  | refFrameEdge (gap since : Nat)
  /-- R242. A complete REF_TOD message is checked and held, or discarded with tod_bad. -/
  | refTodMessage (msg : List Byte) (afterMs : Nat)
  /-- R254. The composition timer starts a composition frame when H0 is disabled, and CFN increments. -/
  | compositionFrameStart (distances : List Nat)
  /-- R254. A composition line starts; the line is composed, the distance D is measured and underrun is judged. -/
  | compositionLineStart (reads : LineReads)
  /-- R288. A LIVE layer line read returns into the line buffers, or faults. -/
  | liveFetchDone (layer plane line : Nat) (forNext : Bool) (bytes : Option (List Byte))
  /-- R286. The SNAPSHOT fetch of a flip into the layer cache completes or faults. -/
  | snapshotFetchDone (port sq seq : Nat) (data : Option (List (Nat × List Byte)))
  /-- R357. The scheduler dispatches a tile job or a frame job to an engine once its inputs and resources are ready.
  -/
  | tileDispatch (cell tc tr : Nat) (next : Bool) (cfn : Nat)
  /-- R360. A job's last output plane reaches PIPE's tile buffer. -/
  | tileComplete (cell tc tr : Nat)
  /-- R360. A job retires: its key is checked, its output goes to dither, its history is written and its statistics
  merge, or it is discarded. -/
  | tileRetire (cell tc tr : Nat)
  /-- R361. A job's deadline passes before completion; its engine stops and the tile falls back to history drive. -/
  | tileDeadline (cell tc tr : Nat) (next : Bool)
  /-- R354. At warn lines before the deadline, the device sets st.dwarn and makes the deadline-warning handler
  pending. -/
  | deadlineWarning (cell tc tr : Nat)
  /-- R362. An engine uses max_cycles and the scheduler stops it. -/
  | maxCyclesExpiry (engine : Nat)
  /-- R397. A tile mover request finishes; the mover sets the mdone bit and the mover-done handler becomes pending.
  -/
  | moverRequestDone (cluster : Nat)
  /-- R367. A queued mover request makes no progress for starve cycles; mover_starve is set and MOVER_STARVED is
  posted. -/
  | moverStarve (cluster n cycles : Nat)
  /-- R371. A patrol visit saves a region, runs the march test and restores it, and reports errors. -/
  | patrolVisit (c : Nat) (aborted : Bool) (bits word : Nat) (spad : List (Nat × Nat)) (priv : List (Nat × Nat × Nat))
  /-- R403. At an instruction boundary, the engine takes a pending deadline-warning or mover-done handler. -/
  | handlerEntry (engine : Nat)
  /-- R398. Every engine of the barrier group has executed bar with that id, and they are released together. -/
  | barrierRelease (engine : Nat)
  /-- R399. A selected wait condition holds and the stalled wait completes. -/
  | waitRelease (engine : Nat)
  /-- R405. After halt, once no request is outstanding, the stage ends and the next stage starts or the job
  completes. -/
  | stageEnd (engine : Nat)
  /-- R382. The engine fetches an undefined instruction or a bad field and raises a kernel fault with cause 1. -/
  | instructionUndefined (engine : Nat)
  /-- R417. The scrubber reads the next Reservoir line at its paced interval and corrects it or reports it. -/
  | rsvScrubRead (region line result : Nat)
  /-- R321. At a scheduled flash edge, a controller sends a STROBE frame. -/
  | bklStrobe (controller onRow offRow : Nat)
  /-- R321. A controller sends ZONE_DATA for a zone row in its interval, or skips it and posts BKL_SPI_LATE. -/
  | zoneData (controller row frame : Nat) (fits : Bool)
  /-- R323. Once per scan frame, a controller sends STATUS, stores a valid reply and posts BKL_DRIVER_FAULT on a
  change. -/
  | bklStatus (controller status crc : Nat)
  /-- R467. A Sluice lane sends a scheduled or repair line packet for a line. -/
  | slkLinePacket (lane line : Nat) (at_ : PacketTime) (next repair : Bool)
  /-- R471. The device sends a CFG_WRITE block to a column driver where no packet is scheduled. -/
  | cfgWrite (w : LaneIdle)
  /-- R483. A write of go starts a driver configuration write to the masked lanes, or a CFG_READ. -/
  | slkDcfgGo (port : Nat) (val : Word)
  /-- R474. Every roll_ms, the device sends ROLL on a back-channel line and gathers the slotted replies. -/
  | roll (bc : Nat) (replies : List (Option (Nat × Nat × Nat)))
  /-- R474. Every 100 ms, or on an alert bit, the device sends STATUS to a driver. -/
  | statusPoll (lane : Nat)
  /-- R473. A back-channel reply arrives and is applied to training, slip, eye scan, PRBS or driver status. -/
  | bcReply (bc : Nat) (frame : List Byte)
  /-- R473. A reply is missing or fails its CRC twice; the device sets bc_timeout or bc_crc and posts SLK_BC_ERROR.
  -/
  | bcReplyTimeout (bc : Nat) (crc : Bool)
  /-- R475. A low run longer than 1.0 µs is decoded as a driver's lock-loss alert, and the lane starts a fast
  retrain. -/
  | bcAlertPulse (bc width row : Nat)
  /-- R478. A driver's RELOCK frame makes the lane ACTIVE and packets resume, with repair or skipped lines. -/
  | relock (lane : Nat) (frame : List Byte)
  /-- R524. In SLEEP, a host link leaving L1.2, CLKREQ or a memory TLP wakes the device. -/
  | hostLinkWake (port : Nat)
  /-- R533. READ_VOUT has not confirmed the voltage 1,000 µs after the command; the raise is abandoned. -/
  | voltageFail (vout : Nat)
  /-- R534. Every 10 ms PWR reads READ_VOUT and READ_IOUT of every rail that is on. -/
  | railTelemetry (readings : List (Nat × Nat))
  /-- R534. PMB_ALERT_N falls; PWR reads STATUS_WORD, posts PMBUS_FAULT and clears faults. -/
  | pmbusAlert (words : List Nat)
  /-- R541. A system PLL loses lock and the device performs a fatal device reset. -/
  | pllLockLoss (unit : Nat)
  /-- R541. An uncorrectable error in MGMT or SEC memory, or an internal SEC fault, causes a fatal device reset. -/
  | mgmtMemoryError (unit : Nat)
  /-- R569. Every 1 ms the device refreshes the die sensors and applies or lifts the thermal warning cap. -/
  | sensorRefresh (values : List (Option Nat))
  /-- R339. Every period_ms the device reads each enabled panel temperature sensor and updates T. -/
  | panelTempPoll (reads : List (Option Nat))
  /-- R550. MGMT writes a unit's new state, clears mgmt_stale and posts UNIT_STATE. -/
  | unitStateUpdate (unit : Nat)
  /-- R187. A Headwater lane in DETECT sees a signal above 100 mV differential for 10 µs and moves on to CDR lock.
  -/
  | hwlSignalDetect (lane : Nat)
  /-- R187. A lane's clock recovery acquires lock and the lane moves from CDR to ALIGN. -/
  | cdrLock (lane : Nat)
  /-- R185. A Headwater receiver sees 64 consecutive valid sync headers at its boundary and gains block lock, ending
  ALIGN. -/
  | blockLock (r : LaneBits)
  /-- R185. A block with an invalid sync header arrives; LANE_HDR_ERR increments and any open packet is abandoned
  with pkt_err. -/
  | invalidSyncHeader (lane : Nat) (block : BitVec 66)
  /-- R205. The PRBS checker seeds from 64 received bits and locks when the next 64 bits match, so counting starts.
  -/
  | prbsCheckerLocked (r : LaneBits)
  /-- R205. The locked checker sees more than 100 errors within 1,024 bits, drops lock, sets prbs_unlock and seeds
  again. -/
  | prbsCheckerUnlock (lane n bits : Nat)
  /-- R74. HPm_PERST_N rises or the host link trains; the port's configuration space answers within 100 ms and its
  unit state becomes link up. -/
  | hostLinkUp (port : Nat)
  /-- R496. A counter wraps at 2^48 or 2^64, adding to its overflow count or carrying into its odd partner and
  setting overflow. -/
  | counterWrap (n : Nat)
  /-- R178. The data path acknowledges a fence, or an enable after a clean patrol pass, and DIAG_UNIT_FENCE or
  DIAG_UNIT_ENABLE completes. -/
  | dataPathAcknowledge (unit : Nat)
  /-- R178. No acknowledgement arrives within 10 ms and DIAG_UNIT_ENABLE completes with TIMEOUT. -/
  | diagUnitEnableTimeout (unit : Nat)
  /-- R534. Every 1 s PWR reads READ_TEMPERATURE_1 and takes the one-second rail and temperature samples for the
  field record. -/
  | readTemperaturePoll (temps : List Nat)
  /-- R103. A verified Otius challenge-response opens a private test mode: the device blows the test-mark fuse,
  clears all memories and dismounts the store. -/
  | privateTestModeOpen (response : List Byte)
  /-- R69. WAKE_N is recognised in OFF; PWR restarts and sequences the rails, and the device resets as at power-on.
  -/
  | wakeFromOff
  /-- R57. VDD_AON falls below 0.68 V, the AON domain resets and PWR stops sequencing. -/
  | vddAonLoss
  /-- R70. The MGMT watchdog expires 1 s after its last refresh; the device records the cause and performs a device
  reset. -/
  | watchdogExpiry
  /-- R73. Lane PHY calibration ends stage LANES and the global set-up blocks become accessible. -/
  | laneCalibrationDone
  /-- R46. Exactly 100 ms after STP_PERST_N went low, the device releases the store from reset. -/
  | stpPerstRelease
  /-- R427. The store link has not trained by 100 ms or is not ready by 200 ms; the store is marked absent and
  STORE_ABSENT is recorded. -/
  | storeAbsentTimeout
  /-- R89. Verification of a staged image ends; on success the device runs it from step 3, otherwise it stays in
  RECOVERY_WAIT. -/
  | recoveryVerifyDone
  /-- R266. An on_delay or off_delay elapses, and the next panel power enable rises or falls in the raster sequence.
  -/
  | panelPowerStep
  /-- R427. Once per second while a link is present, the device retries the mount of an absent store. -/
  | storeMountRetry
  /-- R433. At least once per second, and at once for severity 3, the device writes the log head and pending event
  records. -/
  | eventLogFlush
  /-- R426. Every 10 s the device reads the SMART / health log for the store's composite temperature. -/
  | smartPoll
  /-- R177. An unused challenge lapses after 60 s and challenge_lapsed is set. -/
  | challengeExpiry
  /-- R142. The BMC STATUS command returns boot, AON, power state, temperature and power. -/
  | bmcStatus
  /-- R142. The BMC FIELD_CAPTURE command captures the field record to the store and to a BMC buffer. -/
  | bmcFieldCapture
  /-- R142. The BMC POWER_RESULT command returns the power result word, status and refusing unit. -/
  | bmcPowerResult
  /-- R232. At t0 + (k + 0.25) × P, a missing FRAME_START increments missing and may make the source silent. -/
  | silenceCheck
  /-- R233. missing reaches HWL_HOLD_TIMEOUT; the device sets frozen, posts FREEZE_STARTED and repeats the newest
  composed frame. -/
  | freeze
  /-- R233. The freeze has lasted HWL_FREEZE_TIMEOUT ms; the device plays the hold item in a loop, or posts
  HOLD_ITEM_MISSING. -/
  | freezeTimeout
  /-- R239. No edge has been accepted for 3 × P_ref; the device sets ref_lost, posts REF_LOST and enters HOLDOVER.
  -/
  | refFrameLost
  /-- R240. REF_10M has been in tolerance for 10 ms, and CK_RAST moves back to it. -/
  | ref10mPresent
  /-- R240. 10 consecutive REF_10M cycles are missing; CK_RAST falls back to XTAL and the device posts REF_LOST. -/
  | ref10mLost
  /-- R242. At a REF_PPS edge, device time is set from the last valid REF_TOD message. -/
  | refPpsEdge
  /-- R245. A scan frame starts; SFN increments and frame selection, S opcodes, mode changes, the overdrive
  selection and the governor apply. -/
  | scanFrameStart
  /-- R255. At a latch instant, the commit groups that have wholly arrived apply to the next composition frame. -/
  | latchInstant
  /-- R316. The stage 6 deadline passes without B(k + 1); the next frame uses B(k) and zone_late is set. -/
  | stage6Deadline
  /-- R514. The content has been static for idle_frames scan frames and MGMT requests IDLE. -/
  | idlePolicy
  /-- R516. Headwater has slept for sleep_delay_s and MGMT requests SLEEP. -/
  | sleepPolicy
  /-- R517. A unit answers the entry handshake; PWR asks the next unit, or sets the rails when all have agreed. -/
  | unitAgree
  /-- R428. The store shutdown has not completed after 10 s and STP refuses the entry. -/
  | stpShutdownTimeout
  /-- R522. WAKE_N falls for at least 2 µs and the device exits to RUN, or latches the wake during an entry. -/
  | wakeN
  /-- R523. The WAKE_SENSE comparator stays tripped for the debounce time and wakes the device. -/
  | wakeSense
  /-- R526. An exit from IDLE, SLEEP or DEEP ends in RUN; POWER_STATE is posted and the pending slot is served. -/
  | powerExitDone
  /-- R532. After the voltage wait, a domain's clock switches to its new operating point and OP_CHANGED is posted.
  -/
  | opSwitch
  /-- R533. A standby PLL has not locked 100 µs after a change; the domain keeps its frequency and a quadrant is
  fenced. -/
  | opPllTimeout
  /-- R541. A sensor reaches the hardware trip and PWR removes every rail except VDD_AON. -/
  | thermalTrip
  /-- R541. The memory stack reports an interface or retraining failure and the device performs a fatal device
  reset. -/
  | rsvInterfaceFailure
  /-- R46. RESET_N falls and the device drives the panel outputs Hi-Z and holds in reset until RESET_N rises. -/
  | resetNLow
  /-- R55. The board brings VDD_AON into tolerance and the AON domain comes up with AON_STATUS and the fatal records
  at their reset values. -/
  | vddAonPowerUp
  /-- R56. 100 ms after PWR turned the rails off after a power-good miss or a class 2 fault, it repeats the rail
  sequence once. -/
  | railRetryWait
  /-- R262. A scan line starts; the gate outputs read their registers and run their waveforms, and PNL_SYNC_OUT
  pulses as configured. -/
  | scanLineStart
  /-- R572. Fuse programming by SEC_ENROL, SEC_REVOKE or SEC_ROLLBACK ends; slot states and min_version change, busy
  clears and the command completes. -/
  | fuseProgrammingDone
  /-- R268. REF_PPS edges stop, pps_present clears and the device posts REF_LOST with input 2. -/
  | refPpsLost
deriving DecidableEq, Repr

end Sys2Proof
end

