-- ==== Sys2Proof/Decode.lean ====
section
/-! DEFINITION. The encodings of the Eddy instructions (R381 to R383): the word of each, and the decoder of the
engine's fetch. The command table gives no command bits, so decodeTableWord reads none. -/

namespace Sys2Proof

open Sys2Proof.Machine

/-! ### Formats (R381) -/

/-- Formats R, V, VI, P, A, AR: seven bits, a 3-bit field, and three 5-bit fields above the major opcode. -/
def formatR (op f7 f3 b a d : Nat) : Word := BitVec.ofNat 32 (op + 128 * d + 4096 * a + 131072 * b + 4194304 * f3 + 33554432 * f7)

/-- Format I. -/
def formatI (op imm a d : Nat) : Word := BitVec.ofNat 32 (op + 128 * d + 4096 * a + 131072 * imm)

/-- Format U. -/
def formatU (op imm d : Nat) : Word := BitVec.ofNat 32 (op + 128 * d + 4096 * imm)

/-- Format B. -/
def formatB (op off cond b a : Nat) : Word := BitVec.ofNat 32 (op + 128 * a + 4096 * b + 131072 * cond + 1048576 * off)

/-- Format M. -/
def formatM (op off pg a d : Nat) : Word := BitVec.ofNat 32 (op + 128 * d + 4096 * a + 131072 * pg + 1048576 * off)

/-- Format L. -/
def formatL (op sgn pg sd y x d : Nat) : Word :=
  BitVec.ofNat 32 (op + 128 * d + 4096 * x + 131072 * y + 4194304 * sd + 134217728 * pg + 1073741824 * sgn)

/-! ### The word of an instruction (R383) -/

/-- The word an engine fetches for an instruction; none for a command that is no Eddy instruction. -/
def eddyWord : Instr → Option Word
  | .add _ rd ra rb => some (formatR 0x01 0x00 0 rb.toNat ra.toNat rd.toNat)
  | .sub _ rd ra rb => some (formatR 0x01 0x01 0 rb.toNat ra.toNat rd.toNat)
  | .and _ rd ra rb => some (formatR 0x01 0x02 0 rb.toNat ra.toNat rd.toNat)
  | .or _ rd ra rb => some (formatR 0x01 0x03 0 rb.toNat ra.toNat rd.toNat)
  | .xor _ rd ra rb => some (formatR 0x01 0x04 0 rb.toNat ra.toNat rd.toNat)
  | .shl _ rd ra rb => some (formatR 0x01 0x05 0 rb.toNat ra.toNat rd.toNat)
  | .shr _ rd ra rb => some (formatR 0x01 0x06 0 rb.toNat ra.toNat rd.toNat)
  | .sra _ rd ra rb => some (formatR 0x01 0x07 0 rb.toNat ra.toNat rd.toNat)
  | .slt _ rd ra rb => some (formatR 0x01 0x08 0 rb.toNat ra.toNat rd.toNat)
  | .sltu _ rd ra rb => some (formatR 0x01 0x09 0 rb.toNat ra.toNat rd.toNat)
  | .min _ rd ra rb => some (formatR 0x01 0x0A 0 rb.toNat ra.toNat rd.toNat)
  | .minu _ rd ra rb => some (formatR 0x01 0x0B 0 rb.toNat ra.toNat rd.toNat)
  | .max _ rd ra rb => some (formatR 0x01 0x0C 0 rb.toNat ra.toNat rd.toNat)
  | .maxu _ rd ra rb => some (formatR 0x01 0x0D 0 rb.toNat ra.toNat rd.toNat)
  | .mul _ rd ra rb => some (formatR 0x01 0x0E 0 rb.toNat ra.toNat rd.toNat)
  | .mulh _ rd ra rb => some (formatR 0x01 0x0F 0 rb.toNat ra.toNat rd.toNat)
  | .mulhu _ rd ra rb => some (formatR 0x01 0x10 0 rb.toNat ra.toNat rd.toNat)
  | .addi _ rd ra imm => some (formatI 0x02 imm.toNat ra.toNat rd.toNat)
  | .andi _ rd ra imm => some (formatI 0x03 imm.toNat ra.toNat rd.toNat)
  | .ori _ rd ra imm => some (formatI 0x04 imm.toNat ra.toNat rd.toNat)
  | .xori _ rd ra imm => some (formatI 0x05 imm.toNat ra.toNat rd.toNat)
  | .shli _ rd ra sh => some (formatI 0x06 sh.toNat ra.toNat rd.toNat)
  | .shri _ rd ra sh => some (formatI 0x07 sh.toNat ra.toNat rd.toNat)
  | .srai _ rd ra sh => some (formatI 0x08 sh.toNat ra.toNat rd.toNat)
  | .slti _ rd ra imm => some (formatI 0x09 imm.toNat ra.toNat rd.toNat)
  | .sltiu _ rd ra imm => some (formatI 0x0A imm.toNat ra.toNat rd.toNat)
  | .lui _ rd imm => some (formatU 0x0B imm.toNat rd.toNat)
  | .jal _ rd imm => some (formatU 0x0C imm.toNat rd.toNat)
  | .jalr _ rd ra imm => some (formatI 0x0D imm.toNat ra.toNat rd.toNat)
  | .br _ cond ra rb off => some (formatB 0x0E off.toNat cond.toNat rb.toNat ra.toNat)
  | .lw _ rd ra off => some (formatM 0x10 off.toNat 0 ra.toNat rd.toNat)
  | .lh _ rd ra off => some (formatM 0x11 off.toNat 0 ra.toNat rd.toNat)
  | .lhu _ rd ra off => some (formatM 0x12 off.toNat 0 ra.toNat rd.toNat)
  | .lb _ rd ra off => some (formatM 0x13 off.toNat 0 ra.toNat rd.toNat)
  | .lbu _ rd ra off => some (formatM 0x14 off.toNat 0 ra.toNat rd.toNat)
  | .sw _ rd ra off => some (formatM 0x15 off.toNat 0 ra.toNat rd.toNat)
  | .sh _ rd ra off => some (formatM 0x16 off.toNat 0 ra.toNat rd.toNat)
  | .sb _ rd ra off => some (formatM 0x17 off.toNat 0 ra.toNat rd.toNat)
  | .vld _ pg vd ra off => some (formatM 0x18 off.toNat pg.toNat ra.toNat vd.toNat)
  | .vst _ pg vd ra off => some (formatM 0x19 off.toNat pg.toNat ra.toNat vd.toNat)
  | .vldb _ pg vd ra off => some (formatM 0x1A off.toNat pg.toNat ra.toNat vd.toNat)
  | .aaddH _ rd ra rb => some (formatR 0x1B 0x00 0 rb.toNat ra.toNat rd.toNat)
  | .aaddW _ rd ra rb => some (formatR 0x1B 0x01 0 rb.toNat ra.toNat rd.toNat)
  | .aaddsH _ rd ra rb => some (formatR 0x1B 0x02 0 rb.toNat ra.toNat rd.toNat)
  | .aaddsW _ rd ra rb => some (formatR 0x1B 0x03 0 rb.toNat ra.toNat rd.toNat)
  | .aswpH _ rd ra rb => some (formatR 0x1B 0x04 0 rb.toNat ra.toNat rd.toNat)
  | .aswpW _ rd ra rb => some (formatR 0x1B 0x05 0 rb.toNat ra.toNat rd.toNat)
  | .vadd _ pg vd va vb => some (formatR 0x20 0x00 pg.toNat vb.toNat va.toNat vd.toNat)
  | .vsub _ pg vd va vb => some (formatR 0x20 0x01 pg.toNat vb.toNat va.toNat vd.toNat)
  | .vadds _ pg vd va vb => some (formatR 0x20 0x02 pg.toNat vb.toNat va.toNat vd.toNat)
  | .vaddus _ pg vd va vb => some (formatR 0x20 0x03 pg.toNat vb.toNat va.toNat vd.toNat)
  | .vsubs _ pg vd va vb => some (formatR 0x20 0x04 pg.toNat vb.toNat va.toNat vd.toNat)
  | .vsubus _ pg vd va vb => some (formatR 0x20 0x05 pg.toNat vb.toNat va.toNat vd.toNat)
  | .vaddsu _ pg vd va vb => some (formatR 0x20 0x06 pg.toNat vb.toNat va.toNat vd.toNat)
  | .vmin _ pg vd va vb => some (formatR 0x20 0x07 pg.toNat vb.toNat va.toNat vd.toNat)
  | .vminu _ pg vd va vb => some (formatR 0x20 0x08 pg.toNat vb.toNat va.toNat vd.toNat)
  | .vmax _ pg vd va vb => some (formatR 0x20 0x09 pg.toNat vb.toNat va.toNat vd.toNat)
  | .vmaxu _ pg vd va vb => some (formatR 0x20 0x0A pg.toNat vb.toNat va.toNat vd.toNat)
  | .vand _ pg vd va vb => some (formatR 0x20 0x0B pg.toNat vb.toNat va.toNat vd.toNat)
  | .vor _ pg vd va vb => some (formatR 0x20 0x0C pg.toNat vb.toNat va.toNat vd.toNat)
  | .vxor _ pg vd va vb => some (formatR 0x20 0x0D pg.toNat vb.toNat va.toNat vd.toNat)
  | .vshl _ pg vd va vb => some (formatR 0x20 0x0E pg.toNat vb.toNat va.toNat vd.toNat)
  | .vshr _ pg vd va vb => some (formatR 0x20 0x0F pg.toNat vb.toNat va.toNat vd.toNat)
  | .vsra _ pg vd va vb => some (formatR 0x20 0x10 pg.toNat vb.toNat va.toNat vd.toNat)
  | .vmul _ pg vd va vb => some (formatR 0x20 0x11 pg.toNat vb.toNat va.toNat vd.toNat)
  | .vmulh _ pg vd va vb => some (formatR 0x20 0x12 pg.toNat vb.toNat va.toNat vd.toNat)
  | .vmulhu _ pg vd va vb => some (formatR 0x20 0x13 pg.toNat vb.toNat va.toNat vd.toNat)
  | .vabsdu _ pg vd va vb => some (formatR 0x20 0x14 pg.toNat vb.toNat va.toNat vd.toNat)
  | .vavgu _ pg vd va vb => some (formatR 0x20 0x15 pg.toNat vb.toNat va.toNat vd.toNat)
  | .vsel _ pg vd va vb => some (formatR 0x20 0x16 pg.toNat vb.toNat va.toNat vd.toNat)
  | .vshli _ pg vd va imm => some (formatR 0x21 0x00 pg.toNat imm.toNat va.toNat vd.toNat)
  | .vshri _ pg vd va imm => some (formatR 0x21 0x01 pg.toNat imm.toNat va.toNat vd.toNat)
  | .vsrai _ pg vd va imm => some (formatR 0x21 0x02 pg.toNat imm.toNat va.toNat vd.toNat)
  | .vaddi _ pg vd va imm => some (formatR 0x21 0x03 pg.toNat imm.toNat va.toNat vd.toNat)
  | .vmov _ pg vd va => some (formatR 0x22 0x00 pg.toNat 0 va.toNat vd.toNat)
  | .vclz _ pg vd va => some (formatR 0x22 0x01 pg.toNat 0 va.toNat vd.toNat)
  | .vrcp _ pg vd va => some (formatR 0x22 0x02 pg.toNat 0 va.toNat vd.toNat)
  | .vrsqrt _ pg vd va => some (formatR 0x22 0x03 pg.toNat 0 va.toNat vd.toNat)
  | .vlane _ pg vd va => some (formatR 0x22 0x04 pg.toNat 0 va.toNat vd.toNat)
  | .vmvs _ pg vd ra => some (formatR 0x23 0 pg.toNat 0 ra.toNat vd.toNat)
  | .vcmp _ pg pd cond va vb => some (formatR 0x24 cond.toNat pg.toNat vb.toNat va.toNat pd.toNat)
  | .pand _ pd pa pb => some (formatR 0x25 0x00 0 pb.toNat pa.toNat pd.toNat)
  | .por _ pd pa pb => some (formatR 0x25 0x01 0 pb.toNat pa.toNat pd.toNat)
  | .pxor _ pd pa pb => some (formatR 0x25 0x02 0 pb.toNat pa.toNat pd.toNat)
  | .pandn _ pd pa pb => some (formatR 0x25 0x03 0 pb.toNat pa.toNat pd.toNat)
  | .pset _ pd ra pb => some (formatR 0x25 0x04 0 pb.toNat ra.toNat pd.toNat)
  | .pget _ rd pa pb => some (formatR 0x25 0x05 0 pb.toNat pa.toNat rd.toNat)
  | .vmac _ pg ak va vb mode => some (formatR 0x28 mode.toNat pg.toNat vb.toNat va.toNat ak.toNat)
  | .aclr _ pg ak => some (formatR 0x29 0 pg.toNat 0 0 ak.toNat)
  | .aset _ pg ak va sh sgn => some (formatR 0x2A (b2n sgn) pg.toNat sh.toNat va.toNat ak.toNat)
  | .vrnd _ pg ak vd sh mode => some (formatR 0x2B mode.toNat pg.toNat sh.toNat ak.toNat vd.toNat)
  | .lut1 _ pg vd vx sd sgn => some (formatL 0x30 (b2n sgn) pg.toNat sd.toNat 0 vx.toNat vd.toNat)
  | .lut2 _ pg vd vx vy sd sgn => some (formatL 0x31 (b2n sgn) pg.toNat sd.toNat vy.toNat vx.toNat vd.toNat)
  | .mvq _ rd ra => some (formatR 0x38 0 0 0 ra.toNat rd.toNat)
  | .bar _ id => some (formatI 0x39 id.toNat 0 0)
  | .wait _ mask => some (formatI 0x3A mask.toNat 0 0)
  | .csrr _ rd csr => some (formatI 0x3B csr.toNat 0 rd.toNat)
  | .csrw _ ra csr => some (formatI 0x3C csr.toNat ra.toNat 0)
  | .eret _ => some (formatI 0x3D 0 0 0)
  | .halt _ => some (formatI 0x3E 0 0 0)
  | _ => none

/-- The engine that issues an Eddy instruction; 0 for another command. -/
def eddyEngine : Instr → Nat
  | .add e _ _ _ => e
  | .sub e _ _ _ => e
  | .and e _ _ _ => e
  | .or e _ _ _ => e
  | .xor e _ _ _ => e
  | .shl e _ _ _ => e
  | .shr e _ _ _ => e
  | .sra e _ _ _ => e
  | .slt e _ _ _ => e
  | .sltu e _ _ _ => e
  | .min e _ _ _ => e
  | .minu e _ _ _ => e
  | .max e _ _ _ => e
  | .maxu e _ _ _ => e
  | .mul e _ _ _ => e
  | .mulh e _ _ _ => e
  | .mulhu e _ _ _ => e
  | .addi e _ _ _ => e
  | .andi e _ _ _ => e
  | .ori e _ _ _ => e
  | .xori e _ _ _ => e
  | .shli e _ _ _ => e
  | .shri e _ _ _ => e
  | .srai e _ _ _ => e
  | .slti e _ _ _ => e
  | .sltiu e _ _ _ => e
  | .lui e _ _ => e
  | .jal e _ _ => e
  | .jalr e _ _ _ => e
  | .br e _ _ _ _ => e
  | .lw e _ _ _ => e
  | .lh e _ _ _ => e
  | .lhu e _ _ _ => e
  | .lb e _ _ _ => e
  | .lbu e _ _ _ => e
  | .sw e _ _ _ => e
  | .sh e _ _ _ => e
  | .sb e _ _ _ => e
  | .vld e _ _ _ _ => e
  | .vst e _ _ _ _ => e
  | .vldb e _ _ _ _ => e
  | .aaddH e _ _ _ => e
  | .aaddW e _ _ _ => e
  | .aaddsH e _ _ _ => e
  | .aaddsW e _ _ _ => e
  | .aswpH e _ _ _ => e
  | .aswpW e _ _ _ => e
  | .vadd e _ _ _ _ => e
  | .vsub e _ _ _ _ => e
  | .vadds e _ _ _ _ => e
  | .vsubs e _ _ _ _ => e
  | .vaddus e _ _ _ _ => e
  | .vsubus e _ _ _ _ => e
  | .vaddsu e _ _ _ _ => e
  | .vmin e _ _ _ _ => e
  | .vmax e _ _ _ _ => e
  | .vminu e _ _ _ _ => e
  | .vmaxu e _ _ _ _ => e
  | .vand e _ _ _ _ => e
  | .vor e _ _ _ _ => e
  | .vxor e _ _ _ _ => e
  | .vshl e _ _ _ _ => e
  | .vshr e _ _ _ _ => e
  | .vsra e _ _ _ _ => e
  | .vmul e _ _ _ _ => e
  | .vmulh e _ _ _ _ => e
  | .vmulhu e _ _ _ _ => e
  | .vabsdu e _ _ _ _ => e
  | .vavgu e _ _ _ _ => e
  | .vsel e _ _ _ _ => e
  | .vshli e _ _ _ _ => e
  | .vshri e _ _ _ _ => e
  | .vsrai e _ _ _ _ => e
  | .vaddi e _ _ _ _ => e
  | .vmov e _ _ _ => e
  | .vclz e _ _ _ => e
  | .vrcp e _ _ _ => e
  | .vrsqrt e _ _ _ => e
  | .vlane e _ _ _ => e
  | .vmvs e _ _ _ => e
  | .vcmp e _ _ _ _ _ => e
  | .pand e _ _ _ => e
  | .por e _ _ _ => e
  | .pxor e _ _ _ => e
  | .pandn e _ _ _ => e
  | .pset e _ _ _ => e
  | .pget e _ _ _ => e
  | .vmac e _ _ _ _ _ => e
  | .aclr e _ _ => e
  | .aset e _ _ _ _ _ => e
  | .vrnd e _ _ _ _ _ => e
  | .lut1 e _ _ _ _ _ => e
  | .lut2 e _ _ _ _ _ _ => e
  | .mvq e _ _ => e
  | .bar e _ => e
  | .wait e _ => e
  | .csrr e _ _ => e
  | .csrw e _ _ => e
  | .eret e => e
  | .halt e => e
  | _ => 0

/-! ### The decoder (R382, R383) -/

/-- Scalar operations. -/
def decodeOp (e f7 : Nat) (rd ra rb : BitVec 5) : Option Instr :=
  match f7 with
  | 0x00 => some (.add e rd ra rb)
  | 0x01 => some (.sub e rd ra rb)
  | 0x02 => some (.and e rd ra rb)
  | 0x03 => some (.or e rd ra rb)
  | 0x04 => some (.xor e rd ra rb)
  | 0x05 => some (.shl e rd ra rb)
  | 0x06 => some (.shr e rd ra rb)
  | 0x07 => some (.sra e rd ra rb)
  | 0x08 => some (.slt e rd ra rb)
  | 0x09 => some (.sltu e rd ra rb)
  | 0x0A => some (.min e rd ra rb)
  | 0x0B => some (.minu e rd ra rb)
  | 0x0C => some (.max e rd ra rb)
  | 0x0D => some (.maxu e rd ra rb)
  | 0x0E => some (.mul e rd ra rb)
  | 0x0F => some (.mulh e rd ra rb)
  | 0x10 => some (.mulhu e rd ra rb)
  | _ => none

/-- Atomic operations. -/
def decodeAmo (e f7 : Nat) (rd ra rb : BitVec 5) : Option Instr :=
  match f7 with
  | 0 => some (.aaddH e rd ra rb)
  | 1 => some (.aaddW e rd ra rb)
  | 2 => some (.aaddsH e rd ra rb)
  | 3 => some (.aaddsW e rd ra rb)
  | 4 => some (.aswpH e rd ra rb)
  | 5 => some (.aswpW e rd ra rb)
  | _ => none

/-- Vector operations. -/
def decodeVop (e f7 : Nat) (pg : BitVec 3) (vd va vb : BitVec 5) : Option Instr :=
  match f7 with
  | 0x00 => some (.vadd e pg vd va vb)
  | 0x01 => some (.vsub e pg vd va vb)
  | 0x02 => some (.vadds e pg vd va vb)
  | 0x03 => some (.vaddus e pg vd va vb)
  | 0x04 => some (.vsubs e pg vd va vb)
  | 0x05 => some (.vsubus e pg vd va vb)
  | 0x06 => some (.vaddsu e pg vd va vb)
  | 0x07 => some (.vmin e pg vd va vb)
  | 0x08 => some (.vminu e pg vd va vb)
  | 0x09 => some (.vmax e pg vd va vb)
  | 0x0A => some (.vmaxu e pg vd va vb)
  | 0x0B => some (.vand e pg vd va vb)
  | 0x0C => some (.vor e pg vd va vb)
  | 0x0D => some (.vxor e pg vd va vb)
  | 0x0E => some (.vshl e pg vd va vb)
  | 0x0F => some (.vshr e pg vd va vb)
  | 0x10 => some (.vsra e pg vd va vb)
  | 0x11 => some (.vmul e pg vd va vb)
  | 0x12 => some (.vmulh e pg vd va vb)
  | 0x13 => some (.vmulhu e pg vd va vb)
  | 0x14 => some (.vabsdu e pg vd va vb)
  | 0x15 => some (.vavgu e pg vd va vb)
  | 0x16 => some (.vsel e pg vd va vb)
  | _ => none

/-- Vector operations with an immediate, and of one operand. -/
def decodeVopi (e f7 : Nat) (pg : BitVec 3) (vd va imm : BitVec 5) : Option Instr :=
  match f7 with
  | 0 => some (.vshli e pg vd va imm)
  | 1 => some (.vshri e pg vd va imm)
  | 2 => some (.vsrai e pg vd va imm)
  | 3 => some (.vaddi e pg vd va imm)
  | _ => none

def decodeVun (e f7 : Nat) (pg : BitVec 3) (vd va : BitVec 5) : Option Instr :=
  match f7 with
  | 0 => some (.vmov e pg vd va)
  | 1 => some (.vclz e pg vd va)
  | 2 => some (.vrcp e pg vd va)
  | 3 => some (.vrsqrt e pg vd va)
  | 4 => some (.vlane e pg vd va)
  | _ => none

/-- Predicate operations: the fields that name a predicate register have two upper bits, which must be 0. -/
def decodePop (e f7 d a b : Nat) : Option Instr :=
  let p := fun (n : Nat) => BitVec.ofNat 3 n
  match f7 with
  | 0 => if d < 8 ∧ a < 8 ∧ b < 8 then some (.pand e (p d) (p a) (p b)) else none
  | 1 => if d < 8 ∧ a < 8 ∧ b < 8 then some (.por e (p d) (p a) (p b)) else none
  | 2 => if d < 8 ∧ a < 8 ∧ b < 8 then some (.pxor e (p d) (p a) (p b)) else none
  | 3 => if d < 8 ∧ a < 8 ∧ b < 8 then some (.pandn e (p d) (p a) (p b)) else none
  | 4 => if d < 8 ∧ b < 8 then some (.pset e (p d) (BitVec.ofNat 5 a) (p b)) else none
  | 5 => if a < 8 ∧ b < 8 then some (.pget e (BitVec.ofNat 5 d) (p a) (p b)) else none
  | _ => none

/-- The instruction a word spells for engine e; none where R382 calls it undefined. -/
def eddyDecode (e : Nat) (w : Word) : Option Instr :=
  let n := w.toNat
  let d := n / 128 % 32
  let a := n / 4096 % 32
  let b := n / 131072 % 32
  let f3 := n / 4194304 % 8
  let f7 := n / 33554432
  let imm := BitVec.ofNat 15 (n / 131072)
  let off := BitVec.ofNat 12 (n / 1048576)
  let m3 := n / 131072 % 8
  let rd := BitVec.ofNat 5 d
  let ra := BitVec.ofNat 5 a
  let rb := BitVec.ofNat 5 b
  let pg := BitVec.ofNat 3 f3
  match n % 128 with
  | 0x01 => if f3 = 0 then decodeOp e f7 rd ra rb else none
  | 0x02 => some (.addi e rd ra imm)
  | 0x03 => some (.andi e rd ra imm)
  | 0x04 => some (.ori e rd ra imm)
  | 0x05 => some (.xori e rd ra imm)
  | 0x06 => if n / 131072 < 32 then some (.shli e rd ra rb) else none
  | 0x07 => if n / 131072 < 32 then some (.shri e rd ra rb) else none
  | 0x08 => if n / 131072 < 32 then some (.srai e rd ra rb) else none
  | 0x09 => some (.slti e rd ra imm)
  | 0x0A => some (.sltiu e rd ra imm)
  | 0x0B => some (.lui e rd (BitVec.ofNat 20 (n / 4096)))
  | 0x0C => some (.jal e rd (BitVec.ofNat 20 (n / 4096)))
  | 0x0D => some (.jalr e rd ra imm)
  | 0x0E => if m3 ≤ 5 then some (.br e (BitVec.ofNat 3 m3) rd ra off) else none
  | 0x10 => if m3 = 0 then some (.lw e rd ra off) else none
  | 0x11 => if m3 = 0 then some (.lh e rd ra off) else none
  | 0x12 => if m3 = 0 then some (.lhu e rd ra off) else none
  | 0x13 => if m3 = 0 then some (.lb e rd ra off) else none
  | 0x14 => if m3 = 0 then some (.lbu e rd ra off) else none
  | 0x15 => if m3 = 0 then some (.sw e rd ra off) else none
  | 0x16 => if m3 = 0 then some (.sh e rd ra off) else none
  | 0x17 => if m3 = 0 then some (.sb e rd ra off) else none
  | 0x18 => some (.vld e (BitVec.ofNat 3 m3) rd ra off)
  | 0x19 => some (.vst e (BitVec.ofNat 3 m3) rd ra off)
  | 0x1A => some (.vldb e (BitVec.ofNat 3 m3) rd ra off)
  | 0x1B => if f3 = 0 then decodeAmo e f7 rd ra rb else none
  | 0x20 => decodeVop e f7 pg rd ra rb
  | 0x21 => decodeVopi e f7 pg rd ra rb
  | 0x22 => if b = 0 then decodeVun e f7 pg rd ra else none
  | 0x23 => if f7 = 0 ∧ b = 0 then some (.vmvs e pg rd ra) else none
  | 0x24 => if f7 ≤ 5 ∧ d < 8 then some (.vcmp e pg (BitVec.ofNat 3 d) (BitVec.ofNat 3 f7) ra rb) else none
  | 0x25 => if f3 = 0 then decodePop e f7 d a b else none
  | 0x28 => if f7 < 16 ∧ d < 4 then some (.vmac e pg (BitVec.ofNat 2 d) ra rb (BitVec.ofNat 4 f7)) else none
  | 0x29 => if f7 = 0 ∧ d < 4 ∧ a = 0 ∧ b = 0 then some (.aclr e pg (BitVec.ofNat 2 d)) else none
  | 0x2A => if f7 < 2 ∧ d < 4 then some (.aset e pg (BitVec.ofNat 2 d) ra rb (decide (f7 = 1))) else none
  | 0x2B => if f7 < 3 ∧ a < 4 then some (.vrnd e pg (BitVec.ofNat 2 a) rd rb (BitVec.ofNat 2 f7)) else none
  | 0x30 => if f7 < 64 ∧ b = 0 then
      some (.lut1 e (BitVec.ofNat 3 (n / 134217728)) rd ra (BitVec.ofNat 5 (n / 4194304)) (decide (32 ≤ f7))) else none
  | 0x31 => if f7 < 64 then
      some (.lut2 e (BitVec.ofNat 3 (n / 134217728)) rd ra rb (BitVec.ofNat 5 (n / 4194304)) (decide (32 ≤ f7))) else none
  | 0x38 => if f7 = 0 ∧ f3 = 0 ∧ b = 0 then some (.mvq e rd ra) else none
  | 0x39 => if n / 131072 < 16 ∧ d = 0 ∧ a = 0 then some (.bar e (BitVec.ofNat 4 b)) else none
  | 0x3A => if 1 ≤ n / 131072 ∧ n / 131072 ≤ 7 ∧ d = 0 ∧ a = 0 then some (.wait e (BitVec.ofNat 3 b)) else none
  | 0x3B => if n / 131072 ≤ 5 ∧ a = 0 then some (.csrr e rd (BitVec.ofNat 3 b)) else none
  | 0x3C => if n / 131072 ≤ 5 ∧ d = 0 then some (.csrw e ra (BitVec.ofNat 3 b)) else none
  | 0x3D => if n / 128 = 0 then some (.eret e) else none
  | 0x3E => if n / 128 = 0 then some (.halt e) else none
  | _ => none

/-- The command table gives its rows no bits, so no word spells a command. -/
def decodeTableWord (_nbits _w : Nat) : Option Instr := none

end Sys2Proof
end

