-- ==== Sys2Proof/Machine/Crc.lean ====
section
/-! DEFINITION. CRC-32C with the parameters of R216: polynomial 0x1EDC6F41, reflected, initial value and final XOR all
ones, each byte least significant bit first. -/

namespace Sys2Proof.Machine

/-- One bit of the reflected register. -/
def crcBit (c : Nat) : Nat := if c % 2 = 1 then (c / 2) ^^^ 0x82F63B78 else c / 2

def crcByte (c : Nat) (b : Byte) : Nat :=
  crcBit (crcBit (crcBit (crcBit (crcBit (crcBit (crcBit (crcBit (c ^^^ b.toNat))))))))

/-- One bit of the CRC-16 register of R466. -/
def crc16Bit (c : Nat) : Nat := if 0x8000 ≤ c then (2 * c ^^^ 0x11021) % 65536 else 2 * c

/-- CRC-16 of R466: polynomial 0x1021, initial value 0xFFFF, not reflected, most significant bit first. -/
def crc16 (bs : List Byte) : Nat :=
  bs.foldl (fun c b => crc16Bit (crc16Bit (crc16Bit (crc16Bit (crc16Bit (crc16Bit (crc16Bit (crc16Bit (c ^^^ (256 * b.toNat)))))))))) 0xFFFF

/-- One bit of the CRC-8 register of R319. -/
def crc8Bit (c : Nat) : Nat := if 128 ≤ c then (2 * c ^^^ 0x107) % 256 else 2 * c

/-- CRC-8 of R319: polynomial 0x07, initial value 0, most significant bit first. The packet error code of PMBus (R54) is the
same code by the SMBus specification: PRESUMED. -/
def crc8 (bs : List Byte) : Nat := bs.foldl (fun c b => Nat.iterate crc8Bit 8 (c ^^^ b.toNat)) 0

/-- CRC-32C of a byte string. -/
def crc32c (bs : List Byte) : Nat := bs.foldl crcByte 0xFFFFFFFF ^^^ 0xFFFFFFFF

end Sys2Proof.Machine
end

