-- ==== Sys2Proof/Config.lean ====
section
/-! DEFINITION. What one part or one board fixes, and the values the spec leaves open. Each constant is opaque: it
has no body, so a claim that holds, holds whatever it is. -/

namespace Sys2Proof

/-- Nanoseconds since device time was last set, at the k-th reading of the clock (R15, R175, R242). -/
opaque Config.elapsedNs : Nat → Nat

/-- CK_RAST ticks and CK_COMP cycles since reset at the k-th reading (R499, fixed counters 0 and 1). -/
opaque Config.ticksAt : Nat → Nat
opaque Config.compCyclesAt : Nat → Nat

/-- A value that the spec does not state, the k-th one the run meets. -/
opaque Config.freeValue : Nat → Nat

/-- A byte of engine e's code memory between the end of a kernel's code section and its code_bytes (R409, R410). -/
opaque Config.codeTail (e handle off : Nat) : Byte

/-- The ULINEAR16 mantissa of a voltage in mV under the exponent that the regulator of a rail reports (R534), and the byte
that PWR writes to ON_OFF_CONFIG (R54). -/
opaque Config.ulinear16 (rail mv : Nat) : Nat
opaque Config.onOffConfig : Byte

/-- Output of the loop's proportional-integral filter in 0.001 ppm (R248) at a phase error in ns and a natural bandwidth in
RAST_LOCK's units, at the k-th free value of the run. -/
opaque Config.piFilter (e : Int) (bandwidth k : Nat) : Int

/-- SHAKE256 hash of the Otius firmware key, in ROM (R94). -/
opaque Config.romKeyHash : BitVec 256

/-- Falcon-1024 verification of the padded signature form: key, message, signature (R92). -/
opaque Config.falconVerify : List Byte → List Byte → List Byte → Bool

/-- The 1,280-byte padded signature the identity key makes over a message, at the k-th signing (R98). -/
opaque Config.falconSign : Nat → List Byte → BitVec 10240

/-- The k-th 32-byte challenge SEC draws (R95, R103). -/
opaque Config.challenge : Nat → BitVec 256

/-- Bytes 24 to 1,832 and the signature of the identity certificate in one-time-programmable memory (R97). -/
opaque Config.certBody : BitVec 14472
opaque Config.certSignature : BitVec 10240

/-- Whether the response to an Otius challenge verifies against the test-authority key in ROM (R103). -/
opaque Config.testAuthority : List Byte → List Byte → Bool

/-- Record number n of the event log as the store holds it (R433, R553). -/
opaque Config.storedEvent (n : Nat) : BitVec 256

/-- Colour path settings a direct write can leave at a code the spec does not list: the matrix (R280), the transfer
function (R281), the chroma siting (R279) and a sample of a format not listed (R274). -/
opaque Config.unlistedMatrix : List Int
opaque Config.unlistedEotf : Nat → Nat → Nat
opaque Config.unlistedSiting : Nat
opaque Config.unlistedSample : Nat → Nat → Nat

end Sys2Proof
end

