-- ==== Sys2Proof/Machine/Table.lean ====
section
/-! DEFINITION. Sparse tables in one canonical form: keys rising, no entry equal to what an unlisted key reads
as. Every register file, memory and numbered set of the model is one of these, so equal contents are equal data. -/

namespace Sys2Proof

/-- A sparse table: (key, value) pairs. -/
abbrev Tab (α : Type) := List (Nat × α)

namespace Machine

/-- The value at a key; d gives what an unlisted key reads as. -/
def tabGet {α : Type} (d : Nat → α) : Tab α → Nat → α
  | [], k => d k
  | (j, v) :: t, k => if j = k then v else if k < j then d k else tabGet d t k

/-- A table without one key. -/
def tabErase {α : Type} : Tab α → Nat → Tab α
  | [], _ => []
  | (j, v) :: t, k => if j = k then t else if k < j then (j, v) :: t else (j, v) :: tabErase t k

/-- A table with one key set, the keys still rising. -/
def tabInsert {α : Type} : Tab α → Nat → α → Tab α
  | [], k, v => [(k, v)]
  | (j, w) :: t, k, v =>
    if j = k then (k, v) :: t else if k < j then (k, v) :: (j, w) :: t else (j, w) :: tabInsert t k v

/-- Write one key; writing what an unlisted key reads as removes the entry. -/
def tabSet {α : Type} [DecidableEq α] (d : Nat → α) (t : Tab α) (k : Nat) (v : α) : Tab α :=
  if v = d k then tabErase t k else tabInsert t k v

/-- Keep the entries whose key satisfies p. -/
def tabKeep {α : Type} (p : Nat → Bool) (t : Tab α) : Tab α := t.filter (fun e => p e.1)

/-- Every key of the table is above a bound and they rise. -/
def keysAbove {α : Type} : Nat → Tab α → Bool
  | _, [] => true
  | b, (j, _) :: t => decide (b ≤ j) && keysAbove (j + 1) t

/-- The canonical form: keys rising, and no entry equal to what an unlisted key reads as. -/
def tabWf {α : Type} [DecidableEq α] (d : Nat → α) (t : Tab α) : Bool :=
  keysAbove 0 t && t.all (fun e => decide (e.2 ≠ d e.1))

end Machine

end Sys2Proof
end

