-- ==== Sys2Proof/Machine/Registers.lean ====
section
/-! DEFINITION. The register map of Window A (R558 to R560): for every register its offset, the bits a host may
write, its W1C bits, its reset value and the reset scope of R563; then names for the registers, fields and flags.
Global and lane registers are keyed by their Window A offset; a port's own page is keyed by portKey. -/

namespace Sys2Proof.Machine

/-- What resets a register (the rows of R563). -/
inductive Scope where
  /-- Port page: also port reset and entry to DEEP. -/
  | port
  /-- MSI-X table and pending bits: kept across device reset. -/
  | msix
  /-- Boot page except AON_STATUS. -/
  | boot
  /-- Cleared by loss of VDD_AON only. -/
  | aon
  /-- Held in AON through IDLE, SLEEP and DEEP. -/
  | wake
  /-- Every other global block register and every lane page. -/
  | glob
deriving DecidableEq, Repr

/-- One row of a block's register table: count registers, stride bytes apart. -/
structure RegRow where
  base : Nat
  stride : Nat
  count : Nat
  /-- Value after the reset of its scope. -/
  reset : Nat
  /-- Bits a direct write sets (R10, RW). -/
  rw : Nat
  /-- Bits a written 1 clears (R10, W1C). -/
  w1c : Nat
  /-- Bits only the owner writes while READY is 0 (R10, RWL). -/
  rwl : Nat
  scope : Scope
deriving DecidableEq, Repr

/-- The registers of one row at stride s. -/
def regRow (base stride count reset rw w1c rwl : Nat) (sc : Scope) : RegRow :=
  { base := base, stride := stride, count := count, reset := reset, rw := rw, w1c := w1c, rwl := rwl, scope := sc }

/-- Register rows of the port page and MSI-X structures, at offsets from the page (R139, R560), part 1. -/
def portRows0 : List RegRow := [
  regRow 0 0 1 0 0 0 0 .port,
  regRow 4 0 1 0 0 0 0 .port,
  regRow 8 0 1 0 1 0 0 .port,
  regRow 0xC 0 1 0 0 0 0 .port,
  regRow 0x10 0 1 0 0xFFFFFF00 0 0 .port,
  regRow 0x14 0 1 0 0xFFFFFFFF 0 0 .port,
  regRow 0x18 0 1 0 0x3FFF 0 0 .port,
  regRow 0x1C 0 1 0 0 0 0 .port,
  regRow 0x20 0 1 0 0 0xF 0 .port,
  regRow 0x24 0 1 0 0 0 0 .port,
  regRow 0x28 0 1 0 0 0 0 .port,
  regRow 0x100 0x10 8 0 0xFFFFF000 0 0 .port,
  regRow 0x104 0x10 8 0 0xFFFFFFFF 0 0 .port,
  regRow 0x108 0x10 8 0 0x1F0F 0 0 .port,
  regRow 0x10C 0x10 8 0 0 0 0 .port,
  regRow 0x200 0x10 8 0 0xFFFFF000 0 0 .port,
  regRow 0x204 0x10 8 0 0xFFFFFFFF 0 0 .port,
  regRow 0x208 0x10 8 0 0x7F1F01 0 0 .port,
  regRow 0x20C 0x10 8 0 0x3FF01FF 0 0 .port,
  regRow 0x300 0 1 0 0xFFFFF000 0 0 .port,
  regRow 0x304 0 1 0 0xFFFFFFFF 0 0 .port,
  regRow 0x308 0 1 0 0x7F1F01 0 0 .port,
  regRow 0x30C 0 1 0 0x3FF01FF 0 0 .port,
  regRow 0x310 0 1 0 3 0 0 .port]

/-- Register rows of the port page and MSI-X structures, at offsets from the page (R139, R560), part 2. -/
def portRows1 : List RegRow := [
  regRow 0x2000 0x10 64 0 0xFFFFFFFF 0 0 .msix,
  regRow 0x2004 0x10 64 0 0xFFFFFFFF 0 0 .msix,
  regRow 0x2008 0x10 64 0 0xFFFFFFFF 0 0 .msix,
  regRow 0x200C 0x10 64 1 1 0 0 .msix,
  regRow 0x3000 4 2 0 0 0 0 .msix]

/-- Register rows of the port page and MSI-X structures, at offsets from the page (R139, R560). -/
def portRows : List RegRow := portRows0 ++ portRows1

/-- Register rows of the boot and status page (R82). -/
def bootRows : List RegRow := [
  regRow 0x1000 0 1 0x4 0 0 0 .boot,
  regRow 0x1004 0 1 0 1 0 0 .boot,
  regRow 0x1008 0 1 0 0 0 0 .boot,
  regRow 0x1010 0 1 0 0 0 0 .boot,
  regRow 0x1014 0 1 0xEA60 0 0 0xFFFFFFFF .boot,
  regRow 0x1020 0 1 0 0 0 0 .boot,
  regRow 0x1024 0 1 0 0xFFFFFF 0 0 .boot,
  regRow 0x100C 0 1 0 0 0x1FF 0 .aon]

/-- Register rows of the TOP block. -/
def topRows : List RegRow := [
  regRow 0x10000 0 1 0x912000B0 0 0 0 .glob,
  regRow 0x10004 0 1 0 0 0 0 .glob,
  regRow 0x10008 0 1 0 0 0 0 .glob,
  regRow 0x1000C 0 1 0 0 0 0 .glob,
  regRow 0x10010 0 1 0 0 0 0 .glob,
  regRow 0x10014 0 1 0 0 0 0 .glob,
  regRow 0x10040 4 4 0 0x7FFF 0 0 .glob,
  regRow 0x10060 0 1 0 0 0 0 .glob,
  regRow 0x10064 0 1 0 0 0 0 .glob,
  regRow 0x10100 4 64 0 0 0 0 .glob,
  regRow 0x10200 4 20 0 0 0 0 .glob,
  regRow 0x10400 4 64 0 0 0 0 .glob]

/-- Register rows of the PWR block, part 1. -/
def pwrRows0 : List RegRow := [
  regRow 0x11000 0 1 0 0 0 0 .glob,
  regRow 0x11004 0 1 0xF07800 0x3FFFFF03 0 0 .glob,
  regRow 0x11008 0 1 0xF0000 0xFFF3F 0 0 .wake,
  regRow 0x1100C 0 1 0x32 0x1FF 0 0 .glob,
  regRow 0x11010 0 1 0 0 0 0 .glob,
  regRow 0x11014 0 1 0 0 0 0 .glob,
  regRow 0x11018 0 1 0 0 0x3F 0 .glob,
  regRow 0x1101C 0 1 0 0 0 0 .glob,
  regRow 0x11020 0 1 0 0 0 0 .glob,
  regRow 0x11024 0 1 0 0 0 0 .wake,
  regRow 0x11028 0 1 0 0 0 0 .wake,
  regRow 0x1102C 0 1 0 0 0 0 .wake,
  regRow 0x11030 0 1 0 0 0 0 .aon,
  regRow 0x11040 0 1 0x40 0 0 0 .glob,
  regRow 0x11044 0 1 0x41 0 0 0 .glob,
  regRow 0x11048 0 1 0x42 0 0 0 .glob,
  regRow 0x1104C 0 1 0x43 0 0 0 .glob,
  regRow 0x11050 0 1 0x44 0 0 0 .glob,
  regRow 0x11054 0 1 0x45 0 0 0 .glob,
  regRow 0x11058 0 1 0x46 0 0 0 .glob,
  regRow 0x1105C 0 1 0x47 0 0 0 .glob,
  regRow 0x11060 0 1 0x4B09628A 0 0 0 .glob,
  regRow 0x11064 0 1 0x578BE2BC 0 0 0 .glob,
  regRow 0x11068 0 1 0x640E62E4 0 0 0 .glob]

/-- Register rows of the PWR block, part 2. -/
def pwrRows1 : List RegRow := [
  regRow 0x1106C 0 1 0x7090E30C 0 0 0 .glob,
  regRow 0x11070 0 1 0x7D13633E 0 0 0 .glob,
  regRow 0x11074 0 1 0x8995E370 0 0 0 .glob,
  regRow 0x11080 4 5 0x28 0 0 0 .glob]

/-- Register rows of the PWR block. -/
def pwrRows : List RegRow := pwrRows0 ++ pwrRows1

/-- Register rows of the RAST block, part 1. -/
def rastRows0 : List RegRow := [
  regRow 0x12000 0 1 0 6 0 0 .glob,
  regRow 0x12004 0 1 0 0x3FFF3FFF 0 0 .glob,
  regRow 0x12008 0 1 0 0 0 0 .glob,
  regRow 0x1200C 0 1 0 0 0 0 .glob,
  regRow 0x12010 0 1 0 0 0 0 .glob,
  regRow 0x12014 0 1 0x30 0x7F07FF 0 0 .glob,
  regRow 0x12018 0 1 0x640010 0x3FF00FF 0 0 .glob,
  regRow 0x1201C 0 1 0 0xFFFFFFFF 0 0 .glob,
  regRow 0x12020 0 1 0 0 0 0 .glob,
  regRow 0x12024 0 1 0 0 0xFF 0 .glob,
  regRow 0x12028 0 1 0 0 0 0 .glob,
  regRow 0x1202C 0 1 0 0 0 0 .glob,
  regRow 0x12030 0 1 0 0 0 0 .glob,
  regRow 0x12034 0 1 0 0 0 0 .glob,
  regRow 0x12038 0 1 0 0 0 0 .glob,
  regRow 0x12040 0 1 0 0 0 0 .glob,
  regRow 0x12044 0 1 0 0 0 0 .glob,
  regRow 0x12048 0 1 0 0 0 0 .glob,
  regRow 0x1204C 0 1 0 0 0 0 .glob,
  regRow 0x12050 0 1 0 0 0 0 .glob,
  regRow 0x12054 0 1 0 0 0 0 .glob,
  regRow 0x12058 0 1 0 0 0 0 .glob,
  regRow 0x1205C 0 1 0 0 0 0 .glob,
  regRow 0x12060 0 1 0 0 0 0 .glob]

/-- Register rows of the RAST block, part 2. -/
def rastRows1 : List RegRow := [
  regRow 0x12070 0 1 0x5DC0064 0xFFFFFFFF 0 0 .glob,
  regRow 0x12074 0 1 0 1 0 0 .glob,
  regRow 0x12078 0 1 0 0 0 0 .glob,
  regRow 0x12080 0 1 0 0x3FFFFFF3 0 0 .glob,
  regRow 0x12084 0 1 0 0xFFFFFFFF 0 0 .glob,
  regRow 0x12090 4 4 0 0xFFFF01 0 0 .glob,
  regRow 0x12200 4 128 0 0 0 0 .glob,
  regRow 0x12400 0x80 24 0 0xD 0 0 .glob,
  regRow 0x12404 0x80 24 0 0x3FFF3FFF 0 0 .glob,
  regRow 0x12408 0x80 24 0 0xFF 0 0 .glob,
  regRow 0x12410 0x80 24 0 0xFFFF 0 0 .glob,
  regRow 0x12414 0x80 24 0 0xFFFFFFFF 0 0 .glob,
  regRow 0x12418 0x80 24 0 0xFFFFFFFF 0 0 .glob,
  regRow 0x1241C 0x80 24 0 0xFFFFFFFF 0 0 .glob,
  regRow 0x12420 0x80 24 0 0xFFFFFFFF 0 0 .glob,
  regRow 0x12424 0x80 24 0 0xFFFF 0 0 .glob,
  regRow 0x12428 0x80 24 0 0xFFFFFFFF 0 0 .glob,
  regRow 0x1242C 0x80 24 0 0xFFFFFFFF 0 0 .glob,
  regRow 0x12430 0x80 24 0 0xFFFFFFFF 0 0 .glob,
  regRow 0x12434 0x80 24 0 0xFFFFFFFF 0 0 .glob,
  regRow 0x12438 0x80 24 0 0xFFFF 0 0 .glob,
  regRow 0x1243C 0x80 24 0 0xFFFFFFFF 0 0 .glob,
  regRow 0x12440 0x80 24 0 0xFFFFFFFF 0 0 .glob,
  regRow 0x12444 0x80 24 0 0xFFFFFFFF 0 0 .glob]

/-- Register rows of the RAST block, part 3. -/
def rastRows2 : List RegRow := [
  regRow 0x12448 0x80 24 0 0xFFFFFFFF 0 0 .glob,
  regRow 0x1244C 0x80 24 0 0xFFFF 0 0 .glob,
  regRow 0x12450 0x80 24 0 0xFFFFFFFF 0 0 .glob,
  regRow 0x12454 0x80 24 0 0xFFFFFFFF 0 0 .glob,
  regRow 0x12458 0x80 24 0 0xFFFFFFFF 0 0 .glob,
  regRow 0x1245C 0x80 24 0 0xFFFFFFFF 0 0 .glob]

/-- Register rows of the RAST block. -/
def rastRows : List RegRow := rastRows0 ++ rastRows1 ++ rastRows2

/-- Register rows of the HWL block. -/
def hwlRows : List RegRow := [
  regRow 0x13000 0 1 0xFFFFFFFF 0xFFFFFFFF 0 0 .glob,
  regRow 0x13004 0 1 0 0x1F1F 0 0 .glob,
  regRow 0x13008 0 1 0 0xFFFFFFFF 0 0 .glob,
  regRow 0x1300C 0 1 0 0xFFFFFFFF 0 0 .glob,
  regRow 0x13010 0 1 0x20 0xFF 0 0 .glob,
  regRow 0x13014 0 1 0 0 0 0 .glob,
  regRow 0x13018 0 1 0 0 0xFF 0 .glob,
  regRow 0x1301C 0 1 0 0 0 0 .glob,
  regRow 0x13020 0 1 0 0 0 0 .glob,
  regRow 0x13024 0 1 0 0 0 0 .glob,
  regRow 0x13028 0 1 0 0 0 0 .glob,
  regRow 0x1302C 0 1 2 0x3FF 0 0 .glob,
  regRow 0x13030 0 1 0x1388 0xFFFFFFFF 0 0 .glob,
  regRow 0x13034 0 1 0 0xFFFFFFFF 0 0 .glob]

/-- Register rows of the SLK block. -/
def slkRows : List RegRow := [
  regRow 0x14000 0 1 0x10A 0xFF0F 0 0 .glob,
  regRow 0x14004 0 1 0xFA0014 0xFFFF00FF 0 0 .glob,
  regRow 0x14008 0 1 0xFA0014 0xFFFF00FF 0 0 .glob,
  regRow 0x1400C 0 1 0 0 0 0 .glob,
  regRow 0x14010 0 1 0 0 0 0 .glob,
  regRow 0x14014 0 1 0 0 0xFF 0 .glob,
  regRow 0x14018 0 1 0 0 0 0 .glob,
  regRow 0x1401C 0 1 0 0 0 0 .glob,
  regRow 0x14020 0 1 0 0 0 0 .glob,
  regRow 0x14024 0 1 0 0x1FF 0 0 .glob,
  regRow 0x14028 0 1 0 0xFFFFFFFF 0 0 .glob,
  regRow 0x1403C 0 1 0 0 0 0 .glob,
  regRow 0x14040 0 1 0 0 0 0 .glob,
  regRow 0x14044 0 1 0 0 0 0 .glob,
  regRow 0x1402C 4 4 0 0xFFFFFFFF 0 0 .glob,
  regRow 0x14100 4 128 0 0 0 0 .glob]

/-- Register rows of the COMP block. Of H0 and H1 the kind, format, size, addresses and pitches are not the host's to
write (R298). -/
def compRows : List RegRow := [
  regRow 0x15000 0 1 0 0xFFFFFFFF 0 0 .glob,
  regRow 0x15004 0 1 0 0xFFFF 0 0 .glob,
  regRow 0x15008 0 1 0x3E8 0 0 0xFFFF .glob,
  regRow 0x1500C 0 1 0 0 0 0 .glob,
  regRow 0x15010 0 1 0 0 7 0 .glob,
  regRow 0x15014 0 1 0 0 0 0 .glob,
  regRow 0x15100 0x40 16 0 0x3F1FFF3F 0 0 .glob,
  regRow 0x15500 0x40 2 0 0x3F1F0039 0 0 .glob,
  regRow 0x15104 0x40 16 0 0x3FFF3FFF 0 0 .glob,
  regRow 0x15504 0x40 2 0 0 0 0 .glob,
  regRow 0x15108 0x40 18 0 0x3FFF3FFF 0 0 .glob,
  regRow 0x1510C 0x40 18 0xFFFF1000 0xFFFFFFFF 0 0 .glob,
  regRow 0x15110 0x40 18 0 0xFFFFFFFF 0 0 .glob,
  regRow 0x15114 0x40 18 0 0xFFFF 0 0 .glob,
  regRow 0x15118 0x40 18 0xC000 0xFFFF 0 0 .glob,
  regRow 0x1511C 0x40 18 0 0 0 0 .glob,
  regRow 0x15120 0x40 16 0 0xFFFFFF00 0 0 .glob,
  regRow 0x15520 0x40 2 0 0 0 0 .glob,
  regRow 0x15124 0x40 16 0 0xFFFFFFFF 0 0 .glob,
  regRow 0x15524 0x40 2 0 0 0 0 .glob,
  regRow 0x15128 0x40 16 0 0xFFFFFF00 0 0 .glob,
  regRow 0x15528 0x40 2 0 0 0 0 .glob,
  regRow 0x1512C 0x40 16 0 0xFFFFFFFF 0 0 .glob,
  regRow 0x1552C 0x40 2 0 0 0 0 .glob,
  regRow 0x15130 0x40 16 0 0xFFFFFF00 0 0 .glob,
  regRow 0x15530 0x40 2 0 0 0 0 .glob,
  regRow 0x15134 0x40 16 0 0xFFFFFFFF 0 0 .glob,
  regRow 0x15534 0x40 2 0 0 0 0 .glob,
  regRow 0x15138 0x40 16 0 0xFFFFFFFF 0 0 .glob,
  regRow 0x15538 0x40 2 0 0xC0000000 0 0 .glob]

/-- Register rows of the PIPE block. -/
def pipeRows : List RegRow := [
  regRow 0x16000 0 1 0x17E 0x37E 0 0 .glob,
  regRow 0x16004 0 1 0 0x1FF0000 0 0 .glob,
  regRow 0x16008 0 1 0xE4 0xFF 0 0 .glob,
  regRow 0x1600C 0 1 0x64 0xFF03FF 0 0 .glob,
  regRow 0x16010 0 1 0x190 0xFFFF 0 0 .glob,
  regRow 0x16014 0 1 0 0 0 0 .glob,
  regRow 0x16018 0 1 0 0 0 0 .glob,
  regRow 0x1601C 0 1 0 0 0 0 .glob,
  regRow 0x16020 0 1 0 0 0x1F 0 .glob,
  regRow 0x16024 0 1 0 0 0 0 .glob,
  regRow 0x16028 0 1 0 0 0 0 .glob,
  regRow 0x16030 0 1 0 0 0 0 .glob,
  regRow 0x16040 8 8 0 0xFFFF 0 0 .glob,
  regRow 0x16044 8 8 0 0 0 0 .glob]

/-- Register rows of the ENG block. -/
def engRows : List RegRow := [
  regRow 0x17000 0 1 0x708 0x50F 0 0 .glob,
  regRow 0x17004 0 1 0x3022 0xFFFF 0 0 .glob,
  regRow 0x17008 0 1 0x1000 0xFFFF 0 0 .glob,
  regRow 0x1700C 0 1 0x401004 0xFFFFFF 0 0 .glob,
  regRow 0x17010 0 1 0x2710 0xFFFFFFFF 0 0 .glob,
  regRow 0x17014 0 1 0 0 0 0 .glob,
  regRow 0x17018 0 1 0 0 0 0 .glob,
  regRow 0x1701C 0 1 0 0 0 0 .glob,
  regRow 0x17020 0 1 0 0 0xFF 0 .glob,
  regRow 0x17024 0 1 0 0 0 0 .glob,
  regRow 0x17028 0 1 0 0 0 0 .glob,
  regRow 0x17030 0 1 0 0 0 0 .glob,
  regRow 0x17034 0 1 0 0 0 0 .glob,
  regRow 0x17040 4 8 0 0 0 0 .glob,
  regRow 0x17100 0x10 32 0 0 0 0 .glob,
  regRow 0x17104 0x10 32 0 0 0 0 .glob,
  regRow 0x17108 0x10 32 0 0 0 0 .glob,
  regRow 0x1710C 0x10 32 0 0 0 0 .glob,
  regRow 0x17400 4 256 0 0 0 0 .glob]

/-- Register rows of the RSV block. -/
def rsvRows : List RegRow := [
  regRow 0x18000 0 1 0x80005F0 0 0 0x3FFF3FFF .glob,
  regRow 0x18004 0 1 0x2002000 0 0 0x3FFF3FFF .glob,
  regRow 0x18008 0 1 0x3C 0x1FFFF 0 0 .glob,
  regRow 0x1800C 0 1 0 0 0 0 .glob,
  regRow 0x18010 0 1 0 0 7 0 .glob,
  regRow 0x18014 0 1 0 0 0 0 .glob,
  regRow 0x18018 0 1 0 0 0 0 .glob,
  regRow 0x1801C 0 1 0 0 0 0 .glob,
  regRow 0x18020 0 1 0 0 0 0 .glob,
  regRow 0x18024 0 1 0 0 0 0 .glob]

/-- Register rows of the STP block. -/
def stpRows : List RegRow := [
  regRow 0x19000 0 1 0 0 0 0 .glob,
  regRow 0x19004 0 1 0 0 7 0 .glob,
  regRow 0x19008 0 1 0 0 0 0 .glob,
  regRow 0x1900C 0 1 0 0 0 0 .glob,
  regRow 0x19010 0 1 0 0 0 0 .glob,
  regRow 0x19014 0 1 0 0 0 0 .glob,
  regRow 0x19018 0 1 0 0 0 0 .glob]

/-- Register rows of the CDC block. -/
def cdcRows : List RegRow := [
  regRow 0x1A000 0 1 0x22222222 0x77777777 0 0 .glob,
  regRow 0x1A004 0 1 0 0 0 0 .glob,
  regRow 0x1A008 0 1 0 0 0xF 0 .glob,
  regRow 0x1A00C 0 1 0 0 0 0 .glob,
  regRow 0x1A040 0x10 8 0 0 0 0 .glob,
  regRow 0x1A044 0x10 8 0 0 0 0 .glob,
  regRow 0x1A048 0x10 8 0 0 0 0 .glob,
  regRow 0x1A04C 0x10 8 0 0 0 0 .glob]

/-- Register rows of the CHK block. -/
def chkRows : List RegRow := [
  regRow 0x1B000 0 1 0 0 0 0 .glob,
  regRow 0x1B004 0 1 0 0 0 0 .glob,
  regRow 0x1B008 0 1 0 0 7 0 .glob,
  regRow 0x1B00C 0 1 0 0 0 0 .glob,
  regRow 0x1B010 0 1 0 0 0 0 .glob,
  regRow 0x1B014 0 1 0 0 0 0 .glob,
  regRow 0x1B100 0x20 48 0 0 0 0 .glob,
  regRow 0x1B104 0x20 48 0 0 0 0 .glob,
  regRow 0x1B108 0x20 48 0 0 0 0 .glob,
  regRow 0x1B10C 0x20 48 0 0 0 0 .glob,
  regRow 0x1B110 0x20 48 0 0 0 0 .glob,
  regRow 0x1B114 0x20 48 0 0 0 0 .glob,
  regRow 0x1B118 0x20 48 0 0 0 0 .glob,
  regRow 0x1B11C 0x20 48 0 0 0 0 .glob,
  regRow 0x1B800 4 128 0 0 0 0 .glob]

/-- Register rows of the PERF block. -/
def perfRows : List RegRow := [
  regRow 0x1C000 0 1 0 0 0 0 .glob,
  regRow 0x1C004 0 1 0 0 3 0 .glob,
  regRow 0x1C008 0 1 0 0 0 0 .glob,
  regRow 0x1C100 4 64 0 0 0 0 .glob,
  regRow 0x1C200 4 10 0 0 0 0 .glob]

/-- Register rows of the SEC block. -/
def secRows : List RegRow := [
  regRow 0x1D000 0 1 0x100 0 0 0 .glob,
  regRow 0x1D004 0 1 0 0 0xF 0 .glob,
  regRow 0x1D008 0 1 0 0 0 0 .glob,
  regRow 0x1D010 0 1 0 0 0 0 .glob,
  regRow 0x1D014 0 1 0 0 0 0 .glob,
  regRow 0x1D100 4 32 0 0 0 0 .glob]

/-- Register rows of the FAULT block. -/
def faultRows : List RegRow := [
  regRow 0x1E000 0 1 0x6408 0xFF1F 0 0 .glob,
  regRow 0x1E004 0 1 0 0 0 0 .glob,
  regRow 0x1E008 0 1 0 0 0x1F 0 .glob,
  regRow 0x1E00C 0 1 0 0 0 0 .glob,
  regRow 0x1E014 0 1 0 0 0 0 .glob,
  regRow 0x1E010 0 1 0 0 0 0 .aon,
  regRow 0x1E100 4 32 0 0 0 0 .aon]

/-- Register rows of the BKL block. -/
def bklRows : List RegRow := [
  regRow 0x1F000 0 1 0x300000 0x7FF003F 0 0 .glob,
  regRow 0x1F004 0 1 0x10001000 0xFFFFFFFF 0 0 .glob,
  regRow 0x1F008 0 1 0 0xFFFF 0 0 .glob,
  regRow 0x1F00C 0 1 0 0 0 0 .glob,
  regRow 0x1F010 0 1 0 0 0x1F 0 .glob,
  regRow 0x1F014 0 1 0 0 0 0 .glob,
  regRow 0x1F018 0 1 0 0 0 0 .glob,
  regRow 0x1F01C 0 1 0 0 0 0 .glob,
  regRow 0x1F020 0 1 0 0 0 0 .glob,
  regRow 0x1F024 0 1 0 0 0 0 .glob,
  regRow 0x1F028 0 1 0 0 0 0 .glob,
  regRow 0x1F02C 0 1 0 0 0 0 .glob,
  regRow 0x1F030 0 1 0 0x3F 0 0 .glob,
  regRow 0x1F400 4 256 0 0 0 0 .glob,
  regRow 0x1F800 4 32 0 0 0 0 .glob]

/-- Register rows of one Headwater lane page, at offsets from the page (R208). -/
def hwLaneRows : List RegRow := [
  regRow 0 0 1 8 0xFFF000F 0 0 .glob,
  regRow 4 0 1 0 0 0 0 .glob,
  regRow 8 0 1 0 0 0x3F 0 .glob,
  regRow 0xC 0 1 0 0 0 0 .glob,
  regRow 0x10 0 1 0x2010 0xFFFF 0 0 .glob,
  regRow 0x14 0 1 0 0 0 0 .glob,
  regRow 0x18 0 1 0 0 0 0 .glob,
  regRow 0x1C 0 1 0 0 0 0 .glob,
  regRow 0x20 0 1 0 0 0 0 .glob,
  regRow 0x24 0 1 0 0 0 0 .glob,
  regRow 0x28 0 1 0 0 0 0 .glob,
  regRow 0x2C 0 1 0 0 0 0 .glob,
  regRow 0x30 0 1 0 0 0 0 .glob,
  regRow 0x34 0 1 0 0 0 0 .glob,
  regRow 0x38 0 1 0 0 0 0 .glob,
  regRow 0x40 0 1 0 0x1F 0 0 .glob,
  regRow 0x44 0 1 0 0xFFFFFFFF 0 0 .glob,
  regRow 0x48 0 1 0 0xFFFFFFFF 0 0 .glob,
  regRow 0x4C 0 1 0 0 0 0 .glob,
  regRow 0x50 0 1 0 0 0 0 .glob,
  regRow 0x54 0 1 0 0 0 0 .glob,
  regRow 0x58 0 1 0 0 0 0 .glob,
  regRow 0x5C 0 1 0 0 0 0 .glob]

/-- Register rows of one Sluice lane page, at offsets from the page (R208). -/
def slLaneRows : List RegRow := [
  regRow 0 0 1 0 0xFFF0003 0 0 .glob,
  regRow 4 0 1 0 0 0 0 .glob,
  regRow 8 0 1 0 0 0x3F 0 .glob,
  regRow 0xC 0 1 0 0 0 0 .glob,
  regRow 0x10 0 1 0x2010 0xFFFF 0 0 .glob,
  regRow 0x14 0 1 0x4EC 0x7FF 0 0 .glob,
  regRow 0x18 0 1 0 0 0 0 .glob,
  regRow 0x1C 0 1 0 0 0 0 .glob,
  regRow 0x20 0 1 0 0 0 0 .glob,
  regRow 0x24 0 1 0 0 0 0 .glob,
  regRow 0x28 0 1 0 0 0 0 .glob,
  regRow 0x2C 0 1 0 0 0 0 .glob,
  regRow 0x30 0 1 0 0 0 0 .glob,
  regRow 0x34 0 1 0 0 0 0 .glob,
  regRow 0x38 0 1 0 0 0 0 .glob,
  regRow 0x40 0 1 0 0x1F 0 0 .glob,
  regRow 0x44 0 1 0 0xFFFFFFFF 0 0 .glob,
  regRow 0x48 0 1 0 0xFFFFFFFF 0 0 .glob,
  regRow 0x4C 0 1 0 0 0 0 .glob,
  regRow 0x50 0 1 0 0 0 0 .glob,
  regRow 0x54 0 1 0 0 0 0 .glob,
  regRow 0x58 0 1 0 0 0 0 .glob,
  regRow 0x5C 0 1 0 0 0 0 .glob]

/-- Key of a register of port p's own page: page offset o. -/
def portKey (p o : Nat) : Nat := 0x100000 * (p + 1) + o

/-- Window A offset of a lane page: link 0 is Headwater, link 1 Sluice (R558). -/
def lanePage (link lane : Nat) : Nat := (if link = 0 then 0x20000 else 0x28000) + 0x400 * lane

/-- Does a row hold the register at offset o? -/
def RegRow.holds (r : RegRow) (o : Nat) : Bool :=
  decide (r.base ≤ o) && (if r.stride = 0 then decide (o = r.base)
    else decide ((o - r.base) % r.stride = 0 ∧ (o - r.base) / r.stride < r.count))

/-- The rows of the global block that holds offset o (R559). -/
def blockRows (o : Nat) : List RegRow :=
  match o / 0x1000 with
  | 0x1 => bootRows

  | 0x10 => topRows
  | 0x11 => pwrRows
  | 0x12 => rastRows
  | 0x13 => hwlRows
  | 0x14 => slkRows
  | 0x15 => compRows
  | 0x16 => pipeRows
  | 0x17 => engRows
  | 0x18 => rsvRows
  | 0x19 => stpRows
  | 0x1A => cdcRows
  | 0x1B => chkRows
  | 0x1C => perfRows
  | 0x1D => secRows
  | 0x1E => faultRows
  | 0x1F => bklRows
  | _ => []

/-- The row of the register with a key, if the map has one there. -/
def regAt (key : Nat) : Option RegRow :=
  if 0x100000 ≤ key then
    if key < 0x500000 then portRows.find? (fun r => r.holds (key % 0x100000)) else none
  else if key < 0x20000 then (blockRows key).find? (fun r => r.holds key)
  else if key < 0x28000 then hwLaneRows.find? (fun r => r.holds (key % 0x400))
  else if key < 0x48000 then slLaneRows.find? (fun r => r.holds (key % 0x400))
  else none

/-- What a register holds after the reset of its scope: the value of its row, and 0 where there is none. -/
def regReset (key : Nat) : Word :=
  match regAt key with
  | some r => BitVec.ofNat 32 r.reset
  | none => 0

/-- The reset scope of the register with a key; a key of no register counts as global. -/
def regScope (key : Nat) : Scope :=
  match regAt key with
  | some r => r.scope
  | none => .glob

/-! ### Register names -/

def Reg.PORT_ID (p : Nat) : Nat := portKey p 0
def Reg.PORT_PERM (p : Nat) : Nat := portKey p 4
def Reg.PORT_CTRL (p : Nat) : Nat := portKey p 8
def Reg.PORT_STAT (p : Nat) : Nat := portKey p 0xC
def Reg.PORT_DB_BASE_LO (p : Nat) : Nat := portKey p 0x10
def Reg.PORT_DB_BASE_HI (p : Nat) : Nat := portKey p 0x14
def Reg.PORT_POLL (p : Nat) : Nat := portKey p 0x18
def Reg.PORT_KICK (p : Nat) : Nat := portKey p 0x1C
def Reg.PORT_ERR (p : Nat) : Nat := portKey p 0x20
def Reg.PORT_ERR_CNT (p : Nat) : Nat := portKey p 0x24
def Reg.PORT_EVQ_LOST (p : Nat) : Nat := portKey p 0x28
def Reg.SQn_BASE_LO (p i : Nat) : Nat := portKey p (0x100 + 0x10 * i)
def Reg.SQn_BASE_HI (p i : Nat) : Nat := portKey p (0x104 + 0x10 * i)
def Reg.SQn_CFG (p i : Nat) : Nat := portKey p (0x108 + 0x10 * i)
def Reg.SQn_HEAD (p i : Nat) : Nat := portKey p (0x10C + 0x10 * i)
def Reg.CQn_BASE_LO (p i : Nat) : Nat := portKey p (0x200 + 0x10 * i)
def Reg.CQn_BASE_HI (p i : Nat) : Nat := portKey p (0x204 + 0x10 * i)
def Reg.CQn_CFG (p i : Nat) : Nat := portKey p (0x208 + 0x10 * i)
def Reg.CQn_COALESCE (p i : Nat) : Nat := portKey p (0x20C + 0x10 * i)
def Reg.EVQ_BASE_LO (p : Nat) : Nat := portKey p 0x300
def Reg.EVQ_BASE_HI (p : Nat) : Nat := portKey p 0x304
def Reg.EVQ_CFG (p : Nat) : Nat := portKey p 0x308
def Reg.EVQ_COALESCE (p : Nat) : Nat := portKey p 0x30C
def Reg.EVQ_FILTER (p : Nat) : Nat := portKey p 0x310
def Reg.MSIX_ADDR_LO (p i : Nat) : Nat := portKey p (0x2000 + 0x10 * i)
def Reg.MSIX_ADDR_HI (p i : Nat) : Nat := portKey p (0x2004 + 0x10 * i)
def Reg.MSIX_DATA (p i : Nat) : Nat := portKey p (0x2008 + 0x10 * i)
def Reg.MSIX_CTRL (p i : Nat) : Nat := portKey p (0x200C + 0x10 * i)
def Reg.MSIX_PBA (p i : Nat) : Nat := portKey p (0x3000 + 4 * i)
def Reg.BOOT_STATUS : Nat := 0x1000
def Reg.BOOT_CTRL : Nat := 0x1004
def Reg.BOOT_TIME : Nat := 0x1008
def Reg.BOOT_FW_VERSION : Nat := 0x1010
def Reg.BOOT_HOLD_LIMIT : Nat := 0x1014
def Reg.BOOT_XFER_CTRL : Nat := 0x1020
def Reg.BOOT_XFER_OFFSET : Nat := 0x1024
def Reg.AON_STATUS : Nat := 0x100C
def Reg.TOP_ID : Nat := 0x10000
def Reg.TOP_SERIAL_LO : Nat := 0x10004
def Reg.TOP_SERIAL_HI : Nat := 0x10008
def Reg.TOP_STRAPS : Nat := 0x1000C
def Reg.TOP_PORTS : Nat := 0x10010
def Reg.TOP_RESET : Nat := 0x10014
def Reg.TOP_HOST_PERMm (i : Nat) : Nat := 0x10040 + 4 * i
def Reg.TOP_ASSIGN_LAYER : Nat := 0x10060
def Reg.TOP_ASSIGN_CDC : Nat := 0x10064
def Reg.TOP_UNITS (i : Nat) : Nat := 0x10100 + 4 * i
def Reg.TOP_SENSi (i : Nat) : Nat := 0x10200 + 4 * i
def Reg.TOP_REGION_HOSTk (i : Nat) : Nat := 0x10400 + 4 * i
def Reg.PWR_STAT : Nat := 0x11000
def Reg.PWR_POLICY : Nat := 0x11004
def Reg.PWR_WAKE_CFG : Nat := 0x11008
def Reg.PWR_OP_CFG : Nat := 0x1100C
def Reg.PWR_RESULT : Nat := 0x11010
def Reg.PWR_RESULT_DATA : Nat := 0x11014
def Reg.PWR_FLAGS : Nat := 0x11018
def Reg.PWR_FLAG_CNT0 : Nat := 0x1101C
def Reg.PWR_FLAG_CNT1 : Nat := 0x11020
def Reg.PWR_REFUSE0 : Nat := 0x11024
def Reg.PWR_REFUSE1 : Nat := 0x11028
def Reg.PWR_ABORTS : Nat := 0x1102C
def Reg.PWR_WAKE_STAT : Nat := 0x11030
def Reg.PWR_RAILn (i : Nat) : Nat := 0x11040 + 4 * i
def Reg.PWR_OPk (i : Nat) : Nat := 0x11060 + 4 * i
def Reg.PWR_LIMITd (i : Nat) : Nat := 0x11080 + 4 * i
def Reg.RAST_CTRL : Nat := 0x12000
def Reg.RAST_GEOM : Nat := 0x12004
def Reg.RAST_LINE : Nat := 0x12008
def Reg.RAST_FRAME : Nat := 0x1200C
def Reg.RAST_VADJ : Nat := 0x12010
def Reg.RAST_LAG : Nat := 0x12014
def Reg.RAST_LOCK : Nat := 0x12018
def Reg.RAST_PHASE_OFFSET : Nat := 0x1201C
def Reg.RAST_STAT : Nat := 0x12020
def Reg.RAST_FLAGS : Nat := 0x12024
def Reg.RAST_FLAG_CNT0 : Nat := 0x12028
def Reg.RAST_FLAG_CNT1 : Nat := 0x1202C
def Reg.PHOTON_PHASE : Nat := 0x12030
def Reg.RAST_FREQ : Nat := 0x12034
def Reg.RAST_LAG_STAT : Nat := 0x12038
def Reg.RAST_SFN_LO : Nat := 0x12040
def Reg.RAST_SFN_HI : Nat := 0x12044
def Reg.RAST_CFN_LO : Nat := 0x12048
def Reg.RAST_CFN_HI : Nat := 0x1204C
def Reg.HFN_OFFSET_LO : Nat := 0x12050
def Reg.HFN_OFFSET_HI : Nat := 0x12054
def Reg.RAST_TIME_NS : Nat := 0x12058
def Reg.RAST_TIME_SEC_LO : Nat := 0x1205C
def Reg.RAST_TIME_SEC_HI : Nat := 0x12060
def Reg.RAST_FLASH : Nat := 0x12070
def Reg.RAST_FLASH_CTRL : Nat := 0x12074
def Reg.RAST_RESP : Nat := 0x12078
def Reg.PNL_SYNC_CFG : Nat := 0x12080
def Reg.PNL_SYNC_OFFSET : Nat := 0x12084
def Reg.PNL_PWR_SEQk (i : Nat) : Nat := 0x12090 + 4 * i
def Reg.RAST_HIST (i : Nat) : Nat := 0x12200 + 4 * i
def Reg.GTO_CTRL (i : Nat) : Nat := 0x12400 + 0x80 * i
def Reg.GTO_VRANGE (i : Nat) : Nat := 0x12404 + 0x80 * i
def Reg.GTO_SEL (i : Nat) : Nat := 0x12408 + 0x80 * i
def Reg.GTO_W0 (i : Nat) : Nat := 0x12410 + 0x80 * i
def Reg.GTO_W0_E0 (i : Nat) : Nat := 0x12414 + 0x80 * i
def Reg.GTO_W0_E1 (i : Nat) : Nat := 0x12418 + 0x80 * i
def Reg.GTO_W0_E2 (i : Nat) : Nat := 0x1241C + 0x80 * i
def Reg.GTO_W0_E3 (i : Nat) : Nat := 0x12420 + 0x80 * i
def Reg.GTO_W1 (i : Nat) : Nat := 0x12424 + 0x80 * i
def Reg.GTO_W1_E0 (i : Nat) : Nat := 0x12428 + 0x80 * i
def Reg.GTO_W1_E1 (i : Nat) : Nat := 0x1242C + 0x80 * i
def Reg.GTO_W1_E2 (i : Nat) : Nat := 0x12430 + 0x80 * i
def Reg.GTO_W1_E3 (i : Nat) : Nat := 0x12434 + 0x80 * i
def Reg.GTO_W2 (i : Nat) : Nat := 0x12438 + 0x80 * i
def Reg.GTO_W2_E0 (i : Nat) : Nat := 0x1243C + 0x80 * i
def Reg.GTO_W2_E1 (i : Nat) : Nat := 0x12440 + 0x80 * i
def Reg.GTO_W2_E2 (i : Nat) : Nat := 0x12444 + 0x80 * i
def Reg.GTO_W2_E3 (i : Nat) : Nat := 0x12448 + 0x80 * i
def Reg.GTO_W3 (i : Nat) : Nat := 0x1244C + 0x80 * i
def Reg.GTO_W3_E0 (i : Nat) : Nat := 0x12450 + 0x80 * i
def Reg.GTO_W3_E1 (i : Nat) : Nat := 0x12454 + 0x80 * i
def Reg.GTO_W3_E2 (i : Nat) : Nat := 0x12458 + 0x80 * i
def Reg.GTO_W3_E3 (i : Nat) : Nat := 0x1245C + 0x80 * i
def Reg.HWL_STRIPE : Nat := 0x13000
def Reg.HWL_ROT : Nat := 0x13004
def Reg.HWL_PLANE0 : Nat := 0x13008
def Reg.HWL_PLANE1 : Nat := 0x1300C
def Reg.HWL_TIMING : Nat := 0x13010
def Reg.HWL_STAT : Nat := 0x13014
def Reg.HWL_FLAGS : Nat := 0x13018
def Reg.HWL_FLAG_CNT0 : Nat := 0x1301C
def Reg.HWL_FLAG_CNT1 : Nat := 0x13020
def Reg.HWL_PATCH_LINES : Nat := 0x13024
def Reg.HWL_LINES_RX : Nat := 0x13028
def Reg.HWL_HOLD_TIMEOUT : Nat := 0x1302C
def Reg.HWL_FREEZE_TIMEOUT : Nat := 0x13030
def Reg.HWL_HOLD_ITEM : Nat := 0x13034
def Reg.SLK_CTRL : Nat := 0x14000
def Reg.SLK_DRV_F : Nat := 0x14004
def Reg.SLK_DRV_R : Nat := 0x14008
def Reg.SLK_STAT : Nat := 0x1400C
def Reg.SLK_TX_TIME : Nat := 0x14010
def Reg.SLK_FLAGS : Nat := 0x14014
def Reg.SLK_FLAG_CNT0 : Nat := 0x14018
def Reg.SLK_FLAG_CNT1 : Nat := 0x1401C
def Reg.SLK_LINES_HELD : Nat := 0x14020
def Reg.SLK_DCFG_ADDR : Nat := 0x14024
def Reg.SLK_DCFG_DATA : Nat := 0x14028
def Reg.SLK_DCFG_GO : Nat := 0x1403C
def Reg.SLK_DCFG_RESULT : Nat := 0x14040
def Reg.SLK_DCFG_RDATA : Nat := 0x14044
def Reg.SLK_DCFG_MASKi (i : Nat) : Nat := 0x1402C + 4 * i
def Reg.SLK_DRVn_STAT (i : Nat) : Nat := 0x14100 + 4 * i
def Reg.COMP_BG_RG : Nat := 0x15000
def Reg.COMP_BG_B : Nat := 0x15004
def Reg.COMP_PQ_REF : Nat := 0x15008
def Reg.COMP_STAT : Nat := 0x1500C
def Reg.COMP_FLAGS : Nat := 0x15010
def Reg.COMP_FLAG_CNT : Nat := 0x15014
def Reg.COMP_Ln_CFG (i : Nat) : Nat := 0x15100 + 0x40 * i
def Reg.COMP_Ln_SIZE (i : Nat) : Nat := 0x15104 + 0x40 * i
def Reg.COMP_Ln_POS (i : Nat) : Nat := 0x15108 + 0x40 * i
def Reg.COMP_Ln_GAIN (i : Nat) : Nat := 0x1510C + 0x40 * i
def Reg.COMP_Ln_FB_RG (i : Nat) : Nat := 0x15110 + 0x40 * i
def Reg.COMP_Ln_FB_B (i : Nat) : Nat := 0x15114 + 0x40 * i
def Reg.COMP_Ln_CLIP (i : Nat) : Nat := 0x15118 + 0x40 * i
def Reg.COMP_Ln_STAT (i : Nat) : Nat := 0x1511C + 0x40 * i
def Reg.COMP_Ln_ADDR0_LO (i : Nat) : Nat := 0x15120 + 0x40 * i
def Reg.COMP_Ln_ADDR0_HI (i : Nat) : Nat := 0x15124 + 0x40 * i
def Reg.COMP_Ln_ADDR1_LO (i : Nat) : Nat := 0x15128 + 0x40 * i
def Reg.COMP_Ln_ADDR1_HI (i : Nat) : Nat := 0x1512C + 0x40 * i
def Reg.COMP_Ln_ADDR2_LO (i : Nat) : Nat := 0x15130 + 0x40 * i
def Reg.COMP_Ln_ADDR2_HI (i : Nat) : Nat := 0x15134 + 0x40 * i
def Reg.COMP_Ln_PITCH (i : Nat) : Nat := 0x15138 + 0x40 * i
def Reg.PIPE_CTRL : Nat := 0x16000
def Reg.PIPE_FMT : Nat := 0x16004
def Reg.PIPE_DITHER_OFS : Nat := 0x16008
def Reg.PIPE_TEMP_CFG : Nat := 0x1600C
def Reg.PIPE_TEMP_DEFAULT : Nat := 0x16010
def Reg.PIPE_TEMP_STAT : Nat := 0x16014
def Reg.PIPE_OD_STAT_F : Nat := 0x16018
def Reg.PIPE_OD_STAT_R : Nat := 0x1601C
def Reg.PIPE_FLAGS : Nat := 0x16020
def Reg.PIPE_FLAG_CNT0 : Nat := 0x16024
def Reg.PIPE_FLAG_CNT1 : Nat := 0x16028
def Reg.PIPE_DEFECTS : Nat := 0x16030
def Reg.PIPE_TSENSn_CFG (i : Nat) : Nat := 0x16040 + 8 * i
def Reg.PIPE_TSENSn_VAL (i : Nat) : Nat := 0x16044 + 8 * i
def Reg.ENG_CTRL : Nat := 0x17000
def Reg.ENG_DEADLINE : Nat := 0x17004
def Reg.ENG_MOVER : Nat := 0x17008
def Reg.ENG_GOV : Nat := 0x1700C
def Reg.PATROL_PERIOD : Nat := 0x17010
def Reg.ENG_STAT : Nat := 0x17014
def Reg.ENG_WINDOW : Nat := 0x17018
def Reg.ENG_SLACK : Nat := 0x1701C
def Reg.ENG_FLAGS : Nat := 0x17020
def Reg.ENG_FLAG_CNT0 : Nat := 0x17024
def Reg.ENG_FLAG_CNT1 : Nat := 0x17028
def Reg.ENG_FALLBACK_TILES : Nat := 0x17030
def Reg.ENG_SPEC_DISCARD : Nat := 0x17034
def Reg.ENG_FENCEi (i : Nat) : Nat := 0x17040 + 4 * i
def Reg.ENG_Cc_PATROL (i : Nat) : Nat := 0x17100 + 0x10 * i
def Reg.ENG_Cc_ECC (i : Nat) : Nat := 0x17104 + 0x10 * i
def Reg.ENG_Cc_MOVER (i : Nat) : Nat := 0x17108 + 0x10 * i
def Reg.ENG_Cc_STAT (i : Nat) : Nat := 0x1710C + 0x10 * i
def Reg.ENG_Ee_STAT (i : Nat) : Nat := 0x17400 + 4 * i
def Reg.RSV_ALLOC0 : Nat := 0x18000
def Reg.RSV_ALLOC1 : Nat := 0x18004
def Reg.RSV_SCRUB : Nat := 0x18008
def Reg.RSV_STAT : Nat := 0x1800C
def Reg.RSV_FLAGS : Nat := 0x18010
def Reg.RSV_FLAG_CNT : Nat := 0x18014
def Reg.RSV_CORRECTED : Nat := 0x18018
def Reg.RSV_UNCORRECTED : Nat := 0x1801C
def Reg.RSV_SCRUB_PASS : Nat := 0x18020
def Reg.RSV_HOLD_USED : Nat := 0x18024
def Reg.STP_STAT : Nat := 0x19000
def Reg.STP_FLAGS : Nat := 0x19004
def Reg.STP_FLAG_CNT : Nat := 0x19008
def Reg.STP_CAP_LBAS : Nat := 0x1900C
def Reg.STP_FREE_LBAS : Nat := 0x19010
def Reg.STP_LOG_NEXT : Nat := 0x19014
def Reg.STP_TEMP : Nat := 0x19018
def Reg.CDC_STRIDE : Nat := 0x1A000
def Reg.CDC_STAT : Nat := 0x1A004
def Reg.CDC_FLAGS : Nat := 0x1A008
def Reg.CDC_FLAG_CNT : Nat := 0x1A00C
def Reg.CDC_LANEn_JOB (i : Nat) : Nat := 0x1A040 + 0x10 * i
def Reg.CDC_LANEn_IN (i : Nat) : Nat := 0x1A044 + 0x10 * i
def Reg.CDC_LANEn_OUT (i : Nat) : Nat := 0x1A048 + 0x10 * i
def Reg.CDC_LANEn_BLK (i : Nat) : Nat := 0x1A04C + 0x10 * i
def Reg.CHK_ACTIVE_LO : Nat := 0x1B000
def Reg.CHK_ACTIVE_HI : Nat := 0x1B004
def Reg.CHK_FLAGS : Nat := 0x1B008
def Reg.CHK_FLAG_CNT : Nat := 0x1B00C
def Reg.CHK_MISMATCHES : Nat := 0x1B010
def Reg.CHK_LOG_NEXT : Nat := 0x1B014
def Reg.CHK_Rr_POS (i : Nat) : Nat := 0x1B100 + 0x20 * i
def Reg.CHK_Rr_SIZE (i : Nat) : Nat := 0x1B104 + 0x20 * i
def Reg.CHK_Rr_CFG (i : Nat) : Nat := 0x1B108 + 0x20 * i
def Reg.CHK_Rr_STICKY (i : Nat) : Nat := 0x1B10C + 0x20 * i
def Reg.CHK_Rr_LAST (i : Nat) : Nat := 0x1B110 + 0x20 * i
def Reg.CHK_Rr_FRAME_LO (i : Nat) : Nat := 0x1B114 + 0x20 * i
def Reg.CHK_Rr_FRAME_HI (i : Nat) : Nat := 0x1B118 + 0x20 * i
def Reg.CHK_Rr_STAT (i : Nat) : Nat := 0x1B11C + 0x20 * i
def Reg.CHK_LOG (i : Nat) : Nat := 0x1B800 + 4 * i
def Reg.PERF_STAT : Nat := 0x1C000
def Reg.PERF_FLAGS : Nat := 0x1C004
def Reg.PERF_FLAG_CNT : Nat := 0x1C008
def Reg.PERF_CTRn_CFG (i : Nat) : Nat := 0x1C100 + 4 * i
def Reg.PERF_BWm_CFG (i : Nat) : Nat := 0x1C200 + 4 * i
def Reg.SEC_STAT : Nat := 0x1D000
def Reg.SEC_FLAGS : Nat := 0x1D004
def Reg.SEC_FLAG_CNT : Nat := 0x1D008
def Reg.SEC_SEQ_A : Nat := 0x1D010
def Reg.SEC_SEQ_B : Nat := 0x1D014
def Reg.SEC_HASHk_j (i : Nat) : Nat := 0x1D100 + 4 * i
def Reg.FAULT_CTRL : Nat := 0x1E000
def Reg.FAULT_STAT : Nat := 0x1E004
def Reg.FAULT_FLAGS : Nat := 0x1E008
def Reg.FAULT_FLAG_CNT : Nat := 0x1E00C
def Reg.FAULT_FLAG_CNT1 : Nat := 0x1E014
def Reg.FAULT_FATAL_NEXT : Nat := 0x1E010
def Reg.FAULT_FATALi (i : Nat) : Nat := 0x1E100 + 4 * i
def Reg.BKL_CTRL : Nat := 0x1F000
def Reg.BKL_FILTER : Nat := 0x1F004
def Reg.BKL_FLOOR : Nat := 0x1F008
def Reg.BKL_STAT : Nat := 0x1F00C
def Reg.BKL_FLAGS : Nat := 0x1F010
def Reg.BKL_FLAG_CNT : Nat := 0x1F014
def Reg.BKL_DRV_STAT : Nat := 0x1F018
def Reg.BKL_FLAG_CNT1 : Nat := 0x1F01C
def Reg.BKL_STATS_SFN_LO : Nat := 0x1F020
def Reg.BKL_STATS_SFN_HI : Nat := 0x1F024
def Reg.BKL_CLIP_REAR : Nat := 0x1F028
def Reg.BKL_CLIP_FRONT : Nat := 0x1F02C
def Reg.BKL_ZONE_SEL : Nat := 0x1F030
def Reg.BKL_HIST (i : Nat) : Nat := 0x1F400 + 4 * i
def Reg.BKL_ZONE_DATA (i : Nat) : Nat := 0x1F800 + 4 * i
def Reg.LANE_CFG (link lane : Nat) : Nat := lanePage link lane + 0
def Reg.LANE_STAT (link lane : Nat) : Nat := lanePage link lane + 4
def Reg.LANE_FLAGS (link lane : Nat) : Nat := lanePage link lane + 8
def Reg.LANE_FLAG_CNT0 (link lane : Nat) : Nat := lanePage link lane + 0xC
def Reg.LANE_ADAPT (link lane : Nat) : Nat := lanePage link lane + 0x10
def Reg.LANE_EQ (link lane : Nat) : Nat := lanePage link lane + 0x14
def Reg.LANE_ALIGN (link lane : Nat) : Nat := lanePage link lane + 0x18
def Reg.LANE_SLIP (link lane : Nat) : Nat := lanePage link lane + 0x1C
def Reg.LANE_EYE_RESULT (link lane : Nat) : Nat := lanePage link lane + 0x20
def Reg.LANE_EYE_DATA0 (link lane : Nat) : Nat := lanePage link lane + 0x24
def Reg.LANE_EYE_DATA1 (link lane : Nat) : Nat := lanePage link lane + 0x28
def Reg.LANE_EYE_START (link lane : Nat) : Nat := lanePage link lane + 0x2C
def Reg.LANE_RETRAIN_CNT (link lane : Nat) : Nat := lanePage link lane + 0x30
def Reg.LANE_HDR_ERR (link lane : Nat) : Nat := lanePage link lane + 0x34
def Reg.LANE_FLAG_CNT1 (link lane : Nat) : Nat := lanePage link lane + 0x38
def Reg.PRBS_CTRL (link lane : Nat) : Nat := lanePage link lane + 0x40
def Reg.PRBS_USER_LO (link lane : Nat) : Nat := lanePage link lane + 0x44
def Reg.PRBS_USER_HI (link lane : Nat) : Nat := lanePage link lane + 0x48
def Reg.PRBS_INJECT (link lane : Nat) : Nat := lanePage link lane + 0x4C
def Reg.PRBS_STAT (link lane : Nat) : Nat := lanePage link lane + 0x50
def Reg.PRBS_BITS_LO (link lane : Nat) : Nat := lanePage link lane + 0x54
def Reg.PRBS_BITS_HI (link lane : Nat) : Nat := lanePage link lane + 0x58
def Reg.PRBS_ERRS (link lane : Nat) : Nat := lanePage link lane + 0x5C

/-! ### Field places: (lowest bit, width) -/

def Fld.BOOT_STATUS_ready : Nat × Nat := (0, 1)
def Fld.BOOT_STATUS_degraded : Nat × Nat := (1, 1)
def Fld.BOOT_STATUS_panel_blocked : Nat × Nat := (2, 1)
def Fld.BOOT_STATUS_test_mark : Nat × Nat := (3, 1)
def Fld.BOOT_STATUS_stage : Nat × Nat := (4, 4)
def Fld.BOOT_STATUS_fw_source : Nat × Nat := (8, 2)
def Fld.BOOT_STATUS_recovery_active : Nat × Nat := (10, 1)
def Fld.BOOT_STATUS_fail_code : Nat × Nat := (16, 8)
def Fld.BOOT_CTRL_hold : Nat × Nat := (0, 1)
def Fld.BOOT_CTRL_release : Nat × Nat := (1, 1)
def Fld.BOOT_CTRL_recovery_go : Nat × Nat := (2, 1)
def Fld.BOOT_TIME_ready_ms : Nat × Nat := (0, 32)
def Fld.AON_STATUS_failed_rail : Nat × Nat := (0, 4)
def Fld.AON_STATUS_rail_retry : Nat × Nat := (4, 1)
def Fld.AON_STATUS_thermal_trip : Nat × Nat := (5, 1)
def Fld.AON_STATUS_watchdog : Nat × Nat := (6, 1)
def Fld.AON_STATUS_owner_reset : Nat × Nat := (7, 1)
def Fld.AON_STATUS_fatal : Nat × Nat := (8, 1)
def Fld.BOOT_FW_VERSION_security_version : Nat × Nat := (0, 16)
def Fld.BOOT_FW_VERSION_build : Nat × Nat := (16, 16)
def Fld.BOOT_HOLD_LIMIT_limit_ms : Nat × Nat := (0, 32)
def Fld.BOOT_XFER_CTRL_open : Nat × Nat := (0, 1)
def Fld.BOOT_XFER_CTRL_busy : Nat × Nat := (1, 1)
def Fld.BOOT_XFER_CTRL_result_valid : Nat × Nat := (2, 1)
def Fld.BOOT_XFER_CTRL_result_ok : Nat × Nat := (3, 1)
def Fld.BOOT_XFER_OFFSET_offset : Nat × Nat := (0, 24)
def Fld.PORT_ID_port : Nat × Nat := (0, 2)
def Fld.PORT_ID_owner : Nat × Nat := (2, 1)
def Fld.PORT_ID_merged : Nat × Nat := (3, 1)
def Fld.PORT_PERM_mask : Nat × Nat := (0, 16)
def Fld.PORT_CTRL_frame_fetch : Nat × Nat := (0, 1)
def Fld.PORT_STAT_ready : Nat × Nat := (0, 1)
def Fld.PORT_STAT_fetch_busy : Nat × Nat := (1, 1)
def Fld.PORT_STAT_fetch_pending : Nat × Nat := (2, 1)
def Fld.PORT_DB_BASE_LO_addr_lo : Nat × Nat := (8, 24)
def Fld.PORT_DB_BASE_HI_addr_hi : Nat × Nat := (0, 32)
def Fld.PORT_POLL_period_us : Nat × Nat := (0, 14)
def Fld.PORT_KICK_kick : Nat × Nat := (0, 32)
def Fld.PORT_EVQ_LOST_lost : Nat × Nat := (0, 32)
def Fld.SQn_BASE_LO_addr_lo : Nat × Nat := (12, 20)
def Fld.SQn_BASE_HI_addr_hi : Nat × Nat := (0, 32)
def Fld.SQn_CFG_enable : Nat × Nat := (0, 1)
def Fld.SQn_CFG_cq : Nat × Nat := (1, 3)
def Fld.SQn_CFG_log2_size : Nat × Nat := (8, 5)
def Fld.SQn_HEAD_head : Nat × Nat := (0, 16)
def Fld.SQn_HEAD_generation : Nat × Nat := (16, 16)
def Fld.CQn_CFG_enable : Nat × Nat := (0, 1)
def Fld.CQn_CFG_log2_size : Nat × Nat := (8, 5)
def Fld.CQn_CFG_vector : Nat × Nat := (16, 6)
def Fld.CQn_CFG_irq_en : Nat × Nat := (22, 1)
def Fld.CQn_COALESCE_count : Nat × Nat := (0, 9)
def Fld.CQn_COALESCE_time_us : Nat × Nat := (16, 10)
def Fld.EVQ_FILTER_min_severity : Nat × Nat := (0, 2)
def Fld.LANE_CFG_enable : Nat × Nat := (0, 1)
def Fld.LANE_CFG_polarity : Nat × Nat := (1, 1)
def Fld.LANE_CFG_align_manual : Nat × Nat := (2, 1)
def Fld.LANE_CFG_adapt_en : Nat × Nat := (3, 1)
def Fld.LANE_CFG_rate_code : Nat × Nat := (16, 12)
def Fld.LANE_STAT_state : Nat × Nat := (0, 4)
def Fld.LANE_STAT_cdr_lock : Nat × Nat := (4, 1)
def Fld.LANE_STAT_block_lock : Nat × Nat := (5, 1)
def Fld.LANE_STAT_frozen : Nat × Nat := (6, 1)
def Fld.LANE_STAT_recentring : Nat × Nat := (7, 1)
def Fld.LANE_STAT_fom : Nat × Nat := (8, 8)
def Fld.LANE_STAT_fom_ref : Nat × Nat := (16, 8)
def Fld.LANE_ADAPT_fom_drop : Nat × Nat := (0, 8)
def Fld.LANE_ADAPT_fom_min : Nat × Nat := (8, 8)
def Fld.LANE_EQ_H_ctle : Nat × Nat := (0, 4)
def Fld.LANE_EQ_H_dfe1 : Nat × Nat := (4, 6)
def Fld.LANE_EQ_H_dfe2 : Nat × Nat := (10, 6)
def Fld.LANE_EQ_H_dfe3 : Nat × Nat := (16, 6)
def Fld.LANE_EQ_H_dfe4 : Nat × Nat := (22, 6)
def Fld.LANE_EQ_S_swing : Nat × Nat := (0, 5)
def Fld.LANE_EQ_S_deemph : Nat × Nat := (5, 5)
def Fld.LANE_EQ_S_deemph_adapt : Nat × Nat := (10, 1)
def Fld.LANE_ALIGN_position : Nat × Nat := (0, 7)
def Fld.LANE_SLIP_count : Nat × Nat := (0, 7)
def Fld.LANE_EYE_RESULT_result_seq : Nat × Nat := (0, 8)
def Fld.LANE_EYE_RESULT_valid : Nat × Nat := (8, 1)
def Fld.LANE_EYE_RESULT_busy : Nat × Nat := (9, 1)
def Fld.LANE_EYE_RESULT_status : Nat × Nat := (10, 2)
def Fld.LANE_EYE_DATA0_left : Nat × Nat := (0, 8)
def Fld.LANE_EYE_DATA0_right : Nat × Nat := (8, 8)
def Fld.LANE_EYE_DATA0_top : Nat × Nat := (16, 8)
def Fld.LANE_EYE_DATA0_bottom : Nat × Nat := (24, 8)
def Fld.LANE_EYE_DATA1_centre_errors : Nat × Nat := (0, 16)
def Fld.LANE_EYE_DATA1_fom_start : Nat × Nat := (16, 8)
def Fld.LANE_EYE_START_start : Nat × Nat := (0, 1)
def Fld.LANE_RETRAIN_CNT_fast : Nat × Nat := (0, 16)
def Fld.LANE_RETRAIN_CNT_full : Nat × Nat := (16, 16)
def Fld.LANE_HDR_ERR_invalid_headers : Nat × Nat := (0, 32)
def Fld.PRBS_CTRL_pattern : Nat × Nat := (0, 3)
def Fld.PRBS_CTRL_role : Nat × Nat := (3, 2)
def Fld.PRBS_USER_LO_user : Nat × Nat := (0, 32)
def Fld.PRBS_INJECT_kind : Nat × Nat := (0, 2)
def Fld.PRBS_INJECT_burst_len : Nat × Nat := (8, 7)
def Fld.PRBS_STAT_locked : Nat × Nat := (0, 1)
def Fld.PRBS_ERRS_errors : Nat × Nat := (0, 32)
def Fld.HWL_STRIPE_mask : Nat × Nat := (0, 32)
def Fld.HWL_ROT_rot0 : Nat × Nat := (0, 5)
def Fld.HWL_ROT_rot1 : Nat × Nat := (8, 5)
def Fld.HWL_PLANE0_width : Nat × Nat := (0, 14)
def Fld.HWL_PLANE0_height : Nat × Nat := (14, 14)
def Fld.HWL_PLANE0_format : Nat × Nat := (28, 4)
def Fld.HWL_TIMING_lead : Nat × Nat := (0, 8)
def Fld.HWL_STAT_all_active : Nat × Nat := (0, 1)
def Fld.HWL_STAT_frame_open : Nat × Nat := (1, 1)
def Fld.HWL_STAT_silent : Nat × Nat := (2, 1)
def Fld.HWL_STAT_sleeping : Nat × Nat := (3, 1)
def Fld.HWL_STAT_frozen : Nat × Nat := (4, 1)
def Fld.HWL_STAT_holding : Nat × Nat := (5, 1)
def Fld.HWL_STAT_frame_lo : Nat × Nat := (8, 8)
def Fld.HWL_STAT_missing : Nat × Nat := (16, 8)
def Fld.HWL_PATCH_LINES_lines : Nat × Nat := (0, 32)
def Fld.HWL_LINES_RX_lines : Nat × Nat := (0, 32)
def Fld.HWL_HOLD_TIMEOUT_frames : Nat × Nat := (0, 10)
def Fld.HWL_FREEZE_TIMEOUT_ms : Nat × Nat := (0, 32)
def Fld.HWL_HOLD_ITEM_item : Nat × Nat := (0, 32)
def Fld.RAST_CTRL_enable : Nat × Nat := (0, 1)
def Fld.RAST_CTRL_timeline : Nat × Nat := (1, 1)
def Fld.RAST_CTRL_auto_return : Nat × Nat := (2, 1)
def Fld.RAST_GEOM_vtotal : Nat × Nat := (0, 14)
def Fld.RAST_GEOM_v_latch : Nat × Nat := (16, 14)
def Fld.RAST_LINE_htotal : Nat × Nat := (0, 16)
def Fld.RAST_LINE_hfrac : Nat × Nat := (16, 16)
def Fld.RAST_FRAME_ticks : Nat × Nat := (0, 32)
def Fld.RAST_VADJ_residual : Nat × Nat := (0, 16)
def Fld.RAST_VADJ_frame_frac : Nat × Nat := (16, 16)
def Fld.RAST_LAG_lag : Nat × Nat := (0, 11)
def Fld.RAST_LAG_rear_lead : Nat × Nat := (16, 7)
def Fld.RAST_LOCK_mode : Nat × Nat := (0, 2)
def Fld.RAST_LOCK_crash_lock : Nat × Nat := (2, 1)
def Fld.RAST_LOCK_phase_ref : Nat × Nat := (3, 1)
def Fld.RAST_LOCK_ref_mult : Nat × Nat := (4, 4)
def Fld.RAST_LOCK_bandwidth : Nat × Nat := (16, 10)
def Fld.RAST_PHASE_OFFSET_offset : Nat × Nat := (0, 32)
def Fld.RAST_STAT_lock_state : Nat × Nat := (0, 2)
def Fld.RAST_STAT_photon_in : Nat × Nat := (2, 1)
def Fld.RAST_STAT_timeline : Nat × Nat := (3, 1)
def Fld.RAST_STAT_frame_present : Nat × Nat := (4, 1)
def Fld.RAST_STAT_ref10m_present : Nat × Nat := (5, 1)
def Fld.RAST_STAT_pps_present : Nat × Nat := (6, 1)
def Fld.RAST_STAT_tod_valid : Nat × Nat := (7, 1)
def Fld.RAST_STAT_hfn_valid : Nat × Nat := (8, 1)
def Fld.RAST_STAT_on_10m : Nat × Nat := (9, 1)
def Fld.PHOTON_PHASE_phase : Nat × Nat := (0, 32)
def Fld.RAST_FREQ_c : Nat × Nat := (0, 32)
def Fld.RAST_LAG_STAT_d : Nat × Nat := (0, 12)
def Fld.RAST_SFN_x_value : Nat × Nat := (0, 32)
def Fld.RAST_TIME_NS_ns : Nat × Nat := (0, 32)
def Fld.RAST_FLASH_flash_delay : Nat × Nat := (0, 16)
def Fld.RAST_FLASH_flash_width : Nat × Nat := (16, 16)
def Fld.RAST_FLASH_CTRL_mode : Nat × Nat := (0, 1)
def Fld.RAST_RESP_resp_front : Nat × Nat := (0, 16)
def Fld.RAST_RESP_resp_rear : Nat × Nat := (16, 16)
def Fld.PNL_SYNC_CFG_mode : Nat × Nat := (0, 2)
def Fld.PNL_SYNC_CFG_width : Nat × Nat := (4, 12)
def Fld.PNL_SYNC_CFG_line : Nat × Nat := (16, 14)
def Fld.PNL_SYNC_OFFSET_offset : Nat × Nat := (0, 32)
def Fld.PNL_PWR_SEQk_en : Nat × Nat := (0, 1)
def Fld.PNL_PWR_SEQk_on_delay : Nat × Nat := (8, 8)
def Fld.PNL_PWR_SEQk_off_delay : Nat × Nat := (16, 8)
def Fld.COMP_BG_RG_r : Nat × Nat := (0, 16)
def Fld.COMP_BG_RG_g : Nat × Nat := (16, 16)
def Fld.COMP_BG_B_b : Nat × Nat := (0, 16)
def Fld.COMP_PQ_REF_nits : Nat × Nat := (0, 16)
def Fld.COMP_STAT_taking_part : Nat × Nat := (0, 18)
def Fld.COMP_STAT_cube_active : Nat × Nat := (18, 1)
def Fld.COMP_Ln_CFG_enable : Nat × Nat := (0, 1)
def Fld.COMP_Ln_CFG_kind : Nat × Nat := (1, 2)
def Fld.COMP_Ln_CFG_alpha : Nat × Nat := (3, 1)
def Fld.COMP_Ln_CFG_siting : Nat × Nat := (4, 2)
def Fld.COMP_Ln_CFG_format : Nat × Nat := (8, 8)
def Fld.COMP_Ln_CFG_z : Nat × Nat := (16, 5)
def Fld.COMP_Ln_CFG_matrix : Nat × Nat := (24, 3)
def Fld.COMP_Ln_CFG_eotf : Nat × Nat := (27, 3)
def Fld.COMP_Ln_SIZE_width : Nat × Nat := (0, 14)
def Fld.COMP_Ln_SIZE_height : Nat × Nat := (16, 14)
def Fld.COMP_Ln_POS_x : Nat × Nat := (0, 14)
def Fld.COMP_Ln_POS_y : Nat × Nat := (16, 14)
def Fld.COMP_Ln_GAIN_gain : Nat × Nat := (0, 16)
def Fld.COMP_Ln_GAIN_global_alpha : Nat × Nat := (16, 16)
def Fld.COMP_Ln_FB_RG_r : Nat × Nat := (0, 16)
def Fld.COMP_Ln_FB_RG_g : Nat × Nat := (16, 16)
def Fld.COMP_Ln_FB_B_b : Nat × Nat := (0, 16)
def Fld.COMP_Ln_CLIP_knee : Nat × Nat := (0, 16)
def Fld.COMP_Ln_STAT_state : Nat × Nat := (0, 2)
def Fld.COMP_Ln_STAT_underrun_lines : Nat × Nat := (16, 16)
def Fld.COMP_Ln_ADDRp_LO_addr : Nat × Nat := (0, 32)
def Fld.COMP_Ln_PITCH_pitch0 : Nat × Nat := (0, 10)
def Fld.COMP_Ln_PITCH_pitch1 : Nat × Nat := (10, 10)
def Fld.COMP_Ln_PITCH_pitch2 : Nat × Nat := (20, 10)
def Fld.COMP_Ln_PITCH_planes : Nat × Nat := (30, 2)
def Fld.BKL_CTRL_ctrl_en : Nat × Nat := (0, 4)
def Fld.BKL_CTRL_spi_mode : Nat × Nat := (4, 1)
def Fld.BKL_CTRL_dimming : Nat × Nat := (5, 1)
def Fld.BKL_CTRL_clk_div : Nat × Nat := (16, 11)
def Fld.BKL_FILTER_headroom : Nat × Nat := (0, 16)
def Fld.BKL_FILTER_decay : Nat × Nat := (16, 16)
def Fld.BKL_FLOOR_floor : Nat × Nat := (0, 16)
def Fld.BKL_STAT_active : Nat × Nat := (0, 4)
def Fld.BKL_STAT_map_active : Nat × Nat := (4, 1)
def Fld.BKL_STAT_dimming_on : Nat × Nat := (5, 1)
def Fld.BKL_STATS_SFN_LO_sfn : Nat × Nat := (0, 32)
def Fld.BKL_CLIP_REAR_count : Nat × Nat := (0, 32)
def Fld.BKL_ZONE_SEL_row : Nat × Nat := (0, 6)
def Fld.BKL_HIST_count : Nat × Nat := (0, 32)
def Fld.BKL_ZONE_DATA_b_even : Nat × Nat := (0, 16)
def Fld.BKL_ZONE_DATA_b_odd : Nat × Nat := (16, 16)
def Fld.PIPE_CTRL_demura_front : Nat × Nat := (1, 1)
def Fld.PIPE_CTRL_demura_rear : Nat × Nat := (2, 1)
def Fld.PIPE_CTRL_conceal_front : Nat × Nat := (3, 1)
def Fld.PIPE_CTRL_conceal_rear : Nat × Nat := (4, 1)
def Fld.PIPE_CTRL_od_front : Nat × Nat := (5, 1)
def Fld.PIPE_CTRL_od_rear : Nat × Nat := (6, 1)
def Fld.PIPE_CTRL_dither : Nat × Nat := (8, 2)
def Fld.PIPE_FMT_depth : Nat × Nat := (0, 2)
def Fld.PIPE_FMT_seg_width : Nat × Nat := (16, 9)
def Fld.PIPE_DITHER_OFS_ofs_r : Nat × Nat := (0, 2)
def Fld.PIPE_DITHER_OFS_ofs_g : Nat × Nat := (2, 2)
def Fld.PIPE_DITHER_OFS_ofs_b : Nat × Nat := (4, 2)
def Fld.PIPE_DITHER_OFS_ofs_rear : Nat × Nat := (6, 2)
def Fld.PIPE_TEMP_CFG_period_ms : Nat × Nat := (0, 10)
def Fld.PIPE_TEMP_CFG_sensor_en : Nat × Nat := (16, 8)
def Fld.PIPE_TEMP_DEFAULT_temp : Nat × Nat := (0, 16)
def Fld.PIPE_TEMP_STAT_temp : Nat × Nat := (0, 16)
def Fld.PIPE_TEMP_STAT_valid : Nat × Nat := (16, 8)
def Fld.PIPE_TEMP_STAT_measured : Nat × Nat := (24, 1)
def Fld.PIPE_OD_STAT_F_set_a : Nat × Nat := (0, 3)
def Fld.PIPE_OD_STAT_F_set_b : Nat × Nat := (3, 3)
def Fld.PIPE_OD_STAT_F_w : Nat × Nat := (8, 8)
def Fld.PIPE_OD_STAT_F_active : Nat × Nat := (16, 8)
def Fld.PIPE_OD_STAT_F_bypass : Nat × Nat := (24, 1)
def Fld.PIPE_DEFECTS_entries : Nat × Nat := (0, 17)
def Fld.PIPE_TSENSn_CFG_addr : Nat × Nat := (0, 7)
def Fld.PIPE_TSENSn_CFG_bus : Nat × Nat := (7, 1)
def Fld.PIPE_TSENSn_CFG_pointer : Nat × Nat := (8, 8)
def Fld.PIPE_TSENSn_VAL_value : Nat × Nat := (0, 16)
def Fld.PIPE_TSENSn_VAL_valid : Nat × Nat := (16, 1)
def Fld.ENG_CTRL_rear_role : Nat × Nat := (0, 4)
def Fld.ENG_CTRL_patrol_en : Nat × Nat := (8, 1)
def Fld.ENG_CTRL_gov_en : Nat × Nat := (10, 1)
def Fld.ENG_DEADLINE_guard : Nat × Nat := (0, 4)
def Fld.ENG_DEADLINE_warn : Nat × Nat := (4, 4)
def Fld.ENG_DEADLINE_zone_lines : Nat × Nat := (8, 8)
def Fld.ENG_MOVER_starve : Nat × Nat := (0, 16)
def Fld.ENG_GOV_slack_low : Nat × Nat := (0, 8)
def Fld.ENG_GOV_slack_high : Nat × Nat := (8, 8)
def Fld.ENG_GOV_down_frames : Nat × Nat := (16, 8)
def Fld.PATROL_PERIOD_ms : Nat × Nat := (0, 32)
def Fld.ENG_STAT_op_q0 : Nat × Nat := (0, 3)
def Fld.ENG_STAT_op_q1 : Nat × Nat := (3, 3)
def Fld.ENG_STAT_op_q2 : Nat × Nat := (6, 3)
def Fld.ENG_STAT_op_q3 : Nat × Nat := (9, 3)
def Fld.ENG_STAT_fenced_engines : Nat × Nat := (16, 9)
def Fld.ENG_WINDOW_front : Nat × Nat := (0, 12)
def Fld.ENG_WINDOW_rear : Nat × Nat := (16, 12)
def Fld.ENG_SLACK_front : Nat × Nat := (0, 12)
def Fld.ENG_SLACK_rear : Nat × Nat := (16, 12)
def Fld.ENG_FALLBACK_TILES_tiles : Nat × Nat := (0, 32)
def Fld.ENG_SPEC_DISCARD_jobs : Nat × Nat := (0, 32)
def Fld.ENG_FENCEi_fenced : Nat × Nat := (0, 32)
def Fld.ENG_Cc_PATROL_aborts : Nat × Nat := (0, 16)
def Fld.ENG_Cc_PATROL_skipped : Nat × Nat := (16, 8)
def Fld.ENG_Cc_PATROL_sweeps : Nat × Nat := (24, 8)
def Fld.ENG_Cc_ECC_corrected : Nat × Nat := (0, 16)
def Fld.ENG_Cc_ECC_uncorrected : Nat × Nat := (16, 8)
def Fld.ENG_Cc_ECC_patrol_errors : Nat × Nat := (24, 8)
def Fld.ENG_Cc_MOVER_starved : Nat × Nat := (0, 16)
def Fld.ENG_Cc_STAT_fenced : Nat × Nat := (0, 1)
def Fld.ENG_Cc_STAT_rear : Nat × Nat := (1, 1)
def Fld.ENG_Cc_STAT_patrol_busy : Nat × Nat := (2, 1)
def Fld.ENG_Cc_STAT_scrubbing : Nat × Nat := (3, 1)
def Fld.ENG_Cc_STAT_busy_engines : Nat × Nat := (4, 8)
def Fld.ENG_Ee_STAT_wcol : Nat × Nat := (0, 16)
def Fld.ENG_Ee_STAT_stops : Nat × Nat := (16, 8)
def Fld.ENG_Ee_STAT_fenced : Nat × Nat := (24, 1)
def Fld.RSV_ALLOC0_demura : Nat × Nat := (0, 14)
def Fld.RSV_ALLOC0_layer : Nat × Nat := (16, 14)
def Fld.RSV_ALLOC1_hold : Nat × Nat := (0, 14)
def Fld.RSV_ALLOC1_tables : Nat × Nat := (16, 14)
def Fld.RSV_SCRUB_period_s : Nat × Nat := (0, 17)
def Fld.RSV_STAT_trained : Nat × Nat := (0, 1)
def Fld.RSV_STAT_self_refresh : Nat × Nat := (1, 1)
def Fld.RSV_STAT_scrubbing : Nat × Nat := (2, 1)
def Fld.RSV_CORRECTED_lines : Nat × Nat := (0, 32)
def Fld.RSV_SCRUB_PASS_passes : Nat × Nat := (0, 32)
def Fld.RSV_HOLD_USED_used : Nat × Nat := (0, 14)
def Fld.RSV_HOLD_USED_largest_free : Nat × Nat := (16, 14)
def Fld.STP_STAT_link_up : Nat × Nat := (0, 1)
def Fld.STP_STAT_mounted : Nat × Nat := (1, 1)
def Fld.STP_STAT_formatted : Nat × Nat := (2, 1)
def Fld.STP_STAT_reason : Nat × Nat := (3, 4)
def Fld.STP_STAT_speed : Nat × Nat := (8, 4)
def Fld.STP_STAT_width : Nat × Nat := (12, 4)
def Fld.STP_CAP_LBAS_lbas : Nat × Nat := (0, 32)
def Fld.STP_LOG_NEXT_seq : Nat × Nat := (0, 32)
def Fld.STP_TEMP_temp : Nat × Nat := (0, 16)
def Fld.CDC_STAT_busy : Nat × Nat := (0, 8)
def Fld.CDC_STAT_paused : Nat × Nat := (8, 8)
def Fld.CDC_LANEn_JOB_dir : Nat × Nat := (0, 1)
def Fld.CDC_LANEn_JOB_strict : Nat × Nat := (1, 1)
def Fld.CDC_LANEn_JOB_port : Nat × Nat := (2, 2)
def Fld.CDC_LANEn_IN_bytes : Nat × Nat := (0, 32)
def Fld.CDC_LANEn_OUT_bytes : Nat × Nat := (0, 32)
def Fld.CDC_LANEn_BLK_blocks : Nat × Nat := (0, 32)
def Fld.SLK_CTRL_inv_front : Nat × Nat := (0, 2)
def Fld.SLK_CTRL_inv_rear : Nat × Nat := (2, 2)
def Fld.SLK_CTRL_roll_ms : Nat × Nat := (8, 8)
def Fld.SLK_DRV_F_cs_width : Nat × Nat := (0, 8)
def Fld.SLK_DRV_F_oe_delay : Nat × Nat := (16, 16)
def Fld.SLK_STAT_front_segs : Nat × Nat := (0, 7)
def Fld.SLK_STAT_rear_segs : Nat × Nat := (8, 6)
def Fld.SLK_STAT_rate_ok : Nat × Nat := (16, 1)
def Fld.SLK_TX_TIME_tp_front : Nat × Nat := (0, 16)
def Fld.SLK_TX_TIME_tp_rear : Nat × Nat := (16, 16)
def Fld.SLK_LINES_HELD_lines : Nat × Nat := (0, 32)
def Fld.SLK_DCFG_ADDR_address : Nat × Nat := (0, 8)
def Fld.SLK_DCFG_ADDR_read : Nat × Nat := (8, 1)
def Fld.SLK_DCFG_DATA_data : Nat × Nat := (0, 32)
def Fld.SLK_DCFG_MASKi_lanes : Nat × Nat := (0, 32)
def Fld.SLK_DCFG_GO_go : Nat × Nat := (0, 1)
def Fld.SLK_DCFG_RESULT_result_seq : Nat × Nat := (0, 8)
def Fld.SLK_DCFG_RESULT_valid : Nat × Nat := (8, 1)
def Fld.SLK_DCFG_RESULT_busy : Nat × Nat := (9, 1)
def Fld.SLK_DCFG_RESULT_status : Nat × Nat := (10, 2)
def Fld.SLK_DCFG_RDATA_data : Nat × Nat := (0, 32)
def Fld.SLK_DRVn_STAT_temp : Nat × Nat := (0, 8)
def Fld.SLK_DRVn_STAT_alert : Nat × Nat := (8, 8)
def Fld.SLK_DRVn_STAT_crc_errs : Nat × Nat := (16, 8)
def Fld.SLK_DRVn_STAT_bc_ok : Nat × Nat := (24, 1)
def Fld.CHK_MISMATCHES_count : Nat × Nat := (0, 32)
def Fld.CHK_LOG_NEXT_next : Nat × Nat := (0, 32)
def Fld.CHK_Rr_CFG_source : Nat × Nat := (0, 1)
def Fld.CHK_Rr_CFG_enable : Nat × Nat := (1, 1)
def Fld.CHK_Rr_CFG_sticky_set : Nat × Nat := (2, 1)
def Fld.CHK_Rr_CFG_waiting : Nat × Nat := (3, 5)
def Fld.CHK_Rr_CFG_host : Nat × Nat := (8, 2)
def Fld.CHK_Rr_STICKY_crc : Nat × Nat := (0, 32)
def Fld.CHK_Rr_LAST_crc : Nat × Nat := (0, 32)
def Fld.CHK_Rr_FRAME_LO_frame : Nat × Nat := (0, 32)
def Fld.CHK_Rr_STAT_mismatches : Nat × Nat := (0, 16)
def Fld.CHK_Rr_STAT_last_match : Nat × Nat := (16, 1)
def Fld.PERF_STAT_frozen : Nat × Nat := (0, 1)
def Fld.PERF_STAT_tag_k : Nat × Nat := (8, 5)
def Fld.PERF_CTRn_CFG_event : Nat × Nat := (0, 16)
def Fld.PERF_CTRn_CFG_unit : Nat × Nat := (16, 8)
def Fld.PERF_CTRn_CFG_level : Nat × Nat := (24, 1)
def Fld.PERF_CTRn_CFG_chain : Nat × Nat := (25, 1)
def Fld.PERF_CTRn_CFG_enable : Nat × Nat := (26, 1)
def Fld.PERF_CTRn_CFG_host : Nat × Nat := (28, 2)
def Fld.PERF_BWm_CFG_window_us : Nat × Nat := (0, 20)
def Fld.PERF_BWm_CFG_host : Nat × Nat := (28, 2)
def Fld.PWR_STAT_state : Nat × Nat := (0, 3)
def Fld.PWR_STAT_busy : Nat × Nat := (3, 1)
def Fld.PWR_STAT_target : Nat × Nat := (4, 3)
def Fld.PWR_STAT_slot_full : Nat × Nat := (7, 1)
def Fld.PWR_STAT_slot_target : Nat × Nat := (8, 3)
def Fld.PWR_STAT_wake_latched : Nat × Nat := (11, 1)
def Fld.PWR_POLICY_idle_en : Nat × Nat := (0, 1)
def Fld.PWR_POLICY_sleep_en : Nat × Nat := (1, 1)
def Fld.PWR_POLICY_idle_frames : Nat × Nat := (8, 10)
def Fld.PWR_POLICY_sleep_delay_s : Nat × Nat := (18, 12)
def Fld.PWR_WAKE_CFG_sense_en : Nat × Nat := (0, 1)
def Fld.PWR_WAKE_CFG_sense_pol : Nat × Nat := (1, 1)
def Fld.PWR_WAKE_CFG_hyst : Nat × Nat := (2, 2)
def Fld.PWR_WAKE_CFG_debounce : Nat × Nat := (4, 2)
def Fld.PWR_WAKE_CFG_threshold : Nat × Nat := (8, 8)
def Fld.PWR_WAKE_CFG_link_en : Nat × Nat := (16, 4)
def Fld.PWR_OP_CFG_settle_us : Nat × Nat := (0, 8)
def Fld.PWR_OP_CFG_vgood_mode : Nat × Nat := (8, 1)
def Fld.PWR_RESULT_result_seq : Nat × Nat := (0, 8)
def Fld.PWR_RESULT_valid : Nat × Nat := (8, 1)
def Fld.PWR_RESULT_busy : Nat × Nat := (9, 1)
def Fld.PWR_RESULT_DATA_target : Nat × Nat := (0, 3)
def Fld.PWR_RESULT_DATA_reached : Nat × Nat := (3, 3)
def Fld.PWR_RESULT_DATA_replayed_wake : Nat × Nat := (6, 1)
def Fld.PWR_RESULT_DATA_unit : Nat × Nat := (8, 8)
def Fld.PWR_RESULT_DATA_status : Nat × Nat := (16, 16)
def Fld.PWR_REFUSE0_mgmt : Nat × Nat := (0, 8)
def Fld.PWR_REFUSE0_sec : Nat × Nat := (8, 8)
def Fld.PWR_REFUSE0_cdc : Nat × Nat := (16, 8)
def Fld.PWR_REFUSE0_stp : Nat × Nat := (24, 8)
def Fld.PWR_REFUSE1_comp : Nat × Nat := (0, 8)
def Fld.PWR_REFUSE1_pipe : Nat × Nat := (8, 8)
def Fld.PWR_ABORTS_idle : Nat × Nat := (0, 8)
def Fld.PWR_ABORTS_sleep : Nat × Nat := (8, 8)
def Fld.PWR_ABORTS_deep : Nat × Nat := (16, 8)
def Fld.PWR_ABORTS_off : Nat × Nat := (24, 8)
def Fld.PWR_WAKE_STAT_source : Nat × Nat := (0, 3)
def Fld.PWR_WAKE_STAT_port : Nat × Nat := (3, 2)
def Fld.PWR_RAILn_addr : Nat × Nat := (0, 7)
def Fld.PWR_RAILn_vout : Nat × Nat := (8, 12)
def Fld.PWR_RAILn_iout : Nat × Nat := (20, 12)
def Fld.PWR_OPk_mv : Nat × Nat := (0, 10)
def Fld.PWR_OPk_eng_mhz : Nat × Nat := (10, 11)
def Fld.PWR_OPk_comp_mhz : Nat × Nat := (21, 11)
def Fld.PWR_LIMITd_min_op : Nat × Nat := (0, 3)
def Fld.PWR_LIMITd_max_op : Nat × Nat := (3, 3)
def Fld.PWR_LIMITd_floor : Nat × Nat := (6, 3)
def Fld.FAULT_CTRL_pin_mask : Nat × Nat := (0, 5)
def Fld.FAULT_CTRL_warn : Nat × Nat := (8, 8)
def Fld.FAULT_STAT_thermal_capped : Nat × Nat := (0, 1)
def Fld.FAULT_STAT_repeat_stop : Nat × Nat := (1, 1)
def Fld.FAULT_STAT_hottest : Nat × Nat := (8, 8)
def Fld.FAULT_STAT_recent : Nat × Nat := (16, 8)
def Fld.FAULT_FATAL_NEXT_next : Nat × Nat := (0, 32)
def Fld.TOP_ID_silicon_rev : Nat × Nat := (0, 8)
def Fld.TOP_ID_ordering_code : Nat × Nat := (8, 8)
def Fld.TOP_ID_part : Nat × Nat := (16, 16)
def Fld.TOP_SERIAL_LO_serial : Nat × Nat := (0, 32)
def Fld.TOP_STRAPS_owner_sel : Nat × Nat := (0, 2)
def Fld.TOP_STRAPS_port_merge01 : Nat × Nat := (2, 1)
def Fld.TOP_STRAPS_port_merge23 : Nat × Nat := (3, 1)
def Fld.TOP_STRAPS_bmc_addr : Nat × Nat := (4, 2)
def Fld.TOP_PORTS_present : Nat × Nat := (0, 4)
def Fld.TOP_PORTS_link_up : Nat × Nat := (4, 4)
def Fld.TOP_PORTS_owner : Nat × Nat := (8, 2)
def Fld.TOP_RESET_key : Nat × Nat := (0, 16)
def Fld.TOP_SENSi_temp : Nat × Nat := (0, 16)
def Fld.TOP_SENSi_valid : Nat × Nat := (16, 1)
def Fld.SEC_STAT_busy : Nat × Nat := (0, 1)
def Fld.SEC_STAT_challenge_valid : Nat × Nat := (1, 1)
def Fld.SEC_STAT_challenge_port : Nat × Nat := (2, 2)
def Fld.SEC_STAT_slot_states : Nat × Nat := (8, 8)
def Fld.SEC_STAT_min_version : Nat × Nat := (16, 7)
def Fld.SEC_SEQ_A_update_seq : Nat × Nat := (0, 32)
def Fld.SEC_HASHk_j_hash : Nat × Nat := (0, 32)

/-! ### Status flags and their occurrence counts (R138) -/

/-- A W1C status flag: its register and bit, the register and byte of its 8-bit count, and the unit whose event
0x0100 + bit counts its settings (R495); unit 0 for the lane flags, which no counter counts. -/
structure Flag where
  reg : Nat
  bit : Nat
  cnt : Nat
  byte : Nat
  unit : Nat
deriving DecidableEq, Repr

def Flag.PORT_db_bad (p : Nat) : Flag := ⟨Reg.PORT_ERR p, 0, Reg.PORT_ERR_CNT p, 0, 0x10 + p⟩
def Flag.PORT_cq_stall (p : Nat) : Flag := ⟨Reg.PORT_ERR p, 1, Reg.PORT_ERR_CNT p, 1, 0x10 + p⟩
def Flag.PORT_ev_lost (p : Nat) : Flag := ⟨Reg.PORT_ERR p, 2, Reg.PORT_ERR_CNT p, 2, 0x10 + p⟩
def Flag.PORT_fetch_fault (p : Nat) : Flag := ⟨Reg.PORT_ERR p, 3, Reg.PORT_ERR_CNT p, 3, 0x10 + p⟩
def Flag.LANE_lock_loss (link lane : Nat) : Flag :=
  ⟨Reg.LANE_FLAGS link lane, 0, Reg.LANE_FLAG_CNT0 link lane, 0, 0⟩
def Flag.LANE_fast_fail (link lane : Nat) : Flag :=
  ⟨Reg.LANE_FLAGS link lane, 1, Reg.LANE_FLAG_CNT0 link lane, 1, 0⟩
def Flag.LANE_recentre (link lane : Nat) : Flag :=
  ⟨Reg.LANE_FLAGS link lane, 2, Reg.LANE_FLAG_CNT0 link lane, 2, 0⟩
def Flag.LANE_busy_reject (link lane : Nat) : Flag :=
  ⟨Reg.LANE_FLAGS link lane, 3, Reg.LANE_FLAG_CNT0 link lane, 3, 0⟩
def Flag.LANE_cfg_err (link lane : Nat) : Flag :=
  ⟨Reg.LANE_FLAGS link lane, 4, Reg.LANE_FLAG_CNT1 link lane, 0, 0⟩
def Flag.LANE_prbs_unlock (link lane : Nat) : Flag :=
  ⟨Reg.LANE_FLAGS link lane, 5, Reg.LANE_FLAG_CNT1 link lane, 1, 0⟩
def Flag.HWL_patch : Flag := ⟨Reg.HWL_FLAGS, 0, Reg.HWL_FLAG_CNT0, 0, 0x20⟩
def Flag.HWL_crc_err : Flag := ⟨Reg.HWL_FLAGS, 1, Reg.HWL_FLAG_CNT0, 1, 0x20⟩
def Flag.HWL_pkt_err : Flag := ⟨Reg.HWL_FLAGS, 2, Reg.HWL_FLAG_CNT0, 2, 0x20⟩
def Flag.HWL_fmt_err : Flag := ⟨Reg.HWL_FLAGS, 3, Reg.HWL_FLAG_CNT0, 3, 0x20⟩
def Flag.HWL_stripe_err : Flag := ⟨Reg.HWL_FLAGS, 4, Reg.HWL_FLAG_CNT1, 0, 0x20⟩
def Flag.HWL_dup : Flag := ⟨Reg.HWL_FLAGS, 5, Reg.HWL_FLAG_CNT1, 1, 0x20⟩
def Flag.HWL_frame_seq : Flag := ⟨Reg.HWL_FLAGS, 6, Reg.HWL_FLAG_CNT1, 2, 0x20⟩
def Flag.HWL_plane_off : Flag := ⟨Reg.HWL_FLAGS, 7, Reg.HWL_FLAG_CNT1, 3, 0x20⟩
def Flag.RAST_ref_glitch : Flag := ⟨Reg.RAST_FLAGS, 0, Reg.RAST_FLAG_CNT0, 0, 0x70⟩
def Flag.RAST_ref_lost : Flag := ⟨Reg.RAST_FLAGS, 1, Reg.RAST_FLAG_CNT0, 1, 0x70⟩
def Flag.RAST_tod_bad : Flag := ⟨Reg.RAST_FLAGS, 2, Reg.RAST_FLAG_CNT0, 2, 0x70⟩
def Flag.RAST_crash : Flag := ⟨Reg.RAST_FLAGS, 3, Reg.RAST_FLAG_CNT0, 3, 0x70⟩
def Flag.RAST_unlock : Flag := ⟨Reg.RAST_FLAGS, 4, Reg.RAST_FLAG_CNT1, 0, 0x70⟩
def Flag.RAST_lag_out : Flag := ⟨Reg.RAST_FLAGS, 5, Reg.RAST_FLAG_CNT1, 1, 0x70⟩
def Flag.RAST_cfg_err : Flag := ⟨Reg.RAST_FLAGS, 6, Reg.RAST_FLAG_CNT1, 2, 0x70⟩
def Flag.RAST_ref_rate : Flag := ⟨Reg.RAST_FLAGS, 7, Reg.RAST_FLAG_CNT1, 3, 0x70⟩
def Flag.COMP_underrun : Flag := ⟨Reg.COMP_FLAGS, 0, Reg.COMP_FLAG_CNT, 0, 0x30⟩
def Flag.COMP_fetch_fault : Flag := ⟨Reg.COMP_FLAGS, 1, Reg.COMP_FLAG_CNT, 1, 0x30⟩
def Flag.COMP_port_lost : Flag := ⟨Reg.COMP_FLAGS, 2, Reg.COMP_FLAG_CNT, 2, 0x30⟩
def Flag.BKL_crc_err : Flag := ⟨Reg.BKL_FLAGS, 0, Reg.BKL_FLAG_CNT, 0, 0x78⟩
def Flag.BKL_driver_fault : Flag := ⟨Reg.BKL_FLAGS, 1, Reg.BKL_FLAG_CNT, 1, 0x78⟩
def Flag.BKL_spi_late : Flag := ⟨Reg.BKL_FLAGS, 2, Reg.BKL_FLAG_CNT, 2, 0x78⟩
def Flag.BKL_strobe_merge : Flag := ⟨Reg.BKL_FLAGS, 3, Reg.BKL_FLAG_CNT, 3, 0x78⟩
def Flag.BKL_zone_late : Flag := ⟨Reg.BKL_FLAGS, 4, Reg.BKL_FLAG_CNT1, 0, 0x78⟩
def Flag.PIPE_sensor_lost : Flag := ⟨Reg.PIPE_FLAGS, 0, Reg.PIPE_FLAG_CNT0, 0, 0x31⟩
def Flag.PIPE_temp_lost : Flag := ⟨Reg.PIPE_FLAGS, 1, Reg.PIPE_FLAG_CNT0, 1, 0x31⟩
def Flag.PIPE_od_range : Flag := ⟨Reg.PIPE_FLAGS, 2, Reg.PIPE_FLAG_CNT0, 2, 0x31⟩
def Flag.PIPE_cfg_err : Flag := ⟨Reg.PIPE_FLAGS, 3, Reg.PIPE_FLAG_CNT0, 3, 0x31⟩
def Flag.PIPE_table_missing : Flag := ⟨Reg.PIPE_FLAGS, 4, Reg.PIPE_FLAG_CNT1, 0, 0x31⟩
def Flag.ENG_fallback (unit : Nat) : Flag := ⟨Reg.ENG_FLAGS, 0, Reg.ENG_FLAG_CNT0, 0, unit⟩
def Flag.ENG_engine_stop (unit : Nat) : Flag := ⟨Reg.ENG_FLAGS, 1, Reg.ENG_FLAG_CNT0, 1, unit⟩
def Flag.ENG_kernel_fault (unit : Nat) : Flag := ⟨Reg.ENG_FLAGS, 2, Reg.ENG_FLAG_CNT0, 2, unit⟩
def Flag.ENG_wcol (unit : Nat) : Flag := ⟨Reg.ENG_FLAGS, 3, Reg.ENG_FLAG_CNT0, 3, unit⟩
def Flag.ENG_mover_starve (unit : Nat) : Flag := ⟨Reg.ENG_FLAGS, 4, Reg.ENG_FLAG_CNT1, 0, unit⟩
def Flag.ENG_ecc_uncorr (unit : Nat) : Flag := ⟨Reg.ENG_FLAGS, 5, Reg.ENG_FLAG_CNT1, 1, unit⟩
def Flag.ENG_patrol_err (unit : Nat) : Flag := ⟨Reg.ENG_FLAGS, 6, Reg.ENG_FLAG_CNT1, 2, unit⟩
def Flag.ENG_cfg_err (unit : Nat) : Flag := ⟨Reg.ENG_FLAGS, 7, Reg.ENG_FLAG_CNT1, 3, unit⟩
def Flag.RSV_corrected : Flag := ⟨Reg.RSV_FLAGS, 0, Reg.RSV_FLAG_CNT, 0, 0x50⟩
def Flag.RSV_uncorrectable : Flag := ⟨Reg.RSV_FLAGS, 1, Reg.RSV_FLAG_CNT, 1, 0x50⟩
def Flag.RSV_cfg_err : Flag := ⟨Reg.RSV_FLAGS, 2, Reg.RSV_FLAG_CNT, 2, 0x50⟩
def Flag.STP_cmd_err : Flag := ⟨Reg.STP_FLAGS, 0, Reg.STP_FLAG_CNT, 0, 0x14⟩
def Flag.STP_lost : Flag := ⟨Reg.STP_FLAGS, 1, Reg.STP_FLAG_CNT, 1, 0x14⟩
def Flag.STP_log_drop : Flag := ⟨Reg.STP_FLAGS, 2, Reg.STP_FLAG_CNT, 2, 0x14⟩
def Flag.CDC_out_wait : Flag := ⟨Reg.CDC_FLAGS, 0, Reg.CDC_FLAG_CNT, 0, 0x80⟩
def Flag.CDC_decode_err : Flag := ⟨Reg.CDC_FLAGS, 1, Reg.CDC_FLAG_CNT, 1, 0x80⟩
def Flag.CDC_no_gain : Flag := ⟨Reg.CDC_FLAGS, 2, Reg.CDC_FLAG_CNT, 2, 0x80⟩
def Flag.CDC_small_buf : Flag := ⟨Reg.CDC_FLAGS, 3, Reg.CDC_FLAG_CNT, 3, 0x80⟩
def Flag.SLK_held : Flag := ⟨Reg.SLK_FLAGS, 0, Reg.SLK_FLAG_CNT0, 0, 0x60⟩
def Flag.SLK_repair : Flag := ⟨Reg.SLK_FLAGS, 1, Reg.SLK_FLAG_CNT0, 1, 0x60⟩
def Flag.SLK_skip : Flag := ⟨Reg.SLK_FLAGS, 2, Reg.SLK_FLAG_CNT0, 2, 0x60⟩
def Flag.SLK_bc_crc : Flag := ⟨Reg.SLK_FLAGS, 3, Reg.SLK_FLAG_CNT0, 3, 0x60⟩
def Flag.SLK_bc_timeout : Flag := ⟨Reg.SLK_FLAGS, 4, Reg.SLK_FLAG_CNT1, 0, 0x60⟩
def Flag.SLK_drv_alert : Flag := ⟨Reg.SLK_FLAGS, 5, Reg.SLK_FLAG_CNT1, 1, 0x60⟩
def Flag.SLK_rate_err : Flag := ⟨Reg.SLK_FLAGS, 6, Reg.SLK_FLAG_CNT1, 2, 0x60⟩
def Flag.SLK_cfg_err : Flag := ⟨Reg.SLK_FLAGS, 7, Reg.SLK_FLAG_CNT1, 3, 0x60⟩
def Flag.CHK_mismatch : Flag := ⟨Reg.CHK_FLAGS, 0, Reg.CHK_FLAG_CNT, 0, 0x88⟩
def Flag.CHK_rect_err : Flag := ⟨Reg.CHK_FLAGS, 1, Reg.CHK_FLAG_CNT, 1, 0x88⟩
def Flag.CHK_late : Flag := ⟨Reg.CHK_FLAGS, 2, Reg.CHK_FLAG_CNT, 2, 0x88⟩
def Flag.PERF_overflow : Flag := ⟨Reg.PERF_FLAGS, 0, Reg.PERF_FLAG_CNT, 0, 0x90⟩
def Flag.PERF_tag_wrap : Flag := ⟨Reg.PERF_FLAGS, 1, Reg.PERF_FLAG_CNT, 1, 0x90⟩
def Flag.PWR_refused : Flag := ⟨Reg.PWR_FLAGS, 0, Reg.PWR_FLAG_CNT0, 0, 0xA0⟩
def Flag.PWR_superseded : Flag := ⟨Reg.PWR_FLAGS, 1, Reg.PWR_FLAG_CNT0, 1, 0xA0⟩
def Flag.PWR_replayed_wake : Flag := ⟨Reg.PWR_FLAGS, 2, Reg.PWR_FLAG_CNT0, 2, 0xA0⟩
def Flag.PWR_vgood_fail : Flag := ⟨Reg.PWR_FLAGS, 3, Reg.PWR_FLAG_CNT0, 3, 0xA0⟩
def Flag.PWR_pmbus_fault : Flag := ⟨Reg.PWR_FLAGS, 4, Reg.PWR_FLAG_CNT1, 0, 0xA0⟩
def Flag.PWR_pll_fail : Flag := ⟨Reg.PWR_FLAGS, 5, Reg.PWR_FLAG_CNT1, 1, 0xA0⟩
def Flag.FAULT_thermal_warn : Flag := ⟨Reg.FAULT_FLAGS, 0, Reg.FAULT_FLAG_CNT, 0, 0x1⟩
def Flag.FAULT_port_down : Flag := ⟨Reg.FAULT_FLAGS, 1, Reg.FAULT_FLAG_CNT, 1, 0x1⟩
def Flag.FAULT_fence : Flag := ⟨Reg.FAULT_FLAGS, 2, Reg.FAULT_FLAG_CNT, 2, 0x1⟩
def Flag.FAULT_fatal_recovered : Flag := ⟨Reg.FAULT_FLAGS, 3, Reg.FAULT_FLAG_CNT, 3, 0x1⟩
def Flag.FAULT_unit_state : Flag := ⟨Reg.FAULT_FLAGS, 4, Reg.FAULT_FLAG_CNT1, 0, 0x1⟩
def Flag.SEC_sig_fail : Flag := ⟨Reg.SEC_FLAGS, 0, Reg.SEC_FLAG_CNT, 0, 0x2⟩
def Flag.SEC_fuse_write : Flag := ⟨Reg.SEC_FLAGS, 1, Reg.SEC_FLAG_CNT, 1, 0x2⟩
def Flag.SEC_flash_write : Flag := ⟨Reg.SEC_FLAGS, 2, Reg.SEC_FLAG_CNT, 2, 0x2⟩
def Flag.SEC_challenge_lapsed : Flag := ⟨Reg.SEC_FLAGS, 3, Reg.SEC_FLAG_CNT, 3, 0x2⟩

end Sys2Proof.Machine
end

