-- ==== Sys2Proof/Machine/State.lean ====
section
/-! DEFINITION. Everything the spec gives the device, as plain data. Window A registers are one sparse table of
words keyed by offset (Machine/Registers.lean names them); state that is not a register has a field of its own.
Every default below is the value after reset. -/

namespace Sys2Proof.Machine

/-! ### Records (R125, R128, R131) -/

/-- Status codes of a completion (R131). -/
inductive Status where
  | ok | notReady | busy | superseded | refused | noPermission | badDescriptor | badAddress
  | fetchFault | late | noGain | outWait | signatureFail | resource | aborted | timeout
deriving DecidableEq, Repr

/-- Device time (R15): seconds and nanoseconds below 10^9. -/
structure Stamp where
  sec : Nat := 0
  ns : Nat := 0
deriving DecidableEq, Repr

/-- A completion record (R125). -/
structure Completion where
  tag : BitVec 32
  status : Status
  opcode : BitVec 16
  /-- CFN or SFN at which the action took effect; 0 when it took none. -/
  frame : Nat
  /-- Bytes 16 to 27. -/
  result : BitVec 96
  /-- Submission ring, in ring_seq[2:0]. -/
  sq : Nat
  /-- Sequence in the ring since enable, in ring_seq[23:3]. -/
  seq : Nat
  /-- Set by the ring when the record is written (R126). -/
  phase : Bool := false
deriving DecidableEq, Repr

/-- An event record (R128). -/
structure EventRec where
  code : Nat
  unit : Nat
  severity : Nat
  sfn : Nat := 0
  time : Stamp := {}
  /-- Bytes 24 to 31. -/
  data : BitVec 64 := 0
  phase : Bool := false
deriving DecidableEq, Repr

/-! ### What the device sends out -/

/-- One thing the device does to the world outside it. -/
inductive Out where
  /-- A completion record written to slot `slot` of a port's completion ring (R126). -/
  | completion (port cq slot : Nat) (c : Completion)
  /-- An event record written to slot `slot` of a port's event ring (R128). -/
  | event (port slot : Nat) (e : EventRec)
  /-- The MSI-X message of a vector (R136). -/
  | msix (port vector : Nat)
  /-- A write of other data to host memory. -/
  | dma (port addr : Nat) (bytes : List Byte)
  /-- The value a host's register read returned. -/
  | readData (port off val : Nat)
  /-- A doorbell block read issued to a port's host memory (R121). -/
  | doorbellFetch (port : Nat)
  /-- The reply the BMC reads from the target at an address (R141, R142). -/
  | bmcReply (addr : Nat) (bytes : List Byte)
  /-- The challenge that SEC issues for a private test mode (R103). -/
  | testChallenge (bytes : List Byte)
  /-- In-band interrupt or BMC_ALERT_N to the BMC (R141). -/
  | bmcAlert (reason : Nat)
  /-- An NVMe command sent to the store controller (R425, R426). -/
  | nvme (cid queue op lba count : Nat) (bytes : List Byte) (fua : Bool)
  /-- CC.SHN is set to normal shutdown (R428). -/
  | controllerShutdown
  /-- A PMBus write to a rail's regulator: command code, value (a voltage in mV), and the bytes on the bus (R54, R534). -/
  | pmbus (rail cmd val : Nat) (bytes : List Byte)
  /-- A PMBus read from a rail's regulator (R54, R534). -/
  | pmbusRead (rail cmd : Nat)
  /-- A frame on a Sluice lane of a kind of R464: its payload bytes. -/
  | sluice (lane kind : Nat) (bytes : List Byte)
  /-- R183, R184. The 66-bit blocks of a Sluice lane as its pins carry them, scrambled, bit 0 first. -/
  | wire (lane : Nat) (blocks : List (BitVec 66))
  /-- R476. What a Sluice lane in training sends: 3 the clock pattern, or the training sequence of phase 0, 1 or 2 with a
  de-emphasis code. -/
  | trainSignal (lane signal deemph : Nat)
  /-- R204, R206. n generated bits of a PRBS test on a Sluice lane, the first in bit 0. -/
  | prbsBits (lane n bits : Nat)
  /-- A back-channel command on a bank's shared wire (R472). -/
  | backChannel (bc cmd index : Nat) (bytes : List Byte)
  /-- A frame on a backlight SPI controller (R319). -/
  | spi (ctrl : Nat) (bytes : List Byte)
  /-- A read on a panel I3C bus (R339). -/
  | panelI3c (bus addr pointer : Nat)
  /-- A gate timing output over a line of its cell: its level at the start, and its edges as (tick, level) (R262). -/
  | gto (line output : Nat) (level : Bool) (edges : List (Nat × Bool))
  /-- A pulse on PNL_SYNC_OUT: the front line it is timed from, its offset and its width in ticks (R265). -/
  | pnlSync (line : Nat) (offset : Int) (width : Nat)
deriving DecidableEq, Repr

/-! ### Host ports and rings (R116 to R136) -/

/-- A submission ring's state beside its registers (R117 to R122). -/
structure SqState where
  /-- Last accepted tail index and generation (R120). -/
  tail : Nat := 0
  gen : Nat := 0
  /-- Descriptors fetched since enable. -/
  fetched : Nat := 0
  /-- Accepted and not yet fetched. -/
  waiting : Nat := 0
  /-- Accepted slots whose completions the host has not consumed (R124). -/
  outstanding : Nat := 0
  /-- enable = 0 written; reads 1 until the last completion is written (R118). -/
  draining : Bool := false
  /-- A descriptor read failed; resumes only after disable and re-enable (R122). -/
  faulted : Bool := false
  /-- Bad doorbell values already reported (R120). -/
  badSeen : List Nat := []
  /-- Group number of the commit group that is still arriving (R132). -/
  openGroup : Option Nat := none
  /-- Times the ring has been enabled: a completion from before a re-enable frees no slot of the ring after it (R124). -/
  epoch : Nat := 0
deriving DecidableEq, Repr

/-- A completion ring's or event ring's state beside its registers. -/
structure CqState where
  /-- Last accepted consumer index and generation (R120). -/
  cons : Nat := 0
  gen : Nat := 0
  /-- Records written since enable. -/
  written : Nat := 0
  /-- Of each record written and not yet consumed, oldest first: 8 × epoch + number of its submission ring. -/
  unread : List Nat := []
  /-- Completions held while the ring is full (R127). -/
  held : List Completion := []
  /-- The ring is full and its CQ_STALL has been posted. -/
  stalled : Bool := false
  /-- Records written since the last message (R136). -/
  unsignalled : Nat := 0
  badSeen : List Nat := []
deriving DecidableEq, Repr

/-- What a host sets in a port's configuration space (R106, R136): the bases of the two BARs, and the function mask of MSI-X. -/
structure PortConfig where
  barA : Nat := 0
  barB : Nat := 0
  msixMask : Bool := false
deriving DecidableEq, Repr

/-- A port's state beside its registers and rings. -/
structure PortState where
  config : PortConfig := {}
  /-- The link is up and the port is out of reset (R108). -/
  up : Bool := false
  /-- A doorbell fetch is in flight, and one more will follow it (R121). -/
  fetchBusy : Bool := false
  fetchPending : Bool := false
  /-- The last doorbell block read failed (R122). -/
  blockFault : Bool := false
  /-- Events dropped since the last EVENTS_LOST (R129). -/
  lostSince : Nat := 0
  /-- The start-up failures have been posted to this port (R78). -/
  bootTold : Bool := false
  /-- Submission ring whose turn it is, and descriptors fetched from it in this turn (R122). -/
  turn : Nat := 0
  inTurn : Nat := 0
deriving DecidableEq, Repr

/-- Where a descriptor that passed the checks of R123 stands. -/
inductive DscPhase where
  /-- Dispatched; its unit has not begun it. -/
  | ready
  /-- Begun; its last effect has not ended. -/
  | running
  /-- A member of a commit group whose checks at its unit have passed (R132). -/
  | arrived
  /-- An S opcode that waits at its unit for its scan frame (R146). -/
  | waiting
  /-- Took effect at a latch instant and stays open: a LIVE flip until it retires (R155). -/
  | effective
deriving DecidableEq, Repr

/-- A descriptor the device has fetched and not completed. -/
structure Dsc where
  port : Nat
  sq : Nat
  seq : Nat
  /-- The 64 bytes, byte 0 in bits [7:0]. -/
  raw : BitVec 512
  phase : DscPhase := .ready
  /-- Commit group number; 0 for an opcode not marked C. -/
  group : Nat := 0
  /-- SFN or CFN at which it took effect. -/
  at_ : Nat := 0
  /-- Order of reaching its unit (R133, R147). -/
  order : Nat := 0
  /-- Result bytes gathered so far. -/
  res : BitVec 96 := 0
deriving DecidableEq, Repr

/-- A commit group (R132). -/
structure Group where
  id : Nat
  port : Nat
  sq : Nat
  target : Nat
  /-- Sequence numbers of the members so far, in ring order. -/
  members : List Nat
  /-- Members that failed a check: sequence number, status, result bytes. -/
  failed : List (Nat × Status × BitVec 96) := []
  /-- Rule of R132 broken: 2 size, 0 groupable, 8 target; none while all hold. -/
  broken : Option Nat := none
  /-- The run passed 256 members; its later members complete as they arrive. -/
  oversize : Bool := false
  /-- The last member has been fetched. -/
  closed : Bool := false
  /-- Wholly at the compositor, with this order of arrival (R133); 0 before. -/
  order : Nat := 0
deriving DecidableEq, Repr

/-- Everything of the four host ports beside their registers. -/
structure HostState where
  /-- Submission and completion rings, keyed 8 × port + ring. -/
  sq : Tab SqState := []
  cq : Tab CqState := []
  /-- Event rings and ports, keyed by port. -/
  evq : Tab CqState := []
  ports : Tab PortState := []
  /-- Descriptors fetched and not completed, in the order of their fetch. -/
  inflight : List Dsc := []
  groups : List Group := []
  /-- Numbers the next group and the next arrival at a unit take. -/
  nextGroup : Nat := 1
  nextOrder : Nat := 1
deriving DecidableEq, Repr

/-! ### Counters, monitors and tile tags (R492 to R505) -/

/-- A counter's value and saturating overflow count (R496). -/
structure Ctr where
  value : Nat := 0
  ovf : Nat := 0
deriving DecidableEq, Repr

/-- A bandwidth monitor: the running window and the three published values (R502). -/
structure Monitor where
  /-- Bytes of the running window, of its running 1 µs interval, and the extremes of its ended intervals. -/
  bytes : Nat := 0
  pubBytes : Nat := 0
  pubMin : Nat := 0
  pubMax : Nat := 0
  /-- 16-bit window sequence. -/
  seq : Nat := 0
deriving DecidableEq, Repr

/-- A tile tag record (R504). -/
structure TagRec where
  sfn : Nat := 0
  tr : Nat := 0
  tc : Nat := 0
  /-- Bit 0 rear, 1 fell back, 2 recomputed, 3 speculative at first dispatch. -/
  flags : Nat := 0
  /-- t_fetch, t_compose, t_split, t_overdrive, t_dither, t_issue. -/
  times : List Nat := [0, 0, 0, 0, 0, 0]
  /-- t_issue is recorded. -/
  issued : Bool := false
deriving DecidableEq, Repr

/-- PERF state beside its registers. -/
structure PerfState where
  ctrs : Tab Ctr := []
  fixed : Tab Nat := []
  snapSeq : Nat := 0
  /-- Snapshot words in the format of R498, keyed 0 to 63 programmable and 64 to 71 fixed. -/
  snap : Tab Nat := []
  monitors : Tab Monitor := []
  /-- The 32-bit register s of R503. -/
  tagS : Nat := 1
  tagIndex : Nat := 0
  tags : Tab TagRec := []
deriving DecidableEq, Repr

/-! ### Confidence rectangles (R484 to R491) -/

/-- A per-frame expected value that waits for its frame (R489). -/
structure Expect where
  port : Nat
  sq : Nat
  seq : Nat
  /-- Frame named; 0 for the first computed after arrival. -/
  frame : Nat
  crc : Nat
deriving DecidableEq, Repr

/-- A rectangle's state beside its registers. -/
structure RectState where
  /-- Computed values of the newest frames: (frame, CRC), newest first, at most 16 (R489). -/
  window : List (Nat × Nat) := []
  waiting : List Expect := []
  /-- Sticky mismatches since the last match (R490). -/
  run : Nat := 0
  /-- The first frame it computes since it was defined (R485). -/
  first : Nat := 0
  /-- Frames of the window with INPUT lines in the rectangle that were not accepted (R491). -/
  dropped : List Nat := []
  /-- The CHECK_RECT that completes at the first computation: port, ring, sequence. -/
  defining : Option (Nat × Nat × Nat) := none
deriving DecidableEq, Repr

/-! ### Straps, fuses, boot and security (R50 to R104, R176, R177, R571) -/

/-- The straps as sampled (R50). -/
structure Straps where
  ownerSel : Nat := 0
  merge01 : Bool := false
  merge23 : Bool := false
  bmcAddr : Nat := 0
  /-- They have been sampled in this start. -/
  sampled : Bool := false
deriving DecidableEq, Repr

/-- A key slot's fuses (R94): state 0 empty, 1 enrolled, 3 revoked, and the 32-byte hash, byte 0 lowest. -/
structure KeySlot where
  state : Nat := 0
  hash : BitVec 256 := 0
deriving DecidableEq, Repr

/-- Fuses and one-time-programmable memory: kept through every reset. -/
structure Fuses where
  orderingCode : Nat := 0
  serial : BitVec 64 := 0
  /-- Slots 1 to 3; slot 0 is in ROM. -/
  slots : Tab KeySlot := []
  /-- Blown fuses of the minimum-version thermometer, 0 to 64 (R93). -/
  minVersion : Nat := 0
  testMark : Bool := false
deriving DecidableEq, Repr

/-- What the boot ROM or SEC knows of a verified firmware image (R90, R92). -/
structure FwInfo where
  updateSeq : Nat := 0
  securityVersion : Nat := 0
  build : Nat := 0
  advance : Bool := false
  digest : BitVec 512 := 0
deriving DecidableEq, Repr

/-- How far the start has come: what the device waits for next. -/
inductive StartPhase where
  /-- VDD_AON has been lost (R57). -/
  | aonOff
  /-- RESET_N is low. -/
  | held
  /-- PWR sequences rail n of the order of R55 and waits for its power-good. -/
  | rail (n : Nat)
  /-- VDDIO is at power-good; the straps are sampled 100 µs later (R55 step 3). -/
  | straps
  /-- A rail missed power-good once; the 100 ms wait runs (R56). -/
  | retryWait
  /-- Only VDD_AON is on: a rail failed twice, or a thermal trip (R56, R541). -/
  | railsOff
  /-- Board-test mode (R52). -/
  | boardTest
  /-- PLLs and boot ROM; then the flash image streams in. -/
  | rom
  /-- Memories are being cleared. recovery: on the way to RECOVERY_WAIT (R88). -/
  | clear (recovery : Bool)
  | rsvTrain (recovery : Bool)
  | lanes
  /-- Store mount and boot loads. -/
  | load
  | hold
  | ready
  | recoveryWait
  | stopped
deriving DecidableEq, Repr

/-- Boot state beside the boot page. -/
structure BootState where
  phase : StartPhase := .held
  /-- Second attempt at the rails of this start (R56). -/
  retried : Bool := false
  /-- BSCAN_EN was 1 when RESET_N rose: the start is for board test (R52). -/
  board : Bool := false
  /-- STP_PERST_N: none while Hi-Z, else its driven level (R46). -/
  perstN : Option Bool := none
  /-- Start-up failures of this start, oldest first, until the owner's ring takes them (R78). -/
  failures : List EventRec := []
  /-- Staged image bytes and the highest byte written (R85, R89). -/
  staging : Tab Byte := []
  stagedLen : Nat := 0
  /-- The boot loads have ended, or there is no store to load from. -/
  loadsDone : Bool := false
  /-- Stage LANES has ended: the whole of Window A answers (R74). -/
  lanesDone : Bool := false
  running : FwInfo := {}
  /-- The manifest has been processed, and TABLE_MISSING has been recorded (R77). -/
  manifestDone : Bool := false
  missingRecorded : Bool := false
  /-- RESET_N as seen by AON, and the thermal trip that ended the last run (R85). -/
  thermalStop : Bool := false
  /-- Level of BSCAN_EN (R45, R52), as POWER_ON last brought it. -/
  bscan : Bool := false
deriving DecidableEq, Repr

/-- A fuse operation in progress (R95, R96, R93) and the descriptor that asked for it. -/
inductive FuseOp where
  | enrol (slot : Nat) (hash : BitVec 256)
  | revoke (slot : Nat)
  | minimum (v : Nat)
deriving DecidableEq, Repr

/-- Security core state beside its registers. -/
structure SecState where
  /-- The 32-byte challenge that waits for its SEC_ENROL, and its port (R177). -/
  challenge : Option (Nat × BitVec 256) := none
  fuse : Option (FuseOp × Nat × Nat × Nat) := none
  /-- A SEC_FW_UPDATE flash write: slot, image facts, descriptor. -/
  flash : Option (Nat × FwInfo × Nat × Nat × Nat) := none
  /-- The slot the last update of this start wrote (R89). -/
  lastSlot : Option Nat := none
  /-- A flash slot whose write did not finish, so that it fails verification (R177, R568). -/
  broken : List Nat := []
  mKernels : BitVec 512 := 0
  mTables : BitVec 512 := 0
  /-- A private test mode is open (R103). -/
  testMode : Bool := false
deriving DecidableEq, Repr

/-! ### Power (R509 to R537) -/

/-- Power states, with the codes of POWER_REQ (R172). -/
inductive PState where
  | run | idle | sleep | deep | off
deriving DecidableEq, Repr

/-- Who asked for a transition (R511, R535). -/
inductive Requester where
  | port (p : Nat) | bmc | mgmt | none
deriving DecidableEq, Repr

/-- A power request (R511), with the ring and sequence of its POWER_REQ. -/
structure PwrReq where
  target : PState
  who : Requester
  dsc : Option (Nat × Nat × Nat) := none
deriving DecidableEq, Repr

/-- A latched or recognised wake: source as in PWR_WAKE_STAT, and its port. -/
structure Wake where
  source : Nat
  port : Nat := 0
deriving DecidableEq, Repr

/-- An entry handshake in progress (R517). -/
structure Entry where
  req : PwrReq
  /-- State the entry started from. -/
  from_ : PState
  /-- Units that have agreed, newest first. -/
  agreed : List Nat := []
  wake : Option Wake := none
deriving DecidableEq, Repr

/-- An exit in progress (R526 to R528). -/
structure Exit where
  from_ : PState
  wake : Wake
  cause : Nat
  /-- State to enter once RUN is reached, and for whom (R512). -/
  then_ : Option PwrReq := none
  dsc : Option (Nat × Nat × Nat) := none
  /-- Rails that have still to reach power-good, the first of them commanded on (R526, R527, R534). -/
  rails : List Nat := []
  /-- Rails that this exit has commanded on, newest first; a missed power-good has turned them off once, and the 100 ms
  wait runs (R56). -/
  raised : List Nat := []
  retried : Bool := false
  waiting : Bool := false
deriving DecidableEq, Repr

/-- A change of operating point in progress (R532). -/
structure OpChange where
  /-- 0 to 3 the quadrants, 4 CK_COMP. -/
  domain : Nat
  target : Nat
deriving DecidableEq, Repr

/-- PWR state beside its registers. -/
structure PowerState where
  state : PState := .run
  /-- Rails of R534 that are on, newest first, and their commanded voltage in mV. -/
  rails : List Nat := []
  volts : Tab Nat := []
  entry : Option Entry := none
  exit : Option Exit := none
  slot : Option PwrReq := none
  /-- Present operating point of Q0 to Q3 and CK_COMP, unlisted 0. -/
  op : Tab Nat := []
  change : Option OpChange := none
  /-- Domains that wait for the sequencer, with 1 + the point each asks for. -/
  want : Tab Nat := []
  /-- Cause that OP_CHANGED gives for the change a domain asks for (R376). -/
  opCause : Tab Nat := []
  /-- Consecutive static scan frames (R514). -/
  static : Nat := 0
  /-- The raster was enabled when the running entry began (R518, R529). -/
  rasterOn : Bool := false
  /-- Times of the class 2 faults (R541), newest first. This and every other time span of a fault is measured on AON's own
  count of nanoseconds, which neither TIME_SET nor a restart changes. -/
  cycles : List Nat := []
  /-- TOP_RESET has been written in SLEEP: the reset follows once RUN is reached (R568). -/
  resetAtRun : Bool := false
  /-- One-second rail samples, newest first: per sample the (vout, iout) of each rail (R553). -/
  samples : List (List (Nat × Nat)) := []
  /-- READ_TEMPERATURE_1 of each rail's regulator. -/
  railTemp : Tab Nat := []
deriving DecidableEq, Repr

/-! ### Faults and the management view (R541 to R557) -/

/-- Fault and management state beside the registers. -/
structure FaultState where
  /-- Times of fatal faults, newest first (R544). -/
  fatals : List Nat := []
  /-- Times of the fatal device resets among them (R545). -/
  resets : List Nat := []
  /-- A fatal fault of class 3 to 6 has happened and READY or STOPPED has not been reached (R547). -/
  pinHeld : Bool := false
  /-- Class of the fatal fault this start recovers from (R545). -/
  recovering : Option Nat := none
  /-- Unit state bytes of R143 that differ from those a started device shows. -/
  units : Tab Nat := []
  /-- The unit state that the data path asks MGMT to write (R550). -/
  dataPath : Tab Nat := []
  /-- Last captured field record, its number, and whether one has been captured since the start. -/
  record : List Byte := []
  captured : Bool := false
  /-- One-second hottest-sensor samples, newest first (R553). -/
  temps : List Nat := []
  /-- A DIAG_UNIT_ENABLE or DIAG_UNIT_FENCE that waits for the data path: unit, enable, descriptor. -/
  awaiting : List (Nat × Bool × Nat × Nat × Nat) := []
deriving DecidableEq, Repr

/-- BMC path (R141, R142): the last command's arguments are in the command itself. -/
structure BmcState where
  /-- The dynamic address that the I3C controller has assigned (R141). -/
  dynamic : Option (BitVec 7) := none
  /-- The controller runs the bus in SMBus mode (R141). -/
  smbus : Bool := false
deriving DecidableEq, Repr

/-! ### Reservoir allocation, store and hold cache (R412 to R438) -/

/-- Owner-sized Reservoir regions (R412), with the codes of RSV_UNCORRECTABLE (R438). -/
inductive RsvRegion where
  | demura | layer | hold | tables
deriving DecidableEq, Repr

/-- One allocation: a contiguous run of 2 MiB extents of a region, and the tag of what it holds (R414). -/
structure Alloc where
  region : RsvRegion
  start : Nat
  extents : Nat
  tag : Nat
deriving DecidableEq, Repr

/-- A store region (R430). -/
structure Region where
  kind : Nat
  first : Nat
  count : Nat
  created : Stamp
deriving DecidableEq, Repr

/-- What an NVMe command is for. A transfer that needs several NVMe commands is one command of the model. -/
inductive NvUse where
  /-- Read of the metadata, LBAs 0 to 63, at mount (R429). -/
  | mountRead
  /-- Steps of formatting a blank store (R431). -/
  | format (step : Nat)
  /-- Buffered events, a number of them: the blocks they go into, the write of these, the log head, and its Flush (R426, R433). -/
  | logMerge (count : Nat)
  | logWrite (count : Nat)
  | logHead
  | logFlush
  /-- STORE_READ and STORE_WRITE (R436), and the deallocation of STORE_DELETE. -/
  | hostRead (port sq seq : Nat)
  | hostWrite (port sq seq : Nat)
  | dealloc (port sq seq : Nat)
  /-- Step of a directory change (R432) and the descriptor it serves. -/
  | dir (step : Nat) (port sq seq : Nat)
  /-- Image of a TABLE_LOAD or KERNEL_LOAD from source 1. -/
  | load (port sq seq : Nat)
  /-- Boot manifest and the image of its entry i (R434). -/
  | manifest
  | bootImage (i : Nat)
  /-- Item table, then the whole item, of a hold item being staged (R420 to R422). -/
  | holdTable (item : Nat)
  | holdItem (item : Nat)
  /-- A line of a resident hold item re-read for repair (R418). -/
  | holdRepair (item line frame : Nat)
  /-- Input of the next block of a codec job from source 1. -/
  | codec (lane port sq seq : Nat)
  /-- DIAG_LOG_READ (R433): records already delivered, of how many; field record write (R102). -/
  | logRead (port sq seq done total : Nat)
  | record
  /-- SMART / health log (R426). -/
  | smart
  /-- Error log (R426), asked for after a command that has failed for good. -/
  | errorLog
  /-- The Asynchronous Event Request that is always outstanding (R426). -/
  | event
  /-- Any other admin command of a mount, an abort or a shutdown. -/
  | admin
  /-- Flush before shutdown (R428). -/
  | shutFlush
deriving DecidableEq, Repr

/-- An NVMe command outstanding (R426). -/
structure NvCmd where
  cid : Nat
  /-- 0 admin, 1 and 2 the I/O queues. -/
  queue : Nat
  op : Nat
  lba : Nat
  lbas : Nat
  data : List Byte
  /-- Times it has been retried (R437). -/
  tries : Nat
  use : NvUse
  /-- The device holds it back: its queue is full (R426), or it must follow a write before it that overlaps it (R436). -/
  held : Bool := false
deriving DecidableEq, Repr

/-- A directory change that waits for the one in progress (R432). -/
structure DirChange where
  dir : Tab Region
  port : Nat
  sq : Nat
  seq : Nat
  /-- Region the completion reports. -/
  region : Nat
deriving DecidableEq, Repr

/-- Store port state beside its registers. -/
structure StoreState where
  /-- mounted: store commands are served (R427). -/
  mounted : Bool := false
  /-- The controller reported ready and has the format of R425. -/
  controller : Bool := false
  /-- STP has been asked to shut down and has not finished (R428). -/
  shutting : Bool := false
  /-- In it, the Flush has ended, and CC.SHN is set to normal shutdown (R428). -/
  flushed : Bool := false
  shn : Bool := false
  dir : Tab Region := []
  generation : Nat := 0
  /-- Directory copy the current superblock names, and which superblock is current: 0 A, 1 B. -/
  copy : Nat := 0
  current : Nat := 0
  /-- Bytes 32 to 51 of the current superblock: who formatted the store, and when (R429). -/
  label : List Byte := []
  /-- LBAs the device manages (R425). -/
  managed : Nat := 0
  changing : Option DirChange := none
  /-- Descriptors of the changes that wait for it. -/
  queued : List (Nat × Nat × Nat) := []
  nvme : List NvCmd := []
  nextCid : Nat := 0
  /-- Events that wait for the event log, oldest first (R427, R433). -/
  logBuf : List EventRec := []
  /-- The sequence number the next event takes, once a log head has been read in this start (R433). -/
  logNext : Option Nat := none
  /-- Boot manifest entries: (lba, lbas, action, stage, cell), and the entry being loaded (R434). -/
  manifest : List (Nat × Nat × Nat × Nat × Nat) := []
  /-- Entries with demura maps, which load after READY (R80), and the tables that their images carry. -/
  deferred : List ((Nat × Nat × Nat × Nat × Nat) × List Nat) := []
  /-- The last SMART / health log read (R426). -/
  smart : List Byte := []
  /-- Number of the next field record (R433). -/
  recordSeq : Nat := 0
deriving DecidableEq, Repr

/-- A hold item resident in the cache (R421 to R424). -/
structure HoldItem where
  width : Nat
  height : Nat
  /-- Scan frames per hold frame. -/
  rep : Nat
  /-- LBA at which each frame's stored data begins, its stored length, and whether the frames are Meander streams. -/
  lbas : List Nat := []
  stored : List Nat := []
  coded : Bool := false
  /-- Decoded frames: bytes of u16 R, G, B. -/
  frames : List (List Byte)
deriving DecidableEq, Repr

/-- Playback in progress (R423). -/
structure Playback where
  item : Nat
  loop : Bool
  x : Nat
  y : Nat
  /-- Hold frame shown, and scan frames it has been shown for. -/
  frame : Nat := 0
  shown : Nat := 1
  /-- The hold frame shown before this one (R418). -/
  prev : Option Nat := none
  /-- Mode 0: the last frame has been reached. -/
  ended : Bool := false
  /-- Started by the hold policy (R233), not by HOLD_PLAY. -/
  policy : Bool := false
deriving DecidableEq, Repr

/-- Hold library state. -/
structure HoldState where
  items : Tab (Option HoldItem) := []
  /-- Items being staged: item, and the descriptors that wait for it (none for the policy's own staging). -/
  staging : List (Nat × List (Nat × Nat × Nat)) := []
  play : Option Playback := none
  /-- The policy hold starts at the next scan frame start (R233). -/
  due : Bool := false
  /-- Bytes of items read from the store whose staging has not ended. -/
  read : Tab (List Byte) := []
  /-- LBA from which each of them was read. -/
  readLba : Tab Nat := []
  /-- Items that HOLD_POLICY has staged in the background and that are still being staged (R424). -/
  background : List Nat := []
deriving DecidableEq, Repr

/-- Reservoir state beside its registers. -/
structure RsvState where
  allocs : List Alloc := []
  /-- Lines that hold an uncorrectable error: region code of R438 and line within the region (R418). -/
  badLines : List (Nat × Nat) := []
  /-- Lines the scrubber has read in this pass (R417). -/
  scrubbed : Nat := 0
deriving DecidableEq, Repr

/-! ### Codec (R441 to R462) -/

/-- A decoder's or encoder's dictionary: learned strings as (code of the prefix, last byte), newest first. -/
abbrev CdcDict := List (Nat × Nat)

/-- The job of a codec lane. -/
structure CdcJob where
  port : Nat
  sq : Nat
  seq : Nat
  decode : Bool
  strict : Bool
  /-- Input from the store: the LBA where it starts, and the bytes of the next block once read. -/
  store : Bool
  lba : Nat := 0
  data : Option (List Byte) := none
  inLen : Nat
  addr : Nat
  stride : Nat
  /-- Input bytes read, and bytes of the blocks produced and of those placed. -/
  pos : Nat := 0
  produced : Nat := 0
  placed : Nat := 0
  /-- Blocks produced and placed. -/
  block : Nat := 0
  blocks : Nat := 0
  dict : CdcDict := []
  /-- A block that is produced and not placed. -/
  waiting : Option (List Byte) := none
  /-- A block of fewer than 4,096 words has been decoded (R453). -/
  short : Bool := false
deriving DecidableEq, Repr

/-- An output buffer queued on a lane. -/
structure CdcBuf where
  port : Nat
  sq : Nat
  seq : Nat
  addr : Nat
  len : Nat
  used : Nat := 0
  first : Nat := 0
deriving DecidableEq, Repr

/-- A codec lane. -/
structure CdcLane where
  job : Option CdcJob := none
  bufs : List CdcBuf := []
  /-- Completions of buffers that a strict job holds (R168): the buffer and its status. -/
  held : List (CdcBuf × Status) := []
deriving DecidableEq, Repr
/-! ### Serial lanes (R180 to R210) -/

/-- A trial of a neighbouring equaliser code (R192, R193). -/
structure Trial where
  /-- Code before the trial, and the FoM (or sum of 8) to beat. -/
  base : Nat
  ref : Nat
  /-- Trying base + 1; otherwise base - 1. -/
  up : Bool
  /-- Windows of the code under trial so far, and the sum of their FoM. -/
  windows : Nat := 0
  sum : Nat := 0
deriving DecidableEq, Repr

/-- A lane's state beside its lane page. -/
structure LaneState where
  /-- The last 58 scrambled payload bits of the lane, bit 0 the newest (R184). -/
  scr : BitVec 58 := 0
  /-- The open line packet of a Headwater lane: payload bytes 1 to 7 of its LINE_START, and its data bytes (R214). -/
  packet : Option (List Byte × List Byte) := none
  /-- Consecutive valid sync headers at the word boundary, at most 64 (R185). -/
  valid : Nat := 0
  /-- Windows of the step of ADAPT that runs, and consecutive windows with FoM at fom_min or above, at most 4 (R187). -/
  win : Nat := 0
  good : Nat := 0
  /-- rate_code as the last training read it (R180). -/
  rate : Nat := 0
  /-- Data sampling phase in 1/64 UI, from where the clock recovery put it (R195). -/
  phase : Nat := 0
  /-- The lane went to DETECT because its signal ended while the source sleeps: the next signal starts a full training (R230,
  R231). -/
  asleep : Bool := false
  /-- A Headwater lane has lost lock and not been ACTIVE since (R228). -/
  lost : Bool := false
  /-- TRAIN blocks sent on a Sluice lane (R464). -/
  trains : Nat := 0
  /-- Fast retrain attempts since the last lock loss, and consecutive failed ones (R200). -/
  attempts : Nat := 0
  failures : Nat := 0
  /-- Times of the lock losses of the last second, newest first (R200). -/
  losses : List Nat := []
  /-- Boundaries tried without lock in this training (R188). -/
  tried : Nat := 0
  /-- Blocks received since each invalid header of the last 64 blocks (R185). -/
  invalid : List Nat := []
  /-- Consecutive IDLE blocks (R194). -/
  idle : Nat := 0
  /-- A data block has arrived during a re-centre: the freeze ends with it (R195). -/
  thaw : Bool := false
  /-- FoM of the last windows, newest first, at most 8 (R192). -/
  foms : List Nat := []
  trial : Option Trial := none
  /-- FoM the driver reported for each de-emphasis code of a running sweep, code 0 first (R190). -/
  sweep : List Nat := []
  /-- A PRBS test (R205): bits that have gone by since the checker began to seed, at most 128; the last 64 bits of the
  lane's own sequence, bit 0 the newest; and the compared bits at which the last errors fell. -/
  prbsSeen : Nat := 0
  prbsSeq : Nat := 0
  prbsErrs : List Nat := []
  /-- Settings kept in retention over SLEEP or DEEP, and that the lane was ACTIVE then (R201). -/
  saved : Option Word := none
  wasActive : Bool := false
  /-- The eye scan running: its FoM at the start, and the descriptor it serves (R203). -/
  eyeFom : Nat := 0
  eyeDsc : Option (Nat × Nat × Nat) := none
  /-- The eye scan waits for a re-centre to end. -/
  eyeWaits : Bool := false
  /-- 48-bit count of bits compared (R205), and bits of an injection still to come (R206). -/
  bits : Nat := 0
  inject : Nat := 0
  /-- Times the driver's CFG_WRITE sequence number has moved on, and writes queued for it (R471). -/
  cfgSeq : Nat := 0
  cfgQueue : List (Nat × Nat) := []
  /-- Writes sent in the blanking now running: sent again when lock is lost (R471). -/
  cfgSent : List (Nat × Nat) := []
  /-- Index of the first line not applied since the lock loss, while the segment is held, and of the row driven when the
  lane returned to ACTIVE: SFN × height + line (R478). -/
  heldFrom : Option Nat := none
  /-- The last ROLL did not bring the driver's slot whole: it is asked for once more (R473). -/
  rollAgain : Bool := false
  backAt : Option Nat := none
deriving DecidableEq, Repr

/-- A LANE_TRAIN that has not completed (R174). -/
structure TrainJob where
  port : Nat
  sq : Nat
  seq : Nat
  link : Nat
  full : Bool
  /-- Lanes in an autonomous retrain that this command waits for; lanes it trains; lanes done. -/
  waiting : List Nat
  running : List Nat
  trained : List Nat := []
  failed : List Nat := []
deriving DecidableEq, Repr

/-- All lanes, keyed 128 × link + lane. -/
structure LanesState where
  lane : Tab LaneState := []
  jobs : List TrainJob := []
  /-- The first training of the start has begun (R186). -/
  begun : Bool := false
deriving DecidableEq, Repr

/-! ### Reference, raster and timelines (R238 to R271) -/

/-- What SET_PANEL set (R151). -/
structure Panel where
  width : Nat
  height : Nat
  rateNum : Nat
  rateDen : Nat
  /-- 1 single-cell, 2 dual-cell. -/
  cells : Nat
  /-- Drive depth: 8, 10 or 12. -/
  depth : Nat
deriving DecidableEq, Repr

/-- Where the raster sequence stands (R266, R267). -/
inductive RasterPhase where
  | off
  /-- Step 2: PNL_PWR_ENk with k at or above this number have not been considered. -/
  | rising (k : Nat)
  /-- Steps 3 to 5: the lanes train; the first scan frame has not started. -/
  | training
  | running
  /-- Reverse sequence: the black frame has been asked for, and then runs. -/
  | toBlack
  | black
  /-- Enables below this number have still to fall. -/
  | falling (k : Nat)
deriving DecidableEq, Repr

/-- What a scan frame reads. -/
inductive Shown where
  | nothing
  /-- A composed frame, by CFN. -/
  | composed (cfn : Nat)
  /-- A frame of a hold item. -/
  | hold (item frame : Nat)
  | black
  /-- The stored drive frame of IDLE (R341). -/
  | idle
deriving DecidableEq, Repr

/-- The loop and its reference input (R238 to R251). -/
structure LockState where
  /-- Nanoseconds since the last accepted REF_FRAME edge; none before one. -/
  sinceEdge : Option Nat := none
  /-- Consecutive discarded edges that could form a step, and good edges since REF_LOST (R239). -/
  stepCount : Nat := 0
  restoreCount : Nat := 0
  lost : Bool := false
  /-- Consecutive comparisons within and outside 2,000 ns (R246). -/
  inside : Nat := 0
  outside : Nat := 0
  /-- Corrections of the last second with the nanoseconds each held, newest first: c is 0 before the first edge (R246). -/
  recent : List (Int × Nat) := [(0, 1000000000)]
  /-- Nanoseconds since the last edge of the input that `recent` already covers. -/
  counted : Nat := 0
  /-- Phase errors of compared frames that have not started: SFN and error (R261). -/
  ahead : List (Nat × Int) := []
  /-- The loop has entered ACQUIRING and has not judged its first phase error since (R249, R251). -/
  judge : Bool := false
  /-- REF_LOST has been posted for REF_10M and REF_RESTORED has not (R240). -/
  lost10m : Bool := false
  /-- A crash for the next scan frame start: the phase error (R249). -/
  crash : Option Int := none
  /-- Seconds of the valid REF_TOD message that waits, and whether the last edges applied one (R242). -/
  tod : Option Nat := none
  applied : List Bool := []
  /-- Flag leap and offset fields are carried by the message and used by nothing else. -/
  hfnOffset : Int := 0
deriving DecidableEq, Repr

/-- One of the last 16 scan frames for TIME_STAMP (R260). -/
structure FrameStamp where
  sfn : Nat
  flip : Stamp
  photon : Stamp
deriving DecidableEq, Repr

/-- Raster state beside its registers. -/
structure RasterState where
  panel : Option Panel := none
  phase : RasterPhase := .off
  /-- The RASTER_ENABLE being served, and those that wait (R267): port, ring, sequence. -/
  dsc : Option (Nat × Nat × Nat) := none
  queue : List (Nat × Nat × Nat) := []
  /-- Panel outputs are driven; false while they are Hi-Z (R46). -/
  driven : Bool := false
  /-- PNL_PWR_ENk that are high. -/
  powered : List Nat := []
  /-- Front scan lines started in this frame, and the position of the next within a tick, in 1/65,536 (R244). -/
  line : Nat := 0
  frac : Nat := 0
  /-- Levels of GTO0 to GTO23, bit n output n, at the end of the last line (R262). -/
  gto : Nat := 0
  /-- This scan frame is irregular (R249). -/
  irregular : Bool := false
  /-- Its length in 1/65,536 ticks, while it is irregular. -/
  irregularLen : Nat := 0
  /-- Length of the scan frame before this one. -/
  lastLen : Nat := 0
  /-- Locked-through mode was left under R24 or R26 since it was last selected, and the scan frame starts in a row
  at which the conditions of R256 have held (R258). -/
  left : Bool := false
  good : Nat := 0
  /-- The next scan frame is the first after an enable (R261). -/
  first : Bool := true
  shown : Shown := .nothing
  /-- CFN at the newest selection, for dropped frames (R25). -/
  newest : Nat := 0
  /-- Locked-through mode was left during this scan frame, at this line: the rest is the previous frame's (R24). -/
  leftAt : Option Nat := none
  /-- Cause of TIMELINE_MODE for the change to buffered mode at the next scan frame start. -/
  toBuffered : Option Nat := none
  /-- A direct write's request for a mode (R257). -/
  request : Option Bool := none
  /-- D at the last scan frame starts, newest first, at most 64 (R256, R258). -/
  distances : List Nat := []
  /-- Lines of the LAG in force for each composition frame already fixed by the timer (R254). -/
  timerLag : Nat := 48
  lock : LockState := {}
  stamps : List FrameStamp := []
  /-- Light centroid within the scan frame of row height/2, in ns, and t_resp per cell in ns (R252). -/
  photon : Int := 0
  respFront : Nat := 0
  respRear : Nat := 0
deriving DecidableEq, Repr

/-! ### Headwater (R211 to R237) -/

/-- A lock loss of a Headwater lane during a frame (R228). -/
structure LossMark where
  lane : Nat
  /-- The last lines it had brought: lane, plane, line. -/
  brought : List (Nat × Nat × Nat) := []
  /-- Next composition line at the loss, and at the lane's return to ACTIVE. -/
  at_ : Nat := 0
  back : Option Nat := none
deriving DecidableEq, Repr

/-- A Headwater frame. -/
structure HwFrame where
  /-- It is receiving lines: it has not ended (R222). -/
  open_ : Bool := true
  /-- Lanes whose FRAME_START has arrived (R219). -/
  starts : List Nat := []
  /-- frame_lo of its FRAME_START, and the active lanes, H0 and H1 set-up words and H0/H1 presence in force. -/
  lo : Nat
  mask : Nat
  planes : List Nat
  /-- Rotations of H0 and H1, and lead, in force. -/
  rot : List Nat := []
  lead : Nat := 32
  /-- Lanes that have sent FRAME_END (R222). -/
  ended : List Nat := []
  /-- Components of the lines accepted, keyed 16,384 × plane + line (R217). -/
  lines : Tab (List Nat) := []
  /-- Cause byte + 1 of the first failure seen for a line (R229). -/
  causes : Tab Nat := []
  /-- Lines patched, newest first: plane, line, lane, cause. -/
  patched : List (Nat × Nat × Nat × Nat) := []
  /-- Last line each lane brought of a plane, accepted or not: lane, plane, line. -/
  lastOn : List (Nat × Nat × Nat) := []
  /-- Lock losses during the frame (R228). -/
  marks : List LossMark := []
  /-- A FRAME_START opened it; false for the lines of H1 that no Headwater frame supplies (R575). -/
  supplied : Bool := true
deriving DecidableEq, Repr

/-- Headwater state beside its registers. -/
structure HwlState where
  /-- The newest Headwater frame. -/
  frame : Option HwFrame := none
  /-- HWL_PLANE0 and HWL_PLANE1 in force: those of the last FRAME_START (R223). -/
  planes : List Nat := [0, 0]
  /-- After a wake, silence detection begins when all_active becomes 1 (R232). -/
  awaitActive : Bool := false
  /-- A FRAME_START has been received: HWL_STAT.frame_lo is the previous value. -/
  started : Bool := false
  /-- Silence detection runs (R231, R232). -/
  checking : Bool := false
  /-- Frames missed since the last FRAME_START, where HWL_STAT.missing stays at 255 (R232). -/
  missed : Nat := 0
  /-- silent, frozen and missing clear when the open frame is complete (R234). -/
  resuming : Bool := false
  /-- The hold that plays was started by the hold policy and ends with this CFN (R234). -/
  endHoldAt : Option Nat := none
deriving DecidableEq, Repr

/-! ### Layers and composition (R272 to R299) -/

/-- A flip a layer shows or will show (R155). -/
structure Flip where
  port : Nat
  sq : Nat
  seq : Nat
  live : Bool
  /-- CFN at which it took effect, and whether that was later than its group's target. -/
  cfn : Nat
  late : Bool := false
deriving DecidableEq, Repr

/-- A layer's state beside its registers. -/
structure LayerState where
  /-- LAYER_CONFIG has configured it (R154). -/
  configured : Bool := false
  /-- Custom input matrix c0 to c8, off0 to off2, and gamut matrix c0 to c8; empty for the identity (R280, R283). -/
  matrix : List Int := []
  gamut : List Int := []
  current : Option Flip := none
  /-- LIVE flips that have been replaced and complete when the frame with this CFN is fully composed (R289). -/
  retiring : List (Flip × Nat) := []
  /-- Disabled by a fault until a later flip takes effect (R291, R293). -/
  off : Bool := false
  /-- First layer line of this frame that shows the fallback colour for a fault, and the flip whose read faulted. -/
  faultFrom : Option Nat := none
  faultFlip : Option Flip := none
  /-- Composition lines of this frame that underran, newest first (R292). -/
  under : List Nat := []
  /-- Plane bytes of the SNAPSHOT version shown, keyed 16,384 × plane + line (R286). -/
  version : Tab (List Byte) := []
  /-- The SNAPSHOT flip being fetched, or fetched and waiting for its latch instant, and its bytes. -/
  fetching : Option (Nat × Nat × Nat) := none
  /-- Order in which that flip reached the compositor: the fetches of a port run in it (R286). -/
  fetchNo : Nat := 0
  /-- The composition frame that still uses the version shown before, whose room is freed after it (R286). -/
  oldUntil : Option Nat := none
  fetched : Tab (List Byte) := []
  /-- LIVE lines of the frame in progress, and of the next one with the flip they were read from (R288). -/
  lines : Tab (List Byte) := []
  ahead : Tab (List Byte) := []
  aheadOf : Option (Nat × Nat × Nat) := none
  aheadFault : Option Nat := none
  /-- 64-byte lines of the version shown that hold an uncorrectable error: plane and number in the plane (R418). -/
  bad : List (Nat × Nat) := []
deriving DecidableEq, Repr

/-- The COMP registers, layers and active tables that the lines of the frame in progress read: after its latch instant those
from before it, otherwise the present ones. -/
structure CView where
  regs : Tab Word
  layers : Tab LayerState
  tables : Tab (List Byte)
deriving DecidableEq, Repr

/-- The composition frame in progress. -/
structure CompFrame where
  cfn : Nat
  /-- Composition lines 0 to next - 1 have started. -/
  next : Nat := 0
  /-- Composed lines: R, G, B of every pixel, keyed by line. -/
  lines : Tab (List Nat) := []
  /-- Lines that are copies of the previous composed frame (R227). -/
  copied : List Nat := []
  /-- Started by a FRAME_START; otherwise by the composition timer. -/
  fromHwl : Bool := true
  /-- The Headwater lines it reads when these are not the ones now being received: those of a frame that has ended,
  or none at all (R575). -/
  own : Option HwFrame := none
  /-- D of its lines when the composition timer started it (R254). -/
  lag : Nat := 48
  /-- Line of its latch instant, and whether that has passed (R255). -/
  latchLine : Nat
  latched : Bool := false
  /-- Fully composed (R272). -/
  whole : Bool := false
  /-- t_fetch and t_compose of the tile rows, keyed by row (R504). -/
  rowTimes : Tab (Nat × Nat) := []
  /-- Slot of the composed ring that it is written to (R412). -/
  slot : Nat := 0
  /-- COMP registers, layers and active tables from before the latch instant, for what remains of the frame. -/
  held : Option CView := none
deriving DecidableEq, Repr

/-- A complete composed frame in the ring (R25). -/
structure Composed where
  cfn : Nat
  lines : Tab (List Nat)
  patched : Bool
  /-- Slot of the composed ring (R412). -/
  slot : Nat := 0
  /-- t_fetch and t_compose of the tile rows, keyed by row (R504). -/
  rowTimes : Tab (Nat × Nat) := []
deriving DecidableEq, Repr

/-- Confluence state beside its registers. -/
structure CompState where
  layers : Tab LayerState := []
  cur : Option CompFrame := none
  /-- Complete frames, newest first: at most the newest, the one scanned and the previous one. -/
  ring : List Composed := []
  /-- The open Headwater frame will supply H1 to a timer frame not yet started (R575). -/
  h1Waiting : Bool := false
  /-- Headwater frames that have ended and still are to supply H1 to a timer frame, oldest first (R575). -/
  waiting : List HwFrame := []
deriving DecidableEq, Repr

/-! ### Tables and kernels (R156 to R161, R408 to R411) -/

/-- A loaded kernel (R408, R409). -/
structure Kernel where
  stage : Nat
  cells : Nat
  haloV : Nat
  haloH : Nat
  codeBytes : Nat
  dataBytes : Nat
  scratchBytes : Nat
  maxCycles : Nat
  entry : Nat
  entryMover : Nat
  entryWarn : Nat
  paramOffset : Nat
  name : List Byte := []
  code : List Byte
  init : List Byte
  param : List Byte
deriving DecidableEq, Repr

/-- A kernel bound to a stage and cell: handle 0 is the Otius reference kernel. -/
structure Bind where
  handle : Nat := 0
  param : List Byte := []
  /-- Faults of the last second (R363). -/
  faults : List Nat := []
deriving DecidableEq, Repr

/-- A TABLE_LOAD or KERNEL_LOAD whose image is being read, or a bind's parameter block. -/
structure Load where
  port : Nat
  sq : Nat
  seq : Nat
  opcode : Nat
  /-- The image, once read from the store. -/
  data : Option (List Byte) := none
deriving DecidableEq, Repr

/-- Tables and kernels held in the Reservoir. -/
structure TableState where
  /-- Section bytes of the active and staged version of each identifier. -/
  active : Tab (List Byte) := []
  staged : Tab (List Byte) := []
  /-- Number of times the active version of an identifier has changed: part of a job's key (R358). -/
  version : Tab Nat := []
  kernels : Tab (Option Kernel) := []
  /-- Keyed 8 × cell + stage. -/
  binds : Tab Bind := []
  /-- Cells and stages whose kernel the firmware replaces at the next scan frame start (R363). -/
  replace : List (Nat × Nat) := []
  /-- Where the firmware has placed a bound kernel, keyed as binds: base and size of its code, then of its data (R411). -/
  areas : Tab (Nat × Nat × Nat × Nat) := []
  loads : List Load := []
  /-- Cells and stages that run the reference kernel in place of what is configured for them (R83); a table of no stage
  counts as stage 0, with its class in place of the cell. -/
  degraded : List (Nat × Nat) := []
deriving DecidableEq, Repr

/-! ### The panel pipeline (R300 to R378) -/

/-- Values over a rectangle of the frame, line by line: one list of u16 a line and channel. -/
structure Plane where
  x : Nat
  y : Nat
  w : Nat
  h : Nat
  rows : List (List Nat)
deriving DecidableEq, Repr, Inhabited

/-- What a job is computed against (R358): the frame it reads, each table it reads with its version, the kernel and parameter
block of each stage of its chain, B of its frame while dimming is on, and the overdrive selection. -/
structure JobKey where
  shown : Shown
  tables : List (Nat × Nat)
  binds : List (Nat × List Byte)
  zones : Option (Tab Nat)
  od : List Nat
deriving DecidableEq, Repr

/-- Statistics of one frame (R313). -/
structure Stats where
  histogram : Tab Nat := []
  clipRear : Nat := 0
  clipFront : Nat := 0
  zoneMax : Tab Nat := []
deriving DecidableEq, Repr

/-- A tile job (R350), or with cell 2 the frame job of stage 6. -/
structure Job where
  sfn : Nat
  cell : Nat
  tc : Nat
  tr : Nat
  engine : Nat
  key : JobKey
  speculative : Bool
  recomputed : Bool := false
  /-- Steps of the chain of R350 that have ended. -/
  at_ : Nat := 0
  /-- Planes handed from stage to stage: composed, then transmission, then drive, one per channel. -/
  planes : List Plane := []
  /-- Drive planes as they entered overdrive, per channel, for the history (R336). -/
  targets : List Plane := []
  /-- What stage 7 reads: m, rt, rear clips, front clips. -/
  peaks : List Plane := []
  stats : Stats := {}
  /-- Its area in the cluster scratchpad. -/
  base : Nat := 0
  size : Nat := 0
  /-- Engines of a frame job. -/
  group : List Nat := []
  completed : Bool := false
  /-- Input fetches that still have to enter the mover's queue (R365). -/
  toFetch : Nat := 0
  /-- It runs again after an uncorrectable error (R370). -/
  rerun : Bool := false
  tag : Option TagRec := none
deriving DecidableEq, Repr

/-- The fallbacks of one cluster in a scan frame (R361): those of the first tile, and how many. -/
structure Fallen where
  cluster : Nat
  cell : Nat
  cause : Nat
  engine : Nat
  tr : Nat
  tc : Nat
  count : Nat := 1
deriving DecidableEq, Repr

/-- A tile whose job was discarded (R360), with its tag. -/
structure Discarded where
  sfn : Nat
  cell : Nat
  tr : Nat
  tc : Nat
  tag : Option TagRec := none
deriving DecidableEq, Repr

/-- What PIPE and the backlight hold beside their registers. -/
structure PipeState where
  jobs : List Job := []
  /-- Output lines of the scan frame: N-bit drive values in column order, keyed 16,384 × cell + line. -/
  drive : Tab (List Nat) := []
  /-- Tiles of this scan frame that have retired or fallen back: cell, tr, tc. -/
  done : List (Nat × Nat × Nat) := []
  /-- Fallbacks of this scan frame per cluster. -/
  fallen : List Fallen := []
  /-- Tiles whose job was discarded and is to be dispatched again. -/
  discarded : List Discarded := []
  /-- Jobs abandoned for an uncorrectable error that wait for an engine of their cluster (R370). -/
  reruns : List Job := []
  /-- Fallbacks that a deadline before the frame has decided for the next scan frame: cell, tr, tc, cause, engine. -/
  early : List (Nat × Nat × Nat × Nat × Nat) := []
  /-- h1 and h2: 10-bit targets of frames k - 1 and k - 2, keyed 65,536 × (4 × cell + channel) + line, and those
  written in this frame. -/
  hist1 : Tab (List Nat) := []
  hist2 : Tab (List Nat) := []
  histNew : Tab (List Nat) := []
  /-- Scan frames of history since it was last lost, up to 3: the first has none, the second no h2 (R336). -/
  histAge : Nat := 0
  /-- PIPE_CTRL, PIPE_FMT and PIPE_DITHER_OFS as read at the scan frame start (R329). -/
  ctrl : Word := 0
  ofs : Word := 0
  /-- Statistics of the front tiles of this scan frame, with tile row and column, and zone maxima of the frame before it
  (R313). -/
  tileStats : List (Nat × Nat × Stats) := []
  prevZones : Tab Nat := []
  /-- B of this scan frame and, once stage 6 has run, of the next; a zone not listed holds 65,535 (R317). -/
  zones : Tab Nat := []
  nextZones : Option (Tab Nat) := none
  /-- Dimming is in force in this scan frame, and was read so by the last start of stage 6 for the next (R317). -/
  dimming : Bool := false
  nextDimming : Bool := false
  /-- SFN of the published statistics, and B as computed from that frame (R314, R327). -/
  statsSfn : Nat := 0
  pubZones : Tab Nat := []
  /-- Panel sensors: consecutive failed reads; T in sQ12.4; a reading has been taken; OD_RANGE told per cell. -/
  tempFails : Tab Nat := []
  temp : Option Int := none
  tempLost : Bool := false
  odTold : List Nat := []
  /-- Records of tagged tiles that wait for their Sluice issue time (R504), with their cell. -/
  tagged : List (Nat × TagRec) := []
  /-- 1 + the cluster that took the last job of each role, keyed 0 front and 1 rear (R357). -/
  lastCluster : Tab Nat := []
  /-- The stored drive frame of IDLE, keyed as drive, and its history until IDLE is reached (R341). -/
  idleFrame : Tab (List Nat) := []
  idleHist : Option (Tab (List Nat)) := none
  /-- The composed-ring slot that holds it. -/
  idleSlot : Nat := 0
  /-- 1 + the smallest slack of this scan frame per quadrant, quadrants a tile of which fell back with cause 0 or 1,
  and consecutive frames of high slack (R375). -/
  slack : Tab Nat := []
  slackFell : List Nat := []
  calm : Tab Nat := []
  /-- SFN of the first scan frame of this enable; per controller and zone row, keyed 64 × controller + row: on strobes sent
  since then, rows that are lit, and the frame whose ZONE_DATA was last sent or skipped (R321). -/
  firstFrame : Nat := 1
  flashes : Tab Nat := []
  litRows : List Nat := []
  dataFor : Tab Nat := []
  /-- B of the scan frames that have started in this enable, with their SFN, newest first, at most 64. -/
  zoneLog : List (Nat × Tab Nat) := []
  /-- Controllers whose STATUS has been asked for in this frame (R323). -/
  statusSent : List Nat := []
  /-- Backlight is on: between the flash start of an enable and its turning off (R322). -/
  lit : Bool := false
  /-- BKL_CTRL.ctrl_en as read at raster enable (R327). -/
  ctrls : Nat := 0
deriving DecidableEq, Repr

/-! ### Eddy engines and clusters (R349 to R411) -/

/-- Why an engine issues nothing. -/
inductive EngineStall where
  | free
  /-- At wait, with its mask; at bar, with its id; after halt. -/
  | waiting (mask : Nat)
  | barrier (id : Nat)
  | halting
  /-- At mvq, while the cluster's queue is full (R396). -/
  | queueing
deriving DecidableEq, Repr

/-- One Eddy engine (R379). -/
structure Engine where
  running : Bool := false
  /-- Stage, cell and kernel handle it runs; the frame job flag. -/
  stage : Nat := 0
  cell : Nat := 0
  handle : Nat := 0
  frameJob : Bool := false
  s : Tab (BitVec 32) := []
  /-- Vector registers, 16 lanes of 16 bits, lane 0 lowest. -/
  v : Tab (BitVec 256) := []
  /-- Accumulators: 16 lanes of 40 bits, keyed 16 × register + lane. -/
  a : Tab (BitVec 40) := []
  p : Tab (BitVec 16) := []
  wcol : Bool := false
  sat : Bool := false
  dz : Bool := false
  aovf : Bool := false
  ie : Bool := true
  inh : Bool := false
  mdonePend : Bool := false
  dwarnPend : Bool := false
  dwarn : Bool := false
  epc : Nat := 0
  pc : Nat := 0
  cycles : Nat := 0
  /-- Tags finished and outstanding (R397, R402). -/
  mdone : BitVec 16 := 0
  tags : BitVec 16 := 0
  stall : EngineStall := .free
  /-- Data areas of the kernels placed on it, keyed 65,536 × stage + offset. -/
  data : Tab Byte := []
  /-- Wrong bits, 1 or 2, of a 64-bit word of its private memory: 2,048 words of code, then 2,048 of data (R370). -/
  flips : Tab Nat := []
  fenced : Bool := false
  /-- Times of its stops and of its uncorrectable errors (R364). -/
  stops : List Nat := []
  eccs : List Nat := []
deriving DecidableEq, Repr

/-- A tile mover request (R395). -/
structure MoveReq where
  engine : Nat
  tag : Nat
  window : Nat
  plane : Nat
  lines : Nat
  x : Int
  y : Int
  width : Nat
  pitch : Nat
  addr : Nat
  /-- MOVER_STARVED has been posted for it. -/
  starved : Bool := false
  /-- An engine has written bytes that it reads or writes: what it moves is then not stated (R386). -/
  touched : Bool := false
  /-- The scheduler's fetch of a job's input, not a request of a kernel (R365). -/
  input : Bool := false
deriving DecidableEq, Repr

/-- One cluster: scratchpad, mover queue, patrol. -/
structure Cluster where
  pad : Tab Byte := []
  /-- Wrong bits, 1 or 2, of a 64-bit word of the scratchpad (R370). -/
  flips : Tab Nat := []
  queue : List MoveReq := []
  fenced : Bool := false
  /-- The whole quadrant is fenced (R364). -/
  clockFenced : Bool := false
  eccs : List Nat := []
  /-- Patrol: next region of the sweep; of each aborted region the visits until it returns and its aborts in a row (R373). -/
  region : Nat := 0
  aborted : List (Nat × Nat × Nat) := []
  /-- Bytes that port A wrote in its last bank cycle, each with its EA, for a write by port B in the same cycle (R369). -/
  portA : List (Nat × Byte) := []
  /-- DIAG_UNIT_ENABLE's pass: regions still to visit clean. -/
  passLeft : Option Nat := none
deriving DecidableEq, Repr

/-- The array. -/
structure ArrayState where
  engines : Tab Engine := []
  clusters : Tab Cluster := []
  /-- Roles as the firmware has moved them: quadrants in the rear role. -/
  moved : Option Nat := none
deriving DecidableEq, Repr

/-! ### Sluice (R463 to R483) -/

/-- A back-channel request that waits for its reply (R473). -/
structure BcReq where
  lane : Nat
  cmd : Nat
  args : List Byte
  /-- The LANE_BIT_SLIP it serves. -/
  dsc : Option (Nat × Nat × Nat) := none
  /-- It has been asked once more. -/
  again : Bool := false
  /-- It is the CFG_READ of SLK_DCFG. -/
  dcfg : Bool := false
  /-- It has not been sent yet: another request of its line comes before it, or a lane of the line is in FAST_RETRAIN (R475). -/
  held : Bool := false
deriving DecidableEq, Repr

/-- Sluice state beside its registers. -/
structure SlkState where
  /-- SLK_CTRL as read at the scan frame start (R483). -/
  ctrl : Word := 0x10A
  bc : List BcReq := []
  /-- Lanes that a driver configuration write still has to reach (R483). -/
  dcfg : List Nat := []
deriving DecidableEq, Repr


/-! ### The whole device -/

/-- The device (every default is the value after reset). -/
structure State where
  /-- Commands waiting, first in, first out. -/
  pending : List Instr := []
  /-- The model's own count of free values taken so far: no statement rests on its value. -/
  fresh : Nat := 0
  /-- Registers of Window A that differ from their reset value. -/
  regs : Tab Word := []
  /-- Everything the device has sent out, oldest first. -/
  out : List Out := []
  /-- Device time is this plus the time elapsed (R15, R175). -/
  timeBase : Stamp := {}
  host : HostState := {}
  straps : Straps := {}
  fuses : Fuses := {}
  boot : BootState := {}
  sec : SecState := {}
  power : PowerState := {}
  fault : FaultState := {}
  bmc : BmcState := {}
  perf : PerfState := {}
  rects : Tab RectState := []
  store : StoreState := {}
  sfn : Nat := 0
  cfn : Nat := 0
  /-- ASSIGN (R152): kind × 65,536 + index to host + 1; unlisted is the owner's. -/
  assign : Tab Nat := []
  hold : HoldState := {}
  rsv : RsvState := {}
  lanes : LanesState := {}
  raster : RasterState := {}
  hwl : HwlState := {}
  comp : CompState := {}
  tables : TableState := {}
  pipe : PipeState := {}
  array : ArrayState := {}
  slk : SlkState := {}
  /-- Codec lanes 0 to 7. -/
  cdc : Tab CdcLane := []
deriving DecidableEq, Repr

/-- The device after reset: every field at the value of its declaration. -/
def State.reset : State := {}

/-- No command of the model ends in a fault: each raises its effect in the state (R538 to R557). -/
inductive Fault where
  /-- Raised by no command; kept because the step's type names one. Safe: nothing reaches it. -/
  | none
deriving DecidableEq, Repr

/-- Reasons for which a command has no meaning. -/
inductive Refusal where
  /-- Raised by the dispatcher alone, for a command without a meaning. Safe: the run ends there. -/
  | notModelled (mnemonic : String)
deriving DecidableEq, Repr

end Sys2Proof.Machine
end

