-- ==== Sys2Proof/Machine/Ops.lean ====
section
/-! DEFINITION. The named operations over registers, flags, counters, time, events and completions that every
command is written over. -/

namespace Sys2Proof.Machine

/-! ### Registers -/

/-- What a register holds. -/
def rd (s : State) (k : Nat) : Word := tabGet regReset s.regs k

/-- The state with a register set. -/
def wr (k : Nat) (w : Word) (s : State) : State := { s with regs := tabSet regReset s.regs k w }

/-- A field of a register: (lowest bit, width). -/
def rdF (s : State) (k : Nat) (f : Nat × Nat) : Nat := field (rd s k) f.1 f.2

/-- The state with a field of a register set. -/
def wrF (k : Nat) (f : Nat × Nat) (v : Nat) (s : State) : State := wr k (withField (rd s k) f.1 f.2 v) s

/-- A one-bit field as a truth value. -/
def rdB (s : State) (k : Nat) (f : Nat × Nat) : Bool := decide (rdF s k f = 1)

/-- A register as a signed 32-bit value (R8). -/
def rdI (s : State) (k : Nat) : Int := (rd s k).toInt

/-- Add to a 32-bit count that wraps. -/
def bumpWrap (k n : Nat) (s : State) : State := wr k (rd s k + BitVec.ofNat 32 n) s

/-- Add to a field that stays at its largest value. -/
def bumpSat (k : Nat) (f : Nat × Nat) (n : Nat) (s : State) : State :=
  wrF k f (satAdd f.2 (rdF s k f) n) s

/-- Return every register for which p holds to its reset value (R563). -/
def resetRegs (p : Nat → Bool) (s : State) : State := { s with regs := tabKeep (fun k => !p k) s.regs }

/-! ### Free values and time -/

/-- A value the spec does not state, below a bound where the spec sets one; each taking is a new one. -/
def freeBelow (bound : Nat) (s : State) : Nat × State :=
  (Config.freeValue s.fresh % bound, { s with fresh := s.fresh + 1 })

/-- A time some nanoseconds after another (R15). -/
def Stamp.plus (t : Stamp) (ns : Nat) : Stamp :=
  { sec := t.sec + (t.ns + ns) / 1000000000, ns := (t.ns + ns) % 1000000000 }

/-- Nanoseconds of a time, as one number. -/
def Stamp.total (t : Stamp) : Nat := t.sec * 1000000000 + t.ns

/-- Device time now (R15): the base plus the time elapsed, which no rule of the spec fixes. -/
def now (s : State) : Stamp := s.timeBase.plus (Config.elapsedNs s.fresh)

/-- AON's own count of nanoseconds, by which the spans of faults and losses are measured: no TIME_SET or restart sets it. -/
def upNs (s : State) : Nat := Config.elapsedNs s.fresh

/-- The times that lie less than a span of nanoseconds back. -/
def within (s : State) (span : Nat) (ts : List Nat) : List Nat := ts.filter (fun t => decide (upNs s < t + span))

/-- The next reading of the clock is a new one. -/
def tick (s : State) : State := { s with fresh := s.fresh + 1 }

/-- The 12 bytes of a timestamp (R15). -/
def Stamp.bytes (t : Stamp) : List Byte := leBytes 6 t.sec ++ leBytes 2 0 ++ leBytes 4 t.ns

/-! ### Outputs -/

/-- The device sends something out. -/
def emit (o : Out) (s : State) : State := { s with out := s.out ++ [o] }

/-! ### Counters (R492 to R496) -/

/-- The value and overflow count of programmable counter n. -/
def ctr (s : State) (n : Nat) : Ctr := tabGet (fun _ => {}) s.perf.ctrs n

def setCtr (n : Nat) (c : Ctr) (s : State) : State :=
  { s with perf := { s.perf with ctrs := tabSet (fun _ => {}) s.perf.ctrs n c } }

/-- Counter n has its chain bit set (R496). -/
def ctrChained (s : State) (n : Nat) : Bool := rdB s (Reg.PERF_CTRn_CFG n) Fld.PERF_CTRn_CFG_chain

/-- Counter n is the odd half of a chained pair, so it counts carries alone (R493). -/
def ctrOddHalf (s : State) (n : Nat) : Bool := decide (n % 2 = 1) && ctrChained s (n - 1)

/-- Counter n counts what the model's clocks and bus controllers would: cycles, busy and stall cycles, Reservoir lines (R495).
The cycle event is always 1, so it never rises: in edge mode it adds nothing (R494). -/
def ctrTimed (s : State) (n : Nat) : Bool :=
  let ev := rdF s (Reg.PERF_CTRn_CFG n) Fld.PERF_CTRn_CFG_event
  let unit := rdF s (Reg.PERF_CTRn_CFG n) Fld.PERF_CTRn_CFG_unit
  decide ((ev = 1 ∧ rdB s (Reg.PERF_CTRn_CFG n) Fld.PERF_CTRn_CFG_level = true) ∨ ev = 2 ∨ (unit = 0x50 ∧ (ev = 0x10 ∨ ev = 0x11)) ∨
    ((0x40 ≤ unit ∧ unit ≤ 0x43 ∨ 0xC0 ≤ unit ∧ unit ≤ 0xDF) ∧ (ev = 0x11 ∨ ev = 0x12)))

/-- Such a counter runs: what it has counted is a free value (log entry 85). -/
def ctrFree (s : State) (n : Nat) : Bool :=
  ctrTimed s n && rdB s (Reg.PERF_CTRn_CFG n) Fld.PERF_CTRn_CFG_enable && !ctrOddHalf s n && !rdB s Reg.PERF_STAT Fld.PERF_STAT_frozen

/-- The value of counter n now. -/
def ctrNow (s : State) (n : Nat) : Nat :=
  if ctrFree s n then ((ctr s n).value + Config.freeValue (s.fresh + n)) % 2 ^ 48 else (ctr s n).value

/-- The occurrence count of flag `overflow` and its flag, set without counting an event: PERF is not a countable
unit (R495). -/
def flagOverflow (s : State) : State :=
  s |> wrF Reg.PERF_FLAGS (0, 1) 1 |> bumpSat Reg.PERF_FLAG_CNT (0, 8) 1

/-- Add v to counter n, which wraps at 2^48 (R496); only an unchained or odd counter counts its own overflow. -/
def ctrAddOne (n v : Nat) (s : State) : State :=
  let c := ctr s n
  if c.value + v < 2 ^ 48 then setCtr n { c with value := c.value + v } s
  else s |> setCtr n { value := (c.value + v) % 2 ^ 48, ovf := satAdd 8 c.ovf ((c.value + v) / 2 ^ 48) }
         |> flagOverflow

/-- The odd partner of counter n counts v carries, unless its enable bit is 0 (R493). -/
def ctrCarry (n v : Nat) (s : State) : State :=
  if rdB s (Reg.PERF_CTRn_CFG (n + 1)) Fld.PERF_CTRn_CFG_enable then ctrAddOne (n + 1) v s else s

/-- Add v to counter n; a chained even counter hands its wraps to its odd partner (R496). -/
def ctrAdd (n v : Nat) (s : State) : State :=
  if ctrChained s n && decide (n % 2 = 0) then
    let c := ctr s n
    let s := setCtr n { c with value := (c.value + v) % 2 ^ 48 } s
    let carry := (c.value + v) / 2 ^ 48
    if carry = 0 then s else s |> flagOverflow |> ctrCarry n carry
  else ctrAddOne n v s

/-- Counter n counts event `ev` of unit `unit` (R495): a quadrant sums its eight clusters. -/
def ctrMatches (s : State) (n unit ev : Nat) : Bool :=
  let r := Reg.PERF_CTRn_CFG n
  let u := rdF s r Fld.PERF_CTRn_CFG_unit
  rdB s r Fld.PERF_CTRn_CFG_enable && decide (rdF s r Fld.PERF_CTRn_CFG_event = ev) && !ctrOddHalf s n &&
    (decide (u = unit) || (decide (0xC0 ≤ unit ∧ unit ≤ 0xDF) && decide (u = 0x40 + (unit - 0xC0) / 8)))

/-- The counters whose set-up differs from reset: only these can be enabled. -/
def ctrsInUse (s : State) : List Nat :=
  (s.regs.filter (fun e => decide (0x1C100 ≤ e.1 ∧ e.1 < 0x1C200))).map (fun e => (e.1 - 0x1C100) / 4)

/-- v occurrences of an event of a unit (R494): edge mode adds v, level mode adds 1; frozen counters hold (R500). -/
def countEvent (unit ev v : Nat) (s : State) : State :=
  if rdB s Reg.PERF_STAT Fld.PERF_STAT_frozen || decide (v = 0) then s
  else (ctrsInUse s).foldl (fun s n =>
    if ctrMatches s n unit ev then
      ctrAdd n (if rdB s (Reg.PERF_CTRn_CFG n) Fld.PERF_CTRn_CFG_level then 1 else v) s
    else s) s

/-- Add to fixed counter k, which wraps at 2^64 (R499). -/
def fixedAdd (k v : Nat) (s : State) : State :=
  if rdB s Reg.PERF_STAT Fld.PERF_STAT_frozen then s
  else
    let x := tabGet (fun _ => 0) s.perf.fixed k + v
    let s := { s with perf := { s.perf with fixed := tabSet (fun _ => 0) s.perf.fixed k (x % 2 ^ 64) } }
    if x < 2 ^ 64 then s else flagOverflow s

/-- v bytes pass bandwidth monitor m (R502). -/
def monitorAdd (m v : Nat) (s : State) : State :=
  let c := tabGet (fun _ => ({} : Monitor)) s.perf.monitors m
  if rdF s (Reg.PERF_BWm_CFG m) Fld.PERF_BWm_CFG_window_us = 0 then s
  else { s with perf := { s.perf with
    monitors := tabSet (fun _ => {}) s.perf.monitors m { c with bytes := c.bytes + v } } }

/-! ### Status flags (R138) -/

/-- Hardware sets a flag: its occurrence count rises and stays at 255, and event 0x0100 + bit is counted. -/
def setFlag (f : Flag) (s : State) : State :=
  s |> wrF f.reg (f.bit, 1) 1 |> bumpSat f.cnt (8 * f.byte, 8) 1 |> countEvent f.unit (0x100 + f.bit) 1

/-- Writing 1 clears a flag and its count. -/
def clearFlag (f : Flag) (s : State) : State :=
  s |> wrF f.reg (f.bit, 1) 0 |> wrF f.cnt (8 * f.byte, 8) 0

/-! ### Frames, ports and permissions -/

/-- SFN now, 64 bits. -/
def sfn (s : State) : Nat := s.sfn

/-- CFN now, 64 bits. -/
def cfn (s : State) : Nat := s.cfn

/-- The owner port after R51. -/
def owner (s : State) : Nat :=
  if s.straps.merge01 ∧ s.straps.ownerSel = 1 then 0
  else if s.straps.merge23 ∧ s.straps.ownerSel = 3 then 2
  else s.straps.ownerSel

/-- HPm exists: it is not absorbed by a merge (R51). -/
def portExists (s : State) (m : Nat) : Bool :=
  decide (m < 4) && !(s.straps.merge01 && decide (m = 1)) && !(s.straps.merge23 && decide (m = 3))

/-- The effective permission mask of a port (R112). -/
def permMask (s : State) (m : Nat) : Nat :=
  if m = owner s then 0x7FFF
  else if portExists s m then rdF s (Reg.TOP_HOST_PERMm m) (0, 15) else 0

/-- A port holds opcode or event group g: bit g of its mask (R112, R115). -/
def holdsGroup (s : State) (m g : Nat) : Bool := decide (1 ≤ g ∧ g ≤ 14) && bitAt (permMask s m) g

/-- READY (R83). -/
def ready (s : State) : Bool := rdB s Reg.BOOT_STATUS Fld.BOOT_STATUS_ready

def portOf (s : State) (p : Nat) : PortState := tabGet (fun _ => {}) s.host.ports p

def setPort (p : Nat) (v : PortState) (s : State) : State :=
  { s with host := { s.host with ports := tabSet (fun _ => {}) s.host.ports p v } }

def sqOf (s : State) (p n : Nat) : SqState := tabGet (fun _ => {}) s.host.sq (8 * p + n)

def setSq (p n : Nat) (v : SqState) (s : State) : State :=
  { s with host := { s.host with sq := tabSet (fun _ => {}) s.host.sq (8 * p + n) v } }

def cqOf (s : State) (p n : Nat) : CqState := tabGet (fun _ => {}) s.host.cq (8 * p + n)

def setCq (p n : Nat) (v : CqState) (s : State) : State :=
  { s with host := { s.host with cq := tabSet (fun _ => {}) s.host.cq (8 * p + n) v } }

def evqOf (s : State) (p : Nat) : CqState := tabGet (fun _ => {}) s.host.evq p

def setEvq (p : Nat) (v : CqState) (s : State) : State :=
  { s with host := { s.host with evq := tabSet (fun _ => {}) s.host.evq p v } }

/-- Entries of a ring whose configuration register is at key k (R116). -/
def ringSize (s : State) (k : Nat) : Nat := 2 ^ rdF s k (8, 5)

def ringOn (s : State) (k : Nat) : Bool := rdB s k (0, 1)

/-! ### Direct writes (R10 to R13, R74, R82, R110) -/

/-- A global set-up register or a lane page: only the owner writes it, once stage LANES has ended (R13, R74). -/
def ownerWrites (s : State) (port : Nat) : Bool :=
  portExists s port && (portOf s port).up && s.boot.lanesDone && decide (port = owner s)

/-- A boot page register other than a W1C field (R82). -/
def bootWrites (s : State) (port : Nat) : Bool :=
  portExists s port && (portOf s port).up && decide (port = owner s)

/-- A port writes its own page (R110). -/
def portWrites (s : State) (port : Nat) : Bool := portExists s port && (portOf s port).up

/-- A direct write to the RW bits of a register: reserved and read-only bits keep their value (R10, R11). -/
def writeRw (k : Nat) (val : Word) (s : State) : State :=
  match regAt k with
  | some r => wr k ((rd s k &&& ~~~BitVec.ofNat 32 r.rw) ||| (val &&& BitVec.ofNat 32 r.rw)) s
  | none => s

/-- A write to a register's RWL bits, which the caller has found writable (R10). -/
def writeRwl (k : Nat) (val : Word) (s : State) : State :=
  match regAt k with
  | some r => wr k ((rd s k &&& ~~~BitVec.ofNat 32 r.rwl) ||| (val &&& BitVec.ofNat 32 r.rwl)) s
  | none => s

/-! ### Interrupts (R136) -/

/-- Send a vector's message; a masked vector, or any under the function mask, sets its pending bit instead, as the PCIe
specification states. -/
def sendMsix (p v : Nat) (s : State) : State :=
  if rdB s (Reg.MSIX_CTRL p v) (0, 1) || (portOf s p).config.msixMask then wrF (Reg.MSIX_PBA p (v / 32)) (v % 32, 1) 1 s
  else emit (.msix p v) s |> monitorAdd p 4

/-- A ring whose coalescing register is at `coal` holds `n` unsignalled records: has the count condition of R136 been met? A
count of 0 acts as 1; one above 256 is used as written (DESIGN CHOICE, log entry 144). -/
def countMet (s : State) (coal n : Nat) : Bool := decide (max 1 (rdF s coal (0, 9)) ≤ n)

/-! ### Event records (R128 to R130) -/

/-- Place v at byte offset o of an event's data, offsets counted from the record's byte 24. -/
def dataAt (o v : Nat) : BitVec 64 := BitVec.ofNat 64 (v * 2 ^ (8 * (o - 24)))

/-- The 32 bytes of an event record (R128). -/
def EventRec.bytes (e : EventRec) : List Byte :=
  leBytes 2 e.code ++ leBytes 1 e.unit ++ leBytes 1 (e.severity + 128 * b2n e.phase) ++ leBytes 8 e.sfn ++
    e.time.bytes ++ leBytes 8 e.data.toNat

/-- The event ring's vector is signalled at once: the records since its last message wait no longer. While its interrupt is
disabled no message goes, and they go on waiting (R136). -/
def sendEvq (p : Nat) (s : State) : State :=
  if rdB s (Reg.EVQ_CFG p) Fld.CQn_CFG_irq_en then
    setEvq p { evqOf s p with unsignalled := 0 } s |> sendMsix p (rdF s (Reg.EVQ_CFG p) Fld.CQn_CFG_vector)
  else s

/-- It is signalled when its count condition is met. -/
def signalEvq (p : Nat) (s : State) : State :=
  if 0 < (evqOf s p).unsignalled ∧ countMet s (Reg.EVQ_COALESCE p) (evqOf s p).unsignalled = true then sendEvq p s else s

/-- Write one record to a port's event ring at its next entry, and signal it by R136. -/
def writeEvent (p : Nat) (e : EventRec) (s : State) : State :=
  let q := evqOf s p
  let size := ringSize s (Reg.EVQ_CFG p)
  let e := { e with phase := decide (q.written / size % 2 = 0) }
  s |> setEvq p { q with written := q.written + 1, unread := q.unread ++ [0], unsignalled := q.unsignalled + 1 }
    |> emit (.event p (q.written % size) e) |> countEvent (0x10 + p) 0x12 1 |> monitorAdd p 32 |> signalEvq p

/-- Free entries of a port's event ring by its last accepted consumer word; 0 while it is disabled. -/
def evqFree (s : State) (p : Nat) : Nat :=
  if ringOn s (Reg.EVQ_CFG p) then ringSize s (Reg.EVQ_CFG p) - (evqOf s p).unread.length else 0

/-- The record of EVENTS_LOST (R130). -/
def eventsLost (s : State) (p : Nat) : EventRec :=
  { code := 0x01F1, unit := 0x10 + p, severity := 1, sfn := sfn s, time := now s,
    data := dataAt 24 ((portOf s p).lostSince % 2 ^ 32) }

/-- A port's filter lets a severity through (R129). -/
def passes (s : State) (p sev : Nat) : Bool := decide (rdF s (Reg.EVQ_FILTER p) Fld.EVQ_FILTER_min_severity ≤ sev)

/-- An event of severity 1 or above waits for the store's event log; while the store is absent at most 4,096 wait,
and one more is dropped and sets log_drop (R427, R433). -/
def logEvent (e : EventRec) (s : State) : State :=
  if !s.store.mounted ∧ 4096 ≤ s.store.logBuf.length then setFlag Flag.STP_log_drop s
  else { s with store := { s.store with
    logBuf := s.store.logBuf ++ [{ e with phase := false }], logNext := s.store.logNext.map (· + 1) } }

/-- At the next free entry the port is told how many events were dropped; the event log takes that event too (R129). -/
def reportLost (p : Nat) (s : State) : State :=
  if (portOf s p).lostSince ≠ 0 ∧ 0 < evqFree s p then
    let e := eventsLost s p
    let s := setPort p { portOf s p with lostSince := 0 } s |> fixedAdd 7 1 |> logEvent e
    if passes s p 1 then writeEvent p e s else s
  else s

/-- One event for one port (R129): filtered by severity, written, or counted as lost. -/
def postToPort (e : EventRec) (s : State) (p : Nat) : State :=
  if !passes s p e.severity then s
  else
    let s := reportLost p s
    if 0 < evqFree s p then writeEvent p e s
    else s |> setPort p { portOf s p with lostSince := (portOf s p).lostSince + 1 }
           |> bumpSat (Reg.PORT_EVQ_LOST p) (0, 32) 1 |> setFlag (Flag.PORT_ev_lost p)

/-- Where an event goes (R129). -/
inductive Route where
  /-- To the port that submitted the descriptor that caused it. -/
  | port (p : Nat)
  /-- To the host of an assigned resource and to the owner. -/
  | resource (p : Nat)
  /-- To the owner and to every participant that holds the event's group. -/
  | device
deriving DecidableEq, Repr

/-- The ports an event of a code goes to. -/
def routePorts (s : State) (r : Route) (code : Nat) : List Nat :=
  match r with
  | .port p => [p]
  | .resource p => if p = owner s then [p] else [owner s, p]
  | .device => [0, 1, 2, 3].filter (fun p =>
      portExists s p && (decide (p = owner s) || holdsGroup s p (code / 256)))

/-- Post an event: stamped with SFN and time, routed by R129, counted, kept for the store's event log from severity
1, and shown to the BMC from severity 2 (R141). -/
def postEvent (r : Route) (code unit sev : Nat) (data : BitVec 64) (s : State) : State :=
  let e : EventRec := { code := code, unit := unit, severity := sev, sfn := sfn s, time := now s, data := data }
  let s := tick s |> fixedAdd 7 1
  let s := (routePorts s r code).foldl (postToPort e) s
  let s := if 1 ≤ sev then logEvent e s else s
  if 2 ≤ sev then emit (.bmcAlert code) s else s

/-! ### Completion records (R124 to R127) -/

/-- The 16-bit code of a status (R131). -/
def Status.code : Status → Nat
  | .ok => 0 | .notReady => 1 | .busy => 2 | .superseded => 3 | .refused => 4 | .noPermission => 5
  | .badDescriptor => 6 | .badAddress => 7 | .fetchFault => 8 | .late => 9 | .noGain => 10 | .outWait => 11
  | .signatureFail => 12 | .resource => 13 | .aborted => 14 | .timeout => 15

/-- The 32 bytes of a completion record (R125). -/
def Completion.bytes (c : Completion) : List Byte :=
  leBytes 4 c.tag.toNat ++ leBytes 2 c.status.code ++ leBytes 2 c.opcode.toNat ++ leBytes 8 c.frame ++
    leBytes 12 c.result.toNat ++ leBytes 3 (c.sq + 8 * (c.seq % 2 ^ 21)) ++ leBytes 1 (b2n c.phase)

/-- Place v at byte offset o of a completion's result, offsets counted from the record's byte 0 (R125). -/
def resAt (o v : Nat) : BitVec 96 := BitVec.ofNat 96 (v * 2 ^ (8 * (o - 16)))

/-- Free entries of completion ring n of port p (R127). -/
def cqFree (s : State) (p n : Nat) : Nat := ringSize s (Reg.CQn_CFG p n) - (cqOf s p n).unread.length

/-- Completion ring n's vector is signalled at once, when its interrupt is enabled (R136). -/
def sendCq (p n : Nat) (s : State) : State :=
  if rdB s (Reg.CQn_CFG p n) Fld.CQn_CFG_irq_en then
    setCq p n { cqOf s p n with unsignalled := 0 } s |> sendMsix p (rdF s (Reg.CQn_CFG p n) Fld.CQn_CFG_vector)
  else s

/-- It is signalled when its count condition is met. -/
def signalCq (p n : Nat) (s : State) : State :=
  if 0 < (cqOf s p n).unsignalled ∧ countMet s (Reg.CQn_COALESCE p n) (cqOf s p n).unsignalled = true then sendCq p n s else s

/-- Write one completion to a ring with a free entry, and signal it by R136. -/
def writeCompletion (p n : Nat) (c : Completion) (s : State) : State :=
  let q := cqOf s p n
  let size := ringSize s (Reg.CQn_CFG p n)
  let c := { c with phase := decide (q.written / size % 2 = 0) }
  s |> setCq p n { q with written := q.written + 1, unread := q.unread ++ [8 * (sqOf s p c.sq).epoch + c.sq],
                          unsignalled := q.unsignalled + 1 }
    |> emit (.completion p n (q.written % size) c) |> countEvent (0x10 + p) 0x11 1 |> monitorAdd p 32 |> signalCq p n

/-- Post a completion to ring n of port p; a full ring holds it, and its first stall is reported (R127). -/
def postCompletion (p n : Nat) (c : Completion) (s : State) : State :=
  let q := cqOf s p n
  if 0 < cqFree s p n ∧ q.held = [] then writeCompletion p n c s
  else
    let s := setCq p n { q with held := q.held ++ [c], stalled := true } s
    if q.stalled then s
    else s |> setFlag (Flag.PORT_cq_stall p) |> postEvent (.port p) 0x01F2 (0x10 + p) 1 (dataAt 24 n)

/-! ### Descriptors (R123) -/

/-- n bytes of a descriptor from byte offset o, as a number. -/
def Dsc.get (d : Dsc) (o n : Nat) : Nat := bitsAt d.raw.toNat (8 * o) (8 * n)

def Dsc.opcode (d : Dsc) : Nat := d.get 0 2
def Dsc.flags (d : Dsc) : Nat := d.get 2 2
def Dsc.tag (d : Dsc) : Nat := d.get 4 4
def Dsc.target (d : Dsc) : Nat := d.get 8 8
def Dsc.u8 (d : Dsc) (o : Nat) : Nat := d.get o 1
def Dsc.u16 (d : Dsc) (o : Nat) : Nat := d.get o 2
def Dsc.u32 (d : Dsc) (o : Nat) : Nat := d.get o 4
def Dsc.u64 (d : Dsc) (o : Nat) : Nat := d.get o 8
def Dsc.continue_ (d : Dsc) : Bool := bitAt d.flags 0
def Dsc.fence (d : Dsc) : Bool := bitAt d.flags 1
def Dsc.eventOn (d : Dsc) : Bool := bitAt d.flags 2
def Dsc.strict (d : Dsc) : Bool := bitAt d.flags 3

/-- Is d the descriptor of a port, ring and sequence? -/
def Dsc.is (d : Dsc) (p q n : Nat) : Bool := decide (d.port = p ∧ d.sq = q ∧ d.seq = n)

/-- The descriptor in flight with a port, ring and sequence. -/
def dscOf (s : State) (p q n : Nat) : Option Dsc := s.host.inflight.find? (fun d => d.is p q n)

/-- Replace a descriptor in flight by one of the same port, ring and sequence. -/
def setDsc (d : Dsc) (s : State) : State :=
  { s with host := { s.host with
      inflight := s.host.inflight.map (fun e => if e.is d.port d.sq d.seq then d else e) } }

/-- The descriptor leaves the device. -/
def dropDsc (d : Dsc) (s : State) : State :=
  { s with host := { s.host with inflight := s.host.inflight.filter (fun e => !e.is d.port d.sq d.seq) } }

/-- A completion of ring n waits, held by a full completion ring (R127). -/
def heldFor (s : State) (p n : Nat) (which : Nat → Bool) : Bool :=
  (cqOf s p (rdF s (Reg.SQn_CFG p n) Fld.SQn_CFG_cq)).held.any (fun c => decide (c.sq = n) && which c.seq)

/-- The last completion of a ring that is being disabled, once it is written, makes its enable read 0 (R118). -/
def drainSq (p n : Nat) (s : State) : State :=
  if (sqOf s p n).draining = true ∧ s.host.inflight.any (fun e => decide (e.port = p ∧ e.sq = n)) = false ∧
      heldFor s p n (fun _ => true) = false then
    s |> wrF (Reg.SQn_CFG p n) Fld.SQn_CFG_enable 0 |> setSq p n { epoch := (sqOf s p n).epoch }
  else s

/-- The completion record of a descriptor. -/
def Dsc.record (d : Dsc) (st : Status) (frame : Nat) (res : BitVec 96) : Completion :=
  { tag := BitVec.ofNat 32 d.tag, status := st, opcode := BitVec.ofNat 16 d.opcode, frame := frame, result := res,
    sq := d.sq, seq := d.seq }

/-- A descriptor completes (R124): its record is posted, its event on completion raised (R130), and it leaves. -/
def complete (d : Dsc) (st : Status) (frame : Nat) (res : BitVec 96) (s : State) : State :=
  let cq := rdF s (Reg.SQn_CFG d.port d.sq) Fld.SQn_CFG_cq
  let s := dropDsc d s |> postCompletion d.port cq (d.record st frame res)
  let s := if d.eventOn then
      postEvent (.port d.port) d.opcode (0x10 + d.port) (if st = .ok then 0 else 1)
        (dataAt 24 d.tag ||| dataAt 28 st.code ||| dataAt 30 cq) s
    else s
  drainSq d.port d.sq s

/-- An I opcode completes: its frame is the SFN current now (R144); on failure it is 0 (R125). A completion that a full ring holds
back keeps that SFN (the model's choice, log entry 160). -/
def completeI (d : Dsc) (st : Status) (res : BitVec 96) (s : State) : State :=
  complete d st (if st = .ok then sfn s else 0) res s

/-- Complete with REFUSED or RESOURCE and the unit ID in byte 16 (R125). -/
def refuseWith (d : Dsc) (st : Status) (unit : Nat) (s : State) : State := complete d st 0 (resAt 16 unit) s

/-- Complete with BAD_DESCRIPTOR or BAD_ADDRESS and the offset of the first bad field (R125). -/
def badWith (d : Dsc) (st : Status) (off : Nat) (s : State) : State := complete d st 0 (resAt 16 off) s

end Sys2Proof.Machine
end

