-- ==== Sys2Proof/Machine/Catalogue.lean ====
section
/-! DEFINITION. The command catalogue (R144 to R178) as data: for every opcode its frame kind, who may issue it, and
its payload fields; and the checks of R123 that a fetched descriptor meets. -/

namespace Sys2Proof.Machine

/-- When an opcode takes effect (R144). -/
inductive FrameKind where
  /-- At a latch instant. -/
  | c
  /-- At a scan frame start. -/
  | s
  /-- When the unit performs it. -/
  | i
  /-- CHECK_EXPECT: bytes 8 to 15 name the frame to compare (R170). -/
  | x
deriving DecidableEq, Repr

/-- What a payload field may hold (R148). -/
inductive FieldRule where
  | any
  | within (lo hi : Nat)
  | oneOf (vs : List Nat)
deriving DecidableEq, Repr

/-- A payload field: byte offset, size in bytes, what it may hold. -/
structure PField where
  off : Nat
  size : Nat
  rule : FieldRule := .any
deriving DecidableEq, Repr

/-- A row of the catalogue. -/
structure OpRow where
  frame : FrameKind
  owner : Bool
  fields : List PField
deriving DecidableEq, Repr

def fAny (o n : Nat) : PField := { off := o, size := n }
def fIn (o n lo hi : Nat) : PField := { off := o, size := n, rule := .within lo hi }
def fOf (o n : Nat) (vs : List Nat) : PField := { off := o, size := n, rule := .oneOf vs }

/-- The payload of TABLE_LOAD and KERNEL_LOAD (R157, R160). -/
def loadFields : List PField := [fIn 16 1 0 1, fAny 18 2, fAny 20 4, fAny 24 8]

/-- The catalogue (R151 to R178). The range 0 to 5 of OP_LIMIT, which stands at max_op, holds for min_op too (the model's choice, log
entry 159). -/
def opRow : Nat → Option OpRow
  | 0x0101 => some ⟨.i, true, [fAny 16 2, fAny 18 2, fIn 20 4 1 0xFFFFFFFF, fIn 24 4 1 0xFFFFFFFF, fOf 28 1 [1, 2],
      fOf 29 1 [8, 10, 12]]⟩
  | 0x0102 => some ⟨.s, true, [fIn 16 1 0 1, fIn 17 1 0 1, fAny 18 2]⟩
  | 0x0103 => some ⟨.i, true, [fIn 16 1 1 6, fIn 17 1 0 3, fAny 18 2, fAny 20 2]⟩
  | 0x0104 => some ⟨.c, false, [fAny 16 2, fAny 18 2, fAny 20 2]⟩
  | 0x0105 => some ⟨.i, true, [fIn 16 1 0 1]⟩
  | 0x0201 => some ⟨.c, false, [fIn 16 1 0 17, fAny 17 1, fAny 18 1, fIn 19 1 0 17, fAny 20 2, fAny 22 2, fAny 24 2,
      fAny 26 2, fIn 28 1 0 6, fIn 29 1 0 4, fIn 30 1 0 1, fIn 31 1 0 2, fAny 32 2, fAny 34 6, fAny 40 2]⟩
  | 0x0202 => some ⟨.c, false, [fIn 16 1 0 15, fIn 17 1 1 3, fAny 20 4, fAny 24 8, fAny 32 8, fAny 40 8, fAny 48 4,
      fAny 52 4]⟩
  | 0x0203 => some ⟨.c, false, [fIn 16 1 0 17, fIn 17 1 0 1]⟩
  | 0x0204 => some ⟨.c, false, [fIn 16 1 0 17, fIn 17 1 0 1, fAny 20 18, fAny 38 6]⟩
  | 0x0301 => some ⟨.i, false, loadFields⟩
  | 0x0302 => some ⟨.c, false, [fAny 16 4]⟩
  | 0x0303 => some ⟨.s, false, [fAny 16 4]⟩
  | 0x0304 => some ⟨.i, false, [fAny 16 4]⟩
  | 0x0401 => some ⟨.i, false, loadFields⟩
  | 0x0402 => some ⟨.s, false, [fIn 16 1 1 7, fIn 17 1 0 1, fAny 18 2, fAny 20 4, fAny 24 8]⟩
  | 0x0403 => some ⟨.i, false, [fAny 16 2]⟩
  | 0x0501 => some ⟨.i, false, [fAny 16 4]⟩
  | 0x0502 => some ⟨.s, false, [fAny 16 4, fIn 20 1 0 1, fAny 22 2, fAny 24 2]⟩
  | 0x0503 => some ⟨.s, false, []⟩
  | 0x0504 => some ⟨.i, true, [fIn 16 2 1 600, fAny 20 4, fAny 24 4]⟩
  | 0x0505 => some ⟨.i, false, [fAny 16 4]⟩
  | 0x0601 => some ⟨.i, false, [fAny 16 2, fIn 20 4 1 65536, fAny 24 8, fAny 32 8]⟩
  | 0x0602 => some ⟨.i, false, [fAny 16 2, fIn 20 4 1 65536, fAny 24 8, fAny 32 8]⟩
  | 0x0603 => some ⟨.i, true, [fIn 16 1 1 3, fAny 24 8]⟩
  | 0x0604 => some ⟨.i, true, [fAny 16 2]⟩
  | 0x0605 => some ⟨.i, false, []⟩
  | 0x0701 => some ⟨.i, false, [fIn 16 1 0 7, fIn 17 1 0 1, fIn 18 1 0 1, fIn 20 4 1 0xFFFFFFFF, fAny 24 8]⟩
  | 0x0702 => some ⟨.i, false, [fIn 16 1 0 7, fAny 20 4, fAny 24 8]⟩
  | 0x0703 => some ⟨.i, false, [fIn 16 1 0 7]⟩
  | 0x0801 => some ⟨.i, false, [fIn 16 1 0 47, fAny 17 1, fIn 18 1 0 1, fAny 20 2, fAny 22 2, fAny 24 2, fAny 26 2]⟩
  | 0x0802 => some ⟨.x, false, [fIn 16 1 0 47, fIn 17 1 0 1, fAny 20 4]⟩
  | 0x0901 => some ⟨.i, false, [fIn 16 1 0 63, fAny 17 1, fAny 18 1, fAny 20 2, fAny 24 8]⟩
  | 0x0902 => some ⟨.i, false, []⟩
  | 0x0903 => some ⟨.i, true, [fIn 16 1 0 1]⟩
  | 0x0904 => some ⟨.i, false, [fIn 16 1 0 9, fIn 20 4 1 1000000]⟩
  | 0x0905 => some ⟨.i, true, [fOf 16 1 [0, 4, 5, 6, 7, 8, 9, 10, 11, 12, 13, 14, 15, 16, 17, 18, 19, 20],
      fIn 17 1 0 1]⟩
  | 0x0A01 => some ⟨.i, false, [fIn 16 1 0 4]⟩
  | 0x0A02 => some ⟨.i, true, [fIn 16 1 0 4, fIn 17 1 0 5, fIn 18 1 0 5]⟩
  | 0x0B01 => some ⟨.i, true, [fIn 16 1 0 1, fIn 17 1 0 1, fAny 24 8, fAny 32 8]⟩
  | 0x0B02 => some ⟨.i, true, [fIn 16 1 0 1, fAny 17 1, fIn 18 2 1 66]⟩
  | 0x0B03 => some ⟨.i, false, [fIn 16 1 0 1, fAny 17 1]⟩
  | 0x0B04 => some ⟨.i, true, [fIn 16 1 0 1, fAny 17 1, fIn 18 1 0 5, fAny 19 1, fIn 20 1 0 2, fIn 21 1 1 64,
      fAny 24 8]⟩
  | 0x0C01 => some ⟨.s, true, [fIn 16 1 0 3, fIn 17 1 0 1, fIn 18 2 10 1000]⟩
  | 0x0C02 => some ⟨.s, true, [fAny 16 4]⟩
  | 0x0C03 => some ⟨.i, false, [fIn 16 1 0 1, fAny 24 8]⟩
  | 0x0C04 => some ⟨.i, true, [fAny 16 12]⟩
  | 0x0D01 => some ⟨.i, false, [fAny 16 8, fAny 24 32]⟩
  | 0x0D02 => some ⟨.i, true, [fAny 16 8]⟩
  | 0x0D03 => some ⟨.i, true, [fIn 16 1 0 3, fAny 24 8]⟩
  | 0x0D04 => some ⟨.i, true, [fIn 16 1 1 3]⟩
  | 0x0D05 => some ⟨.i, true, [fAny 20 4, fAny 24 8]⟩
  | 0x0D06 => some ⟨.i, true, []⟩
  | 0x0D07 => some ⟨.i, false, [fAny 16 8]⟩
  | 0x0E01 => some ⟨.i, false, [fAny 16 8]⟩
  | 0x0E02 => some ⟨.i, true, [fAny 16 1]⟩
  | 0x0E03 => some ⟨.i, true, [fAny 16 1]⟩
  | 0x0E04 => some ⟨.i, false, [fAny 16 8, fAny 24 4, fIn 28 2 1 4096]⟩
  | _ => none

/-! ### The checks of R123 -/

/-- Does a field hold a value its table allows (R148)? -/
def PField.ok (f : PField) (d : Dsc) : Bool :=
  match f.rule with
  | .any => true
  | .within lo hi => decide (lo ≤ d.get f.off f.size ∧ d.get f.off f.size ≤ hi)
  | .oneOf vs => vs.contains (d.get f.off f.size)

/-- Is payload byte o named by a row (R148)? -/
def OpRow.names (r : OpRow) (o : Nat) : Bool := r.fields.any (fun f => decide (f.off ≤ o ∧ o < f.off + f.size))

/-- A host buffer breaks R149: address not aligned, length zero or too large, or past the top of the space. -/
def bufferBad (addr len align max : Nat) : Bool :=
  decide (addr % align ≠ 0 ∨ len = 0 ∨ max < len ∨ 2 ^ 64 < addr + len)

/-- BAD_ADDRESS at an address field whose buffer breaks R149. -/
def bufferCheck (off addr len align max : Nat) : List (Nat × Status) :=
  if bufferBad addr len align max then [(off, .badAddress)] else []

/-- BAD_DESCRIPTOR at an offset when p holds. -/
def badIf (p : Bool) (off : Nat) : List (Nat × Status) := if p then [(off, .badDescriptor)] else []

/-- Lanes of a link (R34, R173). -/
def laneCount (link : Nat) : Nat := if link = 0 then 32 else 128

/-- The unit IDs of R34. -/
def unitListed (u : Nat) : Bool :=
  [0x01, 0x02, 0x10, 0x11, 0x12, 0x13, 0x14, 0x20, 0x30, 0x31, 0x40, 0x41, 0x42, 0x43, 0x50, 0x60, 0x70, 0x78, 0x80,
    0x88, 0x90, 0x98, 0xA0].contains u || decide (0xC0 ≤ u ∧ u ≤ 0xDF)

/-- Units a counter can count (R495). -/
def unitCountable (u : Nat) : Bool :=
  [0x10, 0x11, 0x12, 0x13, 0x14, 0x20, 0x30, 0x31, 0x40, 0x41, 0x42, 0x43, 0x50, 0x60, 0x70, 0x78, 0x80, 0x88].contains u
    || decide (0xC0 ≤ u ∧ u ≤ 0xDF)

/-- W1C flag bits of a countable unit (R495). -/
def unitFlagBits : Nat → Nat
  | 0x10 | 0x11 | 0x12 | 0x13 => 4
  | 0x14 => 3 | 0x20 => 8 | 0x30 => 3 | 0x31 => 5 | 0x50 => 3 | 0x60 => 8 | 0x70 => 8 | 0x78 => 5 | 0x80 => 4
  | 0x88 => 3
  | _ => 0

/-- Does the event table list this code for this unit (R495)? -/
def eventListed (u e : Nat) : Bool :=
  decide (e = 1 ∨ e = 2) || decide (0x100 ≤ e ∧ e < 0x100 + unitFlagBits u) ||
  (match u with
   | 0x10 | 0x11 | 0x12 | 0x13 => decide (0x10 ≤ e ∧ e ≤ 0x13)
   | 0x14 | 0x31 | 0x80 | 0x88 => decide (0x10 ≤ e ∧ e ≤ 0x11)
   | 0x20 | 0x60 | 0x30 | 0x50 | 0x70 => decide (0x10 ≤ e ∧ e ≤ 0x12)
   | 0x78 => decide (e = 0x10)
   | _ => decide (u ≠ 0x90 ∧ 0x40 ≤ u ∧ 0x10 ≤ e ∧ e ≤ 0x18))

/-- The format codes of R274. -/
def formatListed (f : Nat) : Bool :=
  if f / 64 = 0 then decide (bitsAt f 2 1 = 0 ∧ bitsAt f 4 2 ≤ 2)
  else decide (f = 0x40 ∨ f = 0x41 ∨ f = 0x42)

/-- A timestamp a host supplies has a bad byte (R15): the offset of the first, counted from the timestamp. -/
def stampBad (d : Dsc) (o : Nat) : List (Nat × Status) :=
  badIf (decide (d.u8 (o + 6) ≠ 0)) (o + 6) ++ badIf (decide (d.u8 (o + 7) ≠ 0)) (o + 7) ++
    badIf (decide (1000000000 ≤ d.u32 (o + 8))) (o + 8)

/-- The table identifiers that exist (R574): the offset of the first bad part of one that does not. -/
def tableIdBad (id : Nat) : Option Nat :=
  let cls := id / 0x1000000
  let cell := bitsAt id 20 4
  let idx := bitsAt id 16 4
  let inst := id % 0x10000
  let cellIdx : Option Bool := match cls with
    | 0x01 | 0x02 | 0x10 | 0x12 | 0x22 | 0x24 | 0x30 => some (decide (cell = 15 ∧ idx = 0))
    | 0x11 => some (decide (cell = 1 ∧ idx = 0))
    | 0x20 | 0x21 => some (decide (cell = 0 ∧ idx ≤ 2 ∨ cell = 1 ∧ idx = 0))
    | 0x23 => some (decide (cell ≤ 1 ∧ idx ≤ 7))
    | _ => none
  match cellIdx with
  | none => some 19
  | some false => some 18
  | some true => if (if cls = 2 then inst ≤ 17 else inst = 0) then none else some 16

/-- Is a table of this class activated at a latch instant (R156)? -/
def tableClassC (id : Nat) : Bool := decide (id / 0x1000000 = 1 ∨ id / 0x1000000 = 2)

/-- The checks of TABLE_ACTIVATE_C, TABLE_ACTIVATE_S and TABLE_DROP on their identifier (R159, R574). -/
def tableIdCheck (id : Nat) (wrongClass : Bool) : List (Nat × Status) :=
  match tableIdBad id with
  | some o => [(o, .badDescriptor)]
  | none => badIf wrongClass 19

/-- Payload rules of an opcode beyond its field table: (offset, status) of each breach. The length of CODEC_OUT_BUF counts as the
length of a host buffer, whose breach is BAD_ADDRESS at 24 (R149), and not as a range of R148 (the model's choice, log entry 158). -/
def opExtra (d : Dsc) : List (Nat × Status) :=
  let lane17 := badIf (decide (laneCount (d.u8 16) ≤ d.u8 17)) 17
  match d.opcode with
  | 0x0201 =>
    if d.u8 16 < 16 then
      badIf (decide (d.u8 17 ≠ 1 ∧ d.u8 17 ≠ 2)) 17 ++ badIf (!formatListed (d.u8 18)) 18 ++
      badIf (decide (d.u16 20 < 16 ∨ 15360 < d.u16 20 ∨
        (d.u8 18 / 64 = 0 ∧ bitsAt (d.u8 18) 4 2 ≠ 2 ∧ d.u16 20 % 2 = 1))) 20 ++
      badIf (decide (d.u16 22 < 2 ∨ 8640 < d.u16 22 ∨
        (d.u8 18 / 64 = 0 ∧ bitsAt (d.u8 18) 4 2 = 0 ∧ d.u16 22 % 2 = 1))) 22 ++
      badIf (decide (d.u8 30 = 1 ∧ d.u8 18 / 64 = 0)) 30 ++
      badIf (decide (d.u8 31 ≠ 0 ∧ (d.u8 18 / 64 = 1 ∨ bitsAt (d.u8 18) 4 2 = 2))) 31
    else
      badIf (decide (d.u8 17 ≠ 0)) 17 ++ badIf (decide (d.u8 18 ≠ 0)) 18 ++ badIf (decide (d.u16 20 ≠ 0)) 20 ++
      badIf (decide (d.u16 22 ≠ 0)) 22 ++ badIf (decide (d.u8 30 ≠ 0)) 30
  | 0x0202 =>
    [(24, d.u64 24), (32, d.u64 32), (40, d.u64 40)].filterMap
      (fun e => if e.2 % 256 ≠ 0 then some (e.1, .badAddress) else none) ++
    badIf (decide (d.u32 20 % 256 ≠ 0)) 20 ++ badIf (decide (d.u32 48 % 256 ≠ 0)) 48 ++
    badIf (decide (d.u32 52 % 256 ≠ 0)) 52 ++
    badIf (decide (d.u8 17 < 2 ∧ d.u32 48 ≠ 0)) 48 ++ badIf (decide (d.u8 17 < 3 ∧ d.u32 52 ≠ 0)) 52
  | 0x0204 => badIf (decide (d.u8 17 = 1 ∧ d.u16 38 ≠ 0)) 38 ++ badIf (decide (d.u8 17 = 1 ∧ d.u16 40 ≠ 0)) 40 ++
      badIf (decide (d.u8 17 = 1 ∧ d.u16 42 ≠ 0)) 42
  | 0x0301 | 0x0401 =>
    if d.u8 16 = 0 then bufferCheck 24 (d.u64 24) (d.u32 20) 64 0xFFFFF000
    else badIf (decide (d.u32 20 % 4096 ≠ 0 ∨ d.u32 20 = 0)) 20
  | 0x0302 => tableIdCheck (d.u32 16) (!tableClassC (d.u32 16))
  | 0x0303 => tableIdCheck (d.u32 16) (tableClassC (d.u32 16))
  | 0x0304 => tableIdCheck (d.u32 16) false
  | 0x0402 => if d.u32 20 = 0 then [] else bufferCheck 24 (d.u64 24) (d.u32 20) 64 4096
  | 0x0601 | 0x0602 => bufferCheck 32 (d.u64 32) (d.u32 20 * 4096) 4096 (65536 * 4096)
  | 0x0701 =>
    badIf (decide (d.u8 17 = 0 ∧ d.u32 20 % 2 = 1)) 20 ++
    (if d.u8 18 = 0 then bufferCheck 24 (d.u64 24) (d.u32 20) 64 0xFFFFFFFF
     else badIf (decide (d.u32 20 % 4096 ≠ 0)) 20)
  | 0x0702 =>
    if d.u32 20 < 4096 ∨ d.u32 20 % 8 ≠ 0 then [(24, .badAddress)]
    else bufferCheck 24 (d.u64 24) (d.u32 20) 64 0xFFFFF000
  | 0x0801 =>
    badIf (decide ((if d.u8 16 / 16 = 1 then 0 else 1) < d.u8 17)) 17
  | 0x0901 => badIf (!unitCountable (d.u8 18)) 18 ++ badIf (!eventListed (d.u8 18) (d.u16 20)) 20
  | 0x0B01 =>
    if d.u8 16 = 0 then badIf (decide (2 ^ 32 ≤ d.u64 24)) 24 ++ badIf (decide (d.u64 32 ≠ 0)) 32 else []
  | 0x0B02 | 0x0B03 => lane17
  | 0x0B04 => lane17 ++
      badIf (decide (3 < d.u8 19 ∨ (d.u8 16 = 0 ∧ bitAt (d.u8 19) 0) ∨ (d.u8 16 = 1 ∧ bitAt (d.u8 19) 1))) 19
  | 0x0C04 => stampBad d 16
  | 0x0D01 => bufferCheck 16 (d.u64 16) 1616 64 1616
  | 0x0D02 => bufferCheck 16 (d.u64 16) 32 64 32
  | 0x0D03 => bufferCheck 24 (d.u64 24) 3073 64 3073
  | 0x0D05 => bufferCheck 24 (d.u64 24) (d.u32 20) 64 0x1000000
  | 0x0D07 => bufferCheck 16 (d.u64 16) 3120 64 3120
  | 0x0E01 => bufferCheck 16 (d.u64 16) 65536 64 65536
  | 0x0E02 | 0x0E03 => badIf (!unitListed (d.u8 16)) 16
  | 0x0E04 =>
    -- The count is a range field of its own (R148): out of range it leaves the address only its alignment to break.
    bufferCheck 16 (d.u64 16) (if 1 ≤ d.u16 28 ∧ d.u16 28 ≤ 4096 then d.u16 28 * 32 else 1) 64 (4096 * 32)
  | _ => []

/-- Every payload breach of a descriptor: fields, reserved bytes, and the opcode's own rules. -/
def payloadBreaches (r : OpRow) (d : Dsc) : List (Nat × Status) :=
  (r.fields.filter (fun f => !f.ok d)).map (fun f => (f.off, Status.badDescriptor)) ++
  (((List.range 48).map (· + 16)).filter (fun o => decide (d.u8 o ≠ 0) && !r.names o)).map
    (fun o => (o, Status.badDescriptor)) ++ opExtra d

/-- The breach at the lowest offset. -/
def firstBreach : List (Nat × Status) → Option (Nat × Status)
  | [] => none
  | b :: bs => match firstBreach bs with
    | none => some b
    | some c => if c.1 < b.1 then some c else some b

/-! ### Assignment (R114, R152) -/

/-- The host a resource of a kind is assigned to; everything not assigned is the owner's. -/
def hostOf (s : State) (kind idx : Nat) : Nat :=
  match tabGet (fun _ => 0) s.assign (kind * 0x10000 + idx) with
  | 0 => owner s
  | h + 1 => h

/-- Assign a resource; giving it to the owner is giving it back. -/
def setHost (kind idx h : Nat) (s : State) : State :=
  { s with assign := tabSet (fun _ => 0) s.assign (kind * 0x10000 + idx) (if h = owner s then 0 else h + 1) }

/-- The resource a descriptor names, as ASSIGN kind and index. Layers 16 and 17 cannot be assigned, so they are the
owner's. A hold item names its store region in bits [31:16] (R420). -/
def Dsc.resource (d : Dsc) : Option (Nat × Nat) :=
  match d.opcode with
  | 0x0201 | 0x0202 | 0x0203 | 0x0204 => if d.u8 16 ≤ 17 then some (1, d.u8 16) else none
  | 0x0901 => if d.u8 16 < 64 then some (2, d.u8 16) else none
  | 0x0801 | 0x0802 => if d.u8 16 < 48 then some (3, d.u8 16) else none
  | 0x0701 | 0x0702 | 0x0703 => if d.u8 16 < 8 then some (4, d.u8 16) else none
  | 0x0601 | 0x0602 | 0x0604 => some (5, d.u16 16)
  | 0x0301 | 0x0401 => if d.u8 16 = 1 then some (5, d.u16 18) else none
  | 0x0501 | 0x0502 | 0x0505 => some (5, d.u16 18)
  | 0x0504 => if d.u32 24 = 0 then none else some (5, d.u16 26)
  | 0x0904 => if d.u8 16 < 10 then some (6, d.u8 16) else none
  | _ => none

/-- The region a codec job reads from the store (R166). -/
def Dsc.codecRegion (d : Dsc) : Option Nat :=
  if d.opcode = 0x0701 ∧ d.u8 18 = 1 then some (d.u16 30) else none

/-- Check 6: every resource the descriptor names is assigned to its port. -/
def assigned (s : State) (d : Dsc) : Bool :=
  (match d.resource with
   | some (k, i) => decide (hostOf s k i = d.port)
   | none => true) &&
  (match d.codecRegion with
   | some r => decide (hostOf s 5 r = d.port)
   | none => true)

/-- The checks of R123 in their order: the status and offset of the first that fails. -/
def checkDsc (s : State) (d : Dsc) : Option (Status × Nat) :=
  if d.flags / 16 ≠ 0 then some (.badDescriptor, 2)
  else match opRow d.opcode with
    | none => some (.badDescriptor, 0)
    | some r =>
      if d.strict ∧ ¬ (d.opcode = 0x0701 ∧ d.u8 17 = 0) then some (.badDescriptor, 2)
      else if (r.frame = .i ∧ d.target ≠ 0) ∨ (r.frame = .c ∧ cfn s + 1000000 < d.target) ∨
          (r.frame = .x ∧ d.u8 17 = 1 ∧ d.target ≠ 0) then some (.badDescriptor, 8)
      else if ¬ holdsGroup s d.port (d.opcode / 256) ∨ (r.owner ∧ d.port ≠ owner s) then some (.noPermission, 0)
      else if ¬ assigned s d then some (.noPermission, 0)
      else match firstBreach (payloadBreaches r d) with
        | some (o, st) => some (st, o)
        | none => none

/-- Is the opcode marked C (R145)? -/
def Dsc.isC (d : Dsc) : Bool :=
  match opRow d.opcode with
  | some r => decide (r.frame = .c)
  | none => false

end Sys2Proof.Machine
end

