-- ==== Sys2Proof/Machine/HostRings.lean ====
section
/-! DEFINITION. Host port commands: kicks, doorbell and descriptor fetches, ring set-up, coalescing (R116 to
R136). -/

namespace Sys2Proof.Machine

/-! ### Fetch triggers (R121) -/

/-- A trigger of the doorbell fetch: nothing before READY or on a port that is down; one more fetch while one is in
flight. -/
def triggerFetch (p : Nat) (s : State) : State :=
  if !ready s || !(portOf s p).up then s
  else if (portOf s p).fetchBusy then setPort p { portOf s p with fetchPending := true } s
  else s |> setPort p { portOf s p with fetchBusy := true } |> emit (.doorbellFetch p)

/-- PORT_KICK (R121): any value triggers a fetch. -/
def execPortKick (port : Nat) (_val : Word) (s : State) : Host.Outcome State Fault Refusal :=
  if portWrites s port then .next (triggerFetch port s) else .next s

/-- POLL_TIMER_EXPIRY (R121): a trigger while PORT_POLL is not off. -/
def execPollTimerExpiry (port : Nat) (s : State) : Host.Outcome State Fault Refusal :=
  if rdF s (Reg.PORT_POLL port) Fld.PORT_POLL_period_us = 0 then .next s else .next (triggerFetch port s)

/-! ### Doorbell and consumer words (R120) -/

/-- What a fetched word says against the last accepted tail t0, generation g0, ring size and free slots. -/
inductive Judged where
  | same
  | bad
  | advance (n tail gen : Nat)
deriving DecidableEq, Repr

def judgeWord (w t0 g0 size free : Nat) : Judged :=
  let t := w % 0x10000
  let g := bitsAt w 16 16
  let gExp := if t0 ≤ t then g0 else (g0 + 1) % 0x10000
  if w = t0 + 0x10000 * g0 then .same
  else if w / 2 ^ 32 = 0 ∧ t < size ∧ g = gExp ∧ (t + size - t0) % size ≤ free then
    .advance ((t + size - t0) % size) t g
  else .bad

/-- A rejected word sets db_bad, and posts DOORBELL_BAD the first time that value is seen on the ring (R120). -/
def doorbellBad (p ring w : Nat) (seen : List Nat) (s : State) : State :=
  let s := setFlag (Flag.PORT_db_bad p) s
  if seen.contains w then s
  else postEvent (.port p) 0x01F0 (0x10 + p) 1
    (dataAt 24 ring ||| dataAt 26 6 ||| dataAt 28 (w % 2 ^ 32)) s

/-- Free slots of a submission ring: those not holding an outstanding descriptor. -/
def sqFree (s : State) (p n : Nat) : Nat := ringSize s (Reg.SQn_CFG p n) - (sqOf s p n).outstanding

/-- A ring that is being disabled still reads enable 1, so its word is tested too; nothing more is fetched from it. -/
def sqWord (p n w : Nat) (s : State) : State :=
  if !ringOn s (Reg.SQn_CFG p n) then s
  else
    let q := sqOf s p n
    match judgeWord w q.tail q.gen (ringSize s (Reg.SQn_CFG p n)) (sqFree s p n) with
    | .same => s
    | .advance a t g =>
      setSq p n { q with tail := t, gen := g, waiting := q.waiting + a, outstanding := q.outstanding + a } s
    | .bad => s |> setSq p n { q with badSeen := if q.badSeen.contains w then q.badSeen else w :: q.badSeen }
                |> doorbellBad p n w q.badSeen

/-- A slot of a ring becomes free when its completion is consumed (R124): the record names the ring and the enable it
belongs to. -/
def freeSlot (p : Nat) (s : State) (e : Nat) : State :=
  let q := sqOf s p (e % 8)
  if q.epoch = e / 8 then setSq p (e % 8) { q with outstanding := q.outstanding - 1 } s else s

/-- Write completions a full ring held, as far as entries are free (R127). -/
def releaseHeld (p n : Nat) : Nat → State → State
  | 0, s => s
  | fuel + 1, s =>
    match (cqOf s p n).held with
    | [] => setCq p n { cqOf s p n with stalled := false } s
    | c :: rest =>
      if 0 < cqFree s p n then
        releaseHeld p n fuel (s |> setCq p n { cqOf s p n with held := rest } |> writeCompletion p n c |> drainSq p c.sq)
      else s

def cqWord (p n w : Nat) (s : State) : State :=
  if !ringOn s (Reg.CQn_CFG p n) then s
  else
    let q := cqOf s p n
    match judgeWord w q.cons q.gen (ringSize s (Reg.CQn_CFG p n)) q.unread.length with
    | .same => s
    | .advance a t g =>
      let s := setCq p n { q with cons := t, gen := g, unread := q.unread.drop a } s
      let s := (q.unread.take a).foldl (freeSlot p) s
      releaseHeld p n (q.held.length + 1) s
    | .bad => s |> setCq p n { q with badSeen := if q.badSeen.contains w then q.badSeen else w :: q.badSeen }
                |> doorbellBad p (0x40 + n) w q.badSeen

def evqWord (p w : Nat) (s : State) : State :=
  if !ringOn s (Reg.EVQ_CFG p) then s
  else
    let q := evqOf s p
    match judgeWord w q.cons q.gen (ringSize s (Reg.EVQ_CFG p)) q.unread.length with
    | .same => s
    | .advance a t g =>
      s |> setEvq p { q with cons := t, gen := g, unread := q.unread.drop a } |> reportLost p
    | .bad => s |> setEvq p { q with badSeen := if q.badSeen.contains w then q.badSeen else w :: q.badSeen }
                |> doorbellBad p 0x80 w q.badSeen

/-- The fetch in flight ends; a trigger that came meanwhile causes one more (R121). -/
def fetchEnds (p : Nat) (s : State) : State :=
  if (portOf s p).fetchPending then
    s |> setPort p { portOf s p with fetchPending := false, fetchBusy := true } |> emit (.doorbellFetch p)
  else setPort p { portOf s p with fetchBusy := false } s

/-- The words of a returned block (R119): consumer words first, so that slots they free count for the doorbells of
the same block. -/
def acceptBlock (p : Nat) (ws : List (BitVec 64)) (s : State) : State :=
  let w := fun i => (ws.getD i 0).toNat
  let s := [0, 1, 2, 3, 4, 5, 6, 7].foldl (fun s n => cqWord p n (w (8 + n)) s) s
  let s := evqWord p (w 16) s
  [0, 1, 2, 3, 4, 5, 6, 7].foldl (fun s n => sqWord p n (w n) s) s

/-- A failed block read abandons the fetch (R122); the event is posted once for each run of failures. -/
def blockReadFailed (p : Nat) (s : State) : State :=
  let told := (portOf s p).blockFault
  let s := s |> setPort p { portOf s p with blockFault := true } |> setFlag (Flag.PORT_fetch_fault p)
  if told then s
  else postEvent (.port p) 0x01F3 (0x10 + p) 2 (dataAt 24 0x90 ||| dataAt 26 8) s

/-- DOORBELL_FETCH_DONE (R120, R122): the 144-byte read returns its 18 words, or an error. No fetch in flight: no
effect. -/
def execDoorbellFetchDone (port : Nat) (words : Option (List (BitVec 64))) (s : State) :
    Host.Outcome State Fault Refusal :=
  if !(portOf s port).fetchBusy then .next s
  else
    let s := countEvent (0x10 + port) 0x13 1 s
    match words with
    | none => .next (s |> blockReadFailed port |> fetchEnds port)
    | some ws =>
      .next (s |> setPort port { portOf s port with blockFault := false } |> monitorAdd port 144
        |> acceptBlock port ws |> fetchEnds port)

/-! ### Descriptor fetch, checks and commit groups (R122, R123, R132) -/

def groupOf (s : State) (g : Nat) : Option Group := s.host.groups.find? (fun x => decide (x.id = g))

def setGroup (g : Group) (s : State) : State :=
  { s with host := { s.host with
      groups := if s.host.groups.any (fun x => decide (x.id = g.id))
        then s.host.groups.map (fun x => if x.id = g.id then g else x) else s.host.groups ++ [g] } }

def dropGroup (g : Nat) (s : State) : State :=
  { s with host := { s.host with groups := s.host.groups.filter (fun x => !decide (x.id = g)) } }

/-- Complete every member of a group with one status and offset, in ring order, and forget the group. -/
def failGroup (g : Group) (st : Status) (off : Nat) (s : State) : State :=
  g.members.foldl (fun s n =>
    match dscOf s g.port g.sq n with
    | some d => badWith d st off s
    | none => s) (dropGroup g.id s)

/-- The result bytes of a status with an offset or a unit (R125). -/
def failRes (st : Status) (v : Nat) : BitVec 96 :=
  match st with
  | .badDescriptor | .badAddress | .refused | .resource | .timeout => resAt 16 v
  | _ => 0

/-- A group whose members did not all pass: each failing member gets its own status, every other ABORTED (R132). -/
def abortGroup (g : Group) (s : State) : State :=
  g.members.foldl (fun s n =>
    match dscOf s g.port g.sq n with
    | some d =>
      match g.failed.find? (fun f => decide (f.1 = n)) with
      | some f => complete d f.2.1 0 f.2.2 s
      | none => complete d .aborted 0 0 s
    | none => s) (dropGroup g.id s)

/-- One more member is the cause of a group's failure (R132). -/
def failMember (d : Dsc) (st : Status) (v : Nat) (s : State) : State :=
  match groupOf s d.group with
  | some g => abortGroup { g with failed := g.failed ++ [(d.seq, st, failRes st v)] } s
  | none => complete d st 0 (failRes st v) s

/-- Does any member of the group carry an opcode that is not marked C (R132, R145)? -/
def groupHasNonC (s : State) (g : Group) : Bool :=
  g.members.any (fun n => match dscOf s g.port g.sq n with
    | some d => !d.isC
    | none => false)

/-- Does a member other than the first carry a target that is neither 0 nor the group's (R132)? -/
def groupTargetBroken (s : State) (g : Group) : Bool :=
  (g.members.drop 1).any (fun n => match dscOf s g.port g.sq n with
    | some d => decide (d.target ≠ 0 ∧ d.target ≠ g.target)
    | none => false)

/-- The last member of a group has been fetched: the rules of R132 in their order, then the members' checks. -/
def closeGroup (g : Group) (s : State) : State :=
  if g.members.length ≠ 1 ∧ groupHasNonC s g then failGroup g .badDescriptor 0 s
  else if groupTargetBroken s g then failGroup g .badDescriptor 8 s
  else if g.failed ≠ [] then abortGroup g s
  else setGroup { g with closed := true } s

/-- Forget which group of a ring is still arriving. -/
def setOpen (p n : Nat) (g : Option Nat) (s : State) : State :=
  setSq p n { sqOf s p n with openGroup := g } s

/-- A fetched descriptor that is a member of a commit group, with the outcome of its checks. -/
def joinGroup (g : Group) (d : Dsc) (bad : Option (Status × Nat)) (s : State) : State :=
  if g.oversize then
    let s := badWith d .badDescriptor 2 s
    if d.continue_ then s else s |> dropGroup g.id |> setOpen d.port d.sq none
  else if 256 ≤ g.members.length then
    let s := s |> failGroup g .badDescriptor 2 |> badWith d .badDescriptor 2
    if d.continue_ then setGroup { g with members := [], oversize := true } s else setOpen d.port d.sq none s
  else
    let failed := match bad with
      | some (st, v) => g.failed ++ [(d.seq, st, failRes st v)]
      | none => g.failed
    let g := { g with members := g.members ++ [d.seq], failed := failed }
    if d.continue_ then setGroup g s
    else s |> setOpen d.port d.sq none |> closeGroup g

/-- A fetched descriptor enters the device. -/
def addDsc (d : Dsc) (s : State) : State :=
  { s with host := { s.host with inflight := s.host.inflight ++ [d] } }

/-- Take a fetched descriptor through the checks of R123: it is dispatched to its unit, or completes, or joins the
commit group that is arriving on its ring. -/
def parseDsc (d : Dsc) (s : State) : State :=
  let bad := checkDsc s d
  match (sqOf s d.port d.sq).openGroup.bind (groupOf s) with
  | some g => joinGroup g { d with group := g.id } bad (addDsc { d with group := g.id } s)
  | none =>
    if d.continue_ || d.isC then
      let id := s.host.nextGroup
      let s := { s with host := { s.host with nextGroup := id + 1 } }
      let s := if d.continue_ then setOpen d.port d.sq (some id) s else s
      let d := { d with group := id }
      joinGroup { id := id, port := d.port, sq := d.sq, target := d.target, members := [] } d bad (addDsc d s)
    else
      match bad with
      | some (st, v) => complete d st 0 (failRes st v) (addDsc d s)
      | none => addDsc d s

/-- A ring has a descriptor to fetch: enabled, not draining, not faulted, its completion ring not stalled, and a
descriptor accepted and not yet fetched (R118, R122, R127). -/
def hasWork (s : State) (p n : Nat) : Bool :=
  let q := sqOf s p n
  ready s && (portOf s p).up && ringOn s (Reg.SQn_CFG p n) && !q.draining && !q.faulted &&
    !(cqOf s p (rdF s (Reg.SQn_CFG p n) Fld.SQn_CFG_cq)).stalled && decide (0 < q.waiting)

/-- The ring that the port serves next: the one whose turn it is while it has work and fewer than 16 descriptors have been
fetched in the turn, then the others in round-robin order (R122). -/
def servedRing (s : State) (p : Nat) : Option Nat :=
  let v := portOf s p
  if hasWork s p v.turn && decide (v.inTurn < 16) then some v.turn
  else ([1, 2, 3, 4, 5, 6, 7, 8].map (fun i => (v.turn + i) % 8)).find? (hasWork s p)

/-- The device may fetch from a ring: the port serves it. -/
def mayFetch (s : State) (p n : Nat) : Bool := decide (servedRing s p = some n) && hasWork s p n

/-- A descriptor is fetched from the ring served: the turn goes on, or passes to it. -/
def takeTurn (p n : Nat) (s : State) : State :=
  let v := portOf s p
  setPort p { v with turn := n, inTurn := if v.turn = n ∧ v.inTurn < 16 then v.inTurn + 1 else 1 } s

/-- DESCRIPTOR_FETCH_DONE (R122, R123): the 64 bytes of the descriptor at the ring's head, or a read error. -/
def execDescriptorFetchDone (port sq : Nat) (raw : Option (BitVec 512)) (s : State) :
    Host.Outcome State Fault Refusal :=
  if !mayFetch s port sq then .next s
  else
    let q := sqOf s port sq
    match raw with
    | none =>
      .next (s |> setSq port sq { q with faulted := true } |> setFlag (Flag.PORT_fetch_fault port)
        |> postEvent (.port port) 0x01F3 (0x10 + port) 2 (dataAt 24 sq ||| dataAt 26 8))
    | some w =>
      .next (s |> takeTurn port sq |> setSq port sq { q with fetched := q.fetched + 1, waiting := q.waiting - 1 }
        |> countEvent (0x10 + port) 0x10 1 |> monitorAdd port 64
        |> parseDsc { port := port, sq := sq, seq := q.fetched, raw := w })

/-! ### Starting a dispatched descriptor (R134) -/

/-- A descriptor may start: every earlier one of its ring has started, and with its fence every earlier one has
posted its completion. -/
def mayStart (s : State) (d : Dsc) : Bool :=
  (!d.fence || !heldFor s d.port d.sq (fun n => decide (n < d.seq))) && s.host.inflight.all (fun e =>
    decide (¬ (e.port = d.port ∧ e.sq = d.sq ∧ e.seq < d.seq)) || (!d.fence && decide (e.phase ≠ .ready)))

/-- The dispatched descriptor with an opcode that a command names, when it may start. A member of a commit group may
start once its group has wholly arrived. -/
def readyDsc (s : State) (p q n op : Nat) : Option Dsc :=
  match dscOf s p q n with
  | some d =>
    if d.opcode = op ∧ d.phase = .ready ∧ mayStart s d ∧
        (d.group = 0 ∨ (groupOf s d.group).any (fun g => g.closed)) then some d else none
  | none => none

/-- Run a dispatched descriptor of an opcode; a command that names none has no effect. -/
def withReady (p q n op : Nat) (f : Dsc → State → State) (s : State) : Host.Outcome State Fault Refusal :=
  match readyDsc s p q n op with
  | some d => .next (f d s)
  | none => .next s

/-- The descriptor has begun and its last effect has not ended. -/
def setRunning (d : Dsc) (s : State) : State := setDsc { d with phase := .running } s

/-- The next order of arrival at a unit. -/
def nextOrder (s : State) : Nat × State :=
  (s.host.nextOrder, { s with host := { s.host with nextOrder := s.host.nextOrder + 1 } })

/-! ### Ring set-up (R117, R118) -/

/-- A log2_size a ring may have. -/
def sizeOk (w : Word) : Bool := decide (6 ≤ field w 8 5 ∧ field w 8 5 ≤ 16)

/-- The commit group that is still arriving on a ring that is disabled can never arrive wholly: its members complete with
ABORTED (the model's choice, log entry 108). -/
def dropOpen (p n : Nat) (s : State) : State :=
  match (sqOf s p n).openGroup.bind (groupOf s) with
  | some g => setOpen p n none s |> abortGroup { g with failed := [] }
  | none => s

/-- SQ_CFG_WRITE. Off: size and completion ring apply, and enable when both are good. On: enable = 0 drains. A write of enable = 1 to
a ring that drains has no effect: R118 does not say what it does (the model's choice, log entry 157). -/
def execSqCfgWrite (port n : Nat) (val : Word) (s : State) : Host.Outcome State Fault Refusal :=
  let k := Reg.SQn_CFG port n
  if !portWrites s port || decide (8 ≤ n) then .next s
  else if ringOn s k then
    if field val 0 1 = 1 then .next s
    else .next (setSq port n { sqOf s port n with draining := true, waiting := 0 } s |> dropOpen port n |> drainSq port n)
  else
    let s := s |> wrF k Fld.SQn_CFG_cq (field val 1 3) |> wrF k Fld.SQn_CFG_log2_size (field val 8 5)
    if field val 0 1 = 1 ∧ sizeOk val ∧ ringOn s (Reg.CQn_CFG port (field val 1 3)) then
      .next (s |> wrF k Fld.SQn_CFG_enable 1 |> setSq port n { epoch := (sqOf s port n).epoch + 1 })
    else .next s

/-- An enabled submission ring of the port names completion ring n. -/
def cqNamed (s : State) (port n : Nat) : Bool :=
  [0, 1, 2, 3, 4, 5, 6, 7].any (fun i =>
    ringOn s (Reg.SQn_CFG port i) && decide (rdF s (Reg.SQn_CFG port i) Fld.SQn_CFG_cq = n))

/-- The vector and interrupt enable of a CQn_CFG or EVQ_CFG write; the size only while the ring is off. -/
def cfgCommon (k : Nat) (val : Word) (s : State) : State :=
  let on := ringOn s k
  let s := s |> wrF k Fld.CQn_CFG_vector (field val 16 6) |> wrF k Fld.CQn_CFG_irq_en (field val 22 1)
  if on then s else wrF k Fld.CQn_CFG_log2_size (field val 8 5) s

/-- CQ_CFG_WRITE: enable = 0 is ignored while an enabled submission ring names the ring. -/
def execCqCfgWrite (port n : Nat) (val : Word) (s : State) : Host.Outcome State Fault Refusal :=
  let k := Reg.CQn_CFG port n
  if !portWrites s port || decide (8 ≤ n) then .next s
  else
  let on := ringOn s k
  let s := cfgCommon k val s
  if on then
    if field val 0 1 = 0 ∧ ¬ cqNamed s port n then .next (s |> wrF k Fld.CQn_CFG_enable 0 |> setCq port n {})
    else .next (signalCq port n s)
  else if field val 0 1 = 1 ∧ sizeOk val then .next (s |> wrF k Fld.CQn_CFG_enable 1 |> setCq port n {})
  else .next s

/-- The held start-up failures go to a ring that is enabled after READY: to the owner, and under R129 to a
participant that holds the group of BOOT_FAILURE (R78). -/
def tellFailures (p : Nat) (s : State) : State :=
  if ready s ∧ ringOn s (Reg.EVQ_CFG p) ∧ ¬ (portOf s p).bootTold ∧ (p = owner s ∨ holdsGroup s p 0x0D) then
    s.boot.failures.foldl (fun s e => postToPort e s p) (setPort p { portOf s p with bootTold := true } s)
  else s

/-- EVQ_CFG_WRITE (R118, R129): on enable the first entry is EVENTS_LOST when events were lost, then the held
start-up failures; disable takes effect at once. -/
def execEvqCfgWrite (port : Nat) (val : Word) (s : State) : Host.Outcome State Fault Refusal :=
  let k := Reg.EVQ_CFG port
  if !portWrites s port then .next s
  else
  let on := ringOn s k
  let s := cfgCommon k val s
  if on then
    if field val 0 1 = 0 then .next (s |> wrF k Fld.CQn_CFG_enable 0 |> setEvq port {}) else .next (signalEvq port s)
  else if field val 0 1 = 1 ∧ sizeOk val then
    .next (s |> wrF k Fld.CQn_CFG_enable 1 |> setEvq port {} |> reportLost port |> tellFailures port)
  else .next s

/-- COALESCE_TIMER_EXPIRY (R136): ring 0x40 + n is CQn and 0x80 the event ring; the vector's message is sent when
records wait unsignalled, the ring has a timer, and its interrupt is enabled. -/
def execCoalesceTimerExpiry (port ring : Nat) (s : State) : Host.Outcome State Fault Refusal :=
  let ev := decide (ring = 0x80)
  let cfg := if ev then Reg.EVQ_CFG port else Reg.CQn_CFG port (ring - 0x40)
  let coal := if ev then Reg.EVQ_COALESCE port else Reg.CQn_COALESCE port (ring - 0x40)
  let q := if ev then evqOf s port else cqOf s port (ring - 0x40)
  if rdF s coal Fld.CQn_COALESCE_time_us = 0 ∨ q.unsignalled = 0 ∨ ¬ ringOn s cfg then .next s
  else .next (if ev then sendEvq port s else sendCq port (ring - 0x40) s)

end Sys2Proof.Machine
end

