-- ==== Sys2Proof/Machine/PowerOps.lean ====
section
/-! DEFINITION. What every block needs of the power sequencer: whether a domain is clocked, wakes and their latch
(R515, R522 to R525), the result word of R513. -/

namespace Sys2Proof.Machine

/-- The code of a state in POWER_REQ and PWR_STAT (R172). -/
def PState.code : PState → Nat
  | .run => 0 | .idle => 1 | .sleep => 2 | .deep => 3 | .off => 4

/-- The state of a code. -/
def PState.ofCode : Nat → PState
  | 0 => .run | 1 => .idle | 2 => .sleep | 3 => .deep | _ => .off

/-- The requester byte of POWER_STATE (R535). -/
def Requester.code : Requester → Nat
  | .port p => p | .bmc => 4 | .mgmt => 5 | .none => 0xFF

def setPower (p : PowerState) (s : State) : State := { s with power := p }

/-- CK_COMP and the quadrant clocks run: in RUN, and until an entry has gated them (R509). -/
def compClocked (s : State) : Bool := decide (s.power.state = .run)

/-- The lanes, RAST and BKL are powered: RUN and IDLE (R31, R509). -/
def panelPowered (s : State) : Bool := decide (s.power.state = .run ∨ s.power.state = .idle)

/-! ### A result word (R137) -/

/-- A block accepts a request: the sequence moves on, busy is set, valid is cleared and the data words are 0. -/
def resultBegin (k : Nat) (data : List Nat) (s : State) : State :=
  let s := wrF k (0, 8) (rdF s k (0, 8) + 1) s |> wrF k (8, 1) 0 |> wrF k (9, 1) 1 |> wrF k (10, 2) 0
  data.foldl (fun s d => wr d 0 s) s

/-- A request finishes with a status code in bits [11:10]. -/
def resultEnd (k st : Nat) (s : State) : State := wrF k (8, 1) 1 s |> wrF k (9, 1) 0 |> wrF k (10, 2) st

/-- The result word shows a request running. -/
def resultBusy (s : State) (k : Nat) : Bool := rdB s k (9, 1)

/-! ### Rails (R31, R53, R54, R534) -/

/-- The bytes of a PMBus write: the regulator's address 0x40 + n with the write bit, the command code, its data, and the
packet error code (R54, R534). OPERATION and ON_OFF_CONFIG carry one byte, VOUT_COMMAND a ULINEAR16 word, CLEAR_FAULTS
none. -/
def pmbusBytes (n cmd val : Nat) : List Byte :=
  let head := [BitVec.ofNat 8 (2 * (0x40 + n)), BitVec.ofNat 8 cmd] ++ (match cmd with
    | 0x03 => []
    | 0x21 => leBytes 2 (Config.ulinear16 n val)
    | _ => leBytes 1 val)
  head ++ leBytes 1 (crc8 head)

/-- PWR writes a PMBus command. -/
def pmbus (n cmd val : Nat) (s : State) : State := emit (.pmbus n cmd val (pmbusBytes n cmd val)) s

/-- PWR turns a rail on, when it is off: ON_OFF_CONFIG, VOUT_MODE is read, and OPERATION on. -/
def railOn (n : Nat) (s : State) : State :=
  if s.power.rails.contains n then s
  else setPower { s.power with rails := n :: s.power.rails } s
    |> pmbus n 0x02 Config.onOffConfig.toNat |> emit (.pmbusRead n 0x20) |> pmbus n 0x01 0x80

/-- PWR turns a rail off. -/
def railOff (n : Nat) (s : State) : State :=
  if s.power.rails.contains n then
    pmbus n 0x01 0 (setPower { s.power with rails := s.power.rails.filter (fun r => r != n) } s) else s

/-- Set point of a rail as a start leaves it, in mV (R31, R53): the rails of the operating points at that of OP0. -/
def railNominal (rail : Nat) : Nat := [1800, 800, 650, 1050, 400, 650, 850, 1200].getD rail 0

/-- Commanded voltage of a rail. -/
def railMv (s : State) (rail : Nat) : Nat := tabGet railNominal s.power.volts rail

/-- VOUT_COMMAND to a rail's regulator, when it changes the set point. -/
def commandRail (rail mv : Nat) (s : State) : State :=
  if railMv s rail = mv then s
  else pmbus rail 0x21 mv (setPower { s.power with volts := tabSet railNominal s.power.volts rail mv } s)

/-- The set points of a start for VDD_SRAM, VDD_CORE and VDD_ENG (R31, R32): a device reset leaves every domain at OP0, and
ends retention. -/
def restoreVolts (s : State) : State := [1, 2, 5].foldl (fun s n => commandRail n (railNominal n) s) s

/-- The low-speed inputs and the port sidebands are powered: not in DEEP, in OFF or before VDDIO is on (R45, R49). -/
def inputsLive (s : State) : Bool :=
  s.power.rails.contains 0 && !decide (s.power.state = .deep ∨ s.power.state = .off)

/-! ### Wakes -/

/-- PWR_WAKE_STAT records the last source (R522). -/
def recordWake (w : Wake) (s : State) : State :=
  wrF Reg.PWR_WAKE_STAT Fld.PWR_WAKE_STAT_source w.source s |> wrF Reg.PWR_WAKE_STAT Fld.PWR_WAKE_STAT_port w.port

/-- An exit begins: PWR_RESULT starts a new result (R513), and after SLEEP or DEEP VDD_SRAM rises to 0.80 V and the rails
come back one after another, each after the power-good of the one before (R526, R527). -/
def beginExit (e : Exit) (s : State) : State :=
  let back := match e.from_ with
    | .sleep => [5]
    | .deep => [2, 5, 6, 7]
    | _ => []
  let s := setPower { s.power with exit := some { e with rails := back, raised := back.take 1 } } s
    |> resultBegin Reg.PWR_RESULT [Reg.PWR_RESULT_DATA]
  match back with
  | [] => s
  | r :: _ => s |> commandRail 1 800 |> railOn r

/-- A wake is recognised: during an entry it is latched (R525), in IDLE, SLEEP or DEEP it begins the exit. -/
def wakeUp (w : Wake) (cause : Nat) (s : State) : State :=
  match s.power.entry, s.power.exit with
  | some e, _ => if e.wake.isSome then s
    else setPower { s.power with entry := some { e with wake := some w } } s |> recordWake w
  | none, some _ => s
  | none, none =>
    if s.power.state = .run ∨ s.power.state = .off then s
    else recordWake w s |> beginExit { from_ := s.power.state, wake := w, cause := cause }

/-- An IDLE trigger (R515): it ends IDLE, is a wake during an IDLE entry, and restarts the static count. -/
def idleTrigger (s : State) : State :=
  let s := setPower { s.power with static := 0 } s
  let entering := match s.power.entry with
    | some e => decide (e.req.target = .idle)
    | none => false
  if entering || decide (s.power.state = .idle) then wakeUp { source := 4 } 5 s else s

/-! ### Operating points (R32, R530 to R533) -/

/-- Operating point in force of a domain: 0 to 3 the quadrants, 4 CK_COMP. -/
def opOf (s : State) (d : Nat) : Nat := tabGet (fun _ => 0) s.power.op d

/-- A domain runs at an operating point; ENG_STAT shows the quadrants'. -/
def setOp (d n : Nat) (s : State) : State :=
  let s := setPower { s.power with op := tabSet (fun _ => 0) s.power.op d n } s
  if d < 4 then wrF Reg.ENG_STAT (3 * d, 3) n s else s

/-- Regulator of the rail that feeds a domain (R31, R534). -/
def railOf (d : Nat) : Nat := if d = 4 then 2 else 5

/-- Voltage of an operating point, in mV (R530). -/
def opMv (s : State) (n : Nat) : Nat := rdF s (Reg.PWR_OPk n) Fld.PWR_OPk_mv

/-- Highest operating point of a quadrant: its OP_LIMIT, and at most OP3 while thermally capped (R531, R546). -/
def quadCap (s : State) (q : Nat) : Nat :=
  let hi := rdF s (Reg.PWR_LIMITd q) Fld.PWR_LIMITd_max_op
  if rdB s Reg.FAULT_STAT Fld.FAULT_STAT_thermal_capped then min 3 hi else hi

/-- The sequencer takes the first waiting domain, when it is free and no entry or exit runs (R532, R533); no quadrant goes above
its highest point. -/
def serveOps : Nat → State → State
  | 0, s => s
  | fuel + 1, s =>
    if s.power.change.isSome ∨ s.power.entry.isSome ∨ s.power.exit.isSome then s
    else
      match [0, 1, 2, 3, 4].find? (fun d => decide (tabGet (fun _ => 0) s.power.want d ≠ 0)) with
      | none => s
      | some d =>
        let asked := tabGet (fun _ => 0) s.power.want d - 1
        let n := if d < 4 then min asked (quadCap s d) else asked
        let p := { s.power with want := tabSet (fun _ => 0) s.power.want d 0 }
        if n = opOf s d then serveOps fuel (setPower p s)
        else
          let s := setPower { p with change := some { domain := d, target := n } } s
          if railMv s (railOf d) < opMv s n then commandRail (railOf d) (opMv s n) s else s

/-- A domain asks for an operating point, for a cause of R376. -/
def wantOp (d n cause : Nat) (s : State) : State :=
  serveOps 5 (setPower { s.power with want := tabSet (fun _ => 0) s.power.want d (n + 1),
                                      opCause := tabSet (fun _ => 0) s.power.opCause d cause } s)

/-- CK_COMP asks for the higher of its floor and min_op (R531). -/
def followCompOp (s : State) : State :=
  let r := Reg.PWR_LIMITd 4
  wantOp 4 (max (rdF s r Fld.PWR_LIMITd_floor) (rdF s r Fld.PWR_LIMITd_min_op)) 3 s

end Sys2Proof.Machine
end

