-- ==== Sys2Proof/Machine/Shake.lean ====
section
/-! DEFINITION. SHAKE256, the extendable-output function of FIPS 202 that R92 names. PRESUMED: its steps are taken from
FIPS 202, which the spec cites and does not repeat. -/

namespace Sys2Proof.Machine

/-- The sponge's 1,600 bits as 25 lanes; lane (x, y) stands at place x + 5 y. -/
abbrev Sponge := List (BitVec 64)

/-- The lane at column x and row y, both taken modulo 5. -/
def wordAt (a : Sponge) (x y : Nat) : BitVec 64 := a.getD (x % 5 + 5 * (y % 5)) 0

/-- A sponge from a value for each column and row. -/
def spongeOf (f : Nat → Nat → BitVec 64) : Sponge :=
  (List.range 5).flatMap (fun y => (List.range 5).map (fun x => f x y))

/-- Step rho's walk over the lanes: from (1, 0), (x, y) goes on to (y, 2 x + 3 y), and the lane met at step t turns by
(t + 1)(t + 2) / 2. `rhoTurn n t x y` looks for the lane of place p in the n steps from t. -/
def rhoTurn (p : Nat) : Nat → Nat → Nat → Nat → Nat
  | 0, _, _, _ => 0
  | n + 1, t, x, y => if x + 5 * y = p then (t + 1) * (t + 2) / 2 % 64 else rhoTurn p n (t + 1) y ((2 * x + 3 * y) % 5)

/-- The register of step iota, bit i of FIPS 202's R in bit i: one shift. -/
def iotaShift (r : Nat) : Nat := if 128 ≤ r then (2 * r ^^^ 0x171) else 2 * r

/-- What step iota adds in a round, from the register at its start: one register output to each bit 2^j - 1, and the
register for the next round. -/
def iotaWord : Nat → Nat → BitVec 64 → BitVec 64 × Nat
  | 0, r, w => (w, r)
  | n + 1, r, w => iotaWord n (iotaShift r) (if r % 2 = 1 then w ||| 1#64 <<< (2 ^ (6 - n) - 1) else w)

/-- A round: theta, rho, pi and chi, then the word w into lane (0, 0). -/
def spongeRound (turns : List Nat) (a : Sponge) (w : BitVec 64) : Sponge :=
  let parity := (List.range 5).map (fun x => (List.range 5).foldl (fun acc y => acc ^^^ wordAt a x y) 0)
  let mixed := spongeOf (fun x y =>
    wordAt a x y ^^^ wordAt parity (x + 4) 0 ^^^ (wordAt parity (x + 1) 0).rotateLeft 1)
  let moved := spongeOf (fun x y => (wordAt mixed (x + 3 * y) x).rotateLeft (turns.getD ((x + 3 * y) % 5 + 5 * x) 0))
  spongeOf (fun x y =>
    let v := wordAt moved x y ^^^ (~~~ wordAt moved (x + 1) y &&& wordAt moved (x + 2) y)
    if x = 0 ∧ y = 0 then v ^^^ w else v)

/-- n rounds from a register of step iota. -/
def spongeRounds (turns : List Nat) : Nat → Nat → Sponge → Sponge
  | 0, _, a => a
  | n + 1, r, a =>
    let i := iotaWord 7 r 0
    spongeRounds turns n i.2 (spongeRound turns a i.1)

/-- The 24 rounds of the permutation. -/
def permute (a : Sponge) : Sponge :=
  spongeRounds ((List.range 25).map (fun p => rhoTurn p 24 0 1 0)) 24 1 a

/-- Cut bytes into lanes, least significant byte first. -/
def toLanes : Nat → List Byte → Sponge
  | 0, _ => []
  | n + 1, bs => BitVec.ofNat 64 (ofLe (bs.take 8)) :: toLanes n (bs.drop 8)

/-- The padded last block of a message: suffix 1111, then pad10*1 over the 136-byte rate. -/
def shakePad (bs : List Byte) : List Byte :=
  if bs.length = 135 then bs ++ [0x9F]
  else bs ++ [0x1F] ++ List.replicate (134 - bs.length) 0 ++ [0x80]

/-- Absorb full blocks of 136 bytes, then the padded rest. -/
def absorb : Nat → Sponge → List Byte → Sponge
  | 0, a, _ => a
  | fuel + 1, a, bs =>
    let xorBlock := fun (b : List Byte) =>
      let ls := toLanes 17 b
      spongeOf (fun x y => wordAt a x y ^^^ ls.getD (x + 5 * y) 0)
    if bs.length < 136 then permute (xorBlock (shakePad bs))
    else absorb fuel (permute (xorBlock (bs.take 136))) (bs.drop 136)

def squeeze : Nat → Sponge → List Byte
  | 0, _ => []
  | fuel + 1, a => (a.take 17).flatMap (fun l => leBytes 8 l.toNat) ++ squeeze fuel (permute a)

/-- shake256(data, n) of R92. -/
def shake256 (data : List Byte) (n : Nat) : List Byte :=
  (squeeze (n / 136 + 1) (absorb (data.length / 136 + 1) (List.replicate 25 0) data)).take n

end Sys2Proof.Machine
end

