-- ==== Sys2Proof/Machine/Mirgo.lean ====
section
/-! DEFINITION. The Mirgo image container and its verification (R90 to R94), and the attestation chains (R99). -/

namespace Sys2Proof.Machine

/-- A section table entry (R91). -/
structure Section where
  type : Nat
  flags : Nat
  offset : Nat
  length : Nat
  target : Nat
deriving DecidableEq, Repr

def readSection (img : List Byte) (i : Nat) : Section :=
  let o := 2048 + 32 * i
  { type := leAt img o 2, flags := leAt img (o + 2) 2, offset := leAt img (o + 4) 4, length := leAt img (o + 8) 4,
    target := leAt img (o + 12) 4 }

def imageType (img : List Byte) : Nat := leAt img 6 2
def imageKeySlot (img : List Byte) : Nat := leAt img 8 1
def imageAdvance (img : List Byte) : Bool := bitAt (leAt img 9 1) 0
def imageVersion (img : List Byte) : Nat := leAt img 10 2
def imageUpdateSeq (img : List Byte) : Nat := leAt img 12 4
def imageTotal (img : List Byte) : Nat := leAt img 16 4
def imageSigOffset (img : List Byte) : Nat := leAt img 20 4
def imageSectionCount (img : List Byte) : Nat := leAt img 24 2
def imageSections (img : List Byte) : List Section := (List.range (imageSectionCount img)).map (readSection img)

def sectionBytes (img : List Byte) (s : Section) : List Byte := (img.drop s.offset).take s.length

/-- A header is a candidate of the boot ROM (R88): magic, format version, and type firmware. -/
def isCandidate (img : List Byte) : Bool :=
  decide (leAt img 0 4 = 0x4752494D ∧ leAt img 4 2 = 1 ∧ imageType img = 1)

/-- The header checks of R92: magic, version, type, section count, and reserved bytes and flag bits 0. -/
def formatOk (img : List Byte) (ty : Nat) : Bool :=
  decide (leAt img 0 4 = 0x4752494D ∧ leAt img 4 2 = 1 ∧ imageType img = ty ∧ 1 ≤ imageSectionCount img ∧
    imageSectionCount img ≤ 64 ∧ imageKeySlot img ≤ 3 ∧ leAt img 9 1 / 2 = 0 ∧ leAt img 26 6 = 0 ∧
    leAt img 64 64 = 0 ∧ leAt img 1921 127 = 0 ∧ imageSigOffset img % 16 = 0 ∧
    2048 + 32 * imageSectionCount img ≤ imageSigOffset img)

/-- The sections lie between the section table and the signature, aligned, and do not overlap (R91, R92). -/
def sectionsOk (img : List Byte) : Bool :=
  let ss := imageSections img
  let lo := 2048 + 32 * imageSectionCount img
  ss.all (fun s => decide (lo ≤ s.offset ∧ s.offset % 16 = 0 ∧ s.offset + s.length ≤ imageSigOffset img)) &&
  (List.range ss.length).all (fun i => (List.range i).all (fun j =>
    match ss[i]?, ss[j]? with
    | some a, some b => decide (a.offset + a.length ≤ b.offset ∨ b.offset + b.length ≤ a.offset)
    | _, _ => true))

def keySlot (s : State) (k : Nat) : KeySlot := tabGet (fun _ => {}) s.fuses.slots k

/-- State of a key slot; slot 0 always counts as enrolled (R94). -/
def slotState (s : State) (k : Nat) : Nat := if k = 0 then 1 else (keySlot s k).state

/-- The 32-byte hash a slot holds (R94). -/
def slotHash (s : State) (k : Nat) : List Byte :=
  leBytes 32 (if k = 0 then Config.romKeyHash else (keySlot s k).hash).toNat

/-- The result of R92. -/
inductive Verdict where
  /-- Every check passed; the image digest d. -/
  | accept (d : List Byte)
  /-- A check failed. -/
  | reject
  /-- Only the last check failed: the security version is below the fused minimum. -/
  | rollback
deriving DecidableEq, Repr

/-- The procedure of R92 on an image of an expected type in a room of so many bytes. -/
def verifyImage (s : State) (img : List Byte) (ty room : Nat) : Verdict :=
  let sig := imageSigOffset img
  let k := imageKeySlot img
  let pub := (img.drop 128).take 1793
  let d := shake256 (img.take sig) 64
  if !formatOk img ty then .reject
  else if room < imageTotal img ∨ img.length < imageTotal img then .reject
  else if sig + 1280 ≠ imageTotal img then .reject
  else if !sectionsOk img then .reject
  else if ty = 1 ∧ k ≠ 0 then .reject
  else if slotState s k ≠ 1 then .reject
  else if shake256 pub 32 ≠ slotHash s k then .reject
  else if !Config.falconVerify pub d ((img.drop sig).take 1280) then .reject
  else if ty = 1 ∧ imageVersion img < s.fuses.minVersion then .rollback
  else .accept d

/-- One more link of a measurement chain (R99). -/
def chain (m : BitVec 512) (d : List Byte) : BitVec 512 :=
  BitVec.ofNat 512 (ofLe (shake256 (leBytes 64 m.toNat ++ d) 64))

/-- m_config (R99): every RWL register in ascending offset, then the permission entries in port order. -/
def configMeasurement (s : State) : List Byte :=
  shake256 ((([0x1014, 0x15008, 0x18000, 0x18004].map (fun k => leBytes 4 (rd s k).toNat)).flatten) ++
    ([0, 1, 2, 3].map (fun m => leBytes 2 (permMask s m))).flatten) 64

/-- What SEC keeps of a firmware image it accepted. -/
def fwInfo (img d : List Byte) (build : Nat) : FwInfo :=
  { updateSeq := imageUpdateSeq img, securityVersion := imageVersion img, build := build,
    advance := imageAdvance img, digest := BitVec.ofNat 512 (ofLe d) }

end Sys2Proof.Machine
end

