-- ==== Sys2Proof/Machine/Reset.lean ====
section
/-! DEFINITION. The resets of R69 and R563, start-up failures (R77, R78), the AON reason bits (R85), and fatal
faults (R541 to R545). -/

namespace Sys2Proof.Machine

/-! ### AON_STATUS reason bits (R85) -/

/-- A reset sets its own reason bits and clears the others of bits 5 to 8. -/
def setReason (bits : List Nat) (s : State) : State :=
  [5, 6, 7, 8].foldl (fun s b => wrF Reg.AON_STATUS (b, 1) (b2n (bits.contains b)) s) s

/-! ### Whole-device resets -/

/-- Fuses after a fuse operation has ended (R93, R95, R96). -/
def burnFuse (op : FuseOp) (f : Fuses) : Fuses :=
  match op with
  | .enrol k h => { f with slots := tabSet (fun _ => {}) f.slots k { state := 1, hash := h } }
  | .revoke k =>
    { f with slots := tabSet (fun _ => {}) f.slots k { tabGet (fun _ => ({} : KeySlot)) f.slots k with state := 3 } }
  | .minimum v => { f with minVersion := max f.minVersion v }

/-- Registers a start or a device reset keeps (R563): AON always, MSI-X across a device reset. -/
def keepsAcross (full : Bool) (k : Nat) : Bool :=
  match regScope k with
  | .aon => true
  | .msix => !full
  | _ => false

/-- The device as a power-on, a wake from OFF (full) or a device reset (not full) leaves it: everything at its reset
value except AON, the fuses and, on a device reset, the straps, the rails, and the link and configuration space of each host port
(R69, R75). A fuse being programmed is finished first and a flash write stops (R568). -/
def restart (full : Bool) (s : State) : State :=
  { pending := s.pending, fresh := s.fresh, out := s.out,
    regs := tabKeep (keepsAcross full) s.regs,
    straps := if full then {} else s.straps,
    fuses := match s.sec.fuse with
      | some (op, _) => burnFuse op s.fuses
      | none => s.fuses,
    sec := { broken := match s.sec.flash with
      | some (k, _) => k :: s.sec.broken
      | none => s.sec.broken },
    boot := { thermalStop := s.boot.thermalStop, bscan := s.boot.bscan },
    power := if full then { cycles := s.power.cycles }
      else { cycles := s.power.cycles, rails := s.power.rails, volts := s.power.volts },
    fault := { fatals := s.fault.fatals, resets := s.fault.resets, pinHeld := s.fault.pinHeld,
               units := if full then [] else (s.host.ports.filter (fun e => e.2.up)).map (fun e => (0x10 + e.1, 1)) },
    host := if full then {}
      else { ports := s.host.ports.filterMap (fun e =>
        let v : PortState := { up := e.2.up, config := e.2.config }
        if v = {} then none else some (e.1, v)) } }

/-- BOOT_STATUS.stage and the phase of the start. -/
def setStage (stage : Nat) (ph : StartPhase) (s : State) : State :=
  { wrF Reg.BOOT_STATUS Fld.BOOT_STATUS_stage stage s with boot := { s.boot with phase := ph } }

/-- A start begins: no firmware source has been chosen yet. R82 gives BOOT_STATUS the reset value 0x0000_0004, and R83 gives this
field 0b11 (log entry 114). -/
def noSource (s : State) : State := wrF Reg.BOOT_STATUS Fld.BOOT_STATUS_fw_source 3 s

/-- A device reset (R69, R71): the panel outputs go Hi-Z, the rings are disabled, and boot restarts at stage RAILS. A rail
that a low-power state has turned off is sequenced from there as in R55; with every rail on, only the PLLs and the boot ROM
remain to start. -/
def deviceReset (s : State) : State :=
  let s := restart false s |> restoreVolts |> noSource
  match (List.range 8).find? (fun n => !s.power.rails.contains n) with
  | some n => railOn n s |> setStage 1 (.rail n)
  | none => setStage 1 .rom s

/-- The device reset of TOP_RESET (R85, R568). -/
def ownerReset (s : State) : State := deviceReset s |> setReason [7]

/-- STOPPED (R79): only a power-on, a wake from OFF or a device reset leaves it. -/
def enterStopped (s : State) : State :=
  let s := setStage 0xF .stopped s
  { s with fault := { s.fault with pinHeld := false } }

/-! ### Start-up failures (R77, R78) -/

/-- Severity of BOOT_FAILURE (R78). -/
def bootFailureSeverity (code : Nat) : Nat := if [0x11, 0x13, 0x30, 0x31, 0x32, 0x41].contains code then 1 else 2

/-- Record a start-up failure: the first stays in fail_code; after READY its event is posted at once, before READY it
is held; either way it goes to the event log. -/
def bootFailure (code slot detail : Nat) (s : State) : State :=
  let stage := rdF s Reg.BOOT_STATUS Fld.BOOT_STATUS_stage
  let data := dataAt 24 code ||| dataAt 25 slot ||| dataAt 26 stage ||| dataAt 28 detail
  let s := if rdF s Reg.BOOT_STATUS Fld.BOOT_STATUS_fail_code = 0 then
      wrF Reg.BOOT_STATUS Fld.BOOT_STATUS_fail_code code s else s
  if ready s then postEvent .device 0x0DF1 1 (bootFailureSeverity code) data s
  else
    let e : EventRec :=
      { code := 0x0DF1, unit := 1, severity := bootFailureSeverity code, sfn := sfn s, time := now s, data := data }
    let s := tick s |> fixedAdd 7 1 |> logEvent e
    let s := if 2 ≤ e.severity then emit (.bmcAlert 0x0DF1) s else s
    { s with boot := { s.boot with failures := s.boot.failures ++ [e] } }

/-! ### Fatal faults (R541 to R545) -/

/-- Fatal faults within the last 600 s (R544), saturating at 255. -/
def recentFatals (s : State) : Nat :=
  min 255 (within s 600000000000 s.fault.fatals).length

/-- Fatal device resets within the last 600 s. -/
def recentResets (s : State) : Nat :=
  (within s 600000000000 s.fault.resets).length

/-- The hottest valid sensor, sQ12.4 as a 16-bit pattern; 0 when none is valid (R569). -/
def hottestRaw (s : State) : Nat :=
  let vs := (List.range 20).filterMap (fun i =>
    if rdB s (Reg.TOP_SENSi i) Fld.TOP_SENSi_valid then some (signed 16 (rdF s (Reg.TOP_SENSi i) (0, 16))) else none)
  match vs with
  | [] => 0
  | v :: rest => pattern 16 (rest.foldl (fun a b => if a < b then b else a) v)

/-- The eight words of a fatal record (R544). -/
def fatalWords (s : State) (cls unit detail status : Nat) : List Nat :=
  let t := now s
  [cls + 0x100 * unit + 0x10000 * detail, sfn s % 2 ^ 32, t.sec % 2 ^ 32, t.sec / 2 ^ 32, t.ns,
   hottestRaw s + 0x10000 * recentFatals s, status, (rd s Reg.FAULT_FATAL_NEXT).toNat]

/-- AON writes the fatal record of the fault (R544). -/
def fatalRecord (cls unit detail status : Nat) (s : State) : State :=
  let s := { s with fault := { s.fault with fatals := upNs s :: s.fault.fatals } }
  let i := (rd s Reg.FAULT_FATAL_NEXT).toNat % 4
  let s := ((List.range 8).zip (fatalWords s cls unit detail status)).foldl
    (fun s e => wr (Reg.FAULT_FATALi (8 * i + e.1)) (BitVec.ofNat 32 e.2) s) s
  tick s |> bumpWrap Reg.FAULT_FATAL_NEXT 1

/-- The FATAL event of R543 with its data. -/
def fatalEvent (s : State) (cls unit seq : Nat) : EventRec :=
  { code := 0x0EF1, unit := unit, severity := 3, sfn := sfn s, time := now s,
    data := dataAt 24 cls ||| dataAt 25 unit ||| dataAt 28 (seq % 2 ^ 32) }

/-- Port hardware writes the FATAL record to its own ring and signals it at once, without coalescing (R543). -/
def fatalToPort (e : EventRec) (s : State) (p : Nat) : State :=
  if portExists s p ∧ 0 < evqFree s p then
    let s := writeEvent p e s
    if (evqOf s p).unsignalled = 0 then s else sendEvq p s
  else s

/-- A fatal fault of class 3 to 6 (R541 to R545): the AON record, the FATAL records, and a fatal device reset. The
watchdog sets its own reason bit beside fatal. In STOPPED, which only a power-on, a wake from OFF or TOP_RESET leaves, the fault
is recorded and told and no reset follows (log entry 150). -/
def fatalReset (cls unit detail : Nat) (s : State) : State :=
  let seq := (rd s Reg.FAULT_FATAL_NEXT).toNat
  let s := fatalRecord cls unit detail 0 s
  let e := fatalEvent s cls unit seq
  let s := [0, 1, 2, 3].foldl (fatalToPort e) s |> emit (.bmcAlert 0x0EF1)
  if s.boot.phase = .stopped then logEvent e s
  else
  let s := { s with fault := { s.fault with resets := upNs s :: s.fault.resets } }
  let s := deviceReset s |> setReason (if cls = 3 then [6, 8] else [8])
  logEvent e { s with fault := { s.fault with pinHeld := true, recovering := some cls } }

/-- Remove rails: PWR commands each off (R57). The order is the reverse of R55 step 4, then VDDIO. -/
def railsOff (s : State) : State :=
  let s := [7, 6, 5, 4, 3, 2, 1, 0].foldl (fun s n =>
    if s.power.rails.contains n then pmbus n 0x01 0 s else s) s
  { s with power := { s.power with rails := [] } }

/-- A start by RESET_N or by a wake from OFF (R55, R69, R85): the whole device is reset and PWR commands VDDIO on. The
start that ends what a thermal trip left keeps thermal_trip; every other one clears the four reason bits. -/
def powerStart (s : State) : State :=
  let bits := if s.boot.thermalStop then [5] else []
  let s := restart true s |> noSource |> setReason bits |> setStage 1 (.rail 0) |> railOn 0
  { s with boot := { s.boot with thermalStop := false } }

/-- FAULT_N is pulled low (R547); in DEEP, in OFF and without VDDIO it is released (R45). -/
def faultPin (s : State) : Bool :=
  inputsLive s && (decide (field (rd s Reg.FAULT_FLAGS) 0 5 &&& rdF s Reg.FAULT_CTRL Fld.FAULT_CTRL_pin_mask ≠ 0) ||
    decide (s.boot.phase = .stopped) || s.fault.pinHeld)

end Sys2Proof.Machine
end

