-- ==== Sys2Proof/Machine/RsvOps.lean ====
section
/-! DEFINITION. Reservoir allocation (R412 to R414), active and staged tables (R156 to R159), and panel_blocked
(R80). -/

namespace Sys2Proof.Machine

/-! ### Allocation -/

/-- Code of a region in RSV_UNCORRECTABLE (R438). -/
def RsvRegion.code : RsvRegion → Nat
  | .demura => 2 | .layer => 3 | .hold => 4 | .tables => 5

/-- Extents of 2 MiB in an owner region. -/
def regionExtents (s : State) (r : RsvRegion) : Nat :=
  (match r with
   | .demura => rdF s Reg.RSV_ALLOC0 Fld.RSV_ALLOC0_demura
   | .layer => rdF s Reg.RSV_ALLOC0 Fld.RSV_ALLOC0_layer
   | .hold => rdF s Reg.RSV_ALLOC1 Fld.RSV_ALLOC1_hold
   | .tables => rdF s Reg.RSV_ALLOC1 Fld.RSV_ALLOC1_tables) / 2

/-- Extents that hold n bytes. -/
def extentsFor (n : Nat) : Nat := (n + 2097151) / 2097152

/-- Extent i of a region is free. -/
def extentFree (s : State) (r : RsvRegion) (i : Nat) : Bool :=
  s.rsv.allocs.all (fun a => !decide (a.region = r ∧ a.start ≤ i ∧ i < a.start + a.extents))

/-- Where the lowest run of `want` free extents starts, looking from extent i with `have_` free ones just below. -/
def findRun (s : State) (r : RsvRegion) (want : Nat) : Nat → Nat → Nat → Option Nat
  | 0, _, _ => none
  | fuel + 1, i, have_ =>
    if extentFree s r i then
      if want ≤ have_ + 1 then some (i + 1 - want) else findRun s r want fuel (i + 1) (have_ + 1)
    else findRun s r want fuel (i + 1) 0

/-- Allocate n bytes under a tag, in one contiguous run; none when no run is large enough. What is written there brings
fresh check symbols. -/
def alloc (r : RsvRegion) (tag n : Nat) (s : State) : Option State :=
  let want := extentsFor n
  if want = 0 then some s
  else
    match findRun s r want (regionExtents s r) 0 0 with
    | some i => some { s with rsv := { s.rsv with
        allocs := s.rsv.allocs ++ [{ region := r, start := i, extents := want, tag := tag }],
        badLines := s.rsv.badLines.filter (fun (b : Nat × Nat) =>
          !decide (b.1 = r.code ∧ 32768 * i ≤ b.2 ∧ b.2 < 32768 * (i + want))) } }
    | none => none

/-- Allocate the two copies of something the tables region holds. -/
def allocTwice (tag n : Nat) (s : State) : Option State := (alloc .tables tag n s).bind (alloc .tables tag n)

/-- The 64-byte line rel of what a tag holds is uncorrectable (R418). -/
def heldBad (s : State) (r : RsvRegion) (tag rel : Nat) : Bool :=
  s.rsv.allocs.any (fun a => decide (a.region = r ∧ a.tag = tag) && s.rsv.badLines.contains (r.code, 32768 * a.start + rel))

/-- Free everything held under a tag of a region. -/
def freeTag (r : RsvRegion) (tag : Nat) (s : State) : State :=
  { s with rsv := { s.rsv with allocs := s.rsv.allocs.filter (fun a => !decide (a.region = r ∧ a.tag = tag)) } }

/-- Hand everything under one tag of a region to another tag. -/
def retag (r : RsvRegion) (old new : Nat) (s : State) : State :=
  { s with rsv := { s.rsv with allocs := s.rsv.allocs.map (fun a =>
      if a.region = r ∧ a.tag = old then { a with tag := new } else a) } }

/-- Tags: the active version of a table is under its identifier, the staged one under this. -/
def stagedTag (id : Nat) : Nat := id + 2 ^ 32
def kernelTag (h : Nat) : Nat := h + 2 ^ 33
/-- Parameter block of a stage and cell in force, and of a bind that waits, by its order of arrival. -/
def paramTag (cell stage : Nat) : Nat := 2 ^ 34 + 8 * cell + stage
def bindTag (order : Nat) : Nat := 2 ^ 40 + order
def holdTag (item : Nat) : Nat := item
/-- The version of a SNAPSHOT layer that is shown, and the one being fetched. -/
def layerTag (n : Nat) (fetching : Bool) : Nat := 2 * n + b2n fetching
/-- The version shown before, while a frame being composed uses it. -/
def oldLayerTag (n : Nat) : Nat := 64 + n

/-! ### Tables -/

/-- The region kind that holds a table (R156). -/
def tableRegion (id : Nat) : RsvRegion := if id / 0x1000000 = 0x21 then .demura else .tables

/-- Section bytes of the active version of an identifier. -/
def activeTable (s : State) (id : Nat) : Option (List Byte) :=
  match tabGet (fun _ => ([] : List Byte)) s.tables.active id with
  | [] => none
  | bs => some bs

/-- Section bytes of the staged version of an identifier. -/
def stagedTable (s : State) (id : Nat) : Option (List Byte) :=
  match tabGet (fun _ => ([] : List Byte)) s.tables.staged id with
  | [] => none
  | bs => some bs

/-- Which version of an identifier is active: a number that changes whenever the active version does. -/
def tableVersion (s : State) (id : Nat) : Nat := tabGet (fun _ => 0) s.tables.version id

/-- Identifier of the linearisation, demura and overdrive tables of a cell (R574). -/
def linId (cell ch : Nat) : Nat := 0x20000000 + 0x100000 * cell + 0x10000 * ch
def demuraId (cell ch : Nat) : Nat := 0x21000000 + 0x100000 * cell + 0x10000 * ch
def odId (cell set : Nat) : Nat := 0x23000000 + 0x100000 * cell + 0x10000 * set

/-- Channels of a cell: three on the front, one on the rear. -/
def channelsOf (cell : Nat) : List Nat := if cell = 0 then [0, 1, 2] else [0]

/-- The overdrive sets of a cell that are active. -/
def odSets (s : State) (cell : Nat) : List Nat :=
  [0, 1, 2, 3, 4, 5, 6, 7].filter (fun i => (activeTable s (odId cell i)).isSome)

/-- PIPE_CTRL enables of a cell, read from a PIPE_CTRL word. -/
def demuraOn (w : Word) (cell : Nat) : Bool := decide (field w (1 + cell) 1 = 1)
def concealOn (w : Word) (cell : Nat) : Bool := decide (field w (3 + cell) 1 = 1)
def odOn (w : Word) (cell : Nat) : Bool := decide (field w (5 + cell) 1 = 1)

/-- The cells a panel uses (R151). -/
def Panel.cellsUsed (p : Panel) : List Nat := if p.cells = 2 then [0, 1] else [0]

/-- Every table the panel needs has an active version (R310, R320, R330). -/
def tablesReady (s : State) (p : Panel) : Bool :=
  let has := fun id => (activeTable s id).isSome
  let w := rd s Reg.PIPE_CTRL
  p.cellsUsed.all (fun c =>
    (channelsOf c).all (fun ch => has (linId c ch) && (!demuraOn w c || has (demuraId c ch))) &&
      (!odOn w c || decide (odSets s c ≠ []))) &&
    (decide (p.cells ≠ 2) || has 0x11100000) &&
    (decide (rdF s Reg.BKL_CTRL Fld.BKL_CTRL_ctrl_en = 0) || has 0x30F00000)

/-- panel_blocked as it stands (R80). -/
def blockedNow (s : State) : Bool :=
  match s.raster.panel with
  | none => true
  | some p => !tablesReady s p

/-- BOOT_STATUS.panel_blocked is evaluated again. -/
def followBlocked (s : State) : State :=
  wrF Reg.BOOT_STATUS Fld.BOOT_STATUS_panel_blocked (b2n (blockedNow s)) s

/-- A table load that runs may bring a table: its image is not read yet or carries it, or it is a deferred boot load of it.
For overdrive any set of the cell serves. -/
def loadRuns (s : State) (id : Nat) : Bool :=
  let same := fun (t : Nat) => if id / 0x1000000 = 0x23 then decide (t / 0x100000 = id / 0x100000) else decide (t = id)
  s.tables.loads.any (fun l => decide (l.opcode = 0x0301) && (match l.data with
    | none => true
    | some img => (imageSections img).any (fun x => decide (x.type = 5) && same x.target))) ||
    s.store.deferred.any (fun e => e.2.any same)

/-- The first table that the panel needs, that has no active version, and of which no load runs (R77). Which of several is
the first is the model's choice: the order of this list (log entry 109). -/
def firstMissing (s : State) (p : Panel) : Option Nat :=
  let w := rd s Reg.PIPE_CTRL
  let ids := p.cellsUsed.flatMap (fun c =>
      (channelsOf c).map (linId c) ++ (if demuraOn w c then (channelsOf c).map (demuraId c) else []) ++
        (if odOn w c ∧ odSets s c = [] then [odId c 0] else [])) ++
    (if p.cells = 2 then [0x11100000] else []) ++
    (if rdF s Reg.BKL_CTRL Fld.BKL_CTRL_ctrl_en = 0 then [] else [0x30F00000])
  ids.find? (fun id => (activeTable s id).isNone && !loadRuns s id)

/-- TABLE_MISSING is recorded once a start (R77), once the manifest has been processed and a panel is configured. -/
def recordMissing (s : State) : State :=
  match s.raster.panel with
  | none => s
  | some p =>
    if s.boot.missingRecorded = true ∨ s.boot.manifestDone = false then s
    else match firstMissing s p with
      | none => s
      | some id => bootFailure 0x32 0xFF id { s with boot := { s.boot with missingRecorded := true } }

/-- Bit s: set s of a cell is active. -/
def odMask (s : State) (cell : Nat) : Nat := (odSets s cell).foldl (fun m i => m + 2 ^ i) 0

/-- COMP_STAT.cube_active, BKL_STAT.map_active and the active sets of PIPE_OD_STAT follow their tables (R298, R327, R348). -/
def showActive (s : State) : State :=
  let s := wrF Reg.PIPE_OD_STAT_F Fld.PIPE_OD_STAT_F_active (odMask s 0) s
    |> wrF Reg.PIPE_OD_STAT_R Fld.PIPE_OD_STAT_F_active (odMask s 1)
  wrF Reg.COMP_STAT Fld.COMP_STAT_cube_active (b2n (activeTable s 0x01F00000).isSome) s
    |> wrF Reg.BKL_STAT Fld.BKL_STAT_map_active (b2n (activeTable s 0x30F00000).isSome)

/-! ### Reference kernels in place of configured ones (R77, R83) -/

def setDegraded (d : List (Nat × Nat)) (s : State) : State :=
  wrF Reg.BOOT_STATUS Fld.BOOT_STATUS_degraded (b2n (decide (d ≠ []))) { s with tables := { s.tables with degraded := d } }

/-- A stage of a cell runs the reference kernel in place of the one configured for it. -/
def degrade (cell stage : Nat) (s : State) : State :=
  if s.tables.degraded.contains (cell, stage) then s else setDegraded ((cell, stage) :: s.tables.degraded) s

/-- The stage has the kernel that is configured for it. -/
def undegrade (cell stage : Nat) (s : State) : State :=
  setDegraded (s.tables.degraded.filter (fun e => decide (e ≠ (cell, stage)))) s

/-- The device frees the active version of a table: it counts as having none (R418). -/
def loseTable (id : Nat) (s : State) : State :=
  let s := { s with tables := { s.tables with
    active := tabSet (fun _ => []) s.tables.active id [],
    version := tabSet (fun _ => 0) s.tables.version id (tableVersion s id + 1) } }
  s |> freeTag (tableRegion id) id |> showActive |> followBlocked

/-- The staged version of an identifier becomes active; the previous one is freed (R159). -/
def activate (id : Nat) (s : State) : State :=
  let bs := tabGet (fun _ => ([] : List Byte)) s.tables.staged id
  let s := { s with tables := { s.tables with
    active := tabSet (fun _ => []) s.tables.active id bs,
    staged := tabSet (fun _ => []) s.tables.staged id [],
    version := tabSet (fun _ => 0) s.tables.version id (tableVersion s id + 1) } }
  let s := s |> freeTag (tableRegion id) id |> retag (tableRegion id) (stagedTag id) id
  showActive s |> followBlocked

/-- Forget the staged version of an identifier. -/
def dropStaged (id : Nat) (s : State) : State :=
  { s with tables := { s.tables with staged := tabSet (fun _ => []) s.tables.staged id [] } }
    |> freeTag (tableRegion id) (stagedTag id)

end Sys2Proof.Machine
end

