-- ==== Sys2Proof/Machine/ChkOps.lean ====
section
/-! DEFINITION. Confidence rectangles: validity, definition and comparison (R485, R486, R489 to R491). -/

namespace Sys2Proof.Machine

def rectOf (s : State) (r : Nat) : RectState := tabGet (fun _ => {}) s.rects r

def setRect (r : Nat) (v : RectState) (s : State) : State := { s with rects := tabSet (fun _ => {}) s.rects r v }

/-- CHK_Rr_CFG.waiting follows the list. -/
def followWaiting (r : Nat) (s : State) : State :=
  wrF (Reg.CHK_Rr_CFG r) Fld.CHK_Rr_CFG_waiting (rectOf s r).waiting.length s

/-- Check point of a rectangle: 0 INPUT, 1 COMPOSED, 2 DRIVE (R169). -/
def checkPoint (r : Nat) : Nat := r / 16

/-- x, y, w, h and source of a rectangle as defined. -/
def rectX (s : State) (r : Nat) : Nat := rdF s (Reg.CHK_Rr_POS r) (0, 16)
def rectY (s : State) (r : Nat) : Nat := rdF s (Reg.CHK_Rr_POS r) (16, 16)
def rectW (s : State) (r : Nat) : Nat := rdF s (Reg.CHK_Rr_SIZE r) (0, 16)
def rectH (s : State) (r : Nat) : Nat := rdF s (Reg.CHK_Rr_SIZE r) (16, 16)
def rectSource (s : State) (r : Nat) : Nat := rdF s (Reg.CHK_Rr_CFG r) Fld.CHK_Rr_CFG_source
def rectOn (s : State) (r : Nat) : Bool := rdB s (Reg.CHK_Rr_CFG r) Fld.CHK_Rr_CFG_enable

/-- A rectangle of check point p and source src is valid (R485). -/
def rectValid (s : State) (p src x y w h : Nat) : Bool :=
  let plane := (rd s (if src = 0 then Reg.HWL_PLANE0 else Reg.HWL_PLANE1)).toNat
  let fw := if p = 0 then bitsAt plane 0 14 else (s.raster.panel.map (·.width)).getD 0
  let fh := if p = 0 then bitsAt plane 14 14 else (s.raster.panel.map (·.height)).getD 0
  decide (1 ≤ w ∧ 1 ≤ h ∧ x + w ≤ fw ∧ y + h ≤ fh) &&
    (decide (p ≠ 0 ∨ bitsAt plane 28 2 < 2) || decide (x % 2 = 0 ∧ w % 2 = 0))

/-- Complete a waiting CHECK_EXPECT, or the CHECK_RECT that waits for its first computation. -/
def endCheck (port sq seq : Nat) (st : Status) (frame : Nat) (res : BitVec 96) (s : State) : State :=
  match dscOf s port sq seq with
  | some d => complete d st frame res s
  | none => s

/-- Clear a rectangle: its sticky value goes, its waiting values and an open CHECK_RECT complete with ABORTED. -/
def clearRect (r : Nat) (s : State) : State :=
  let v := rectOf s r
  let s := setRect r {} s
  let s := v.waiting.foldl (fun s e => endCheck e.port e.sq e.seq .aborted 0 0 s) s
  let s := match v.defining with
    | some (p, q, n) => endCheck p q n .aborted 0 0 s
    | none => s
  s |> wrF (Reg.CHK_Rr_CFG r) Fld.CHK_Rr_CFG_sticky_set 0 |> wr (Reg.CHK_Rr_STICKY r) 0 |> followWaiting r

/-- CHK_ACTIVE follows a rectangle's enable. -/
def followChkActive (r : Nat) (s : State) : State :=
  wrF (if r < 32 then Reg.CHK_ACTIVE_LO else Reg.CHK_ACTIVE_HI) (r % 32, 1) (b2n (rectOn s r)) s

/-- Disable a rectangle. -/
def disableRect (r : Nat) (s : State) : State :=
  clearRect r s |> wrF (Reg.CHK_Rr_CFG r) Fld.CHK_Rr_CFG_enable 0 |> followChkActive r

/-- Rectangles that a change of plane or panel size leaves not valid are disabled (R486). -/
def recheckRects (s : State) : State :=
  (List.range 48).foldl (fun s r =>
    if rectOn s r && !rectValid s (checkPoint r) (rectSource s r) (rectX s r) (rectY s r) (rectW s r) (rectH s r) then
      disableRect r s |> setFlag Flag.CHK_rect_err
    else s) s

/-! ### Comparison -/

/-- Write an entry of the mismatch log (R491). -/
def logMismatch (r flags frame computed expected : Nat) (s : State) : State :=
  let n := (rd s Reg.CHK_LOG_NEXT).toNat
  let bytes := leBytes 8 frame ++ leBytes 1 r ++ leBytes 1 flags ++ leBytes 2 0 ++ leBytes 4 computed ++
    leBytes 4 expected ++ (now s).bytes
  let s := (List.range 8).foldl (fun s i =>
    wr (Reg.CHK_LOG (8 * (n % 16) + i)) (BitVec.ofNat 32 (leAt bytes (4 * i) 4)) s) s
  tick s |> bumpWrap Reg.CHK_LOG_NEXT 1

/-- A comparison of rectangle r fails. told: CHECK_MISMATCH is posted for it (R490, R506). -/
def mismatch (r flags frame computed expected : Nat) (told : Bool) (s : State) : State :=
  let entry := (rd s Reg.CHK_LOG_NEXT).toNat % 16
  let s := s |> logMismatch r flags frame computed expected |> bumpSat Reg.CHK_MISMATCHES Fld.CHK_MISMATCHES_count 1
    |> setFlag Flag.CHK_mismatch |> countEvent 0x88 0x11 1
  if told then
    postEvent (.resource (hostOf s 3 r)) 0x08F0 0x88 2
      (dataAt 24 r ||| dataAt 25 flags ||| dataAt 26 entry ||| dataAt 28 computed) s
  else s

def setLastMatch (r : Nat) (ok : Bool) (s : State) : State :=
  wrF (Reg.CHK_Rr_STAT r) Fld.CHK_Rr_STAT_last_match (b2n ok) s

/-- Compare a per-frame value with the computed one, and complete its CHECK_EXPECT. -/
def comparePerFrame (r flags frame computed : Nat) (s : State) (e : Expect) : State :=
  let ok := decide (e.crc = computed)
  let s := if ok then s else mismatch r flags frame computed e.crc true s
  setLastMatch r ok s |> endCheck e.port e.sq e.seq .ok frame (resAt 16 computed ||| resAt 20 (b2n ok))

/-- Compare the sticky value with a computed one (R490). -/
def compareSticky (r flags frame computed : Nat) (s : State) : State :=
  let want := (rd s (Reg.CHK_Rr_STICKY r)).toNat
  let v := rectOf s r
  if want = computed then
    let s := setLastMatch r true s |> setRect r { v with run := 0 }
    if v.run = 0 then s
    else postEvent (.resource (hostOf s 3 r)) 0x08F1 0x88 0 (dataAt 24 r ||| dataAt 28 (min v.run (2 ^ 32 - 1))) s
  else
    s |> setRect r { v with run := v.run + 1 } |> setLastMatch r false
      |> bumpSat (Reg.CHK_Rr_STAT r) Fld.CHK_Rr_STAT_mismatches 1
      |> mismatch r (flags + 1) frame computed want (decide (v.run = 0))

/-- The computation of a frame of rectangle r ends (R489, R490). dropped: INPUT lines in it were not accepted. -/
def rectComputed (r frame crc : Nat) (dropped : Bool) (s : State) : State :=
  let v := rectOf s r
  let flags := 4 * b2n dropped
  let rest := v.waiting.filter (fun e => decide (frame < e.frame))
  let s := setRect r { v with window := (frame, crc) :: v.window.take 15, defining := none, waiting := rest,
                              dropped := if dropped then frame :: v.dropped.take 15 else v.dropped } s
    |> followWaiting r |> countEvent 0x88 0x10 1
  let s := match v.defining with
    | some (p, q, n) => endCheck p q n .ok (sfn s) (resAt 16 frame) s
    | none => s
  let mine := v.waiting.filter (fun e => decide (e.frame = 0 ∨ e.frame = frame))
  let gone := v.waiting.filter (fun e => decide (e.frame ≠ 0 ∧ e.frame < frame))
  let s := mine.foldl (comparePerFrame r flags frame crc) s
  let s := gone.foldl (fun s e => setFlag Flag.CHK_late s |> endCheck e.port e.sq e.seq .late e.frame 0) s
  if mine = [] ∧ rdB s (Reg.CHK_Rr_CFG r) Fld.CHK_Rr_CFG_sticky_set then compareSticky r flags frame crc s else s

end Sys2Proof.Machine
end

