-- ==== Sys2Proof/Machine/Colour.lean ====
section
/-! DEFINITION. The arithmetic of one composed pixel (R276 to R285): sample expansion, chroma upsampling, the colour
path, blending and the calibration cube. Pure functions, fixed to the last bit. -/

namespace Sys2Proof.Machine

/-- One pixel: three components and alpha. -/
structure Px where
  c0 : Nat
  c1 : Nat
  c2 : Nat
  a : Nat := 65535
deriving DecidableEq, Repr

/-! ### Expansion (R276, R277) -/

/-- A planar or Headwater sample of depth d. -/
def zeroFill (d v : Nat) : Nat := v * 2 ^ (16 - d)

/-- Little-endian u16 number k of a byte list. -/
def u16At (bs : List Byte) (k : Nat) : Nat := leAt bs (2 * k) 2

/-- Sample k of a planar row of a depth code (R275): 8-bit in a byte, else the upper bits of a u16. -/
def planarSample (depth : Nat) (bs : List Byte) (k : Nat) : Nat :=
  match depth with
  | 0 => zeroFill 8 (leAt bs k 1)
  | 1 => zeroFill 10 (u16At bs k / 64)
  | 2 => zeroFill 12 (u16At bs k / 16)
  | _ => u16At bs k

/-- Pixel k of a packed row of a layout code (R275, R276). -/
def packedPixel (layout : Nat) (bs : List Byte) (k : Nat) : Px :=
  match layout with
  | 0 => { c0 := leAt bs (4 * k) 1 * 257, c1 := leAt bs (4 * k + 1) 1 * 257, c2 := leAt bs (4 * k + 2) 1 * 257,
           a := leAt bs (4 * k + 3) 1 * 257 }
  | 1 =>
    let w := leAt bs (4 * k) 4
    let e := fun v => v * 64 + v / 16
    { c0 := e (bitsAt w 0 10), c1 := e (bitsAt w 10 10), c2 := e (bitsAt w 20 10), a := bitsAt w 30 2 * 21845 }
  | _ => { c0 := u16At bs (4 * k), c1 := u16At bs (4 * k + 1), c2 := u16At bs (4 * k + 2), a := u16At bs (4 * k + 3) }

/-- Un-premultiply one component (R277). -/
def unpremultiply (c a : Nat) : Nat := if a = 0 then 0 else min 65535 ((c * 65535 + a / 2) / a)

/-! ### Chroma upsampling (R279) -/

def chromaTaps : Nat → List Int
  | 0 => [0, 64, 0, 0]
  | 1 => [-4, 54, 16, -2]
  | 2 => [-4, 36, 36, -4]
  | _ => [-2, 16, 54, -4]

/-- Base sample and phase of an output position. -/
def chromaPhase (cosited : Bool) (x : Nat) : Int × Nat :=
  if cosited then ((x / 2 : Nat), if x % 2 = 0 then 0 else 2)
  else if x % 2 = 0 then (((x / 2 : Nat) : Int) - 1, 3) else ((x / 2 : Nat), 1)

/-- The chroma sample at an output position, from samples c 0 to c (n - 1). -/
def chromaAt (cosited : Bool) (n : Nat) (c : Nat → Nat) (x : Nat) : Nat :=
  let kp := chromaPhase cosited x
  let taps := chromaTaps kp.2
  let s := [0, 1, 2, 3].foldl (fun (acc : Int) (t : Nat) =>
    acc + taps.getD t 0 * (c (clampI 0 ((n : Int) - 1) (kp.1 - 1 + t)).toNat : Int)) 0
  satU16 (roundShift s 6)

/-- Sampling codes of R274: 0 4:2:0, 1 4:2:2, 2 4:4:4. Chroma of luma column x on luma row y: c r k is sample k of
chroma row r, the chroma plane being n wide and m high. -/
def chromaPixel (sampling siting n m : Nat) (c : Nat → Nat → Nat) (y x : Nat) : Nat :=
  let across := fun (row : Nat → Nat) => chromaAt (decide (siting ≠ 2)) n row x
  match sampling with
  | 0 => across (fun k => chromaAt (decide (siting = 0)) m (fun r => c r k) y)
  | 1 => across (c y)
  | _ => c y x

/-! ### Input matrix (R280) -/

/-- c0 to c8, then off0 to off2. -/
def matrixOf (code : Nat) (custom : List Int) : List Int :=
  let one : List Int := [8192, 0, 0, 0, 8192, 0, 0, 0, 8192, 0, 0, 0]
  match code with
  | 0 => one
  | 1 => [8192, 0, 12901, 8192, -1535, -3835, 8192, 15201, 0, 0, -32768, -32768]
  | 2 => [9576, 0, 14744, 9576, -1754, -4383, 9576, 17372, 0, -4096, -32768, -32768]
  | 3 => [8192, 0, 12080, 8192, -1348, -4681, 8192, 15412, 0, 0, -32768, -32768]
  | 4 => [9576, 0, 13805, 9576, -1541, -5349, 9576, 17614, 0, -4096, -32768, -32768]
  | 5 => [9576, 0, 0, 0, 9576, 0, 0, 0, 9576, -4096, -4096, -4096]
  | 6 => if custom = [] then one else custom
  | _ => Config.unlistedMatrix

/-- Row j of a 3 × 3 matrix applied to three values. -/
def matRow (m : List Int) (j : Nat) (y0 y1 y2 : Int) : Int :=
  m.getD (3 * j) 0 * y0 + m.getD (3 * j + 1) 0 * y1 + m.getD (3 * j + 2) 0 * y2

def inputMatrix (m : List Int) (e0 e1 e2 : Nat) (j : Nat) : Nat :=
  satU16 (roundShift (matRow m j (e0 + m.getD 9 0) (e1 + m.getD 10 0) (e2 + m.getD 11 0)) 13)

/-! ### Transfer tables (R281, R282)

The built-in curves are computed in binary fixed point with 80 fraction bits. PRESUMED: the constants of ST 2084
and of ITU-R BT.2100, which the spec names and does not print. -/

/-- One in the fixed point of the curves. -/
def fxOne : Int := 2 ^ 80

def fxMul (a b : Int) : Int := a * b / fxOne
def fxDiv (a b : Int) : Int := a * fxOne / b

/-- Sum of z^(2i+1) / (2i+1) over n terms, the first power given. -/
def atanhSum : Nat → Nat → Int → Int → Int
  | 0, _, _, _ => 0
  | n + 1, i, p, z2 => p / (2 * i + 1 : Nat) + atanhSum n (i + 1) (fxMul p z2) z2

def fxAtanh (z : Int) : Int := atanhSum 40 0 z (fxMul z z)

def fxLn2 : Int := 2 * fxAtanh (fxOne / 3)

/-- Natural logarithm of a positive value. -/
def fxLn (x : Int) : Int :=
  let e : Int := (Nat.log2 x.toNat : Int) - 80
  let m : Int := if 0 ≤ e then x / 2 ^ e.toNat else x * 2 ^ (-e).toNat
  e * fxLn2 + 2 * fxAtanh (fxDiv (m - fxOne) (m + fxOne))

def expSum : Nat → Nat → Int → Int → Int
  | 0, _, _, _ => 0
  | n + 1, i, t, r => t + expSum n (i + 1) (fxMul t r / (i + 1 : Nat)) r

def fxExp (y : Int) : Int :=
  let n := y / fxLn2
  let v := expSum 40 0 fxOne (y - n * fxLn2)
  if 0 ≤ n then v * 2 ^ n.toNat else v / 2 ^ (-n).toNat

/-- x to the power num / den, x positive. -/
def fxPow (x : Int) (num den : Nat) : Int := fxExp (fxLn x * num / den)

/-- 65,535 times a curve value, rounded to nearest with halves upward and saturated. -/
def fxRound (f : Int) : Nat := satU16 ((65535 * f + fxOne / 2) / fxOne)

/-- Greatest n of bits below `bit` and acc that satisfies p. -/
def searchUp (p : Nat → Bool) : Nat → Nat → Nat
  | 0, acc => acc
  | b + 1, acc => searchUp p b (if p (acc + 2 ^ b) then acc + 2 ^ b else acc)

/-- BT.1886, f(v) = v^2.4, at v = 16k / 65,535: the test compares fifth powers, so it is exact. -/
def bt1886 (k : Nat) : Nat :=
  searchUp (fun n => decide (n ≤ 65535 ∧ (2 * n - 1) ^ 5 * 65535 ^ 12 ≤ 2 ^ 5 * 65535 ^ 5 * (16 * k) ^ 12)) 16 0

/-- ST 2084 in cd/m² over the reference. -/
def pq (nits k : Nat) : Nat :=
  if k = 0 then 0
  else
    let v : Int := (16 * k : Nat) * fxOne / 65535
    let p := fxPow v 32 2523
    let num := p - fxOne * 3424 / 4096
    if num ≤ 0 then 0
    else
      let den := fxOne * 2413 / 128 - p * 2392 / 128
      fxRound (10000 * fxPow (fxDiv num den) 16384 2610 / (nits : Int))

/-- Inverse OETF of BT.2100 HLG. -/
def hlg (k : Nat) : Nat :=
  let v : Int := (16 * k : Nat) * fxOne / 65535
  if 2 * v ≤ fxOne then fxRound (fxMul v v / 3)
  else
    let a : Int := fxOne * 17883277 / 100000000
    let b := fxOne - 4 * a
    let c := fxOne / 2 - fxMul a (fxLn (4 * a))
    fxRound ((fxExp (fxDiv (v - c) a) + b) / 12)

/-- Entry k of the table of an eotf code; nits is COMP_PQ_REF as it acts, custom the layer's table section. -/
def eotfEntry (code nits : Nat) (custom : List Byte) (k : Nat) : Nat :=
  match code with
  | 1 => bt1886 k
  | 2 => pq nits k
  | 3 => hlg k
  | 4 => u16At custom k
  | c => Config.unlistedEotf c k

/-- lerp_q of R278. -/
def lerpQ (a b : Int) (f : Nat) (n : Nat) : Int := a + roundShift ((b - a) * f) n

/-- A lookup in a 4,096-entry table (R282). -/
def eotfLookup (t : Nat → Nat) (x : Nat) : Nat :=
  let i := x / 16
  let f := x % 16
  if i < 4095 then (lerpQ (t i) (t (i + 1)) f 4).toNat
  else satU16 ((t 4095 : Int) + roundShift (((t 4095 : Int) - t 4094) * f) 4)

/-! ### Gamut, gain, soft clip (R283), blending (R284) -/

def softClip (knee : Nat) (x : Nat) : Nat :=
  if knee = 0 then min x 65535
  else if x ≤ knee then x
  else
    let r := 65535 - knee
    let d := x - knee
    knee + (r * d + (d + r) / 2) / (d + r)

/-- The settings of a layer's colour path, as its registers and matrices give them. -/
structure PathCfg where
  premultiplied : Bool
  matrix : List Int
  eotf : Nat
  nits : Nat
  custom : List Byte
  gamut : List Int
  gain : Nat
  knee : Nat
deriving DecidableEq, Repr

/-- One pixel through the colour path: linear light in panel primaries. -/
def colourPath (c : PathCfg) (p : Px) : Px :=
  let u := fun v => if c.premultiplied then unpremultiply v p.a else v
  let e := inputMatrix c.matrix (u p.c0) (u p.c1) (u p.c2)
  let lin := fun j => if c.eotf = 0 then e j else eotfLookup (eotfEntry c.eotf c.nits c.custom) (e j)
  let g := if c.gamut = [] then [8192, 0, 0, 0, 8192, 0, 0, 0, 8192] else c.gamut
  let out := fun j =>
    let v := (clampI 0 262143 (roundShift (matRow g j (lin 0) (lin 1) (lin 2)) 13)).toNat
    softClip c.knee (roundShift (v * c.gain : Nat) 12).toNat
  { c0 := out 0, c1 := out 1, c2 := out 2, a := p.a }

/-- The effective alpha of a pixel. -/
def effectiveAlpha (ae globalAlpha : Nat) : Nat := (ae * globalAlpha + 32767) / 65535

def blend (y a d : Nat) : Nat := (y * a + d * (65535 - a) + 32767) / 65535

/-- Blend a pixel of a layer over the running value. -/
def blendPx (globalAlpha : Nat) (y d : Px) : Px :=
  let a := effectiveAlpha y.a globalAlpha
  { c0 := blend y.c0 a d.c0, c1 := blend y.c1 a d.c1, c2 := blend y.c2 a d.c2 }

/-! ### Calibration cube (R285) -/

/-- Channel ch of cube entry (i, j, k). -/
def cubeEntry (t : List Byte) (ch i j k : Nat) : Int := leAt t (6 * (i + 33 * j + 1089 * k) + 2 * ch) 2

def cubeChannel (t : List Byte) (ch r g b : Nat) : Nat :=
  let c := fun di dj dk => cubeEntry t ch (r / 2048 + di) (g / 2048 + dj) (b / 2048 + dk)
  let fr : Int := (r % 2048 : Nat)
  let fg : Int := (g % 2048 : Nat)
  let fb : Int := (b % 2048 : Nat)
  let acc :=
    if fr ≥ fg ∧ fg ≥ fb then (c 1 0 0 - c 0 0 0) * fr + (c 1 1 0 - c 1 0 0) * fg + (c 1 1 1 - c 1 1 0) * fb
    else if fr ≥ fb ∧ fb ≥ fg then (c 1 0 0 - c 0 0 0) * fr + (c 1 1 1 - c 1 0 1) * fg + (c 1 0 1 - c 1 0 0) * fb
    else if fb ≥ fr ∧ fr ≥ fg then (c 1 0 1 - c 0 0 1) * fr + (c 1 1 1 - c 1 0 1) * fg + (c 0 0 1 - c 0 0 0) * fb
    else if fg ≥ fr ∧ fr ≥ fb then (c 1 1 0 - c 0 1 0) * fr + (c 0 1 0 - c 0 0 0) * fg + (c 1 1 1 - c 1 1 0) * fb
    else if fg ≥ fb ∧ fb ≥ fr then (c 1 1 1 - c 0 1 1) * fr + (c 0 1 0 - c 0 0 0) * fg + (c 0 1 1 - c 0 1 0) * fb
    else (c 1 1 1 - c 0 1 1) * fr + (c 0 1 1 - c 0 0 1) * fg + (c 0 0 1 - c 0 0 0) * fb
  satU16 (roundShift (c 0 0 0 * 2048 + acc) 11)

/-- The calibration cube over a pixel; without an active cube the pixel is unchanged. -/
def applyCube (cube : Option (List Byte)) (p : Px) : Px :=
  match cube with
  | none => p
  | some t => { c0 := cubeChannel t 0 p.c0 p.c1 p.c2, c1 := cubeChannel t 1 p.c0 p.c1 p.c2,
                c2 := cubeChannel t 2 p.c0 p.c1 p.c2 }

end Sys2Proof.Machine
end

