-- ==== Sys2Proof/Machine/Blocks.lean ====
section
/-! DEFINITION. Line coding of the serial lanes (R183, R184): 66-bit blocks and the self-synchronising scrambler. Bit i of a
block is the i-th bit on the wire: the sync header in bits 0 and 1, payload bit k in bit 2 + k. -/

namespace Sys2Proof.Machine

/-- Sync header of a block: 1 marks a data block, 2 a control block, 0 and 3 are invalid. -/
def headerOf (b : BitVec 66) : Nat := b.toNat % 4

def headerValid (h : Nat) : Bool := decide (h = 1 ∨ h = 2)

/-- Payload of a block as the wire carries it, scrambled. -/
def payloadOf (b : BitVec 66) : BitVec 64 := BitVec.ofNat 64 (b.toNat / 4)

def blockOf (h : Nat) (p : BitVec 64) : BitVec 66 := BitVec.ofNat 66 (h % 4 + 4 * p.toNat)

/-- The block that a sync header and the payload's first and second 32 bits make. -/
def wireOf (h : Nat) (first second : BitVec 32) : BitVec 66 := blockOf h (second ++ first)

/-- The scrambler (R184). s holds the last 58 scrambled bits, s[0] the newest. -/
def scrambleBit (s : BitVec 58) (b : Bool) : Bool × BitVec 58 :=
  let o := b ^^ (s.getLsbD 38 ^^ s.getLsbD 57)
  (o, BitVec.ofNat 58 (2 * s.toNat + b2n o))

def descrambleBit (s : BitVec 58) (o : Bool) : Bool × BitVec 58 :=
  (o ^^ (s.getLsbD 38 ^^ s.getLsbD 57), BitVec.ofNat 58 (2 * s.toNat + b2n o))

/-- A bit step over the lowest n bits of a number, bit 0 first. -/
def overBits (f : BitVec 58 → Bool → Bool × BitVec 58) : Nat → BitVec 58 → Nat → Nat × BitVec 58
  | 0, s, _ => (0, s)
  | n + 1, s, x =>
    let (o, s) := f s (decide (x % 2 = 1))
    let (y, s) := overBits f n s (x / 2)
    (b2n o + 2 * y, s)

/-- Scramble a payload, bit 0 first. -/
def scramble (s : BitVec 58) (p : BitVec 64) : BitVec 64 × BitVec 58 :=
  let r := overBits scrambleBit 64 s p.toNat
  (BitVec.ofNat 64 r.1, r.2)

def descramble (s : BitVec 58) (p : BitVec 64) : BitVec 64 × BitVec 58 :=
  let r := overBits descrambleBit 64 s p.toNat
  (BitVec.ofNat 64 r.1, r.2)

/-- Payload byte k. -/
def payloadByte (p : BitVec 64) (k : Nat) : Nat := bitsAt p.toNat (8 * k) 8

/-- The eight payload bytes, byte 0 first. -/
def payloadBytes (p : BitVec 64) : List Byte := leBytes 8 p.toNat

/-- The payload that eight bytes make. -/
def payloadOfBytes (bs : List Byte) : BitVec 64 := BitVec.ofNat 64 (ofLe bs)

/-- What a block of the wire says once it is unscrambled: data, a control block of a type with its payload, or an invalid
header. -/
inductive Said where
  | data (payload : BitVec 64)
  | control (kind : Nat) (payload : BitVec 64)
  | invalid
deriving DecidableEq, Repr

/-- Read a block: its header and its unscrambled payload. -/
def readBlock (h : Nat) (p : BitVec 64) : Said :=
  if h = 1 then .data p else if h = 2 then .control (payloadByte p 0) p else .invalid

/-- Blocks to send as the wire carries them, each a header and a payload, and the scrambler after them. -/
def encodeBlocks : BitVec 58 → List (Nat × BitVec 64) → List (BitVec 66) × BitVec 58
  | s, [] => ([], s)
  | s, e :: es =>
    let (p, s) := scramble s e.2
    let (bs, s) := encodeBlocks s es
    (blockOf e.1 p :: bs, s)

/-- The control block of a type with payload bytes 1 to 7. -/
def controlOf (kind : Nat) (bs : List Byte) : Nat × BitVec 64 := (2, payloadOfBytes (BitVec.ofNat 8 kind :: bs.take 7))

/-- The data blocks that carry bytes, 8 a block. -/
def dataBlocksOf : Nat → List Byte → List (Nat × BitVec 64)
  | 0, _ => []
  | n + 1, bs => (1, payloadOfBytes (bs.take 8)) :: dataBlocksOf n (bs.drop 8)

end Sys2Proof.Machine
end

