-- ==== Sys2Proof/Machine/Lanes.lean ====
section
/-! DEFINITION. The serial lanes of both links (R180 to R210): the lane state machine, training, lock loss and
retrain, adaptation, idle freeze and re-centring, eye scan and PRBS. link is 0 for Headwater and 1 for Sluice. -/

namespace Sys2Proof.Machine

/-! ### Lane state -/

/-- Lane states of R186. -/
def Lane.off : Nat := 0
def Lane.detect : Nat := 1
def Lane.cdr : Nat := 2
def Lane.align : Nat := 3
def Lane.adapt : Nat := 4
def Lane.active : Nat := 5
def Lane.fast : Nat := 6
def Lane.failed : Nat := 7
def Lane.prbs : Nat := 8

/-- Unit of a link's events (R207). -/
def linkUnit (link : Nat) : Nat := if link = 0 then 0x20 else 0x60

def laneOf (s : State) (link lane : Nat) : LaneState := tabGet (fun _ => {}) s.lanes.lane (128 * link + lane)

def setLane (link lane : Nat) (l : LaneState) (s : State) : State :=
  { s with lanes := { s.lanes with lane := tabSet (fun _ => {}) s.lanes.lane (128 * link + lane) l } }

/-- LANE_STAT.state. -/
def laneState (s : State) (link lane : Nat) : Nat := rdF s (Reg.LANE_STAT link lane) Fld.LANE_STAT_state

def laneIs (s : State) (link lane st : Nat) : Bool := decide (laneState s link lane = st)

def laneEnabled (s : State) (link lane : Nat) : Bool := rdB s (Reg.LANE_CFG link lane) Fld.LANE_CFG_enable

def laneFom (s : State) (link lane : Nat) : Nat := rdF s (Reg.LANE_STAT link lane) Fld.LANE_STAT_fom

def statB (s : State) (link lane : Nat) (f : Nat × Nat) : Bool := rdB s (Reg.LANE_STAT link lane) f

def setStat (link lane : Nat) (f : Nat × Nat) (v : Nat) (s : State) : State := wrF (Reg.LANE_STAT link lane) f v s

/-- The active lane set of Headwater (R211, R237): 0 acts as lane 0 alone. -/
def hwlMask (s : State) : Nat :=
  let m := (rd s Reg.HWL_STRIPE).toNat
  if m = 0 then 1 else m

/-- Every lane of the active set is ACTIVE. -/
def allActive (s : State) : Bool :=
  (List.range 32).all (fun n => !bitAt (hwlMask s) n || laneIs s 0 n Lane.active)

/-- HWL_STAT.all_active follows the lanes; after a wake, silence detection begins when it becomes 1 (R232). -/
def followActive (s : State) : State :=
  let all := allActive s
  let s := wrF Reg.HWL_STAT Fld.HWL_STAT_all_active (b2n all) s
  if all && s.hwl.awaitActive then { s with hwl := { s.hwl with awaitActive := false, checking := true } } else s

/-- A driver configuration write ends when no ACTIVE lane of its mask has it still to send (R483). -/
def followDcfg (s : State) : State :=
  if s.slk.dcfg = [] then s
  else
    let rest := s.slk.dcfg.filter (fun n => laneIs s 1 n Lane.active)
    let s := { s with slk := { s.slk with dcfg := rest } }
    if rest = [] then resultEnd Reg.SLK_DCFG_RESULT 0 s else s

/-- The frame of a back-channel request: cmd × 16 + address, the arguments, and the CRC-8 (R472, R473). -/
def bcFrame (cmd addr : Nat) (args : List Byte) : List Byte :=
  let body := BitVec.ofNat 8 (16 * cmd + addr) :: args
  body ++ [BitVec.ofNat 8 (crc8 body)]

/-- Lanes of a back-channel line. -/
def bcLanes (bc : Nat) : List Nat := (List.range 16).map (· + 16 * bc)

/-- The device may send on a back-channel line: no lane of it is in FAST_RETRAIN (R475). -/
def bcFree (s : State) (bc : Nat) : Bool := (bcLanes bc).all (fun n => !laneIs s 1 n Lane.fast)

/-- The request that waits longest on a line. -/
def oldestBc (s : State) (bc : Nat) : Option BcReq := s.slk.bc.find? (fun b => decide (b.lane / 16 = bc))

/-- A request goes out on its line. -/
def sendBc (q : BcReq) (s : State) : State :=
  emit (.backChannel (q.lane / 16) q.cmd (q.lane % 16) (bcFrame q.cmd (q.lane % 16) q.args)) s

/-- The oldest request of a line goes out, once the device may send there (R473, R475). -/
def pumpBc (bc : Nat) (s : State) : State :=
  match oldestBc s bc with
  | some q =>
    if q.held && bcFree s bc then
      { s with slk := { s.slk with bc := s.slk.bc.map (fun b => if b = q then { b with held := false } else b) } } |> sendBc q
    else s
  | none => s

/-- Requests to a column driver wait for their reply: one per back-channel line at a time (R473). -/
def askDriver (q : BcReq) (s : State) : State :=
  pumpBc (q.lane / 16) { s with slk := { s.slk with bc := s.slk.bc ++ [{ q with held := true }] } }

/-- An eye scan begins: its FoM is kept; a Sluice scan asks the driver (R202). -/
def eyeRuns (link lane : Nat) (s : State) : State :=
  let s := setLane link lane { laneOf s link lane with eyeFom := laneFom s link lane, eyeWaits := false } s
  if link = 1 then askDriver { lane := lane, cmd := 4, args := [], dsc := none } s else s

/-- Lock bits of a Headwater lane that has reached a state (R209). -/
def showLock (lane st : Nat) (s : State) : State :=
  let put := fun (cdr block : Nat) (s : State) =>
    s |> setStat 0 lane Fld.LANE_STAT_cdr_lock cdr |> setStat 0 lane Fld.LANE_STAT_block_lock block
  if st = Lane.align then put 1 0 s
  else if st = Lane.adapt ∨ st = Lane.active then put 1 1 s
  else if st = Lane.prbs then setStat 0 lane Fld.LANE_STAT_block_lock 0 s
  else if st = Lane.failed then s
  else put 0 0 s

/-- Blocks go out on a lane after a number of IDLE blocks, scrambled (R183, R184); polarity inverts every bit (R209). -/
def sendBlocks (lane idle : Nat) (bs : List (Nat × BitVec 64)) (s : State) : State :=
  let r := encodeBlocks (laneOf s 1 lane).scr (List.replicate idle (controlOf 0x1E (leBytes 7 0)) ++ bs)
  let blocks := if rdB s (Reg.LANE_CFG 1 lane) Fld.LANE_CFG_polarity then r.1.map (fun b => ~~~b) else r.1
  setLane 1 lane { laneOf s 1 lane with scr := r.2 } s |> emit (.wire lane blocks)

/-- De-emphasis code in use on a Sluice lane: codes 20 to 31 act as 19 (R209). -/
def deemphOf (s : State) (lane : Nat) : Nat := min 19 (rdF s (Reg.LANE_EQ 1 lane) Fld.LANE_EQ_S_deemph)

/-- The training sequence of a phase (R464, R476): a TRAIN block with the count of those sent before it, the phase and the
de-emphasis code, then 15 data blocks of zeros. It is repeated until the signal changes; how often is a matter of time, so the
count and the scrambler after it are free. -/
def sendTraining (lane phase : Nat) (s : State) : State :=
  let l := laneOf s 1 lane
  let train := controlOf 0x2D (leBytes 4 (l.trains % 2 ^ 32) ++ leBytes 1 phase ++ leBytes 1 (deemphOf s lane) ++ leBytes 1 0)
  let s := sendBlocks lane 0 (train :: List.replicate 15 (1, 0)) s
  tick (setLane 1 lane { laneOf s 1 lane with
    trains := l.trains + 1 + Config.freeValue s.fresh, scr := BitVec.ofNat 58 (Config.freeValue s.fresh) } s)

/-- What a Sluice lane sends in a state of training: signal 3 the clock pattern, otherwise the training sequence of a
phase, with the de-emphasis code in use (R476). Before the first raster enable its pins stay Hi-Z (R46). -/
def trainSignal (lane st : Nat) (s : State) : State :=
  let send := fun (signal : Nat) =>
    if s.raster.driven then
      let s := emit (.trainSignal lane signal (deemphOf s lane)) s
      if signal = 3 then s else sendTraining lane signal s
    else s
  if st = Lane.detect then send 3 else if st = Lane.align then send 0
  else if st = Lane.adapt then send 1 else if st = Lane.fast then send 2 else s

/-- A lane changes state. A Headwater lane's lock bits follow the state; those of a Sluice lane are what its driver last
reported. A state other than ACTIVE ends the freeze, any open packet and any re-centre, after which an eye scan that
waited for it starts (R203). -/
def goLane (link lane st : Nat) (s : State) : State :=
  let s := setStat link lane Fld.LANE_STAT_state st s
  let s := if link = 0 then showLock lane st s else trainSignal lane st s |> pumpBc (lane / 16)
  if st = Lane.active then followActive s
  else
    let waits := statB s link lane Fld.LANE_STAT_recentring && (laneOf s link lane).eyeWaits
    let s := setLane link lane { laneOf s link lane with packet := none } s
      |> setStat link lane Fld.LANE_STAT_frozen 0 |> setStat link lane Fld.LANE_STAT_recentring 0 |> followDcfg
    followActive (if waits then eyeRuns link lane s else s)

/-- A lane event (R207); the state shown is the one after the event. -/
def laneEvent (link lane code sev v : Nat) (s : State) : State :=
  postEvent .device code (linkUnit link) sev
    (dataAt 24 link ||| dataAt 25 lane ||| dataAt 26 (laneState s link lane) ||| dataAt 27 v) s

/-! ### Which lanes run (R180, R182, R463) -/

/-- Segment width W, and segments of the front and rear cells (R345, R463). -/
def segWidth (s : State) : Nat := rdF s Reg.PIPE_FMT Fld.PIPE_FMT_seg_width

def frontSegs (s : State) : Nat :=
  match s.raster.panel with
  | some p => if segWidth s = 0 then 0 else 3 * p.width / segWidth s
  | none => 0

def rearSegs (s : State) : Nat :=
  match s.raster.panel with
  | some p => if segWidth s = 0 ∨ p.cells ≠ 2 then 0 else p.width / segWidth s
  | none => 0

/-- Sluice lane n carries a segment: front segments on lanes 0 on, rear ones on lanes 96 on. -/
def carriesSegment (s : State) (n : Nat) : Bool :=
  if n < 96 then decide (n < frontSegs s) else decide (n - 96 < rearSegs s)

/-- The cell of a Sluice lane's segment: 0 front, 1 rear. -/
def laneCell (n : Nat) : Nat := if n < 96 then 0 else 1

def rateCode (s : State) (link lane : Nat) : Nat := rdF s (Reg.LANE_CFG link lane) Fld.LANE_CFG_rate_code

/-- The rate in force: a lane that is not OFF runs at the code its training read (R180). -/
def rateNow (s : State) (link lane : Nat) : Nat :=
  if laneIs s link lane Lane.off then rateCode s link lane else (laneOf s link lane).rate

/-- rate_code lies in the link's range (R180). -/
def rateInRange (link c : Nat) : Bool :=
  if link = 0 then decide (200 ≤ c ∧ c ≤ 2048) else decide (128 ≤ c ∧ c ≤ 1280)

/-- The rate of a Sluice group is that of its lowest-numbered enabled lane (R182). -/
def groupRateOk (s : State) (lane : Nat) : Bool :=
  match ((List.range 16).map (· + 16 * (lane / 16))).find? (fun n => laneEnabled s 1 n) with
  | some n => decide (n = lane ∨ rateNow s 1 n = rateCode s 1 lane)
  | none => true

def rateOk (s : State) (link lane : Nat) : Bool :=
  rateInRange link (rateCode s link lane) && (decide (link = 0) || groupRateOk s lane)

/-- The lane carries active video (R189). -/
def activeVideo (s : State) (link lane : Nat) : Bool :=
  laneIs s link lane Lane.active &&
  (if link = 0 then bitAt (hwlMask s) lane &&
      (rdB s (Reg.COMP_Ln_CFG 16) Fld.COMP_Ln_CFG_enable || rdB s (Reg.COMP_Ln_CFG 17) Fld.COMP_Ln_CFG_enable)
   else rdB s Reg.RAST_CTRL Fld.RAST_CTRL_enable)

/-! ### LANE_TRAIN bookkeeping (R174) -/

/-- Complete a LANE_TRAIN whose lanes have all ended. -/
def trainResult (j : TrainJob) (s : State) : State :=
  match dscOf s j.port j.sq j.seq with
  | none => s
  | some d =>
    match j.failed with
    | [] => completeI d .ok (resAt 20 j.trained.length ||| resAt 22 0xFF) s
    | f :: fs => complete d .timeout 0
        (resAt 16 (linkUnit j.link) ||| resAt 20 j.trained.length ||| resAt 22 (fs.foldl min f)) s

/-- Complete the jobs that have no lane left. -/
def endJobs (s : State) : State :=
  let done := s.lanes.jobs.filter (fun j => j.waiting = [] ∧ j.running = [])
  done.foldl (fun s j => trainResult j s)
    { s with lanes := { s.lanes with jobs := s.lanes.jobs.filter (fun j => ¬ (j.waiting = [] ∧ j.running = [])) } }

/-- A lane's training ends: every job that runs it counts it. -/
def jobLaneEnds (link lane : Nat) (ok : Bool) (s : State) : State :=
  endJobs { s with lanes := { s.lanes with jobs := s.lanes.jobs.map (fun j =>
    if j.link = link ∧ j.running.contains lane then
      { j with running := j.running.filter (· ≠ lane),
               trained := if ok then lane :: j.trained else j.trained,
               failed := if ok then j.failed else lane :: j.failed }
    else j) } }

/-- A lane goes OFF: every job that names it counts it as not trained. -/
def jobLaneGone (link lane : Nat) (s : State) : State :=
  jobLaneEnds link lane false { s with lanes := { s.lanes with jobs := s.lanes.jobs.map (fun j =>
    if j.link = link ∧ j.waiting.contains lane then
      { j with waiting := j.waiting.filter (· ≠ lane), running := lane :: j.running } else j) } }

/-! ### Full training (R187, R190) -/

/-- LANE_RETRAIN_CNT counts a retrain. -/
def countRetrain (f : Nat × Nat) (link lane : Nat) (s : State) : State :=
  bumpSat (Reg.LANE_RETRAIN_CNT link lane) f 1 s

/-- Headwater settings at the start of full training: saved ones after a power exit, until that training ends, else the
reset ones (R187, R201). -/
def startSettings (link lane : Nat) (s : State) : State :=
  if link = 0 then wr (Reg.LANE_EQ 0 lane) ((laneOf s 0 lane).saved.getD (regReset (Reg.LANE_EQ 0 lane))) s else s

/-- A training starts from its first step. -/
def beginSteps (link lane : Nat) (s : State) : State :=
  let s := startSettings link lane s
  setLane link lane { laneOf s link lane with
      tried := 0, invalid := [], valid := 0, foms := [], trial := none, sweep := [], win := 0, good := 0, phase := 0 } s
    |> goLane link lane Lane.detect

/-- The line of the lane's cell that is being driven, as SFN × height + line; in blanking the line after the last. -/
def drivenRow (s : State) (lane : Nat) : Nat :=
  match s.raster.panel with
  | none => 0
  | some p =>
    let v := rdF s Reg.RAST_GEOM Fld.RAST_GEOM_vtotal
    let y := s.raster.line - 1 + laneCell lane * rdF s Reg.RAST_LAG Fld.RAST_LAG_rear_lead
    if s.raster.line = 0 then s.sfn * p.height
    else if v ≤ y then (s.sfn + 1) * p.height + min (y - v) p.height
    else s.sfn * p.height + min y p.height

/-- The first line that is not applied after a lock loss now: the one after the line being driven, and in blanking the next
frame's first. -/
def lostRow (s : State) (lane : Nat) : Nat :=
  let r := drivenRow s lane
  let h := match s.raster.panel with
    | some p => p.height
    | none => 0
  if s.raster.line = 0 ∨ r = (s.sfn + 1) * h then r else r + 1

/-- A Sluice lane that carries lines leaves ACTIVE: its segment is held from the line given on, unless it is held already
(R478, R479). -/
def noteHeld (lane row : Nat) (s : State) : State :=
  let l := laneOf s 1 lane
  let scans := decide (s.raster.phase = .running ∨ s.raster.phase = .toBlack ∨ s.raster.phase = .black)
  if laneIs s 1 lane Lane.active && scans && carriesSegment s lane then
    setLane 1 lane { l with heldFrom := if l.heldFrom.isSome then l.heldFrom else some row, backAt := none } s
  else s

/-- Start full training. cause is the byte of LANE_FULL_TRAIN; 3 for a training at raster enable, which R207 gives no
cause and which posts none. A lane that is not enabled, carries no segment, or has a bad rate stays OFF. -/
def startTraining (link lane cause : Nat) (s : State) : State :=
  if !laneEnabled s link lane || (decide (link = 1) && !carriesSegment s lane) then
    s |> goLane link lane Lane.off |> jobLaneGone link lane
  else if !rateOk s link lane then
    s |> goLane link lane Lane.off |> setFlag (Flag.LANE_cfg_err link lane) |> jobLaneGone link lane
  else
    let s := if link = 1 then noteHeld lane (lostRow s lane) s else s
    let s := if laneIs s link lane Lane.off then
        setLane link lane { laneOf s link lane with cfgQueue := [], cfgSent := [], heldFrom := none, backAt := none } s else s
    let s := setLane link lane { laneOf s link lane with
        attempts := 0, failures := 0, idle := 0, thaw := false, wasActive := false, asleep := false, rate := rateCode s link lane } s
    let s := s |> beginSteps link lane |> countRetrain Fld.LANE_RETRAIN_CNT_full link lane
    if cause < 3 then laneEvent link lane 0x0BF2 1 cause s else s

/-- A fast retrain starts with the settings retained (R197, R198). -/
def startFast (link lane : Nat) (s : State) : State :=
  let s := if link = 1 then noteHeld lane (lostRow s lane) s else s
  setLane link lane { laneOf s link lane with
      attempts := 1, invalid := [], valid := 0, good := 0, idle := 0, thaw := false } s
    |> goLane link lane Lane.fast |> countRetrain Fld.LANE_RETRAIN_CNT_fast link lane

/-- LANE_TRAINs that wait for this lane's retrain take it up (R200). -/
def takeWaiting (link lane : Nat) (s : State) : State :=
  let wants := s.lanes.jobs.any (fun j => decide (j.link = link) && j.waiting.contains lane)
  let full := s.lanes.jobs.any (fun j => decide (j.link = link) && j.waiting.contains lane && j.full)
  if !wants then s
  else
    let s := { s with lanes := { s.lanes with jobs := s.lanes.jobs.map (fun j =>
      if j.link = link ∧ j.waiting.contains lane then
        { j with waiting := j.waiting.filter (· ≠ lane), running := lane :: j.running } else j) } }
    if !full && laneIs s link lane Lane.active then startFast link lane s else startTraining link lane 1 s

/-- Full training fails at a step: FAILED, and LANE_FAILED; a LANE_TRAIN that waited for it runs (R200). -/
def failTraining (link lane step : Nat) (s : State) : State :=
  setLane link lane { laneOf s link lane with saved := none } s
    |> goLane link lane Lane.failed |> laneEvent link lane 0x0BF3 2 step |> jobLaneEnds link lane false |> takeWaiting link lane

/-- The writes that the device makes to a column driver: SEG_FMT and BLACK0 to BLACK2, whose data it takes when it sends
them (R470). -/
def ownWrites : List (Nat × Nat) := [(0, 0), (3, 0), (4, 0), (5, 0)]

/-- The composition line that starts next; 0 between composition frames. -/
def compLine (s : State) : Nat := (s.comp.cur.map (·.next)).getD 0

/-- A Headwater lane that had lost lock is ACTIVE again (R228). -/
def markBack (lane : Nat) (s : State) : State :=
  let s := setLane 0 lane { laneOf s 0 lane with lost := false } s
  { s with hwl := { s.hwl with frame := s.hwl.frame.map (fun f => { f with marks := f.marks.map (fun m =>
      if m.lane = lane ∧ m.back = none then { m with back := some (compLine s) } else m) }) } }

/-- A lane becomes ACTIVE at the end of a training or retrain. The driver of a Sluice lane is configured anew, with the
writes that a lock loss may have lost sent again (R470, R471, R476). -/
def becomeActive (link lane : Nat) (s : State) : State :=
  let s := setLane link lane { laneOf s link lane with sweep := [], idle := 0, foms := [], saved := none } s
  let l := laneOf s link lane
  let s := if link = 1 then
      tick (setLane 1 lane { l with cfgQueue := l.cfgSent ++ l.cfgQueue ++ ownWrites, cfgSent := [],
                                    backAt := if l.heldFrom.isSome then some (drivenRow s lane) else none,
                                    scr := BitVec.ofNat 58 (Config.freeValue s.fresh) } s)
    else markBack lane s
  s |> goLane link lane Lane.active |> jobLaneEnds link lane true |> takeWaiting link lane

/-- Index of the first largest element. -/
def argMax : List Nat → Nat
  | [] => 0
  | x :: xs => ((xs.foldl (fun (a : Nat × Nat × Nat) v => if a.2.1 < v then (a.2.2, v, a.2.2 + 1)
      else (a.1, a.2.1, a.2.2 + 1)) (0, x, 1))).1

/-! ### A Headwater lane's blocks -/

/-! ### Open packets of a Headwater lane (R214, R229) -/

def HwFrame.key (p line : Nat) : Nat := 16384 * p + line

/-- A copy of a line fails: the first failure of the line is kept as cause c (R229). -/
def noteFailure (p line c : Nat) (s : State) : State :=
  match s.hwl.frame with
  | none => s
  | some f =>
    if 1 < p ∨ 16384 ≤ line ∨ tabGet (fun _ => 0) f.causes (HwFrame.key p line) ≠ 0 then s
    else { s with hwl := { s.hwl with frame := some { f with
      causes := tabSet (fun _ => 0) f.causes (HwFrame.key p line) (c + 1) } } }

/-- Plane, frame_lo, line, format and width that LINE_START bytes 1 to 7 spell (R215). -/
def startPlane (bs : List Byte) : Nat := leAt bs 0 1
def startLo (bs : List Byte) : Nat := leAt bs 1 1
def startLine (bs : List Byte) : Nat := leAt bs 2 2
def startFormat (bs : List Byte) : Nat := leAt bs 4 1
def startWidth (bs : List Byte) : Nat := leAt bs 5 2

/-- The open packet of a lane is abandoned (R214); cause 0 for a lock loss, 3 otherwise. -/
def abandonPacket (lane cause : Nat) (s : State) : State :=
  match (laneOf s 0 lane).packet with
  | none => s
  | some (st, _) => setLane 0 lane { laneOf s 0 lane with packet := none } s |> setFlag Flag.HWL_pkt_err
      |> noteFailure (startPlane st) (startLine st) cause

/-- A block that is not IDLE arrives: the count of consecutive IDLE blocks returns to 0 (R194). -/
def notIdle (lane : Nat) (s : State) : State := setLane 0 lane { laneOf s 0 lane with idle := 0 } s

/-- A data block arrives: it ends the freeze, or marks it to end with the re-centre (R194, R195). -/
def dataArrives (lane : Nat) (s : State) : State :=
  if !statB s 0 lane Fld.LANE_STAT_frozen then s
  else if statB s 0 lane Fld.LANE_STAT_recentring then setLane 0 lane { laneOf s 0 lane with thaw := true } s
  else setStat 0 lane Fld.LANE_STAT_frozen 0 s

/-- Restore the code a running trial started from (R192, R194). At a lock loss too: R197 retains the settings and does not say
whether those of the trial or those before it (DESIGN CHOICE, log entry 145). -/
def endTrial (link lane : Nat) (s : State) : State :=
  match (laneOf s link lane).trial with
  | none => s
  | some t =>
    let s := setLane link lane { laneOf s link lane with trial := none } s
    if link = 0 then wrF (Reg.LANE_EQ 0 lane) Fld.LANE_EQ_H_ctle t.base s
    else wrF (Reg.LANE_EQ 1 lane) Fld.LANE_EQ_S_deemph t.base s

/-! ### Lock loss and retrain (R197 to R200) -/

/-- Lines that a Headwater lane's lock loss may cover: those after the last one it brought, per plane (R228, R229). -/
def markLoss (lane : Nat) (s : State) : State :=
  let s := setLane 0 lane { laneOf s 0 lane with lost := true } s
  match s.hwl.frame with
  | none => s
  | some f => { s with hwl := { s.hwl with frame := some { f with
      marks := f.marks ++ [{ lane := lane, brought := f.lastOn.filter (fun e => decide (e.1 = lane)),
                             at_ := compLine s }] } } }

/-- The losses of the last second (R200). -/
def recentLosses (s : State) (l : LaneState) : List Nat := within s 1000000000 l.losses

/-- A trained lane loses lock. A Headwater lane without signal while the source sleeps only returns to DETECT (R230).
The eighth loss within 1 s goes straight to full training. -/
def loseLock (link lane cause : Nat) (s : State) : State :=
  if link = 0 ∧ cause = 0 ∧ rdB s Reg.HWL_STAT Fld.HWL_STAT_sleeping then
    setLane 0 lane { laneOf s 0 lane with asleep := true } s |> endTrial link lane |> goLane link lane Lane.detect
  else
    let l := laneOf s link lane
    let losses := upNs s :: recentLosses s l
    let s := s |> tick |> endTrial link lane |> setFlag (Flag.LANE_lock_loss link lane)
    let s := if link = 0 then abandonPacket lane 0 s |> markLoss lane else s
    if 8 ≤ losses.length then
      let s := setLane link lane { laneOf s link lane with losses := [] } s
      s |> goLane link lane Lane.detect |> laneEvent link lane 0x0BF0 1 cause |> startTraining link lane 0
    else setLane link lane { laneOf s link lane with losses := losses } s |> startFast link lane |> laneEvent link lane 0x0BF0 1 cause

/-- A Headwater lane in ALIGN, ADAPT or a fast retrain loses its clock (cause 0 or 1) or its block lock. -/
def dropLock (lane cause : Nat) (s : State) : State :=
  let s := setLane 0 lane { laneOf s 0 lane with valid := 0, good := 0 } s |> setStat 0 lane Fld.LANE_STAT_block_lock 0
  if cause = 2 then s else setStat 0 lane Fld.LANE_STAT_cdr_lock 0 s

/-- LANE_LOCK_LOST (R197): cause 0 signal, 1 CDR, 2 block lock, 3 driver report. In steps 2 to 5 of a Headwater
training a lost signal restarts the training at DETECT (R187); a lock lost in a training, a fast retrain or PRBS is shown. -/
def execLaneLockLost (link lane cause : Nat) (s : State) : Host.Outcome State Fault Refusal :=
  let st := laneState s link lane
  if st = Lane.active then .next (loseLock link lane cause s)
  else if link = 0 ∧ cause = 0 ∧ 2 ≤ st ∧ st ≤ 4 then .next (beginSteps 0 lane s)
  else if link = 0 ∧ cause ≤ 2 ∧ (st = Lane.align ∨ st = Lane.adapt ∨ st = Lane.fast ∨ st = Lane.prbs) then
    .next (dropLock lane cause s)
  else .next s

/-- A fast retrain succeeds: ACTIVE, and LANE_RETRAINED with the attempts used. -/
def fastDone (link lane : Nat) (s : State) : State :=
  let n := min 3 (laneOf s link lane).attempts
  s |> goLane link lane Lane.active |> laneEvent link lane 0x0BF1 0 n |> becomeActive link lane

/-- FAST_RETRAIN_TIMEOUT (R200): fast_fail, and another attempt, or full training after three failures in a row. -/
def execFastRetrainTimeout (link lane : Nat) (s : State) : Host.Outcome State Fault Refusal :=
  if !laneIs s link lane Lane.fast then .next s
  else
    let l := laneOf s link lane
    let s := setFlag (Flag.LANE_fast_fail link lane) s
    let s := setLane link lane { l with failures := l.failures + 1, attempts := l.attempts + 1, good := 0 } s
    if 3 ≤ l.failures + 1 then .next (startTraining link lane 0 s)
    else .next (countRetrain Fld.LANE_RETRAIN_CNT_fast link lane s)

/-- RETRAIN_COUNT_RESET (R200): the lane has stayed ACTIVE for 1 s. -/
def execRetrainCountReset (link lane : Nat) (s : State) : Host.Outcome State Fault Refusal :=
  if laneIs s link lane Lane.active then .next (setLane link lane { laneOf s link lane with failures := 0 } s)
  else .next s

/-! ### The steps of a training (R187, R188, R190) -/

/-- HWL_SIGNAL_DETECT: a signal for 10 µs ends DETECT. A lane that returned to DETECT while the source slept starts
full training when the signal returns (R226, R230, R231), which reads its rate (R180). -/
def execHwlSignalDetect (lane : Nat) (s : State) : Host.Outcome State Fault Refusal :=
  if laneIs s 0 lane Lane.detect then
    let s := if (laneOf s 0 lane).asleep then startTraining 0 lane 3 s else beginSteps 0 lane s
    .next (if laneIs s 0 lane Lane.detect then goLane 0 lane Lane.cdr s else s)
  else .next s

/-- CDR_LOCK: CDR ends; in a fast retrain, in PRBS, and in a training that had lost it, the clock lock is shown (R198 step 2). -/
def execCdrLock (lane : Nat) (s : State) : Host.Outcome State Fault Refusal :=
  let st := laneState s 0 lane
  if st = Lane.cdr then .next (goLane 0 lane Lane.align s)
  else if st = Lane.align ∨ st = Lane.adapt ∨ st = Lane.fast ∨ st = Lane.prbs then
    .next (setStat 0 lane Fld.LANE_STAT_cdr_lock 1 s)
  else .next s

/-- The word boundary moves by n UI (R188): position counts slips modulo 66, and the lock count restarts. -/
def slip (link lane n : Nat) (s : State) : State :=
  let k := Reg.LANE_ALIGN link lane
  let s := wrF k Fld.LANE_ALIGN_position ((rdF s k Fld.LANE_ALIGN_position + n) % 66) s
  setLane link lane { laneOf s link lane with invalid := [], valid := 0 } s

/-- The boundary under test has no lock: slip one UI and try again; after 66 boundaries training fails (R188). -/
def nextBoundary (lane : Nat) (s : State) : State :=
  if rdB s (Reg.LANE_CFG 0 lane) Fld.LANE_CFG_align_manual then s
  else
    let n := (laneOf s 0 lane).tried + 1
    let s := setLane 0 lane { laneOf s 0 lane with tried := n } s
    if 66 ≤ n then failTraining 0 lane 3 s else slip 0 lane 1 s

/-- The receiver gains block lock (R185): ALIGN ends, and ADAPT begins with CTLE code 0 (R187). -/
def gainLock (lane : Nat) (s : State) : State :=
  if laneIs s 0 lane Lane.align then
    setLane 0 lane { laneOf s 0 lane with win := 0, sweep := [], good := 0, foms := [] } s
      |> wrF (Reg.LANE_EQ 0 lane) Fld.LANE_EQ_H_ctle 0 |> goLane 0 lane Lane.adapt
  else if laneIs s 0 lane Lane.adapt ∨ laneIs s 0 lane Lane.fast then setStat 0 lane Fld.LANE_STAT_block_lock 1 s
  else s

/-- The sync header of one received block (R185): the 64th valid one in a row gains block lock; an invalid one is counted,
and the one that brings the last 64 blocks to 16 of them loses it, or in ALIGN moves on to the next boundary (R188). -/
def receiveHeader (lane h : Nat) (s : State) : State :=
  let l := laneOf s 0 lane
  let aged := (l.invalid.map (· + 1)).filter (· < 64)
  if headerValid h then
    let s := setLane 0 lane { l with invalid := aged, valid := min 64 (l.valid + 1) } s
    if l.valid = 63 then gainLock lane s else s
  else
    let s := setLane 0 lane { l with invalid := 0 :: aged, valid := 0 } s
      |> bumpSat (Reg.LANE_HDR_ERR 0 lane) Fld.LANE_HDR_ERR_invalid_headers 1
    if aged.length + 1 < 16 then s
    else if laneIs s 0 lane Lane.active then loseLock 0 lane 2 s
    else if laneIs s 0 lane Lane.align then nextBoundary lane s
    else if laneIs s 0 lane Lane.adapt ∨ laneIs s 0 lane Lane.fast then dropLock lane 2 s
    else s

/-- A 66-bit block arrives on a Headwater lane: its payload goes through the descrambler (R184), and its header is
counted. polarity inverts every bit (R209). -/
def takeBlock (lane : Nat) (b : BitVec 66) (s : State) : Said × State :=
  let b := if rdB s (Reg.LANE_CFG 0 lane) Fld.LANE_CFG_polarity then ~~~b else b
  let d := descramble (laneOf s 0 lane).scr (payloadOf b)
  let s := setLane 0 lane { laneOf s 0 lane with scr := d.2 } s
  (readBlock (headerOf b) d.1, receiveHeader lane (headerOf b) s)

/-- The lane's receiver takes blocks: it has a clock, and its word boundary is being looked for or is known. -/
def hwlHears (s : State) (lane : Nat) : Bool :=
  decide (lane < 32) && (laneIs s 0 lane Lane.align || laneIs s 0 lane Lane.adapt || laneIs s 0 lane Lane.active ||
    laneIs s 0 lane Lane.fast)

/-- A block that arrives on a lane and does nothing else: its header counts and its payload goes through the descrambler. -/
def hearBlock (lane : Nat) (b : BitVec 66) (s : State) : State := if hwlHears s lane then (takeBlock lane b s).2 else s

/-- A header stands at bit t of n received bits, and is valid. -/
def headerAt (n bits t : Nat) : Bool := decide (t + 1 < n) && headerValid (bitsAt bits t 2)

/-- Blocks at the present boundary, until a slip moves it: their headers count, and their payload bits go through the
descrambler (R184). -/
def receiveBlocks (lane at_ : Nat) : List (BitVec 66) → State → State
  | [], s => s
  | b :: bs, s =>
    let s := (takeBlock lane b s).2
    if rdF s (Reg.LANE_ALIGN 0 lane) Fld.LANE_ALIGN_position = at_ then receiveBlocks lane at_ bs s else s

/-- The whole blocks of n received bits from bit t on. -/
def blocksAt (n bits t : Nat) : List (BitVec 66) :=
  (List.range ((n - t) / 66)).map (fun k => BitVec.ofNat 66 (bitsAt bits (t + 66 * k) 66))

/-- The descrambler takes up the payloads of blocks. -/
def seedScrambler (lane : Nat) (bs : List (BitVec 66)) (s : State) : State :=
  let flip := rdB s (Reg.LANE_CFG 0 lane) Fld.LANE_CFG_polarity
  let scr := bs.foldl (fun r b => (descramble r (payloadOf (if flip then ~~~b else b))).2) (laneOf s 0 lane).scr
  setLane 0 lane { laneOf s 0 lane with scr := scr } s

/-- BLOCK_LOCK (R185, R188, R198): n received bits from the present boundary on, the first in bit 0. In ALIGN and ADAPT their
headers count towards the 64 in a row. In a fast retrain all 66 boundaries are tested, and the first that has 64 valid
headers in a row is taken. The descrambler takes the payload bits of the blocks (R184). -/
def execBlockLock (r : LaneBits) (s : State) : Host.Outcome State Fault Refusal :=
  let ⟨lane, n, bits⟩ := r
  if laneIs s 0 lane Lane.fast then
    match (List.range n).find? (fun t => (List.range 64).all (fun k => headerAt n bits (t + 66 * k))) with
    | some t =>
      let s := slip 0 lane (t % 66) s |> setStat 0 lane Fld.LANE_STAT_block_lock 1 |> seedScrambler lane (blocksAt n bits t)
      .next (setLane 0 lane { laneOf s 0 lane with valid := 64 } s)
    | none => .next s
  else if laneIs s 0 lane Lane.align || laneIs s 0 lane Lane.adapt then
    .next (receiveBlocks lane (rdF s (Reg.LANE_ALIGN 0 lane) Fld.LANE_ALIGN_position) (blocksAt n bits 0) s)
  else .next s

/-- LANE_TRAINING_TIMEOUT (R187, R188, R190): the step in progress has missed its time. -/
def execLaneTrainingTimeout (link lane : Nat) (s : State) : Host.Outcome State Fault Refusal :=
  if laneIs s link lane Lane.detect then .next (failTraining link lane 1 s)
  else if laneIs s link lane Lane.cdr then .next (failTraining link lane 2 s)
  else if laneIs s link lane Lane.align then
    if link = 0 then .next (nextBoundary lane s) else .next (failTraining 1 lane 2 s)
  else if laneIs s link lane Lane.adapt then
    if link = 0 then .next (failTraining 0 lane 5 s)
    else .next (failTraining 1 lane (if (laneOf s 1 lane).sweep.length < 20 then 3 else 4) s)
  else .next s

/-- FoM has reached fom_min for 4 windows in a row (R187, R198). -/
def fomGood (s : State) (lane : Nat) : Bool := decide (4 ≤ (laneOf s 0 lane).good)

/-- The lock bits of a lane as its driver reports them: bit 0 clock, bit 1 block (R209, R474). -/
def driverLocks (lane status : Nat) (s : State) : State :=
  setStat 1 lane Fld.LANE_STAT_cdr_lock (status % 2) s |> setStat 1 lane Fld.LANE_STAT_block_lock (bitsAt status 1 1)

/-- LANE_TRAINING_DONE (R187, R190, R198). A Headwater full training, its sweep over, and a fast retrain, which have block lock,
end when FoM has reached fom_min for 4 windows in a row. A Sluice training ends when its sweep is complete and the driver's
reply to a ROLL (R474), whole by its CRC-8, reports an FoM that reaches fom_min. -/
def execLaneTrainingDone (link lane status fom crc : Nat) (s : State) : Host.Outcome State Fault Refusal :=
  if link = 0 ∧ laneIs s 0 lane Lane.adapt ∧ statB s 0 lane Fld.LANE_STAT_block_lock ∧ fomGood s lane = true then
    .next (becomeActive 0 lane s)
  else if link = 0 ∧ laneIs s 0 lane Lane.fast ∧ statB s 0 lane Fld.LANE_STAT_block_lock ∧ fomGood s lane = true then
    .next (fastDone 0 lane s)
  else if link = 1 ∧ laneIs s 1 lane Lane.adapt ∧ 20 ≤ (laneOf s 1 lane).sweep.length ∧
      crc8 [BitVec.ofNat 8 status, BitVec.ofNat 8 fom] = crc ∧ rdF s (Reg.LANE_ADAPT 1 lane) Fld.LANE_ADAPT_fom_min ≤ fom % 256 then
    .next (s |> driverLocks lane status |> setStat 1 lane Fld.LANE_STAT_fom (fom % 256) |> becomeActive 1 lane)
  else .next s

/-- INVALID_SYNC_HEADER (R185, R214): LANE_HDR_ERR counts it with or without lock, and an open packet is abandoned with
pkt_err. -/
def execInvalidSyncHeader (lane : Nat) (block : BitVec 66) (s : State) : Host.Outcome State Fault Refusal :=
  match takeBlock lane block (notIdle lane (abandonPacket lane 3 s)) with
  | (.invalid, t) => .next t
  | _ => .next (hearBlock lane block s)

/-! ### LANE_TRAIN (R173, R174) -/

/-- The lanes a LANE_TRAIN names. -/
def trainMask (d : Dsc) : List Nat :=
  (List.range (laneCount (d.u8 16))).filter (fun n => bitAt (d.u64 24 + d.u64 32 * 2 ^ 64) n)

/-- A lane is in an autonomous retrain: a fast retrain or a full training that no LANE_TRAIN runs (R200). -/
def retraining (s : State) (link lane : Nat) : Bool :=
  laneIs s link lane Lane.fast || decide (1 ≤ laneState s link lane ∧ laneState s link lane ≤ 4)

/-- LANE_TRAIN: level 0 runs a fast retrain on an ACTIVE lane; every other lane runs full training with cause 1. A
lane in a retrain is waited for. -/
def execLaneTrain (port sq seq : Nat) (s : State) : Host.Outcome State Fault Refusal :=
  withReady port sq seq 0x0B01 (fun d s =>
    let link := d.u8 16
    let lanes := trainMask d
    let wait := lanes.filter (fun n => retraining s link n)
    let go := lanes.filter (fun n => !retraining s link n)
    let s := setRunning d s
    let s := { s with lanes := { s.lanes with jobs := s.lanes.jobs ++
      [{ port := port, sq := sq, seq := seq, link := link, full := decide (d.u8 17 = 1), waiting := wait,
         running := go }] } }
    let s := go.foldl (fun s n =>
      if d.u8 17 = 0 ∧ laneIs s link n Lane.active then
        (if link = 0 then abandonPacket n 3 s else s) |> startFast link n
      else startTraining link n 1 s) s
    endJobs s) s

/-! ### Word alignment by hand (R188, R189) -/

/-- LANE_BIT_SLIP: refused on active video; link 1 is forwarded to the driver and completes with its reply. -/
def execLaneBitSlip (port sq seq : Nat) (s : State) : Host.Outcome State Fault Refusal :=
  withReady port sq seq 0x0B02 (fun d s =>
    let link := d.u8 16
    let lane := d.u8 17
    if activeVideo s link lane then refuseWith d .refused (linkUnit link) s
    else if link = 0 then s |> slip 0 lane (d.u16 18) |> completeI d .ok 0
    else s |> setRunning d
      |> askDriver { lane := lane, cmd := 3, args := leBytes 1 (d.u16 18), dsc := some (port, sq, seq) }) s

/-- LANE_SLIP_WRITE: counts outside 1 to 66 are ignored; active video sets cfg_err. -/
def execLaneSlipWrite (port link lane : Nat) (val : Word) (s : State) : Host.Outcome State Fault Refusal :=
  let n := field val 0 7
  if !ownerWrites s port || decide (n = 0 ∨ 66 < n) then .next s
  else if activeVideo s link lane then .next (setFlag (Flag.LANE_cfg_err link lane) s)
  else if link = 0 then .next (slip 0 lane n s)
  else .next (askDriver { lane := lane, cmd := 3, args := leBytes 1 n, dsc := none } s)

/-- LANE_CFG_WRITE (R180, R186): enable 0 to 1 starts full training once the first training has begun, or stays OFF
with cfg_err on a bad rate, one that is out of range or not its group's (R182); enable 0 turns the lane off. -/
def execLaneCfgWrite (port link lane : Nat) (val : Word) (s : State) : Host.Outcome State Fault Refusal :=
  if !ownerWrites s port then .next s
  else
    let was := laneEnabled s link lane
    let s := writeRw (Reg.LANE_CFG link lane) val s
    let on := laneEnabled s link lane
    if on && !was then
      let s := wrF (Reg.LANE_ALIGN link lane) Fld.LANE_ALIGN_position 0 s
      if !rateOk s link lane then .next (setFlag (Flag.LANE_cfg_err link lane) s)
      else if s.lanes.begun then .next (startTraining link lane 1 s)
      else .next s
    else if was && !on then
      .next (setLane link lane { laneOf s link lane with saved := none } s
        |> endTrial link lane |> goLane link lane Lane.off |> jobLaneGone link lane)
    else .next s

/-! ### Figure of merit, adaptation, freeze and re-centring (R191 to R196) -/

/-- FoM after a window (R191): up one code when the samplers disagree on at most 4 bits, else down one. -/
def nextFom (fom disagree : Nat) : Nat := if disagree ≤ 4 then min 255 (fom + 1) else fom - 1

/-- A DFE tap after one sign-sign step, held in s6. -/
def stepTap (tap : Nat) (d : Int) : Nat := pattern 6 (satS 6 (signed 6 tap + clampI (-1) 1 d))

/-- One window's update of the four taps. -/
def stepTaps (lane : Nat) (steps : List Int) (s : State) : State :=
  let k := Reg.LANE_EQ 0 lane
  [(Fld.LANE_EQ_H_dfe1, 0), (Fld.LANE_EQ_H_dfe2, 1), (Fld.LANE_EQ_H_dfe3, 2), (Fld.LANE_EQ_H_dfe4, 3)].foldl
    (fun s e => wrF k e.1 (stepTap (rdF s k e.1) (steps.getD e.2 0)) s) s

/-- The receiver adapts: ACTIVE, adapt_en, not frozen (R192). -/
def adapting (s : State) (lane : Nat) : Bool :=
  laneIs s 0 lane Lane.active && rdB s (Reg.LANE_CFG 0 lane) Fld.LANE_CFG_adapt_en &&
    !statB s 0 lane Fld.LANE_STAT_frozen

/-- Put the next CTLE code of a trial in place, or end the trial with its old code. -/
def tryCtle (lane : Nat) (t : Trial) (s : State) : State :=
  if t.up then
    if t.base < 15 then
      setLane 0 lane { laneOf s 0 lane with trial := some t } s |> wrF (Reg.LANE_EQ 0 lane) Fld.LANE_EQ_H_ctle (t.base + 1)
    else if 0 < t.base then
      setLane 0 lane { laneOf s 0 lane with trial := some { t with up := false } } s
        |> wrF (Reg.LANE_EQ 0 lane) Fld.LANE_EQ_H_ctle (t.base - 1)
    else s
  else if 0 < t.base then
    setLane 0 lane { laneOf s 0 lane with trial := some t } s |> wrF (Reg.LANE_EQ 0 lane) Fld.LANE_EQ_H_ctle (t.base - 1)
  else setLane 0 lane { laneOf s 0 lane with trial := some t } s |> endTrial 0 lane

/-- A window of a running CTLE trial: after 8 windows a mean at least 2 above keeps the code. -/
def trialWindow (lane fom : Nat) (s : State) : State :=
  match (laneOf s 0 lane).trial with
  | none => s
  | some t =>
    let t := { t with windows := t.windows + 1, sum := t.sum + fom }
    if t.windows < 8 then setLane 0 lane { laneOf s 0 lane with trial := some t } s
    else if t.ref + 16 ≤ t.sum then setLane 0 lane { laneOf s 0 lane with trial := none } s
    else if t.up then tryCtle lane { t with up := false, windows := 0, sum := 0 } s
    else setLane 0 lane { laneOf s 0 lane with trial := some t } s |> endTrial 0 lane

/-- CTLE_TRIAL (R192): every 1 ms, from the mean of the last 8 windows. -/
def execCtleTrial (lane : Nat) (s : State) : Host.Outcome State Fault Refusal :=
  let l := laneOf s 0 lane
  if adapting s lane && decide (l.trial = none) && decide (l.foms.length = 8) then
    .next (tryCtle lane { base := rdF s (Reg.LANE_EQ 0 lane) Fld.LANE_EQ_H_ctle, ref := l.foms.sum, up := true } s)
  else .next s

/-! ### Eye scan (R202, R203) -/

/-- The data words of a lane's eye result. -/
def eyeWords (link lane : Nat) : List Nat := [Reg.LANE_EYE_DATA0 link lane, Reg.LANE_EYE_DATA1 link lane]

/-- Accept an eye scan: during a re-centre it waits for its end. -/
def eyeStart (link lane : Nat) (dsc : Option (Nat × Nat × Nat)) (s : State) : State :=
  let s := resultBegin (Reg.LANE_EYE_RESULT link lane) (eyeWords link lane) s
  let s := setLane link lane { laneOf s link lane with eyeDsc := dsc, eyeWaits := true } s
  if statB s link lane Fld.LANE_STAT_recentring then s else eyeRuns link lane s

/-- The scan's result becomes valid with a status; its descriptor completes. -/
def eyeEnd (link lane st : Nat) (s : State) : State :=
  let l := laneOf s link lane
  let s := resultEnd (Reg.LANE_EYE_RESULT link lane) st s
  let s := setLane link lane { laneOf s link lane with eyeDsc := none, eyeWaits := false } s
  match l.eyeDsc.bind (fun e => dscOf s e.1 e.2.1 e.2.2) with
  | some d => completeI d .ok (resAt 16 (rdF s (Reg.LANE_EYE_RESULT link lane) Fld.LANE_EYE_RESULT_result_seq)) s
  | none => s

/-- LANE_EYE_SCAN: BUSY and busy_reject while a scan runs on the lane. -/
def execLaneEyeScan (port sq seq : Nat) (s : State) : Host.Outcome State Fault Refusal :=
  withReady port sq seq 0x0B03 (fun d s =>
    if resultBusy s (Reg.LANE_EYE_RESULT (d.u8 16) (d.u8 17)) then
      s |> setFlag (Flag.LANE_busy_reject (d.u8 16) (d.u8 17)) |> complete d .busy 0 0
    else s |> setRunning d |> eyeStart (d.u8 16) (d.u8 17) (some (port, sq, seq))) s

/-- LANE_EYE_START_WRITE. -/
def execLaneEyeStartWrite (port link lane : Nat) (val : Word) (s : State) : Host.Outcome State Fault Refusal :=
  if !ownerWrites s port || decide (field val 0 1 = 0) then .next s
  else if resultBusy s (Reg.LANE_EYE_RESULT link lane) then .next (setFlag (Flag.LANE_busy_reject link lane) s)
  else .next (eyeStart link lane none s)

/-- What an eye scan measured (R209): edges, and disagreements at the centre. -/
structure EyeResult where
  left : Nat
  right : Nat
  top : Nat
  bottom : Nat
  centre : Nat
deriving DecidableEq, Repr

/-- Write a scan's data words. -/
def eyeData (link lane fom : Nat) (r : EyeResult) (s : State) : State :=
  s |> wr (Reg.LANE_EYE_DATA0 link lane) (BitVec.ofNat 32
      (r.left % 256 + 0x100 * (r.right % 256) + 0x10000 * (r.top % 256) + 0x1000000 * (r.bottom % 256)))
    |> wr (Reg.LANE_EYE_DATA1 link lane) (BitVec.ofNat 32 (min 65535 r.centre + 0x10000 * (fom % 256)))

/-- The edge on a way outward from the centre: steps to the first point that disagrees on more than 1 bit (R202). A sweep
that meets none has no stated edge: free. -/
def eyeEdge (free : Nat) (counts : List Nat) : Nat := (counts.findIdx? (fun n => decide (1 < n))).getD (Config.freeValue free % 256)

/-- The edges of the two sweeps. The horizontal sweep counts centre at the sampling point, left at the phases −1 to −32 and
right at +1 to +31; the vertical sweep counts top at the offsets 0 to +127 and bottom at −1 to −127. -/
def eyeResult (free : Nat) (left right top bottom : List Nat) (centre : Nat) : EyeResult :=
  { left := 256 - eyeEdge free (centre :: left.take 32), right := eyeEdge (free + 1) (centre :: right.take 31),
    top := eyeEdge (free + 2) (top.take 128), bottom := eyeEdge (free + 3) (top.take 1 ++ bottom.take 127),
    centre := centre }

/-- EYE_SCAN_DONE: the scan ends with the disagreements counted at each point of its two sweeps (status 0), or the driver
has not returned it in time (status 2). -/
def execEyeScanDone (link lane : Nat) (left right top bottom : List Nat) (centre : Nat) (answered : Bool) (s : State) :
    Host.Outcome State Fault Refusal :=
  if !resultBusy s (Reg.LANE_EYE_RESULT link lane) || (laneOf s link lane).eyeWaits then .next s
  else if answered then
    .next (s |> eyeData link lane (laneOf s link lane).eyeFom (eyeResult s.fresh left right top bottom centre) |> eyeEnd link lane 0
      |> tick)
  else .next (eyeEnd link lane 2 s)

/-- A re-centre becomes due: it starts, and a running eye scan is abandoned (R195, R203). -/
def recentreDue (lane : Nat) (s : State) : State :=
  let s := setStat 0 lane Fld.LANE_STAT_recentring 1 s
  if resultBusy s (Reg.LANE_EYE_RESULT 0 lane) && !(laneOf s 0 lane).eyeWaits then eyeEnd 0 lane 1 s else s

/-- fom_drop; 0 acts as 1 (R209). -/
def fomDrop (s : State) (lane : Nat) : Nat := max 1 (rdF s (Reg.LANE_ADAPT 0 lane) Fld.LANE_ADAPT_fom_drop)

/-- Windows in a row with FoM at fom_min or above, up to 4. -/
def countGood (lane fom : Nat) (s : State) : State :=
  let l := laneOf s 0 lane
  let enough := decide (rdF s (Reg.LANE_ADAPT 0 lane) Fld.LANE_ADAPT_fom_min ≤ fom)
  setLane 0 lane { l with good := if enough then min 4 (l.good + 1) else 0 } s

/-- A window of ADAPT (R187 steps 4 and 5): each CTLE code is held for 16 windows, 2^16 UI, and FoM is summed over 8 more;
the lowest code with the highest sum is kept and held for 16 windows; then FoM is held against fom_min. -/
def adaptWindow (lane fom : Nat) (s : State) : State :=
  let l := laneOf s 0 lane
  if l.sweep.length < 16 then
    if l.win + 1 < 24 then setLane 0 lane { l with win := l.win + 1 } s
    else
      let sweep := l.sweep ++ [l.foms.sum]
      setLane 0 lane { l with win := 0, sweep := sweep } s
        |> wrF (Reg.LANE_EQ 0 lane) Fld.LANE_EQ_H_ctle (if sweep.length < 16 then sweep.length else argMax sweep)
  else if l.win < 16 then setLane 0 lane { l with win := l.win + 1 } s
  else countGood lane fom s

/-- A Headwater receiver that has a signal tracks FoM. -/
def fomRuns (st : Nat) : Bool := decide ((2 ≤ st ∧ st ≤ 6) ∨ st = Lane.prbs)

/-- FOM_WINDOW (R187, R191, R192, R195, R198): disagreements of the samplers in the window, and the sign-sign step of each
tap. A frozen lane only watches FoM, and re-centres when it falls more than fom_drop below the reference. -/
def execFomWindow (lane disagree : Nat) (steps : List Int) (s : State) : Host.Outcome State Fault Refusal :=
  let st := laneState s 0 lane
  if !fomRuns st then .next s
  else
    let fom := nextFom (laneFom s 0 lane) disagree
    let s := setStat 0 lane Fld.LANE_STAT_fom fom s
    let s := setLane 0 lane { laneOf s 0 lane with foms := (fom :: (laneOf s 0 lane).foms).take 8 } s
    if adapting s lane then .next (s |> stepTaps lane steps |> trialWindow lane fom)
    else if st = Lane.adapt then .next (stepTaps lane steps s |> adaptWindow lane fom)
    else if st = Lane.fast then .next (if statB s 0 lane Fld.LANE_STAT_block_lock then countGood lane fom s else s)
    else if statB s 0 lane Fld.LANE_STAT_frozen && !statB s 0 lane Fld.LANE_STAT_recentring &&
        decide (fom + fomDrop s lane < rdF s (Reg.LANE_STAT 0 lane) Fld.LANE_STAT_fom_ref) then
      .next (recentreDue lane s)
    else .next s

/-- A lane freezes (R194, R196): a trial is ended with its old code and fom_ref takes the FoM. -/
def freezeLane (link lane : Nat) (s : State) : State :=
  s |> endTrial link lane |> setStat link lane Fld.LANE_STAT_frozen 1
    |> setStat link lane Fld.LANE_STAT_fom_ref (laneFom s link lane)

/-- IDLE_FREEZE: a Headwater lane's count has reached 4,097, or a Sluice lane has sent more than 4,096. -/
def execIdleFreeze (link lane : Nat) (s : State) : Host.Outcome State Fault Refusal :=
  if laneIs s link lane Lane.active && !statB s link lane Fld.LANE_STAT_frozen &&
      (decide (link = 1) || decide (4097 ≤ (laneOf s 0 lane).idle)) then .next (freezeLane link lane s)
  else .next s

/-- One more IDLE block (R194): at 4,097 an ACTIVE lane freezes. Inside a packet it abandons the packet (R214). -/
def idleArrives (lane : Nat) (s : State) : State :=
  let s := abandonPacket lane 3 s |> countEvent 0x20 0x12 1
  let n := (laneOf s 0 lane).idle + 1
  let s := setLane 0 lane { laneOf s 0 lane with idle := n } s
  if n = 4097 ∧ laneIs s 0 lane Lane.active ∧ ¬ statB s 0 lane Fld.LANE_STAT_frozen then freezeLane 0 lane s else s

/-- HWL_IDLE_BLOCK (R194, R213). -/
def execHwlIdleBlock (b : LaneBlock) (s : State) : Host.Outcome State Fault Refusal :=
  match takeBlock b.lane b.block s with
  | (.control 0x1E _, t) => .next (idleArrives b.lane t)
  | _ => .next (hearBlock b.lane b.block s)

/-- The widest run of error-free points: where it starts and how many it has; the first of equal ones. -/
def widestRun (errors : List Nat) : Nat × Nat :=
  let step := fun (a : (Nat × Nat) × (Nat × Nat)) (e : Nat × Nat) =>
    if e.1 ≠ 0 then ((e.2 + 1, 0), a.2)
    else
      let run := (a.1.1, a.1.2 + 1)
      (run, if a.2.2 < run.2 then run else a.2)
  ((errors.zipIdx).foldl step ((0, 0), (0, 0))).2

/-- The sampling phase after a re-centre: the centre of the widest error-free run of the 64 phases, −32 to +31 about the
present one; without such a phase it stays. -/
def centredPhase (phase : Nat) (errors : List Nat) : Nat :=
  match widestRun (errors.take 64) with
  | (_, 0) => phase
  | (a, n + 1) => (phase + 32 + a + n / 2) % 64

/-- RECENTRE_DONE (R195) with the errors of each phase: the sampling phase moves, fom_ref takes the FoM, recentre is flagged
and LANE_RECENTRED posted; a data block that arrived meanwhile ends the freeze; an eye scan that waited starts (R203). -/
def execRecentreDone (scan : LaneErrors) (s : State) : Host.Outcome State Fault Refusal :=
  let lane := scan.lane
  if !statB s 0 lane Fld.LANE_STAT_recentring then .next s
  else
    let s := setLane 0 lane { laneOf s 0 lane with phase := centredPhase (laneOf s 0 lane).phase scan.errors } s
    let fom := laneFom s 0 lane
    let thaw := (laneOf s 0 lane).thaw
    let s := s |> setStat 0 lane Fld.LANE_STAT_recentring 0 |> setStat 0 lane Fld.LANE_STAT_fom_ref fom
      |> setFlag (Flag.LANE_recentre 0 lane) |> laneEvent 0 lane 0x0BF4 0 fom
    let s := if thaw then s |> setStat 0 lane Fld.LANE_STAT_frozen 0
        |> setLane 0 lane { laneOf s 0 lane with thaw := false } else s
    if (laneOf s 0 lane).eyeWaits then .next (eyeRuns 0 lane s) else .next s

/-! ### PRBS test (R204 to R206, R210) -/

/-- The next bit of a lane's own sequence, from its last 64 bits, bit 0 the newest (R204): the four polynomials, and the
64-bit user pattern again. -/
def prbsNext (pat seq : Nat) : Bool :=
  match pat with
  | 1 => bitAt seq 6 ^^ bitAt seq 5
  | 2 => bitAt seq 14 ^^ bitAt seq 13
  | 3 => bitAt seq 22 ^^ bitAt seq 17
  | 4 => bitAt seq 30 ^^ bitAt seq 27
  | _ => bitAt seq 63

/-- The last 64 bits after one more. -/
def shiftSeq (seq : Nat) (b : Bool) : Nat := (2 * seq + b2n b) % 2 ^ 64

/-- A 64-bit number with its bits in reverse order. -/
def reverse64 (x : Nat) : Nat := (List.range 64).foldl (fun a i => 2 * a + b2n (bitAt x i)) 0

/-- 64 received bits are the user pattern from some bit of it on. -/
def userPhase (user seq : Nat) : Bool :=
  (List.range 64).any (fun r => decide (reverse64 user * 2 ^ r % 2 ^ 64 + reverse64 user / 2 ^ (64 - r) = seq))

/-- The pattern of a lane's test and its user pattern. -/
def prbsPat (s : State) (link lane : Nat) : Nat := rdF s (Reg.PRBS_CTRL link lane) Fld.PRBS_CTRL_pattern

def prbsUser (s : State) (link lane : Nat) : Nat :=
  (rd s (Reg.PRBS_USER_LO link lane)).toNat + 2 ^ 32 * (rd s (Reg.PRBS_USER_HI link lane)).toNat

/-- What a run of bits does at a checker: its lane, errors counted, and times it dropped lock. -/
structure Checked where
  lane : LaneState
  errs : Nat := 0
  drops : Nat := 0
deriving DecidableEq, Repr

/-- One received bit at a checker (R205, R206): an injected bit is inverted first; 64 bits seed the own sequence, the next 64
must match it, and then every bit is compared. More than 100 errors within 1,024 compared bits drop the lock. -/
def checkBit (pat user : Nat) (c : Checked) (b : Bool) : Checked :=
  let l := c.lane
  let b := if l.inject = 0 then b else !b
  let l := { l with inject := l.inject - 1 }
  if l.prbsSeen < 64 then
    let seq := shiftSeq l.prbsSeq b
    let bad := decide (l.prbsSeen = 63 ∧ pat = 5) && !userPhase user seq
    { c with lane := { l with prbsSeq := seq, prbsSeen := if bad then 0 else l.prbsSeen + 1 } }
  else
    let e := prbsNext pat l.prbsSeq
    let l := { l with prbsSeq := shiftSeq l.prbsSeq e }
    if l.prbsSeen < 128 then { c with lane := { l with prbsSeen := if b = e then l.prbsSeen + 1 else 0 } }
    else
      let n := (l.bits + 1) % 2 ^ 48
      if b = e then { c with lane := { l with bits := n } }
      else
        let errs := n :: l.prbsErrs.filter (fun t => decide ((n + 2 ^ 48 - t) % 2 ^ 48 < 1024))
        if errs.length ≤ 100 then { c with lane := { l with bits := n, prbsErrs := errs }, errs := c.errs + 1 }
        else { lane := { l with bits := n, prbsErrs := [], prbsSeen := 0 }, errs := c.errs + 1, drops := c.drops + 1 }

/-- n received bits, the first in bit 0. -/
def checkBits (pat user : Nat) : Nat → Nat → Checked → Checked
  | 0, _, c => c
  | n + 1, x, c => checkBits pat user n (x / 2) (checkBit pat user c (decide (x % 2 = 1)))

/-- n bits that a generator sends, injected ones inverted, and its lane after them. -/
def generateBits (pat : Nat) : Nat → LaneState → Nat × LaneState
  | 0, l => (0, l)
  | n + 1, l =>
    let b := prbsNext pat l.prbsSeq
    let sent := if l.inject = 0 then b else !b
    let r := generateBits pat n { l with prbsSeq := shiftSeq l.prbsSeq b, inject := l.inject - 1 }
    (b2n sent + 2 * r.1, r.2)

/-- n bits with P and N inverted where LANE_CFG.polarity says so (R209). -/
def polarBits (s : State) (link lane n bits : Nat) : Nat :=
  if rdB s (Reg.LANE_CFG link lane) Fld.LANE_CFG_polarity then 2 ^ n - 1 - bits % 2 ^ n else bits

/-- n bits go by on a lane in PRBS: a Headwater lane checks them, a Sluice lane sends them, unless its pins are still Hi-Z
(R46). -/
def prbsAdvance (link lane n bits : Nat) (s : State) : State :=
  if !laneIs s link lane Lane.prbs || decide (n = 0) then s
  else if link = 0 then
    let c := checkBits (prbsPat s 0 lane) (prbsUser s 0 lane) n (polarBits s 0 lane n bits) { lane := laneOf s 0 lane }
    let s := setLane 0 lane c.lane s |> wr (Reg.PRBS_BITS_LO 0 lane) (BitVec.ofNat 32 c.lane.bits)
      |> bumpSat (Reg.PRBS_ERRS 0 lane) Fld.PRBS_ERRS_errors c.errs
      |> wrF (Reg.PRBS_STAT 0 lane) Fld.PRBS_STAT_locked (b2n (decide (128 ≤ c.lane.prbsSeen)))
    (List.range c.drops).foldl (fun s _ => setFlag (Flag.LANE_prbs_unlock 0 lane) s) s
  else
    let g := generateBits (prbsPat s 1 lane) n (laneOf s 1 lane)
    let s := setLane 1 lane g.2 s
    if s.raster.driven then emit (.prbsBits lane n (polarBits s 1 lane n g.1)) s else s

/-- Last 64 bits from which a generator starts: the user pattern starts with its bit 0; where a polynomial's sequence starts
the spec does not say, and it is free. -/
def prbsSeed (free pat user : Nat) : Nat :=
  if pat = 5 then reverse64 user
  else 1 + Config.freeValue free % (2 ^ (if pat = 1 then 7 else if pat = 2 then 15 else if pat = 3 then 23 else 31) - 1)

/-- Start or end a test by its pattern: a test puts the lane in PRBS and clears the counts; pattern 0 ends it with full
training. A Sluice lane's driver is told the pattern (R473); a Sluice lane that carries no segment stays OFF (R463). -/
def prbsPattern (link lane pat user : Nat) (s : State) : State :=
  let was := laneIs s link lane Lane.prbs
  if link = 1 ∧ carriesSegment s lane = false then s else
  let s := if link = 1 ∧ (pat ≠ 0 ∨ was) then
      askDriver { lane := lane, cmd := 6, args := leBytes 1 pat ++ leBytes 8 user, dsc := none } s else s
  if pat ≠ 0 then
    let seed := if link = 0 then 0 else prbsSeed s.fresh pat user
    let rate := rateNow s link lane
    s |> goLane link lane Lane.prbs
      |> setLane link lane { laneOf s link lane with
           bits := 0, prbsSeen := 0, prbsErrs := [], prbsSeq := seed, rate := rate, packet := none }
      |> wr (Reg.PRBS_BITS_LO link lane) 0 |> wr (Reg.PRBS_BITS_HI link lane) 0 |> wr (Reg.PRBS_ERRS link lane) 0
      |> wr (Reg.PRBS_STAT link lane) 0 |> tick
  else if was then
    setLane link lane { laneOf s link lane with inject := 0 } s |> wr (Reg.PRBS_STAT link lane) 0 |> startTraining link lane 1
  else s

/-- Inject one bit or a burst; a request while one runs is ignored with busy_reject (R206). -/
def prbsInject (link lane n : Nat) (s : State) : State :=
  if (laneOf s link lane).inject ≠ 0 then setFlag (Flag.LANE_busy_reject link lane) s
  else setLane link lane { laneOf s link lane with inject := n } s

/-- Bits of an injection kind and burst length (R209). -/
def injectBits (kind len : Nat) : Nat :=
  if kind = 1 then 1 else if kind = 2 then (if 1 ≤ len ∧ len ≤ 64 then len else 64) else 0

/-- LANE_PRBS: refused on active video. -/
def execLanePrbs (port sq seq : Nat) (s : State) : Host.Outcome State Fault Refusal :=
  withReady port sq seq 0x0B04 (fun d s =>
    let link := d.u8 16
    let lane := d.u8 17
    if activeVideo s link lane then refuseWith d .refused (linkUnit link) s
    else
      let user := d.u64 24
      let s := s |> wrF (Reg.PRBS_CTRL link lane) Fld.PRBS_CTRL_pattern (d.u8 18)
        |> wrF (Reg.PRBS_CTRL link lane) Fld.PRBS_CTRL_role (d.u8 19)
        |> wr (Reg.PRBS_USER_LO link lane) (BitVec.ofNat 32 user)
        |> wr (Reg.PRBS_USER_HI link lane) (BitVec.ofNat 32 (user / 2 ^ 32))
        |> prbsPattern link lane (d.u8 18) user
      let n := injectBits (d.u8 20) (d.u8 21)
      let s := if n = 0 then s else prbsInject link lane n s
      completeI d .ok 0 s) s

/-- PRBS_CTRL_WRITE: ignored with cfg_err on active video; patterns 6 and 7, which no table lists, change nothing but
the field. -/
def execPrbsCtrlWrite (port link lane : Nat) (val : Word) (s : State) : Host.Outcome State Fault Refusal :=
  if !ownerWrites s port then .next s
  else if activeVideo s link lane then .next (setFlag (Flag.LANE_cfg_err link lane) s)
  else
    let s := writeRw (Reg.PRBS_CTRL link lane) val s
    .next (if 5 < field val 0 3 then s else prbsPattern link lane (field val 0 3) (prbsUser s link lane) s)

/-- PRBS_INJECT_WRITE: n bits went by on the lane since the last command on it; on a Headwater lane these are the bits
received, the first in bit 0. -/
def execPrbsInjectWrite (port link lane n bits : Nat) (val : Word) (s : State) : Host.Outcome State Fault Refusal :=
  let s := prbsAdvance link lane n bits s
  let k := injectBits (field val 0 2) (field val 8 7)
  if !ownerWrites s port || decide (k = 0) then .next s else .next (prbsInject link lane k s)

/-- PRBS_BITS_LO_READ (R210): the read captures the upper bits of the same count. -/
def execPrbsBitsLoRead (port link lane n bits : Nat) (s : State) : Host.Outcome State Fault Refusal :=
  let s := prbsAdvance link lane n bits s
  if !portWrites s port || !s.boot.lanesDone then .next s
  else
    let n := (laneOf s link lane).bits
    .next (s |> wr (Reg.PRBS_BITS_HI link lane) (BitVec.ofNat 32 (n / 2 ^ 32))
      |> emit (.readData port (Reg.PRBS_BITS_LO link lane) (n % 2 ^ 32)))

/-- PRBS_CHECKER_LOCKED (R205): n received bits, 64 to seed from and 64 that match among them, lock the checker. -/
def execPrbsCheckerLocked (r : LaneBits) (s : State) : Host.Outcome State Fault Refusal := .next (prbsAdvance 0 r.lane r.n r.bits s)

/-- PRBS_CHECKER_UNLOCK (R205): n received bits with more than 100 errors within 1,024 unlock it, and it seeds again. -/
def execPrbsCheckerUnlock (lane n bits : Nat) (s : State) : Host.Outcome State Fault Refusal :=
  if rdB s (Reg.PRBS_STAT 0 lane) Fld.PRBS_STAT_locked then .next (prbsAdvance 0 lane n bits s) else .next s

end Sys2Proof.Machine
end

