-- ==== Sys2Proof/Machine/Compose.lean ====
section
/-! DEFINITION. Confluence: what a composition line shows (R272 to R285), line patch (R227 to R229), the latch instant
(R132, R133, R255), and the start and end of composition frames (R254, R272). -/

namespace Sys2Proof.Machine

/-! ### Layers -/

def layerOf (s : State) (n : Nat) : LayerState := tabGet (fun _ => {}) s.comp.layers n

def setLayer (n : Nat) (l : LayerState) (s : State) : State :=
  { s with comp := { s.comp with layers := tabSet (fun _ => {}) s.comp.layers n l } }

def CView.field (v : CView) (k : Nat) (f : Nat × Nat) : Nat := Machine.field (tabGet regReset v.regs k) f.1 f.2

def CView.layer (v : CView) (n : Nat) : LayerState := tabGet (fun _ => {}) v.layers n

/-- Section bytes of the version of a table that the view uses; empty without one. -/
def CView.table (v : CView) (id : Nat) : List Byte := tabGet (fun _ => []) v.tables id

def viewNow (s : State) : CView := { regs := s.regs, layers := s.comp.layers, tables := s.tables.active }

def viewOf (s : State) : CView := (s.comp.cur.bind (·.held)).getD (viewNow s)

def CView.enabled (v : CView) (n : Nat) : Bool := decide (v.field (Reg.COMP_Ln_CFG n) Fld.COMP_Ln_CFG_enable = 1)

/-- 1 SNAPSHOT, 2 LIVE. -/
def CView.kind (v : CView) (n : Nat) : Nat := v.field (Reg.COMP_Ln_CFG n) Fld.COMP_Ln_CFG_kind

def CView.z (v : CView) (n : Nat) : Nat := v.field (Reg.COMP_Ln_CFG n) Fld.COMP_Ln_CFG_z

/-- L0 to L15 carry the configured kind in their register; H0 and H1 are configured by LAYER_CONFIG. -/
def CView.configured (v : CView) (n : Nat) : Bool :=
  if n < 16 then decide (v.kind n = 1 ∨ v.kind n = 2) else (v.layer n).configured

def CView.hasBuffer (v : CView) (n : Nat) : Bool := decide (16 ≤ n) || (v.layer n).current.isSome

/-- R273. -/
def CView.takesPart (v : CView) (n : Nat) : Bool := v.enabled n && v.configured n && v.hasBuffer n && !(v.layer n).off

/-- COMP_Ln_STAT.state (R298). -/
def CView.stateCode (v : CView) (n : Nat) : Nat :=
  if v.takesPart n then 1
  else if v.enabled n && v.configured n then if (v.layer n).off then 3 else 2
  else 0

def layerNumbers : List Nat := List.range 18

/-- COMP_STAT.taking_part and every COMP_Ln_STAT.state follow the layers. -/
def followLayers (s : State) : State :=
  layerNumbers.foldl (fun s n =>
    s |> wrF Reg.COMP_STAT (n, 1) (b2n ((viewNow s).takesPart n))
      |> wrF (Reg.COMP_Ln_STAT n) Fld.COMP_Ln_STAT_state ((viewNow s).stateCode n)) s

/-- Active width and height of the configured panel; 0 before the first SET_PANEL. -/
def panelW (s : State) : Nat := (s.raster.panel.map (·.width)).getD 0
def panelH (s : State) : Nat := (s.raster.panel.map (·.height)).getD 0

/-! ### Headwater lines the frame in progress reads -/

def planeWidth (w : Nat) : Nat := bitsAt w 0 14
def planeHeight (w : Nat) : Nat := bitsAt w 14 14
def planeFormat (w : Nat) : Nat := bitsAt w 28 4

/-- The active lanes in ascending order (R211); a mask of 0 acts as lane 0 alone. -/
def lanesOf (mask : Nat) : List Nat :=
  if mask % 2 ^ 32 = 0 then [0] else (List.range 32).filter (fun i => bitAt mask i)

/-- The lane that carries line L of plane p (R211). -/
def HwFrame.laneFor (f : HwFrame) (p line : Nat) : Nat :=
  let a := lanesOf f.mask
  a.getD ((line + f.rot.getD p 0) % a.length) 0

def HwFrame.word (f : HwFrame) (p : Nat) : Nat := f.planes.getD p 0
def HwFrame.has (f : HwFrame) (p line : Nat) : Bool := (f.lines.any (fun e => decide (e.1 = HwFrame.key p line)))

def HwFrame.comps (f : HwFrame) (p line : Nat) : List Nat := tabGet (fun _ => []) f.lines (HwFrame.key p line)

def HwFrame.isPatched (f : HwFrame) (p line : Nat) : Bool :=
  f.patched.any (fun e => decide (e.1 = p ∧ e.2.1 = line))

/-- The lines of a Headwater frame that the composition frame in progress reads. -/
def hwRead (s : State) : Option HwFrame :=
  match s.comp.cur with
  | some c => match c.own with
    | some f => some f
    | none => s.hwl.frame
  | none => s.hwl.frame

/-- Put back the Headwater frame that hwRead gives. -/
def setHwRead (f : HwFrame) (s : State) : State :=
  match s.comp.cur with
  | some c => match c.own with
    | some _ => { s with comp := { s.comp with cur := some { c with own := some f } } }
    | none => { s with hwl := { s.hwl with frame := some f } }
  | none => { s with hwl := { s.hwl with frame := some f } }

/-- Plane p is enabled (LAYER_ENABLE of H0 or H1). -/
def planeOn (s : State) (p : Nat) : Bool := (viewNow s).enabled (16 + p)

/-- Vertical position of plane p in a view. -/
def CView.planeY (v : CView) (p : Nat) : Nat := v.field (Reg.COMP_Ln_POS (16 + p)) Fld.COMP_Ln_POS_y

/-- The composition frame in progress reads the Headwater frame that is receiving lines. -/
def readsOpen (s : State) : Bool := s.comp.cur.any (fun c => c.own.isNone) && !s.comp.h1Waiting

/-- The view that decides about the lines being received: that of the composition frame that reads them. -/
def hwView (s : State) : CView := if readsOpen s then viewOf s else viewNow s

/-- A layer as the frame in progress has it: after its latch instant, as it was before that. -/
def frameLayer (s : State) (n : Nat) : LayerState := (viewOf s).layer n

def setFrameLayer (n : Nat) (l : LayerState) (s : State) : State :=
  match s.comp.cur with
  | some c =>
    match c.held with
    | some h =>
      { s with comp := { s.comp with cur := some { c with held := some { h with layers := tabSet (fun _ => {}) h.layers n l } } } }
    | none => setLayer n l s
  | none => setLayer n l s

/-! ### Rows -/

/-- Pixels of a three-component row from its luma samples and chroma samples c r k of component j. -/
def yccRow (w n m sampling siting ly : Nat) (y : Nat → Nat) (c : Nat → Nat → Nat → Nat) : List Px :=
  (List.range w).map (fun x =>
    { c0 := y x, c1 := chromaPixel sampling siting n m (c 0) ly x, c2 := chromaPixel sampling siting n m (c 1) ly x })

/-- The siting code as it acts: 3 is listed by no rule. -/
def sitingOf (c : Nat) : Nat := if c = 3 then Config.unlistedSiting % 3 else c

/-- Expanded pixels of layer line ly of L0 to L15, from its plane bytes. -/
def hostRow (v : CView) (n ly : Nat) : List Px :=
  let l := v.layer n
  let data := if v.kind n = 2 then l.lines else l.version
  let bytes := fun p line => tabGet (fun _ => ([] : List Byte)) data (16384 * p + line)
  let fmt := v.field (Reg.COMP_Ln_CFG n) Fld.COMP_Ln_CFG_format
  let w := v.field (Reg.COMP_Ln_SIZE n) Fld.COMP_Ln_SIZE_width
  let h := v.field (Reg.COMP_Ln_SIZE n) Fld.COMP_Ln_SIZE_height
  let siting := sitingOf (v.field (Reg.COMP_Ln_CFG n) Fld.COMP_Ln_CFG_siting)
  if !formatListed fmt then
    (List.range w).map (fun x => { c0 := Config.unlistedSample fmt (3 * x) % 65536,
                                   c1 := Config.unlistedSample fmt (3 * x + 1) % 65536,
                                   c2 := Config.unlistedSample fmt (3 * x + 2) % 65536 })
  else if fmt / 64 = 1 then
    let bs := bytes 0 ly
    (List.range w).map (packedPixel (fmt % 4) bs)
  else
    let depth := fmt % 4
    let sampling := bitsAt fmt 4 2
    let cw := if sampling = 2 then w else w / 2
    let ch := if sampling = 0 then h / 2 else h
    let chroma := fun j r k =>
      if bitAt fmt 3 then planarSample depth (bytes (1 + j) r) k else planarSample depth (bytes 1 r) (2 * k + j)
    yccRow w cw ch sampling siting ly (planarSample depth (bytes 0 ly)) chroma

/-- Plane lines that layer line ly needs (R279): the chroma rows the vertical filter reaches are among them. -/
def neededLines (v : CView) (n ly : Nat) : List (Nat × Nat) :=
  let fmt := v.field (Reg.COMP_Ln_CFG n) Fld.COMP_Ln_CFG_format
  if fmt / 64 = 1 then [(0, ly)]
  else
    let h := v.field (Reg.COMP_Ln_SIZE n) Fld.COMP_Ln_SIZE_height
    let chromaPlanes := if bitAt fmt 3 then [1, 2] else [1]
    let rows :=
      if bitsAt fmt 4 2 = 0 then
        let kp := chromaPhase (decide (v.field (Reg.COMP_Ln_CFG n) Fld.COMP_Ln_CFG_siting = 0)) ly
        [0, 1, 2, 3].map (fun t => (clampI 0 ((h / 2 : Nat) - 1) (kp.1 - 1 + (t : Nat))).toNat)
      else [ly]
    (0, ly) :: chromaPlanes.flatMap (fun p => rows.map (fun r => (p, r)))

/-- Depth in bits of a Headwater format. -/
def hwDepth (fmt : Nat) : Nat := match bitsAt fmt 2 2 with
  | 0 => 10 | 1 => 12 | _ => 16

/-- Expanded pixels of line ly of plane p. A 4:2:0 chroma row that has not arrived is a free value: base numbers it. -/
def hwRow (f : HwFrame) (p siting ly base : Nat) : List Px :=
  let word := f.word p
  let w := planeWidth word
  let h := planeHeight word
  let fmt := planeFormat word
  let d := hwDepth fmt
  let cs := f.comps p ly
  let e := fun k => zeroFill d (cs.getD k 0)
  match fmt % 4 with
  | 0 | 1 => (List.range w).map (fun x => { c0 := e (3 * x), c1 := e (3 * x + 1), c2 := e (3 * x + 2) })
  | 2 => yccRow w (w / 2) h 1 siting ly (fun x => e (2 * x)) (fun j _ k => e (4 * k + 2 * j + 1))
  | _ =>
    let luma := fun x => if ly % 2 = 0 then e (2 * x) else e x
    let chroma := fun j r k =>
      if f.has p (2 * r) then zeroFill d ((f.comps p (2 * r)).getD (4 * k + 2 * j + 1) 0)
      else Config.freeValue (base + 32768 * (2 * r + j) + k) % 65536
    yccRow w (w / 2) (h / 2) 0 siting ly luma chroma

/-- Settings of a layer's colour path. -/
def pathCfg (s : State) (v : CView) (n : Nat) : PathCfg :=
  let l := v.layer n
  { premultiplied := decide (v.field (Reg.COMP_Ln_CFG n) Fld.COMP_Ln_CFG_alpha = 1 ∧
      v.field (Reg.COMP_Ln_CFG n) Fld.COMP_Ln_CFG_format / 64 = 1 ∧ n < 16),
    matrix := matrixOf (v.field (Reg.COMP_Ln_CFG n) Fld.COMP_Ln_CFG_matrix) l.matrix,
    eotf := v.field (Reg.COMP_Ln_CFG n) Fld.COMP_Ln_CFG_eotf,
    nits := max 100 (rdF s Reg.COMP_PQ_REF Fld.COMP_PQ_REF_nits),
    custom := v.table (0x02F00000 + n),
    gamut := l.gamut,
    gain := v.field (Reg.COMP_Ln_GAIN n) Fld.COMP_Ln_GAIN_gain,
    knee := v.field (Reg.COMP_Ln_CLIP n) Fld.COMP_Ln_CLIP_knee }

def fallbackPx (v : CView) (n : Nat) : Px :=
  { c0 := v.field (Reg.COMP_Ln_FB_RG n) Fld.COMP_Ln_FB_RG_r, c1 := v.field (Reg.COMP_Ln_FB_RG n) Fld.COMP_Ln_FB_RG_g,
    c2 := v.field (Reg.COMP_Ln_FB_B n) Fld.COMP_Ln_FB_B_b }

/-- Width and height of a layer (R273): those of H0 and H1 come from the Headwater frame. -/
def layerSize (hw : Option HwFrame) (v : CView) (n : Nat) : Nat × Nat :=
  if n < 16 then (v.field (Reg.COMP_Ln_SIZE n) Fld.COMP_Ln_SIZE_width, v.field (Reg.COMP_Ln_SIZE n) Fld.COMP_Ln_SIZE_height)
  else
    let w := (hw.map (fun f => f.word (n - 16))).getD 0
    (planeWidth w, planeHeight w)

/-- Layer n covers composition line y, on a panel of width w (R273). -/
def coversLine (hw : Option HwFrame) (v : CView) (n y w : Nat) : Bool :=
  let y0 := v.field (Reg.COMP_Ln_POS n) Fld.COMP_Ln_POS_y
  decide (y0 ≤ y ∧ y < y0 + (layerSize hw v n).2 ∧ v.field (Reg.COMP_Ln_POS n) Fld.COMP_Ln_POS_x < w)

/-- Layer n shows its fallback colour on composition line y (R227, R291, R292). -/
def showsFallback (v : CView) (n y : Nat) (planesOut : List Nat) : Bool :=
  if n < 16 then
    decide (v.kind n = 2) && (decide (y ∈ (v.layer n).under) ||
      (match (v.layer n).faultFrom with
       | some l => decide (l + v.field (Reg.COMP_Ln_POS n) Fld.COMP_Ln_POS_y ≤ y)
       | none => false))
  else decide (n - 16 ∈ planesOut)

/-- Planes of a format (R275). -/
def planesOf (fmt : Nat) : Nat := if fmt / 64 = 1 then 1 else if bitAt fmt 3 then 3 else 2

/-- Bytes of a line of plane p (R275). -/
def lineBytes (fmt w p : Nat) : Nat :=
  if fmt / 64 = 1 then w * (if fmt % 4 = 2 then 8 else 4)
  else
    let b := if fmt % 4 = 0 then 1 else 2
    let cw := if bitsAt fmt 4 2 = 2 then w else w / 2
    if p = 0 then b * w else if bitAt fmt 3 then b * cw else 2 * b * cw

/-- Lines of 64 bytes in a slot of the composed ring (R412). -/
def slotLines : Nat := 12441600

/-- A 64-byte line of a slot is uncorrectable. -/
def slotBad (s : State) (slot rel : Nat) : Bool := s.rsv.badLines.contains (0, slotLines * slot + rel)

/-- Line y of what a slot of the composed ring holds, 6 bytes a pixel row by row: an uncorrectable 64 bytes come from the
newest other slot, or read as zero (R418). -/
def slotRow (s : State) (slot : Nat) (row : List Nat) (y : Nat) : List Nat :=
  if !s.rsv.badLines.any (fun (b : Nat × Nat) => decide (b.1 = 0)) then row
  else row.mapIdx (fun i v =>
    let rel := (row.length * y + i) / 32
    if slotBad s slot rel then
      match s.comp.ring.find? (fun e => e.slot != slot) with
      | some e => if slotBad s e.slot rel then 0 else (tabGet (fun _ => []) e.lines y).getD i 0
      | none => 0
    else v)

/-- Line y of a frame of the composed ring. -/
def ringLine (s : State) (c : Composed) (y : Nat) : List Nat := slotRow s c.slot (tabGet (fun _ => []) c.lines y) y

/-- A sample byte of a SNAPSHOT plane line lies in an uncorrectable line of the layer cache (R286, R418). -/
def cacheBad (v : CView) (n plane line byte : Nat) : Bool :=
  let fmt := v.field (Reg.COMP_Ln_CFG n) Fld.COMP_Ln_CFG_format
  let w := v.field (Reg.COMP_Ln_SIZE n) Fld.COMP_Ln_SIZE_width
  (v.layer n).bad.contains (plane, (line * ((lineBytes fmt w plane + 63) / 64 * 64) + byte) / 64)

/-- A sample of pixel x of layer line ly lies in such a line. -/
def pixelBad (v : CView) (n ly x : Nat) : Bool :=
  let fmt := v.field (Reg.COMP_Ln_CFG n) Fld.COMP_Ln_CFG_format
  let b := if fmt % 4 = 0 then 1 else 2
  if fmt / 64 = 1 then cacheBad v n 0 ly (x * lineBytes fmt 1 0)
  else
    let r := if bitsAt fmt 4 2 = 0 then ly / 2 else ly
    let c := if bitsAt fmt 4 2 = 2 then x else x / 2
    cacheBad v n 0 ly (b * x) ||
      (if bitAt fmt 3 then cacheBad v n 1 r (b * c) || cacheBad v n 2 r (b * c) else cacheBad v n 1 r (2 * b * c))

/-- The row of L0 to L15, a pixel of an uncorrectable cache line in the fallback colour. -/
def cachedRow (v : CView) (n ly : Nat) (row : List Px) : List Px :=
  if (v.layer n).bad = [] ∨ v.kind n = 2 then row
  else row.mapIdx (fun x p => if pixelBad v n ly x then fallbackPx v n else p)

/-- The pixels layer n puts on composition line y, after its colour path. -/
def layerRow (s : State) (v : CView) (hw : Option HwFrame) (n y : Nat) (planesOut : List Nat) : List Px :=
  let ly := y - v.field (Reg.COMP_Ln_POS n) Fld.COMP_Ln_POS_y
  if showsFallback v n y planesOut then List.replicate (layerSize hw v n).1 (fallbackPx v n)
  else
    let cfg := pathCfg s v n
    if n < 16 then cachedRow v n ly ((hostRow v n ly).map (colourPath cfg))
    else
      match hw with
      | some f => (hwRow f (n - 16) (sitingOf (v.field (Reg.COMP_Ln_CFG n) Fld.COMP_Ln_CFG_siting)) ly s.fresh).map
          (colourPath cfg)
      | none => []

/-- Layers that take part, in ascending z; equal z, which only direct writes can leave, in ascending number. -/
def drawOrder (v : CView) : List Nat :=
  let on := layerNumbers.filter v.takesPart
  (List.range 32).flatMap (fun z => on.filter (fun n => decide (v.z n = z)))

/-- Blend a row that starts at panel column x over the running line. -/
def blendRow (x globalAlpha : Nat) (row line : List Px) : List Px :=
  line.mapIdx (fun i d => if x ≤ i then match row[i - x]? with
    | some p => blendPx globalAlpha p d
    | none => d else d)

/-- R, G, B of every pixel. -/
def flatten (px : List Px) : List Nat := px.flatMap (fun p => [p.c0, p.c1, p.c2])

/-- Composition line y (R272). Planes in planesOut show their fallback colour. -/
def composeLine (s : State) (y : Nat) (planesOut : List Nat) : List Nat :=
  let v := viewOf s
  let hw := hwRead s
  let w := panelW s
  let bg : Px := { c0 := v.field Reg.COMP_BG_RG Fld.COMP_BG_RG_r, c1 := v.field Reg.COMP_BG_RG Fld.COMP_BG_RG_g,
                   c2 := v.field Reg.COMP_BG_B Fld.COMP_BG_B_b }
  let line := (drawOrder v).foldl (fun line n =>
    if coversLine hw v n y w then
      blendRow (v.field (Reg.COMP_Ln_POS n) Fld.COMP_Ln_POS_x) (v.field (Reg.COMP_Ln_GAIN n) Fld.COMP_Ln_GAIN_global_alpha)
        (layerRow s v hw n y planesOut) line
    else line) (List.replicate w bg)
  let cube := v.table 0x01F00000
  flatten (line.map (applyCube (if cube = [] then none else some cube)))

/-! ### Line patch (R227, R229) -/

/-- The last line of plane p that lane a had brought, in a list of such marks. -/
def lastLine (m : List (Nat × Nat × Nat)) (a p : Nat) : Option Nat :=
  (m.find? (fun e => decide (e.1 = a ∧ e.2.1 = p))).map (·.2.2)

/-- Line l of plane p came in a packet on lane a: accepted, or with a failure other than a lock loss. -/
def HwFrame.heard (f : HwFrame) (a p l : Nat) : Bool :=
  decide (f.laneFor p l = a) && (f.has p l || decide (2 ≤ tabGet (fun _ => 0) f.causes (HwFrame.key p l)))

/-- After the lane's return to ACTIVE, a line is one whose packet may have started before it: the first two lines due on the lane
after the last it brought, and one more for each line of every lane that the composition advanced meanwhile. The spec gives the
source no schedule; this bound is the model's choice (log entry 146). -/
def LossMark.reaches (m : LossMark) (lanes first line : Nat) : Bool :=
  match m.back with
  | some y => decide (line < first + 2 * lanes + (y - m.at_))
  | none => true

/-- The packet of a line overlapped a lock loss of its lane: the line follows the last one the lane had brought, no
later line before it came, and its packet started before the lane was ACTIVE again (R228). -/
def HwFrame.overlaps (f : HwFrame) (p line : Nat) : Bool :=
  let a := f.laneFor p line
  f.marks.any (fun m =>
    let first := match lastLine m.brought a p with
      | some l => l + 1
      | none => 0
    decide (m.lane = a ∧ first ≤ line) && m.reaches (lanesOf f.mask).length first line &&
      (List.range (line - first)).all (fun i => !f.heard a p (first + i)))

/-- Cause of a patched line (R229): the first failure seen; without one, a lock loss that its packet overlapped, and then
other, which is 2 at its deadline and 4 at the end of the frame. Every line of H1 that no frame supplies has cause 2 (R575). -/
def HwFrame.cause (f : HwFrame) (p line other : Nat) : Nat :=
  match tabGet (fun _ => 0) f.causes (HwFrame.key p line) with
  | 0 => if !f.supplied then 2 else if f.overlaps p line then 0 else other
  | c + 1 => c

/-- One more patched line is counted. -/
def countPatch (s : State) : State :=
  s |> bumpSat Reg.HWL_PATCH_LINES Fld.HWL_PATCH_LINES_lines 1 |> setFlag Flag.HWL_patch |> countEvent 0x20 0x11 1

/-- A line of plane p counts as patched in a frame, unless it has been accepted or patched. -/
def HwFrame.patch (f : HwFrame) (p other line : Nat) : Option HwFrame :=
  if f.has p line || f.isPatched p line then none
  else some { f with patched := (p, line, f.laneFor p line, f.cause p line other) :: f.patched }

/-- Patch a line of plane p of the frame that composition reads. -/
def patchLine (p other : Nat) (s : State) (line : Nat) : State :=
  match (hwRead s).bind (fun f => f.patch p other line) with
  | some f => setHwRead f s |> countPatch
  | none => s

/-- Patch a line of plane p of the frame that is receiving lines. -/
def patchReceived (p other : Nat) (s : State) (line : Nat) : State :=
  match s.hwl.frame.bind (fun f => f.patch p other line) with
  | some f => { s with hwl := { s.hwl with frame := some f } } |> countPatch
  | none => s

/-- Lines of a plane that the frame in progress has enabled. -/
def linesOf (s : State) (p : Nat) : List Nat :=
  if (viewOf s).enabled (16 + p) then List.range (((hwRead s).map (fun f => planeHeight (f.word p))).getD 0) else []

/-- Every line still missing is patched at once (R222). -/
def patchMissing (s : State) : State :=
  [0, 1].foldl (fun s p => (linesOf s p).foldl (patchLine p 4) s) s

/-- Every line still missing of the frame that is receiving lines is patched at once (R222). -/
def patchReceiving (s : State) : State :=
  match s.hwl.frame with
  | none => s
  | some f => [0, 1].foldl (fun s p =>
      if (hwView s).enabled (16 + p) then (List.range (planeHeight (f.word p))).foldl (patchReceived p 4) s else s) s

/-- Every line of every enabled plane has been accepted or patched (R222). -/
def hwComplete (s : State) : Bool :=
  match hwRead s with
  | none => true
  | some f => [0, 1].all (fun p => (linesOf s p).all (fun l => f.has p l || f.isPatched p l))

/-- silent, frozen and missing clear when the resuming frame is complete (R234). -/
def followResume (s : State) : State :=
  if s.hwl.resuming && hwComplete s then
    { s with hwl := { s.hwl with resuming := false, missed := 0 } } |> wrF Reg.HWL_STAT Fld.HWL_STAT_silent 0
      |> wrF Reg.HWL_STAT Fld.HWL_STAT_frozen 0 |> wrF Reg.HWL_STAT Fld.HWL_STAT_missing 0
  else s

/-- HWL_STAT.frame_open: a frame is receiving lines. -/
def setFrameOpen (b : Bool) (s : State) : State := wrF Reg.HWL_STAT Fld.HWL_STAT_frame_open (b2n b) s

/-- The Headwater frame receives no more lines. -/
def closeFrame (s : State) : State :=
  { s with hwl := { s.hwl with frame := s.hwl.frame.map (fun f => { f with open_ := false }) } } |> setFrameOpen false

/-- Runs of lines that follow one another on a lane of n lanes: first line and count (R229). -/
def runsOf (n : Nat) : List Nat → List (Nat × Nat)
  | [] => []
  | l :: rest =>
    match runsOf n rest with
    | (f, c) :: more => if f = l + n then (l, c + 1) :: more else (l, 1) :: (f, c) :: more
    | [] => [(l, 1)]

/-- The HWL_LINE_PATCH events of a frame, in order of plane, lane and cause (R229). -/
def postPatches (f : HwFrame) (s : State) : State :=
  let n := (lanesOf f.mask).length
  [0, 1].foldl (fun s p => (List.range 32).foldl (fun s a => [0, 1, 2, 3, 4].foldl (fun s c =>
    let ls := (List.range (planeHeight (f.word p))).filter (fun l => f.patched.any (fun e => decide (e = (p, l, a, c))))
    (runsOf n ls).foldl (fun s r =>
      postEvent .device 0x0BF5 0x20 1 (dataAt 24 p ||| dataAt 25 a ||| dataAt 26 c ||| dataAt 28 r.1 ||| dataAt 30 r.2) s)
      s) s) s) s

/-! ### Completing flips (R155, R289) -/

/-- Result of a LAYER_FLIP: end_cfn and outcome. -/
def flipRes (endCfn outcome : Nat) : BitVec 96 := resAt 16 endCfn ||| resAt 24 outcome

/-- Complete the descriptor of a flip, if it is still in flight. -/
def completeFlip (f : Flip) (st : Status) (frame : Nat) (res : BitVec 96) (s : State) : State :=
  match dscOf s f.port f.sq f.seq with
  | some d => complete d st frame res s
  | none => s

/-- The frame in progress is not fully composed. -/
def composing (s : State) : Option Nat := (s.comp.cur.filter (fun c => !c.whole)).map (·.cfn)

/-- The room of the SNAPSHOT version that a layer shows is freed: at once, or when the frame being composed, which uses it,
is fully composed (R286). -/
def freeVersion (layer : Nat) (used : Bool) (s : State) : State :=
  match composing s with
  | some n => if used then
      setLayer layer { layerOf s layer with oldUntil := some n } s |> retag .layer (layerTag layer false) (oldLayerTag layer)
    else freeTag .layer (layerTag layer false) s
  | none => freeTag .layer (layerTag layer false) s

/-- Versions that the frame just composed was the last to use are freed. -/
def freeOld (n : Nat) (s : State) : State :=
  layerNumbers.foldl (fun s k => if (layerOf s k).oldUntil.any (fun m => decide (m ≤ n)) then
    setLayer k { layerOf s k with oldUntil := none } s |> freeTag .layer (oldLayerTag k) else s) s

/-- A layer's current buffer is replaced or retired at the latch instant that applies to CFN n: a LIVE flip completes
when frame n is fully composed, a SNAPSHOT version is freed, and a flip of the same instant never took effect. -/
def retireCurrent (layer n : Nat) (s : State) : State :=
  let l := layerOf s layer
  match l.current with
  | none => s
  | some f =>
    let retiring := if f.live = true ∧ f.cfn < n then l.retiring ++ [(f, n)] else l.retiring
    let s := setLayer layer { l with current := none, retiring := retiring, version := [], bad := [] } s
    let s := if f.live then s else freeVersion layer (decide (f.cfn < n)) s
    if f.cfn = n then completeFlip f .superseded 0 0 s else s

/-- LIVE flips that were replaced by frame n complete: it is fully composed. -/
def retireFlips (n : Nat) (s : State) : State :=
  layerNumbers.foldl (fun s layer =>
    let l := layerOf s layer
    let due := l.retiring.filter (fun r => decide (r.2 ≤ n))
    let s := setLayer layer { l with retiring := l.retiring.filter (fun r => !decide (r.2 ≤ n)) } s
    due.foldl (fun s r => completeFlip r.1 (if r.1.late then .late else .ok) r.1.cfn (flipRes r.2 2) s) s) s

/-! ### The latch instant (R132, R133, R154, R255) -/

/-- The 12 coefficients of a LAYER_MATRIX. -/
def matrixPayload (d : Dsc) : List Int :=
  (List.range 9).map (fun i => signed 16 (d.u16 (20 + 2 * i))) ++ [38, 40, 42].map (fun o => signed 16 (d.u16 o))

/-- The register and layer effect of a member that has no flip or table effect. -/
def applySettings (n : Nat) (s : State) (d : Dsc) : State :=
  let layer := d.u8 16
  let cfg := Reg.COMP_Ln_CFG layer
  match d.opcode with
  | 0x0104 => s |> wrF Reg.COMP_BG_RG Fld.COMP_BG_RG_r (d.u16 16) |> wrF Reg.COMP_BG_RG Fld.COMP_BG_RG_g (d.u16 18)
      |> wrF Reg.COMP_BG_B Fld.COMP_BG_B_b (d.u16 20)
  | 0x0201 =>
    let changes := decide (layer < 16 ∧ (viewNow s).configured layer = true ∧ (viewNow s).kind layer ≠ d.u8 17)
    let s := if changes = true then retireCurrent layer n s else s
    let s := s |> wrF cfg Fld.COMP_Ln_CFG_kind (d.u8 17) |> wrF cfg Fld.COMP_Ln_CFG_alpha (d.u8 30)
      |> wrF cfg Fld.COMP_Ln_CFG_siting (d.u8 31) |> wrF cfg Fld.COMP_Ln_CFG_format (d.u8 18)
      |> wrF cfg Fld.COMP_Ln_CFG_z (d.u8 19) |> wrF cfg Fld.COMP_Ln_CFG_matrix (d.u8 28)
      |> wrF cfg Fld.COMP_Ln_CFG_eotf (d.u8 29)
      |> wrF (Reg.COMP_Ln_SIZE layer) Fld.COMP_Ln_SIZE_width (d.u16 20)
      |> wrF (Reg.COMP_Ln_SIZE layer) Fld.COMP_Ln_SIZE_height (d.u16 22)
      |> wrF (Reg.COMP_Ln_POS layer) Fld.COMP_Ln_POS_x (d.u16 24) |> wrF (Reg.COMP_Ln_POS layer) Fld.COMP_Ln_POS_y (d.u16 26)
      |> wrF (Reg.COMP_Ln_GAIN layer) Fld.COMP_Ln_GAIN_gain (d.u16 32)
      |> wrF (Reg.COMP_Ln_GAIN layer) Fld.COMP_Ln_GAIN_global_alpha (d.u16 40)
      |> wrF (Reg.COMP_Ln_FB_RG layer) Fld.COMP_Ln_FB_RG_r (d.u16 34)
      |> wrF (Reg.COMP_Ln_FB_RG layer) Fld.COMP_Ln_FB_RG_g (d.u16 36)
      |> wrF (Reg.COMP_Ln_FB_B layer) Fld.COMP_Ln_FB_B_b (d.u16 38)
    setLayer layer { layerOf s layer with configured := true, matrix := [], gamut := [] } s
  | 0x0203 =>
    let s := if d.u8 17 = 0 then retireCurrent layer n s else s
    wrF cfg Fld.COMP_Ln_CFG_enable (d.u8 17) s
  | 0x0204 =>
    if d.u8 17 = 0 then setLayer layer { layerOf s layer with matrix := matrixPayload d } s
    else setLayer layer { layerOf s layer with gamut := (matrixPayload d).take 9 } s
  | _ => s

/-- A flip takes effect for frame n. -/
def applyFlip (n : Nat) (late : Bool) (d : Dsc) (s : State) : State :=
  let layer := d.u8 16
  let s := retireCurrent layer n s
  let s := [0, 1, 2].foldl (fun s p =>
      s |> wrF (Reg.COMP_Ln_ADDR0_LO layer + 8 * p) (0, 32) (d.u32 (24 + 8 * p))
        |> wrF (Reg.COMP_Ln_ADDR0_HI layer + 8 * p) (0, 32) (d.u32 (28 + 8 * p))) s
    |> wrF (Reg.COMP_Ln_PITCH layer) Fld.COMP_Ln_PITCH_pitch0 (d.u32 20 / 256)
    |> wrF (Reg.COMP_Ln_PITCH layer) Fld.COMP_Ln_PITCH_pitch1 (d.u32 48 / 256)
    |> wrF (Reg.COMP_Ln_PITCH layer) Fld.COMP_Ln_PITCH_pitch2 (d.u32 52 / 256)
    |> wrF (Reg.COMP_Ln_PITCH layer) Fld.COMP_Ln_PITCH_planes (d.u8 17)
  let live := decide ((viewNow s).kind layer = 2)
  let flip : Flip := { port := d.port, sq := d.sq, seq := d.seq, live := live, cfn := n, late := late }
  let l := layerOf s layer
  let s := setDsc { d with phase := .effective, at_ := n } s
  if live then
    let fetched := decide (l.fetching = some (d.port, d.sq, d.seq))
    let s := if fetched then freeTag .layer (layerTag layer true) s else s
    setLayer layer { l with current := some flip, off := false, fetching := if fetched then none else l.fetching,
                            fetched := if fetched then [] else l.fetched } s
  else setLayer layer { l with current := some flip, off := false, version := l.fetched, bad := [], fetched := [], fetching := none } s
    |> retag .layer (layerTag layer true) (layerTag layer false)

/-- Two enabled layers hold the same z, and one of them is a layer that the member configures or enables (R154). -/
def zConflict (s : State) (d : Dsc) : Bool :=
  let v := viewNow s
  let n := d.u8 16
  (decide (d.opcode = 0x0201) || decide (d.opcode = 0x0203 ∧ d.u8 17 = 1)) && v.enabled n &&
    layerNumbers.any (fun m => decide (m ≠ n) && v.enabled m && decide (v.z m = v.z n))

/-- The members of a group, in ring order. -/
def membersOf (s : State) (g : Group) : List Dsc := g.members.filterMap (fun n => dscOf s g.port g.sq n)

/-- A group that takes effect for frame n: wholly arrived, its target reached, and no earlier group of its ring still
waiting (R133). -/
def groupDue (s : State) (n : Nat) (g : Group) : Bool :=
  decide (g.order ≠ 0 ∧ g.target ≤ n) &&
    s.host.groups.all (fun h => !decide (h.port = g.port ∧ h.sq = g.sq ∧ h.id < g.id ∧
      ¬ (h.order ≠ 0 ∧ h.target ≤ n)))

/-- A group's place among those that apply together: when its last descriptor arrived, but after every earlier group of
its ring (R133). -/
def groupPlace (all : List Group) (g : Group) : Nat :=
  (all.filter (fun h => decide (h.port = g.port ∧ h.sq = g.sq ∧ h.id ≤ g.id))).foldl (fun a h => max a h.order) 0

/-- Insert a group by its place, those of one place in ring order. -/
def insertGroup (all : List Group) (g : Group) : List Group → List Group
  | [] => [g]
  | h :: t =>
    if groupPlace all g < groupPlace all h ∨ (groupPlace all g = groupPlace all h ∧ g.id < h.id) then g :: h :: t
    else h :: insertGroup all g t

/-- The groups that take effect for frame n, in the order in which they apply. -/
def dueGroups (s : State) (n : Nat) : List Group :=
  let all := s.host.groups.filter (groupDue s n)
  all.foldl (fun acc g => insertGroup all g acc) []

/-! ### Reaching the compositor (R132, R255) -/

/-- The frame that a group reaching the compositor now would apply to (R255). -/
def naturalCfn (s : State) : Nat :=
  match s.comp.cur with
  | some c => if c.latched then s.cfn + 2 else s.cfn + 1
  | none => s.cfn + 1

/-- Groups of a port that wait for a future target (R132). -/
def waitingGroups (s : State) (port : Nat) : Nat :=
  (s.host.groups.filter (fun g => decide (g.port = port ∧ g.order ≠ 0 ∧ naturalCfn s < g.target))).length

/-- A group has wholly arrived: it takes its order; at most 64 of a port may wait for a future target (R132). -/
def groupArrives (g : Group) (s : State) : State :=
  if naturalCfn s < g.target ∧ 64 ≤ waitingGroups s g.port then failGroup g .resource 0x30 s
  else
    let r := nextOrder s
    setGroup { g with order := r.1 } r.2 |> idleTrigger

/-- Every member of a closed group has arrived. -/
def allArrived (s : State) (g : Group) : Bool :=
  g.closed && (membersOf s g).all (fun d => decide (d.phase = .arrived))

/-- Take up a group when its last member has arrived. -/
def followGroup (id : Nat) (s : State) : State :=
  match groupOf s id with
  | some g => if decide (g.order = 0) && allArrived s g then groupArrives g s else s
  | none => s

/-- A member has passed its checks at its unit. -/
def arrive (d : Dsc) (s : State) : State := setDsc { d with phase := .arrived } s |> followGroup d.group

/-- A member leaves its group with a completion of its own; the others go on. -/
def leaveGroup (d : Dsc) (st : Status) (res : BitVec 96) (s : State) : State :=
  let s := match groupOf s d.group with
    | some g =>
      let g := { g with members := g.members.filter (· ≠ d.seq) }
      if g.members = [] then dropGroup g.id s else setGroup g s
    | none => s
  complete d st 0 res s |> followGroup d.group

/-! ### Settings the flips of a layer will meet -/

/-- The frame that a member of a commit group is for: its group's target, or the frame a group that arrives now is for. -/
def memberCfn (s : State) (d : Dsc) : Nat := max (naturalCfn s) (((groupOf s d.group).map (·.target)).getD 0)

/-- The LAYER_CONFIG of a layer that has arrived and waits for the latch instant of frame n or an earlier one. -/
def pendingConfig (s : State) (layer n : Nat) : Option Dsc :=
  (s.host.inflight.filter (fun d => decide (d.opcode = 0x0201 ∧ d.u8 16 = layer ∧ d.phase = .arrived ∧
    memberCfn s d ≤ n))).getLast?

/-- Kind, format, width and height that a flip of a layer for frame n will meet. -/
def flipSettings (s : State) (n cfn : Nat) : Option (Nat × Nat × Nat × Nat) :=
  match pendingConfig s n cfn with
  | some d => some (d.u8 17, d.u8 18, d.u16 20, d.u16 22)
  | none =>
    let v := viewNow s
    if v.configured n then
      some (v.kind n, v.field (Reg.COMP_Ln_CFG n) Fld.COMP_Ln_CFG_format,
        v.field (Reg.COMP_Ln_SIZE n) Fld.COMP_Ln_SIZE_width, v.field (Reg.COMP_Ln_SIZE n) Fld.COMP_Ln_SIZE_height)
    else none

/-- Lines of plane p. -/
def planeLines (fmt h p : Nat) : Nat := if p = 0 ∨ fmt / 64 = 1 ∨ bitsAt fmt 4 2 ≠ 0 then h else h / 2

/-- Bytes of a SNAPSHOT version: each line rounded up to 64 bytes (R286). -/
def versionBytes (fmt w h : Nat) : Nat :=
  (List.range (planesOf fmt)).foldl (fun acc p => acc + planeLines fmt h p * ((lineBytes fmt w p + 63) / 64 * 64)) 0

/-- The pitch field of plane p in a LAYER_FLIP. -/
def pitchOffset (p : Nat) : Nat := if p = 0 then 20 else 44 + 4 * p

/-- The range that a flip names for plane p, from its address to the end of its last line, passes the top of the address
space (R149, R275). -/
def planePasses (d : Dsc) (fmt w h p : Nat) : Bool :=
  decide (2 ^ 64 < d.u64 (24 + 8 * p) + d.u32 (pitchOffset p) * (planeLines fmt h p - 1) + lineBytes fmt w p)

/-- The breach of R275 or R149 at the lowest offset by a flip, with its status (R123). -/
def flipBreach (d : Dsc) (fmt w h : Nat) : Option (Nat × Status) :=
  let bad := fun p => decide (d.u32 (pitchOffset p) < lineBytes fmt w p ∨ 261888 < d.u32 (pitchOffset p))
  if d.u8 17 ≠ planesOf fmt then some (17, .badDescriptor)
  else if bad 0 then some (20, .badDescriptor)
  else match (List.range (planesOf fmt)).find? (planePasses d fmt w h) with
    | some p => some (24 + 8 * p, .badAddress)
    | none => ((List.range (planesOf fmt)).find? bad).map (fun p => (pitchOffset p, .badDescriptor))

/-- The room of a flip that is no longer in flight, as its group was aborted, is freed (R286). -/
def sweepFetch (s : State) (n : Nat) : State :=
  match (layerOf s n).fetching with
  | some (p, q, i) =>
    if (dscOf s p q i).isNone then
      setLayer n { layerOf s n with fetching := none, fetched := [] } s |> freeTag .layer (layerTag n true)
    else s
  | none => s

def sweepFetches (s : State) : State := layerNumbers.foldl sweepFetch s

/-- The flip of layer n that is being fetched, or fetched and waiting, is replaced (R155, R287). A layer has room for its
current version and one other, and the fetch of a flip starts when the flip arrives (R286): that a flip already fetched is
replaced then too, and not only when the new one takes effect (R133), is the model's choice (log entry 147). -/
def dropFetch (n : Nat) (s : State) : State :=
  let l := layerOf s n
  match l.fetching with
  | none => s
  | some (p, q, i) =>
    let s := setLayer n { l with fetching := none, fetched := [] } s |> freeTag .layer (layerTag n true)
    match dscOf s p q i with
    | some d => leaveGroup d .superseded 0 s
    | none => s

/-- A flip reaches the compositor: a LIVE flip has arrived, a SNAPSHOT flip starts its fetch. -/
def flipReaches (d : Dsc) (s : State) : State :=
  let n := d.u8 16
  match flipSettings s n (memberCfn s d) with
  | none => failMember d .notReady 0 s
  | some (kind, fmt, w, h) =>
    match flipBreach d fmt w h with
    | some e => failMember d e.2 e.1 s
    | none =>
      if kind = 2 then arrive d s
      else
        let s := dropFetch n (sweepFetches s)
        match alloc .layer (layerTag n true) (versionBytes fmt w h) s with
        | none => failMember d .resource 0x50 s
        | some s =>
          let r := nextOrder s
          setRunning d r.2 |> setLayer n { layerOf r.2 n with fetching := some (d.port, d.sq, d.seq), fetchNo := r.1 }

/-! ### Groups that apply -/

/-- What the groups of a latch instant come to: the state with the refused ones aborted, the settings as they will stand, and
the groups accepted. -/
structure Tried where
  now : State
  after : State
  accepted : List Group := []
  /-- Rings with a group that waits: no later group of theirs applies (R133). -/
  waits : List (Nat × Nat) := []
deriving DecidableEq, Repr

/-- Flips that reached the compositor as LIVE flips and would now meet a SNAPSHOT layer: they have to be fetched first
(R155). -/
def unfetched (t : Tried) (after : State) (ms : List Dsc) : List Dsc :=
  ms.filter (fun d => decide (d.opcode = 0x0202 ∧ (viewNow after).kind (d.u8 16) = 1 ∧
    (layerOf t.now (d.u8 16)).fetching ≠ some (d.port, d.sq, d.seq)))

/-- A group counts as not yet wholly arrived, and its unfetched flips start their fetches (R155). -/
def waitForFetch (g : Group) (flips : List Dsc) (s : State) : State :=
  flips.foldl (fun s d => match dscOf s d.port d.sq d.seq with
    | some d => flipReaches d s
    | none => s) (setGroup { g with order := 0 } s)

/-- The settings of one group are tried over those of the groups accepted before it. A z conflict that they leave aborts the
group, whose last member that sets one of the two layers caused it; else the group is accepted. That several groups of one
instant are judged one after another in their order is the model's choice (log entry 111). -/
def tryGroup (n : Nat) (t : Tried) (g : Group) : Tried :=
  let ms := membersOf t.now g
  let after := ms.foldl (applySettings n) t.after
  if t.waits.contains (g.port, g.sq) then t
  else
    match (ms.filter (zConflict after)).getLast? with
    | some d => { t with now := abortGroup { g with failed := [(d.seq, .refused, resAt 16 0x30)] } t.now }
    | none =>
      match unfetched t after ms with
      | [] => { t with after := after, accepted := t.accepted ++ [g] }
      | flips => { t with now := waitForFetch g flips t.now, waits := (g.port, g.sq) :: t.waits }

/-- A later member of the same latch instant activates the same table (R133). -/
def laterSame (ms : List (Dsc × Group)) (i : Nat) (d : Dsc) : Bool :=
  (ms.drop (i + 1)).any (fun e => decide (e.1.opcode = d.opcode ∧ e.1.u32 16 = d.u32 16))

/-- One member of an accepted group takes its flip or table effect and completes; a flip stays open. -/
def finishMember (n : Nat) (ms : List (Dsc × Group)) (s : State) (e : Nat × Dsc × Group) : State :=
  let d := e.2.1
  let late := decide (e.2.2.target ≠ 0 ∧ e.2.2.target < n)
  let st : Status := if late then .late else .ok
  match d.opcode with
  | 0x0202 => applyFlip n late d s
  | 0x0302 =>
    if laterSame ms e.1 d then complete d .superseded 0 0 s
    else complete d st n 0 (activate (d.u32 16) s)
  | _ => complete d st n 0 s

/-- SNAPSHOT flips that took effect at this instant complete (R155). -/
def completeSnapshots (n : Nat) (s : State) : State :=
  layerNumbers.foldl (fun s layer =>
    match (layerOf s layer).current with
    | some f => if f.live = false ∧ f.cfn = n then
        completeFlip f (if f.late then .late else .ok) n (flipRes n 1) s else s
    | none => s) s

/-- Run-ahead lines read for another flip than the one that now applies are discarded (R288). -/
def checkAhead (s : State) : State :=
  layerNumbers.foldl (fun s n =>
    let l := layerOf s n
    let cur := l.current.map (fun f => (f.port, f.sq, f.seq))
    if l.aheadOf.isSome ∧ l.aheadOf ≠ cur then
      setLayer n { l with ahead := [], aheadOf := none, aheadFault := none } s else s) s

/-- An accepted group applies: its settings, then its flips and tables, each in ring order. That a group's settings come
first whatever its order is the model's choice (log entry 112). -/
def applyGroup (n : Nat) (ms : List (Dsc × Group)) (s : State) (g : Group) : State :=
  let mine := (ms.zipIdx).filter (fun e => decide (e.1.2.id = g.id))
  let s := mine.foldl (fun s e => applySettings n s e.1.1) s
  mine.foldl (fun s e => finishMember n ms s (e.2, e.1.1, e.1.2)) s

/-- The commit groups that have wholly arrived apply to frame n, one after another (R133, R155). -/
def applyGroups (n : Nat) (s : State) : State :=
  let t := (dueGroups s n).foldl (tryGroup n) { now := s, after := s }
  let s := t.now
  let ms := t.accepted.flatMap (fun g => (membersOf s g).map (fun d => (d, g)))
  let s := t.accepted.foldl (applyGroup n ms) s
  let s := t.accepted.foldl (fun s g => dropGroup g.id s) s
  s |> completeSnapshots n |> sweepFetches |> checkAhead |> followLayers

/-- Is a register one of the COMP block? -/
def isCompReg (k : Nat) : Bool := decide (0x15000 ≤ k ∧ k < 0x16000)

/-- The latch instant of the frame in progress (R255): lines of a plane that reach beyond the active height must have
been accepted by now, and the arrived groups apply to the next frame. -/
def latch (s : State) : State :=
  match s.comp.cur with
  | none => s
  | some c =>
    if c.latched then s
    else
      let keep := some { viewNow s with regs := s.regs.filter (fun e => isCompReg e.1) }
      let s := [0, 1].foldl (fun s p => (linesOf s p).foldl (fun s l =>
        if panelH s ≤ l + (viewOf s).planeY p then patchLine p 2 s l else s) s) s
      let s := match s.comp.cur with
        | some c => { s with comp := { s.comp with cur := some { c with latched := true, held := keep } } }
        | none => s
      applyGroups (c.cfn + 1) s |> followResume

/-! ### Composition frames -/

/-- The frames that keep their slot while another is written (R25): the scanned one, or the drive frame of IDLE (R341), and
the newest others. -/
def keptSlots (s : State) : List Composed :=
  let scanned := fun (c : Composed) => decide (s.raster.shown = .composed c.cfn)
  let room := if s.comp.ring.any scanned || decide (s.raster.shown = .idle) then 1 else 2
  let others := (s.comp.ring.filter (fun c => !scanned c)).take room
  s.comp.ring.filter (fun c => scanned c || others.any (fun o => decide (o.cfn = c.cfn)))

/-- The slot that the next frame is written to. -/
def ringSlot (s : State) : Nat :=
  ([0, 1, 2].find? (fun (k : Nat) => (keptSlots s).all (fun e => e.slot != k) &&
    !decide (s.raster.shown = .idle ∧ s.pipe.idleSlot = k))).getD 0

/-- A frame is to be written to the free slot: what that slot held is no longer a frame of the ring. -/
def openSlot (s : State) : State := { s with comp := { s.comp with ring := keptSlots s } }

/-- Row y of a slot has been written: its 64-byte lines carry fresh check symbols. -/
def freshRow (slot y : Nat) (s : State) : State :=
  let bytes := 6 * panelW s
  { s with rsv := { s.rsv with badLines := s.rsv.badLines.filter (fun (b : Nat × Nat) =>
      !decide (b.1 = 0 ∧ slotLines * slot ≤ b.2 ∧ bytes * y ≤ 64 * (b.2 - slotLines * slot) + 63 ∧
        64 * (b.2 - slotLines * slot) < bytes * (y + 1))) } }

/-- The frame is fully composed (R272): it enters the ring, and the flips it replaced complete. -/
def frameWhole (s : State) : State :=
  match s.comp.cur with
  | none => s
  | some c =>
    if c.whole then s
    else
      let done : Composed :=
        { cfn := c.cfn, lines := c.lines, patched := decide (c.copied ≠ []), slot := c.slot, rowTimes := c.rowTimes }
      let s := { s with comp := { s.comp with cur := some { c with whole := true }, ring := done :: keptSlots s } }
      let s := layerNumbers.foldl (fun s n =>
        wrF (Reg.COMP_Ln_STAT n) Fld.COMP_Ln_STAT_underrun_lines (min 65535 (frameLayer s n).under.length) s) s
      retireFlips c.cfn s |> freeOld c.cfn

/-- Lines already composed of the previous composed frame; none when there is none. -/
def previousLine (s : State) (y : Nat) : Option (List Nat) :=
  match s.comp.ring with
  | [] => none
  | p :: _ => some (ringLine s p y)

/-- Record line y of the frame in progress. -/
def putLine (y : Nat) (copied : Bool) (px : List Nat) (s : State) : State :=
  match s.comp.cur with
  | none => s
  | some c => freshRow c.slot y { s with comp := { s.comp with cur := some { c with
      lines := tabSet (fun _ => []) c.lines y px, copied := if copied then y :: c.copied else c.copied } } }

/-- A scan frame that reads the frame in progress has patched lines (R261). -/
def notePatched (s : State) : State :=
  match s.comp.cur, s.raster.shown with
  | some c, .composed n => if c.cfn = n then wrF (Reg.RAST_HIST (8 * (sfn s % 16) + 4)) (13, 1) 1 s else s
  | _, _ => s

/-- Line y is a copy of the previous composed frame's, or without one is composed with the named planes in their
fallback colour (R227). -/
def patchedLine (planesOut : List Nat) (y : Nat) (s : State) : State :=
  match previousLine s y with
  | some px => putLine y true px s |> notePatched
  | none => putLine y false (composeLine s y planesOut) { s with fresh := s.fresh + 2 ^ 30 }

/-- Enabled planes whose line at composition line y is patched. -/
def planesPatched (s : State) (y : Nat) : List Nat :=
  let v := viewOf s
  [0, 1].filter (fun p => v.enabled (16 + p) &&
    (match hwRead s with
     | none => false
     | some f => decide (v.planeY p ≤ y) && f.isPatched p (y - v.planeY p)))

/-! ### Rectangle values of the frame in progress (R484 to R488) -/

/-- Values as the bytes fed to a rectangle's CRC: two each, most significant first (R487). -/
def crcBytes (vs : List Nat) : List Byte := vs.flatMap (fun v => [BitVec.ofNat 8 (v / 256), BitVec.ofNat 8 v])

/-- Lines a rectangle covers. -/
def rectLines (s : State) (r : Nat) : List Nat := (List.range (rectH s r)).map (· + rectY s r)

/-- Samples of an INPUT rectangle on line l of its plane; those of a line not accepted count as 0 (R484). -/
def inputSamples (s : State) (r : Nat) (f : HwFrame) (l : Nat) : List Nat :=
  let p := rectSource s r
  let fmt := planeFormat (f.word p)
  let k := if fmt % 4 < 2 then 3 else if fmt % 4 = 2 ∨ l % 2 = 0 then 2 else 1
  if f.has p l then (((f.comps p l).drop (k * rectX s r)).take (k * rectW s r)).map (zeroFill (hwDepth fmt))
  else List.replicate (k * rectW s r) 0

/-- The value of a rectangle of INPUT or COMPOSED for the frame in progress, once its computation has ended: frame,
CRC, and whether INPUT lines in it were not accepted. -/
def rectValue (s : State) (r : Nat) : Option (Nat × Nat × Bool) :=
  match s.comp.cur, hwRead s with
  | some c, hw =>
    if checkPoint r = 0 then
      match hw with
      | some f =>
        if (viewOf s).enabled (16 + rectSource s r) && hwComplete s then
          some (c.cfn, crc32c (crcBytes ((rectLines s r).flatMap (inputSamples s r f))),
            (rectLines s r).any (fun l => !f.has (rectSource s r) l))
        else none
      | none => none
    else if rectY s r + rectH s r < c.next ∨ c.whole then
      some (c.cfn, crc32c (crcBytes ((rectLines s r).flatMap (fun l =>
        ((tabGet (fun _ => []) c.lines l).drop (3 * rectX s r)).take (3 * rectW s r)))), false)
    else none
  | none, _ => none

/-- A rectangle still has to compute frame n. -/
def rectDue (s : State) (r n : Nat) : Bool :=
  rectOn s r && decide ((rectOf s r).first ≤ n) && (rectOf s r).window.all (fun e => decide (e.1 < n))

/-- Record the value of a rectangle of INPUT or COMPOSED, when its computation has ended and it has not been
recorded. -/
def computeRect (s : State) (r : Nat) : State :=
  match rectValue s r with
  | some (n, crc, dropped) => if rectDue s r n then rectComputed r n crc dropped s else s
  | none => s

/-- Every rectangle of INPUT and COMPOSED has its value when the frame ends. -/
def computeRects (s : State) : State := (List.range 32).foldl (fun s r => if rectOn s r then computeRect s r else s) s

/-- What a layer does at the end of a frame: its underrun and fault are reported, and a fault disables it, unless a later
flip has taken effect at that frame's latch instant (R291 to R293). -/
def endLayer (cfn : Nat) (s : State) (n : Nat) : State :=
  let l := frameLayer s n
  let now_ := layerOf s n
  let later := now_.current.any (fun f => decide (f.cfn = cfn + 1))
  let s := setLayer n { now_ with
    under := [], faultFrom := none, faultFlip := none, off := now_.off || (l.faultFrom.isSome && !later) } s
  let s := match l.under.getLast? with
    | some first => postEvent (.resource (hostOf s 1 n)) 0x02F1 0x30 1
        (dataAt 24 n ||| dataAt 28 first ||| dataAt 30 (min 65535 l.under.length)) s
    | none => s
  match l.faultFlip with
  | some f =>
    let tag := ((dscOf s f.port f.sq f.seq).map (·.tag)).getD 0
    s |> setFlag Flag.COMP_fetch_fault
      |> postEvent (.resource (hostOf s 1 n)) 0x02F0 0x30 2 (dataAt 24 n ||| dataAt 28 tag)
      |> completeFlip f .fetchFault f.cfn (flipRes cfn 0)
  | none => s

/-- A composition line has been composed (R495, R499). -/
def countLine (s : State) : State := s |> countEvent 0x30 0x10 1 |> fixedAdd 2 1 |> fixedAdd 4 (panelW s)

/-- The composition frame in progress ends: early, with its lines patched (R222, R272), or after its last line. -/
def endFrame (s : State) : State :=
  match s.comp.cur with
  | none => s
  | some c =>
    let s := patchMissing s
    let s := if c.whole then s
      else
        let s := ((List.range (panelH s)).drop c.next).foldl (fun s y =>
          let s := if planesPatched s y = [] then countPatch s else s
          patchedLine [0, 1] y s |> countLine) s
        frameWhole s
    let s := latch (computeRects s)
    let s := match hwRead s with
      | some f => if (linesOf s 0 = [] ∧ linesOf s 1 = []) then s else postPatches f s
      | none => s
    let s := layerNumbers.foldl (endLayer c.cfn) s
    let s := followResume s
    { s with comp := { s.comp with cur := none } } |> followLayers

/-- While no composition frame is in progress, the groups that wait apply to the frame about to start (R232). -/
def applyWaiting (s : State) : State := if s.comp.cur.isNone then applyGroups (s.cfn + 1) s else s

/-- The run-ahead lines of a layer become its lines, if they were read from the flip that applies (R288). -/
def takeAhead (s : State) (k : Nat) : State :=
  let l := layerOf s k
  let fits := decide (l.aheadOf = l.current.map (fun f => (f.port, f.sq, f.seq)))
  let fault := if fits then l.aheadFault else none
  let lines := if fits then l.ahead else []
  let flip := if fault.isSome then l.current else none
  setLayer k { l with lines := lines, ahead := [], aheadOf := none, aheadFault := none, faultFrom := fault, faultFlip := flip } s

/-- Ports that fetch their doorbells at each composition frame start do so (R121). -/
def frameFetches (s : State) : State :=
  [0, 1, 2, 3].foldl (fun s p => if rdB s (Reg.PORT_CTRL p) Fld.PORT_CTRL_frame_fetch then triggerFetch p s else s) s

/-- A composition frame starts (R21): CFN advances, and each LIVE layer's run-ahead lines become its lines. The next timer
frame is fixed with the LAG now in force (R254). -/
def startFrame (fromHwl : Bool) (own : Option HwFrame) (lag : Nat) (s : State) : State :=
  let s := endFrame s |> openSlot
  let n := s.cfn + 1
  let c : CompFrame :=
    { cfn := n, fromHwl := fromHwl, own := own, lag := lag, slot := ringSlot s, latchLine := rdF s Reg.RAST_GEOM Fld.RAST_GEOM_v_latch }
  let s := { s with cfn := n, comp := { s.comp with cur := some c },
                    raster := { s.raster with timerLag := rdF s Reg.RAST_LAG Fld.RAST_LAG_lag } }
  layerNumbers.foldl takeAhead s |> followLayers |> frameFetches

end Sys2Proof.Machine
end

