-- ==== Sys2Proof/Machine/Checks.lean ====
section
/-! DEFINITION. The check and counter commands: CHECK_RECT, CHECK_EXPECT, rectangle computation (R484 to R491), the
counter pool, snapshots, bandwidth monitors and tile tags (R492 to R504). -/

namespace Sys2Proof.Machine

/-! ### Rectangles -/

/-- The frame number now of a rectangle's kind: CFN, or SFN for DRIVE (R484). -/
def rectFrameNow (s : State) (r : Nat) : Nat := if checkPoint r = 2 then sfn s else cfn s

/-- Define a rectangle as a CHECK_RECT asks. -/
def defineRect (d : Dsc) (s : State) : State :=
  let r := d.u8 16
  let s := clearRect r s |> wr (Reg.CHK_Rr_POS r) (BitVec.ofNat 32 (d.u16 20 + 65536 * d.u16 22))
    |> wr (Reg.CHK_Rr_SIZE r) (BitVec.ofNat 32 (d.u16 24 + 65536 * d.u16 26))
    |> wrF (Reg.CHK_Rr_CFG r) Fld.CHK_Rr_CFG_source (d.u8 17)
    |> wrF (Reg.CHK_Rr_CFG r) Fld.CHK_Rr_CFG_enable (d.u8 18) |> wr (Reg.CHK_Rr_STAT r) 0 |> followChkActive r
  if d.u8 18 = 0 then completeI d .ok 0 s
  else setRect r { first := rectFrameNow s r + 1, defining := some (d.port, d.sq, d.seq) } s |> setRunning d

/-- CHECK_RECT (R169, R485). -/
def execCheckRect (port sq seq : Nat) (s : State) : Host.Outcome State Fault Refusal :=
  withReady port sq seq 0x0801 (fun d s =>
    if rectValid s (checkPoint (d.u8 16)) (d.u8 17) (d.u16 20) (d.u16 22) (d.u16 24) (d.u16 26) then defineRect d s
    else refuseWith d .refused 0x88 s) s

/-- A sticky value is installed (R170, R490). -/
def installSticky (d : Dsc) (s : State) : State :=
  let r := d.u8 16
  setRect r { rectOf s r with run := 0 } s |> wr (Reg.CHK_Rr_STICKY r) (BitVec.ofNat 32 (d.u32 20))
    |> wrF (Reg.CHK_Rr_CFG r) Fld.CHK_Rr_CFG_sticky_set 1 |> completeI d .ok 0

/-- A per-frame value reaches CHK (R489). Before its first computation a rectangle still is to compute its first frame. -/
def expectFrame (d : Dsc) (s : State) : State :=
  let r := d.u8 16
  let v := rectOf s r
  let f := d.target
  let newest := match v.window with
    | e :: _ => e.1
    | [] => if rectOn s r then v.first - 1 else rectFrameNow s r
  let held := v.window.find? (fun e => decide (e.1 = f))
  let e : Expect := { port := d.port, sq := d.sq, seq := d.seq, frame := f, crc := d.u32 20 }
  match held, decide (f = 0) with
  | some c, false => comparePerFrame r (2 + 4 * b2n (v.dropped.contains f)) f c.2 s e
  | _, zero =>
    if !zero && decide (newest + 1000000 < f) then badWith d .badDescriptor 8 s
    else if !zero && decide (f ≤ newest) then setFlag Flag.CHK_late s |> complete d .late f 0
    else if 16 ≤ v.waiting.length then refuseWith d .resource 0x88 s
    else setRect r { v with waiting := v.waiting ++ [e] } s |> followWaiting r |> setRunning d

/-- CHECK_EXPECT (R170, R489). -/
def execCheckExpect (port sq seq : Nat) (s : State) : Host.Outcome State Fault Refusal :=
  withReady port sq seq 0x0802 (fun d s => if d.u8 17 = 1 then installSticky d s else expectFrame d s) s

/-! ### Counters -/

/-- The mode, unit and event of counter n (R493). -/
def ctrConfig (n mode unit ev : Nat) (s : State) : State :=
  let k := Reg.PERF_CTRn_CFG n
  s |> wrF k Fld.PERF_CTRn_CFG_event ev |> wrF k Fld.PERF_CTRn_CFG_unit unit
    |> wrF k Fld.PERF_CTRn_CFG_level (bitsAt mode 0 1) |> wrF k Fld.PERF_CTRn_CFG_chain (bitsAt mode 1 1)
    |> wrF k Fld.PERF_CTRn_CFG_enable (bitsAt mode 2 1)

/-- Chaining is allowed: on an even counter whose odd partner has the same host (R171). -/
def mayChain (s : State) (n : Nat) : Bool := decide (n % 2 = 0 ∧ hostOf s 2 (n + 1) = hostOf s 2 n)

/-- Counter n wraps when it counts a number of events in one cycle (R494, R496, R500). -/
def ctrWraps (s : State) (n counts : Nat) : Bool :=
  let k := Reg.PERF_CTRn_CFG n
  let v := if rdB s k Fld.PERF_CTRn_CFG_level then min 1 counts else counts
  rdB s k Fld.PERF_CTRn_CFG_enable && !rdB s Reg.PERF_STAT Fld.PERF_STAT_frozen && decide (2 ^ 48 ≤ ctrNow s n + v)

/-- Counter n takes a preset, counting a number of events in the same cycle: a wrap leaves overflow count 1, and that of a
chained even counter still reaches its odd partner (R493, R497). -/
def ctrPreset (n preset counts : Nat) (s : State) : State :=
  let wraps := ctrWraps s n counts
  let s := if wraps then flagOverflow s else s
  let s := if wraps && ctrChained s n && decide (n % 2 = 0) then ctrCarry n 1 s else s
  setCtr n { value := preset % 2 ^ 48, ovf := b2n wraps } s

/-- CTR_PROGRAM (R171, R493, R497), with the events that the counter counts in the cycle in which it takes effect. -/
def execCtrProgram (port sq : Nat) (seq : SeqCounts) (s : State) : Host.Outcome State Fault Refusal :=
  withReady port sq seq.seq 0x0901 (fun d s =>
    let n := d.u8 16
    if bitAt (d.u8 17) 1 && !mayChain s n then refuseWith d .refused 0x90 s
    else ctrPreset n (d.u64 24) seq.counts s |> ctrConfig n (d.u8 17) (d.u8 18) (d.u16 20)
      |> completeI d .ok 0) s

/-- The 64 bits a read of programmable counter n returns (R498). -/
def ctrWord (s : State) (n : Nat) : Nat :=
  ctrNow s n % 2 ^ 48 + 2 ^ 48 * ((ctr s n).ovf % 256) + 2 ^ 63 * b2n (ctrChained s n)

/-- Fixed counter k (R499): ticks and cycles since reset are the clocks' own, the rest the model counts. -/
def fixedWord (s : State) (k : Nat) : Nat :=
  match k with
  | 0 => Config.ticksAt s.fresh % 2 ^ 64
  | 1 => Config.compCyclesAt s.fresh % 2 ^ 64
  | _ => tabGet (fun _ => 0) s.perf.fixed k

/-- A snapshot of every counter (R500): frozen time counters hold what they held. -/
def takeSnapshot (s : State) : State :=
  let words := (List.range 64).map (ctrWord s) ++ (List.range 8).map (fun k =>
    if rdB s Reg.PERF_STAT Fld.PERF_STAT_frozen ∧ k < 2 then tabGet (fun _ => 0) s.perf.fixed k else fixedWord s k)
  let snap := (words.zipIdx).foldl (fun t e => tabSet (fun _ => 0) t e.2 e.1) ([] : Tab Nat)
  tick { s with perf := { s.perf with snap := snap, snapSeq := (s.perf.snapSeq + 1) % 2 ^ 32 } }

/-- CTR_SNAPSHOT (R500). -/
def execCtrSnapshot (port sq seq : Nat) (s : State) : Host.Outcome State Fault Refusal :=
  withReady port sq seq 0x0902 (fun d s =>
    let s := takeSnapshot s
    completeI d .ok (resAt 16 s.perf.snapSeq) s) s

/-- A counter of cycles or lines keeps what it has counted. -/
def holdCtr (s : State) (n : Nat) : State := if ctrFree s n then setCtr n { ctr s n with value := ctrNow s n } s else s

/-- CTR_FREEZE (R500). Every counter keeps its value at the freeze. -/
def execCtrFreeze (port sq seq : Nat) (s : State) : Host.Outcome State Fault Refusal :=
  withReady port sq seq 0x0903 (fun d s =>
    let on := decide (d.u8 16 = 1)
    let was := rdB s Reg.PERF_STAT Fld.PERF_STAT_frozen
    let held := if on && !was then
        tabSet (fun _ => 0) (tabSet (fun _ => 0) s.perf.fixed 0 (fixedWord s 0)) 1 (fixedWord s 1)
      else s.perf.fixed
    let s := if on then (List.range 64).foldl holdCtr s else s
    tick { s with perf := { s.perf with fixed := held } } |> wrF Reg.PERF_STAT Fld.PERF_STAT_frozen (b2n on)
      |> completeI d .ok 0) s

/-- COUNTER_WRAP (R496, R499): a counter of cycles, busy cycles, stall cycles or Reservoir lines passes 2^48; 64 and
65 are the two clock counters, which pass 2^64. -/
def execCounterWrap (n : Nat) (s : State) : Host.Outcome State Fault Refusal :=
  if (n = 64 ∨ n = 65) ∧ ¬ rdB s Reg.PERF_STAT Fld.PERF_STAT_frozen then .next (flagOverflow s)
  else if 64 ≤ n ∨ ¬ ctrFree s n then .next s
  else .next (ctrAdd n (2 ^ 48 - (ctr s n).value) s)

/-! ### Bandwidth monitors -/

/-- BW_MONITOR (R502): the partial window is discarded and a new one starts. -/
def execBwMonitor (port sq seq : Nat) (s : State) : Host.Outcome State Fault Refusal :=
  withReady port sq seq 0x0904 (fun d s =>
    let m := d.u8 16
    let c := { tabGet (fun _ => ({} : Monitor)) s.perf.monitors m with bytes := 0 }
    { s with perf := { s.perf with monitors := tabSet (fun _ => {}) s.perf.monitors m c } }
      |> wrF (Reg.PERF_BWm_CFG m) Fld.PERF_BWm_CFG_window_us (d.u32 20) |> completeI d .ok 0) s

/-- Bytes of a window of w intervals of 1 µs in Reservoir lines of 64 bytes, of which lo and hi are the smallest and the largest
counts: what the others count is a free value (log entry 85). -/
def rsvWindow (s : State) (w lo hi : Nat) : Nat :=
  if w ≤ 1 then lo else lo + hi + (w - 2) * lo + 64 * (Config.freeValue s.fresh % ((w - 2) * (hi - lo) / 64 + 1))

/-- BW_WINDOW_END (R502): lo and hi are the smallest and largest 1 µs interval counts of the window; those of the Reservoir are
in whole lines. -/
def execBwWindowEnd (monitor lo hi : Nat) (s : State) : Host.Outcome State Fault Refusal :=
  if 10 ≤ monitor ∨ rdF s (Reg.PERF_BWm_CFG monitor) Fld.PERF_BWm_CFG_window_us = 0 then .next s
  else
    let c := tabGet (fun _ => ({} : Monitor)) s.perf.monitors monitor
    let w := rdF s (Reg.PERF_BWm_CFG monitor) Fld.PERF_BWm_CFG_window_us
    let lines := decide (monitor = 5 ∨ monitor = 6)
    let lo := if lines then lo / 64 * 64 else lo
    let hi := if lines then if w = 1 then lo else max lo (hi / 64 * 64) else hi
    let total := if lines then rsvWindow s w lo hi else c.bytes
    let s := tick s
    let c : Monitor := { bytes := 0, pubBytes := total % 2 ^ 48, pubMin := lo % 2 ^ 32, pubMax := hi % 2 ^ 32,
                         seq := (c.seq + 1) % 65536 }
    .next { s with perf := { s.perf with monitors := tabSet (fun _ => {}) s.perf.monitors monitor c } }

/-! ### Tile tags -/

/-- TAG_CONFIG (R503). -/
def execTagConfig (port sq seq : Nat) (s : State) : Host.Outcome State Fault Refusal :=
  withReady port sq seq 0x0905 (fun d s =>
    let clear := decide (d.u8 17 = 1)
    let tags := if clear then [] else s.perf.tags
    let idx := if clear then 0 else s.perf.tagIndex
    { s with perf := { s.perf with tagS := 1, tags := tags, tagIndex := idx } }
      |> wrF Reg.PERF_STAT Fld.PERF_STAT_tag_k (d.u8 16) |> completeI d .ok 0) s

/-- One step of the tagging register at a first dispatch, and whether that job is tagged (R503). -/
def tagStep (s : State) : Bool × State :=
  let k := rdF s Reg.PERF_STAT Fld.PERF_STAT_tag_k
  if k = 0 then (false, s)
  else
    let x := s.perf.tagS
    let b := (b2n (bitAt x 31) + b2n (bitAt x 21) + b2n (bitAt x 1) + b2n (bitAt x 0)) % 2
    let y := (2 * x + b) % 2 ^ 32
    (decide (y % 2 ^ k = 0), { s with perf := { s.perf with tagS := y } })

/-- Write a tile tag record; overwriting one sets tag_wrap (R504, R508). -/
def writeTag (t : TagRec) (s : State) : State :=
  let i := s.perf.tagIndex
  let s := { s with perf := { s.perf with
    tags := tabSet (fun _ => {}) s.perf.tags (i % 64) t, tagIndex := (i + 1) % 2 ^ 32 } }
  if i < 64 then s else s |> wrF Reg.PERF_FLAGS (1, 1) 1 |> bumpSat Reg.PERF_FLAG_CNT (8, 8) 1

end Sys2Proof.Machine
end

