-- ==== Sys2Proof/Machine/Split.lean ====
section
/-! DEFINITION. The Otius reference kernels of stage 1 (split, R301 to R311), stage 6 (zone filter, R316) and the
backlight code (R319, R320), as pure functions over planes. -/

namespace Sys2Proof.Machine

/-! ### Planes -/

/-- The plane of a rectangle whose value at frame pixel (x, y) is f x y. -/
def Plane.build (x y w h : Nat) (f : Nat → Nat → Nat) : Plane :=
  { x := x, y := y, w := w, h := h,
    rows := (List.range h).map (fun j => (List.range w).map (fun i => f (x + i) (y + j))) }

/-- The value at frame pixel (x, y), read inside the plane's own rectangle: a plane covers its halo clipped to the
frame, so the nearest value it holds is the nearest pixel inside the frame (R301). -/
def Plane.read (p : Plane) (x y : Int) : Nat :=
  let i := (clampI 0 ((p.w : Int) - 1) (x - p.x)).toNat
  let j := (clampI 0 ((p.h : Int) - 1) (y - p.y)).toNat
  (p.rows.getD j []).getD i 0

/-- A rectangle of the frame. -/
structure Rect where
  x : Nat
  y : Nat
  w : Nat
  h : Nat
deriving DecidableEq, Repr

/-- A rectangle grown by v lines and u columns on every side, clipped to a frame (R353). -/
def Rect.grow (r : Rect) (u v fw fh : Nat) : Rect :=
  let x0 := r.x - u
  let y0 := r.y - v
  { x := x0, y := y0, w := min (r.x + r.w + u) fw - x0, h := min (r.y + r.h + v) fh - y0 }

def Plane.over (r : Rect) (f : Nat → Nat → Nat) : Plane := Plane.build r.x r.y r.w r.h f

/-- The part of a plane over a rectangle. -/
def Plane.crop (p : Plane) (r : Rect) : Plane := Plane.over r (fun x y => p.read x y)

/-! ### Tables (R302, R309, R311) -/

/-- A lookup in a 1,025-entry table. -/
def lut1025 (t : Nat → Nat) (x : Nat) : Nat := (lerpQ (t (x / 64)) (t (x / 64 + 1)) (x % 64) 6).toNat

/-- Reference E for gamma 0.5: the greatest n with (2n - 1)² ≤ 4 × 65,535 × 64i, held at 65,535. -/
def splitE (i : Nat) : Nat :=
  searchUp (fun n => decide (n ≤ 65535 ∧ (2 * n - 1) ^ 2 ≤ 4 * 65535 * min 65535 (64 * i))) 16 0

/-- Reference Q. -/
def splitQ (i : Nat) : Nat :=
  let d := 32768 + 32 * i
  (2 ^ 31 + d) / (2 * d)

/-- What stage 1 runs with. -/
structure SplitCfg where
  /-- Section bytes of classes 0x10, 0x11 and 0x12; empty for the reference content. -/
  split : List Byte := []
  rear : List Byte := []
  filter : List Byte := []
  dual : Bool
  dimming : Bool
deriving DecidableEq, Repr

def SplitCfg.e (c : SplitCfg) (i : Nat) : Nat := if c.split = [] then splitE i else u16At c.split i
def SplitCfg.q (c : SplitCfg) (i : Nat) : Nat := if c.split = [] then splitQ i else u16At c.split (1025 + i)

/-- Dilation radius and the taps of a filter table (R311); without one, the default. -/
def filterRd (t : List Byte) : Nat := if t = [] then 2 else leAt t 0 1

/-- The n taps at byte offset o. -/
def tapsAt (t : List Byte) (countAt o : Nat) : List Nat :=
  if t = [] then [32768] else (List.range (leAt t countAt 1)).map (fun i => leAt t (o + 2 * i) 2)

def SplitCfg.rd (c : SplitCfg) : Nat := filterRd c.filter
def SplitCfg.bv (c : SplitCfg) : List Nat := tapsAt c.filter 1 16
def SplitCfg.bh (c : SplitCfg) : List Nat := tapsAt c.filter 2 82
def SplitCfg.pv (c : SplitCfg) : List Nat := tapsAt c.filter 3 148
def SplitCfg.ph (c : SplitCfg) : List Nat := tapsAt c.filter 4 182

/-- The sections that the firmware builds at READY: E and Q (R309), and the filters of one tap (R311). -/
def splitSection : List Byte :=
  (List.range 1025).flatMap (fun i => leBytes 2 (splitE i)) ++ (List.range 1025).flatMap (fun i => leBytes 2 (splitQ i))

def filterSection : List Byte :=
  [2, 1, 1, 1, 1] ++ leBytes 11 0 ++ [33, 33, 17, 17].flatMap (fun n => leBytes (2 * n) 32768)

/-- Vertical and horizontal halo of the reference split of a cell (R353). -/
def splitHalo (filter : List Byte) (rear : Bool) : Nat × Nat :=
  let half := fun o => (tapsAt filter o 0).length / 2
  if rear then (filterRd filter + half 1, filterRd filter + half 2)
  else (filterRd filter + half 1 + half 3, filterRd filter + half 2 + half 4)

/-! ### The split (R303 to R308) -/

/-- A vertical or horizontal filter over values g k, centred: u16, rounded and saturated. -/
def filterAt (taps : List Nat) (g : Int → Nat) (c : Int) : Nat :=
  let mid : Int := ((taps.length - 1) / 2 : Nat)
  satU16 (roundShift ((taps.zipIdx).foldl (fun (acc : Int) e => acc + (e.1 : Int) * g (c + e.2 - mid)) 0) 15)

/-- Step 1. -/
def peak (cr cg cb : Plane) (x y : Nat) : Nat := max (cr.read x y) (max (cg.read x y) (cb.read x y))

/-- Step 2, over the m plane. -/
def dilate (rd : Nat) (m : Plane) (x y : Nat) : Nat :=
  let span := (List.range (2 * rd + 1)).map (fun (i : Nat) => (i : Int) - rd)
  span.foldl (fun acc j => span.foldl (fun acc i => max acc (m.read (x + i) (y + j))) acc) 0

/-- Step 5 without the response table: tn, and whether it is a rear clip. -/
def rearTarget (dimming : Bool) (rt b : Nat) : Nat × Bool :=
  if !dimming then (rt, false)
  else if rt ≤ b then (if b = 0 then 0 else (rt * 65535 + b / 2) / b, false)
  else (65535, true)

/-- Leading zero bits of a 16-bit value. -/
def clz16 (x : Nat) : Nat := if x % 65536 = 0 then 16 else 15 - Nat.log2 (x % 65536)

/-- Step 7 for one channel: T_f, and whether it clips. -/
def frontChannel (q : Nat → Nat) (c l : Nat) : Nat × Bool :=
  if l = 0 then (if 0 < c then 65535 else 0, decide (0 < c))
  else
    let n := clz16 l
    let ln := l * 2 ^ n
    let i := (ln - 32768) / 32
    let rcp := lerpQ (q i) (q (i + 1)) (ln % 32) 5
    let v := roundShift ((c * 65535 : Nat) * rcp) (30 - n)
    (satU16 v, decide (65535 < v))

/-- What stage 1 gives: the m plane and rt over the tile, T_f of the three channels, T_r, and the clip flags. -/
structure SplitOut where
  m : Plane
  rt : Plane
  tr : Plane
  tf : List Plane
  rearClip : Plane
  frontClip : Plane
deriving DecidableEq, Repr

/-- Stage 1 over a rectangle of the frame, from composed planes that cover its halo. b gives the backlight value of a
pixel's zone. -/
def splitTile (c : SplitCfg) (cr cg cb : Plane) (b : Nat → Nat → Nat) (fw fh : Nat) (r : Rect) : SplitOut :=
  let hp := c.ph.length / 2
  let vp := c.pv.length / 2
  let hb := c.bh.length / 2
  let vb := c.bv.length / 2
  let rRt := r.grow hp vp fw fh
  let rMd := rRt.grow hb vb fw fh
  let m := Plane.over (rMd.grow c.rd c.rd fw fh) (peak cr cg cb)
  let md := Plane.over rMd (dilate c.rd m)
  let mv := Plane.over (rRt.grow hb 0 fw fh) (fun x y => filterAt c.bv (fun k => md.read x k) y)
  let mb := Plane.over rRt (fun x y => filterAt c.bh (fun k => mv.read k y) x)
  let rt := Plane.over rRt (fun x y => lut1025 c.e (mb.read x y))
  let tr := Plane.over rRt (fun x y => lut1025 (u16At c.rear) (rearTarget c.dimming (rt.read x y) (b x y)).1)
  let rearClip := Plane.over r (fun x y =>
    b2n (c.dual && (rearTarget c.dimming (rt.read x y) (b x y)).2))
  let lv := Plane.over (r.grow hp 0 fw fh) (fun x y => filterAt c.pv (fun k => tr.read x k) y)
  let lr := Plane.over r (fun x y => filterAt c.ph (fun k => lv.read k y) x)
  let light := Plane.over r (fun x y =>
    if c.dual then (if c.dimming then (lr.read x y * b x y + 32767) / 65535 else lr.read x y) else b x y)
  let plain := !c.dual && !c.dimming
  let ch := fun (p : Plane) => Plane.over r (fun x y =>
    if plain then p.read x y else (frontChannel c.q (p.read x y) (light.read x y)).1)
  let clip := Plane.over r (fun x y =>
    b2n (!plain && [cr, cg, cb].any (fun p => (frontChannel c.q (p.read x y) (light.read x y)).2)))
  { m := m.crop r, rt := rt.crop r, tr := tr.crop r, tf := [ch cr, ch cg, ch cb], rearClip := rearClip, frontClip := clip }

/-! ### Zones (R315, R316) -/

/-- Zone row of a line, and zone column of a pixel column. -/
def zoneRowOf (h y : Nat) : Nat := ((List.range 36).filter (fun z => decide (z * h / 36 ≤ y))).length - 1
def zoneColOf (w x : Nat) : Nat := ((List.range 64).filter (fun z => decide (z * w / 64 ≤ x))).length - 1
def zoneOf (w h x y : Nat) : Nat := 64 * zoneRowOf h y + zoneColOf w x

/-- Last line of a zone row. -/
def zoneLast (h z : Nat) : Nat := (z + 1) * h / 36 - 1

/-- B(k + 1, z) from Z_raw(k, z) and B(k, z) (R316). -/
def zoneFilter (headroom decay floor zraw b : Nat) : Nat :=
  let t := min 65535 (roundShift (zraw * headroom : Nat) 12).toNat
  let v : Int := if b ≤ t then t else (b : Int) - roundShift ((b - t) * decay : Nat) 16
  max v.toNat floor

/-- The code of a zone (R320), from the zone map's section. -/
def zoneCode (map : List Byte) (z b : Nat) : Nat :=
  let g := satU16 (roundShift (b * u16At map z : Nat) 15)
  (lerpQ (u16At map (2304 + g / 256)) (u16At map (2304 + g / 256 + 1)) (g % 256) 8).toNat

end Sys2Proof.Machine
end

