-- ==== Sys2Proof/Machine/Drive.lean ====
section
/-! DEFINITION. Drive conditioning (R331 to R345) as pure functions: linearisation, demura, concealment, overdrive,
Riffle dither. -/

namespace Sys2Proof.Machine

/-! ### Stage 2 (R331) -/

def linearise (lin : Nat → Nat) (t : Nat) : Nat := (lerpQ (lin (t / 16)) (lin (t / 16 + 1)) (t % 16) 4).toNat

/-! ### Stage 3 (R332, R333) -/

/-- Knot s of a demura map. -/
def demuraKnot (map : List Byte) (s : Nat) : Nat :=
  match s with
  | 0 => 0
  | 4 => 65535
  | _ => leAt map (2 * s + 2) 2

/-- c[s] of pixel (x, y), in 1/256 drive step. -/
def demuraCorr (map : List Byte) (x y s : Nat) : Int :=
  if s = 0 ∨ s = 4 then 0
  else signed 8 (leAt map (64 + 3 * (leAt map 0 2 * y + x) + s - 1) 1) * leAt map (2 * s + 8) 2

def demura (map : List Byte) (x y d : Nat) : Nat :=
  let s := if demuraKnot map 3 ≤ d then 3 else if demuraKnot map 2 ≤ d then 2 else if demuraKnot map 1 ≤ d then 1 else 0
  let dk := demuraKnot map (s + 1) - demuraKnot map s
  let r : Nat := (2 ^ 24 + dk / 2) / dk
  let c0 := demuraCorr map x y s
  let corr := c0 + roundShift ((demuraCorr map x y (s + 1) - c0) * ((d - demuraKnot map s) * r : Nat)) 24
  satU16 (d + roundShift corr 8)

/-! ### Stage 4 (R334, R335) -/

/-- An entry of the defect list. -/
structure Defect where
  x : Nat
  y : Nat
  cell : Nat
  sub : Nat
  kind : Nat
  strength : Nat
deriving DecidableEq, Repr

def readDefects (t : List Byte) : List Defect :=
  (List.range (leAt t 0 4)).map (fun i =>
    let o := 16 + 8 * i
    { x := leAt t o 2, y := leAt t (o + 2) 2, cell := leAt t (o + 4) 1, sub := leAt t (o + 5) 1, kind := leAt t (o + 6) 1,
      strength := leAt t (o + 7) 1 })

/-- amt of an entry whose demura output is de. -/
def Defect.amount (e : Defect) (de : Nat) : Int :=
  match e.kind with
  | 1 => -((65535 : Int) - de)
  | 2 => de
  | _ => (de : Int) - roundShift (de * e.strength : Nat) 8

/-- Concealment of pixel (x, y) of one cell and sub, from demura outputs d; es holds the entries of that cell and
sub. -/
def conceal (es : List Defect) (d : Plane) (x y : Nat) : Nat :=
  match es.find? (fun e => decide (e.x = x ∧ e.y = y)) with
  | some e => if e.kind = 3 then d.read x y else 0
  | none =>
    let acc := es.foldl (fun (acc : Int) e =>
      let dx : Int := (e.x : Int) - x
      let dy : Int := (e.y : Int) - y
      if -1 ≤ dx ∧ dx ≤ 1 ∧ -1 ≤ dy ∧ dy ≤ 1 then
        acc + roundShift (e.amount (d.read e.x e.y) * (if dx = 0 ∨ dy = 0 then 3 else 1)) 4
      else acc) 0
    satU16 (d.read x y + acc)

/-! ### Stage 5 (R336 to R338) -/

def hist10 (t : Nat) : Nat := min 1023 ((t + 32) / 64)
def expand10 (h : Nat) : Nat := h * 64 + h / 16

def bilerp (g : Nat → Nat → Int) (a b sh : Nat) : Int :=
  let i := a / 2 ^ sh
  let j := b / 2 ^ sh
  let r0 := lerpQ (g i j) (g i (j + 1)) (b % 2 ^ sh) sh
  let r1 := lerpQ (g (i + 1) j) (g (i + 1) (j + 1)) (b % 2 ^ sh) sh
  lerpQ r0 r1 (a % 2 ^ sh) sh

/-- r_s of one set for channel block c. -/
def overdriveSet (set : List Byte) (c t p q : Nat) : Nat :=
  let base := 16 + 2768 * c
  let o1 := fun i j => (leAt set (base + 2 * (33 * i + j)) 2 : Int)
  let o2 := fun k l => signed 16 (leAt set (base + 2178 + 2 * (17 * k + l)) 2)
  satU16 (bilerp o1 t p 11 + bilerp o2 p q 12)

/-- Overdrive of a target with history h1 and h2 under sets a and b with weight w (R338). -/
def overdrive (a b : List Byte) (same : Bool) (w c t h1 h2 : Nat) : Nat :=
  let ra := overdriveSet a c t (expand10 h1) (expand10 h2)
  if same then ra
  else satU16 (lerpQ ra (overdriveSet b c t (expand10 h1) (expand10 h2)) w 8)

/-- Temperature and response centroid of a set (R337). -/
def odTemp (set : List Byte) : Int := signed 16 (leAt set 0 2)
def odResp (set : List Byte) : Nat := leAt set 2 2

/-! ### Riffle dither (R343, R344) -/

def bayer (x y : Nat) : Nat :=
  [0, 1, 2, 3].foldl (fun v i => v * 4 + 2 * b2n (bitAt (x ^^^ y) i) + b2n (bitAt y i)) 0

/-- M[ph][y][x] and B[y][x] of a Riffle table. A table that a Reservoir error has taken away (R418) leaves them not stated: free
values (log entry 130). -/
def riffleM (t : List Byte) (ph y x : Nat) : Nat :=
  if t = [] then Config.freeValue (256 * ph + 16 * y + x) % 256 else leAt t (256 * ph + 16 * y + x) 1
def riffleB (t : List Byte) (y x : Nat) : Nat :=
  if t = [] then Config.freeValue (1024 + 64 * y + x) % 256 else leAt t (1024 + 64 * y + x) 1

/-- The reference section that the firmware activates at READY. -/
def riffleSection : List Byte :=
  (List.range 4).flatMap (fun ph => (List.range 16).flatMap (fun y => (List.range 16).map (fun x => 
    BitVec.ofNat 8 (bayer ((x + 8 * (ph % 2)) % 16) ((y + 8 * (ph / 2)) % 16))))) ++
    (List.range 64).flatMap (fun y => (List.range 64).map (fun x => BitVec.ofNat 8 (bayer (x % 16) (y % 16))))

/-- One drive value reduced to n bits. -/
def riffle (t : List Byte) (dither n ph x y d : Nat) : Nat :=
  let s := 16 - n
  let top := 2 ^ n - 1
  if dither = 0 then min top ((d + 2 ^ (s - 1)) / 2 ^ s)
  else
    let raw := if dither = 2 then riffleB t ((y + 32 * (ph / 2)) % 64) ((x + 32 * (ph % 2)) % 64)
      else riffleM t ph (y % 16) (x % 16)
    min top (d / 2 ^ s + b2n (decide (raw / 2 ^ (8 - s) < d % 2 ^ s)))

end Sys2Proof.Machine
end

