-- ==== Sys2Proof/Machine/Headwater.lean ====
section
/-! DEFINITION. The Headwater link (R211 to R235, R575): blocks and line packets, frames, sleep and wake, silence, freeze and
hold. A block comes as the 66 bits that the lane receives; each command acts on the kind of block its name gives. -/

namespace Sys2Proof.Machine

/-- A lane that is ACTIVE receives blocks. -/
def hwlReceives (s : State) (lane : Nat) : Bool := decide (lane < 32) && laneIs s 0 lane Lane.active

/-- The lane is in the active set (R211). -/
def inSet (mask lane : Nat) : Bool := (lanesOf mask).contains lane

/-- A control block other than IDLE arrives on a lane: it abandons an open packet (R214) and resets the idle count (R194). -/
def controlBlock (lane : Nat) (s : State) : State := abandonPacket lane 3 s |> notIdle lane

/-- What the lane's pins carry for blocks that a source sends now: each a header and an unscrambled payload. -/
def onWire (s : State) (lane : Nat) (bs : List (Nat × BitVec 64)) : List (BitVec 66) :=
  let r := (encodeBlocks (laneOf s 0 lane).scr bs).1
  if rdB s (Reg.LANE_CFG 0 lane) Fld.LANE_CFG_polarity then r.map (fun b => ~~~b) else r

/-! ### Line packets (R213 to R218) -/

/-- A line packet: the fields of its LINE_START and LINE_END, and its data bytes (R213 to R217). -/
structure LinePacket where
  plane : Nat
  frameLo : Nat
  line : Nat
  /-- Byte 5 of LINE_START: sampling, depth, and bits [7:4]. -/
  format : Nat
  width : Nat
  /-- Payload bytes of its data blocks, 8 a block. -/
  data : List Byte
  crc : Nat
  dataBlocks : Nat
deriving DecidableEq, Repr

/-- The packet that LINE_START bytes 1 to 7, data bytes and LINE_END bytes 1 to 7 make. -/
def packetOf (st data en : List Byte) : LinePacket :=
  { plane := startPlane st, frameLo := startLo st, line := startLine st, format := startFormat st, width := startWidth st,
    data := data, crc := leAt en 0 4, dataBlocks := leAt en 4 2 }

/-- Payload bytes 1 to 7 of LINE_START. -/
def LinePacket.startBytes (k : LinePacket) : List Byte :=
  leBytes 1 k.plane ++ leBytes 1 k.frameLo ++ leBytes 2 k.line ++ leBytes 1 k.format ++ leBytes 2 k.width

/-- The blocks of a packet, as the source codes them. -/
def LinePacket.blocks (k : LinePacket) : List (Nat × BitVec 64) :=
  controlOf 0x78 k.startBytes :: dataBlocksOf (k.data.length / 8) k.data ++
    [controlOf 0x87 (leBytes 4 k.crc ++ leBytes 2 k.dataBlocks)]

/-- Components of a line of a format (R217). -/
def lineComponents (fmt width line : Nat) : Nat :=
  match fmt % 4 with
  | 0 | 1 => 3 * width
  | 2 => 2 * width
  | _ => if line % 2 = 0 then 2 * width else width

/-- Data blocks of a line: its payload bits over 64, rounded up. -/
def lineBlocks (fmt width line : Nat) : Nat := (lineComponents fmt width line * hwDepth fmt + 63) / 64

/-- The components of a line, least significant bit first. -/
def readComponents (fmt width line : Nat) (data : List Byte) : List Nat :=
  let d := hwDepth fmt
  let x := ofLe data
  (List.range (lineComponents fmt width line)).map (fun i => bitsAt x (i * d) d)

/-- plane, format, width and line agree with the HWL_PLANEp in force, and the block count with the format. -/
def LinePacket.fits (k : LinePacket) (planes : List Nat) : Bool :=
  let w := planes.getD k.plane 0
  decide (k.plane ≤ 1 ∧ planeWidth w ≠ 0 ∧ k.format = planeFormat w ∧ bitsAt k.format 2 2 ≠ 3 ∧ k.width = planeWidth w ∧
    k.line < planeHeight w ∧ k.dataBlocks = lineBlocks k.format k.width k.line)

/-- The deadline of a line of the frame that is receiving lines has passed (R221), or the line has been patched. A frame that
still waits for its composition frame has no deadline yet (R575). -/
def deadlinePassed (s : State) (f : HwFrame) (p line : Nat) : Bool :=
  f.isPatched p line ||
  (!s.comp.h1Waiting && (match s.comp.cur with
   | some c => c.own.isSome || (let y := line + (viewOf s).planeY p
       decide (y < c.next ∧ y < panelH s ∨ panelH s ≤ y ∧ c.latched = true))
   | none => true))

/-- The lane has brought a packet of a line. -/
def brought (lane p line : Nat) (f : HwFrame) : HwFrame :=
  { f with lastOn := (lane, p, line) :: f.lastOn.filter (fun e => !decide (e.1 = lane ∧ e.2.1 = p)) }

/-- The line is accepted (R212, R218). -/
def acceptLine (lane : Nat) (k : LinePacket) (f : HwFrame) (s : State) : State :=
  let s := if inSet f.mask lane && decide (f.laneFor k.plane k.line = lane) then s else setFlag Flag.HWL_stripe_err s
  let lines := tabSet (fun _ => []) f.lines (HwFrame.key k.plane k.line) (readComponents k.format k.width k.line k.data)
  { s with hwl := { s.hwl with frame := some { f with lines := lines } } }
    |> bumpWrap Reg.HWL_LINES_RX 1 |> countEvent 0x20 0x10 1 |> monitorAdd 7 k.data.length |> followResume

/-- A discarded packet of a line: its flag, and cause 1 for a CRC failure or 3 for another (R218, R229). -/
def discardLine (k : LinePacket) (fl : Flag) (cause : Nat) (s : State) : State :=
  s |> setFlag fl |> noteFailure k.plane k.line cause

/-- A packet whose form is complete (R218): the checks in their order. -/
def checkPacket (lane : Nat) (k : LinePacket) (s : State) : State :=
  if !k.fits s.hwl.planes then discardLine k Flag.HWL_fmt_err 3 s
  else if !(hwView s).enabled (16 + k.plane) then setFlag Flag.HWL_plane_off s
  else
    match s.hwl.frame.filter (fun f => f.open_) with
    | none => setFlag Flag.HWL_pkt_err s
    | some f =>
      let f := brought lane k.plane k.line f
      let s := { s with hwl := { s.hwl with frame := some f } }
      if k.frameLo ≠ f.lo then discardLine k Flag.HWL_pkt_err 3 s
      else if deadlinePassed s f k.plane k.line then setFlag Flag.HWL_pkt_err s
      else if crc32c (k.startBytes ++ k.data) ≠ k.crc then discardLine k Flag.HWL_crc_err 1 s
      else if f.has k.plane k.line then setFlag Flag.HWL_dup s
      else acceptLine lane k f s

/-- LINE_END (R214): the open packet ends; with another count of data blocks than it says, it is abandoned. A LINE_END outside
a packet sets pkt_err, as a packet that is not complete. -/
def endPacket (lane : Nat) (en : List Byte) (s : State) : State :=
  match (laneOf s 0 lane).packet with
  | none => setFlag Flag.HWL_pkt_err s
  | some (st, data) =>
    if data.length ≠ 8 * leAt en 4 2 then abandonPacket lane 3 s
    else setLane 0 lane { laneOf s 0 lane with packet := none } s |> checkPacket lane (packetOf st data en)

/-- A data block joins the open packet; outside one it is discarded with pkt_err (R214). It ends a freeze (R194, R195). -/
def dataBlock (lane : Nat) (p : BitVec 64) (s : State) : State :=
  let s := notIdle lane s |> dataArrives lane
  match (laneOf s 0 lane).packet with
  | some (st, data) => setLane 0 lane { laneOf s 0 lane with packet := some (st, data ++ payloadBytes p) } s
  | none => setFlag Flag.HWL_pkt_err s

/-- The control block types of R213. -/
def knownType (k : Nat) : Bool := [0x1E, 0x2D, 0x33, 0x4B, 0x55, 0x66, 0x78, 0x87].contains k

/-- A block that is not the one its command stands for: the device takes what the descrambler gives (R213, R214). -/
def otherBlock (lane : Nat) (b : BitVec 66) (s : State) : State :=
  if !hwlReceives s lane then hearBlock lane b s
  else
    match takeBlock lane b s with
    | (.data p, t) => dataBlock lane p t
    | (.control k _, t) => if knownType k then controlBlock lane t else controlBlock lane t |> setFlag Flag.HWL_pkt_err
    | (.invalid, _) => (takeBlock lane b (controlBlock lane s)).2

/-- One block of a line packet. -/
def lineBlock (lane : Nat) (s : State) (b : BitVec 66) : State :=
  if !hwlReceives s lane then hearBlock lane b s
  else
    match takeBlock lane b s with
    | (.data p, t) => dataBlock lane p t
    | (.control 0x78 p, t) =>
      let t := controlBlock lane t
      setLane 0 lane { laneOf t 0 lane with packet := some ((payloadBytes p).drop 1, []) } t
    | (.control 0x87 p, t) => notIdle lane t |> endPacket lane ((payloadBytes p).drop 1)
    | _ => otherBlock lane b s

/-- HWL_LINE_PACKET (R213 to R218): LINE_START, data blocks and LINE_END arrive one after another on a lane. -/
def execHwlLinePacket (lane : Nat) (blocks : List (BitVec 66)) (s : State) : Host.Outcome State Fault Refusal :=
  .next (blocks.foldl (lineBlock lane) s)

/-- HWL_UNKNOWN_BLOCK (R213, R214): a control block of another type, or a data block outside a packet. -/
def execHwlUnknownBlock (lane : Nat) (block : BitVec 66) (s : State) : Host.Outcome State Fault Refusal :=
  .next (otherBlock lane block s)

/-- A control block of a type arrives on an ACTIVE lane and acts; one that the descrambler reads as another kind does what that
kind does to the packet and the flags. -/
def onControl (lane kind : Nat) (b : BitVec 66) (act : BitVec 64 → State → State) (s : State) : State :=
  if !hwlReceives s lane then hearBlock lane b s
  else
    match takeBlock lane b s with
    | (.control k p, t) => if k = kind then act p (controlBlock lane t) else otherBlock lane b s
    | _ => otherBlock lane b s

/-- HWL_TRAIN_BLOCK (R226): on an ACTIVE lane it is discarded and resets the idle count; in training it is used by
the receiver, and the count of idle blocks returns to 0 as for every block that is not IDLE. -/
def execHwlTrainBlock (b : LaneBlock) (s : State) : Host.Outcome State Fault Refusal :=
  match takeBlock b.lane b.block s with
  | (.control 0x2D _, t) => if b.lane < 32 then .next (controlBlock b.lane t) else .next s
  | _ => .next (otherBlock b.lane b.block s)

/-! ### Frames (R219 to R222, R575) -/

/-- HWL_WAKE (R231): sleeping clears and silence detection starts. -/
def wakeSource (s : State) : State :=
  let s := if rdB s Reg.HWL_STAT Fld.HWL_STAT_sleeping then
      s |> wrF Reg.HWL_STAT Fld.HWL_STAT_sleeping 0 |> postEvent .device 0x0BF7 0x20 0 0 else s
  { s with hwl := { s.hwl with checking := true, awaitActive := false } }

/-- The Headwater frame that a FRAME_START opens, with the set-up in force from it on. -/
def newHwFrame (s : State) (lo : Nat) : HwFrame :=
  let mask := hwlMask s
  { lo := lo, mask := mask, planes := [(rd s Reg.HWL_PLANE0).toNat, (rd s Reg.HWL_PLANE1).toNat],
    rot := [rdF s Reg.HWL_ROT Fld.HWL_ROT_rot0, rdF s Reg.HWL_ROT Fld.HWL_ROT_rot1],
    lead := max 8 (rdF s Reg.HWL_TIMING Fld.HWL_TIMING_lead),
    marks := ((lanesOf mask).filter (fun a => (laneOf s 0 a).lost)).map (fun a => { lane := a }) }

/-- A write of HWL_ROT acts on the open frame at once (R135, R211). -/
def followRot (s : State) : State :=
  { s with hwl := { s.hwl with frame := s.hwl.frame.map (fun f => if f.open_ then
      { f with rot := [rdF s Reg.HWL_ROT Fld.HWL_ROT_rot0, rdF s Reg.HWL_ROT Fld.HWL_ROT_rot1] } else f) } }

/-- The Headwater frame that was receiving lines ends (R222): in a frame of its own the composition frame ends with
it; one that supplies H1 alone keeps the lines composition still reads, or waits on for its composition frame (R575). -/
def endHwFrame (s : State) : State :=
  let s := match s.comp.cur with
    | some c =>
      if c.fromHwl then endFrame s
      else
        let s := patchReceiving s
        if readsOpen s ∧ s.hwl.frame.isSome then
          { s with comp := { s.comp with cur := s.comp.cur.map (fun c => { c with own := s.hwl.frame }) } } else s
    | none => patchReceiving s
  closeFrame s

/-- frame_lo of a FRAME_START is not the previous value plus 1 (R219). -/
def checkSequence (lo : Nat) (s : State) : State :=
  let want := (rdF s Reg.HWL_STAT Fld.HWL_STAT_frame_lo + 1) % 256
  if s.hwl.started ∧ lo ≠ want then
    s |> setFlag Flag.HWL_frame_seq |> postEvent .device 0x0BF8 0x20 1 (dataAt 24 want ||| dataAt 25 lo)
  else s

/-- The Headwater frame that has ended and still waits for its composition frame joins those that wait (R575). -/
def keepWaiting (s : State) : State :=
  if s.comp.h1Waiting then
    { s with comp := { s.comp with h1Waiting := false, waiting := s.comp.waiting ++ s.hwl.frame.toList } } else s

/-- A FRAME_START on a lane opens a frame. -/
def openFrame (lane lo mask : Nat) (s : State) : State :=
  let s := checkSequence lo s
  let s := if mask = hwlMask s then s else setFlag Flag.HWL_stripe_err s
  let s := wrF Reg.HWL_STAT Fld.HWL_STAT_frame_lo lo s
  let s := (if planeOn s 0 then applyWaiting s else s) |> endHwFrame |> keepWaiting
  let quiet := rdB s Reg.HWL_STAT Fld.HWL_STAT_silent || rdB s Reg.HWL_STAT Fld.HWL_STAT_frozen
  let s := if quiet then postEvent .device 0x05F4 0x20 0 (dataAt 24 (rdF s Reg.HWL_STAT Fld.HWL_STAT_missing)) s else s
  let f := { newHwFrame s lo with starts := [lane] }
  let missed := if quiet then s.hwl.missed else 0
  let s := { s with hwl := { s.hwl with frame := some f, planes := f.planes, started := true, missed := missed } }
  let s := setFrameOpen true s |> recheckRects
  let s := if planeOn s 0 then startFrame true none 0 { s with comp := { s.comp with waiting := [] } }
    else if planeOn s 1 then { s with comp := { s.comp with h1Waiting := true } } else s
  let holds := rdB s Reg.HWL_STAT Fld.HWL_STAT_holding || s.hold.due
  let s := if quiet then { s with hwl := { s.hwl with resuming := true } } else s
  let s := if quiet && holds then { s with hwl := { s.hwl with endHoldAt := some s.cfn } } else s
  followResume s

/-- A FRAME_START of the open frame on another lane of its active set (R219). -/
def joinsFrame (s : State) (lane lo : Nat) : Bool :=
  s.hwl.frame.any (fun f => f.open_ && decide (f.lo = lo) && inSet f.mask lane && !f.starts.contains lane)

/-- FRAME_START acts (R219, R231): on another lane of the open frame it is absorbed within 4 µs of the frame's first, and a
later one is ignored and sets stripe_err; otherwise, on a lane of the active set, it opens a frame. -/
def frameStarts (lane lo mask : Nat) (late : Bool) (s : State) : State :=
  if joinsFrame s lane lo then
    let s := wakeSource s
    let s := { s with hwl := { s.hwl with frame := s.hwl.frame.map (fun f => { f with starts := lane :: f.starts }) } }
    if late then setFlag Flag.HWL_stripe_err s else s
  else if inSet (hwlMask s) lane then openFrame lane lo mask (wakeSource (idleTrigger s))
  else s

/-- FRAME_START (R213, R219). late: more than 4 µs after the frame's first. -/
def execFrameStart (lane header : Nat) (low high : BitVec 32) (late : Bool) (s : State) : Host.Outcome State Fault Refusal :=
  .next (onControl lane 0x33 (wireOf header low high) (fun p => frameStarts lane (payloadByte p 2) (bitsAt p.toNat 32 32) late) s)

/-- FRAME_END of the open frame counts for its lane; when every active lane has sent one, the missing lines are patched at
once. Any other sets pkt_err (R222). -/
def frameEnds (lane lo : Nat) (s : State) : State :=
  match s.hwl.frame.filter (fun f => f.open_ && decide (f.lo = lo)) with
  | none => setFlag Flag.HWL_pkt_err s
  | some f =>
    let f := { f with ended := if f.ended.contains lane then f.ended else lane :: f.ended }
    let s := { s with hwl := { s.hwl with frame := some f } }
    if (lanesOf f.mask).all (fun a => f.ended.contains a) then s |> patchReceiving |> closeFrame |> followResume else s

/-- FRAME_END (R213, R222). -/
def execFrameEnd (lane header : Nat) (low high : BitVec 32) (s : State) : Host.Outcome State Fault Refusal :=
  .next (onControl lane 0x4B (wireOf header low high) (fun p => frameEnds lane (payloadByte p 2)) s)

/-- LINE_DEADLINE (R221): composition line y + y_p is about to start, or the latch instant of a line beyond the active
height has come, and the line is still missing. -/
def execLineDeadline (plane line : Nat) (s : State) : Host.Outcome State Fault Refusal :=
  match s.comp.cur with
  | none => .next s
  | some c =>
    let y := line + (viewOf s).planeY plane
    let due := (y < panelH s ∧ y ≤ c.next) ∨ (panelH s ≤ y ∧ (c.latched = true ∨ c.latchLine < c.next))
    if plane ≤ 1 ∧ line ∈ linesOf s plane ∧ due then .next (patchLine plane 2 s line |> followResume) else .next s

/-! ### Sleep, silence, freeze and hold (R230 to R234) -/

/-- Buffered mode is due at the next scan frame start, with its cause (R26). -/
def toBuffered (cause : Nat) (s : State) : State :=
  if rdB s Reg.RAST_STAT Fld.RAST_STAT_timeline then
    { s with raster := { s.raster with toBuffered := some cause } } else s

/-- The source sleeps (R230): the first SLEEP completes the frame, sets sleeping and asks for buffered mode. -/
def sourceSleeps (s : State) : State :=
  if rdB s Reg.HWL_STAT Fld.HWL_STAT_sleeping then s
  else
    let s := endHwFrame s |> wrF Reg.HWL_STAT Fld.HWL_STAT_sleeping 1
      |> postEvent .device 0x0BF6 0x20 0 (dataAt 24 (rdF s Reg.HWL_STAT Fld.HWL_STAT_frame_lo)) |> toBuffered 2
    { s with hwl := { s.hwl with checking := false, awaitActive := false } }

/-- HWL_SLEEP_BLOCK (R213, R230). -/
def execHwlSleepBlock (b : LaneBlock) (s : State) : Host.Outcome State Fault Refusal :=
  .next (onControl b.lane 0x55 b.block (fun _ => sourceSleeps) s)

/-- HWL_WAKE_BLOCK (R213, R231): WAKE is an IDLE trigger, and ends the source's sleep. -/
def execHwlWakeBlock (b : LaneBlock) (s : State) : Host.Outcome State Fault Refusal :=
  .next (onControl b.lane 0x66 b.block (fun _ s =>
    let s := idleTrigger s
    if rdB s Reg.HWL_STAT Fld.HWL_STAT_sleeping then wakeSource s else s) s)

/-- HWL_HOLD_TIMEOUT as it acts. -/
def holdTimeout (s : State) : Nat :=
  min 600 (max 1 (rdF s Reg.HWL_HOLD_TIMEOUT Fld.HWL_HOLD_TIMEOUT_frames))

/-- missing has reached HWL_HOLD_TIMEOUT: the device freezes (R233). -/
def freezeIfDue (s : State) : State :=
  if rdB s Reg.HWL_STAT Fld.HWL_STAT_silent ∧ ¬ rdB s Reg.HWL_STAT Fld.HWL_STAT_frozen ∧ holdTimeout s ≤ s.hwl.missed then
    s |> wrF Reg.HWL_STAT Fld.HWL_STAT_frozen 1
      |> postEvent .device 0x05F3 0x20 1 (dataAt 24 (rdF s Reg.HWL_STAT Fld.HWL_STAT_missing))
  else s

/-- SILENCE_CHECK (R232): no FRAME_START since the last check. -/
def execSilenceCheck (s : State) : Host.Outcome State Fault Refusal :=
  if !(planeOn s 0 && s.hwl.checking) || rdB s Reg.HWL_STAT Fld.HWL_STAT_sleeping then .next s
  else
    let s := { s with hwl := { s.hwl with missed := s.hwl.missed + 1 } }
      |> bumpSat Reg.HWL_STAT Fld.HWL_STAT_missing 1
    let s := if rdB s Reg.HWL_STAT Fld.HWL_STAT_silent then s
      else
        s |> wrF Reg.HWL_STAT Fld.HWL_STAT_silent 1 |> endHwFrame
          |> postEvent .device 0x05F2 0x20 1 (dataAt 24 (rdF s Reg.HWL_STAT Fld.HWL_STAT_frame_lo)) |> toBuffered 2
    .next (freezeIfDue s)

/-- FREEZE (R233). -/
def execFreeze (s : State) : Host.Outcome State Fault Refusal := .next (freezeIfDue s)

/-- The item is in the hold cache. -/
def itemResident (s : State) (item : Nat) : Bool := (tabGet (fun _ => none) s.hold.items item).isSome

/-- FREEZE_TIMEOUT (R233): the policy item plays from the next scan frame start, or its absence is reported. -/
def execFreezeTimeout (s : State) : Host.Outcome State Fault Refusal :=
  let item := rdF s Reg.HWL_HOLD_ITEM Fld.HWL_HOLD_ITEM_item
  if ¬ rdB s Reg.HWL_STAT Fld.HWL_STAT_frozen ∨ rdB s Reg.HWL_STAT Fld.HWL_STAT_holding ∨ s.hold.due = true ∨
      rdF s Reg.HWL_FREEZE_TIMEOUT Fld.HWL_FREEZE_TIMEOUT_ms = 0 ∨ item = 0 then .next s
  else if itemResident s item then .next { s with hold := { s.hold with due := true } }
  else .next (postEvent .device 0x05F5 0x20 2 (dataAt 24 item) s)

end Sys2Proof.Machine
end

