-- ==== Sys2Proof/Machine/Layers.lean ====
section
/-! DEFINITION. Commands of the compositor: groupable opcodes reaching it (R132, R151, R153 to R155, R159), layer fetches
(R286 to R292), the composition timeline (R254 to R256, R575) and the latch instant (R255). -/

namespace Sys2Proof.Machine

/-! ### Groupable opcodes -/

/-- SET_BACKGROUND (R151). -/
def execSetBackground (port sq seq : Nat) (s : State) : Host.Outcome State Fault Refusal :=
  withReady port sq seq 0x0104 arrive s

/-- LAYER_CONFIG (R153, R281): eotf 4 needs the layer's custom table to be active. -/
def execLayerConfig (port sq seq : Nat) (s : State) : Host.Outcome State Fault Refusal :=
  withReady port sq seq 0x0201 (fun d s =>
    let id := 0x02F00000 + d.u8 16
    if d.u8 29 = 4 ∧ activeTable s id = none then failMember d .refused 0x30 s
    else arrive d s) s

/-- LAYER_FLIP (R154, R155, R275). -/
def execLayerFlip (port sq seq : Nat) (s : State) : Host.Outcome State Fault Refusal :=
  withReady port sq seq 0x0202 flipReaches s

/-- LAYER_ENABLE (R154): enabling a layer never configured is not ready. -/
def execLayerEnable (port sq seq : Nat) (s : State) : Host.Outcome State Fault Refusal :=
  withReady port sq seq 0x0203 (fun d s =>
    if d.u8 17 = 1 ∧ ¬ (viewNow s).configured (d.u8 16) ∧ pendingConfig s (d.u8 16) (memberCfn s d) = none then
      failMember d .notReady 0 s
    else arrive d s) s

/-- LAYER_MATRIX (R153). -/
def execLayerMatrix (port sq seq : Nat) (s : State) : Host.Outcome State Fault Refusal :=
  withReady port sq seq 0x0204 arrive s

/-- TABLE_ACTIVATE_C (R159): without a staged version it is refused. -/
def execTableActivateC (port sq seq : Nat) (s : State) : Host.Outcome State Fault Refusal :=
  withReady port sq seq 0x0302 (fun d s =>
    if stagedTable s (d.u32 16) = none then failMember d .refused 0x31 s else arrive d s) s

/-! ### Layer fetches (R286 to R291) -/

/-- Plane lines as a table keyed 16,384 × plane + line. -/
def planeTab (data : List (Nat × List Byte)) : Tab (List Byte) :=
  data.foldl (fun t e => tabSet (fun _ => []) t e.1 e.2) []

/-- No other SNAPSHOT fetch of a port that still runs reached the compositor before this layer's (R286). -/
def fetchTurn (s : State) (port n : Nat) : Bool :=
  layerNumbers.all (fun m => match (layerOf s m).fetching with
    | some (p, q, i) => decide (p ≠ port ∨ (layerOf s n).fetchNo ≤ (layerOf s m).fetchNo) ||
        !(dscOf s p q i).any (fun d => decide (d.phase = .running))
    | none => true)

/-- SNAPSHOT_FETCH_DONE (R286, R287): the flip has arrived with its plane lines, or its read failed. The fetches of a port
run in order of arrival. -/
def execSnapshotFetchDone (port sq seq : Nat) (data : Option (List (Nat × List Byte))) (s : State) :
    Host.Outcome State Fault Refusal :=
  match dscOf s port sq seq with
  | none => .next s
  | some d =>
    let n := d.u8 16
    let l := layerOf s n
    if l.fetching ≠ some (port, sq, seq) ∨ d.phase ≠ .running ∨ fetchTurn s port n = false then .next s
    else
      match data with
      | some ls =>
        .next (setLayer n { l with fetched := planeTab ls } s
          |> monitorAdd port (ls.foldl (fun a e => a + e.2.length) 0) |> arrive d)
      | none =>
        .next (setLayer n { l with fetching := none } s |> freeTag .layer (layerTag n true)
          |> setFlag Flag.COMP_fetch_fault
          |> postEvent (.resource (hostOf s 1 n)) 0x02F0 0x30 2 (dataAt 24 n ||| dataAt 28 d.tag)
          |> leaveGroup d .fetchFault 0)

/-- The members that will apply to the next frame: none once the frame in progress has latched. -/
def nextMembers (s : State) : List Dsc :=
  if s.comp.cur.any (fun c => c.latched) then [] else (dueGroups s (s.cfn + 1)).flatMap (membersOf s)

/-- The flip of layer n that a run-ahead read for the next frame uses (R288). -/
def aheadFlip (s : State) (n : Nat) : Option (Nat × Nat × Nat) :=
  match ((nextMembers s).filter (fun d => decide (d.opcode = 0x0202 ∧ d.u8 16 = n))).getLast? with
  | some d => some (d.port, d.sq, d.seq)
  | none => (layerOf s n).current.map (fun f => (f.port, f.sq, f.seq))

/-- The view of a layer's settings in the next frame. -/
def aheadView (s : State) (n : Nat) : CView :=
  viewNow (((nextMembers s).filter (fun d => decide (d.opcode = 0x0201 ∧ d.u8 16 = n))).foldl (applySettings (s.cfn + 1)) s)

/-- The lower of a fault line already seen and a new one. -/
def minLine (a : Option Nat) (b : Nat) : Option Nat :=
  match a with
  | some x => some (min x b)
  | none => some b

/-- First layer line that needs a plane line: of a 4:2:0 chroma row, the first line its vertical filter reaches. -/
def servedLine (v : CView) (n plane line : Nat) : Nat :=
  (((List.range 12).map (fun i => 2 * line + i - 8)).find? (fun ly =>
    decide (plane ≠ 0) && (neededLines v n ly).contains (plane, line))).getD line

/-- A read of a layer line lies at most 256 composition lines before the line that needs it (R288); ahead: the lines to the
next frame's line 0. -/
def readDue (s : State) (v : CView) (n ly ahead : Nat) : Bool :=
  match s.comp.cur with
  | some c => decide (ly + v.field (Reg.COMP_Ln_POS n) Fld.COMP_Ln_POS_y + ahead ≤ c.next + 255)
  | none => true

/-- LIVE_FETCH_DONE (R288, R291): a plane line of the frame in progress, or of the next one, has been read. -/
def execLiveFetchDone (layer plane line : Nat) (forNext : Bool) (bytes : Option (List Byte)) (s : State) :
    Host.Outcome State Fault Refusal :=
  let l := layerOf s layer
  let key := 16384 * plane + line
  let v := if forNext then aheadView s layer else viewOf s
  let port := hostOf s 1 layer
  let ly := servedLine v layer plane line
  let ahead := if forNext then rdF s Reg.RAST_GEOM Fld.RAST_GEOM_vtotal else 0
  if 16 ≤ layer ∨ 3 ≤ plane ∨ v.kind layer ≠ 2 ∨ readDue s v layer ly ahead = false then .next s
  else if forNext then
    match aheadFlip s layer with
    | none => .next s
    | some id =>
      let l := if l.aheadOf = some id then l else { l with ahead := [], aheadOf := some id, aheadFault := none }
      match bytes with
      | some bs => .next (setLayer layer { l with ahead := tabSet (fun _ => []) l.ahead key bs } s
          |> countEvent 0x30 0x11 1 |> monitorAdd port bs.length)
      | none => .next (setLayer layer { l with aheadFault := minLine l.aheadFault ly } s)
  else
    let l := frameLayer s layer
    match l.current, s.comp.cur with
    | some f, some _ =>
      match bytes with
      | some bs => .next (setFrameLayer layer { l with lines := tabSet (fun _ => []) l.lines key bs } s
          |> countEvent 0x30 0x11 1 |> monitorAdd port bs.length)
      | none => .next (setFrameLayer layer { l with faultFrom := minLine l.faultFrom ly, faultFlip := some f } s)
    | _, _ => .next s

/-! ### Composition lines (R254, R256, R272, R292) -/

/-- Layer n underruns on composition line y: a plane line it needs has not wholly arrived (R292). -/
def underruns (s : State) (n y : Nat) : Bool :=
  let v := viewOf s
  decide (n < 16 ∧ v.kind n = 2) && v.takesPart n && coversLine none v n y (panelW s) && !showsFallback v n y [] &&
    (neededLines v n (y - v.field (Reg.COMP_Ln_POS n) Fld.COMP_Ln_POS_y)).any (fun e =>
      decide (tabGet (fun _ => ([] : List Byte)) (v.layer n).lines (16384 * e.1 + e.2) = []))

/-- Layers that underrun on line y show their fallback colour on it and are counted. -/
def judgeUnderruns (y : Nat) (s : State) : State :=
  (List.range 16).foldl (fun s n =>
    if underruns s n y then
      let s := setFrameLayer n { frameLayer s n with under := y :: (frameLayer s n).under } s
      s |> setFlag Flag.COMP_underrun |> countEvent 0x30 0x12 1
    else s) s

/-- The minimum LAG of the cell mode in force (R22, R23, R263). -/
def minLag (s : State) : Nat :=
  match s.raster.panel with
  | some p => if p.cells = 1 then 24 else 48 + rdF s Reg.RAST_LAG Fld.RAST_LAG_rear_lead
  | none => 48 + rdF s Reg.RAST_LAG Fld.RAST_LAG_rear_lead

/-- TIMELINE_MODE (R268). -/
def timelineEvent (mode cause d : Nat) (s : State) : State :=
  postEvent .device 0x0CF7 0x70 (if cause = 1 ∨ cause = 2 then 1 else 0)
    (dataAt 24 mode ||| dataAt 25 cause ||| dataAt 28 (min 65535 d)) s

/-- Locked-through mode is in force. -/
def lockedThrough (s : State) : Bool := rdB s Reg.RAST_STAT Fld.RAST_STAT_timeline

/-- Composition line y is composed, or copied when a plane line on it is patched. -/
def runLine (y : Nat) (s : State) : State :=
  let s := [0, 1].foldl (fun s p =>
    let y0 := (viewOf s).planeY p
    if y0 ≤ y ∧ (y - y0) ∈ linesOf s p then patchLine p 2 s (y - y0) else s) s
  let s := judgeUnderruns y s
  let out := planesPatched s y
  let s := if out = [] then putLine y false (composeLine s y []) { s with fresh := s.fresh + 2 ^ 30 }
    else patchedLine out y s
  countLine s

/-- A Headwater frame with no lines: H1 of a composition frame that none supplies (R575). Its planes are those in force. -/
def noSupply (s : State) : HwFrame :=
  { newHwFrame s 0 with marks := [], planes := s.hwl.planes, open_ := false, supplied := false }

/-- The i-th Headwater frame that waits has had its lead: its distance is at least its lead, in composition lines from its
FRAME_START to line 0 of the frame about to start (R575). -/
def hadLead (distances : List Nat) (e : HwFrame × Nat) : Bool := decide (e.1.lead ≤ distances.getD e.2 0)

/-- The frame that composition reads H1 from: one that has ended, the one being received (none), or no lines at all. Of
several frames that have had their lead the newest supplies it, and each of them leaves; the others go on waiting. -/
def supplyH1 (distances : List Nat) (s : State) : Option HwFrame × State :=
  let ended := s.comp.waiting.zipIdx
  let open_ := s.comp.h1Waiting && s.hwl.frame.any (fun f => hadLead distances (f, ended.length))
  let s' := { s with comp := { s.comp with waiting := (ended.filter (fun e => !hadLead distances e)).map (·.1),
                                           h1Waiting := s.comp.h1Waiting && !open_ } }
  if open_ then (none, s')
  else match (ended.filter (hadLead distances)).getLast? with
    | some e => (some e.1, s')
    | none => (some (noSupply s), s')

/-- COMPOSITION_FRAME_START (R254, R575): the composition timer starts a frame while H0 is disabled and the raster
runs and CK_COMP with it (R509). distances: composition lines from the FRAME_START of each Headwater frame that waits to the frame's line 0, oldest
first. -/
def execCompositionFrameStart (distances : List Nat) (s : State) : Host.Outcome State Fault Refusal :=
  if planeOn s 0 || !compClocked s || !(decide (s.raster.phase = .training ∨ s.raster.phase = .running)) then .next s
  else
    let s := endFrame (applyWaiting s)
    let r := supplyH1 distances s
    .next (startFrame false r.1 s.raster.timerLag r.2)

/-- LATCH_INSTANT (R255): composition line V_LATCH of the frame in progress has started. -/
def execLatchInstant (s : State) : Host.Outcome State Fault Refusal :=
  match s.comp.cur with
  | some c => if c.latchLine < c.next then .next (latch s) else .next s
  | none => .next s

end Sys2Proof.Machine
end

