-- ==== Sys2Proof/Machine/Timing.lean ====
section
/-! DEFINITION. Raster geometry and windows (R243, R244, R353 to R356), the reference inputs and the loop (R239 to
R251), time of day (R241, R242), frame numbers and timestamps (R259, R260), and the captured reads of R270. -/

namespace Sys2Proof.Machine

/-! ### Geometry (R243, R244) -/

/-- F65: the frame period in 1/65,536 ticks, halves upward; 0 before the first SET_PANEL. -/
def framePeriod (p : Panel) : Nat := (2 * 1200000000 * 65536 * p.rateDen + p.rateNum) / (2 * p.rateNum)

def frame65 (s : State) : Nat := (s.raster.panel.map framePeriod).getD 0

def vtotal (s : State) : Nat := rdF s Reg.RAST_GEOM Fld.RAST_GEOM_vtotal
def rearLead (s : State) : Nat := rdF s Reg.RAST_LAG Fld.RAST_LAG_rear_lead
def lagNow (s : State) : Nat := rdF s Reg.RAST_LAG Fld.RAST_LAG_lag

/-- L: the line period in 1/65,536 ticks. -/
def line65 (s : State) : Nat := frame65 s / vtotal s

/-- RAST_LINE, RAST_FRAME and RAST_VADJ follow the geometry. -/
def followGeometry (s : State) : State :=
  let f := frame65 s
  let l := line65 s
  s |> wrF Reg.RAST_LINE Fld.RAST_LINE_htotal (l / 65536) |> wrF Reg.RAST_LINE Fld.RAST_LINE_hfrac (l % 65536)
    |> wr Reg.RAST_FRAME (BitVec.ofNat 32 (f / 65536))
    |> wrF Reg.RAST_VADJ Fld.RAST_VADJ_residual (f - vtotal s * l)
    |> wrF Reg.RAST_VADJ Fld.RAST_VADJ_frame_frac (f % 65536)

/-- Length of the scan frame that runs, in 1/65,536 ticks, and its lines: an irregular frame holds as many whole line
periods as fit, and its last line carries the rest, as R244 adds the residual. -/
def frameLen65 (s : State) : Nat := if s.raster.irregular then s.raster.irregularLen else frame65 s
def linesNow (s : State) : Nat := if s.raster.irregular then s.raster.irregularLen / line65 s else vtotal s

/-- The VTOTAL that SET_PANEL sets: height × 55 / 54, rounded up to an even number. -/
def panelVtotal (h : Nat) : Nat := 2 * ((h * 55 + 107) / 108)

/-- Nanoseconds of a time in 1/65,536 ticks, rounded down: a tick is 5/6 ns. -/
def nsOf (t : Int) : Int := t * 5 / 393216

/-- Times in 1/65,536 ticks of nanoseconds. -/
def ticksOf (ns : Int) : Int := ns * 393216 / 5

/-- The raster is enabled (R270): from the start of the enable sequence to the start of the reverse one. -/
def rasterOn (s : State) : Bool := rdB s Reg.RAST_CTRL Fld.RAST_CTRL_enable

/-- The raster is enabled or a sequence of it runs. -/
def rasterBusy (s : State) : Bool := decide (s.raster.phase ≠ .off)

/-- Scan frames run. -/
def scanning (s : State) : Bool :=
  decide (s.raster.phase = .running ∨ s.raster.phase = .toBlack ∨ s.raster.phase = .black)

/-! ### Chains, halos and windows (R350 to R356) -/

def bindOf (s : State) (cell stage : Nat) : Bind := tabGet (fun _ => {}) s.tables.binds (8 * cell + stage)

def kernelOf (s : State) (h : Nat) : Option Kernel := tabGet (fun _ => none) s.tables.kernels h

/-- The cell used by SET_PANEL's cell mode. -/
def cellsNow (s : State) : List Nat := (s.raster.panel.map (·.cellsUsed)).getD [0, 1]

/-- Section bytes of the filter table in force; empty for the firmware's default. -/
def filterNow (s : State) : List Byte := (activeTable s 0x12F00000).getD []

/-- Vertical and horizontal halo of the reference kernel of a stage under a filter table. -/
def refHalo (filter : List Byte) (cell stage : Nat) : Nat × Nat :=
  if stage = 1 then splitHalo filter (decide (cell = 1)) else if stage = 4 then (1, 1) else (0, 0)

/-- Vertical and horizontal halo of a stage of a cell under a filter table: that of its bound kernel, or of the
reference kernel (R353). -/
def stageHalo (s : State) (filter : List Byte) (cell stage : Nat) : Nat × Nat :=
  match kernelOf s (bindOf s cell stage).handle with
  | some k => (k.haloV, k.haloH)
  | none => refHalo filter cell stage

/-- Halo of the stages of a chain from a stage on (R353). -/
def haloFrom (s : State) (filter : List Byte) (cell stage : Nat) : Nat × Nat :=
  (([1, 2, 3, 4, 5].filter (fun k => decide (stage ≤ k))).map (stageHalo s filter cell)).foldl
    (fun a b => (a.1 + b.1, a.2 + b.2)) (0, 0)

def guardNow (s : State) : Nat := max 1 (rdF s Reg.ENG_DEADLINE Fld.ENG_DEADLINE_guard)

/-- W_c under a LAG, a rear_lead and a vertical chain halo (R355). -/
def windowOf (s : State) (cell lag lead halo : Nat) : Int :=
  (lag : Int) - 16 - halo - (if cell = 1 then lead else 0) - guardNow s

/-- Every window of a cell in use is at least 1 line under a LAG and a filter table (R356). -/
def windowsOpen (s : State) (lag lead : Nat) (filter : List Byte) : Bool :=
  (cellsNow s).all (fun c => decide (1 ≤ windowOf s c lag lead (haloFrom s filter c 1).1))

/-- W_c as ENG_WINDOW reports it. -/
def windowNow (s : State) (cell : Nat) : Nat :=
  if (cellsNow s).contains cell then (windowOf s cell (lagNow s) (rearLead s) (haloFrom s (filterNow s) cell 1).1).toNat
  else 0

/-! ### Reference period -/

/-- RAST_LOCK.ref_mult: 0 acts as 1, and 9 to 15 as 8 (R270). -/
def refMult (s : State) : Nat := min 8 (max 1 (rdF s Reg.RAST_LOCK Fld.RAST_LOCK_ref_mult))

/-- P_ref in 1/65,536 ticks (R239). -/
def refPeriod (s : State) : Nat := refMult s * frame65 s

def lockMode (s : State) : Nat := rdF s Reg.RAST_LOCK Fld.RAST_LOCK_mode
def lockState (s : State) : Nat := rdF s Reg.RAST_STAT Fld.RAST_STAT_lock_state

def setLock (l : LockState) (s : State) : State := { s with raster := { s.raster with lock := l } }

/-- A pattern of a signed value, for event data. -/
def pat32 (i : Int) : Nat := pattern 32 (clampI (-2147483648) 2147483647 i)

/-! ### Lock states (R246, R259) -/

/-- The house frame offset is set at an entry to LOCKED (R259): t is the time of the edge, and the frame compared is
j frames after the one that runs. -/
def setHouseOffset (j : Int) (s : State) : State :=
  match s.raster.panel with
  | some p =>
    if lockMode s = 3 ∧ rdB s Reg.RAST_STAT Fld.RAST_STAT_tod_valid then
      let num := 2 * (now s).total * p.rateNum + 1000000000 * p.rateDen
      let house := num / (2 * 1000000000 * p.rateDen)
      tick s |> setLock { s.raster.lock with hfnOffset := (house : Int) - (sfn s + j) }
        |> wrF Reg.RAST_STAT Fld.RAST_STAT_hfn_valid 1
    else s
  | none => s

/-- lock_state changes: LOCK_STATE is posted, leaving LOCKED sets unlock and clears hfn_valid, and entering
ACQUIRING asks for a judgement of the phase error. -/
def goLock (new : Nat) (e j : Int) (s : State) : State :=
  let old := lockState s
  if old = new then s
  else
    let s := wrF Reg.RAST_STAT Fld.RAST_STAT_lock_state new s
      |> setLock { s.raster.lock with inside := 0, outside := 0, judge := decide (new = 1) }
      |> postEvent .device 0x0CF2 0x70 (if new = 2 then 0 else 1) (dataAt 24 old ||| dataAt 25 new ||| dataAt 28 (pat32 e))
    let s := if old = 2 then setFlag Flag.RAST_unlock s |> wrF Reg.RAST_STAT Fld.RAST_STAT_hfn_valid 0 else s
    if new = 2 then setHouseOffset j s else s

/-- A phase error judged on entering ACQUIRING makes one crash (R249). -/
def judgeCrash (e : Int) (s : State) : State :=
  let l := s.raster.lock
  if l.judge then
    let crash := if 100000 < e.natAbs ∧ rdB s Reg.RAST_LOCK Fld.RAST_LOCK_crash_lock then some e else l.crash
    setLock { l with judge := false, crash := crash } s
  else s

/-- c in 0.001 ppm (R248, R270). -/
def correction (s : State) : Int := rdI s Reg.RAST_FREQ

/-- RAST_LOCK.bandwidth in force: a value out of 10 to 1,000 acts as the nearest limit (R270). -/
def bandwidth (s : State) : Nat := min 1000 (max 10 (rdF s Reg.RAST_LOCK Fld.RAST_LOCK_bandwidth))

/-- The loop at a compared edge with phase error e: the filter's own arithmetic is not stated, and both clamps of R248 hold
its output. -/
def loopStep (e : Int) (s : State) : State :=
  let c := correction s
  let slew : Int := 50000 * (refPeriod s : Int) * 5 / (393216 * 1000000000)
  let next := clampI (-200000) 200000 (clampI (c - slew) (c + slew) (Config.piFilter e (bandwidth s) s.fresh))
  wr Reg.RAST_FREQ (BitVec.ofInt 32 next) { s with fresh := s.fresh + 1 }

/-- The newest part of a record of corrections that spans a number of nanoseconds. -/
def newestPart : Nat → List (Int × Nat) → List (Int × Nat)
  | _, [] => []
  | d, e :: es => if d ≤ e.2 then [(e.1, d)] else e :: newestPart (d - e.2) es

/-- The correction in force has held for some more nanoseconds; the record keeps one second. -/
def holdCorrection (ns : Nat) (s : State) : State :=
  setLock { s.raster.lock with recent := newestPart 1000000000 ((correction s, ns) :: s.raster.lock.recent) } s

/-- An edge of the input, ns after the one before it: the correction held since then is recorded, but for the part that the
loss of the input recorded. -/
def recordGap (ns : Nat) (s : State) : State :=
  let s := holdCorrection (ns - s.raster.lock.counted) s
  setLock { s.raster.lock with counted := 0 } s

/-- The mean of c over the last second (R246). -/
def meanCorrection (s : State) : Int :=
  (s.raster.lock.recent.foldl (fun (acc : Int) e => acc + e.1 * (e.2 : Int)) 0) / 1000000000

/-- The irregular frame's length in 1/65,536 ticks: lengthened by e, or by P_ref − |e| where a shortening would leave fewer
than 8 blanking lines. -/
def crashLength (s : State) (e : Int) : Int :=
  let f : Int := frame65 s
  let len := f + ticksOf e
  if e < 0 ∧ len < ((panelH s + 8) * line65 s : Nat) then f + (refPeriod s : Int) - ticksOf (-e) else len

/-- Start of the scan frame j frames after the one that runs, in 1/65,536 ticks from the start of that one: the frame that runs,
the one before it, and one with a pending crash have lengths of their own. -/
def frameStart65 (s : State) (j : Int) : Int :=
  let f : Int := frame65 s
  let next := (s.raster.lock.crash.map (crashLength s)).getD f
  if j < 0 then (j + 1) * f - s.raster.lastLen
  else if j = 0 then 0
  else if j = 1 then frameLen65 s
  else frameLen65 s + next + (j - 2) * f

/-- Of two compared frames, error in 1/393,216 ns and place, the nearer to the edge; of two equally near the first. -/
def nearer (a b : Int × Int) : Int × Int := if b.1.natAbs < a.1.natAbs then b else a

/-- Phase error in ns at an edge that falls `since` ns after the start of the scan frame that runs, and how many
frames after that one the compared frame lies (R247): the nearest of the frames since the enable, of two equally near the
earlier. The edge with its offset lies fewer than 16 frames from the start of the one that runs. -/
def phaseError (s : State) (since : Nat) : Int × Int :=
  let p := if rdB s Reg.RAST_LOCK Fld.RAST_LOCK_phase_ref then 0 else s.raster.photon
  let x := (p - since - rdI s Reg.RAST_PHASE_OFFSET) * 393216
  let before : Nat := min 16 (sfn s - s.pipe.firstFrame)
  let frames := (List.range (before + 17)).map (fun k =>
    let j : Int := (k : Int) - before
    (x + 5 * frameStart65 s j, j))
  let e := frames.foldl nearer (frames.headD (x, 0))
  (e.1 / 393216, e.2)

/-- The phase error of a compared frame is reported (R247, R253, R261); that of a frame still to start is kept for its history
entry. -/
def reportPhase (e j : Int) (s : State) : State :=
  let k := (sfn s : Int) + j
  let s := wr Reg.PHOTON_PHASE (BitVec.ofInt 32 e) s |> wrF Reg.RAST_STAT Fld.RAST_STAT_photon_in (b2n (decide (e.natAbs ≤ 2000)))
  if 1 ≤ k ∧ k ≤ sfn s ∧ (sfn s : Int) < k + 16 then wr (Reg.RAST_HIST (8 * (k.toNat % 16) + 5)) (BitVec.ofInt 32 e) s
  else if (sfn s : Int) < k then
    setLock { s.raster.lock with ahead := (k.toNat, e) :: s.raster.lock.ahead.filter (fun x => decide (x.1 ≠ k.toNat)) } s
  else s

/-- An edge is accepted: frame_present, the comparison, and the loop (R246 to R249). `step`: it is a new phase. -/
def acceptEdge (since : Nat) (step : Bool) (s : State) : State :=
  let l := s.raster.lock
  let s := setLock { l with sinceEdge := some 0, stepCount := 0, restoreCount := 0, lost := false } s
    |> wrF Reg.RAST_STAT Fld.RAST_STAT_frame_present 1 |> countEvent 0x70 0x12 1
  let compared := scanning s
  let (e, j) := if compared then phaseError s since else (0, 0)
  let s := if compared then reportPhase e j s else s
  if lockMode s = 0 then s
  else
    let s := if step ∨ lockState s = 0 ∨ lockState s = 3 then
        let s := goLock 1 e j s
        setLock { s.raster.lock with judge := true, inside := 0, outside := 0 } s
      else s
    if !compared then s
    else
      let s := judgeCrash e s
      let l := s.raster.lock
      let near := decide (e.natAbs ≤ 2000)
      let l := { l with inside := if near then l.inside + 1 else 0, outside := if near then 0 else l.outside + 1 }
      let s := setLock l s
      let s := if lockState s = 1 ∧ 8 ≤ l.inside then goLock 2 e j s
        else if lockState s = 2 ∧ 8 ≤ l.outside then goLock 1 e j s |> judgeCrash e
        else s
      loopStep e s

/-- A device event that shows the loss or the return of a reference input. -/
def refEvent (code input : Nat) (s : State) : State :=
  postEvent .device code 0x70 (if code = 0x0CF0 then 2 else 0) (dataAt 24 input) s

/-- REF_FRAME_EDGE (R239): gap is the interval from the edge before it in ns, since the time from the start of the
scan frame that runs. Without a panel there is no reference period, and the edge has no effect; nor has one while the
input is not powered (R49). -/
def execRefFrameEdge (gap since : Nat) (s : State) : Host.Outcome State Fault Refusal :=
  let p : Int := 5 * refPeriod s
  if !inputsLive s || decide (p = 0) then .next s
  else
    let s := recordGap gap s
    let l := s.raster.lock
    let off : Int := 393216 * gap - p
    let rateBad := decide (p < 1000 * off.natAbs)
    let near := decide (off.natAbs ≤ 64000 * 393216)
    match l.lost, l.sinceEdge with
    | true, _ =>
      let n := if rateBad then 1 else l.restoreCount + 1
      let s := if rateBad then setFlag Flag.RAST_ref_rate s else s
      if n < 3 then .next (setLock { l with restoreCount := n } s)
      else .next (s |> refEvent 0x0CF1 0 |> acceptEdge since true)
    | false, none => .next (acceptEdge since true s)
    | false, some t =>
      let dev : Int := 393216 * (t + gap : Nat) - p
      let s := if rateBad then setFlag Flag.RAST_ref_rate s else s
      if dev.natAbs ≤ 64000 * 393216 then
        if rateBad then .next (setLock { l with sinceEdge := some (t + gap), stepCount := 0 } s)
        else .next (acceptEdge since false s)
      else
        let s := setFlag Flag.RAST_ref_glitch s |> postEvent .device 0x0CF4 0x70 1 (dataAt 24 (pat32 (dev / 393216)))
        let n := if l.stepCount ≠ 0 ∧ near ∧ ¬ rateBad then l.stepCount + 1 else 1
        if n < 3 then .next (setLock { l with sinceEdge := some (t + gap), stepCount := n } s)
        else .next (acceptEdge since true s)

/-- REF_FRAME_LOST (R239): no edge has been accepted for 3 × P_ref. -/
def execRefFrameLost (s : State) : Host.Outcome State Fault Refusal :=
  let l := s.raster.lock
  if l.lost ∨ l.sinceEdge.isNone ∨ refPeriod s = 0 ∨ inputsLive s = false then .next s
  else
    let s := setLock { l with lost := true, restoreCount := 0, stepCount := 0, judge := false } s
      |> setFlag Flag.RAST_ref_lost |> wrF Reg.RAST_STAT Fld.RAST_STAT_frame_present 0
      |> wrF Reg.RAST_STAT Fld.RAST_STAT_hfn_valid 0 |> refEvent 0x0CF0 0
    let rest := 3 * (5 * refPeriod s / 393216) - l.sinceEdge.getD 0
    let s := holdCorrection rest s
    let s := setLock { s.raster.lock with counted := l.counted + rest } s
    if lockState s = 1 ∨ lockState s = 2 then
      .next (goLock 3 (rdI s Reg.PHOTON_PHASE) 0 (wr Reg.RAST_FREQ (BitVec.ofInt 32 (meanCorrection s)) s))
    else .next s

/-! ### REF_10M (R240) -/

/-- The mode takes its frequency from REF_10M. -/
def uses10m (s : State) : Bool := decide (2 ≤ lockMode s)

/-- REF_10M_PRESENT. -/
def execRef10mPresent (s : State) : Host.Outcome State Fault Refusal :=
  if !inputsLive s then .next s
  else
  let s := wrF Reg.RAST_STAT Fld.RAST_STAT_ref10m_present 1 s
  if uses10m s then
    let back := s.raster.lock.lost10m
    let s := wrF Reg.RAST_STAT Fld.RAST_STAT_on_10m 1 s |> setLock { s.raster.lock with lost10m := false }
    .next (if back then refEvent 0x0CF1 1 s else s)
  else .next s

/-- REF_10M_LOST. -/
def execRef10mLost (s : State) : Host.Outcome State Fault Refusal :=
  if !inputsLive s || !rdB s Reg.RAST_STAT Fld.RAST_STAT_ref10m_present then .next s
  else
    let s := wrF Reg.RAST_STAT Fld.RAST_STAT_ref10m_present 0 s
    if uses10m s then
      .next (wrF Reg.RAST_STAT Fld.RAST_STAT_on_10m 0 s |> wrF Reg.RAST_STAT Fld.RAST_STAT_hfn_valid 0
        |> setLock { s.raster.lock with lost10m := true } |> refEvent 0x0CF0 1)
    else .next s

/-! ### Time of day (R241, R242) -/

/-- Why a message is not valid (R268): 0 CRC, 1 version, 2 time_valid, 3 timing, 4 reserved bytes. -/
def todFault (msg : List Byte) (afterMs : Nat) : Option Nat :=
  if leAt msg 20 4 ≠ crc32c (msg.take 20) then some 0
  else if leAt msg 2 1 ≠ 1 then some 1
  else if leAt msg 3 1 % 2 = 0 then some 2
  else if afterMs < 100 ∨ 900 < afterMs then some 3
  else if leAt msg 16 4 ≠ 0 then some 4
  else none

/-- REF_TOD_MESSAGE: 24 bytes that begin with the sync bytes, and the milliseconds from the last REF_PPS edge to its
last stop bit. -/
def execRefTodMessage (msg : List Byte) (afterMs : Nat) (s : State) : Host.Outcome State Fault Refusal :=
  if !inputsLive s || decide (msg.length ≠ 24 ∨ leAt msg 0 2 ≠ 0x5AA5) then .next s
  else
    match todFault msg afterMs with
    | some r => .next (setFlag Flag.RAST_tod_bad s |> postEvent .device 0x0CF5 0x70 1 (dataAt 24 r))
    | none => .next (setLock { s.raster.lock with tod := some (leAt msg 4 6) } s)

/-- REF_PPS_EDGE (R242). -/
def execRefPpsEdge (s : State) : Host.Outcome State Fault Refusal :=
  if !inputsLive s then .next s
  else
  let l := s.raster.lock
  let applied := l.tod.isSome :: l.applied.take 2
  let old := now s
  let s := setLock { l with tod := none, applied := applied } s |> wrF Reg.RAST_STAT Fld.RAST_STAT_pps_present 1
    |> wrF Reg.RAST_STAT Fld.RAST_STAT_tod_valid (b2n (applied.any (fun b => b)))
  match l.tod with
  | none => .next s
  | some t =>
    let s := tick { s with timeBase := { sec := t } }
    let step : Int := (t * 1000000000 : Nat) - (old.total : Int)
    if step.natAbs ≤ 1000 then .next s
    else .next (wrF Reg.RAST_STAT Fld.RAST_STAT_hfn_valid 0 s |> postEvent .device 0x0CF6 0x70 1
      (dataAt 24 (pattern 64 (clampI (-(2 ^ 63)) (2 ^ 63 - 1) step))))

/-- REF_PPS_LOST (R268, R270). -/
def execRefPpsLost (s : State) : Host.Outcome State Fault Refusal :=
  if rdB s Reg.RAST_STAT Fld.RAST_STAT_pps_present && inputsLive s then
    .next (wrF Reg.RAST_STAT Fld.RAST_STAT_pps_present 0 s |> wrF Reg.RAST_STAT Fld.RAST_STAT_hfn_valid 0
      |> refEvent 0x0CF0 2)
  else .next s

/-! ### The time commands (R175, R251, R260) -/

/-- The lock mode in force changes, or a pending crash is cancelled: acquisition starts again (R246, R251). -/
def restartLock (old : Nat) (s : State) : State :=
  let l := s.raster.lock
  let mode := lockMode s
  if mode = old ∧ l.crash = none then s
  else
    let on := decide (2 ≤ mode) && rdB s Reg.RAST_STAT Fld.RAST_STAT_ref10m_present
    let s := setLock { l with crash := none, judge := false, inside := 0, outside := 0, lost10m := l.lost10m && decide (2 ≤ mode) } s
      |> wrF Reg.RAST_STAT Fld.RAST_STAT_on_10m (b2n on)
    if mode = 0 then goLock 0 (rdI s Reg.PHOTON_PHASE) 0 (wr Reg.RAST_FREQ 0 s)
    else if l.lost then goLock 3 (rdI s Reg.PHOTON_PHASE) 0 (wr Reg.RAST_FREQ (BitVec.ofInt 32 (meanCorrection s)) s)
    else if l.sinceEdge.isNone then goLock 0 0 0 s
    else
      let s := goLock 1 (rdI s Reg.PHOTON_PHASE) 0 s
      setLock { s.raster.lock with judge := true } s

/-- TIME_LOCK takes effect. -/
def effectTimeLock (d : Dsc) (s : State) : State :=
  let old := lockMode s
  wrF Reg.RAST_LOCK Fld.RAST_LOCK_mode (d.u8 16) s |> wrF Reg.RAST_LOCK Fld.RAST_LOCK_crash_lock (d.u8 17)
    |> wrF Reg.RAST_LOCK Fld.RAST_LOCK_bandwidth (d.u16 18) |> restartLock old

/-- A phase offset's magnitude is one frame period or more (R175); with no panel there is no frame period. -/
def offsetTooLarge (s : State) (off : Int) : Bool :=
  s.raster.panel.isSome && decide (5 * frame65 s ≤ 393216 * off.natAbs)

/-- RAST_PHASE_OFFSET takes a value (R251): the loop judges the next comparison again while it is acquiring. -/
def setPhaseOffset (w : Word) (s : State) : State :=
  let s := wr Reg.RAST_PHASE_OFFSET w s
  if lockState s = 1 then setLock { s.raster.lock with judge := true } s else s

/-- TIME_STAMP (R175, R260). -/
def execTimeStamp (port sq seq : Nat) (s : State) : Host.Outcome State Fault Refusal :=
  withReady port sq seq 0x0C03 (fun d s =>
    let n := d.u64 24
    let hit := if n = 0 then s.raster.stamps.head? else s.raster.stamps.find? (fun t => decide (t.sfn = n))
    match hit with
    | some t =>
      let time := if d.u8 16 = 0 then t.flip else t.photon
      complete d .ok t.sfn (BitVec.ofNat 96 (ofLe time.bytes)) s
    | none => complete d .late n 0 s) s

/-- TIME_SET (R175). -/
def execTimeSet (port sq seq : Nat) (s : State) : Host.Outcome State Fault Refusal :=
  withReady port sq seq 0x0C04 (fun d s =>
    if rdB s Reg.RAST_STAT Fld.RAST_STAT_tod_valid then refuseWith d .refused 0x70 s
    else tick { s with timeBase := { sec := d.get 16 6, ns := d.u32 24 } } |> completeI d .ok 0) s

/-! ### Captured reads (R210, R270) -/

/-- A host reads a register that answers v now. -/
def answerRead (port off v : Nat) (s : State) : State := emit (.readData port off v) s

/-- A 64-bit number's low word is read and its high word captured; before stage LANES ends the block does not answer
(R74). -/
def captureRead (port lo hi v : Nat) (s : State) : Host.Outcome State Fault Refusal :=
  if portWrites s port && s.boot.lanesDone then
    .next (wr hi (BitVec.ofNat 32 (v / 2 ^ 32)) s |> answerRead port lo (v % 2 ^ 32))
  else .next s

def execRastSfnLoRead (port : Nat) (s : State) : Host.Outcome State Fault Refusal :=
  captureRead port Reg.RAST_SFN_LO Reg.RAST_SFN_HI (sfn s) s

def execRastCfnLoRead (port : Nat) (s : State) : Host.Outcome State Fault Refusal :=
  captureRead port Reg.RAST_CFN_LO Reg.RAST_CFN_HI (cfn s) s

def execHfnOffsetLoRead (port : Nat) (s : State) : Host.Outcome State Fault Refusal :=
  captureRead port Reg.HFN_OFFSET_LO Reg.HFN_OFFSET_HI (pattern 64 s.raster.lock.hfnOffset) s

/-- RAST_TIME_NS_READ. -/
def execRastTimeNsRead (port : Nat) (s : State) : Host.Outcome State Fault Refusal :=
  if portWrites s port && s.boot.lanesDone then
    let t := now s
    .next (tick s |> wr Reg.RAST_TIME_SEC_LO (BitVec.ofNat 32 t.sec)
      |> wrF Reg.RAST_TIME_SEC_HI (0, 16) (t.sec / 2 ^ 32) |> answerRead port Reg.RAST_TIME_NS t.ns)
  else .next s

end Sys2Proof.Machine
end

