-- ==== Sys2Proof/Machine/Raster.lean ====
section
/-! DEFINITION. The raster: SET_PANEL (R36, R151, R243), timeline modes (R256 to R258), the enable and reverse sequences
(R266, R267), scan lines and gate outputs (R262 to R265), and the direct writes of its registers. -/

namespace Sys2Proof.Machine

/-! ### What follows a change of set-up -/

/-- ENG_WINDOW shows W_c of the cells (R355). -/
def followWindow (s : State) : State :=
  s |> wrF Reg.ENG_WINDOW Fld.ENG_WINDOW_front (min 4095 (windowNow s 0))
    |> wrF Reg.ENG_WINDOW Fld.ENG_WINDOW_rear (min 4095 (windowNow s 1))

/-- The quadrants change from a set of rear roles to another: the firmware writes the kernels of its new role, and their data
areas, into one that changes (R364, R410). -/
def loadRoles (old mask : Nat) (s : State) : State :=
  let keep := fun e => decide (bitAt old (e / 64) = bitAt mask (e / 64))
  let engines := s.array.engines.map (fun e => if keep e.1 then e else (e.1, { e.2 with data := [], flips := [] }))
  let s := { s with array := { s.array with engines := engines.filter (fun e => decide (e.2 ≠ {})) } }
  (List.range 32).foldl (fun s c => wrF (Reg.ENG_Cc_STAT c) Fld.ENG_Cc_STAT_rear (b2n (bitAt mask (c / 8))) s) s

/-- The quadrants take a set of rear roles (R349). -/
def setRoles (mask : Nat) (s : State) : State :=
  let s := loadRoles (s.array.moved.getD (rdF s Reg.ENG_CTRL Fld.ENG_CTRL_rear_role)) mask s
  { s with array := { s.array with moved := none } } |> wrF Reg.ENG_CTRL Fld.ENG_CTRL_rear_role mask

/-- The mode in force changes: TIMELINE_MODE is posted (R257). -/
def changeMode (mode cause : Nat) (s : State) : State :=
  if rdF s Reg.RAST_STAT Fld.RAST_STAT_timeline = mode then s
  else wrF Reg.RAST_STAT Fld.RAST_STAT_timeline mode s
    |> timelineEvent mode cause (rdF s Reg.RAST_LAG_STAT Fld.RAST_LAG_STAT_d)

/-! ### SET_PANEL -/

/-- A panel format within R36. -/
def formatOkPanel (w h num den : Nat) : Bool :=
  decide (w % 480 = 0 ∧ 1920 ≤ w ∧ w ≤ 15360 ∧ h % 2 = 0 ∧ 1080 ≤ h ∧ h ≤ 8640 ∧ 23976 * den ≤ 1000 * num ∧
    num ≤ 480 * den ∧ w * h * num ≤ 15925248000 * den)

/-- Lowest operating point whose CK_COMP frequency is at least 1.05 × width / (16 × line period) (R531). -/
def compFloor (s : State) (w : Nat) : Nat :=
  let need := fun k => decide (105 * w * 1200 * 65536 ≤ 1600 * rdF s (Reg.PWR_OPk k) Fld.PWR_OPk_comp_mhz * line65 s)
  ([0, 1, 2, 3, 4, 5].find? need).getD 5

/-- The CK_COMP floor takes a value; max_op rises to it. -/
def setFloor (n : Nat) (s : State) : State :=
  let r := Reg.PWR_LIMITd 4
  let s := wrF r Fld.PWR_LIMITd_floor n s
  wrF r Fld.PWR_LIMITd_max_op (max n (rdF s r Fld.PWR_LIMITd_max_op)) s |> followCompOp

/-- Sluice lanes that carry no segment are OFF (R38, R463). -/
def offSegments (s : State) : State :=
  (List.range 128).foldl (fun s n =>
    if carriesSegment s n || laneIs s 1 n Lane.off then s else goLane 1 n Lane.off s |> jobLaneGone 1 n) s

/-- SET_PANEL takes effect. -/
def applyPanel (p : Panel) (s : State) : State :=
  let vt := panelVtotal p.height
  let s := { s with raster := { s.raster with panel := some p }, pipe := { s.pipe with histAge := 0 } }
  let lead := min (rearLead s) (vt - p.height - 8)
  let s := wrF Reg.RAST_GEOM Fld.RAST_GEOM_vtotal vt s |> wrF Reg.RAST_GEOM Fld.RAST_GEOM_v_latch p.height
    |> wrF Reg.RAST_LAG Fld.RAST_LAG_rear_lead lead
    |> wrF Reg.RAST_LAG Fld.RAST_LAG_lag (if p.cells = 2 then 48 + lead else 24)
    |> wrF Reg.PIPE_FMT Fld.PIPE_FMT_depth (if p.depth = 12 then 0 else if p.depth = 10 then 1 else 2)
    |> wrF Reg.PIPE_FMT Fld.PIPE_FMT_seg_width (p.width / 32)
    |> setRoles (if p.cells = 2 then 8 else 0) |> offSegments |> followGeometry |> followWindow
  let s := if windowsOpen s (lagNow s) lead (filterNow s) then s
    else changeMode 0 0 (wrF Reg.RAST_CTRL Fld.RAST_CTRL_timeline 0 s)
  setFloor (compFloor s p.width) s |> followBlocked |> recheckRects

/-- SET_PANEL (R151). BUSY also while the reverse sequence still runs is the model's choice (log entry 115). -/
def execSetPanel (port sq seq : Nat) (s : State) : Host.Outcome State Fault Refusal :=
  withReady port sq seq 0x0101 (fun d s =>
    let p : Panel := { width := d.u16 16, height := d.u16 18, rateNum := d.u32 20, rateDen := d.u32 24, cells := d.u8 28, depth := d.u8 29 }
    if rasterBusy s then complete d .busy 0 0 s
    else if !formatOkPanel p.width p.height p.rateNum p.rateDen then refuseWith d .refused 0x70 s
    else applyPanel p s |> completeI d .ok 0 |> recordMissing) s

/-! ### Timeline modes (R151, R256 to R258) -/

/-- The conditions of R256 hold under a LAG. -/
def lockable (s : State) (lag : Nat) : Bool :=
  !planeOn s 0 || (decide (lockState s = 2 ∧ 8 ≤ s.raster.distances.length) &&
    (s.raster.distances.take 8).all (fun d => decide (lag ≤ d ∧ d ≤ lag + 16)))

/-- SET_TIMELINE or a direct request passes its checks (R23, R151, R356). -/
def timelineOk (s : State) (mode lag : Nat) : Bool :=
  decide (minLag s ≤ lag ∧ lag ≤ 1024) &&
    (decide (mode = 0) || (lockable s lag && windowsOpen s lag (rearLead s) (filterNow s)))

/-- The owner's choice of mode, auto return and LAG takes effect. Made at the very scan frame start at which silence or sleep asks
for buffered mode, it wins over that: R26 and R257 give no precedence (the model's choice, log entry 148). -/
def setTimeline (mode auto lag : Nat) (s : State) : State :=
  let s := wrF Reg.RAST_CTRL Fld.RAST_CTRL_timeline mode s |> wrF Reg.RAST_CTRL Fld.RAST_CTRL_auto_return auto
    |> wrF Reg.RAST_LAG Fld.RAST_LAG_lag lag |> followWindow
  let s := { s with raster := { s.raster with left := false, good := 0, request := none, toBuffered := none } }
  changeMode mode 0 s

/-- RAST_CTRL_TIMELINE_WRITE (R257, R515): a request with the LAG in force. -/
def execRastCtrlTimelineWrite (port : Nat) (val : Word) (s : State) : Host.Outcome State Fault Refusal :=
  if !ownerWrites s port then .next s
  else
    let mode := field val 1 1
    if !timelineOk s mode (lagNow s) then .next (setFlag Flag.RAST_cfg_err s |> idleTrigger)
    else if rasterOn s || scanning s then
      let s := wrF Reg.RAST_CTRL Fld.RAST_CTRL_timeline mode s |> wrF Reg.RAST_CTRL Fld.RAST_CTRL_auto_return (field val 2 1)
      .next (idleTrigger { s with raster := { s.raster with request := some (decide (mode = 1)) } })
    else .next (setTimeline mode (field val 2 1) (lagNow s) s |> idleTrigger)

/-! ### Direct writes of the geometry -/

/-- RAST_GEOM_WRITE (R243); a direct write to RAST is an IDLE trigger (R515). -/
def execRastGeomWrite (port : Nat) (val : Word) (s : State) : Host.Outcome State Fault Refusal :=
  if !ownerWrites s port then .next s
  else
    let vt := field val 0 14
    let ok := match s.raster.panel with
      | some p =>
        let least := min 400 (framePeriod p / panelVtotal p.height / 65536)
        !rasterBusy s && decide (p.height + rearLead s + 8 ≤ vt ∧ field val 16 14 < vt ∧
          least ≤ framePeriod p / vt / 65536)
      | none => false
    let s := if ok then writeRw Reg.RAST_GEOM val s |> followGeometry else setFlag Flag.RAST_cfg_err s
    .next (idleTrigger s)

/-- The largest rear_lead a write may set (R263). -/
def maxRearLead (s : State) : Nat :=
  match s.raster.panel with
  | some p => min 64 (vtotal s - p.height - 8)
  | none => 64

/-- The rear_lead field of a RAST_LAG write; the value in force is no write. -/
def writeRearLead (v : Nat) (s : State) : State :=
  if v = rearLead s then s
  else if rasterBusy s ∨ maxRearLead s < v then setFlag Flag.RAST_cfg_err s
  else wrF Reg.RAST_LAG Fld.RAST_LAG_rear_lead v s

/-- RAST_LAG_WRITE (R23, R263, R515): the lag field is handled on its own, and a raised rear_lead raises LAG. -/
def execRastLagWrite (port : Nat) (val : Word) (s : State) : Host.Outcome State Fault Refusal :=
  if !ownerWrites s port then .next s
  else
    let s := writeRearLead (field val 16 7) s
    let lag := field val 0 11
    let s := if minLag s ≤ lag ∧ lag ≤ 1024 then wrF Reg.RAST_LAG Fld.RAST_LAG_lag lag s else s
    .next (wrF Reg.RAST_LAG Fld.RAST_LAG_lag (max (lagNow s) (minLag s)) s |> followWindow |> idleTrigger)

/-- PIPE_FMT_WRITE (R345, R515). -/
def execPipeFmtWrite (port : Nat) (val : Word) (s : State) : Host.Outcome State Fault Refusal :=
  if !ownerWrites s port then .next s
  else
    let w := field val 16 9
    let ok := match s.raster.panel with
      | some p => !rasterBusy s && decide (p.width / 32 ≤ w ∧ w ≤ 480 ∧ p.width % w = 0)
      | none => false
    let s := if ok then wrF Reg.PIPE_FMT Fld.PIPE_FMT_seg_width w s |> offSegments else setFlag Flag.PIPE_cfg_err s
    .next (idleTrigger s)

/-- While gov_en = 0 every quadrant runs at its max_op (R375). -/
def followGovernor (s : State) : State :=
  if rdB s Reg.ENG_CTRL Fld.ENG_CTRL_gov_en || s.power.entry.isSome || !compClocked s then s
  else [0, 1, 2, 3].foldl (fun s q => if quadCap s q = opOf s q then s else wantOp q (quadCap s q) 3 s) s

/-- ENG_CTRL_REAR_ROLE_WRITE (R349, R378): every role that the cell mode needs keeps a quadrant; patrol_en and gov_en
are written beside it. A write that R349 ignores changes none of the three (the model's choice, log entry 163). -/
def execEngCtrlRearRoleWrite (port : Nat) (val : Word) (s : State) : Host.Outcome State Fault Refusal :=
  if !ownerWrites s port then .next s
  else
    let m := field val 0 4
    if rasterBusy s ∨ m = 15 ∨ (m = 0 ∧ (cellsNow s).contains 1) then .next (setFlag (Flag.ENG_cfg_err 0x40) s)
    else
      let s := wrF Reg.ENG_CTRL Fld.ENG_CTRL_patrol_en (field val 8 1) s |> wrF Reg.ENG_CTRL Fld.ENG_CTRL_gov_en (field val 10 1)
      .next (setRoles m s |> followGovernor)

/-! ### The enable sequence (R266) -/

def setRaster (r : RasterState) (s : State) : State := { s with raster := r }

/-- PNL_PWR_ENk takes part. -/
def enableUsed (s : State) (k : Nat) : Bool := rdB s (Reg.PNL_PWR_SEQk k) Fld.PNL_PWR_SEQk_en

/-- Lanes of a link that an enable trains: the enabled Headwater lanes that are OFF, or the enabled segment lanes. After a
wake, those that were ACTIVE before it report the power exit (R201, R207). The first training has begun (R186). -/
def trainForRaster (link : Nat) (s : State) : State :=
  (List.range (laneCount link)).foldl (fun s n =>
    if laneEnabled s link n && (decide (link = 0) || carriesSegment s n) && laneIs s link n Lane.off then
      startTraining link n (if (laneOf s link n).wasActive then 2 else 3) s else s)
    { s with lanes := { s.lanes with begun := true } }

/-- Step 1: the outputs are driven, and Headwater training starts. -/
def beginEnable (who : Option (Nat × Nat × Nat)) (s : State) : State :=
  let r := { s.raster with phase := .rising 0, dsc := who, driven := true, powered := [], gto := 0, first := true, shown := .nothing }
  let r := { r with distances := [], leftAt := none, irregular := false, line := 0, newest := s.cfn, good := 0, timerLag := lagNow s }
  let r := { r with lock := { r.lock with crash := none, ahead := [] } }
  let s := { setRaster r s with comp := { s.comp with ring := [] } }
  let s := { s with pipe := { s.pipe with histAge := 0, zones := [], nextZones := none, lit := false, drive := [], jobs := [], ctrls := rdF s Reg.BKL_CTRL Fld.BKL_CTRL_ctrl_en } }
  let on := rdB s Reg.BKL_CTRL Fld.BKL_CTRL_dimming && decide (s.pipe.ctrls ≠ 0)
  let s := { s with pipe := { s.pipe with dimming := on, firstFrame := sfn s + 1, flashes := [], litRows := [], dataFor := [], zoneLog := [] } }
  let s := (List.range 128).foldl (fun s n =>
    if carriesSegment s n && laneIs s 1 n Lane.active then
      setLane 1 n { laneOf s 1 n with cfgQueue := (laneOf s 1 n).cfgQueue ++ ownWrites } s else s) s
  wrF Reg.RAST_CTRL Fld.RAST_CTRL_enable 1 s |> trainForRaster 0

/-- Turn the backlight off: each enabled controller sends ALL_OFF (R319, R322). -/
def backlightOff (s : State) : State :=
  let s := [0, 1, 2, 3].foldl (fun s k =>
    if bitAt s.pipe.ctrls k then
      emit (.spi k [3, BitVec.ofNat 8 (crc8 [3])]) s |> countEvent 0x78 0x10 1 else s) s
  { s with pipe := { s.pipe with lit := false } }

/-- The reverse sequence starts (R267): the next scan frame is the black one. -/
def beginReverse (who : Option (Nat × Nat × Nat)) (s : State) : State :=
  setRaster { s.raster with phase := .toBlack, dsc := who } s |> wrF Reg.RAST_CTRL Fld.RAST_CTRL_enable 0 |> backlightOff

/-- Data blocks of a line packet (R466). -/
def packetBlocks (s : State) : Nat := (segWidth s * (s.raster.panel.map (·.depth)).getD 12 + 63) / 64

/-- A lane that carries a segment meets both conditions of R468: times in 1/6,000 ns, times the rate code c, at which a UI
lasts 80 / c ns. -/
def rateFits (s : State) (lane : Nat) : Bool :=
  let c := rateNow s 1 lane
  let tp := (packetBlocks s + 2) * 5280
  decide (65536 * (tp * 6006 + 80000 * c + 31680000) ≤ line65 s * 5000 * c) && decide (tp ≤ 2950 * c)

/-- The check of R468. -/
def checkRates (s : State) : State :=
  let ok := (List.range 128).all (fun n => !carriesSegment s n || rateFits s n)
  let s := wrF Reg.SLK_STAT Fld.SLK_STAT_rate_ok (b2n ok) s
  if ok then s else setFlag Flag.SLK_rate_err s

/-- Serve one RASTER_ENABLE while no sequence runs. -/
def serveRaster (d : Dsc) (s : State) : State :=
  let on := decide (s.raster.phase = .running)
  if d.u8 16 = 1 then
    if on then completeI d .ok 0 s
    else if rdB s Reg.BOOT_STATUS Fld.BOOT_STATUS_panel_blocked then complete d .notReady 0 0 s
    else
      let s := checkRates s
      if rdB s Reg.SLK_STAT Fld.SLK_STAT_rate_ok then beginEnable (some (d.port, d.sq, d.seq)) (setRunning d s)
      else refuseWith d .refused 0x60 s
  else if on then beginReverse (some (d.port, d.sq, d.seq)) (setRunning d s)
  else completeI d .ok 0 s

/-- A power entry has asked RAST and waits for its answer: HWL, which it asks before, has agreed (R517). -/
def entryStopsRaster (s : State) : Bool :=
  match s.power.entry with
  | some e => e.agreed.contains 0x20 && !e.agreed.contains 0x70
  | none => false

/-- RAST has stopped for SLEEP, DEEP or OFF and has not been started again (R517, R529). -/
def rasterStopped (s : State) : Bool :=
  decide (s.power.state ≠ .run ∧ s.power.state ≠ .idle) ||
    (match s.power.entry with
     | some e => e.agreed.contains 0x70
     | none => false)

/-- The RASTER_ENABLEs that wait are served once no sequence runs, oldest first; a power entry comes before them. -/
def serveQueue : Nat → State → State
  | 0, s => s
  | fuel + 1, s =>
    if (s.raster.phase ≠ .off ∧ s.raster.phase ≠ .running) ∨ rasterStopped s = true then s
    else if s.raster.phase = .running ∧ entryStopsRaster s then beginReverse none s
    else
      match s.raster.queue with
      | [] => s
      | (p, q, n) :: rest =>
        let s := setRaster { s.raster with queue := rest } s
        match dscOf s p q n with
        | some d => serveQueue fuel (serveRaster d s)
        | none => serveQueue fuel s

/-- A sequence has ended: its descriptor completes, and the ones that wait are served. -/
def endSequence (s : State) : State :=
  let who := s.raster.dsc
  let s := setRaster { s.raster with dsc := none } s
  let s := match who.bind (fun w => dscOf s w.1 w.2.1 w.2.2) with
    | some d => completeI d .ok 0 s
    | none => s
  serveQueue (s.raster.queue.length + 1) s

/-- RASTER_ENABLE (R151, R266, R267). -/
def execRasterEnable (port sq seq : Nat) (s : State) : Host.Outcome State Fault Refusal :=
  withReady port sq seq 0x0105 (fun d s =>
    if (s.raster.phase = .off ∨ s.raster.phase = .running) ∧ rasterStopped s = false then serveRaster d s
    else setRunning d (setRaster { s.raster with queue := s.raster.queue ++ [(d.port, d.sq, d.seq)] } s)) s

/-- The next enable below number k that is high. -/
def nextFalling (s : State) (k : Nat) : Option Nat :=
  ([3, 2, 1, 0].filter (fun i => decide (i < k) && s.raster.powered.contains i)).head?

/-- Last of all the outputs go Hi-Z (R267). -/
def finishFalling (s : State) : State :=
  match s.raster.phase with
  | .falling k =>
    if (nextFalling s k).isSome then s
    else endSequence (setRaster { s.raster with phase := .off, driven := false, powered := [] } s)
  | _ => s

/-- The black frame has ended: the gate outputs go low and the Sluice lanes to OFF. -/
def endBlack (s : State) : State :=
  let s := (List.range 128).foldl (fun s n =>
    if laneIs s 1 n Lane.off then s else goLane 1 n Lane.off s |> jobLaneGone 1 n) s
  let s := (List.range 24).foldl (fun s n =>
    if bitAt s.raster.gto n then emit (.gto 0 n false []) s else s) s
  finishFalling (setRaster { s.raster with phase := .falling 4, gto := 0, shown := .nothing } s)

/-- PANEL_POWER_STEP: while rising, the next enable rises, and after the last one the wait of step 3 ends and Sluice
training starts; while falling, the next enable falls. -/
def execPanelPowerStep (s : State) : Host.Outcome State Fault Refusal :=
  match s.raster.phase with
  | .rising k =>
    match [0, 1, 2, 3].find? (fun i => decide (k ≤ i) && enableUsed s i) with
    | some i => .next (setRaster { s.raster with phase := .rising (i + 1), powered := i :: s.raster.powered } s)
    | none => .next (trainForRaster 1 (setRaster { s.raster with phase := .training } s))
  | .falling k =>
    match nextFalling s k with
    | some i =>
      let left := s.raster.powered.filter (fun j => decide (j ≠ i))
      .next (finishFalling (setRaster { s.raster with phase := .falling i, powered := left } s))
    | none => .next s
  | _ => .next s

/-! ### Scan lines and panel timing outputs (R262 to R265) -/

/-- The last line of a frame carries the residual (R244); the ticks of the line that starts now, and the new fraction. -/
def lineTicks (s : State) : Nat × Nat :=
  let x := s.raster.frac + line65 s +
    (if s.raster.line + 1 = linesNow s then frameLen65 s - linesNow s * line65 s else 0)
  (x / 65536, x % 65536)

/-- Place an edge in time order; of two at one tick the later-numbered stands. -/
def placeEdge : List (Nat × Bool) → Nat × Bool → List (Nat × Bool)
  | [], e => [e]
  | x :: xs, e => if x.1 = e.1 then e :: xs else if e.1 < x.1 then e :: x :: xs else x :: placeEdge xs e

/-- The edges of waveform w of output n within a line of len ticks. -/
def gtoEdges (s : State) (n w len : Nat) : List (Nat × Bool) :=
  let k := Reg.GTO_W0 n + 0x14 * w
  ([0, 1, 2, 3, 4, 5, 6, 7].filter (fun j => bitAt (rdF s k (0, 8)) j)).foldl (fun es j =>
    let t := rdF s (k + 4 + 4 * (j / 2)) (16 * (j % 2), 16)
    if t < len then placeEdge es (t, bitAt (rdF s k (8, 8)) j) else es) []

/-- Line of its cell and SFN of its frame that output n runs at front line y: rear lines run rear_lead lines ahead (R263). -/
def gtoLineOf (s : State) (n y : Nat) : Nat × Nat :=
  let r := y + rearLead s
  if n < 12 then (y, sfn s) else if r < linesNow s then (r, sfn s) else (r - linesNow s, sfn s + 1)

/-- The waveform output n runs on line y of its cell in frame k (R264). -/
def gtoWave (s : State) (n y k : Nat) (blank : Bool) : Nat :=
  let lo := rdF s (Reg.GTO_VRANGE n) (0, 14)
  let hi := rdF s (Reg.GTO_VRANGE n) (16, 14)
  let active := !blank && (if lo ≤ hi then decide (lo ≤ y ∧ y < hi) else decide (lo ≤ y ∨ y < hi))
  if active then rdF s (Reg.GTO_SEL n) (2 * (k % 4), 2) else rdF s (Reg.GTO_CTRL n) (2, 2)

/-- Line l of frame k lies in the blanking of the irregular frame that runs (R249, R264). -/
def irregularBlank (s : State) (l k : Nat) : Bool := s.raster.irregular && decide (k = sfn s ∧ panelH s ≤ l)

/-- Output n over line l of frame k of its cell, len ticks long. GTO12 to GTO23 stay low in single-cell mode (R38). -/
def gtoRun (l k len : Nat) (s : State) (n : Nat) : State :=
  let was := bitAt s.raster.gto n
  let on := rdB s (Reg.GTO_CTRL n) (0, 1) && (decide (n < 12) || (cellsNow s).contains 1)
  let es := if on then gtoEdges s n (gtoWave s n l k (irregularBlank s l k)) len else []
  let start := on && was
  let stop := match es.getLast? with
    | some e => e.2
    | none => start
  let s := setRaster { s.raster with gto := putBits s.raster.gto n 1 (b2n stop) } s
  if es ≠ [] ∨ start ≠ was then emit (.gto l n start es) s else s

/-- PNL_SYNC_OUT at front line y of len ticks (R265): a pulse that would overlap the next one is omitted. -/
def syncPulse (y len : Nat) (s : State) : State :=
  let w := max 1 (rdF s Reg.PNL_SYNC_CFG Fld.PNL_SYNC_CFG_width)
  let off := rdI s Reg.PNL_SYNC_OFFSET
  match rdF s Reg.PNL_SYNC_CFG Fld.PNL_SYNC_CFG_mode with
  | 1 => if y = rdF s Reg.PNL_SYNC_CFG Fld.PNL_SYNC_CFG_line then emit (.pnlSync y off w) s else s
  | 2 => if w ≤ len then emit (.pnlSync y off w) s else s
  | 3 => if y = 0 then emit (.pnlSync 0 (ticksOf s.raster.photon / 65536 + off) w) s else s
  | _ => s

/-- A segment lane still trains (R266 step 4). -/
def sluiceTrains (s : State) : Bool :=
  (List.range 128).any (fun n => laneEnabled s 1 n && carriesSegment s n &&
    [Lane.detect, Lane.cdr, Lane.align, Lane.adapt, Lane.fast].contains (laneState s 1 n))

/-- Lines by which the rear cell runs ahead of the first scan frame (R263). -/
def leadIn (s : State) : Nat := if (cellsNow s).contains 1 then rearLead s else 0

/-- SCAN_LINE_START (R262): the next front line of the scan frame starts. Before the first scan frame of an enable it is a
line that the rear cell runs ahead by. -/
def execScanLineStart (s : State) : Host.Outcome State Fault Refusal :=
  let y := s.raster.line
  if s.raster.phase = .training ∧ sluiceTrains s = false ∧ y < leadIn s then
    let s := [12, 13, 14, 15, 16, 17, 18, 19, 20, 21, 22, 23].foldl (gtoRun y (sfn s + 1) (line65 s / 65536)) s
    .next (setRaster { s.raster with line := y + 1 } s)
  else if !scanning s ∨ linesNow s ≤ y then .next s
  else
    let (len, frac) := lineTicks s
    let s := (List.range 24).foldl (fun s n => gtoRun (gtoLineOf s n y).1 (gtoLineOf s n y).2 len s n) s
      |> syncPulse y len |> countEvent 0x70 0x10 1
    let s := if y < panelH s then fixedAdd 3 1 s else s
    .next (setRaster { s.raster with line := y + 1, frac := frac } s)

end Sys2Proof.Machine
end

