-- ==== Sys2Proof/Machine/Pipe.lean ====
section
/-! DEFINITION. The panel pipeline of a tile: what it reads, its key (R358), the reference stages (R300 to R345) and
what a retired or fallen-back tile gives. -/

namespace Sys2Proof.Machine

def setPipe (p : PipeState) (s : State) : State := { s with pipe := p }

/-! ### What a tile reads -/

/-- A table activation has reached its unit and waits for its scan frame. -/
def activationAsked (s : State) (id : Nat) : Bool :=
  s.host.inflight.any (fun d => decide (d.phase = .waiting ∧ d.opcode = 0x0303 ∧ d.u32 16 = id))

/-- Section bytes of a table that a tile of this scan frame, or a speculative one of the next, uses. -/
def tableFor (s : State) (next : Bool) (id : Nat) : List Byte :=
  ((if next && activationAsked s id then stagedTable s id else activeTable s id)).getD []

/-- Version of a table in a job's key. -/
def versionFor (s : State) (next : Bool) (id : Nat) : Nat := tableVersion s id + b2n (next && activationAsked s id)

/-- Panel temperature from the readings completed so far (R339), sQ12.4. -/
def panelTemp (s : State) : Int :=
  match s.pipe.temp with
  | some t => t
  | none => signed 16 (rdF s Reg.PIPE_TEMP_DEFAULT Fld.PIPE_TEMP_DEFAULT_temp)

/-- T as fixed at the last scan frame start. -/
def frameTemp (s : State) : Int := signed 16 (rdF s Reg.PIPE_TEMP_STAT Fld.PIPE_TEMP_STAT_temp)

/-- Sets of a cell with their temperatures. -/
def odTemps (s : State) (next : Bool) (cell : Nat) : List (Nat × Int) :=
  (List.range 8).filterMap (fun i => match tableFor s next (odId cell i) with
    | [] => none
    | t => some (i, odTemp t))

/-- The set with the highest temperature at or below t, or the one with the lowest above it. -/
def odBelow (sets : List (Nat × Int)) (t : Int) : Option (Nat × Int) :=
  sets.foldl (fun best e => if e.2 ≤ t then
    (match best with
     | some b => if b.2 < e.2 then some e else best
     | none => some e) else best) none

def odAbove (sets : List (Nat × Int)) (t : Int) : Option (Nat × Int) :=
  sets.foldl (fun best e => if t < e.2 then
    (match best with
     | some b => if e.2 < b.2 then some e else best
     | none => some e) else best) none

/-- Selection of R340: sets a and b, and w; none without an active set. -/
def odSelect (sets : List (Nat × Int)) (t : Int) : Option (Nat × Nat × Nat) :=
  match odBelow sets t, odAbove sets t with
  | none, none => none
  | some a, none => some (a.1, a.1, 0)
  | none, some b => some (b.1, b.1, 0)
  | some a, some b =>
    if a.2 = t ∧ sets.all (fun e => decide (a.2 ≤ e.2)) = true then some (a.1, a.1, 0)
    else some (a.1, b.1, (256 * (t - a.2) / (b.2 - a.2)).toNat)

/-- The overdrive selection of a cell for this scan frame, or for the next. -/
def odFor (s : State) (next : Bool) (cell : Nat) : Option (Nat × Nat × Nat) :=
  odSelect (odTemps s next cell) (if next then panelTemp s else frameTemp s)

/-- PIPE_CTRL in force. -/
def ctrlFor (s : State) (next : Bool) : Word := if next then rd s Reg.PIPE_CTRL else s.pipe.ctrl

/-- B of this scan frame or of the next. -/
def zonesFor (s : State) (next : Bool) : Tab Nat := if next then s.pipe.nextZones.getD s.pipe.zones else s.pipe.zones

def dimmingFor (s : State) (next : Bool) : Bool := if next then s.pipe.nextDimming else s.pipe.dimming

/-- The KERNEL_BIND of a cell and stage that has reached its unit and waits for its scan frame, the last of them. -/
def askedBind (s : State) (cell stage : Nat) : Option Dsc :=
  (s.host.inflight.filter (fun d => decide (d.phase = .waiting ∧ d.opcode = 0x0402 ∧ d.u8 16 = stage ∧ d.u8 17 = cell))).foldl
    (fun best d => match best with
      | some b => if b.order < d.order then some d else best
      | none => some d) none

/-- A load that runs for a descriptor. -/
def loadOf (s : State) (w : Nat × Nat × Nat) : Option Load :=
  s.tables.loads.find? (fun l => decide ((l.port, l.sq, l.seq) = w))

/-- The parameter block that a KERNEL_BIND gives its stage: its own, or the kernel's. -/
def bindParam (s : State) (d : Dsc) : List Byte :=
  if d.u32 20 = 0 then ((kernelOf s (d.u16 18)).map (fun k => k.param)).getD []
  else ((loadOf s (d.port, d.sq, d.seq)).bind (fun l => l.data)).getD []

/-- The kernel and parameter block of a stage in this scan frame, or in the next. -/
def bindFor (s : State) (next : Bool) (cell stage : Nat) : Nat × List Byte :=
  match if next then askedBind s cell stage else none with
  | some d => (d.u16 18, bindParam s d)
  | none => ((bindOf s cell stage).handle, (bindOf s cell stage).param)

/-- The stages of a cell's chain; cell 2 stands for the frame job. -/
def keyStages (cell : Nat) : List Nat := if cell = 2 then [6] else if cell = 0 then [1, 7, 2, 3, 4, 5] else [1, 2, 3, 4, 5]

/-- The tables that the chain of a cell reads: a stage that is off reads none (R329). -/
def chainTables (s : State) (next : Bool) (cell : Nat) : List Nat :=
  let ctrl := ctrlFor s next
  [0x10F00000, 0x11100000, 0x12F00000] ++ (channelsOf cell).map (linId cell) ++
    (if demuraOn ctrl cell then (channelsOf cell).map (demuraId cell) else []) ++
    (if concealOn ctrl cell then [0x22F00000] else []) ++
    (match odFor s next cell with
     | some (a, b, _) => if odOn ctrl cell then [odId cell a, odId cell b] else []
     | none => [])

/-- The key of a job of a cell that reads a frame (R358). -/
def jobKey (s : State) (next : Bool) (cell : Nat) (shown : Shown) : JobKey :=
  { shown := shown,
    tables := (chainTables s next cell).map (fun id => (id, versionFor s next id)),
    binds := (keyStages cell).map (bindFor s next (if cell = 2 then 0 else cell)),
    zones := if dimmingFor s next then some (zonesFor s next) else none,
    od := match odFor s next cell with
      | some (a, b, w) => [a, b, w]
      | none => [] }

/-- The state with the kernels and parameter blocks that a job is computed against. -/
def Job.view (j : Job) (s : State) : State :=
  let cell := if j.cell = 2 then 0 else j.cell
  { s with tables := { s.tables with binds := ((keyStages j.cell).zip j.key.binds).foldl (fun t e =>
      if (bindOf s cell e.1).handle = e.2.1 ∧ (bindOf s cell e.1).param = e.2.2 then t
      else tabSet (fun _ => {}) t (8 * cell + e.1) { handle := e.2.1, param := e.2.2 }) s.tables.binds } }

/-- A stage of a cell passes its input through: it is off, or has no active table (R329). The defect list is never needed and
counts as empty (R330). -/
def stageOff (s : State) (next : Bool) (cell stage ch : Nat) : Bool :=
  let ctrl := ctrlFor s next
  match stage with
  | 2 => decide (tableFor s next (linId cell ch) = [])
  | 3 => !demuraOn ctrl cell || decide (tableFor s next (demuraId cell ch) = [])
  | 4 => !concealOn ctrl cell
  | 5 => !odOn ctrl cell || (odFor s next cell).isNone
  | _ => false

/-! ### Composed pixels -/

/-- Value k of a frame of a hold item; in an uncorrectable line it is that of the hold frame shown before, or 0 (R418). -/
def holdValue (s : State) (item : Nat) (h : HoldItem) (p : Playback) (frame k : Nat) : Nat :=
  let size := 6 * h.width * h.height
  if heldBad s .hold item ((size * frame + 2 * k) / 64) then
    match p.prev with
    | some f => u16At (h.frames.getD f []) k
    | none => 0
  else u16At (h.frames.getD frame []) k

/-- Line y of a frame of a hold item: the item's pixels where playback places it, the background elsewhere (R423). -/
def holdLine (s : State) (item frame y : Nat) : List Nat :=
  let bg := [rdF s Reg.COMP_BG_RG Fld.COMP_BG_RG_r, rdF s Reg.COMP_BG_RG Fld.COMP_BG_RG_g, rdF s Reg.COMP_BG_B Fld.COMP_BG_B_b]
  match tabGet (fun _ => none) s.hold.items item, s.hold.play with
  | some h, some p =>
    let at_ := holdValue s item h p frame
    (List.range (panelW s)).flatMap (fun x =>
      if p.x ≤ x ∧ x < p.x + h.width ∧ p.y ≤ y ∧ y < p.y + h.height then
        let k := 3 * ((y - p.y) * h.width + (x - p.x))
        [at_ k, at_ (k + 1), at_ (k + 2)]
      else bg)
  | _, _ => (List.range (panelW s)).flatMap (fun _ => bg)

/-- Line y of the frame a scan frame reads: R, G, B of every pixel. Outside what is left of a frame after the device
leaves locked-through mode (R24), that is the frame in the ring. -/
def shownLine (s : State) (shown : Shown) (y : Nat) : Option (List Nat) :=
  match shown with
  | .composed n =>
    match s.comp.ring.find? (fun c => decide (c.cfn = n)) with
    | some c => some (ringLine s c y)
    | none => match s.comp.cur with
      | some c =>
        if c.cfn = n ∧ c.lines.any (fun e => decide (e.1 = y)) then some (slotRow s c.slot (tabGet (fun _ => []) c.lines y) y)
        else none
      | none => none
  | .hold item f => some (holdLine s item f y)
  | _ => none

/-- Every third value of a list, from value ch on. -/
def everyThird : Nat → List Nat → List Nat
  | 0, a :: _ :: _ :: t => a :: everyThird 0 t
  | 1, _ :: a :: _ :: t => a :: everyThird 1 t
  | 2, _ :: _ :: a :: t => a :: everyThird 2 t
  | _, _ => []

/-- The composed plane of channel ch over a rectangle. -/
def composedPlane (s : State) (shown : Shown) (r : Rect) (ch : Nat) : Plane :=
  { x := r.x, y := r.y, w := r.w, h := r.h,
    rows := (List.range r.h).map (fun j =>
      everyThird ch ((((shownLine s shown (r.y + j)).getD []).drop (3 * r.x)).take (3 * r.w))) }

/-! ### Tiles -/

/-- The area of a tile (R350). -/
def tileRect (s : State) (tc tr : Nat) : Rect :=
  { x := 480 * tc, y := 16 * tr, w := min 480 (panelW s - 480 * tc), h := min 16 (panelH s - 16 * tr) }

def tileCols (s : State) : Nat := panelW s / 480
def tileRows (s : State) : Nat := (panelH s + 15) / 16

/-- The tile exists in the panel mode in force. -/
def tileExists (s : State) (cell tc tr : Nat) : Bool :=
  (cellsNow s).contains cell && decide (tc < tileCols s ∧ tr < tileRows s)

def tileDone (s : State) (cell tc tr : Nat) : Bool := s.pipe.done.contains (cell, tr, tc)

/-- Steps of a cell's chain: stage and channel (R350). -/
def chainSteps (cell : Nat) : List (Nat × Nat) :=
  if cell = 2 then [(6, 0)]
  else if cell = 0 then [(1, 0), (7, 0)] ++ [0, 1, 2].flatMap (fun c => [(2, c), (3, c), (4, c), (5, c)])
  else [(1, 0), (2, 0), (3, 0), (4, 0), (5, 0)]

/-- The rectangle over which a stage gives its output: the tile grown by the halos of the later stages (R353). -/
def stageRect (s : State) (next : Bool) (cell stage : Nat) (t : Rect) : Rect :=
  let h := if stage = 7 then (0, 0) else haloFrom s (tableFor s next 0x12F00000) cell (stage + 1)
  t.grow h.2 h.1 (panelW s) (panelH s)

/-- Rows a job needs of the frame it reads. -/
def inputRect (s : State) (next : Bool) (cell : Nat) (t : Rect) : Rect := stageRect s next cell 0 t

/-! ### Statistics (R313, R316) -/

def bump (t : Tab Nat) (k n : Nat) : Tab Nat := tabSet (fun _ => 0) t k (tabGet (fun _ => 0) t k + n)
def raise (t : Tab Nat) (k v : Nat) : Tab Nat := tabSet (fun _ => 0) t k (max v (tabGet (fun _ => 0) t k))

/-- Statistics of a tile from the m, rt and clip planes of stage 1. -/
def tileStats (s : State) (t : Rect) (peaks : List Plane) : Stats :=
  match peaks with
  | [m, rt, rc, fc] =>
    let all := fun (p : Plane) => p.rows.flatten
    let px := (List.range t.h).flatMap (fun j => (List.range t.w).map (fun i => (t.x + i, t.y + j)))
    { histogram := (all m).foldl (fun h v => bump h (v / 256) 1) [],
      clipRear := (all rc).foldl (· + ·) 0, clipFront := (all fc).foldl (· + ·) 0,
      zoneMax := px.foldl (fun z e => raise z (zoneOf (panelW s) (panelH s) e.1 e.2) (rt.read e.1 e.2)) [] }
  | _ => {}

/-- Merge a tile's record into the frame's (R313). -/
def Stats.merge (a b : Stats) : Stats :=
  { histogram := b.histogram.foldl (fun h e => bump h e.1 e.2) a.histogram,
    clipRear := a.clipRear + b.clipRear, clipFront := a.clipFront + b.clipFront,
    zoneMax := b.zoneMax.foldl (fun z e => raise z e.1 e.2) a.zoneMax }

/-- Statistics of the front tiles of this scan frame that have retired or fallen back, merged. -/
def frameStats (s : State) : Stats := s.pipe.tileStats.foldl (fun a e => a.merge e.2.2) {}

/-- The zones a rectangle overlaps, in index order (R315). -/
def zonesIn (s : State) (t : Rect) : List Nat :=
  let w := panelW s
  let h := panelH s
  let rows := (List.range 36).filter (fun z => decide (z * h / 36 < t.y + t.h ∧ t.y < (z + 1) * h / 36))
  let cols := (List.range 64).filter (fun z => decide (z * w / 64 < t.x + t.w ∧ t.x < (z + 1) * w / 64))
  rows.flatMap (fun r => cols.map (fun c => 64 * r + c))

/-! ### Reference stages -/

/-- The history plane of a channel at a pixel: which 1 for h1, 2 for h2, of this scan frame or the next. -/
def historyAt (s : State) (next : Bool) (which cell ch x y : Nat) : Nat :=
  let p := s.pipe
  let t := if which = 1 then (if next then p.histNew else p.hist1) else (if next then p.hist1 else p.hist2)
  (tabGet (fun _ => []) t (65536 * (4 * cell + ch) + y)).getD x 0

/-- How much history a frame has (R336). -/
def ageFor (s : State) (next : Bool) : Nat := if next then min 3 (s.pipe.histAge + 1) else s.pipe.histAge

/-- h1 and h2 of a pixel whose target is t. After a frame without history the other slot holds nothing the spec
states: h2 is then a free value. An entry of 1,024 lies in an uncorrectable line (R418). -/
def historyOf (s : State) (next : Bool) (cell ch x y t : Nat) : Nat × Nat :=
  let h1 := historyAt s next 1 cell ch x y
  let h2 := historyAt s next 2 cell ch x y
  match ageFor s next with
  | 0 | 1 => (hist10 t, hist10 t)
  | 2 => if 1024 ≤ h1 then (hist10 t, hist10 t)
    else (h1, Config.freeValue (s.fresh + 65536 * (65536 * ch + y) + x) % 1024)
  | _ => if 1024 ≤ h1 ∨ 1024 ≤ h2 then (hist10 t, hist10 t) else (h1, h2)

/-- The entries of a defect list for a cell and sub. -/
def defectsOf (s : State) (next : Bool) (cell sub : Nat) : List Defect :=
  (readDefects (tableFor s next 0x22F00000)).filter (fun e => decide (e.cell = cell ∧ e.sub = sub))

/-- Stages 2 to 5 of a channel on its plane, over a rectangle (R331 to R338): a stage that is off or has no table
passes its input through (R329). -/
def refChannel (s : State) (next : Bool) (cell ch stage : Nat) (p : Plane) (r : Rect) : Plane :=
  let ctrl := ctrlFor s next
  match stage with
  | 2 =>
    let lin := tableFor s next (linId cell ch)
    if lin = [] then p.crop r else Plane.over r (fun x y => linearise (u16At lin) (p.read x y))
  | 3 =>
    let map := tableFor s next (demuraId cell ch)
    if map = [] ∨ ¬ demuraOn ctrl cell then p.crop r else Plane.over r (fun x y => demura map x y (p.read x y))
  | 4 =>
    let es := defectsOf s next cell ch
    if es = [] ∨ ¬ concealOn ctrl cell then p.crop r else Plane.over r (fun x y => conceal es p x y)
  | _ =>
    match odFor s next cell, odOn ctrl cell with
    | some (a, b, w), true =>
      let ta := tableFor s next (odId cell a)
      let tb := tableFor s next (odId cell b)
      Plane.over r (fun x y =>
        let t := p.read x y
        let h := historyOf s next cell ch x y t
        overdrive ta tb (decide (a = b)) w ch t h.1 h.2)
    | _, _ => p.crop r

/-- Replace a plane of a list. -/
def putPlane (ps : List Plane) (i : Nat) (p : Plane) : List Plane := listPut ps i p

/-- Split settings of this scan frame or the next. -/
def splitCfg (s : State) (next : Bool) : SplitCfg :=
  { split := tableFor s next 0x10F00000, rear := tableFor s next 0x11100000, filter := tableFor s next 0x12F00000,
    dual := (cellsNow s).contains 1, dimming := dimmingFor s next }

/-- One step of a job's chain by the reference kernel. -/
def refStep (s : State) (next : Bool) (j : Job) (stage ch : Nat) : Job :=
  let t := tileRect s j.tc j.tr
  let r := stageRect s next j.cell stage t
  match stage with
  | 1 =>
    match j.planes with
    | [cr, cg, cb] =>
      let zones := zonesFor s next
      let out := splitTile (splitCfg s next) cr cg cb
        (fun x y => tabGet (fun _ => 65535) zones (zoneOf (panelW s) (panelH s) x y)) (panelW s) (panelH s) r
      let peaks := [out.m.crop t, out.rt.crop t, out.rearClip.crop t, out.frontClip.crop t]
      { j with planes := if j.cell = 0 then out.tf else [out.tr], peaks := peaks }
    | _ => j
  | 7 => { j with stats := tileStats s t j.peaks }
  | 6 => j
  | _ =>
    let p := j.planes.getD ch default
    let j := if stage = 5 then { j with targets := j.targets ++ [p] } else j
    { j with planes := putPlane j.planes ch (refChannel s next j.cell ch stage p r) }

/-! ### Drive values -/

/-- Drive depth N. -/
def driveDepth (s : State) : Nat := (s.raster.panel.map (·.depth)).getD 12

/-- Lin[0] of a channel. -/
def lin0 (s : State) (cell ch : Nat) : Nat := u16At ((activeTable s (linId cell ch)).getD []) 0

/-- The black drive level of a channel (R330). -/
def blackLevel (s : State) (cell ch : Nat) : Nat := lin0 s cell ch / 2 ^ (16 - driveDepth s)

/-- Dither mode: 3 acts as ordered (R348). -/
def ditherMode (w : Word) : Nat := if field w 8 2 = 3 then 1 else field w 8 2

/-- Riffle dither of drive d of a channel at a pixel, in scan frame n (R344). -/
def ditherAt (s : State) (n cell ch x y d : Nat) : Nat :=
  let ofs := field s.pipe.ofs (if cell = 0 then 2 * ch else 6) 2
  riffle ((activeTable s 0x24F00000).getD []) (ditherMode s.pipe.ctrl) (driveDepth s) ((n + ofs) % 4) x y d

/-- Values over one line of a rectangle. -/
def rowOf (r : Rect) (f : Nat → Nat) : List Nat := (List.range r.w).map (fun i => f (r.x + i))

/-- Put values into a line from index i on; a line that holds nothing yet becomes a line of n zeros first. -/
def putRow (line : List Nat) (n i : Nat) (vs : List Nat) : List Nat :=
  let l := if line = [] then List.replicate n 0 else line
  l.take i ++ vs ++ l.drop (i + vs.length)

/-- The output lines of a tile: drive of channel ch at (x, y), dithered and formatted (R344, R345). -/
def putDrive (cell : Nat) (t : Rect) (drive : Nat → Nat → Nat → Nat) (s : State) : State :=
  let k := if cell = 0 then 3 else 1
  let put := fun (d : Tab (List Nat)) (j : Nat) =>
    let y := t.y + j
    let vs := (rowOf t (fun x => x)).flatMap (fun x => (channelsOf cell).map (fun ch => ditherAt s (sfn s) cell ch x y (drive ch x y)))
    let key := 16384 * cell + y
    tabSet (fun _ => []) d key (putRow (tabGet (fun _ => []) d key) (k * panelW s) (k * t.x) vs)
  setPipe { s.pipe with drive := (List.range t.h).foldl put s.pipe.drive } s

/-- The history a tile writes: h of channel ch at (x, y) (R336). -/
def putHistory (cell : Nat) (t : Rect) (h : Nat → Nat → Nat → Nat) (s : State) : State :=
  let put := fun (d : Tab (List Nat)) (e : Nat × Nat) =>
    let y := t.y + e.2
    let key := 65536 * (4 * cell + e.1) + y
    tabSet (fun _ => []) d key (putRow (tabGet (fun _ => []) d key) (panelW s) t.x (rowOf t (fun x => h e.1 x y)))
  let lines := (channelsOf cell).flatMap (fun ch => (List.range t.h).map (fun j => (ch, j)))
  setPipe { s.pipe with histNew := lines.foldl put s.pipe.histNew } s

/-- Drive line l of the stored frame of IDLE. It takes the place of a composed frame in its slot, 6 bytes a pixel row by row:
in an uncorrectable 64 bytes, which come from another slot or read as zero (R418), the values are free, as the spec does not
say how the slot packs them. -/
def idleLine (s : State) (cell l : Nat) : List Nat :=
  let row := tabGet (fun _ => []) s.pipe.idleFrame (16384 * cell + l)
  if !s.rsv.badLines.any (fun (b : Nat × Nat) => decide (b.1 = 0 ∧ b.2 / slotLines = s.pipe.idleSlot)) then row
  else
    let per := (channelsOf cell).length
    row.mapIdx (fun i v =>
      let at_ := 6 * (panelW s * l + i / per)
      if slotBad s s.pipe.idleSlot (at_ / 64) || slotBad s s.pipe.idleSlot ((at_ + 5) / 64) then
        Config.freeValue (s.fresh + 2 ^ 29 * (cell + 1) + 65536 * l + i) % 2 ^ driveDepth s
      else v)

/-- Drive line l of a cell as it leaves output formatting: the black frame and the stored frame of IDLE take the
place of what the tiles gave (R267, R341). -/
def driveLine (s : State) (cell l : Nat) : List Nat :=
  match s.raster.shown with
  | .black => (List.range (panelW s)).flatMap (fun _ => (channelsOf cell).map (blackLevel s cell))
  | .idle => idleLine s cell l
  | _ => tabGet (fun _ => []) s.pipe.drive (16384 * cell + l)

/-- Every tile of line l of a cell has retired or fallen back. -/
def lineReady (s : State) (cell l : Nat) : Bool :=
  match s.raster.shown with
  | .black | .idle => true
  | .nothing => false
  | _ => (List.range (tileCols s)).all (fun tc => tileDone s cell tc (l / 16))

/-! ### The stored drive frame of IDLE (R341) -/

/-- The drive planes of a whole cell for the composed frame shown: overdrive passes through, and a stage with a
customer kernel gives free values. Targets come first, then T planes are not needed. -/
def wholeCell (s : State) (cell : Nat) (shown : Shown) : List Plane :=
  let full : Rect := { x := 0, y := 0, w := panelW s, h := panelH s }
  let composed := [0, 1, 2].map (composedPlane s shown full)
  let custom := fun stage => decide ((bindOf s cell stage).handle ≠ 0)
  let free := fun (salt : Nat) => Plane.over full (fun x y => Config.freeValue (s.fresh + 2 ^ 28 * salt + 16384 * y + x) % 65536)
  let zones := zonesFor s false
  let t := match composed with
    | [cr, cg, cb] =>
      let o := splitTile (splitCfg s false) cr cg cb
        (fun x y => tabGet (fun _ => 65535) zones (zoneOf (panelW s) (panelH s) x y)) (panelW s) (panelH s) full
      if custom 1 then (channelsOf cell).map free else if cell = 0 then o.tf else [o.tr]
    | _ => []
  (t.zip (channelsOf cell)).map (fun e =>
    [2, 3, 4].foldl (fun p stage =>
      if custom stage then free (8 * (e.2 + 1) + stage) else refChannel s false cell e.2 stage p full) e.1)

/-- What the drive frame of IDLE is computed from: the hold frame that stays on screen, or the newest composed frame. -/
def idleShows (s : State) : Shown :=
  match s.hold.play, s.comp.ring with
  | some p, _ => .hold p.item p.frame
  | none, c :: _ => .composed c.cfn
  | none, [] => .nothing

/-- The drive frame of IDLE is computed and stored, and its targets are kept for both history slots: they take them when IDLE is
reached, as the tiles of the frame that still scans use its own history. -/
def storeIdleFrame (s : State) : State :=
  let shown := idleShows s
  let cells := (cellsNow s).map (fun c => (c, wholeCell s c shown))
  let lines := cells.flatMap (fun e => (List.range (panelH s)).map (fun y =>
    (16384 * e.1 + y, (List.range (panelW s)).flatMap (fun x => (channelsOf e.1).map (fun ch =>
      ditherAt s 0 e.1 ch x y ((e.2.getD ch default).read x y))))))
  let hist := cells.flatMap (fun e => (channelsOf e.1).flatMap (fun ch => (List.range (panelH s)).map (fun y =>
    (65536 * (4 * e.1 + ch) + y, (List.range (panelW s)).map (fun x => hist10 ((e.2.getD ch default).read x y))))))
  let tab := fun (ls : List (Nat × List Nat)) => ls.foldl (fun t e => tabSet (fun _ => []) t e.1 e.2) ([] : Tab (List Nat))
  let s := (List.range (panelH s)).foldl (fun s y => freshRow (ringSlot s) y s) s
  setPipe { s.pipe with idleFrame := tab lines, idleHist := some (tab hist), idleSlot := ringSlot s }
    { openSlot s with fresh := s.fresh + 2 ^ 34 }

/-- IDLE is in force: both history slots hold the targets of its drive frame (R341). -/
def takeIdleHistory (s : State) : State :=
  match s.pipe.idleHist with
  | some h =>
    if s.power.state = .idle then
      setPipe { s.pipe with idleHist := none, hist1 := h, hist2 := h, histNew := h, histAge := 3 } s
    else s
  | none => s

end Sys2Proof.Machine
end

