-- ==== Sys2Proof/Machine/DriveChk.lean ====
section
/-! DEFINITION. Rectangles of check point DRIVE, and the end of a rectangle's computation (R484 to R488). -/

namespace Sys2Proof.Machine

/-- The values of a DRIVE rectangle in a drive line: R, G, B of the front cell, the one value of the rear (R487). -/
def driveSpan (s : State) (r : Nat) (line : List Nat) : List Nat :=
  let k := if rectSource s r = 0 then 3 else 1
  (line.drop (k * rectX s r)).take (k * rectW s r)

/-- The values of a DRIVE rectangle in drive line l. -/
def driveSamples (s : State) (r l : Nat) : List Nat := driveSpan s r (driveLine s (rectSource s r) l)

/-- Line y + h - 1 of a DRIVE rectangle, and every line above it, has left output formatting in this scan frame. -/
def driveReady (s : State) (r : Nat) : Bool :=
  (rectLines s r).all (lineReady s (rectSource s r))

/-- Record the value of a DRIVE rectangle for scan frame n, when it is ready and has not been recorded. -/
def computeDrive (n : Nat) (s : State) (r : Nat) : State :=
  if rectDue s r n && driveReady s r then
    rectComputed r n (crc32c (crcBytes ((rectLines s r).flatMap (driveSamples s r)))) false s
  else s

/-- Every DRIVE rectangle whose lines are complete has its value of scan frame n. -/
def computeDrives (n : Nat) (s : State) : State :=
  ((List.range 16).map (· + 32)).foldl (fun s r => if rectOn s r then computeDrive n s r else s) s

/-- In IDLE each scan frame n records the value of the drive frame as it was stored, under its own SFN (R488). -/
def idleDrives (n : Nat) (s : State) : State :=
  ((List.range 16).map (· + 32)).foldl (fun s r =>
    if rectDue s r n then
      let value := fun l => driveSpan s r (tabGet (fun _ => []) s.pipe.idleFrame (16384 * rectSource s r + l))
      rectComputed r n (crc32c (crcBytes ((rectLines s r).flatMap value))) false s
    else s) s

/-- CHECK_FRAME_COMPUTED (R484, R489): the computation of a rectangle ends for the frame in progress. -/
def execCheckFrameComputed (rect : Nat) (s : State) : Host.Outcome State Fault Refusal :=
  if 48 ≤ rect ∨ ¬ rectOn s rect then .next s
  else if checkPoint rect = 2 then .next (computeDrive (sfn s) s rect)
  else .next (computeRect s rect)

end Sys2Proof.Machine
end

