-- ==== Sys2Proof/Machine/Units.lean ====
section
/-! DEFINITION. The unit state table (R143, R549, R550): what the data path asks of it, and what MGMT writes. -/

namespace Sys2Proof.Machine

/-- State of a unit in a device whose links and store are down: enabled, fenced, or no such unit. -/
def unitDefault (u : Nat) : Nat :=
  if 0x10 ≤ u ∧ u ≤ 0x14 then 2 else if unitListed u then 1 else 0

/-- Byte of the unit state table as MGMT has written it. A port that a merge absorbs reads 0. -/
def unitRaw (s : State) (u : Nat) : Nat :=
  if 0x10 ≤ u ∧ u ≤ 0x13 ∧ ¬ portExists s (u - 0x10) then 0 else tabGet unitDefault s.fault.units u

/-- The unit's clock runs, and for a quadrant or a cluster its rail is on, in the power state (R28, R31, R549). -/
def unitClocked (s : State) (u : Nat) : Bool :=
  match s.power.state with
  | .run => true
  | .idle => !([0x30, 0x31, 0x90, 0x98].contains u)
  | .sleep => [0x01, 0xA0].contains u
  | _ => decide (u = 0xA0)

/-- Byte of the unit state table: a unit without a clock or a rail shows 3; ports and the store have states of their own. -/
def unitByte (s : State) (u : Nat) : Nat :=
  let b := unitRaw s u
  if (0x10 ≤ u ∧ u ≤ 0x14) ∨ b % 8 = 0 ∨ b % 8 = 4 ∨ unitClocked s u then b else b - b % 8 + 3

/-- State field of the table as MGMT has written it. -/
def unitState (s : State) (u : Nat) : Nat := unitRaw s u % 8

/-- The state that the data path holds for a unit: what it has asked for, or what the table shows. -/
def dataPathState (s : State) (u : Nat) : Nat :=
  match tabGet (fun _ => 0) s.fault.dataPath u with
  | 0 => unitState s u
  | n + 1 => n

/-- The data path changes a unit's state: mgmt_stale is set in the same step (R550). -/
def askUnit (u st : Nat) (s : State) : State :=
  if dataPathState s u = st then s
  else { s with fault := { s.fault with
    dataPath := tabSet (fun _ => 0) s.fault.dataPath u (st + 1),
    units := tabSet unitDefault s.fault.units u (128 + unitState s u) } }

/-- MGMT writes a unit's entry: mgmt_stale clears and UNIT_STATE is posted (R550). -/
def writeUnit (u st : Nat) (s : State) : State :=
  let old := unitState s u
  let s := { s with fault := { s.fault with
    dataPath := tabSet (fun _ => 0) s.fault.dataPath u 0, units := tabSet unitDefault s.fault.units u st } }
  s |> setFlag Flag.FAULT_unit_state |> postEvent .device 0x0EF4 1 0 (dataAt 24 u ||| dataAt 25 old ||| dataAt 26 st)

/-- UNIT_STATE_UPDATE (R550). -/
def execUnitStateUpdate (unit : Nat) (s : State) : Host.Outcome State Fault Refusal :=
  match tabGet (fun _ => 0) s.fault.dataPath unit with
  | 0 => .next s
  | n + 1 => .next (writeUnit unit n s)

end Sys2Proof.Machine
end

