-- ==== Sys2Proof/Machine/Tiles.lean ====
section
/-! DEFINITION. The Eddy array around its engines: roles, dispatch, retirement, fallback, stops and fences (R349 to
R376), the job record and its areas (R406), and the tile commands. -/

namespace Sys2Proof.Machine

/-! ### Engines and clusters -/

def engineOf (s : State) (e : Nat) : Engine := tabGet (fun _ => {}) s.array.engines e

def setEngine (e : Nat) (v : Engine) (s : State) : State :=
  { s with array := { s.array with engines := tabSet (fun _ => {}) s.array.engines e v } }

def clusterOf (s : State) (c : Nat) : Cluster := tabGet (fun _ => {}) s.array.clusters c

def setCluster (c : Nat) (v : Cluster) (s : State) : State :=
  { s with array := { s.array with clusters := tabSet (fun _ => {}) s.array.clusters c v } }

/-- Quadrants in the rear role, the firmware's moves included (R349, R364). -/
def rearMask (s : State) : Nat := s.array.moved.getD (rdF s Reg.ENG_CTRL Fld.ENG_CTRL_rear_role)

/-- Role of a quadrant: 0 front, 1 rear. -/
def roleOf (s : State) (q : Nat) : Nat := b2n (bitAt (rearMask s) q)

/-- The cell whose tiles an engine runs. -/
def engineCell (s : State) (e : Nat) : Nat := roleOf s (e / 64)

def clusterFenced (s : State) (c : Nat) : Bool := (clusterOf s c).fenced || (clusterOf s c).clockFenced

def engineFenced (s : State) (e : Nat) : Bool := (engineOf s e).fenced || clusterFenced s (e / 8)

/-- An engine runs a job, or holds one that has not retired. -/
def engineBusy (s : State) (e : Nat) : Bool := s.pipe.jobs.any (fun j => decide (j.engine = e) || j.group.contains e)

def unitOfCluster (c : Nat) : Nat := 0xC0 + c

/-- ENG_Cc_STAT.busy_engines follows the jobs. -/
def followEngines (c : Nat) (s : State) : State :=
  wrF (Reg.ENG_Cc_STAT c) Fld.ENG_Cc_STAT_busy_engines
    ((List.range 8).foldl (fun n i => n + 2 ^ i * b2n (engineBusy s (8 * c + i))) 0) s

/-- The fence bits that registers show. -/
def followFences (s : State) : State :=
  let s := (List.range 8).foldl (fun s i =>
    wr (Reg.ENG_FENCEi i) (BitVec.ofNat 32 ((List.range 32).foldl (fun n j => n + 2 ^ j * b2n (engineFenced s (32 * i + j))) 0)) s) s
  wrF Reg.ENG_STAT Fld.ENG_STAT_fenced_engines ((List.range 256).filter (engineFenced s)).length s

/-- Times of the last second. -/
def lastSecond (s : State) (ts : List Nat) : List Nat := within s 1000000000 ts

/-! ### Fallback (R342, R361) -/

/-- Replace a job by one of the same tile and frame. -/
def setJob (j : Job) (s : State) : State :=
  setPipe { s.pipe with jobs := s.pipe.jobs.map (fun i =>
    if i.cell = j.cell ∧ i.tc = j.tc ∧ i.tr = j.tr ∧ i.sfn = j.sfn then j else i) } s

/-- What an engine keeps when its registers, accumulators, predicates and st clear (R362, R379): its private memory, its record
of stops and errors, and mdone, which only csrw clears (R397). -/
def Engine.cleared (v : Engine) : Engine :=
  { data := v.data, flips := v.flips, fenced := v.fenced, stops := v.stops, eccs := v.eccs, mdone := v.mdone }

/-- An engine holds no job. -/
def clearEngine (e : Nat) (s : State) : State := setEngine e (engineOf s e).cleared s

/-- Slots of a cluster's queue that are free. -/
def freeSlots (k : Cluster) : List Nat := (List.range 16).filter (fun t => k.queue.all (fun r => r.tag != t))

/-- The input fetches of a job (R365): up to 64 lines of a plane of composed input each. -/
def inputFetches (j : Job) : Nat := 3 * (((j.planes.headD default).h + 63) / 64)

/-- Input fetch i of a job, in slot t of its cluster's queue. -/
def fetchReq (j : Job) (t i : Nat) : MoveReq :=
  let p := j.planes.headD default
  let y := 64 * (i / 3)
  { engine := j.engine, tag := t, window := 0, plane := i % 3, lines := min 64 (p.h - y), x := (p.x : Int) - 480 * j.tc,
    y := (p.y : Int) + y - 16 * j.tr, width := p.w, pitch := 2 * p.w,
    addr := 0x80000 + j.base + 64 + 2 * p.w * (i % 3 * p.h + y), input := true }

/-- The last n input fetches of a job enter the queue, as far as slots are free; the others wait (R365). -/
def enqueueFetch (j : Job) : Nat → State → State
  | 0, s => setJob { j with toFetch := 0 } s
  | n + 1, s =>
    let c := j.engine / 8
    match freeSlots (clusterOf s c) with
    | [] => setJob { j with toFetch := n + 1 } s
    | t :: _ =>
      let k := clusterOf s c
      enqueueFetch j n (setCluster c { k with queue := k.queue ++ [fetchReq j t (inputFetches j - n - 1)] } s)

/-- The input fetches that wait for a slot of a cluster's queue. -/
def enqueueFetches (c : Nat) (s : State) : State :=
  (s.pipe.jobs.filter (fun j => decide (j.engine / 8 = c ∧ j.toFetch ≠ 0))).foldl (fun s j => enqueueFetch j j.toFetch s) s

/-- A job leaves the array. -/
def dropJob (j : Job) (s : State) : State :=
  let s := setPipe { s.pipe with jobs := s.pipe.jobs.filter (fun i =>
    !decide (i.cell = j.cell ∧ i.tc = j.tc ∧ i.tr = j.tr ∧ i.sfn = j.sfn)) } s
  let s := (j.engine :: j.group).foldl (fun s e => clearEngine e s) s
  let c := clusterOf s (j.engine / 8)
  setCluster (j.engine / 8) { c with queue := c.queue.filter (fun q => q.engine != j.engine) } s |> enqueueFetches (j.engine / 8)
    |> followEngines (j.engine / 8)

/-- Note a fallback of a cluster for TILE_FALLBACK: the first tile and the count. -/
def noteFallen (f : Fallen) : List Fallen → List Fallen
  | [] => [f]
  | g :: gs => if g.cluster = f.cluster then { g with count := g.count + 1 } :: gs else g :: noteFallen f gs

/-- The zone maxima of the frame before, over the zones of a tile: what a fallback contributes (R313). -/
def oldZones (s : State) (t : Rect) : Tab Nat :=
  (zonesIn s t).foldl (fun z i => raise z i (tabGet (fun _ => 0) s.pipe.prevZones i)) []

/-- The last tile of the scan frame has retired or fallen back: its statistics are published (R314). -/
def publishStats (s : State) : State :=
  if s.pipe.done.length ≠ tileCols s * tileRows s * (cellsNow s).length then s
  else
    let st := frameStats s
    let s := (List.range 256).foldl (fun s b =>
      wr (Reg.BKL_HIST b) (BitVec.ofNat 32 (tabGet (fun _ => 0) st.histogram b)) s) s
    let s := wr Reg.BKL_CLIP_REAR (BitVec.ofNat 32 st.clipRear) s |> wr Reg.BKL_CLIP_FRONT (BitVec.ofNat 32 st.clipFront)
      |> wr Reg.BKL_STATS_SFN_LO (BitVec.ofNat 32 (sfn s))
    setPipe { s.pipe with statsSfn := sfn s } s

/-- The tag of a tile that has retired or fallen back waits for its issue time, or is written where that is recorded already
(R504). -/
def keepTag (cell : Nat) (g : TagRec) (s : State) : State :=
  if g.issued then writeTag g s else setPipe { s.pipe with tagged := s.pipe.tagged ++ [(cell, g)] } s

/-- A tile of this scan frame falls back (R361): PIPE gives its output from history, without an engine. -/
def fallTile (cell tc tr cause engine : Nat) (s : State) : State :=
  if tileDone s cell tc tr ∨ ¬ tileExists s cell tc tr then s
  else
    let t := tileRect s tc tr
    let old := s
    let none_ := decide (s.pipe.histAge ≤ 1)
    let lost := fun (ch x y : Nat) => none_ || decide (1024 ≤ historyAt old false 1 cell ch x y)
    let h := fun ch x y => if lost ch x y then hist10 (lin0 old cell ch) else historyAt old false 1 cell ch x y
    let d := fun (ch x y : Nat) => if lost ch x y then lin0 old cell ch else expand10 (historyAt old false 1 cell ch x y)
    let mine := s.pipe.jobs.filter (fun j => decide (j.cell = cell ∧ j.tc = tc ∧ j.tr = tr ∧ j.sfn = sfn s))
    let left := s.pipe.discarded.filter (fun d => decide (d.cell = cell ∧ d.tc = tc ∧ d.tr = tr ∧ d.sfn = sfn s))
    let tags := mine.filterMap (fun j => j.tag) ++ (if mine = [] then left.filterMap (fun d => d.tag) else [])
    let s := mine.foldl (fun s j => dropJob j s) s
    let s := putDrive cell t d s |> putHistory cell t h
    let p := s.pipe
    let stats := if cell = 0 then p.tileStats ++ [(tr, tc, { zoneMax := oldZones s t })] else p.tileStats
    let c := engine / 8
    let f : Fallen := { cluster := c, cell := cell, cause := cause, engine := engine, tr := tr, tc := tc }
    let slackFell := if cause ≤ 1 then (c / 8) :: p.slackFell else p.slackFell
    let p := { p with done := (cell, tr, tc) :: p.done, tileStats := stats, fallen := noteFallen f p.fallen }
    tags.foldl (fun s g => keepTag cell { g with flags := g.flags ||| 2 } s) (setPipe { p with slackFell := slackFell } s)
      |> setFlag (Flag.ENG_fallback (unitOfCluster c)) |> bumpSat Reg.ENG_FALLBACK_TILES (0, 32) 1
      |> fixedAdd 6 1 |> countEvent 0x31 0x11 1 |> publishStats

/-- The lowest-numbered engine of a role, where a fallback that no engine caused is counted. -/
def firstEngine (s : State) (role : Nat) : Nat := (((List.range 4).find? (fun q => decide (roleOf s q = role))).getD 0) * 64

/-- A tile falls back in this scan frame, or is set down for the next. -/
def fallBack (next : Bool) (cell tc tr cause engine : Nat) (s : State) : State :=
  if next then setPipe { s.pipe with early := s.pipe.early ++ [(cell, tc, tr, cause, engine)] } s
  else fallTile cell tc tr cause engine s

/-- A job that has left the array without an output falls back; its tag goes with it (R504). -/
def fallJob (j : Job) (cause e : Nat) (s : State) : State :=
  let s := if j.tag.isNone then s
    else setPipe { s.pipe with discarded := { sfn := j.sfn, cell := j.cell, tr := j.tr, tc := j.tc, tag := j.tag } :: s.pipe.discarded } s
  fallBack (decide (j.sfn ≠ sfn s)) j.cell j.tc j.tr cause e s

/-- An engine leaves the group of a frame job (R398); without engines the job ends. -/
def engineLeaves (e : Nat) (j : Job) (s : State) : State :=
  let g := j.group.filter (fun i => i != e)
  if g = [] then dropJob j s
  else
    let j := { j with engine := g.headD j.engine, group := g }
    setJob j (clearEngine e s) |> followEngines (e / 8)

/-- Every job on an engine falls back; of a frame job, the engine leaves the group. -/
def fallEngine (e cause : Nat) (s : State) : State :=
  (s.pipe.jobs.filter (fun j => decide (j.engine = e) || j.group.contains e)).foldl (fun s j =>
    if j.cell = 2 then engineLeaves e j s
    else dropJob j s |> fallJob j cause e) s

/-- TILE_FALLBACK of the scan frame that ends, one per cluster. -/
def tellFallen (s : State) : State :=
  let s := s.pipe.fallen.foldl (fun s f =>
    postEvent .device 0x04F0 (unitOfCluster f.cluster) 1 (dataAt 24 f.cell ||| dataAt 25 f.cause ||| dataAt 26 f.engine |||
      dataAt 27 (min 255 f.count) ||| dataAt 28 f.tr ||| dataAt 30 f.tc) s) s
  setPipe { s.pipe with fallen := [] } s

/-! ### Fences (R364, R548) -/

/-- UNIT_FENCED and the fence flag. engine is 0xFF for a cluster. -/
def tellFence (c engine cause : Nat) (s : State) : State :=
  s |> followFences |> setFlag Flag.FAULT_fence
    |> postEvent .device 0x04F6 (unitOfCluster c) 2 (dataAt 24 engine ||| dataAt 25 cause)

/-- The data path fences a unit again: each DIAG_UNIT_ENABLE of it that waits completes with REFUSED (R551). -/
def refuseEnables (u : Nat) (s : State) : State :=
  let mine := s.fault.awaiting.filter (fun a => decide (a.1 = u) && a.2.1)
  let s := { s with fault := { s.fault with awaiting := s.fault.awaiting.filter (fun a => !(decide (a.1 = u) && a.2.1)) } }
  mine.foldl (fun s a => match dscOf s a.2.2.1 a.2.2.2.1 a.2.2.2.2 with
    | some d => refuseWith d .refused u s
    | none => s) s

/-- A cluster is fenced: its jobs fall back. -/
def fenceCluster (c cause : Nat) (s : State) : State :=
  if (clusterOf s c).fenced then s
  else
    let s := setCluster c { clusterOf s c with fenced := true, passLeft := none } s
      |> wrF (Reg.ENG_Cc_STAT c) Fld.ENG_Cc_STAT_fenced 1 |> askUnit (unitOfCluster c) 2
    let s := (List.range 8).foldl (fun s i => fallEngine (8 * c + i) 1 s) s
    tellFence c 0xFF cause s

/-- The clusters of a quadrant are fenced with it: the data path sets their entries too (R364, R549, R550). -/
def fenceClocks (q : Nat) (s : State) : State :=
  (List.range 8).foldl (fun s i =>
    let c := 8 * q + i
    let s := if clusterFenced s c then s else askUnit (unitOfCluster c) 2 s
    setCluster c { clusterOf s c with clockFenced := true } s |> wrF (Reg.ENG_Cc_STAT c) Fld.ENG_Cc_STAT_fenced 1) s

/-- A quadrant is fenced with all its clusters. -/
def fenceQuadrant (q cause : Nat) (s : State) : State :=
  let s := fenceClocks q s
  let s := askUnit (0x40 + q) 2 s |> refuseEnables (0x40 + q)
  let s := (List.range 64).foldl (fun s i => fallEngine (64 * q + i) 1 s) s
  tellFence (8 * q) 0xFF cause s

/-- An engine is fenced; the fourth in a cluster fences the cluster. -/
def fenceEngine (e cause : Nat) (s : State) : State :=
  if (engineOf s e).fenced then s
  else
    let s := setEngine e { engineOf s e with fenced := true } s |> wrF (Reg.ENG_Ee_STAT e) Fld.ENG_Ee_STAT_fenced 1
      |> tellFence (e / 8) e cause
    if 4 ≤ ((List.range 8).filter (fun i => (engineOf s (8 * (e / 8) + i)).fenced)).length then fenceCluster (e / 8) 2 s else s

/-! ### Stops and kernel faults (R362, R363) -/

/-- An engine is stopped: its registers clear, its private memory stays, and the third stop within 1 s fences it. -/
def stopEngine (e cause : Nat) (s : State) : State :=
  let v := engineOf s e
  let stops := upNs s :: lastSecond s v.stops
  let s := tick (setEngine e { v.cleared with stops := stops } s)
    |> bumpSat (Reg.ENG_Ee_STAT e) Fld.ENG_Ee_STAT_stops 1 |> setFlag (Flag.ENG_engine_stop (unitOfCluster (e / 8)))
    |> postEvent .device 0x04F1 (unitOfCluster (e / 8)) 1 (dataAt 24 e ||| dataAt 25 cause)
  if 3 ≤ stops.length then fenceEngine e 0 s else s

def setBind (cell stage : Nat) (b : Bind) (s : State) : State :=
  { s with tables := { s.tables with binds := tabSet (fun _ => {}) s.tables.binds (8 * cell + stage) b } }

/-- A customer kernel faults on a tile; the sixteenth within 1 s has the firmware replace it from the next scan frame
on (R363). -/
def noteKernelFault (cell stage : Nat) (s : State) : State :=
  let b := bindOf s cell stage
  let faults := upNs s :: lastSecond s b.faults
  if b.handle = 0 then s
  else if faults.length < 16 then tick (setBind cell stage { b with faults := faults } s)
  else
    let s := setBind cell stage { b with faults := [] } s
    { s with tables := { s.tables with replace := s.tables.replace ++ [(cell, stage)] } }
      |> degrade cell stage
      |> postEvent .device 0x04F7 (0x40) 2 (dataAt 24 stage ||| dataAt 25 cell ||| dataAt 28 b.handle)

/-- A kernel fault (R363, R376): causes 0 mover window, 1 instruction, 2 private address, 3 scratchpad address. -/
def kernelFault (e cause : Nat) (s : State) : State :=
  let v := engineOf s e
  s |> setFlag (Flag.ENG_kernel_fault (unitOfCluster (e / 8)))
    |> postEvent .device 0x04F2 (unitOfCluster (e / 8)) 2
      (dataAt 24 e ||| dataAt 25 v.stage ||| dataAt 26 v.cell ||| dataAt 27 cause ||| dataAt 28 v.handle)
    |> stopEngine e 2 |> noteKernelFault v.cell v.stage |> fallEngine e 1

/-! ### Scratchpad areas and the job record (R406) -/

/-- Read n bytes of a cluster scratchpad. -/
def padRead (s : State) (c a n : Nat) : List Byte := (List.range n).map (fun i => tabGet (fun _ => 0) (clusterOf s c).pad (a + i))

/-- Write bytes to a cluster scratchpad; what would lie past its end is not written. A whole word written carries fresh check
bits. -/
def padWrite (c a : Nat) (bs : List Byte) (s : State) : State :=
  let k := clusterOf s c
  let pad := (bs.zipIdx).foldl (fun t e => if a + e.2 < 524288 then tabSet (fun _ => 0) t (a + e.2) e.1 else t) k.pad
  let whole := fun w => decide (a ≤ 8 * w ∧ 8 * w + 8 ≤ a + bs.length)
  setCluster c { k with pad := pad, flips := tabKeep (fun w => !whole w) k.flips } s

/-- Where a stage's planes and tables lie in a job's area. The layout is the model's: a kernel takes every address
from the record. -/
structure StageArea where
  ins : List Plane
  inH : Nat
  inV : Nat
  outs : Nat
  outH : Nat
  outV : Nat
  aux : List Byte
  auxCount : Nat
  tables : List (Nat × List Byte)
  work : Nat
deriving DecidableEq, Repr

def StageArea.inPitch (a : StageArea) (w : Nat) : Nat := 2 * (w + 2 * a.inH)
def StageArea.inStride (a : StageArea) (w h : Nat) : Nat := a.inPitch w * (h + 2 * a.inV)
def StageArea.outPitch (a : StageArea) (w : Nat) : Nat := 2 * (w + 2 * a.outH)
def StageArea.outStride (a : StageArea) (w h : Nat) : Nat := a.outPitch w * (h + 2 * a.outV)

/-- A length rounded up to 64 bytes. -/
def up64 (n : Nat) : Nat := (n + 63) / 64 * 64

def StageArea.outAt (a : StageArea) (w h : Nat) : Nat := 64 + up64 (a.ins.length * a.inStride w h)
def StageArea.auxAt (a : StageArea) (w h : Nat) : Nat := a.outAt w h + up64 (a.outs * a.outStride w h)
def StageArea.dirAt (a : StageArea) (w h : Nat) : Nat := a.auxAt w h + up64 a.aux.length
def StageArea.tabAt (a : StageArea) (w h : Nat) : Nat := a.dirAt w h + up64 (8 * a.tables.length)
def StageArea.workAt (a : StageArea) (w h : Nat) : Nat :=
  (a.tables.map (fun t => up64 t.2.length)).foldl (· + ·) (a.tabAt w h)
def StageArea.total (a : StageArea) (w h : Nat) : Nat := a.workAt w h + up64 a.work

/-- Tables resident for a stage and channel of a cell. -/
def stageTables (s : State) (next : Bool) (cell stage ch : Nat) : List (Nat × List Byte) :=
  let ids := match stage with
    | 1 => [0x10F00000, 0x11100000, 0x12F00000]
    | 2 => [linId cell ch]
    | 4 => [0x22F00000]
    | 5 => match odFor s next cell with
      | some (a, b, _) => if a = b then [odId cell a] else [odId cell a, odId cell b]
      | none => []
    | _ => []
  (ids.map (fun id => (id, tableFor s next id))).filter (fun e => decide (e.2 ≠ []))

/-- What a stage of a job reads and writes. -/
def stageArea (s : State) (next : Bool) (j : Job) (stage ch : Nat) : StageArea :=
  let filter := tableFor s next 0x12F00000
  let t := tileRect s j.tc j.tr
  let hi := haloFrom s filter j.cell stage
  let ho := haloFrom s filter j.cell (stage + 1)
  let zones := zonesIn s t
  let b := zonesFor s next
  let work := ((kernelOf s (bindOf s (if j.cell = 2 then 0 else j.cell) stage).handle).map (·.scratchBytes)).getD 0
  let tabs := stageTables s next j.cell stage ch
  match stage with
  | 1 => { ins := j.planes, inH := hi.2, inV := hi.1, outs := if j.cell = 0 then 3 else 1, outH := ho.2, outV := ho.1,
           aux := zones.flatMap (fun z => leBytes 2 (tabGet (fun _ => 65535) b z)), auxCount := zones.length,
           tables := tabs, work := work }
  | 7 =>
    let st := tileStats s t j.peaks
    { ins := j.peaks.take 2, inH := 0, inV := 0, outs := 0, outH := 0, outV := 0,
      aux := List.replicate 1024 0 ++ leBytes 4 st.clipRear ++ leBytes 4 st.clipFront ++ List.replicate (2 * zones.length) 0,
      auxCount := zones.length, tables := tabs, work := work }
  | 6 => { ins := [], inH := 0, inV := 0, outs := 10, outH := 0, outV := 0,
           aux := (List.range 2304).flatMap (fun z => leBytes 2 (tabGet (fun _ => 0) (frameStats s).zoneMax z)), auxCount := 0,
           tables := tabs, work := work }
  | _ => { ins := [j.planes.getD ch default], inH := hi.2, inV := hi.1, outs := 1, outH := ho.2, outV := ho.1,
           aux := [], auxCount := 0, tables := tabs, work := work }

/-- Output rectangle that a job's record names: a frame job has none, and its output is 2,304 values in zone order. -/
def jobRect (s : State) (j : Job) : Rect := if j.cell = 2 then { x := 0, y := 0, w := 480, h := 1 } else tileRect s j.tc j.tr

/-- The 64 bytes of the job record (R406). -/
def jobRecord (s : State) (j : Job) (stage ch : Nat) (a : StageArea) : List Byte :=
  let t := jobRect s j
  let ea := fun o => 0x80000 + j.base + o
  let channel := if stage = 1 ∨ 6 ≤ stage then 0xFF else ch
  let flags := b2n j.speculative + 2 * b2n (decide (ageFor s (decide (j.sfn ≠ sfn s)) ≤ 1)) +
    4 * b2n (dimmingFor s (decide (j.sfn ≠ sfn s))) + 8 * b2n (decide (j.cell = 2))
  let budget := Config.freeValue s.fresh % 2 ^ 32
  leBytes 8 j.sfn ++ leBytes 2 j.tc ++ leBytes 2 j.tr ++ leBytes 1 (if j.cell = 2 then 0 else j.cell) ++ leBytes 1 channel ++
    leBytes 1 stage ++ leBytes 1 flags ++ leBytes 2 t.x ++ leBytes 2 t.y ++ leBytes 2 t.w ++ leBytes 2 t.h ++
    leBytes 4 (ea 64) ++ leBytes 2 (a.inPitch t.w) ++ leBytes 1 a.inH ++ leBytes 1 a.inV ++ leBytes 4 (a.inStride t.w t.h) ++
    leBytes 4 (ea (a.outAt t.w t.h)) ++ leBytes 2 (a.outPitch t.w) ++ leBytes 1 a.outH ++ leBytes 1 a.outV ++
    leBytes 4 (a.outStride t.w t.h) ++ leBytes 4 (if a.aux = [] then 0 else ea (a.auxAt t.w t.h)) ++
    leBytes 4 (ea (a.dirAt t.w t.h)) ++ leBytes 2 a.tables.length ++ leBytes 2 a.auxCount ++ leBytes 4 budget

/-- A plane laid out with its halo, parts outside the frame filled with the nearest pixel (R396). -/
def planeBytes (t : Rect) (hh hv : Nat) (p : Plane) : List Byte :=
  (List.range (t.h + 2 * hv)).flatMap (fun j => (List.range (t.w + 2 * hh)).flatMap (fun i =>
    leBytes 2 (p.read ((t.x : Int) + i - hh) ((t.y : Int) + j - hv))))

/-- The directory and the resident sections. -/
def tableBytes (base : Nat) : Nat → List (Nat × List Byte) → List Byte × List Byte
  | _, [] => ([], [])
  | o, e :: es =>
    let rest := tableBytes base (o + up64 e.2.length) es
    (leBytes 4 e.1 ++ leBytes 4 (0x80000 + base + o) ++ rest.1,
     e.2 ++ List.replicate (up64 e.2.length - e.2.length) 0 ++ rest.2)

/-- Place a stage's record, planes and tables in the job's area. -/
def placeStage (j : Job) (stage ch : Nat) (a : StageArea) (s : State) : State :=
  let c := j.engine / 8
  let t := jobRect s j
  let tabs := tableBytes j.base (a.tabAt t.w t.h) a.tables
  s |> padWrite c j.base (jobRecord s j stage ch a)
    |> padWrite c (j.base + 64) (a.ins.flatMap (planeBytes t a.inH a.inV))
    |> padWrite c (j.base + a.auxAt t.w t.h) a.aux |> padWrite c (j.base + a.dirAt t.w t.h) tabs.1
    |> padWrite c (j.base + a.tabAt t.w t.h) tabs.2 |> tick

/-- State of an engine at a stage start (R379, R406); st.dwarn stays 1 until the job ends (R401). -/
def stageStart (s : State) (e : Nat) (j : Job) (stage idx work : Nat) (k : Kernel) (b : Bind) : Engine :=
  let v := engineOf s e
  let len := if b.param = [] then k.param.length else b.param.length
  { v.cleared with
    running := true, stage := stage, cell := if j.cell = 2 then 0 else j.cell, handle := b.handle, frameJob := decide (j.cell = 2),
    s := [(1, BitVec.ofNat 32 (0x80000 + j.base)), (2, BitVec.ofNat 32 (0x80000 + j.base + work))] ++
      (if len = 0 then [] else [(3, BitVec.ofNat 32 len)]) ++ (if idx = 0 then [] else [(4, BitVec.ofNat 32 idx)]),
    pc := k.entry, dwarn := v.dwarn }

/-- One time of a tag record. -/
def TagRec.setTime (g : TagRec) (i t : Nat) : TagRec := { g with times := listPut g.times i t }

/-- t_split and t_overdrive of a tagged job, as stage 1 and the first channel of stage 5 start (R504). -/
def tagStage (s : State) (stage ch : Nat) (j : Job) : Job :=
  if stage = 1 ∨ (stage = 5 ∧ ch = 0) then
    { j with tag := j.tag.map (fun g => g.setTime (if stage = 1 then 2 else 3) (Config.ticksAt s.fresh % 2 ^ 32)) }
  else j

/-- Run a job's chain on, with the kernels of its key: reference stages give their planes at once, as does a stage that passes its
input through (R329); a stage with a customer kernel starts on the job's engines, once that kernel's bind has taken effect and
its code is there (R410). -/
def advanceJob : Nat → Job → State → State
  | 0, j, s => setJob j s
  | fuel + 1, j, s =>
    match (chainSteps j.cell)[j.at_]? with
    | none => setJob j s
    | some (stage, ch) =>
      let next := decide (j.sfn ≠ sfn s)
      let cell := if j.cell = 2 then 0 else j.cell
      let b := bindOf (j.view s) cell stage
      match (kernelOf s b.handle).filter (fun _ => !stageOff s next cell stage ch) with
      | none =>
        let j := refStep (j.view s) next (tagStage s stage ch j) stage ch
        advanceJob fuel { j with at_ := j.at_ + 1 } { s with fresh := s.fresh + 2 ^ 40 }
      | some k =>
        if (bindOf s cell stage).handle ≠ b.handle ∨ (bindOf s cell stage).param ≠ b.param then setJob j s
        else
        let j := tagStage s stage ch j
        let a := stageArea (j.view s) next j stage ch
        let t := jobRect s j
        let s := setJob j s |> placeStage j stage ch a
        ((if j.group = [] then [j.engine] else j.group).zipIdx).foldl (fun s e =>
          setEngine e.1 (stageStart s e.1 j stage e.2 (a.workAt t.w t.h) k b) s) s

/-- The area a job needs: the largest of its stages with a customer kernel. -/
def jobSize (s : State) (next : Bool) (j : Job) : Nat :=
  let s := j.view s
  (chainSteps j.cell).foldl (fun n e =>
    let b := bindOf s (if j.cell = 2 then 0 else j.cell) e.1
    if b.handle = 0 then n
    else
      let a := stageArea s next j e.1 e.2
      let t := jobRect s j
      max n (a.total t.w t.h)) 0

/-- Where an area of n bytes fits in a cluster scratchpad: the lowest place. -/
def freePad (s : State) (c n : Nat) : Option Nat :=
  let used := (s.pipe.jobs.filter (fun j => decide (j.engine / 8 = c ∧ j.size ≠ 0))).map (fun j => (j.base, j.size))
  let spots := 0 :: used.map (fun u => up64 (u.1 + u.2))
  (spots.filter (fun a => decide (a + n ≤ 524288) && used.all (fun u => decide (a + n ≤ u.1 ∨ u.1 + u.2 ≤ a)))).foldl
    (fun best a => match best with
      | none => some a
      | some b => some (min a b)) none

/-- The cluster and the engines that a job of a role goes to (R357): n of them. -/
def chooseEngines (s : State) (role n size : Nat) : Option (Nat × List Nat) :=
  let last := tabGet (fun _ => 0) s.pipe.lastCluster role
  let order := (List.range 32).map (fun i => (last + i) % 32)
  let freeOf := fun c => ((List.range 8).map (· + 8 * c)).filter (fun e => !engineBusy s e && !engineFenced s e)
  match order.find? (fun c => decide (roleOf s (c / 8) = role ∧ n ≤ (freeOf c).length) && (freePad s c size).isSome) with
  | some c => some (c, (freeOf c).take n)
  | none => none

/-! ### Dispatch (R357 to R359) -/

/-- The window of a cell is closed: in locked-through mode, below one line (R355). -/
def windowClosed (s : State) (cell : Nat) : Bool := lockedThrough s && decide (windowNow s cell = 0)

/-- A job takes its engines: its input fetches enter the queue, and its chain runs once they are done; a frame job has none
(R365, R403). -/
def placeJob (c : Nat) (es : List Nat) (base : Nat) (j : Job) (s : State) : State :=
  let n := if j.cell = 2 then 0 else inputFetches j
  let j := { j with engine := es.headD 0, group := if j.cell = 2 then es else [], base := base, toFetch := n }
  let s := setPipe { s.pipe with jobs := s.pipe.jobs ++ [j] } s |> enqueueFetches c
  (if n = 0 then advanceJob (chainSteps j.cell).length j s else s) |> followEngines c

/-- Place a job on engines of its role. -/
def startJob (role : Nat) (j : Job) (n : Nat) (s : State) : State :=
  let size := jobSize s (decide (j.sfn ≠ sfn s)) j
  match chooseEngines s role n size with
  | none => s
  | some (c, es) =>
    placeJob c es ((freePad s c size).getD 0) { j with size := size }
      (setPipe { s.pipe with lastCluster := tabSet (fun _ => 0) s.pipe.lastCluster role (c + 1) } s)

/-- t_fetch and t_compose of a tile row of the frame that a job reads; 0 for a frame that was not composed (R504). -/
def rowTimes (s : State) (shown : Shown) (tr : Nat) : Nat × Nat :=
  match shown with
  | .composed n =>
    match s.comp.ring.find? (fun c => decide (c.cfn = n)) with
    | some c => tabGet (fun _ => (0, 0)) c.rowTimes tr
    | none => (((s.comp.cur.filter (fun c => decide (c.cfn = n))).map (fun c => tabGet (fun _ => (0, 0)) c.rowTimes tr))).getD (0, 0)
  | _ => (0, 0)

/-- A tag record for a job that the tagging register picks (R503, R504). -/
def newTag (s : State) (j : Job) : TagRec :=
  let t := rowTimes s j.key.shown j.tr
  { sfn := j.sfn, tr := j.tr, tc := j.tc, flags := b2n (decide (j.cell = 1)) + 8 * b2n j.speculative,
    times := [t.1, t.2, 0, 0, 0, 0] }

/-- Every composed line a job reads is complete. -/
def inputsReady (s : State) (next : Bool) (cell : Nat) (shown : Shown) (t : Rect) : Bool :=
  let r := inputRect s next cell t
  (List.range r.h).all (fun j => (shownLine s shown (r.y + j)).isSome)

/-- The deadline of a tile of this scan frame or the next, as a line of this scan frame (R354). -/
def deadlineLine (s : State) (next : Bool) (cell tr : Nat) : Int :=
  (16 * tr : Nat) - (if cell = 1 then (rearLead s : Int) else 0) - guardNow s + (if next then (linesNow s : Int) else 0)

/-- The job of a tile, before it has an engine. One that was discarded keeps its tag (R503, R504). -/
def tileJob (s : State) (cell tc tr : Nat) (next : Bool) (shown : Shown) : Job :=
  let was := s.pipe.discarded.find? (fun d => decide (d.cell = cell ∧ d.tc = tc ∧ d.tr = tr ∧ d.sfn = sfn s + b2n next))
  let j : Job := { sfn := sfn s + b2n next, cell := cell, tc := tc, tr := tr, engine := 0, key := jobKey s next cell shown,
                   speculative := next, recomputed := was.isSome,
                   tag := (was.bind (fun d => d.tag)).map (fun g => (g.setTime 2 0).setTime 3 0) }
  { j with planes := [0, 1, 2].map (composedPlane s shown (inputRect (j.view s) next cell (tileRect s tc tr))) }

/-- The inputs of a tile job are complete, and it is neither done nor under way. -/
def tileReady (s : State) (cell tc tr : Nat) (next : Bool) (shown : Shown) : Bool :=
  let dup := (s.pipe.jobs ++ s.pipe.reruns).any (fun j => decide (j.cell = cell ∧ j.tc = tc ∧ j.tr = tr ∧ j.sfn = sfn s + b2n next)) ||
    (!next && tileDone s cell tc tr) || (next && s.pipe.early.any (fun e => decide (e.1 = cell ∧ e.2.1 = tc ∧ e.2.2.1 = tr)))
  let j := tileJob s cell tc tr next shown
  compClocked s && tileExists s cell tc tr && !dup && !windowClosed s cell &&
    inputsReady (j.view s) next cell shown (tileRect s tc tr) &&
    (!next || (tileDone s cell tc tr && (!rdB s Reg.BKL_CTRL Fld.BKL_CTRL_dimming || s.pipe.nextZones.isSome)))

/-- Its inputs are complete, and a cluster of its role has a free engine and room for it. -/
def tileCould (s : State) (cell tc tr : Nat) (next : Bool) (shown : Shown) : Bool :=
  tileReady s cell tc tr next shown &&
    (chooseEngines s (if cell = 1 then 1 else 0) 1 (jobSize s next (tileJob s cell tc tr next shown))).isSome

/-- Of two tiles, the first has the earlier deadline; of two deadlines that are equal, the lower column, then the front cell. -/
def tileBefore (s : State) (nextA : Bool) (cellA tcA trA : Nat) (nextB : Bool) (cellB tcB trB : Nat) : Bool :=
  let a := deadlineLine s nextA cellA trA
  let b := deadlineLine s nextB cellB trB
  decide (a < b ∨ a = b ∧ (tcA < tcB ∨ tcA = tcB ∧ cellA < cellB))

/-- Another tile job goes before a tile's: one of this scan frame, or of the next where the tile is one of the next. -/
def tileWaits (s : State) (cell tc tr : Nat) (next : Bool) (shown : Shown) : Bool :=
  (if next then [false, true] else [false]).any (fun nx =>
    (cellsNow s).any (fun c => (List.range (tileRows s)).any (fun r =>
      decide (deadlineLine s nx c r ≤ deadlineLine s next cell tr) && (List.range (tileCols s)).any (fun t =>
        tileBefore s nx c t r next cell tc tr && tileCould s c t r nx (if nx then shown else s.raster.shown)))))

/-- B(k + 1) of the reference kernel of stage 6 (R316, R317). -/
def nextB (s : State) (dimming : Bool) : Tab Nat :=
  if !dimming then []
  else
    let hr := rdF s Reg.BKL_FILTER Fld.BKL_FILTER_headroom
    let dec := rdF s Reg.BKL_FILTER Fld.BKL_FILTER_decay
    let fl := rdF s Reg.BKL_FLOOR Fld.BKL_FLOOR_floor
    let peaks := (frameStats s).zoneMax
    (List.range 2304).foldl (fun t z =>
      let b := if s.pipe.dimming then tabGet (fun _ => 65535) s.pipe.zones z else 65535
      tabSet (fun _ => 65535) t z (zoneFilter hr dec fl (tabGet (fun _ => 0) peaks z) b)) []

/-- Dimming is on: BKL_CTRL.dimming with a controller enabled (R317). -/
def dimmingOn (s : State) : Bool :=
  rdB s Reg.BKL_CTRL Fld.BKL_CTRL_dimming && decide (s.pipe.ctrls ≠ 0)

/-- The frame job of stage 6, before it has engines. -/
def frameJob (s : State) : Job :=
  { sfn := sfn s, cell := 2, tc := 0, tr := 0, engine := 0, key := jobKey s false 2 s.raster.shown, speculative := false,
    stats := { zoneMax := nextB s (dimmingOn s) } }

/-- Every tile of the frame has retired, and its frame job has not run. -/
def frameReady (s : State) : Bool :=
  compClocked s && s.pipe.nextZones.isNone && !(s.pipe.jobs ++ s.pipe.reruns).any (fun j => decide (j.cell = 2)) &&
    decide (s.pipe.done.length = tileCols s * tileRows s * (cellsNow s).length)

/-- Deadline of the frame job, as a line of this scan frame (R354). -/
def frameDeadline (s : State) : Int := (linesNow s : Int) - rdF s Reg.ENG_DEADLINE Fld.ENG_DEADLINE_zone_lines

/-- The newest complete frame at the next scan frame start (R359). In buffered mode the frame in progress is that when the lines
still to start, the one that ends it among them, all start by then; where only the phase between composition and scan lines
decides, either may be (the model's choice, log entry 162). In locked-through mode it is the frame in progress that no scan frame
has read yet. -/
def predicted (s : State) (cfn : Nat) : Bool :=
  let rest := linesNow s - s.raster.line
  let newest := (s.comp.ring.head?).any (fun c => decide (c.cfn = cfn))
  match s.comp.cur with
  | some c =>
    if lockedThrough s then decide (c.cfn = cfn ∧ s.raster.shown ≠ .composed cfn)
    else if c.whole then newest
    else
      let lines := panelH s + 1 - c.next
      (decide (lines ≤ rest + 1) && decide (c.cfn = cfn)) || (decide (rest < lines) && newest)
  | none => newest && !lockedThrough s

/-- The frames that speculative jobs may read. -/
def predictedFrames (s : State) : List Nat :=
  ((s.comp.cur.map (·.cfn)).toList ++ (s.comp.ring.head?.map (·.cfn)).toList).filter (predicted s)

/-- The frame job could be dispatched, and its deadline is not after that of a tile of the next scan frame. -/
def frameFirst (s : State) (cell tr : Nat) : Bool :=
  frameReady s && decide (frameDeadline s ≤ deadlineLine s true cell tr) &&
    (chooseEngines s 0 1 (jobSize s false (frameJob s))).isSome

/-- A tile of the next scan frame with a deadline before that of the frame job could be dispatched. -/
def tileFirst (s : State) : Bool :=
  (predictedFrames s).any (fun n => (cellsNow s).any (fun c => (List.range (tileRows s)).any (fun r =>
    decide (deadlineLine s true c r < frameDeadline s) && (List.range (tileCols s)).any (fun t =>
      tileCould s c t r true (.composed n)))))

/-- A tile job is dispatched (R357), in ascending deadline order. -/
def dispatchTile (cell tc tr : Nat) (next : Bool) (shown : Shown) (s : State) : State :=
  if !tileCould s cell tc tr next shown || tileWaits s cell tc tr next shown || (next && frameFirst s cell tr) then s
  else
    let j := tileJob s cell tc tr next shown
    let (pick, s) := if j.recomputed then (false, s) else tagStep s
    startJob (if cell = 1 then 1 else 0) (if pick then { j with tag := some (newTag s j) } else j) 1 s

/-- The frame job of stage 6 is dispatched on n engines, once every tile of the frame has retired. -/
def dispatchFrame (n : Nat) (s : State) : State :=
  if !frameReady s || decide (n = 0 ∨ 8 < n) || tileFirst s then s
  else startJob 0 (frameJob s) n (setPipe { s.pipe with nextDimming := dimmingOn s } s)

/-- Jobs that wait for an engine are placed on free engines of their cluster, other than the one that met the error (R370). -/
def serveReruns (s : State) : State :=
  s.pipe.reruns.foldl (fun s j =>
    let c := j.engine / 8
    let free := ((List.range 8).map (· + 8 * c)).filter (fun i => decide (i ≠ j.engine) && !engineBusy s i && !engineFenced s i)
    let n := max 1 j.group.length
    match freePad s c j.size with
    | some base =>
      if n ≤ free.length then
        placeJob c (free.take n) base j (setPipe { s.pipe with reruns := s.pipe.reruns.filter (fun i => i != j) } s)
      else s
    | none => s) s

/-- TILE_DISPATCH (R357): a tile of this scan frame, or a speculative one of the next that reads composed frame cfn.
cell 2 names the frame job of stage 6, on tc engines. -/
def execTileDispatch (cell tc tr : Nat) (next : Bool) (cfn : Nat) (s : State) : Host.Outcome State Fault Refusal :=
  let s := serveReruns s
  if !scanning s then .next s
  else if cell = 2 then .next (dispatchFrame tc s)
  else if next then
    .next (if s.hold.play.isSome || !predicted s cfn then s else dispatchTile cell tc tr true (.composed cfn) s)
  else .next (dispatchTile cell tc tr false s.raster.shown s)

/-! ### Completion and retirement (R360) -/

/-- Smallest slack of a quadrant (R375). -/
def noteSlack (q slack : Nat) (s : State) : State :=
  let t := tabGet (fun _ => 0) s.pipe.slack q
  setPipe { s.pipe with slack := tabSet (fun _ => 0) s.pipe.slack q (if t = 0 then slack + 1 else min t (slack + 1)) } s

/-- The oldest job of a tile that has not completed. -/
def runningJob (s : State) (cell tc tr : Nat) : Option Job :=
  s.pipe.jobs.find? (fun j => decide (j.cell = cell ∧ j.tc = tc ∧ j.tr = tr) && !j.completed)

/-- A job is discarded, whether it runs or waits to run again: it is dispatched again while its window allows. -/
def discardJob (j : Job) (s : State) : State :=
  let s := if s.pipe.reruns.contains j then setPipe { s.pipe with reruns := s.pipe.reruns.filter (fun i => i != j) } s else dropJob j s
  setPipe { s.pipe with discarded := { sfn := j.sfn, cell := j.cell, tr := j.tr, tc := j.tc, tag := j.tag } :: s.pipe.discarded } s
    |> bumpSat Reg.ENG_SPEC_DISCARD (0, 32) 1 |> countEvent (unitOfCluster (j.engine / 8)) 0x17 1

/-- A job retires: its output goes to dither, its history is written, its statistics are merged. -/
def retireJob (j : Job) (s : State) : State :=
  let t := tileRect s j.tc j.tr
  let d := fun (ch x y : Nat) => (j.planes.getD ch default).read x y
  let h := fun (ch x y : Nat) => hist10 ((j.targets.getD ch default).read x y)
  let s := dropJob j s |> putDrive j.cell t d |> putHistory j.cell t h
  let p := s.pipe
  let stats := if j.cell = 0 then p.tileStats ++ [(j.tr, j.tc, j.stats)] else p.tileStats
  let s := setPipe { p with done := (j.cell, j.tr, j.tc) :: p.done, tileStats := stats } s
  let s := match j.tag with
    | some g => keepTag j.cell { g.setTime 4 (Config.ticksAt s.fresh % 2 ^ 32) with flags := g.flags ||| (4 * b2n j.recomputed) } s
    | none => s
  tick s |> fixedAdd 5 1 |> countEvent 0x31 0x10 1 |> countEvent (unitOfCluster (j.engine / 8)) 0x16 1 |> publishStats

/-- The key in force equals a job's. -/
def keyHolds (s : State) (j : Job) : Bool := decide (j.key = jobKey s false j.cell s.raster.shown)

/-- TILE_RETIRE (R360). Behind a closed window nothing retires: the tile falls back at its deadline (R355). -/
def execTileRetire (cell tc tr : Nat) (s : State) : Host.Outcome State Fault Refusal :=
  match s.pipe.jobs.find? (fun j => decide (j.cell = cell ∧ j.tc = tc ∧ j.tr = tr ∧ j.sfn = sfn s) && j.completed) with
  | none => .next s
  | some j =>
    if !scanning s || windowClosed s cell then .next s
    else if keyHolds s j then .next (retireJob j s |> serveReruns) else .next (discardJob j s |> serveReruns)

/-- Cause of a fallback at the deadline: the window is closed, a rerun has not completed, or the job has not (R355, R361, R370). -/
def deadlineCause (s : State) (cell : Nat) (rerun : Bool) : Nat := if windowClosed s cell then 3 else if rerun then 2 else 0

/-- TILE_DEADLINE (R361, R362): the deadline of a tile of this scan frame, or of the next, passes. -/
def execTileDeadline (cell tc tr : Nat) (next : Bool) (s : State) : Host.Outcome State Fault Refusal :=
  if !scanning s ∨ ¬ tileExists s cell tc tr ∨ (¬ next ∧ tileDone s cell tc tr) then .next s
  else
    let mine := fun (j : Job) => decide (j.cell = cell ∧ j.tc = tc ∧ j.tr = tr ∧ j.sfn = sfn s + b2n next)
    match s.pipe.jobs.find? mine, s.pipe.reruns.find? mine with
    | some j, _ =>
      if j.completed ∧ windowClosed s cell = false then .next s
      else
        let s := if j.completed then s else stopEngine j.engine 0 s
        .next (dropJob j s |> fallJob j (deadlineCause s cell j.rerun) j.engine |> serveReruns)
    | none, some j =>
      .next (setPipe { s.pipe with reruns := s.pipe.reruns.filter (fun i => i != j) } s
        |> fallJob j (deadlineCause s cell true) j.engine)
    | none, none =>
      .next (fallBack next cell tc tr (deadlineCause s cell false) (firstEngine s (if cell = 1 then 1 else 0)) s)

/-- STAGE6_DEADLINE (R316): without B(k + 1), the next frame uses B(k). -/
def execStage6Deadline (s : State) : Host.Outcome State Fault Refusal :=
  if !scanning s ∨ s.pipe.nextZones.isSome then .next s
  else
    let s := match s.pipe.jobs.find? (fun j => decide (j.cell = 2)) with
      | some j => (j.group.foldl (fun s e => if (engineOf s e).running then stopEngine e 0 s else s) s) |> dropJob j
      | none => s
    let s := setPipe { s.pipe with reruns := s.pipe.reruns.filter (fun j => j.cell != 2) } s
    .next (setPipe { s.pipe with nextZones := some s.pipe.zones, nextDimming := s.pipe.dimming, pubZones := s.pipe.zones } s
      |> setFlag Flag.BKL_zone_late)

/-- DEADLINE_WARNING (R354, R403): once per job, on each of its engines. -/
def execDeadlineWarning (cell tc tr : Nat) (s : State) : Host.Outcome State Fault Refusal :=
  match runningJob s cell tc tr with
  | none => .next s
  | some j =>
    if rdF s Reg.ENG_DEADLINE Fld.ENG_DEADLINE_warn = 0 then .next s
    else
      let es := (if j.group = [] then [j.engine] else j.group).filter (fun e => (engineOf s e).running && !(engineOf s e).dwarn)
      .next (es.foldl (fun s e => setEngine e { engineOf s e with dwarn := true, dwarnPend := true } s) s)

/-- MAX_CYCLES_EXPIRY (R362). -/
def execMaxCyclesExpiry (engine : Nat) (s : State) : Host.Outcome State Fault Refusal :=
  if (engineOf s engine).running then .next (stopEngine engine 1 s |> fallEngine engine 1 |> serveReruns) else .next s

/-! ### Patrol (R371 to R373) -/

/-- The region of a word, in the order that the model has patrol sweep them (log entry 129): the banks of the scratchpad, then
the private memories. -/
def patrolRegion (x : Nat × Nat) : Nat := if x.1 = 8 then 128 * (x.2 % 8) + x.2 / 512 else 1024 + 64 * x.1 + x.2 / 64

/-- Memory (0 scratchpad, 1 private), bank or engine, and byte address of word i of a region of cluster c. -/
def regionWord (c r i : Nat) : Nat × Nat × Nat :=
  if r < 1024 then (0, r / 128, 64 * (64 * (r % 128) + i) + 8 * (r / 128))
  else (1, 8 * c + (r - 1024) / 64, 8 * (64 * ((r - 1024) % 64) + i))

/-- Aborted regions one visit on. -/
def agedRegions (k : Cluster) : List (Nat × Nat × Nat) := k.aborted.map (fun e => (e.1, e.2.1 - 1, e.2.2))

/-- The region that the visit now due takes: an aborted one whose four visits have passed, else the next of the sweep. -/
def dueRegion (k : Cluster) : Nat :=
  (((agedRegions k).find? (fun e => decide (e.2.1 = 0))).map (·.1)).getD k.region

/-- A visit takes its region: which one, and how often in a row it has been aborted. -/
def takeRegion (c : Nat) (s : State) : Nat × Nat × State :=
  let k := clusterOf s c
  match (agedRegions k).find? (fun e => decide (e.2.1 = 0)) with
  | some e => (e.1, e.2.2, setCluster c { k with aborted := (agedRegions k).filter (fun f => decide (f ≠ e)) } s)
  | none =>
    let s := setCluster c { k with aborted := agedRegions k, region := (k.region + 1) % 1536 } s
    (k.region, 0, if (k.region + 1) % 1536 = 0 then
      wrF (Reg.ENG_Cc_PATROL c) Fld.ENG_Cc_PATROL_sweeps (rdF s (Reg.ENG_Cc_PATROL c) Fld.ENG_Cc_PATROL_sweeps + 1) s else s)

/-- An access aborts the visit (R373): its region returns after four visits, or at the sixteenth abort is skipped. -/
def abortVisit (c : Nat) (s : State) : State :=
  let t := takeRegion c s
  let s := bumpSat (Reg.ENG_Cc_PATROL c) Fld.ENG_Cc_PATROL_aborts 1 t.2.2 |> countEvent (unitOfCluster c) 0x18 1
  if 16 ≤ t.2.1 + 1 then bumpSat (Reg.ENG_Cc_PATROL c) Fld.ENG_Cc_PATROL_skipped 1 s
  else setCluster c { clusterOf s c with aborted := (clusterOf s c).aborted ++ [(t.1, 5, t.2.1 + 1)] } s

/-- Patrol sweeps a cluster, or a pass of DIAG_UNIT_ENABLE does. -/
def patrolOn (s : State) (c : Nat) : Bool :=
  compClocked s && (rdB s Reg.ENG_CTRL Fld.ENG_CTRL_patrol_en || (clusterOf s c).passLeft.isSome)

/-- Engine e accesses words: where they lie in the region due for a visit, whether the visit is under way is a free value, and it
is then aborted (R373). -/
def touchVisit (e : Nat) (words : List (Nat × Nat)) (s : State) : State :=
  if patrolOn s (e / 8) && words.any (fun x => decide (patrolRegion x = dueRegion (clusterOf s (e / 8)))) then
    if Config.freeValue s.fresh % 2 = 1 then abortVisit (e / 8) (tick s) else tick s
  else s

/-- A cluster is re-enabled, with its engines (R364). -/
def enableCluster (c : Nat) (s : State) : State :=
  let s := setCluster c { clusterOf s c with fenced := false, passLeft := none } s
  let s := (List.range 8).foldl (fun s i =>
    setEngine (8 * c + i) { engineOf s (8 * c + i) with fenced := false, stops := [], eccs := [] } s
      |> wrF (Reg.ENG_Ee_STAT (8 * c + i)) Fld.ENG_Ee_STAT_fenced 0) s
  wrF (Reg.ENG_Cc_STAT c) Fld.ENG_Cc_STAT_fenced (b2n (clusterOf s c).clockFenced) s |> followFences |> askUnit (unitOfCluster c) 1

/-- A pass of DIAG_UNIT_ENABLE fails: the cluster enters state 4 and the command completes with REFUSED. -/
def failPass (c : Nat) (s : State) : State :=
  setCluster c { clusterOf s c with passLeft := none } s |> askUnit (unitOfCluster c) 4 |> refuseEnables (unitOfCluster c)

/-- Wrong bits of a word of a cluster's memories: of private memory of its engine x.1, or with x.1 = 8 of its scratchpad. -/
def wrongBits (s : State) (c : Nat) (x : Nat × Nat) : Nat :=
  if x.1 = 8 then tabGet (fun _ => 0) (clusterOf s c).flips x.2
  else if x.1 < 8 then tabGet (fun _ => 0) (engineOf s (8 * c + x.1)).flips x.2 else 0

/-- A word has n wrong bits. -/
def setWrong (c : Nat) (x : Nat × Nat) (n : Nat) (s : State) : State :=
  if x.1 = 8 then setCluster c { clusterOf s c with flips := tabSet (fun _ => 0) (clusterOf s c).flips x.2 n } s
  else if x.1 < 8 then
    let v := engineOf s (8 * c + x.1)
    setEngine (8 * c + x.1) { v with flips := tabSet (fun _ => 0) v.flips x.2 n } s
  else s

/-- Bits of words that have gone wrong: memory, word and how many; more than one counts as two (R370). -/
def spoilWords (c : Nat) (flips : List (Nat × Nat × Nat)) (s : State) : State :=
  flips.foldl (fun s f =>
    if f.2.1 < (if f.1 = 8 then 65536 else 4096) then
      setWrong c (f.1, f.2.1) (min 2 (wrongBits s c (f.1, f.2.1) + f.2.2)) s else s) s

/-- PATROL_VISIT: a visit of one region of a cluster ends. aborted: an engine touched it, in a way that no other command shows
(R373). bits: wrong bits in the worst word that the march read, and its place in the region (R372). spad, priv: bits that have
gone wrong since the command before in words of the scratchpad, and of an engine's private memory (R370); they have while patrol
is off too, when no visit is made. -/
def execPatrolVisit (c : Nat) (aborted : Bool) (bits word : Nat) (spad : List (Nat × Nat)) (priv : List (Nat × Nat × Nat))
    (s : State) : Host.Outcome State Fault Refusal :=
  if 32 ≤ c then .next s
  else
    let s := spoilWords c (spad.map (fun f => (8, f)) ++ priv.filter (fun f => decide (f.1 < 8))) s
    if ¬ patrolOn s c then .next s
    else if aborted then .next (abortVisit c s)
    else
      let t := takeRegion c s
      let left := (clusterOf s c).passLeft.map (· - 1)
      let s := setCluster c { clusterOf t.2.2 c with passLeft := left } t.2.2
      if bits = 0 then .next s
      else
        let at_ := regionWord c t.1 word
        let s := setFlag (Flag.ENG_patrol_err (unitOfCluster c)) s
          |> postEvent .device 0x04F5 0x98 (if bits = 1 then 1 else 2)
            (dataAt 24 c ||| dataAt 25 at_.1 ||| dataAt 26 at_.2.1 ||| dataAt 27 (min 255 bits) ||| dataAt 28 at_.2.2)
        if bits = 1 then .next (bumpSat (Reg.ENG_Cc_ECC c) Fld.ENG_Cc_ECC_patrol_errors 1 s)
        else if left.isSome then .next (fenceCluster c 4 s |> failPass c)
        else .next (fenceCluster c 4 s)

end Sys2Proof.Machine
end

