-- ==== Sys2Proof/Machine/Backlight.lean ====
section
/-! DEFINITION. The backlight link (R318 to R325), panel temperature (R339), and the captured read of R327. -/

namespace Sys2Proof.Machine

/-- Controller k sends frames: enabled at raster enable, while the raster runs and has not turned the backlight off (R322). -/
def linkOn (s : State) (k : Nat) : Bool := decide (k < 4) && bitAt s.pipe.ctrls k && decide (s.raster.phase = .running)

/-- It flashes its zone rows, from the second scan frame on (R266 step 6). -/
def controllerOn (s : State) (k : Nat) : Bool := linkOn s k && s.pipe.lit

/-- A zone row of a controller as a key. -/
def rowKey (k row : Nat) : Nat := 64 * k + row

/-- The frame whose flash is the next one of a zone row: the flashes of an enable begin with its second scan frame. -/
def nextFlash (s : State) (key : Nat) : Nat := s.pipe.firstFrame + 1 + tabGet (fun _ => 0) s.pipe.flashes key

/-- A strobe of a row lights it or ends its flash. -/
def noteStrobe (k onRow offRow : Nat) (s : State) : State :=
  let p := s.pipe
  let lit := if offRow = 255 then p.litRows else p.litRows.filter (fun r => decide (r ≠ rowKey k offRow))
  if onRow = 255 then { s with pipe := { p with litRows := lit } }
  else
    let key := rowKey k onRow
    let n := tabGet (fun _ => 0) p.flashes key + 1
    { s with pipe := { p with litRows := key :: lit.filter (fun r => decide (r ≠ key)), flashes := tabSet (fun _ => 0) p.flashes key n } }

/-- An SPI frame: its bytes and its CRC-8 (R319). -/
def spiFrame (k : Nat) (bytes : List Byte) (s : State) : State :=
  emit (.spi k (bytes ++ [BitVec.ofNat 8 (crc8 bytes)])) s |> countEvent 0x78 0x10 1

/-- The backlight scans (RAST_FLASH mode 1); otherwise rows stay lit and no off strobe is sent (R321). -/
def scanningMode (s : State) : Bool := rdB s Reg.RAST_FLASH_CTRL Fld.RAST_FLASH_CTRL_mode

/-- BKL_STROBE (R321): rows 0 to 35, or 255 for none. An on and an off edge within 2 µs travel as one STROBE. -/
def execBklStrobe (controller onRow offRow : Nat) (s : State) : Host.Outcome State Fault Refusal :=
  let rowOk := fun r => decide (r < 36 ∨ r = 255)
  if !controllerOn s controller || !rowOk onRow || !rowOk offRow || (!scanningMode s && decide (offRow ≠ 255)) ||
      decide (onRow = 255 ∧ offRow = 255) then .next s
  else
    let s := spiFrame controller [2, BitVec.ofNat 8 onRow, BitVec.ofNat 8 offRow] s |> noteStrobe controller onRow offRow
    .next (if onRow ≠ 255 ∧ offRow ≠ 255 then setFlag Flag.BKL_strobe_merge s else s)

/-- The code of a zone for a backlight value (R320); without a zone map it is not stated. -/
def codeOf (s : State) (z b : Nat) : Nat :=
  match activeTable s 0x30F00000 with
  | none => Config.freeValue (s.fresh + z) % 65536
  | some t => zoneCode t z b

/-- B of a scan frame: that of the next one exists once stage 6 has run. -/
def zonesOf (s : State) (frame : Nat) : Option (Tab Nat) :=
  if frame = sfn s + 1 then s.pipe.nextZones
  else if frame = sfn s then some s.pipe.zones
  else (s.pipe.zoneLog.find? (fun e => decide (e.1 = frame))).map (·.2)

/-- The interval of R321 for the ZONE_DATA of a row and frame is open: it is the frame of the row's next flash, or the first
frame of the enable, and while the backlight scans the flash before has ended; none has been sent or skipped for it. -/
def dataTurn (s : State) (k row frame : Nat) : Bool :=
  let key := rowKey k row
  (decide (frame = nextFlash s key) || decide (frame = s.pipe.firstFrame ∧ tabGet (fun _ => 0) s.pipe.flashes key = 0)) &&
    (!scanningMode s || !s.pipe.litRows.contains key) && decide (tabGet (fun _ => 0) s.pipe.dataFor key < frame)

/-- ZONE_DATA (R319, R321): the values of zone row `row` for a scan frame, or its skip when it does not fit its interval. -/
def execZoneData (controller row frame : Nat) (fits : Bool) (s : State) : Host.Outcome State Fault Refusal :=
  match zonesOf s frame with
  | none => .next s
  | some b =>
  if !linkOn s controller || decide (36 ≤ row) || !dataTurn s controller row frame then .next s
  else
    let n := frame % 256
    let s := { s with pipe := { s.pipe with dataFor := tabSet (fun _ => 0) s.pipe.dataFor (rowKey controller row) frame } }
    if fits then
      let codes := (List.range 16).flatMap (fun j =>
        let z := 64 * row + 16 * controller + j
        leBytes 2 (codeOf s z (tabGet (fun _ => 65535) b z)))
      .next (spiFrame controller ([1, BitVec.ofNat 8 row, BitVec.ofNat 8 n] ++ codes) { s with fresh := s.fresh + 2304 })
    else
      .next (setFlag Flag.BKL_spi_late s
        |> postEvent .device 0x0CF9 0x78 1 (dataAt 24 controller ||| dataAt 25 row ||| dataAt 28 n))

/-- A ZONE_DATA of a controller is still to come before STATUS: that of a row's flash of this scan frame, though the flash before
it may still be lit, and that of a flash of the next frame whose values exist and whose interval is open. A row that is lit by its
flash of this frame sends its next values when that flash ends, and does not hold STATUS (the model's choice, log entry 161). -/
def dataWaits (s : State) (k : Nat) : Bool :=
  (List.range 36).any (fun row =>
    let key := rowKey k row
    let f := nextFlash s key
    (zonesOf s f).isSome && decide (tabGet (fun _ => 0) s.pipe.dataFor key < f) &&
      (decide (f ≤ sfn s) || (decide (f = sfn s + 1) && dataTurn s k row f)))

/-- BKL_STATUS (R319, R323): once per scan frame and controller, after its last ZONE_DATA, with the status and CRC bytes clocked
in. -/
def execBklStatus (controller status crc : Nat) (s : State) : Host.Outcome State Fault Refusal :=
  if !linkOn s controller || s.pipe.statusSent.contains controller || dataWaits s controller then .next s
  else
    let st := status % 256
    let s := emit (.spi controller [4, 0]) { s with pipe := { s.pipe with statusSent := controller :: s.pipe.statusSent } }
      |> countEvent 0x78 0x10 1
    if crc8 [BitVec.ofNat 8 st, 0] ≠ crc then .next (setFlag Flag.BKL_crc_err s)
    else
      let old := rdF s Reg.BKL_DRV_STAT (8 * controller, 8)
      let s := wrF Reg.BKL_DRV_STAT (8 * controller, 8) st s
      if st ≠ old ∧ st ≠ 0 then
        .next (setFlag Flag.BKL_driver_fault s |> postEvent .device 0x0CF8 0x78 2 (dataAt 24 controller ||| dataAt 25 st))
      else .next s

/-- BKL_STATS_SFN_LO_READ (R210, R327). -/
def execBklStatsSfnLoRead (port : Nat) (s : State) : Host.Outcome State Fault Refusal :=
  captureRead port Reg.BKL_STATS_SFN_LO Reg.BKL_STATS_SFN_HI s.pipe.statsSfn s

/-! ### Panel temperature (R339) -/

/-- Sensor n is enabled. -/
def sensorOn (s : State) (n : Nat) : Bool := bitAt (rdF s Reg.PIPE_TEMP_CFG Fld.PIPE_TEMP_CFG_sensor_en) n

def sensorValid (s : State) (n : Nat) : Bool := rdB s (Reg.PIPE_TSENSn_VAL n) Fld.PIPE_TSENSn_VAL_valid

def setSensorValid (n : Nat) (v : Bool) (s : State) : State :=
  s |> wrF (Reg.PIPE_TSENSn_VAL n) Fld.PIPE_TSENSn_VAL_valid (b2n v)
    |> wrF Reg.PIPE_TEMP_STAT (16 + n, 1) (b2n v)

/-- One read of a sensor: its 16 bits, or none for a failed read. Failed reads are counted to 3; 4 marks a sensor that
was valid and has been lost. -/
def readSensor (n : Nat) (r : Option Nat) (s : State) : State :=
  let f := tabGet (fun _ => 0) s.pipe.tempFails n
  let set := fun v => setPipe { s.pipe with tempFails := tabSet (fun _ => 0) s.pipe.tempFails n v } s
  match r with
  | some v =>
    let s := set 0 |> wrF (Reg.PIPE_TSENSn_VAL n) Fld.PIPE_TSENSn_VAL_value v |> setSensorValid n true
    if f = 4 then
      postEvent .device 0x03F1 0x31 0 (dataAt 24 n ||| dataAt 28 (pattern 16 (roundShift (signed 16 v) 4))) s
    else s
  | none =>
    if f ≤ 1 then set (f + 1)
    else if sensorValid s n then
      set 4 |> setSensorValid n false |> setFlag Flag.PIPE_sensor_lost |> postEvent .device 0x03F0 0x31 1 (dataAt 24 n)
    else set (max f 3)

/-- T over the valid sensors; one that has been disabled stays valid with its latest value. -/
def followTemp (s : State) : State :=
  let ok := (List.range 8).filter (sensorValid s)
  let sum := (ok.map (fun n => roundShift (signed 16 (rdF s (Reg.PIPE_TSENSn_VAL n) Fld.PIPE_TSENSn_VAL_value)) 4)).foldl (· + ·) (0 : Int)
  match s.pipe.temp with
  | none =>
    if ok = [] then s
    else setPipe { s.pipe with temp := some ((sum + ok.length / 2) / ok.length), tempLost := false } s
  | some t =>
    if ok ≠ [] then setPipe { s.pipe with temp := some ((sum + ok.length / 2) / ok.length), tempLost := false } s
    else if s.pipe.tempLost then s
    else
      setPipe { s.pipe with tempLost := true } s |> setFlag Flag.PIPE_temp_lost
        |> postEvent .device 0x03F2 0x31 2 (dataAt 28 (pattern 16 t))

/-- PANEL_TEMP_POLL (R339): each enabled sensor is read in turn; reads holds what sensor n answered. -/
def execPanelTempPoll (reads : List (Option Nat)) (s : State) : Host.Outcome State Fault Refusal :=
  if s.power.state ≠ .run ∧ s.power.state ≠ .idle then .next s
  else
    .next (followTemp ((List.range 8).foldl (fun s n =>
      if sensorOn s n then
        let c := Reg.PIPE_TSENSn_CFG n
        emit (.panelI3c (rdF s c Fld.PIPE_TSENSn_CFG_bus) (rdF s c Fld.PIPE_TSENSn_CFG_addr) (rdF s c Fld.PIPE_TSENSn_CFG_pointer)) s
          |> readSensor n (reads.getD n none)
      else s) s))

end Sys2Proof.Machine
end

