-- ==== Sys2Proof/Machine/Ecc.lean ====
section
/-! DEFINITION. Error correction of the scratchpads and private memories (R364, R370, R374). -/

namespace Sys2Proof.Machine

/-! ### Words -/

/-- The areas of the kernel that an engine runs in its private memory: where its code and its data begin (R411). -/
def kernelArea (s : State) (e : Nat) : Nat × Nat :=
  let v := engineOf s e
  let a := tabGet (fun _ => (0, 0, 0, 0)) s.tables.areas (8 * v.cell + v.stage)
  (a.1, a.2.2.1)

/-- The words of n bytes from byte a of a memory. -/
def wordSpan (mem a n : Nat) : List (Nat × Nat) := (List.range ((a % 8 + n + 7) / 8)).map (fun i => (mem, a / 8 + i))

/-- The words of an engine's access of n bytes at an EA (R380). -/
def wordsAt (s : State) (e ea n : Nat) : List (Nat × Nat) :=
  if ea < 0x80000 then wordSpan (e % 8) (16384 + (kernelArea s e).2 + ea) n else wordSpan 8 (ea - 0x80000) n

/-- The word of the instruction at an engine's pc. -/
def codeWord (s : State) (e : Nat) : Nat × Nat := (e % 8, ((kernelArea s e).1 + (engineOf s e).pc) / 8)

/-! ### Errors met by a read -/

/-- A single-bit error: the word is corrected and written back. -/
def correctWord (c : Nat) (s : State) (x : Nat × Nat) : State :=
  setWrong c x 0 s |> bumpSat (Reg.ENG_Cc_ECC c) Fld.ENG_Cc_ECC_corrected 1

/-- A double-bit error, met by an engine or by the mover (0xFF): it is told, and the second of a memory within 1 s fences
the engine, or the cluster for the scratchpad, and its jobs fall back (R364, R540). -/
def meetDouble (who c : Nat) (s : State) (x : Nat × Nat) : State :=
  let s := bumpSat (Reg.ENG_Cc_ECC c) Fld.ENG_Cc_ECC_uncorrected 1 s |> setFlag (Flag.ENG_ecc_uncorr (unitOfCluster c))
    |> postEvent .device 0x04F4 (unitOfCluster c) 2 (dataAt 24 who ||| dataAt 25 (b2n (decide (x.1 ≠ 8))) ||| dataAt 28 (8 * x.2))
  if x.1 = 8 then
    let ts := upNs s :: lastSecond s (clusterOf s c).eccs
    let s := tick (setCluster c { clusterOf s c with eccs := ts } s)
    if 2 ≤ ts.length then fenceCluster c 3 s else s
  else
    let e := 8 * c + x.1
    let ts := upNs s :: lastSecond s (engineOf s e).eccs
    let s := tick (setEngine e { engineOf s e with eccs := ts } s)
    if 2 ≤ ts.length then fenceEngine e 1 s |> fallEngine e 1 else s

/-- The word holds kernel code, a parameter block or table data of what engine e runs: the Reservoir has a copy of it. -/
def hasCopy (s : State) (e : Nat) (x : Nat × Nat) : Bool :=
  let v := engineOf s e
  if x.1 = 8 then
    match s.pipe.jobs.find? (fun j => decide (j.engine = e) || j.group.contains e) with
    | some j =>
      match (chainSteps j.cell)[j.at_]? with
      | some (stage, ch) =>
        let a := stageArea (j.view s) (decide (j.sfn ≠ sfn s)) j stage ch
        let t := jobRect s j
        decide (j.base + a.tabAt t.w t.h < 8 * x.2 + 8 ∧ 8 * x.2 < j.base + a.workAt t.w t.h)
      | none => false
    | none => false
  else if x.2 < 2048 then true
  else
    match kernelOf s v.handle with
    | some k =>
      let b := bindOf s v.cell v.stage
      let at_ := 16384 + (kernelArea s e).2 + k.paramOffset
      let len := if b.param = [] then k.param.length else b.param.length
      decide (at_ < 8 * x.2 + 8 ∧ 8 * x.2 < at_ + len)
    | none => false

/-- The firmware rewrites the region of a word. -/
def rewriteRegion (c : Nat) (s : State) (x : Nat × Nat) : State :=
  let keep := fun w => decide (patrolRegion (x.1, w) ≠ patrolRegion x)
  if x.1 = 8 then setCluster c { clusterOf s c with flips := tabKeep keep (clusterOf s c).flips } s
  else
    let v := engineOf s (8 * c + x.1)
    setEngine (8 * c + x.1) { v with flips := tabKeep keep v.flips } s

/-- A job as it is dispatched again: from its first step, with its inputs read anew. -/
def freshJob (s : State) (j : Job) : Job :=
  let next := decide (j.sfn ≠ sfn s)
  let planes := if j.cell = 2 then []
    else [0, 1, 2].map (composedPlane s j.key.shown (inputRect (j.view s) next j.cell (tileRect s j.tc j.tr)))
  { sfn := j.sfn, cell := j.cell, tc := j.tc, tr := j.tr, engine := j.engine, key := j.key, speculative := j.speculative,
    recomputed := j.recomputed, planes := planes, size := j.size, group := j.group, rerun := true, tag := j.tag,
    stats := if j.cell = 2 then { zoneMax := nextB s s.pipe.nextDimming } else {} }

/-- The job of an engine that met a double-bit error is abandoned: it runs again on other engines of its cluster as soon as enough
are free, and falls back when this was the rerun; a frame job then ends (R370). -/
def abandonJob (e : Nat) (s : State) : State :=
  match s.pipe.jobs.find? (fun j => (decide (j.engine = e) || j.group.contains e) && !j.completed) with
  | none => s
  | some j =>
    let s := dropJob j s
    if j.rerun = false then
      serveReruns (setPipe { s.pipe with reruns := s.pipe.reruns ++ [{ freshJob s j with engine := e }] } s)
    else if j.cell = 2 then s
    else fallJob j 2 e s

/-- Errors that a read of words by engine e, or for it by the mover, meets: whether one of them is a double-bit error, and what
they leave. -/
def meetErrors (who e : Nat) (words : List (Nat × Nat)) (s : State) : Bool × State :=
  let c := e / 8
  let one := words.filter (fun x => decide (wrongBits s c x = 1))
  let two := words.filter (fun x => decide (2 ≤ wrongBits s c x))
  let copies := two.filter (hasCopy s e)
  let s := copies.foldl (rewriteRegion c) (two.foldl (meetDouble who c) (one.foldl (correctWord c) s))
  if two = [] then (false, s) else (true, abandonJob e s)

/-- Read words, which may abort a visit of patrol, and go on unless a double-bit error ends the job (R370, R373). -/
def eccAccess (e : Nat) (words : List (Nat × Nat)) (f : State → State) (s : State) : State :=
  let s := touchVisit e words s
  if words.all (fun x => decide (wrongBits s (e / 8) x = 0)) then f s
  else
    let r := meetErrors e e words.eraseDups s
    if r.1 then r.2 else f r.2

/-! ### Completion of a job (R360) -/

/-- Words of a job's area that hold errors, and that a stage of its chain run by a reference kernel has read. The spec does not
place a reference kernel's reads: it is taken to read the whole area (log entry 127). -/
def referenceReads (s : State) (j : Job) : List (Nat × Nat) :=
  let cell := if j.cell = 2 then 0 else j.cell
  if (chainSteps j.cell).any (fun e => decide ((bindOf (j.view s) cell e.1).handle = 0)) then
    ((clusterOf s (j.engine / 8)).flips.filter (fun f => decide (j.base ≤ 8 * f.1 + 7 ∧ 8 * f.1 < j.base + j.size))).map (fun f => (8, f.1))
  else []

/-- The job has ended: a frame job gives B(k + 1), a tile is in PIPE's tile buffer. -/
def completeJob (j : Job) (s : State) : State :=
  if j.cell = 2 then
    setPipe { s.pipe with nextZones := some j.stats.zoneMax, pubZones := j.stats.zoneMax } s |> dropJob j |> serveReruns
  else
    let slack := (deadlineLine s (decide (j.sfn ≠ sfn s)) j.cell j.tr - s.raster.line).toNat
    setJob { j with completed := true } s |> noteSlack (j.engine / 64) slack

/-- TILE_COMPLETE (R360): the chain has ended and the last output plane is in PIPE's tile buffer. The frame job writes
B(k + 1). An uncorrectable word that a reference kernel read has the job run again instead (R370). -/
def execTileComplete (cell tc tr : Nat) (s : State) : Host.Outcome State Fault Refusal :=
  match runningJob s cell tc tr with
  | none => .next s
  | some j =>
    if (chainSteps cell)[j.at_]?.isSome then .next s
    else match referenceReads s j with
      | [] => .next (completeJob j s)
      | words =>
        let r := meetErrors j.engine j.engine words s
        .next (if r.1 then r.2 else completeJob j r.2)

/-! ### Scrub on the return to RUN (R374) -/

/-- An engine's private memory is scrubbed; for an uncorrectable word the firmware reloads its kernels. -/
def scrubEngine (s : State) (e : Nat) : State :=
  let words := (engineOf s e).flips.map (fun f => (e % 8, f.1))
  let one := words.filter (fun x => decide (wrongBits s (e / 8) x = 1))
  let two := words.filter (fun x => decide (2 ≤ wrongBits s (e / 8) x))
  let s := two.foldl (meetDouble e (e / 8)) (one.foldl (correctWord (e / 8)) s)
  let v := engineOf s e
  setEngine e { v with flips := [], data := if two = [] then v.data else [] } s

/-- Every cluster scrubs the private memories that hold errors. -/
def scrubPrivate (s : State) : State :=
  ((List.range 256).filter (fun e => decide ((engineOf s e).flips ≠ []))).foldl scrubEngine s

end Sys2Proof.Machine
end

