-- ==== Sys2Proof/Machine/EddyOps.lean ====
section
/-! DEFINITION. The Eddy engine: registers, private memory and scratchpad, fetch and issue (R379 to R386, R400 to
R402), the tile mover's windows (R395, R396), and the engine's events (R397 to R405). -/

namespace Sys2Proof.Machine

/-! ### Registers (R379) -/

/-- An s register: s0 reads 0. -/
def Engine.sreg (v : Engine) (i : BitVec 5) : BitVec 32 := if i = 0 then 0 else tabGet (fun _ => 0) v.s i.toNat

/-- Write an s register: writes to s0 are ignored. -/
def Engine.setS (i : BitVec 5) (x : BitVec 32) (v : Engine) : Engine :=
  if i = 0 then v else { v with s := tabSet (fun _ => 0) v.s i.toNat x }

def Engine.vreg (v : Engine) (i : BitVec 5) : BitVec 256 := tabGet (fun _ => 0) v.v i.toNat

def Engine.setV (i : BitVec 5) (x : BitVec 256) (v : Engine) : Engine := { v with v := tabSet (fun _ => 0) v.v i.toNat x }

/-- A predicate register: p0 reads 0xFFFF. -/
def Engine.preg (v : Engine) (i : BitVec 3) : BitVec 16 := if i = 0 then 0xFFFF else tabGet (fun _ => 0) v.p i.toNat

/-- Write a predicate register: writes to p0 are ignored. -/
def Engine.setP (i : BitVec 3) (x : BitVec 16) (v : Engine) : Engine :=
  if i = 0 then v else { v with p := tabSet (fun _ => 0) v.p i.toNat x }

/-- Lane i of accumulator k. -/
def Engine.acc (v : Engine) (k : BitVec 2) (i : Nat) : BitVec 40 := tabGet (fun _ => 0) v.a (16 * k.toNat + i)

def Engine.setAcc (k : BitVec 2) (i : Nat) (x : BitVec 40) (v : Engine) : Engine :=
  { v with a := tabSet (fun _ => 0) v.a (16 * k.toNat + i) x }

/-- Lane i of a vector value, as a number. -/
def vlane (x : BitVec 256) (i : Nat) : Nat := bitsAt x.toNat (16 * i) 16

/-- A vector value of 16 lanes, each reduced to 16 bits. -/
def ofLanes (f : Nat → Nat) : BitVec 256 :=
  BitVec.ofNat 256 ((List.range 16).foldl (fun n i => n + f i % 65536 * 2 ^ (16 * i)) 0)

/-- Bit i of a predicate. -/
def activeLane (p : BitVec 16) (i : Nat) : Bool := bitAt p.toNat i

/-- The lanes that a predicate leaves active. -/
def activeLanes (p : BitVec 16) : List Nat := (List.range 16).filter (activeLane p)

/-- Active lanes take a new value and the others keep their old one (R388). -/
def blendLanes (p : BitVec 16) (old : BitVec 256) (f : Nat → Nat) : BitVec 256 :=
  ofLanes (fun i => if activeLane p i then f i else vlane old i)

/-- Write active lanes of a v register from values with their saturation; st.sat rises where one saturated. -/
def Engine.writeLanes (vd : BitVec 5) (p : BitVec 16) (f : Nat → Nat × Bool) (v : Engine) : Engine :=
  let sat := v.sat || (activeLanes p).any (fun i => (f i).2)
  { v.setV vd (blendLanes p (v.vreg vd) (fun i => (f i).1)) with sat := sat }

/-! ### Private memory (R380, R410) -/

/-- Byte off of the image that a bind writes to a stage's data area: the initial data, zeros, the parameter block. -/
def imageByte (k : Kernel) (b : Bind) (off : Nat) : Byte :=
  let p := if b.param = [] then k.param else b.param
  if k.paramOffset ≤ off ∧ off < k.paramOffset + p.length then p.getD (off - k.paramOffset) 0 else k.init.getD off 0

/-- What an engine's data areas hold before a job writes them. -/
def dataImage (s : State) (v : Engine) (key : Nat) : Byte :=
  let b := bindOf s v.cell (key / 65536)
  match kernelOf s b.handle with
  | some k => imageByte k b (key % 65536)
  | none => 0

/-! ### Effective addresses (R380) -/

/-- An EA with the bits below the access size ignored. -/
def alignEa (ea n : Nat) : Nat := ea / n * n

/-- The n bytes at an EA lie in the kernel's data area. -/
def inData (k : Kernel) (ea n : Nat) : Bool := decide (ea + n ≤ k.dataBytes)

/-- The n bytes at an EA lie in the scratchpad. -/
def inPad (ea n : Nat) : Bool := decide (0x80000 ≤ ea ∧ ea + n ≤ 0x100000)

/-- Cause of the fault of an access at an EA: 2 private address, 3 scratchpad address (R363). -/
def eaCause (ea : Nat) : Nat := if ea < 0x80000 then 2 else 3

/-! ### Scratchpad data in flight (R386, R395) -/

/-- Bytes of one element of a window. -/
def elementBytes (window : Nat) : Nat := if window = 1 then 3 else 2

/-- Scratchpad bytes of line i of a request. -/
def MoveReq.lineAt (r : MoveReq) (i : Nat) : Nat := r.addr - 0x80000 + i * r.pitch

/-- A scratchpad byte belongs to a request: the line and the byte of that line. -/
def MoveReq.place (r : MoveReq) (a : Nat) : Option (Nat × Nat) :=
  ((List.range r.lines).find? (fun i => decide (r.lineAt i ≤ a ∧ a < r.lineAt i + r.width * elementBytes r.window))).map
    (fun i => (i, a - r.lineAt i))

/-- The element a read window holds at a pixel of the frame, as its bytes (R395, R396). -/
def windowElement (s : State) (j : Job) (r : MoveReq) (x y : Int) : List Byte :=
  let next := decide (j.sfn ≠ sfn s)
  let cx := (clampI 0 (panelW s - 1 : Int) x).toNat
  let cy := (clampI 0 (panelH s - 1 : Int) y).toNat
  match r.window with
  | 0 => leBytes 2 (((shownLine s j.key.shown cy).getD []).getD (3 * cx + r.plane) 0)
  | 1 =>
    let map := tableFor s next (demuraId j.cell r.plane)
    (map.drop (64 + 3 * (leAt map 0 2 * cy + cx))).take 3
  | 2 => leBytes 2 (historyOf s next j.cell r.plane cx cy 0).1
  | 3 => leBytes 2 (historyOf s next j.cell r.plane cx cy 0).2
  | _ => []

/-- The job an engine runs. -/
def jobOf (s : State) (e : Nat) : Option Job :=
  s.pipe.jobs.find? (fun j => (decide (j.engine = e) || j.group.contains e) && !j.completed)

/-- The byte a read request brings to a scratchpad byte; not stated where an engine wrote bytes of the request. The scheduler's
input fetches bring theirs when the job's first stage starts, which no engine reads before. -/
def movedByte (s : State) (r : MoveReq) (a : Nat) : Option Byte :=
  match r.place a, jobOf s r.engine with
  | some (i, o), some j =>
    if r.window = 4 ∨ r.input = true then none
    else if r.touched then some (BitVec.ofNat 8 (Config.freeValue (s.fresh + a)))
    else
      let t := tileRect s j.tc j.tr
      let n := elementBytes r.window
      some ((windowElement s j r ((t.x : Int) + r.x + (o / n : Nat)) ((t.y : Int) + r.y + i)).getD (o % n) 0)
  | _, _ => none

/-- A scratchpad byte as an engine reads it: a word that a pending request brings may be the old or the new one. -/
def padByte (s : State) (c a : Nat) : Byte :=
  let old := tabGet (fun _ => 0) (clusterOf s c).pad a
  (clusterOf s c).queue.foldl (fun b r => match movedByte s r a with
    | some n => if Config.freeValue (s.fresh + 2 ^ 19 + a / 8) % 2 = 1 then n else b
    | none => b) old

/-- The bytes of an engine's access at an EA. -/
def eaRead (s : State) (e : Nat) (ea n : Nat) : List Byte :=
  let v := engineOf s e
  (List.range n).map (fun i =>
    if ea < 0x80000 then tabGet (dataImage s v) v.data (65536 * v.stage + ea + i)
    else padByte s (e / 8) (ea - 0x80000 + i))

/-- Pending requests that touch a scratchpad byte an engine writes no longer move what the spec states (R386). -/
def touchQueue (c a : Nat) (s : State) : State :=
  let k := clusterOf s c
  if k.queue = [] then s
  else setCluster c { k with queue := k.queue.map (fun r => if (r.place a).isSome then { r with touched := true } else r) } s

/-- One byte of an engine's write at an EA. -/
def eaPut (e : Nat) (ea : Nat) (b : Byte) (s : State) : State :=
  if ea < 0x80000 then
    let v := engineOf s e
    setEngine e { v with data := tabSet (dataImage s v) v.data (65536 * v.stage + ea) b } s
  else padWrite (e / 8) (ea - 0x80000) [b] s |> touchQueue (e / 8) (ea - 0x80000)

/-- Words that an engine's write covers wholly carry fresh check bits (R370). -/
def freshWords (e : Nat) (eas : List Nat) (s : State) : State :=
  if (engineOf s e).flips = [] ∧ (clusterOf s (e / 8)).flips = [] then s
  else
    let whole := eas.filter (fun ea => decide (ea % 8 = 0) && (List.range 8).all (fun i => eas.contains (ea + i)))
    (whole.flatMap (fun ea => wordsAt s e ea 8)).foldl (fun s x => setWrong (e / 8) x 0 s) s

/-- The words that an engine's bytes lie in. -/
def wordsOf (s : State) (e : Nat) (eas : List Nat) : List (Nat × Nat) := (eas.flatMap (fun ea => wordsAt s e ea 1)).eraseDups

/-- The bytes of an engine's write or atomic, each with its EA. -/
def eaStore (e : Nat) (bytes : List (Nat × Byte)) (s : State) : State :=
  let eas := bytes.map (·.1)
  bytes.foldl (fun s b => eaPut e b.1 b.2 s) (freshWords e eas (touchVisit e (wordsOf s e eas) s))

/-- The scratchpad cycle that port A's last write lay in is over. -/
def closePort (e : Nat) (s : State) : State :=
  if (clusterOf s (e / 8)).portA = [] then s else setCluster (e / 8) { clusterOf s (e / 8) with portA := [] } s

/-- Port A's write is kept for a write by port B in the same cycle. -/
def openPort (e : Nat) (bytes : List (Nat × Byte)) (s : State) : State :=
  let pad := bytes.filter (fun b => decide (0x80000 ≤ b.1))
  if pad = [] then s else setCluster (e / 8) { clusterOf s (e / 8) with portA := pad } s

/-- The words in which port B's write shares a byte with port A's last write and carries other data there. -/
def clashes (a b : List (Nat × Byte)) : List Nat :=
  ((b.filter (fun x => a.any (fun y => decide (x.1 = y.1 ∧ x.2 ≠ y.2)))).map (fun x => x.1 / 8)).eraseDups

/-- Port B's writes of n words are discarded: its engine and its cluster show it. -/
def loseWrites (e n : Nat) (s : State) : State :=
  setEngine e { engineOf s e with wcol := true } s |> bumpSat (Reg.ENG_Ee_STAT e) Fld.ENG_Ee_STAT_wcol n
    |> setFlag (Flag.ENG_wcol (unitOfCluster (e / 8))) |> countEvent (unitOfCluster (e / 8)) 0x13 n

/-- The bytes of an engine's write, each with its EA. Engines 0 to 3 of a cluster share port A, and 4 to 7 port B (R368). Whether
port B's write lies in the cycle of port A's last one is a free value; where it does, a word that clashes is discarded (R369). -/
def eaWrite (e : Nat) (bytes : List (Nat × Byte)) (s : State) : State :=
  if e % 8 < 4 then eaStore e bytes s |> openPort e bytes
  else
    let lost := clashes (clusterOf s (e / 8)).portA bytes
    if lost = [] then eaStore e bytes s
    else if Config.freeValue s.fresh % 2 = 1 then
      tick s |> eaStore e (bytes.filter (fun b => !lost.contains (b.1 / 8))) |> loseWrites e lost.length
    else tick s |> eaStore e bytes

/-- One instruction of an engine and the bank cycle it takes: a later access of port A, and any of port B, ends the cycle that
port A's write lay in. -/
def inCycle (e : Nat) (f : State → State) (s : State) : State :=
  if e % 8 < 4 then f (closePort e s) else closePort e (f s)

/-! ### Fetch and issue (R380, R382, R403) -/

/-- The instruction word at an engine's pc; none at or beyond code_bytes. -/
def fetchWord (k : Kernel) (e handle pc : Nat) : Option Word :=
  let p := pc / 4 * 4
  if p + 4 ≤ k.codeBytes then
    some (BitVec.ofNat 32 (ofLe ((List.range 4).map (fun i =>
      if p + i < k.code.length then k.code.getD (p + i) 0 else Config.codeTail e handle (p + i)))))
  else none

/-- A pending handler may be taken: the entry it jumps to, and whether it is deadline-warning (R403). -/
def handlerDue (k : Kernel) (v : Engine) : Option (Nat × Bool) :=
  if !v.ie || v.inh then none
  else if v.dwarnPend ∧ k.entryWarn ≠ 0xFFFF then some (k.entryWarn, true)
  else if v.mdonePend ∧ k.entryMover ≠ 0xFFFF then some (k.entryMover, false)
  else none

/-- An engine that can issue: it runs a customer kernel, nothing stalls it and no handler is due; an mvq that waits for a slot
is issued again, and no handler comes before it (R403). -/
def canIssue (s : State) (e : Nat) : Option Kernel :=
  let v := engineOf s e
  if e < 256 ∧ v.running ∧ (v.stall = .free ∨ v.stall = .queueing) ∧ compClocked s then
    match kernelOf s v.handle with
    | some k => if v.stall = .free ∧ (handlerDue k v).isSome then none else some k
    | none => none
  else none

/-- The word that engine e fetches next. -/
def nextWord (s : State) (e : Nat) : Option (Option Word) :=
  (canIssue s e).map (fun k => fetchWord k e (engineOf s e).handle (engineOf s e).pc)

/-- Engine e issues instruction i: an engine that cannot fetch, or that fetches another word, does nothing. A fetch
outside the code is a private address fault, and a double-bit error in the word ends the job. -/
def issue (e : Nat) (i : Instr) (f : State → State) (s : State) : Host.Outcome State Fault Refusal :=
  match nextWord s e with
  | none => .next s
  | some none => .next (kernelFault e 2 s)
  | some (some w) => if eddyWord i = some w then .next (inCycle e (eccAccess e [codeWord s e] f) s) else .next s

/-- The engine goes on at a pc, with its registers as given; the instruction is counted (R495). -/
def goTo (e pc : Nat) (v : Engine) (s : State) : State :=
  setEngine e { v with pc := pc, cycles := v.cycles + 1 } s |> countEvent (unitOfCluster (e / 8)) 0x10 1

/-- The engine goes on with the next instruction. -/
def advance (e : Nat) (f : Engine → Engine) (s : State) : State :=
  let v := engineOf s e
  goTo e (v.pc + 4) (f v) s

/-- The kernel an engine runs. -/
def runningKernel (s : State) (e : Nat) : Option Kernel := kernelOf s (engineOf s e).handle

/-- An access of n bytes at an aligned EA is legal for an engine. -/
def eaOk (s : State) (e ea n : Nat) : Bool :=
  match runningKernel s e with
  | some k => inData k ea n || inPad ea n
  | none => false

/-! ### Effective addresses of the formats -/

/-- EA of format M: ra + off12. -/
def eaOf (v : Engine) (ra : BitVec 5) (off : BitVec 12) : Nat := (v.sreg ra + off.signExtend 32).toNat

/-! ### Status and CSRs (R401, R402) -/

/-- Requests of an engine outstanding. -/
def Engine.outstanding (v : Engine) : Nat := (activeLanes v.tags).length

/-- st as an engine reads it. -/
def Engine.st (v : Engine) : BitVec 32 :=
  BitVec.ofNat 32 (b2n v.wcol + 2 * b2n v.sat + 4 * b2n v.dz + 8 * b2n v.aovf + 16 * b2n v.ie + 32 * b2n v.inh +
    64 * b2n v.mdonePend + 128 * b2n v.dwarnPend + 256 * b2n v.dwarn + 65536 * min 15 v.outstanding)

/-- A CSR as engine e reads it. Stall cycles are not modelled, so cycles is a free value not below the instructions
issued. -/
def csrValue (s : State) (e : Nat) (csr : BitVec 3) : BitVec 32 :=
  let v := engineOf s e
  match csr.toNat with
  | 0 => v.st
  | 1 => BitVec.ofNat 32 v.epc
  | 2 => BitVec.ofNat 32 (v.cycles + Config.freeValue s.fresh)
  | 3 => BitVec.ofNat 32 e
  | 4 => v.mdone.setWidth 32
  | _ => v.tags.setWidth 32

/-- A write of a CSR; read-only CSRs and bits keep their value, W1C bits clear where the value has 1. -/
def Engine.setCsr (csr : BitVec 3) (x : BitVec 32) (v : Engine) : Engine :=
  match csr.toNat with
  | 0 =>
    let bit := fun i => bitAt x.toNat i
    { v with wcol := v.wcol && !bit 0, sat := v.sat && !bit 1, dz := v.dz && !bit 2, aovf := v.aovf && !bit 3, ie := bit 4 }
  | 1 => { v with epc := x.toNat % 16384 }
  | 4 => { v with mdone := v.mdone &&& ~~~(x.setWidth 16) }
  | _ => v

/-! ### Mover requests (R395, R396) -/

/-- The request a 16-byte descriptor spells, without its tag. -/
def readRequest (e : Nat) (bs : List Byte) : MoveReq :=
  { engine := e, tag := 0, window := leAt bs 0 1, plane := leAt bs 1 1, lines := leAt bs 2 1, x := signed 16 (leAt bs 4 2),
    y := signed 16 (leAt bs 6 2), width := leAt bs 8 2, pitch := leAt bs 10 2, addr := leAt bs 12 4 }

/-- The fields of a request keep the table of R395. -/
def fieldsOk (r : MoveReq) (reserved : Nat) : Bool :=
  decide (r.window ≤ 4 ∧ 1 ≤ r.lines ∧ r.lines ≤ 64 ∧ reserved = 0 ∧ 1 ≤ r.width ∧ r.width ≤ 1024) &&
  decide (r.pitch % 2 = 0 ∧ r.width * elementBytes r.window ≤ r.pitch ∧ r.addr % 2 = 0) &&
  inPad r.addr ((r.lines - 1) * r.pitch + r.width * elementBytes r.window)

/-- The channel a job's stage works on. -/
def jobChannel (j : Job) : Nat := ((chainSteps j.cell)[j.at_]?.getD (0, 0)).2

/-- The plane of a request is one that its window has for the stage. -/
def planeOk (j : Job) (stage : Nat) (r : MoveReq) : Bool :=
  match r.window with
  | 0 => decide (r.plane ≤ 2)
  | 4 => if stage = 1 ∨ stage = 7 then decide (r.plane < (channelsOf j.cell).length) else decide (r.plane = jobChannel j)
  | _ => decide (r.plane = jobChannel j)

/-- A request lies in a window of the stage (R366, R396). -/
def windowOk (s : State) (j : Job) (stage : Nat) (r : MoveReq) : Bool :=
  let next := decide (j.sfn ≠ sfn s)
  let s := j.view s
  let t := tileRect s j.tc j.tr
  let within := fun (x0 y0 x1 y1 : Int) =>
    decide (x0 ≤ r.x ∧ r.x + r.width ≤ x1 ∧ y0 ≤ r.y ∧ r.y + r.lines ≤ y1)
  match r.window with
  | 0 =>
    let h := haloFrom s (tableFor s next 0x12F00000) j.cell 1
    decide (stage = 1) && within (-h.2) (-h.1) (t.w + h.2) (t.h + h.1)
  | 1 =>
    let g := stageRect s next j.cell 3 t
    decide (stage = 3) && within ((g.x : Int) - t.x) ((g.y : Int) - t.y) ((g.x : Int) + g.w - t.x) ((g.y : Int) + g.h - t.y)
  | 4 => within 0 0 t.w t.h
  | _ => decide (stage = 5) && within 0 0 t.w t.h

/-- A request is one that the mover accepts. -/
def requestOk (s : State) (e : Nat) (r : MoveReq) (reserved : Nat) : Bool :=
  match jobOf s e with
  | some j => decide (j.cell ≠ 2) && fieldsOk r reserved && planeOk j (engineOf s e).stage r && windowOk s j (engineOf s e).stage r
  | none => false

/-! ### Events of an engine -/

/-- The head of a cluster's queue finishes: a read window's data is in the scratchpad, and the requester sees its tag
(R397). What an output request carries to PIPE, the scheduler's own move replaces (R405). -/
def finishRequest (c : Nat) (r : MoveReq) (s : State) : State :=
  let k := clusterOf s c
  let pad := (List.range r.lines).foldl (fun t i => (List.range (r.width * elementBytes r.window)).foldl (fun t o =>
    match movedByte s r (r.lineAt i + o) with
    | some b => tabSet (fun _ => 0) t (r.lineAt i + o) b
    | none => t) t) k.pad
  let s := setCluster c { k with pad := pad, queue := k.queue.drop 1 } { s with fresh := s.fresh + 2 ^ 20 } |> enqueueFetches c
  let v := engineOf s r.engine
  let bit := BitVec.ofNat 16 (2 ^ r.tag)
  setEngine r.engine { v with mdone := v.mdone ||| bit, tags := v.tags &&& ~~~bit, mdonePend := true } s

/-- Scratchpad words of a request. -/
def MoveReq.words (r : MoveReq) : List (Nat × Nat) :=
  ((List.range r.lines).flatMap (fun i => wordSpan 8 (r.lineAt i) (r.width * elementBytes r.window))).eraseDups

/-- Words that a request of a read window writes wholly carry fresh check bits. -/
def moverWrites (c : Nat) (r : MoveReq) (s : State) : State :=
  let n := r.width * elementBytes r.window
  let whole := fun w => (List.range r.lines).any (fun i => decide (r.lineAt i ≤ 8 * w ∧ 8 * w + 8 ≤ r.lineAt i + n))
  setCluster c { clusterOf s c with flips := tabKeep (fun w => !whole w) (clusterOf s c).flips } s

/-- The last input fetch of a job is done: its chain starts (R403). -/
def startFetched (e : Nat) (s : State) : State :=
  match jobOf s e with
  | some j =>
    if j.toFetch ≠ 0 ∨ (clusterOf s (e / 8)).queue.any (fun q => q.input && decide (q.engine = e)) = true then s
    else advanceJob (chainSteps j.cell).length j s |> followEngines (e / 8)
  | none => s

/-- An input fetch at the head of a cluster's queue finishes, and one that waits for a slot enters the queue (R365). -/
def finishFetch (c : Nat) (r : MoveReq) (s : State) : State :=
  setCluster c { clusterOf s c with queue := (clusterOf s c).queue.drop 1 } s |> enqueueFetches c |> startFetched r.engine

/-- MOVER_REQUEST_DONE (R365, R397): the mover serves requests in queue order. It meets the errors of what it reads (R370). -/
def execMoverRequestDone (cluster : Nat) (s : State) : Host.Outcome State Fault Refusal :=
  match (clusterOf s cluster).queue with
  | r :: _ =>
    if cluster < 32 ∧ compClocked s then
      if r.input then .next (finishFetch cluster r s)
      else if r.window ≠ 4 then .next (moverWrites cluster r (finishRequest cluster r s))
      else
        let m := meetErrors 0xFF r.engine r.words s
        .next (if m.1 then m.2 else finishRequest cluster r m.2)
    else .next s
  | [] => .next s

/-- MOVER_STARVE (R367): request i of a cluster's queue has made no progress for some cycles. -/
def execMoverStarve (cluster i cycles : Nat) (s : State) : Host.Outcome State Fault Refusal :=
  let k := clusterOf s cluster
  match k.queue[i]? with
  | none => .next s
  | some r =>
    if r.starved ∨ cycles < max 1 (rdF s Reg.ENG_MOVER Fld.ENG_MOVER_starve) then .next s
    else
      .next (setCluster cluster { k with queue := listPut k.queue i { r with starved := true } } s
        |> setFlag (Flag.ENG_mover_starve (unitOfCluster cluster))
        |> bumpSat (Reg.ENG_Cc_MOVER cluster) Fld.ENG_Cc_MOVER_starved 1
        |> postEvent .device 0x04F3 (unitOfCluster cluster) 1 (dataAt 24 cluster ||| dataAt 28 (cycles % 2 ^ 32)))

/-- HANDLER_ENTRY (R403). A wait in progress is abandoned; at a barrier and after halt none is taken. -/
def execHandlerEntry (engine : Nat) (s : State) : Host.Outcome State Fault Refusal :=
  let v := engineOf s engine
  let stalled := match v.stall with
    | .free | .waiting _ => false
    | .barrier _ | .halting | .queueing => true
  if !v.running || stalled || !compClocked s then .next s
  else match runningKernel s engine with
  | none => .next s
  | some k => match handlerDue k v with
    | none => .next s
    | some (entry, warn) =>
      let v := { v with epc := v.pc % 16384, inh := true, pc := entry, stall := .free }
      .next (setEngine engine (if warn then { v with dwarnPend := false } else { v with mdonePend := false }) s)

/-- Engines of an engine's barrier group that have not halted. -/
def barrierGroup (s : State) (e : Nat) : List Nat :=
  match jobOf s e with
  | some j => (if j.cell = 2 then j.group else [e]).filter (fun i => (engineOf s i).running && decide ((engineOf s i).stall ≠ .halting))
  | none => []

/-- BARRIER_RELEASE (R398): every engine of the group waits at a bar with the same id. -/
def execBarrierRelease (engine : Nat) (s : State) : Host.Outcome State Fault Refusal :=
  let g := barrierGroup s engine
  match (engineOf s engine).stall with
  | .barrier id =>
    if g.all (fun i => decide ((engineOf s i).stall = .barrier id)) then
      .next (g.foldl (fun s i =>
        let v := engineOf s i
        setEngine i { v with stall := .free, pc := v.pc + 4 } s) s)
    else .next s
  | _ => .next s

/-- A condition selected by a mask of wait holds (R399). -/
def waitHolds (v : Engine) (mask : Nat) : Bool :=
  (bitAt mask 0 && decide (v.tags = 0)) || (bitAt mask 1 && decide (v.mdone ≠ 0)) || (bitAt mask 2 && v.dwarn)

/-- WAIT_RELEASE (R399). -/
def execWaitRelease (engine : Nat) (s : State) : Host.Outcome State Fault Refusal :=
  let v := engineOf s engine
  match v.stall with
  | .waiting mask =>
    if waitHolds v mask then .next (setEngine engine { v with stall := .free, pc := v.pc + 4 } s) else .next s
  | _ => .next s

/-! ### Stage end (R405) -/

/-- Output plane ch of a stage over the rectangle it had to produce, as the scratchpad holds it. -/
def outPlane (s : State) (j : Job) (a : StageArea) (r : Rect) (ch : Nat) : Plane :=
  let t := tileRect s j.tc j.tr
  let at_ := fun (x y : Nat) => j.base + a.outAt t.w t.h + ch * a.outStride t.w t.h + a.outPitch t.w * (y + a.outV - t.y) + 2 * (x + a.outH - t.x)
  Plane.over r (fun x y => ofLe (padRead s (j.engine / 8) (at_ x y) 2))

/-- What a customer kernel's stage hands on, read from its output planes or its statistics record. The m plane, rt and
the clip counts behind a customer split stage are not stated. -/
def stageOutput (s : State) (j : Job) (stage ch : Nat) : Job :=
  let next := decide (j.sfn ≠ sfn s)
  let s := j.view s
  let a := stageArea s next j stage ch
  let t := jobRect s j
  let c := j.engine / 8
  let r := stageRect s next j.cell stage t
  match stage with
  | 1 =>
    let free := fun (k bound : Nat) => Plane.over t (fun x y => Config.freeValue (s.fresh + 2 ^ 28 * k + 16384 * y + x) % bound)
    { j with planes := (List.range a.outs).map (outPlane s j a r), peaks := [free 0 65536, free 1 65536, free 2 2, free 3 2] }
  | 7 =>
    let at_ := j.base + a.auxAt t.w t.h
    let word := fun i => ofLe (padRead s c (at_ + 4 * i) 4)
    let hist := (List.range 256).foldl (fun (h : Tab Nat) b => tabSet (fun _ => 0) h b (word b)) []
    let zones := ((zonesIn s t).zipIdx).foldl (fun (z : Tab Nat) e =>
      tabSet (fun _ => 0) z e.1 (ofLe (padRead s c (at_ + 1032 + 2 * e.2) 2))) []
    { j with stats := { histogram := hist, clipRear := word 256, clipFront := word 257, zoneMax := zones } }
  | 6 =>
    let at_ := j.base + a.outAt t.w t.h
    let zones := (List.range 2304).foldl (fun (z : Tab Nat) i => tabSet (fun _ => 65535) z i (ofLe (padRead s c (at_ + 2 * i) 2))) []
    { j with stats := { j.stats with zoneMax := zones } }
  | _ =>
    let j := if stage = 5 then { j with targets := j.targets ++ [j.planes.getD ch default] } else j
    { j with planes := putPlane j.planes ch (outPlane s j a r 0) }

/-- The scratchpad words that hold what a job's stage hands on: its output planes and its record. -/
def outputWords (s : State) (j : Job) : List (Nat × Nat) :=
  match (chainSteps j.cell)[j.at_]? with
  | none => []
  | some (stage, ch) =>
    let a := stageArea (j.view s) (decide (j.sfn ≠ sfn s)) j stage ch
    let t := jobRect s j
    wordSpan 8 (j.base + a.outAt t.w t.h) (a.dirAt t.w t.h - a.outAt t.w t.h)

/-- The stage of a job has ended on every engine: the next stage starts. -/
def endJobStage (j : Job) (s : State) : State :=
  match (chainSteps j.cell)[j.at_]? with
  | none => s
  | some (stage, ch) =>
    let out := stageOutput s j stage ch
    advanceJob (chainSteps j.cell).length { out with at_ := j.at_ + 1 } { s with fresh := s.fresh + 2 ^ 40 }

/-- STAGE_END (R405): a halted engine has no request outstanding. In a frame job the stage ends with the last engine of
the group. -/
def execStageEnd (engine : Nat) (s : State) : Host.Outcome State Fault Refusal :=
  let v := engineOf s engine
  if !v.running ∨ v.stall ≠ .halting ∨ v.tags ≠ 0 then .next s
  else match jobOf s engine with
  | none => .next s
  | some j =>
    let s := setEngine engine { v with running := false } s
    if (if j.group = [] then [j.engine] else j.group).any (fun i => (engineOf s i).running) then .next s
    else
      let m := meetErrors 0xFF j.engine (outputWords s j) s
      .next (if m.1 then m.2 else endJobStage j m.2)

/-- INSTRUCTION_UNDEFINED (R382): the word an engine fetches spells no instruction. -/
def execInstructionUndefined (engine : Nat) (s : State) : Host.Outcome State Fault Refusal :=
  match nextWord s engine with
  | none => .next s
  | some none => .next (kernelFault engine 2 s)
  | some (some w) => if (eddyDecode engine w).isSome then .next s else .next (kernelFault engine 1 s)

end Sys2Proof.Machine
end

