-- ==== Sys2Proof/Machine/EddyScalar.lean ====
section
/-! DEFINITION. Scalar, memory, atomic and control instructions of an Eddy engine (R384 to R387, R395 to R405). e is
the engine that issues. -/

namespace Sys2Proof.Machine

/-- Free values taken by an instruction that reads data in flight. -/
def spend (s : State) : State := { s with fresh := s.fresh + 2 ^ 20 }

/-! ### Scalar arithmetic (R384) -/

/-- rd takes a function of two s registers. -/
def scalarOp (e : Nat) (rd ra rb : BitVec 5) (f : BitVec 32 → BitVec 32 → BitVec 32) (s : State) : State :=
  advance e (fun v => v.setS rd (f (v.sreg ra) (v.sreg rb))) s

/-- rd takes a function of one s register. -/
def scalarImm (e : Nat) (rd ra : BitVec 5) (f : BitVec 32 → BitVec 32) (s : State) : State :=
  advance e (fun v => v.setS rd (f (v.sreg ra))) s

/-- 1 or 0 in 32 bits. -/
def flag32 (b : Bool) : BitVec 32 := if b then 1 else 0

/-- Bits [63:32] of a 64-bit product. -/
def highWord (p : Int) : BitVec 32 := BitVec.ofInt 32 (p / 4294967296)

/-- add (R384). -/
def execAdd (e : Nat) (rd ra rb : BitVec 5) (s : State) : Host.Outcome State Fault Refusal :=
  issue e (.add e rd ra rb) (scalarOp e rd ra rb (fun a b => a + b)) s

/-- sub (R384). -/
def execSub (e : Nat) (rd ra rb : BitVec 5) (s : State) : Host.Outcome State Fault Refusal :=
  issue e (.sub e rd ra rb) (scalarOp e rd ra rb (fun a b => a - b)) s

/-- and (R384). -/
def execAnd (e : Nat) (rd ra rb : BitVec 5) (s : State) : Host.Outcome State Fault Refusal :=
  issue e (.and e rd ra rb) (scalarOp e rd ra rb (fun a b => a &&& b)) s

/-- or (R384). -/
def execOr (e : Nat) (rd ra rb : BitVec 5) (s : State) : Host.Outcome State Fault Refusal :=
  issue e (.or e rd ra rb) (scalarOp e rd ra rb (fun a b => a ||| b)) s

/-- xor (R384). -/
def execXor (e : Nat) (rd ra rb : BitVec 5) (s : State) : Host.Outcome State Fault Refusal :=
  issue e (.xor e rd ra rb) (scalarOp e rd ra rb (fun a b => a ^^^ b)) s

/-- shl (R384). -/
def execShl (e : Nat) (rd ra rb : BitVec 5) (s : State) : Host.Outcome State Fault Refusal :=
  issue e (.shl e rd ra rb) (scalarOp e rd ra rb (fun a b => a <<< (b.toNat % 32))) s

/-- shr (R384). -/
def execShr (e : Nat) (rd ra rb : BitVec 5) (s : State) : Host.Outcome State Fault Refusal :=
  issue e (.shr e rd ra rb) (scalarOp e rd ra rb (fun a b => a >>> (b.toNat % 32))) s

/-- sra (R384). -/
def execSra (e : Nat) (rd ra rb : BitVec 5) (s : State) : Host.Outcome State Fault Refusal :=
  issue e (.sra e rd ra rb) (scalarOp e rd ra rb (fun a b => a.sshiftRight (b.toNat % 32))) s

/-- slt (R384). -/
def execSlt (e : Nat) (rd ra rb : BitVec 5) (s : State) : Host.Outcome State Fault Refusal :=
  issue e (.slt e rd ra rb) (scalarOp e rd ra rb (fun a b => flag32 (a.slt b))) s

/-- sltu (R384). -/
def execSltu (e : Nat) (rd ra rb : BitVec 5) (s : State) : Host.Outcome State Fault Refusal :=
  issue e (.sltu e rd ra rb) (scalarOp e rd ra rb (fun a b => flag32 (a.ult b))) s

/-- min (R384). -/
def execMin (e : Nat) (rd ra rb : BitVec 5) (s : State) : Host.Outcome State Fault Refusal :=
  issue e (.min e rd ra rb) (scalarOp e rd ra rb (fun a b => if a.slt b then a else b)) s

/-- minu (R384). -/
def execMinu (e : Nat) (rd ra rb : BitVec 5) (s : State) : Host.Outcome State Fault Refusal :=
  issue e (.minu e rd ra rb) (scalarOp e rd ra rb (fun a b => if a.ult b then a else b)) s

/-- max (R384). -/
def execMax (e : Nat) (rd ra rb : BitVec 5) (s : State) : Host.Outcome State Fault Refusal :=
  issue e (.max e rd ra rb) (scalarOp e rd ra rb (fun a b => if a.slt b then b else a)) s

/-- maxu (R384). -/
def execMaxu (e : Nat) (rd ra rb : BitVec 5) (s : State) : Host.Outcome State Fault Refusal :=
  issue e (.maxu e rd ra rb) (scalarOp e rd ra rb (fun a b => if a.ult b then b else a)) s

/-- mul (R384). -/
def execMul (e : Nat) (rd ra rb : BitVec 5) (s : State) : Host.Outcome State Fault Refusal :=
  issue e (.mul e rd ra rb) (scalarOp e rd ra rb (fun a b => a * b)) s

/-- mulh (R384). -/
def execMulh (e : Nat) (rd ra rb : BitVec 5) (s : State) : Host.Outcome State Fault Refusal :=
  issue e (.mulh e rd ra rb) (scalarOp e rd ra rb (fun a b => highWord (a.toInt * b.toInt))) s

/-- mulhu (R384). -/
def execMulhu (e : Nat) (rd ra rb : BitVec 5) (s : State) : Host.Outcome State Fault Refusal :=
  issue e (.mulhu e rd ra rb) (scalarOp e rd ra rb (fun a b => highWord ((a.toNat * b.toNat : Nat) : Int))) s

/-- addi (R384). -/
def execAddi (e : Nat) (rd ra : BitVec 5) (imm : BitVec 15) (s : State) : Host.Outcome State Fault Refusal :=
  issue e (.addi e rd ra imm) (scalarImm e rd ra (fun a => a + imm.signExtend 32)) s

/-- andi (R384). -/
def execAndi (e : Nat) (rd ra : BitVec 5) (imm : BitVec 15) (s : State) : Host.Outcome State Fault Refusal :=
  issue e (.andi e rd ra imm) (scalarImm e rd ra (fun a => a &&& imm.zeroExtend 32)) s

/-- ori (R384). -/
def execOri (e : Nat) (rd ra : BitVec 5) (imm : BitVec 15) (s : State) : Host.Outcome State Fault Refusal :=
  issue e (.ori e rd ra imm) (scalarImm e rd ra (fun a => a ||| imm.zeroExtend 32)) s

/-- xori (R384). -/
def execXori (e : Nat) (rd ra : BitVec 5) (imm : BitVec 15) (s : State) : Host.Outcome State Fault Refusal :=
  issue e (.xori e rd ra imm) (scalarImm e rd ra (fun a => a ^^^ imm.zeroExtend 32)) s

/-- slti (R384). -/
def execSlti (e : Nat) (rd ra : BitVec 5) (imm : BitVec 15) (s : State) : Host.Outcome State Fault Refusal :=
  issue e (.slti e rd ra imm) (scalarImm e rd ra (fun a => flag32 (a.slt (imm.signExtend 32)))) s

/-- sltiu (R384). -/
def execSltiu (e : Nat) (rd ra : BitVec 5) (imm : BitVec 15) (s : State) : Host.Outcome State Fault Refusal :=
  issue e (.sltiu e rd ra imm) (scalarImm e rd ra (fun a => flag32 (a.ult (imm.signExtend 32)))) s

/-- shli (R383, R384). -/
def execShli (e : Nat) (rd ra sh : BitVec 5) (s : State) : Host.Outcome State Fault Refusal :=
  issue e (.shli e rd ra sh) (scalarImm e rd ra (fun a => a <<< sh.toNat)) s

/-- shri (R383, R384). -/
def execShri (e : Nat) (rd ra sh : BitVec 5) (s : State) : Host.Outcome State Fault Refusal :=
  issue e (.shri e rd ra sh) (scalarImm e rd ra (fun a => a >>> sh.toNat)) s

/-- srai (R383, R384). -/
def execSrai (e : Nat) (rd ra sh : BitVec 5) (s : State) : Host.Outcome State Fault Refusal :=
  issue e (.srai e rd ra sh) (scalarImm e rd ra (fun a => a.sshiftRight sh.toNat)) s

/-- lui (R383). -/
def execLui (e : Nat) (rd : BitVec 5) (imm : BitVec 20) (s : State) : Host.Outcome State Fault Refusal :=
  issue e (.lui e rd imm) (advance e (fun v => v.setS rd (imm.zeroExtend 32 <<< 12))) s

/-! ### Jumps and branches (R383, R384) -/

/-- pc + 4 × an offset, modulo 2^32: a target outside the code faults when it is fetched. -/
def jumpTarget (pc : Nat) (off : Int) : Nat := (((pc : Int) + 4 * off) % 4294967296).toNat

/-- Jump and link. -/
def jumpTo (e : Nat) (rd : BitVec 5) (pc : Nat) (s : State) : State :=
  let v := engineOf s e
  goTo e pc (v.setS rd (BitVec.ofNat 32 (v.pc + 4))) s

/-- jal (R383). -/
def execJal (e : Nat) (rd : BitVec 5) (imm : BitVec 20) (s : State) : Host.Outcome State Fault Refusal :=
  issue e (.jal e rd imm) (jumpTo e rd (jumpTarget (engineOf s e).pc imm.toInt)) s

/-- jalr (R383): bits [1:0] of the target are cleared. -/
def execJalr (e : Nat) (rd ra : BitVec 5) (imm : BitVec 15) (s : State) : Host.Outcome State Fault Refusal :=
  issue e (.jalr e rd ra imm) (jumpTo e rd (((engineOf s e).sreg ra + imm.signExtend 32).toNat / 4 * 4)) s

/-- A comparison of two s registers; none for an undefined cond. -/
def condHolds (cond : BitVec 3) (a b : BitVec 32) : Option Bool :=
  match cond.toNat with
  | 0 => some (decide (a = b))
  | 1 => some (decide (a ≠ b))
  | 2 => some (a.slt b)
  | 3 => some (!a.slt b)
  | 4 => some (a.ult b)
  | 5 => some (!a.ult b)
  | _ => none

/-- The effect of br. -/
def branch (e : Nat) (cond : BitVec 3) (ra rb : BitVec 5) (off : BitVec 12) (s : State) : State :=
  let v := engineOf s e
  match condHolds cond (v.sreg ra) (v.sreg rb) with
  | none => kernelFault e 1 s
  | some t => goTo e (if t then jumpTarget v.pc off.toInt else v.pc + 4) v s

/-- br (R384). -/
def execBr (e : Nat) (cond : BitVec 3) (ra rb : BitVec 5) (off : BitVec 12) (s : State) : Host.Outcome State Fault Refusal :=
  issue e (.br e cond ra rb off) (branch e cond ra rb off) s

/-! ### Loads and stores (R385) -/

/-- rd takes n bytes at ra + off12, extended. -/
def loadS (e : Nat) (rd ra : BitVec 5) (off : BitVec 12) (n : Nat) (ext : Nat → BitVec 32) (s : State) : State :=
  let ea := alignEa (eaOf (engineOf s e) ra off) n
  if eaOk s e ea n then
    eccAccess e (wordsAt s e ea n) (fun s => spend (advance e (fun v => v.setS rd (ext (ofLe (eaRead s e ea n)))) s)) s
  else kernelFault e (eaCause ea) s

/-- The low n bytes of rd go to ra + off12. -/
def storeS (e : Nat) (rd ra : BitVec 5) (off : BitVec 12) (n : Nat) (s : State) : State :=
  let v := engineOf s e
  let ea := alignEa (eaOf v ra off) n
  if eaOk s e ea n then
    eaWrite e ((leBytes n (v.sreg rd).toNat).zipIdx.map (fun b => (ea + b.2, b.1))) s |> advance e (fun v => v)
  else kernelFault e (eaCause ea) s

/-- lw (R385). -/
def execLw (e : Nat) (rd ra : BitVec 5) (off : BitVec 12) (s : State) : Host.Outcome State Fault Refusal :=
  issue e (.lw e rd ra off) (loadS e rd ra off 4 (BitVec.ofNat 32)) s

/-- lh (R385). -/
def execLh (e : Nat) (rd ra : BitVec 5) (off : BitVec 12) (s : State) : Host.Outcome State Fault Refusal :=
  issue e (.lh e rd ra off) (loadS e rd ra off 2 (fun x => (BitVec.ofNat 16 x).signExtend 32)) s

/-- lhu (R385). -/
def execLhu (e : Nat) (rd ra : BitVec 5) (off : BitVec 12) (s : State) : Host.Outcome State Fault Refusal :=
  issue e (.lhu e rd ra off) (loadS e rd ra off 2 (BitVec.ofNat 32)) s

/-- lb (R385). -/
def execLb (e : Nat) (rd ra : BitVec 5) (off : BitVec 12) (s : State) : Host.Outcome State Fault Refusal :=
  issue e (.lb e rd ra off) (loadS e rd ra off 1 (fun x => (BitVec.ofNat 8 x).signExtend 32)) s

/-- lbu (R385). -/
def execLbu (e : Nat) (rd ra : BitVec 5) (off : BitVec 12) (s : State) : Host.Outcome State Fault Refusal :=
  issue e (.lbu e rd ra off) (loadS e rd ra off 1 (BitVec.ofNat 32)) s

/-- sw (R385). -/
def execSw (e : Nat) (rd ra : BitVec 5) (off : BitVec 12) (s : State) : Host.Outcome State Fault Refusal :=
  issue e (.sw e rd ra off) (storeS e rd ra off 4) s

/-- sh (R385). -/
def execSh (e : Nat) (rd ra : BitVec 5) (off : BitVec 12) (s : State) : Host.Outcome State Fault Refusal :=
  issue e (.sh e rd ra off) (storeS e rd ra off 2) s

/-- sb (R385). -/
def execSb (e : Nat) (rd ra : BitVec 5) (off : BitVec 12) (s : State) : Host.Outcome State Fault Refusal :=
  issue e (.sb e rd ra off) (storeS e rd ra off 1) s

/-- The effect of vld: 32 bytes at an EA, lane 0 from the lowest address. -/
def vectorLoad (e : Nat) (pg : BitVec 3) (vd ra : BitVec 5) (off : BitVec 12) (s : State) : State :=
  let ea := alignEa (eaOf (engineOf s e) ra off) 2
  if eaOk s e ea 32 then
    eccAccess e (wordsAt s e ea 32) (fun s =>
      spend (advance e (fun v => v.writeLanes vd (v.preg pg) (fun i => (leAt (eaRead s e ea 32) (2 * i) 2, false))) s)) s
  else kernelFault e (eaCause ea) s

/-- The bytes that vst writes, with their EA: those of the active lanes. -/
def storeLanes (v : Engine) (p : BitVec 16) (vs : BitVec 5) (ea : Nat) : List (Nat × Byte) :=
  (activeLanes p).flatMap (fun i => (leBytes 2 (vlane (v.vreg vs) i)).zipIdx.map (fun b => (ea + 2 * i + b.2, b.1)))

/-- The effect of vst. -/
def vectorStore (e : Nat) (pg : BitVec 3) (vs ra : BitVec 5) (off : BitVec 12) (s : State) : State :=
  let v := engineOf s e
  let ea := alignEa (eaOf v ra off) 2
  if eaOk s e ea 32 then eaWrite e (storeLanes v (v.preg pg) vs ea) s |> advance e (fun v => v)
  else kernelFault e (eaCause ea) s

/-- The effect of vldb: one u16 goes to every active lane. -/
def vectorBroadcast (e : Nat) (pg : BitVec 3) (vd ra : BitVec 5) (off : BitVec 12) (s : State) : State :=
  let ea := alignEa (eaOf (engineOf s e) ra off) 2
  if eaOk s e ea 2 then
    eccAccess e (wordsAt s e ea 2) (fun s =>
      spend (advance e (fun v => v.writeLanes vd (v.preg pg) (fun _ => (ofLe (eaRead s e ea 2), false))) s)) s
  else kernelFault e (eaCause ea) s

/-- vld (R385). -/
def execVld (e : Nat) (pg : BitVec 3) (vd ra : BitVec 5) (off : BitVec 12) (s : State) : Host.Outcome State Fault Refusal :=
  issue e (.vld e pg vd ra off) (vectorLoad e pg vd ra off) s

/-- vst (R385). -/
def execVst (e : Nat) (pg : BitVec 3) (vd ra : BitVec 5) (off : BitVec 12) (s : State) : Host.Outcome State Fault Refusal :=
  issue e (.vst e pg vd ra off) (vectorStore e pg vd ra off) s

/-- vldb (R385). -/
def execVldb (e : Nat) (pg : BitVec 3) (vd ra : BitVec 5) (off : BitVec 12) (s : State) : Host.Outcome State Fault Refusal :=
  issue e (.vldb e pg vd ra off) (vectorBroadcast e pg vd ra off) s

/-! ### Atomics (R387) -/

/-- An atomic on n bytes of the scratchpad: rd takes the value found, and memory the new one with its saturation. -/
def atomic (e : Nat) (rd ra rb : BitVec 5) (n : Nat) (f : Nat → BitVec 32 → Nat × Bool) (s : State) : State :=
  let v := engineOf s e
  let ea := alignEa (v.sreg ra).toNat n
  if inPad ea n then
    eccAccess e (wordsAt s e ea n) (fun s =>
      let old := ofLe (eaRead s e ea n)
      let new := f old (v.sreg rb)
      eaStore e ((leBytes n new.1).zipIdx.map (fun b => (ea + b.2, b.1))) s
        |> advance e (fun v => { v.setS rd (BitVec.ofNat 32 old) with sat := v.sat || new.2 })
        |> countEvent (unitOfCluster (e / 8)) 0x14 1 |> spend) s
  else kernelFault e 3 s

/-- aadds: the sum of an unsigned value and a signed one, held to n bits. -/
def addSat (bits old : Nat) (b : BitVec 32) : Nat × Bool :=
  let x := (old : Int) + signed bits b.toNat
  let y := clampI 0 ((2 ^ bits : Nat) - 1) x
  (y.toNat, decide (y ≠ x))

/-- aaddH (R387). -/
def execAaddH (e : Nat) (rd ra rb : BitVec 5) (s : State) : Host.Outcome State Fault Refusal :=
  issue e (.aaddH e rd ra rb) (atomic e rd ra rb 2 (fun m b => ((m + b.toNat) % 65536, false))) s

/-- aaddW (R387). -/
def execAaddW (e : Nat) (rd ra rb : BitVec 5) (s : State) : Host.Outcome State Fault Refusal :=
  issue e (.aaddW e rd ra rb) (atomic e rd ra rb 4 (fun m b => ((m + b.toNat) % 4294967296, false))) s

/-- aaddsH (R387). -/
def execAaddsH (e : Nat) (rd ra rb : BitVec 5) (s : State) : Host.Outcome State Fault Refusal :=
  issue e (.aaddsH e rd ra rb) (atomic e rd ra rb 2 (addSat 16)) s

/-- aaddsW (R387). -/
def execAaddsW (e : Nat) (rd ra rb : BitVec 5) (s : State) : Host.Outcome State Fault Refusal :=
  issue e (.aaddsW e rd ra rb) (atomic e rd ra rb 4 (addSat 32)) s

/-- aswpH (R387). -/
def execAswpH (e : Nat) (rd ra rb : BitVec 5) (s : State) : Host.Outcome State Fault Refusal :=
  issue e (.aswpH e rd ra rb) (atomic e rd ra rb 2 (fun _ b => (b.toNat % 65536, false))) s

/-- aswpW (R387). -/
def execAswpW (e : Nat) (rd ra rb : BitVec 5) (s : State) : Host.Outcome State Fault Refusal :=
  issue e (.aswpW e rd ra rb) (atomic e rd ra rb 4 (fun _ b => (b.toNat, false))) s

/-! ### Mover, barrier, wait (R395 to R399) -/

/-- A request with the descriptor at an EA: one that breaks its window faults; with a full queue the engine stalls. -/
def queueRequest (e : Nat) (rd : BitVec 5) (ea : Nat) (s : State) : State :=
  let bs := eaRead s e ea 16
  let r := readRequest e bs
  if !requestOk s e r (leAt bs 3 1) then kernelFault e 0 s
  else
    let c := clusterOf s (e / 8)
    let slots := freeSlots c
    let slot := slots.getD (Config.freeValue s.fresh % slots.length) 0
    if slots = [] then setEngine e { engineOf s e with stall := .queueing } s
    else
      setCluster (e / 8) { c with queue := c.queue ++ [{ r with tag := slot }] } s
        |> advance e (fun v => { v.setS rd (BitVec.ofNat 32 slot) with tags := v.tags ||| BitVec.ofNat 16 (2 ^ slot), stall := .free })
        |> countEvent (unitOfCluster (e / 8)) 0x15 1 |> spend

/-- The effect of mvq: the descriptor lies in the kernel's data area. -/
def moveQueue (e : Nat) (rd ra : BitVec 5) (s : State) : State :=
  let v := engineOf s e
  let ea := alignEa (v.sreg ra).toNat 16
  let inside := match runningKernel s e with
    | some k => inData k ea 16
    | none => false
  if !inside then kernelFault e (if inPad ea 16 then 0 else eaCause ea) s
  else eccAccess e (wordsAt s e ea 16) (queueRequest e rd ea) s

/-- mvq (R395, R396). -/
def execMvq (e : Nat) (rd ra : BitVec 5) (s : State) : Host.Outcome State Fault Refusal :=
  issue e (.mvq e rd ra) (moveQueue e rd ra) s

/-- An instruction is issued and stalls its engine at its own pc. -/
def stallAt (e : Nat) (w : EngineStall) (s : State) : State :=
  let v := engineOf s e
  goTo e v.pc { v with stall := w } s

/-- bar (R398): in a tile job the engine is alone, and bar completes at once. -/
def execBar (e : Nat) (id : BitVec 4) (s : State) : Host.Outcome State Fault Refusal :=
  issue e (.bar e id) (if (engineOf s e).frameJob then stallAt e (.barrier id.toNat) else advance e (fun v => v)) s

/-- The effect of wait. -/
def waitFor (e mask : Nat) (s : State) : State :=
  if mask = 0 then kernelFault e 1 s
  else if waitHolds (engineOf s e) mask then advance e (fun v => v) s
  else stallAt e (.waiting mask) s

/-- wait (R399). -/
def execWait (e : Nat) (mask : BitVec 3) (s : State) : Host.Outcome State Fault Refusal :=
  issue e (.wait e mask) (waitFor e mask.toNat) s

/-! ### CSRs, handlers, halt (R401 to R405) -/

/-- csrr (R402). -/
def execCsrr (e : Nat) (rd : BitVec 5) (csr : BitVec 3) (s : State) : Host.Outcome State Fault Refusal :=
  issue e (.csrr e rd csr) (fun s =>
    if 5 < csr.toNat then kernelFault e 1 s else spend (advance e (fun v => v.setS rd (csrValue s e csr)) s)) s

/-- csrw (R402). -/
def execCsrw (e : Nat) (ra : BitVec 5) (csr : BitVec 3) (s : State) : Host.Outcome State Fault Refusal :=
  issue e (.csrw e ra csr) (fun s =>
    if 5 < csr.toNat then kernelFault e 1 s else advance e (fun v => v.setCsr csr (v.sreg ra)) s) s

/-- The effect of eret: outside a handler it is undefined (R382). -/
def handlerReturn (e : Nat) (s : State) : State :=
  let v := engineOf s e
  if v.inh then goTo e v.epc { v with inh := false } s else kernelFault e 1 s

/-- eret (R404). -/
def execEret (e : Nat) (s : State) : Host.Outcome State Fault Refusal := issue e (.eret e) (handlerReturn e) s

/-- halt (R405). -/
def execHalt (e : Nat) (s : State) : Host.Outcome State Fault Refusal := issue e (.halt e) (stallAt e .halting) s

end Sys2Proof.Machine
end

