-- ==== Sys2Proof/Machine/EddyVector.lean ====
section
/-! DEFINITION. Vector, predicate, accumulator and lookup instructions of an Eddy engine (R388 to R394). -/

namespace Sys2Proof.Machine

/-! ### Lane operations (R388) -/

/-- A lane as s16. -/
def sx16 (x : Nat) : Int := signed 16 x

/-- A result of 16 bits that saturates nothing. -/
def plain (x : Int) : Nat × Bool := (pattern 16 x, false)

/-- A result held to s16 or u16, and whether it differs from the exact one. -/
def heldS (x : Int) : Nat × Bool := (pattern 16 (satS 16 x), decide (satS 16 x ≠ x))
def heldU (x : Int) : Nat × Bool := (satU16 x, decide ((satU16 x : Int) ≠ x))

/-- Active lanes of vd take an operation of the lanes of va and vb. -/
def laneOp (e : Nat) (pg : BitVec 3) (vd va vb : BitVec 5) (f : Nat → Nat → Nat × Bool) (s : State) : State :=
  advance e (fun v => v.writeLanes vd (v.preg pg) (fun i => f (vlane (v.vreg va) i) (vlane (v.vreg vb) i))) s

/-- Active lanes of vd take an operation of the lanes of va alone, with the lane number. -/
def laneUn (e : Nat) (pg : BitVec 3) (vd va : BitVec 5) (f : Nat → Nat → Nat × Bool) (s : State) : State :=
  advance e (fun v => v.writeLanes vd (v.preg pg) (fun i => f i (vlane (v.vreg va) i))) s

/-- Lane shifts: 16 or more gives 0; vsra shifts by at most 15. -/
def laneShl (a n : Nat) : Nat × Bool := plain ((a * 2 ^ n : Nat) : Int)
def laneShr (a n : Nat) : Nat × Bool := plain ((a / 2 ^ n : Nat) : Int)
def laneSra (a n : Nat) : Nat × Bool := plain (sx16 a / (2 ^ min n 15 : Nat))

/-- vadd (R388). -/
def execVadd (e : Nat) (pg : BitVec 3) (vd va vb : BitVec 5) (s : State) : Host.Outcome State Fault Refusal :=
  issue e (.vadd e pg vd va vb) (laneOp e pg vd va vb (fun a b => plain ((a : Int) + b))) s

/-- vsub (R388). -/
def execVsub (e : Nat) (pg : BitVec 3) (vd va vb : BitVec 5) (s : State) : Host.Outcome State Fault Refusal :=
  issue e (.vsub e pg vd va vb) (laneOp e pg vd va vb (fun a b => plain ((a : Int) - b))) s

/-- vadds (R388). -/
def execVadds (e : Nat) (pg : BitVec 3) (vd va vb : BitVec 5) (s : State) : Host.Outcome State Fault Refusal :=
  issue e (.vadds e pg vd va vb) (laneOp e pg vd va vb (fun a b => heldS (sx16 a + sx16 b))) s

/-- vsubs (R388). -/
def execVsubs (e : Nat) (pg : BitVec 3) (vd va vb : BitVec 5) (s : State) : Host.Outcome State Fault Refusal :=
  issue e (.vsubs e pg vd va vb) (laneOp e pg vd va vb (fun a b => heldS (sx16 a - sx16 b))) s

/-- vaddus (R388). -/
def execVaddus (e : Nat) (pg : BitVec 3) (vd va vb : BitVec 5) (s : State) : Host.Outcome State Fault Refusal :=
  issue e (.vaddus e pg vd va vb) (laneOp e pg vd va vb (fun a b => heldU ((a : Int) + b))) s

/-- vsubus (R388). -/
def execVsubus (e : Nat) (pg : BitVec 3) (vd va vb : BitVec 5) (s : State) : Host.Outcome State Fault Refusal :=
  issue e (.vsubus e pg vd va vb) (laneOp e pg vd va vb (fun a b => heldU ((a : Int) - b))) s

/-- vaddsu (R388). -/
def execVaddsu (e : Nat) (pg : BitVec 3) (vd va vb : BitVec 5) (s : State) : Host.Outcome State Fault Refusal :=
  issue e (.vaddsu e pg vd va vb) (laneOp e pg vd va vb (fun a b => heldU ((a : Int) + sx16 b))) s

/-- vmin (R388). -/
def execVmin (e : Nat) (pg : BitVec 3) (vd va vb : BitVec 5) (s : State) : Host.Outcome State Fault Refusal :=
  issue e (.vmin e pg vd va vb) (laneOp e pg vd va vb (fun a b => plain (min (sx16 a) (sx16 b)))) s

/-- vmax (R388). -/
def execVmax (e : Nat) (pg : BitVec 3) (vd va vb : BitVec 5) (s : State) : Host.Outcome State Fault Refusal :=
  issue e (.vmax e pg vd va vb) (laneOp e pg vd va vb (fun a b => plain (max (sx16 a) (sx16 b)))) s

/-- vminu (R388). -/
def execVminu (e : Nat) (pg : BitVec 3) (vd va vb : BitVec 5) (s : State) : Host.Outcome State Fault Refusal :=
  issue e (.vminu e pg vd va vb) (laneOp e pg vd va vb (fun a b => plain ((min a b : Nat) : Int))) s

/-- vmaxu (R388). -/
def execVmaxu (e : Nat) (pg : BitVec 3) (vd va vb : BitVec 5) (s : State) : Host.Outcome State Fault Refusal :=
  issue e (.vmaxu e pg vd va vb) (laneOp e pg vd va vb (fun a b => plain ((max a b : Nat) : Int))) s

/-- vand (R388). -/
def execVand (e : Nat) (pg : BitVec 3) (vd va vb : BitVec 5) (s : State) : Host.Outcome State Fault Refusal :=
  issue e (.vand e pg vd va vb) (laneOp e pg vd va vb (fun a b => (a &&& b, false))) s

/-- vor (R388). -/
def execVor (e : Nat) (pg : BitVec 3) (vd va vb : BitVec 5) (s : State) : Host.Outcome State Fault Refusal :=
  issue e (.vor e pg vd va vb) (laneOp e pg vd va vb (fun a b => (a ||| b, false))) s

/-- vxor (R388). -/
def execVxor (e : Nat) (pg : BitVec 3) (vd va vb : BitVec 5) (s : State) : Host.Outcome State Fault Refusal :=
  issue e (.vxor e pg vd va vb) (laneOp e pg vd va vb (fun a b => (a ^^^ b, false))) s

/-- vshl (R388). -/
def execVshl (e : Nat) (pg : BitVec 3) (vd va vb : BitVec 5) (s : State) : Host.Outcome State Fault Refusal :=
  issue e (.vshl e pg vd va vb) (laneOp e pg vd va vb (fun a b => laneShl a (b % 32))) s

/-- vshr (R388). -/
def execVshr (e : Nat) (pg : BitVec 3) (vd va vb : BitVec 5) (s : State) : Host.Outcome State Fault Refusal :=
  issue e (.vshr e pg vd va vb) (laneOp e pg vd va vb (fun a b => laneShr a (b % 32))) s

/-- vsra (R388). -/
def execVsra (e : Nat) (pg : BitVec 3) (vd va vb : BitVec 5) (s : State) : Host.Outcome State Fault Refusal :=
  issue e (.vsra e pg vd va vb) (laneOp e pg vd va vb (fun a b => laneSra a (b % 32))) s

/-- vmul (R388). -/
def execVmul (e : Nat) (pg : BitVec 3) (vd va vb : BitVec 5) (s : State) : Host.Outcome State Fault Refusal :=
  issue e (.vmul e pg vd va vb) (laneOp e pg vd va vb (fun a b => plain ((a * b : Nat) : Int))) s

/-- vmulh (R388). -/
def execVmulh (e : Nat) (pg : BitVec 3) (vd va vb : BitVec 5) (s : State) : Host.Outcome State Fault Refusal :=
  issue e (.vmulh e pg vd va vb) (laneOp e pg vd va vb (fun a b => plain (sx16 a * sx16 b / 65536))) s

/-- vmulhu (R388). -/
def execVmulhu (e : Nat) (pg : BitVec 3) (vd va vb : BitVec 5) (s : State) : Host.Outcome State Fault Refusal :=
  issue e (.vmulhu e pg vd va vb) (laneOp e pg vd va vb (fun a b => plain ((a * b / 65536 : Nat) : Int))) s

/-- vabsdu (R388). -/
def execVabsdu (e : Nat) (pg : BitVec 3) (vd va vb : BitVec 5) (s : State) : Host.Outcome State Fault Refusal :=
  issue e (.vabsdu e pg vd va vb) (laneOp e pg vd va vb (fun a b => plain ((max a b - min a b : Nat) : Int))) s

/-- vavgu (R388). -/
def execVavgu (e : Nat) (pg : BitVec 3) (vd va vb : BitVec 5) (s : State) : Host.Outcome State Fault Refusal :=
  issue e (.vavgu e pg vd va vb) (laneOp e pg vd va vb (fun a b => plain (((a + b + 1) / 2 : Nat) : Int))) s

/-- vsel (R388): every lane is written. -/
def execVsel (e : Nat) (pg : BitVec 3) (vd va vb : BitVec 5) (s : State) : Host.Outcome State Fault Refusal :=
  issue e (.vsel e pg vd va vb) (advance e (fun v =>
    v.setV vd (blendLanes (v.preg pg) (v.vreg vb) (vlane (v.vreg va))))) s

/-- vshli (R388). -/
def execVshli (e : Nat) (pg : BitVec 3) (vd va imm : BitVec 5) (s : State) : Host.Outcome State Fault Refusal :=
  issue e (.vshli e pg vd va imm) (laneUn e pg vd va (fun _ a => laneShl a imm.toNat)) s

/-- vshri (R388). -/
def execVshri (e : Nat) (pg : BitVec 3) (vd va imm : BitVec 5) (s : State) : Host.Outcome State Fault Refusal :=
  issue e (.vshri e pg vd va imm) (laneUn e pg vd va (fun _ a => laneShr a imm.toNat)) s

/-- vsrai (R388). -/
def execVsrai (e : Nat) (pg : BitVec 3) (vd va imm : BitVec 5) (s : State) : Host.Outcome State Fault Refusal :=
  issue e (.vsrai e pg vd va imm) (laneUn e pg vd va (fun _ a => laneSra a imm.toNat)) s

/-- vaddi (R388). -/
def execVaddi (e : Nat) (pg : BitVec 3) (vd va imm : BitVec 5) (s : State) : Host.Outcome State Fault Refusal :=
  issue e (.vaddi e pg vd va imm) (laneUn e pg vd va (fun _ a => plain ((a : Int) + imm.toInt))) s

/-! ### Operations of one operand (R390) -/

/-- Leading zero bits of a 16-bit value. -/
def leadZeros (x : Nat) : Nat := 16 - ((List.range 16).filter (fun i => decide (2 ^ i ≤ x))).length

/-- Integer square root of a value below 2^36, by bits from the highest. -/
def isqrt36 (m : Nat) : Nat := (List.range 18).foldl (fun n i => if (n + 2 ^ (17 - i)) ^ 2 ≤ m then n + 2 ^ (17 - i) else n) 0

def recip (x : Nat) : Nat × Bool := if x < 32768 then (65535, true) else (min 65535 ((2 ^ 31 + x / 2) / x), false)

/-- 2^23 / sqrt(x), to the nearest integer: the largest n with (2n - 1)^2 x ≤ 2^48. -/
def rsqrt (x : Nat) : Nat × Bool := if x < 16384 then (65535, true) else (min 65535 ((isqrt36 (2 ^ 48 / x) + 1) / 2), false)

/-- st.dz rises when an active lane of va is 0. -/
def noteZero (pg : BitVec 3) (va : BitVec 5) (v : Engine) : Engine :=
  { v with dz := v.dz || (activeLanes (v.preg pg)).any (fun i => decide (vlane (v.vreg va) i = 0)) }

/-- vrcp and vrsqrt: the zero operands are noted before vd is written. -/
def laneRecip (e : Nat) (pg : BitVec 3) (vd va : BitVec 5) (f : Nat → Nat × Bool) (s : State) : State :=
  advance e (fun v => (noteZero pg va v).writeLanes vd (v.preg pg) (fun i => f (vlane (v.vreg va) i))) s

/-- vmov (R390). -/
def execVmov (e : Nat) (pg : BitVec 3) (vd va : BitVec 5) (s : State) : Host.Outcome State Fault Refusal :=
  issue e (.vmov e pg vd va) (laneUn e pg vd va (fun _ x => (x, false))) s

/-- vclz (R390). -/
def execVclz (e : Nat) (pg : BitVec 3) (vd va : BitVec 5) (s : State) : Host.Outcome State Fault Refusal :=
  issue e (.vclz e pg vd va) (laneUn e pg vd va (fun _ x => (leadZeros x, false))) s

/-- vrcp (R390). -/
def execVrcp (e : Nat) (pg : BitVec 3) (vd va : BitVec 5) (s : State) : Host.Outcome State Fault Refusal :=
  issue e (.vrcp e pg vd va) (laneRecip e pg vd va recip) s

/-- vrsqrt (R390). -/
def execVrsqrt (e : Nat) (pg : BitVec 3) (vd va : BitVec 5) (s : State) : Host.Outcome State Fault Refusal :=
  issue e (.vrsqrt e pg vd va) (laneRecip e pg vd va rsqrt) s

/-- vlane (R390). -/
def execVlane (e : Nat) (pg : BitVec 3) (vd va : BitVec 5) (s : State) : Host.Outcome State Fault Refusal :=
  issue e (.vlane e pg vd va) (laneUn e pg vd va (fun i _ => (i, false))) s

/-- vmvs (R383). -/
def execVmvs (e : Nat) (pg : BitVec 3) (vd ra : BitVec 5) (s : State) : Host.Outcome State Fault Refusal :=
  issue e (.vmvs e pg vd ra) (advance e (fun v =>
    v.writeLanes vd (v.preg pg) (fun _ => ((v.sreg ra).toNat % 65536, false)))) s

/-! ### Predicates (R389) -/

/-- A 16-bit value from its bits. -/
def ofBits16 (f : Nat → Bool) : BitVec 16 := BitVec.ofNat 16 ((List.range 16).foldl (fun n i => n + 2 ^ i * b2n (f i)) 0)

/-- The effect of vcmp. -/
def compareLanes (e : Nat) (pg pd cond : BitVec 3) (va vb : BitVec 5) (s : State) : State :=
  let v := engineOf s e
  let holds := fun i => condHolds cond (BitVec.ofInt 32 (if cond.toNat < 4 then sx16 (vlane (v.vreg va) i) else vlane (v.vreg va) i))
    (BitVec.ofInt 32 (if cond.toNat < 4 then sx16 (vlane (v.vreg vb) i) else vlane (v.vreg vb) i))
  if 5 < cond.toNat then kernelFault e 1 s
  else advance e (fun v => v.setP pd (ofBits16 (fun i => activeLane (v.preg pg) i && decide (holds i = some true)))) s

/-- vcmp (R389). -/
def execVcmp (e : Nat) (pg pd cond : BitVec 3) (va vb : BitVec 5) (s : State) : Host.Outcome State Fault Refusal :=
  issue e (.vcmp e pg pd cond va vb) (compareLanes e pg pd cond va vb) s

/-- pd takes a function of two predicates. -/
def predOp (e : Nat) (pd pa pb : BitVec 3) (f : BitVec 16 → BitVec 16 → BitVec 16) (s : State) : State :=
  advance e (fun v => v.setP pd (f (v.preg pa) (v.preg pb))) s

/-- pand (R389). -/
def execPand (e : Nat) (pd pa pb : BitVec 3) (s : State) : Host.Outcome State Fault Refusal :=
  issue e (.pand e pd pa pb) (predOp e pd pa pb (fun a b => a &&& b)) s

/-- por (R389). -/
def execPor (e : Nat) (pd pa pb : BitVec 3) (s : State) : Host.Outcome State Fault Refusal :=
  issue e (.por e pd pa pb) (predOp e pd pa pb (fun a b => a ||| b)) s

/-- pxor (R389). -/
def execPxor (e : Nat) (pd pa pb : BitVec 3) (s : State) : Host.Outcome State Fault Refusal :=
  issue e (.pxor e pd pa pb) (predOp e pd pa pb (fun a b => a ^^^ b)) s

/-- pandn (R389). -/
def execPandn (e : Nat) (pd pa pb : BitVec 3) (s : State) : Host.Outcome State Fault Refusal :=
  issue e (.pandn e pd pa pb) (predOp e pd pa pb (fun a b => a &&& ~~~b)) s

/-- pset (R389). -/
def execPset (e : Nat) (pd : BitVec 3) (ra : BitVec 5) (pb : BitVec 3) (s : State) : Host.Outcome State Fault Refusal :=
  issue e (.pset e pd ra pb) (advance e (fun v => v.setP pd ((v.sreg ra).setWidth 16))) s

/-- pget (R389). -/
def execPget (e : Nat) (rd : BitVec 5) (pa pb : BitVec 3) (s : State) : Host.Outcome State Fault Refusal :=
  issue e (.pget e rd pa pb) (advance e (fun v => v.setS rd ((v.preg pa).setWidth 32))) s

/-! ### Accumulators (R391, R392) -/

/-- Active lanes of an accumulator take a new value. -/
def Engine.setLanes (k : BitVec 2) (p : BitVec 16) (f : Nat → BitVec 40) (v : Engine) : Engine :=
  (activeLanes p).foldl (fun v i => v.setAcc k i (f i)) v

/-- The exact sum of lane i: mode bits [1:0] choose signs, bit 2 subtracts, bit 3 takes the s register vb names. -/
def macExact (v : Engine) (k : BitVec 2) (va vb : BitVec 5) (mode : Nat) (i : Nat) : Int :=
  let a := vlane (v.vreg va) i
  let b := if bitAt mode 3 then (v.sreg vb).toNat % 65536 else vlane (v.vreg vb) i
  let x : Int := if mode % 2 = 1 then sx16 a else a
  let y : Int := if mode % 4 = 1 ∨ mode % 4 = 2 then sx16 b else b
  if bitAt mode 2 then (v.acc k i).toInt - x * y else (v.acc k i).toInt + x * y

/-- The effect of vmac. -/
def multiplyAdd (e : Nat) (pg : BitVec 3) (k : BitVec 2) (va vb : BitVec 5) (mode : Nat) (s : State) : State :=
  advance e (fun v =>
    let p := v.preg pg
    let ovf := (activeLanes p).any (fun i => decide ((BitVec.ofInt 40 (macExact v k va vb mode i)).toInt ≠ macExact v k va vb mode i))
    { v.setLanes k p (fun i => BitVec.ofInt 40 (macExact v k va vb mode i)) with aovf := v.aovf || ovf }) s

/-- vmac (R391). -/
def execVmac (e : Nat) (pg : BitVec 3) (ak : BitVec 2) (va vb : BitVec 5) (mode : BitVec 4) (s : State) : Host.Outcome State Fault Refusal :=
  issue e (.vmac e pg ak va vb mode) (multiplyAdd e pg ak va vb mode.toNat) s

/-- aclr (R391). -/
def execAclr (e : Nat) (pg : BitVec 3) (ak : BitVec 2) (s : State) : Host.Outcome State Fault Refusal :=
  issue e (.aclr e pg ak) (advance e (fun v => v.setLanes ak (v.preg pg) (fun _ => 0))) s

/-- The value aset gives a lane, before it is taken modulo 2^40. -/
def asetExact (v : Engine) (va sh : BitVec 5) (sgn : Bool) (i : Nat) : Int :=
  (if sgn then sx16 (vlane (v.vreg va) i) else (vlane (v.vreg va) i : Int)) * (2 ^ sh.toNat : Nat)

/-- aset (R391). -/
def execAset (e : Nat) (pg : BitVec 3) (ak : BitVec 2) (va sh : BitVec 5) (sgn : Bool) (s : State) : Host.Outcome State Fault Refusal :=
  issue e (.aset e pg ak va sh sgn) (advance e (fun v =>
    let ovf := (activeLanes (v.preg pg)).any (fun i =>
      decide ((BitVec.ofInt 40 (asetExact v va sh sgn i)).toInt ≠ asetExact v va sh sgn i))
    { v.setLanes ak (v.preg pg) (fun i => BitVec.ofInt 40 (asetExact v va sh sgn i)) with aovf := v.aovf || ovf })) s

/-- A rounded accumulator lane in 16 bits: mode 0 u16, 1 s16, 2 wrap. -/
def narrow (mode : Nat) (x : Int) : Nat × Bool :=
  match mode with
  | 0 => heldU x
  | 1 => heldS x
  | _ => plain x

/-- vrnd (R392); funct7 3 is undefined. -/
def execVrnd (e : Nat) (pg : BitVec 3) (ak : BitVec 2) (vd sh : BitVec 5) (mode : BitVec 2) (s : State) : Host.Outcome State Fault Refusal :=
  issue e (.vrnd e pg ak vd sh mode) (fun s =>
    if mode.toNat = 3 then kernelFault e 1 s
    else advance e (fun v => v.writeLanes vd (v.preg pg) (fun i => narrow mode.toNat (roundShift (v.acc ak i).toInt sh.toNat))) s) s

/-! ### Lookups (R393, R394) -/

/-- A lookup descriptor. -/
structure LutDesc where
  base : Nat
  sh : Nat
  stride : Nat
deriving DecidableEq, Repr

def lutDesc (w : BitVec 32) : LutDesc :=
  let n := w.toNat
  let r := n / 16777216
  { base := n % 1048576 / 2 * 2, sh := n / 1048576 % 16, stride := if r = 0 then 256 else r }

/-- Entries that a lane reads, as indices: one for sh = 0, else two for lut1 and four for lut2. -/
def lutIndices (d : LutDesc) (two : Bool) (a b : Nat) : List Nat :=
  let i := a / 2 ^ d.sh
  let j := b / 2 ^ d.sh
  if two then
    if d.sh = 0 then [d.stride * i + j]
    else [d.stride * i + j, d.stride * i + j + 1, d.stride * (i + 1) + j, d.stride * (i + 1) + j + 1]
  else if d.sh = 0 then [i] else [i, i + 1]

/-- The value of a lane from its entries. -/
def lutValue (d : LutDesc) (a b : Nat) (es : List Int) : Int :=
  match es with
  | [x] => x
  | [x, y] => lerpQ x y (a % 2 ^ d.sh) d.sh
  | [p, q, r, t] => lerpQ (lerpQ p q (b % 2 ^ d.sh) d.sh) (lerpQ r t (b % 2 ^ d.sh) d.sh) (a % 2 ^ d.sh) d.sh
  | _ => 0

/-- The effect of a lookup: an entry outside the spaces of R380 faults the whole instruction. -/
def lookup (e : Nat) (two : Bool) (pg : BitVec 3) (vd vx vy sd : BitVec 5) (sgn : Bool) (s : State) : State :=
  let v := engineOf s e
  let d := lutDesc (v.sreg sd)
  let a := fun i => vlane (v.vreg vx) i
  let b := fun i => vlane (v.vreg vy) i
  let eas := fun i => (lutIndices d two (a i) (b i)).map (fun k => d.base + 2 * k)
  let entry := fun s ea => let x := ofLe (eaRead s e ea 2); if sgn then sx16 x else (x : Int)
  match ((activeLanes (v.preg pg)).flatMap eas).find? (fun ea => !eaOk s e ea 2) with
  | some ea => kernelFault e (eaCause ea) s
  | none =>
    eccAccess e (((activeLanes (v.preg pg)).flatMap eas).flatMap (fun ea => wordsAt s e ea 2)) (fun s =>
      spend (advance e (fun v => v.writeLanes vd (v.preg pg) (fun i => plain (lutValue d (a i) (b i) ((eas i).map (entry s))))) s)) s

/-- lut1 (R394). -/
def execLut1 (e : Nat) (pg : BitVec 3) (vd vx sd : BitVec 5) (sgn : Bool) (s : State) : Host.Outcome State Fault Refusal :=
  issue e (.lut1 e pg vd vx sd sgn) (lookup e false pg vd vx 0 sd sgn) s

/-- lut2 (R394). -/
def execLut2 (e : Nat) (pg : BitVec 3) (vd vx vy sd : BitVec 5) (sgn : Bool) (s : State) : Host.Outcome State Fault Refusal :=
  issue e (.lut2 e pg vd vx vy sd sgn) (lookup e true pg vd vx vy sd sgn) s

end Sys2Proof.Machine
end

