-- ==== Sys2Proof/Machine/Meander.lean ====
section
/-! DEFINITION. The Meander coding of one block, both ways (R441 to R453). -/

namespace Sys2Proof.Machine

/-! ### Residuals (R444, R445) -/

/-- zigzag() of a 16-bit pattern read as s16. -/
def zigzag (r : Nat) : Nat := if r < 32768 then 2 * r else 2 * (65536 - r) - 1

/-- unzigzag() as a 16-bit pattern. -/
def unzigzag (z : Nat) : Nat := if z % 2 = 0 then z / 2 else 65536 - (z + 1) / 2

/-- Residuals of words at stride s: seen holds the words before, newest first. -/
def residuals (s : Nat) : List Nat → List Nat → List Nat
  | _, [] => []
  | seen, w :: ws => zigzag ((w + 65536 - seen.getD (s - 1) 0) % 65536) :: residuals s (w :: seen) ws

/-- The words of residuals at stride s, newest first, in front of those already rebuilt. -/
def rebuild (s : Nat) : List Nat → List Nat → List Nat
  | seen, [] => seen
  | seen, z :: zs => rebuild s ((seen.getD (s - 1) 0 + unzigzag z) % 65536 :: seen) zs

/-- Shortest serial form of a residual. -/
def residualBytes (z : Nat) : List Nat :=
  if z < 128 then [z]
  else if z < 16384 then [128 + z % 128, z / 128]
  else [128 + z % 128, 128 + z / 128 % 128, z / 16384]

/-- Residuals that bytes spell; none for a form that R445 rejects. -/
def readResiduals : List Nat → Option (List Nat)
  | [] => some []
  | a :: t =>
    if a < 128 then (readResiduals t).map (a :: ·)
    else match t with
      | [] => none
      | b :: u =>
        if b < 128 then (if b = 0 then none else (readResiduals u).map ((a % 128 + 128 * b) :: ·))
        else match u with
          | [] => none
          | c :: v => if c = 0 ∨ 3 < c then none else (readResiduals v).map ((a % 128 + 128 * (b % 128) + 16384 * c) :: ·)

/-! ### The dictionary (R446 to R449) -/

/-- The next code to be learned. -/
def CdcDict.next (d : CdcDict) : Nat := 258 + d.length

/-- Learn a string: a prefix code and a byte. A full dictionary takes none. -/
def CdcDict.learn (d : CdcDict) (p c : Nat) : CdcDict := if CdcDict.next d < 65536 then (p, c) :: d else d

/-- Code of the string of a prefix code and a byte. -/
def CdcDict.find : CdcDict → Nat → Nat → Option Nat
  | [], _, _ => none
  | e :: t, p, c => if e = (p, c) then some (258 + t.length) else CdcDict.find t p c

/-- The string of a code. -/
def CdcDict.string (d : CdcDict) : Nat → Nat → List Nat
  | 0, _ => []
  | fuel + 1, x =>
    if x < 256 then [x]
    else match d[257 + d.length - x]? with
      | some e => CdcDict.string d fuel e.1 ++ [e.2]
      | none => []

/-- The codes of residual bytes, after current string x. -/
def encodeCodes : List Nat → Nat → CdcDict → List Nat × CdcDict
  | [], x, d => ([x, 257], d)
  | c :: cs, x, d =>
    match CdcDict.find d x c with
    | some y => encodeCodes cs y d
    | none =>
      let r := encodeCodes cs c (CdcDict.learn d x c)
      (x :: r.1, r.2)

/-- Width of the k-th code of a block that starts with next = n0. -/
def codeWidth (n0 k : Nat) : Nat := Nat.log2 (min 65535 (n0 + k)) + 1

/-- Codes packed least significant bit first, from code k at bit position pos: the number they spell and its bits. -/
def packCodes (n0 : Nat) : Nat → Nat → List Nat → Nat × Nat
  | _, pos, [] => (0, pos)
  | k, pos, c :: cs =>
    let r := packCodes n0 (k + 1) (pos + codeWidth n0 k) cs
    (c * 2 ^ pos + r.1, r.2)

/-- R449 on the payload x of nb bits: bytes of the block, newest piece first, and the dictionary; or the reason of
R453. -/
def decodeCodes (x nb : Nat) : Nat → Nat → Nat → Nat → Option Nat → CdcDict → List (List Nat) → Except Nat (List Nat × CdcDict)
  | 0, _, _, _, _, _, _ => .error 4
  | fuel + 1, pos, k, n0, prev, d, out =>
    let w := codeWidth n0 k
    let c := bitsAt x pos w
    let next := CdcDict.next d
    if nb < pos + w then .error 4
    else if c = 257 then
      if nb < pos + w + 8 ∧ x / 2 ^ (pos + w) = 0 then .ok (out.reverse.flatten, d) else .error 4
    else if c = 256 then decodeCodes x nb fuel (pos + w) 0 258 none [] out
    else
      let known := decide (c < 256 ∨ (258 ≤ c ∧ c < next))
      match prev with
      | none => if known then decodeCodes x nb fuel (pos + w) (k + 1) n0 (some c) d (CdcDict.string d (d.length + 1) c :: out) else .error 3
      | some p =>
        if known = false ∧ c ≠ next then .error 3
        else
          let first := (CdcDict.string d (d.length + 1) (if known then c else p)).headD 0
          let d2 := CdcDict.learn d p first
          decodeCodes x nb fuel (pos + w) (k + 1) n0 (some c) d2 (CdcDict.string d2 (d2.length + 1) c :: out)

/-! ### Blocks (R441, R442, R450, R451) -/

/-- A byte count rounded up to 8. -/
def pad8 (n : Nat) : Nat := (n + 7) / 8 * 8

/-- Little-endian bytes of u16 words. -/
def wordBytes (ws : List Nat) : List Byte := ws.flatMap (fun w => leBytes 2 w)

/-- u16 words of little-endian bytes. -/
def bytesWords : List Byte → List Nat
  | a :: b :: t => (a.toNat + 256 * b.toNat) :: bytesWords t
  | _ => []

/-- Header, payload and padding of a block. -/
def blockBytes (type stride crc : Nat) (payload : List Byte) : List Byte :=
  leBytes 1 type ++ leBytes 1 stride ++ leBytes 2 payload.length ++ leBytes 4 crc ++ payload ++
    List.replicate (pad8 payload.length - payload.length) 0

/-- The encoder's block of words, the dictionary after it, and whether it is coded. -/
def encodeBlock (stride : Nat) (ws : List Nat) (d : CdcDict) : List Byte × CdcDict × Bool :=
  let crc := crc32c (wordBytes ws)
  match (residuals stride [] ws).flatMap residualBytes with
  | [] => ([], d, false)
  | c :: cs =>
    let codes := encodeCodes cs c d
    let p := packCodes (CdcDict.next d) 0 0 codes.1
    let n := (p.2 + 7) / 8
    if pad8 n < pad8 (2 * ws.length) then (blockBytes 2 stride crc (leBytes n p.1), codes.2, true)
    else (blockBytes 1 stride crc (wordBytes ws), d, false)

/-- A decoded block: its words, the dictionary after it, its size in the stream, and whether it was coded. -/
structure DecodedBlock where
  words : List Nat
  dict : CdcDict
  size : Nat
  coded : Bool
deriving DecidableEq, Repr

/-- The stream has ended (R443): no input, a header of 8 zero bytes, or fewer than 8 bytes that are all 0. -/
def streamEnds (input : List Byte) : Bool := (input.take 8).all (fun b => decide (b = 0))

/-- The words of a payload, or the reason of R453. -/
def decodePayload (type stride : Nat) (payload : List Byte) (d : CdcDict) : Except Nat (List Nat × CdcDict) :=
  if type = 1 then .ok (bytesWords payload, d)
  else
    match decodeCodes (ofLe payload) (8 * payload.length) (8 * payload.length + 1) 0 0 (CdcDict.next d) none d [] with
    | .error r => .error r
    | .ok (bytes, d2) =>
      match readResiduals bytes with
      | none => .error 5
      | some zs => .ok ((rebuild stride [] zs).reverse, d2)

/-- The block at the head of an input that has not ended, or the reason of R453. `short`: the block before it carried
fewer than 4,096 words. -/
def decodeBlock (short : Bool) (input : List Byte) (d : CdcDict) : Except Nat DecodedBlock :=
  let type := leAt input 0 1
  let stride := leAt input 1 1
  let len := leAt input 2 2
  if input.length < 8 then .error 2
  else if (type ≠ 1 ∧ type ≠ 2) ∨ stride = 0 ∨ 8 < stride ∨ len = 0 ∨ 8192 < len ∨ (type = 1 ∧ len % 2 = 1) then .error 1
  else if input.length < 8 + pad8 len then .error 2
  else
    match decodePayload type stride ((input.drop 8).take len) d with
    | .error r => .error r
    | .ok (ws, d2) =>
      if short ∨ 4096 < ws.length then .error 6
      else if crc32c (wordBytes ws) ≠ leAt input 4 4 then .error 7
      else .ok { words := ws, dict := d2, size := 8 + pad8 len, coded := decide (type = 2) }

/-- A whole stream from block b on: its words, or none when a check of R453 fails. -/
def decodeStream : Nat → Nat → Bool → List Byte → CdcDict → Option (List Nat)
  | 0, _, _, _, _ => none
  | fuel + 1, b, short, input, d =>
    if streamEnds input then some []
    else match decodeBlock short input (if b % 16 = 0 then [] else d) with
      | .error _ => none
      | .ok r => (decodeStream fuel (b + 1) (decide (r.words.length < 4096)) (input.drop r.size) r.dict).map (r.words ++ ·)

end Sys2Proof.Machine
end

