-- ==== Sys2Proof/Machine/StoreOps.lean ====
section
/-! DEFINITION. What every store operation shares (R425 to R433): NVMe commands, regions and free space, the metadata
in its layout, and completion with NOT_READY. -/

namespace Sys2Proof.Machine

def setStore (v : StoreState) (s : State) : State := { s with store := v }

/-- A Write of an I/O queue, which always carries FUA (R426). -/
def NvCmd.writes (c : NvCmd) : Bool := decide (c.queue ≠ 0 ∧ c.op = 1)

/-- What goes to the controller. -/
def NvCmd.out (c : NvCmd) : Out := .nvme c.cid c.queue c.op c.lba c.lbas c.data c.writes

/-- Two commands write an LBA in common. -/
def NvCmd.overlaps (c e : NvCmd) : Bool := c.writes && e.writes && decide (c.lba < e.lba + e.lbas ∧ e.lba < c.lba + c.lbas)

/-- A command may go out: a queue of n entries holds n − 1 of them (R426), and a write follows every earlier one that it overlaps
(R436). -/
def maySend (all ahead : List NvCmd) (c : NvCmd) : Bool :=
  decide ((all.filter (fun e => decide (e.queue = c.queue) && !e.held)).length + 1 < if c.queue = 0 then 64 else 256) &&
    !ahead.any c.overlaps

/-- An NVMe command goes out, or is held back, and stays until it completes (R426). -/
def sendNvme (queue op lba lbas : Nat) (data : List Byte) (use : NvUse) (s : State) : State :=
  let cid := s.store.nextCid
  let cmd : NvCmd := { cid := cid, queue := queue, op := op, lba := lba, lbas := lbas, data := data, tries := 0, use := use }
  let go := maySend s.store.nvme s.store.nvme cmd
  let s := setStore { s.store with nextCid := cid + 1, nvme := s.store.nvme ++ [{ cmd with held := !go }] } s
  if go then emit cmd.out s else s

/-- The commands held back that may go out now do. -/
def sendHeld : List NvCmd → List NvCmd → State → State
  | done, [], s => setStore { s.store with nvme := done } s
  | done, c :: rest, s =>
    if c.held && maySend (done ++ rest) done c then sendHeld (done ++ [{ c with held := false }]) rest (emit c.out s)
    else sendHeld (done ++ [c]) rest s

/-- An admin command of a mount, an abort or a shutdown, on whose end nothing waits. -/
def sendAdmin (op arg : Nat) (s : State) : State := sendNvme 0 op arg 0 [] .admin s

def nvRead (queue lba lbas : Nat) (use : NvUse) (s : State) : State := sendNvme queue 2 lba lbas [] use s
def nvWrite (lba : Nat) (data : List Byte) (use : NvUse) (s : State) : State :=
  sendNvme 2 1 lba ((data.length + 4095) / 4096) data use s
def nvFlush (use : NvUse) (s : State) : State := sendNvme 2 0 0 0 [] use s

/-! ### Regions (R430) -/

/-- An unused directory entry. -/
def noRegion : Region := { kind := 0, first := 0, count := 0, created := {} }

def regionIn (dir : Tab Region) (n : Nat) : Region := tabGet (fun _ => noRegion) dir n

def regionOf (s : State) (n : Nat) : Region := regionIn s.store.dir n

/-- LBAs that no region takes (R435). -/
def freeLbas (managed : Nat) (dir : Tab Region) : Nat :=
  managed - 64 - (dir.map (fun (e : Nat × Region) => e.2.count)).foldl (fun (a b : Nat) => a + b) 0

/-- The registers that show the store's size. -/
def followStore (s : State) : State :=
  s |> wr Reg.STP_CAP_LBAS (BitVec.ofNat 32 s.store.managed)
    |> wr Reg.STP_FREE_LBAS (BitVec.ofNat 32 (freeLbas s.store.managed s.store.dir))
    |> wrF Reg.STP_STAT Fld.STP_STAT_mounted (b2n s.store.mounted)

/-- A range of count LBAs from lba lies in a region that exists. That a region that does not exist is an empty one, whose every
range is BAD_ADDRESS, is the model's choice (log entry 119). -/
def rangeIn (s : State) (region lba count : Nat) : Bool :=
  let r := regionOf s region
  decide (r.kind ≠ 0 ∧ lba + count ≤ r.count)

/-! ### The metadata (R429, R430) -/

/-- Directory entry n. -/
def regionBytes (n : Nat) (r : Region) : List Byte :=
  if r.kind = 0 then List.replicate 64 0
  else leBytes 2 r.kind ++ leBytes 2 n ++ leBytes 4 0 ++ leBytes 8 r.first ++ leBytes 8 r.count ++ r.created.bytes ++
    List.replicate 28 0

/-- The 65,536 bytes of a directory copy. -/
def dirBytes (dir : Tab Region) : List Byte := (List.range 1024).flatMap (fun n => regionBytes n (regionIn dir n))

/-- A superblock that names a directory copy. -/
def superblock (s : State) (copy generation crc : Nat) : List Byte :=
  let body := leBytes 4 0x5342584F ++ leBytes 2 1 ++ leBytes 2 copy ++ leBytes 8 generation ++ leBytes 8 s.store.managed ++
    leBytes 4 crc ++ leBytes 4 0 ++ s.store.label ++ List.replicate 4040 0
  body ++ leBytes 4 (crc32c body)

/-- The log head. -/
def logHead (next : Nat) : List Byte := leBytes 8 next ++ List.replicate 4088 0

/-- A timestamp of 12 bytes (R15). -/
def readStamp (bs : List Byte) (o : Nat) : Stamp := { sec := leAt bs o 6, ns := leAt bs (o + 8) 4 }

/-- A directory copy read back. -/
def readDir (bs : List Byte) : Tab Region :=
  (List.range 1024).foldl (fun t n =>
    let o := 64 * n
    tabSet (fun _ => noRegion) t n (if leAt bs o 1 = 0 then noRegion else
      { kind := leAt bs o 1, first := leAt bs (o + 8) 8, count := leAt bs (o + 16) 8, created := readStamp bs (o + 24) })) []

/-! ### Completions -/

/-- The descriptor of a port, ring and sequence completes when it is still in the device. -/
def endDsc (w : Nat × Nat × Nat) (st : Status) (res : BitVec 96) (s : State) : State :=
  match dscOf s w.1 w.2.1 w.2.2 with
  | some d => completeI d st res s
  | none => s

/-- How a failure of the store completes the descriptor that met it (R426, R427, R437). -/
inductive NvFail where
  | status (v : Nat)
  | timeout
  | absent
deriving DecidableEq, Repr

def NvFail.end_ (f : NvFail) (w : Nat × Nat × Nat) (s : State) : State :=
  match f with
  | .status v => endDsc w .refused (resAt 16 0x14 ||| resAt 20 v) s
  | .timeout => endDsc w .timeout (resAt 16 0x14) s
  | .absent => endDsc w .notReady 0 s

end Sys2Proof.Machine
end

