-- ==== Sys2Proof/Machine/Codec.lean ====
section
/-! DEFINITION. The codec lanes (R166 to R168, R455 to R460). -/

namespace Sys2Proof.Machine

def cdcOf (s : State) (n : Nat) : CdcLane := tabGet (fun _ => {}) s.cdc n

/-- A lane's state, and the bits of CDC_STAT that show it. -/
def setCdc (n : Nat) (l : CdcLane) (s : State) : State :=
  let paused := match l.job with
    | some j => j.waiting.isSome
    | none => false
  { s with cdc := tabSet (fun _ => {}) s.cdc n l } |> wrF Reg.CDC_STAT (n, 1) (b2n l.job.isSome)
    |> wrF Reg.CDC_STAT (8 + n, 1) (b2n paused)

/-- A CODEC_OUT_BUF completes: valid bytes and first block. -/
def endBuf (s : State) (e : CdcBuf × Status) : State :=
  let b := e.1
  let res := if e.2 = .refused then resAt 16 0x80 else if e.2 = .aborted then 0 else resAt 16 b.used ||| resAt 20 b.first
  endDsc (b.port, b.sq, b.seq) e.2 res s

/-- A job closes a buffer (R167): a strict job holds the completion (R168). -/
def closeBuf (n : Nat) (b : CdcBuf) (st : Status) (s : State) : State :=
  let l := cdcOf s n
  match l.job with
  | some j => if j.strict then setCdc n { l with held := l.held ++ [(b, st)] } s else endBuf s (b, st)
  | none => endBuf s (b, st)

/-- The registers that describe the lane's job. -/
def followJob (n : Nat) (s : State) : State :=
  match (cdcOf s n).job with
  | none => s
  | some j =>
    s |> wr (Reg.CDC_LANEn_IN n) (BitVec.ofNat 32 (min (2 ^ 32 - 1) j.pos))
      |> wr (Reg.CDC_LANEn_OUT n) (BitVec.ofNat 32 (min (2 ^ 32 - 1) j.placed)) |> wr (Reg.CDC_LANEn_BLK n) (BitVec.ofNat 32 j.blocks)

/-- The job ends: the open buffer and those held complete, then the CODEC_JOB itself. `abort`: each of the job's buffers
completes with ABORTED. -/
def endJob (n : Nat) (abort : Bool) (st : Status) (res : BitVec 96) (s : State) : State :=
  let l := cdcOf s n
  match l.job with
  | none => s
  | some j =>
    let open_ := (l.bufs.filter (fun b => decide (b.used ≠ 0))).map (fun b => (b, Status.ok))
    let mine := (l.held ++ open_).map (fun e => if abort then (e.1, Status.aborted) else e)
    let s := setCdc n { job := none, bufs := l.bufs.filter (fun b => decide (b.used = 0)), held := [] } s
    endDsc (j.port, j.sq, j.seq) st res (mine.foldl endBuf s)

/-- A job that has read all its input and placed every block ends with OK. -/
def followEnd (n : Nat) (s : State) : State :=
  match (cdcOf s n).job with
  | some j =>
    if j.waiting.isNone ∧ j.inLen ≤ j.pos then endJob n false .ok (resAt 16 j.placed ||| resAt 24 j.blocks) s else s
  | none => s

/-- The job pauses for want of a buffer (R167, R458). -/
def pauseJob (n : Nat) (bytes : List Byte) (s : State) : State :=
  let l := cdcOf s n
  setCdc n { l with job := l.job.map (fun j => { j with waiting := some bytes }) } s |> setFlag Flag.CDC_out_wait
    |> postEvent (.resource (hostOf s 4 n)) 0x07F0 0x80 0 (dataAt 24 n)

/-- A block goes whole into the first buffer it fits (R457). -/
def placeBlock (n : Nat) (bytes : List Byte) : Nat → State → State
  | 0, s => s
  | fuel + 1, s =>
    let l := cdcOf s n
    match l.job, l.bufs with
    | none, _ => s
    | some _, [] => pauseJob n bytes s
    | some j, b :: rest =>
      if b.used + bytes.length ≤ b.len then
        let b2 : CdcBuf := { b with used := b.used + bytes.length, first := if b.used = 0 then j.blocks else b.first }
        let j2 := { j with waiting := none, placed := j.placed + bytes.length, blocks := j.blocks + 1 }
        setCdc n { l with job := some j2, bufs := b2 :: rest } s |> emit (.dma b.port (b.addr + b.used) bytes)
          |> monitorAdd b.port bytes.length |> followJob n
      else
        let s := setCdc n { l with bufs := rest } s
        let s := if b.used = 0 then setFlag Flag.CDC_small_buf s |> closeBuf n b .refused
          else closeBuf n b (if rest = [] then .outWait else .ok) s
        placeBlock n bytes fuel s

/-- Bytes a job reads for its next block. -/
def nextInput (j : CdcJob) : Nat := min (if j.decode then 8200 else 8192) (j.inLen - j.pos)

/-- A job from the store that goes on reads the LBAs of its next block's input (R456). -/
def fetchInput (n : Nat) (s : State) : State :=
  match (cdcOf s n).job with
  | some j =>
    let k := nextInput j
    if !j.store || j.waiting.isSome || j.data.isSome then s
    else if k = 0 then setCdc n { cdcOf s n with job := some { j with data := some [] } } s
    else nvRead 2 (j.lba + j.pos / 4096) ((j.pos % 4096 + k + 4095) / 4096) (.codec n j.port j.sq j.seq) s
  | none => s

/-- A produced block is placed, and the job may end; else it reads on. -/
def giveBlock (n : Nat) (bytes : List Byte) (s : State) : State :=
  placeBlock n bytes ((cdcOf s n).bufs.length + 1) s |> followEnd n |> fetchInput n

/-- A job begins on a lane. -/
def beginJob (n : Nat) (d : Dsc) (s : State) : State :=
  let l := cdcOf s n
  let j : CdcJob := { port := d.port, sq := d.sq, seq := d.seq, decode := decide (d.u8 17 = 1), strict := d.strict,
                      store := decide (d.u8 18 = 1), inLen := d.u32 20, addr := d.u64 24,
                      stride := rdF s Reg.CDC_STRIDE (4 * n, 3) + 1 }
  setRunning d s |> setCdc n { l with job := some j } |> wrF (Reg.CDC_LANEn_JOB n) Fld.CDC_LANEn_JOB_dir (d.u8 17)
    |> wrF (Reg.CDC_LANEn_JOB n) Fld.CDC_LANEn_JOB_strict (b2n d.strict) |> wrF (Reg.CDC_LANEn_JOB n) Fld.CDC_LANEn_JOB_port d.port
    |> followJob n

/-- The job's input starts at an LBA of the store. -/
def startAt (n lba : Nat) (s : State) : State :=
  setCdc n { cdcOf s n with job := (cdcOf s n).job.map (fun j => { j with lba := lba }) } s

/-- CODEC_JOB (R166, R168, R456). -/
def execCodecJob (port sq seq : Nat) (s : State) : Host.Outcome State Fault Refusal :=
  withReady port sq seq 0x0701 (fun d s =>
    let n := d.u8 16
    let region := d.u16 30
    let lba := d.get 24 6
    let count := d.u32 20 / 4096
    if (cdcOf s n).job.isSome then complete d .busy 0 0 s
    else if d.u8 18 = 0 then beginJob n d s
    else if !s.store.mounted then complete d .notReady 0 0 s
    else if !rangeIn s region lba count then badWith d .badAddress 24 s
    else beginJob n d s |> startAt n ((regionOf s region).first + lba) |> fetchInput n) s

/-- CODEC_OUT_BUF (R166, R167): a job that waits for a buffer goes on. -/
def execCodecOutBuf (port sq seq : Nat) (s : State) : Host.Outcome State Fault Refusal :=
  withReady port sq seq 0x0702 (fun d s =>
    let n := d.u8 16
    let l := cdcOf s n
    let b : CdcBuf := { port := d.port, sq := d.sq, seq := d.seq, addr := d.u64 24, len := d.u32 20 }
    let s := setRunning d s |> setCdc n { l with bufs := l.bufs ++ [b] }
    match l.job.bind (·.waiting) with
    | some bytes => giveBlock n bytes s
    | none => s) s

/-- The lane's job and buffers complete with ABORTED. -/
def cancelLane (n : Nat) (s : State) : State :=
  let l := cdcOf s n
  let s := setCdc n {} s
  let s := (l.held ++ l.bufs.map (fun b => (b, Status.ok))).foldl (fun s e => endBuf s (e.1, .aborted)) s
  match l.job with
  | some j => endDsc (j.port, j.sq, j.seq) .aborted 0 s
  | none => s

/-- CODEC_CANCEL (R168). -/
def execCodecCancel (port sq seq : Nat) (s : State) : Host.Outcome State Fault Refusal :=
  withReady port sq seq 0x0703 (fun d s => cancelLane (d.u8 16) s |> completeI d .ok 0) s

/-- A codec job of a lane serves a descriptor. -/
def codecFor (s : State) (n : Nat) (w : Nat × Nat × Nat) : Bool :=
  match (cdcOf s n).job with
  | some j => decide ((j.port, j.sq, j.seq) = w)
  | none => false

/-- Input that gives no block has been read (R462, R502): CDC_LANEn_IN counts it too. -/
def inputRead (n k : Nat) (j : CdcJob) (s : State) : State :=
  let s := wr (Reg.CDC_LANEn_IN n) (BitVec.ofNat 32 (min (2 ^ 32 - 1) (j.pos + k))) s |> monitorAdd 9 k
  if j.store then s else monitorAdd j.port k s

/-- A block has been produced from `used` input bytes. -/
def produced (n used : Nat) (j : CdcJob) (bytes : List Byte) (coded : Bool) (d : CdcDict) (short : Bool) (s : State) : State :=
  let j2 := { j with pos := j.pos + used, data := none, produced := j.produced + bytes.length, block := j.block + 1, dict := d, short := short }
  let s := setCdc n { cdcOf s n with job := some j2 } s |> followJob n |> countEvent 0x80 (if coded then 0x10 else 0x11) 1
    |> monitorAdd 9 used
  if j.store then s else monitorAdd j.port used s

/-- A compress job codes its next block; a strict one ends once its blocks reach the input (R459). -/
def compressBlock (n : Nat) (j : CdcJob) (input : List Byte) (s : State) : State :=
  let r := encodeBlock j.stride (bytesWords input) (if j.block % 16 = 0 then [] else j.dict)
  let s := produced n input.length j r.1 r.2.2 r.2.1 false s
  if j.strict ∧ j.inLen ≤ j.produced + r.1.length then setFlag Flag.CDC_no_gain s |> endJob n true .noGain 0
  else giveBlock n r.1 s

/-- A decompress job decodes its next block (R453). -/
def decompressBlock (n : Nat) (j : CdcJob) (input : List Byte) (s : State) : State :=
  if streamEnds input then
    inputRead n (min 8 input.length) j s |> endJob n false .ok (resAt 16 j.placed ||| resAt 24 j.blocks)
  else match decodeBlock j.short input (if j.block % 16 = 0 then [] else j.dict) with
    | .error r =>
      inputRead n (if r = 1 then min 8 input.length else min (8 + pad8 (leAt input 2 2)) input.length) j s
        |> setFlag Flag.CDC_decode_err
        |> postEvent (.resource (hostOf s 4 n)) 0x07F1 0x80 1 (dataAt 24 n ||| dataAt 25 r ||| dataAt 28 j.block)
        |> endJob n false .refused (resAt 16 0x80 ||| resAt 24 j.block)
    | .ok b =>
      produced n (min b.size (j.inLen - j.pos)) j (wordBytes b.words) b.coded b.dict (decide (b.words.length < 4096)) s
        |> giveBlock n (wordBytes b.words)

/-- CODEC_BLOCK_DONE (R456, R457): a lane has read the input of its next block, of nextInput bytes, from the host or
from what the store gave; none is a failed host read. -/
def execCodecBlockDone (lane : Nat) (bytes : Option (List Byte)) (s : State) : Host.Outcome State Fault Refusal :=
  match (cdcOf s lane).job with
  | none => .next s
  | some j =>
    if j.waiting.isSome then .next s
    else
      let run := fun (input : List Byte) (s : State) =>
        if j.decode then decompressBlock lane j input s else compressBlock lane j input s
      if j.store then
        match j.data with
        | none => .next s
        | some input => .next (run input s)
      else
        match bytes with
        | none => .next (endJob lane false .fetchFault 0 s)
        | some bs => if bs.length = nextInput j then .next (run bs s) else .next s

/-- A failure of the store ends a lane's job. -/
def failCodec (n : Nat) (f : NvFail) (s : State) : State :=
  match f with
  | .status v => endJob n false .refused (resAt 16 0x14 ||| resAt 20 v) s
  | .timeout => endJob n false .timeout (resAt 16 0x14) s
  | .absent => endJob n false .notReady 0 s

end Sys2Proof.Machine
end

