-- ==== Sys2Proof/Machine/CompLines.lean ====
section
/-! DEFINITION. What a composition line start measures (R256, R504), and leaving locked-through mode (R24, R360). -/

namespace Sys2Proof.Machine

/-- Tiles that drive lines from front line l on lose what they have given: they are computed again from the frame now read. -/
def redoTiles (l : Nat) (s : State) : State :=
  let lead := rdF s Reg.RAST_LAG Fld.RAST_LAG_rear_lead
  let kept := fun (cell tr : Nat) => decide (16 * tr + 16 ≤ l + (if cell = 1 then lead else 0))
  let done := s.pipe.done.filter (fun e => kept e.1 e.2.1)
  let stats := s.pipe.tileStats.filter (fun e => kept 0 e.1)
  { s with pipe := { s.pipe with done := done, tileStats := stats } }

/-- Every tile job not yet retired is discarded, those that wait to run again too (R360). -/
def discardAll (s : State) : State :=
  ((s.pipe.jobs ++ s.pipe.reruns).filter (fun j => decide (j.cell ≠ 2))).foldl (fun s j => discardJob j s) s

/-- The device leaves locked-through mode at once: the remaining lines of the scan frame come from the previous
composed frame, those of tiles already retired too, and are counted (R24). -/
def leaveLocked (d : Nat) (s : State) : State :=
  let from_ := s.raster.line
  let shown := match s.comp.ring with
    | c :: _ => .composed c.cfn
    | [] => s.raster.shown
  { s with raster := { s.raster with leftAt := some from_, left := true, shown := shown } } |> redoTiles from_ |> discardAll
    |> wrF Reg.RAST_STAT Fld.RAST_STAT_timeline 0
    |> wrF (Reg.RAST_HIST (8 * (sfn s % 16) + 4)) (13, 1) 1
    |> setFlag Flag.RAST_lag_out |> bumpSat Reg.HWL_PATCH_LINES Fld.HWL_PATCH_LINES_lines (panelH s - from_)
    |> timelineEvent 0 1 d

/-- The line that composition line y of the frame in progress belongs to lies in the scan frame after an irregular one that
still runs (R249): its distance is broken (R251). -/
def brokenDistance (s : State) (y : Nat) : Bool := s.raster.irregular && decide (y < s.raster.line)

/-- The distance D of a composition line is measured (R256), and in locked-through mode that of a line that the scan reads is
judged (R24). -/
def measure (judged broken : Bool) (d : Nat) (s : State) : State :=
  let s := wrF Reg.RAST_LAG_STAT Fld.RAST_LAG_STAT_d (min d 4095) s
  if judged = true ∧ lockedThrough s ∧ (s.raster.phase = .running ∨ s.raster.phase = .toBlack) ∧
      (d < minLag s ∨ rdF s Reg.RAST_LAG Fld.RAST_LAG_lag + 16 < d ∨ broken = true) then
    leaveLocked d s
  else s

/-- A LIVE layer or an accepted Headwater line gives composition line y something to fetch. -/
def lineFetched (s : State) (y : Nat) : Bool :=
  let v := viewOf s
  let hw := hwRead s
  layerNumbers.any (fun n => v.takesPart n && coversLine hw v n y (panelW s) &&
    (if n < 16 then decide (v.kind n = 2) else hw.any (fun f => f.has (n - 16) (y - v.planeY (n - 16)))))

/-- t_fetch and t_compose of the tile row that begins at composition line y (R504). -/
def noteRow (y : Nat) (s : State) : State :=
  if y % 16 ≠ 0 then s
  else
    let compose := Config.ticksAt s.fresh % 2 ^ 32
    let fetch := if lineFetched s y then Config.ticksAt (s.fresh + 1) % 2 ^ 32 else compose
    { s with fresh := s.fresh + 2,
             comp := { s.comp with cur := s.comp.cur.map (fun c => { c with rowTimes := tabSet (fun _ => (0, 0)) c.rowTimes (y / 16) (fetch, compose) }) } }

end Sys2Proof.Machine
end

