-- ==== Sys2Proof/Machine/Tables.lean ====
section
/-! DEFINITION. Tables and kernels: the layouts their sections must have (R281 to R337, R408, R409), loading, staging,
activation, binding (R156 to R161, R410, R411). -/

namespace Sys2Proof.Machine

def setTables (t : TableState) (s : State) : State := { s with tables := t }

/-! ### Table layouts -/

def sumNat (xs : List Nat) : Nat := xs.foldl (fun (a b : Nat) => a + b) 0

/-- All bytes of a range are 0. -/
def zeroBytes (t : List Byte) (o n : Nat) : Bool := decide (leAt t o n = 0)

/-- One filter: its count is odd and at most the bound, its taps sum to 32,768 and are 0 at and beyond the count. -/
def tapsOk (t : List Byte) (countAt first slots : Nat) : Bool :=
  let n := leAt t countAt 1
  let tap := fun (i : Nat) => leAt t (first + 2 * i) 2
  decide (n % 2 = 1 ∧ n ≤ slots ∧ sumNat ((List.range slots).map tap) = 32768) &&
    (List.range slots).all (fun i => decide (i < n ∨ tap i = 0))

/-- R311. -/
def filterOk (t : List Byte) : Bool :=
  decide (t.length = 216 ∧ 1 ≤ leAt t 0 1 ∧ leAt t 0 1 ≤ 3) && zeroBytes t 5 11 &&
    tapsOk t 1 16 33 && tapsOk t 2 82 33 && tapsOk t 3 148 17 && tapsOk t 4 182 17 &&
    decide (leAt t 0 1 + (leAt t 1 1 - 1) / 2 + (leAt t 3 1 - 1) / 2 ≤ 25)

/-- R332; the panel's size is known once one is configured. -/
def demuraOk (p : Option Panel) (t : List Byte) : Bool :=
  let w := leAt t 0 2
  let h := leAt t 2 2
  decide (t.length = 64 + 3 * w * h ∧ 0 < leAt t 4 2 ∧ leAt t 4 2 < leAt t 6 2 ∧ leAt t 6 2 < leAt t 8 2 ∧ leAt t 8 2 < 65535) &&
    zeroBytes t 16 48 && (match p with
      | some q => decide (w = q.width ∧ h = q.height)
      | none => true)

/-- The sort key of a defect entry. -/
def Defect.key (e : Defect) : Nat := ((e.cell * 65536 + e.y) * 65536 + e.x) * 4 + e.sub

def defectOk (p : Option Panel) (e : Defect) : Bool :=
  decide (e.cell ≤ 1 ∧ e.sub ≤ (if e.cell = 0 then 2 else 0) ∧ 1 ≤ e.kind ∧ e.kind ≤ 3 ∧ (e.strength ≠ 0 ↔ e.kind = 3)) &&
    (match p with
     | some q => decide (e.x < q.width ∧ e.y < q.height)
     | none => true)

/-- Keys rise strictly. -/
def rising : List Nat → Bool
  | a :: b :: t => decide (a < b) && rising (b :: t)
  | _ => true

/-- R334. -/
def defectsOk (p : Option Panel) (t : List Byte) : Bool :=
  let n := leAt t 0 4
  decide (16 ≤ t.length ∧ n ≤ 65536 ∧ t.length = 16 + 8 * n) && zeroBytes t 4 12 &&
    (readDefects t).all (defectOk p) && rising ((readDefects t).map Defect.key)

/-- R337. -/
def odSetOk (t : List Byte) : Bool :=
  decide (t.length = 8320) && zeroBytes t 4 12 && [0, 1, 2].all (fun c => zeroBytes t (16 + 2768 * c + 2756) 12)

/-- A section that breaks the layout of its class: the unit that refuses it. -/
def layoutBreach (p : Option Panel) (id : Nat) (t : List Byte) : Option Nat :=
  let cls := id / 0x1000000
  let ok := match cls with
    | 0x01 => decide (t.length = 215622)
    | 0x02 => decide (t.length = 8192)
    | 0x10 => decide (t.length = 4100)
    | 0x11 => decide (t.length = 2050)
    | 0x12 => filterOk t
    | 0x20 => decide (t.length = 8194)
    | 0x21 => demuraOk p t
    | 0x22 => defectsOk p t
    | 0x23 => odSetOk t
    | 0x24 => decide (t.length = 5120)
    | _ => decide (t.length = 5122)
  if ok then none else some (if cls ≤ 2 then 0x30 else if cls = 0x30 then 0x78 else 0x31)

/-! ### Staging (R158) -/

/-- An activation of an identifier with a staged version has reached its unit and waits. -/
def activationPending (s : State) (id : Nat) : Bool :=
  (stagedTable s id).isSome && s.host.inflight.any (fun d =>
    decide ((d.opcode = 0x0302 ∨ d.opcode = 0x0303) ∧ d.u32 16 = id ∧ (d.phase = .arrived ∨ d.phase = .waiting)))

/-- Tag of a table of an image before it replaces the staged version of its identifier. -/
def imageTag (i : Nat) : Nat := 2 ^ 41 + i

/-- Room for the tables of an image beside those already held. -/
def allocTables : List (Nat × Nat × List Byte) → State → Option State
  | [], s => some s
  | (i, id, t) :: rest, s =>
    let r := tableRegion id
    let got := if r = .demura then alloc r (imageTag i) t.length s else allocTwice (imageTag i) t.length s
    got.bind (allocTables rest)

/-- A table becomes the staged version of its identifier. -/
def stageTable (s : State) (e : Nat × Nat × List Byte) : State :=
  let id := e.2.1
  let r := tableRegion id
  let s := freeTag r (stagedTag id) s |> retag r (imageTag e.1) (stagedTag id)
  setTables { s.tables with staged := tabSet (fun _ => []) s.tables.staged id e.2.2 } s

/-- How a load ends. -/
inductive LoadEnd where
  | done (res : BitVec 96) (s : State)
  | failed (st : Status) (res : BitVec 96)
deriving Repr

/-- One more image on a measurement chain (R99). -/
def measureTables (d : List Byte) (s : State) : State := { s with sec := { s.sec with mTables := chain s.sec.mTables d } }
def measureKernels (d : List Byte) (s : State) : State := { s with sec := { s.sec with mKernels := chain s.sec.mKernels d } }

/-- The tables an image carries. -/
def imageTables (img : List Byte) : List (Nat × Nat × List Byte) :=
  let ss := (imageSections img).filter (fun x => decide (x.type = 5))
  (ss.zipIdx).map (fun e => (e.2, e.1.target, sectionBytes img e.1))

/-- A table image has been read: it is verified, checked and staged. -/
def loadTables (img : List Byte) (room : Nat) (s : State) : LoadEnd :=
  match verifyImage s img 3 room with
  | .accept dig =>
    let ts := imageTables img
    if ts.any (fun e => (tableIdBad e.2.1).isSome) then .failed .refused (resAt 16 0x31)
    else match ts.findSome? (fun e => layoutBreach s.raster.panel e.2.1 e.2.2) with
      | some u => .failed .refused (resAt 16 u)
      | none =>
        if ts.any (fun e => activationPending s e.2.1) then .failed .busy 0
        else match allocTables ts s with
          | none => .failed .resource (resAt 16 0x50)
          | some s2 =>
            .done (resAt 16 ((ts.head?.map (fun e => e.2.1)).getD 0) ||| resAt 20 ts.length ||| resAt 22 (ofLe (dig.take 6)))
              (measureTables dig (ts.foldl stageTable s2))
  | _ => .failed .signatureFail 0

/-! ### Kernels (R160, R408, R409) -/

/-- An entry of the header: a multiple of 4 inside the code section, or none. -/
def entryOk (code e : Nat) (optional : Bool) : Bool := (optional && decide (e = 0xFFFF)) || decide (e % 4 = 0 ∧ e < code)

/-- The name of a kernel is ASCII, padded with 0x00 (R409): no byte other than 0 follows a 0. -/
def nameOk (name : List Byte) : Bool :=
  name.all (fun b => decide (b.toNat < 128)) && (name.dropWhile (fun b => decide (b ≠ 0))).all (fun b => decide (b = 0))

/-- The kernel of an image whose sections and header follow R408 and R409. -/
def parseKernel (img : List Byte) : Option Kernel :=
  let ss := imageSections img
  let ofType := fun t => ss.filter (fun x => decide (x.type = t))
  match ofType 3, ofType 1 with
  | [hd], [cd] =>
    let h := sectionBytes img hd
    let code := sectionBytes img cd
    let init := ((ofType 2).head?.map (sectionBytes img)).getD []
    let param := ((ofType 4).head?.map (sectionBytes img)).getD []
    let k : Kernel := {
      stage := leAt h 0 1, cells := leAt h 1 1, haloV := leAt h 2 1, haloH := leAt h 3 1, codeBytes := leAt h 4 2,
      dataBytes := leAt h 6 2, scratchBytes := leAt h 8 4, maxCycles := leAt h 12 4, entry := leAt h 16 2,
      entryMover := leAt h 18 2, entryWarn := leAt h 20 2, paramOffset := leAt h 22 2, name := h.drop 32,
      code := code, init := init, param := param }
    let sections := ss.all (fun x => decide (x.flags = 0 ∧ x.target = 0 ∧ 1 ≤ x.type ∧ x.type ≤ 4)) &&
      decide ((ofType 2).length ≤ 1 ∧ (ofType 4).length ≤ 1 ∧ h.length = 64)
    let header := decide (1 ≤ k.stage ∧ k.stage ≤ 7 ∧ k.cells ≠ 0 ∧ k.cells ≤ 3 ∧ code.length ≤ k.codeBytes ∧ k.codeBytes ≤ 16384) &&
      decide (k.codeBytes % 4 = 0 ∧ code.length % 4 = 0 ∧ init.length ≤ k.dataBytes ∧ k.dataBytes ≤ 16384 ∧ k.scratchBytes ≤ 65536) &&
      decide (1 ≤ k.maxCycles ∧ k.maxCycles ≤ 16777216 ∧ k.paramOffset % 2 = 0 ∧ leAt h 24 2 = 1 ∧ leAt h 26 6 = 0) &&
      decide (param.length ≤ 4096 ∧ k.paramOffset + param.length ≤ k.dataBytes) &&
      nameOk k.name && entryOk code.length k.entry false && entryOk code.length k.entryMover true && entryOk code.length k.entryWarn true
    if sections && header then some k else none
  | _, _ => none

/-- An unused handle: which one is not stated. -/
def newHandle (s : State) : Option Nat × State :=
  let (raw, s) := freeBelow 65535 s
  let used := fun (h : Nat) => (kernelOf s h).isSome
  (((List.range (s.tables.kernels.length + 1)).map (fun i => (raw + i) % 65535 + 1)).find? (fun h => !used h), s)

/-- Bytes of a kernel in the tables region. -/
def kernelBytes (k : Kernel) : Nat := 64 + k.code.length + k.init.length + k.param.length

/-- A kernel image has been read: it is verified and loaded under a handle. -/
def loadKernel (img : List Byte) (room : Nat) (s : State) : LoadEnd :=
  match verifyImage s img 2 room, parseKernel img with
  | .accept dig, some k =>
    match newHandle s with
    | (none, _) => .failed .resource (resAt 16 0x31)
    | (some h, s) =>
      match allocTwice (kernelTag h) (kernelBytes k) s with
      | none => .failed .resource (resAt 16 0x31)
      | some s =>
        .done (resAt 16 h ||| resAt 18 (ofLe (dig.take 10)))
          (measureKernels dig (setTables { s.tables with kernels := tabSet (fun _ => none) s.tables.kernels h (some k) } s))
  | _, _ => .failed .signatureFail 0

/-! ### Load descriptors -/

def dropLoad (w : Nat × Nat × Nat) (s : State) : State :=
  setTables { s.tables with loads := s.tables.loads.filter (fun l => !decide ((l.port, l.sq, l.seq) = w)) } s

/-- A TABLE_LOAD or KERNEL_LOAD begins (R158): from the store, its LBAs must lie in the region. -/
def beginLoad (d : Dsc) (s : State) : State :=
  let n := d.u32 20
  let l : Load := { port := d.port, sq := d.sq, seq := d.seq, opcode := d.opcode }
  let start := fun s => setRunning d (setTables { s.tables with loads := s.tables.loads ++ [l] } s)
  if d.u8 16 = 0 then start s
  else if !s.store.mounted then complete d .notReady 0 0 s
  else if !rangeIn s (d.u16 18) (d.u64 24) (n / 4096) then badWith d .badAddress 24 s
  else start s |> nvRead 2 ((regionOf s (d.u16 18)).first + d.u64 24) (n / 4096) (.load d.port d.sq d.seq)

/-- TABLE_LOAD (R157, R158). -/
def execTableLoad (port sq seq : Nat) (s : State) : Host.Outcome State Fault Refusal :=
  withReady port sq seq 0x0301 beginLoad s

/-- KERNEL_LOAD (R160). -/
def execKernelLoad (port sq seq : Nat) (s : State) : Host.Outcome State Fault Refusal :=
  withReady port sq seq 0x0401 beginLoad s

/-- TABLE_DROP (R159). -/
def execTableDrop (port sq seq : Nat) (s : State) : Host.Outcome State Fault Refusal :=
  withReady port sq seq 0x0304 (fun d s =>
    let id := d.u32 16
    if (stagedTable s id).isNone then refuseWith d .refused 0x31 s
    else if activationPending s id then complete d .busy 0 0 s
    else dropStaged id s |> completeI d .ok 0) s

/-- A kernel is bound, or a bind of it waits (R161). -/
def kernelUsed (s : State) (h : Nat) : Bool :=
  s.tables.binds.any (fun (e : Nat × Bind) => decide (e.2.handle = h)) ||
    s.host.inflight.any (fun d => decide (d.opcode = 0x0402 ∧ d.phase = .waiting ∧ d.u16 18 = h))

/-- KERNEL_UNLOAD (R160, R161). REFUSED, unit 0x31, for a handle that names no kernel is the model's choice (log entry 117). -/
def execKernelUnload (port sq seq : Nat) (s : State) : Host.Outcome State Fault Refusal :=
  withReady port sq seq 0x0403 (fun d s =>
    let h := d.u16 16
    if (kernelOf s h).isNone then refuseWith d .refused 0x31 s
    else if kernelUsed s h then complete d .busy 0 0 s
    else setTables { s.tables with kernels := tabSet (fun _ => none) s.tables.kernels h none } s
      |> freeTag .tables (kernelTag h) |> completeI d .ok 0) s

/-! ### Activation at a scan frame start (R159, R311, R337, R356) -/

/-- PIPE_DEFECTS shows the entries of the active defect list. -/
def followDefects (s : State) : State :=
  wrF Reg.PIPE_DEFECTS Fld.PIPE_DEFECTS_entries (((activeTable s 0x22F00000).map (fun t => leAt t 0 4)).getD 0) s

/-- The staged version may become active now. -/
def activationOk (s : State) (id : Nat) : Bool :=
  match stagedTable s id with
  | none => false
  | some t =>
    let cls := id / 0x1000000
    if cls = 0x23 then
      (odSets s (bitsAt id 20 4)).all (fun i =>
        decide (i = bitsAt id 16 4 ∨ odTemp ((activeTable s (odId (bitsAt id 20 4) i)).getD []) ≠ odTemp t))
    else if cls = 0x12 then !lockedThrough s || windowsOpen s (lagNow s) (rearLead s) t
    else true

/-- The firmware activates a table of its own, unless the boot loads have activated that identifier (R309, R311, R330; log entry 113);
it takes room in the tables region where there is room. -/
def activateDefault (id : Nat) (t : List Byte) (s : State) : State :=
  if (activeTable s id).isSome then s
  else
    let s := (allocTwice id t.length s).getD s
    setTables { s.tables with active := tabSet (fun _ => []) s.tables.active id t,
                              version := tabSet (fun _ => 0) s.tables.version id (tableVersion s id + 1) } s

/-- It does. -/
def activateS (id : Nat) (s : State) : State := activate id s |> followWindow |> followDefects

/-! ### Binding (R161, R351, R356, R410, R411) -/

/-- Halo limits of a stage: lines and columns (R352). -/
def haloLimit (stage : Nat) : Nat × Nat := if stage = 1 then (25, 32) else if stage = 4 then (1, 1) else (0, 0)

/-- Stages of a role's chain in the order of placement. -/
def placeOrder (cell : Nat) : List Nat := if cell = 0 then [1, 7, 2, 3, 4, 5, 6] else [1, 2, 3, 4, 5]

/-- Code and data bytes of a bound kernel, rounded up to 64; the reference kernels' sizes are not stated and count 0. -/
def bindSizes (s : State) (handle : Nat) : Nat × Nat :=
  match kernelOf s handle with
  | some k => (up64 k.codeBytes, up64 k.dataBytes)
  | none => (0, 0)

/-- The role's sums of code and data with a kernel in place of the one bound to a stage (R351, R411). -/
def roleSums (s : State) (cell stage handle : Nat) : Nat × Nat :=
  let sizes := (placeOrder cell).map (fun n => bindSizes s (if n = stage then handle else (bindOf s cell n).handle))
  (sumNat (sizes.map (·.1)), sumNat (sizes.map (·.2)))

/-- The bind's contract, sizes and window hold (R161, R351, R356, R410). That handle 0 names the reference kernels is the model's
choice (log entry 116). -/
def bindOk (s : State) (stage cell handle paramLen : Nat) : Bool :=
  let halo := (haloFrom s (filterNow s) cell 1).1
  let room := fun (haloV : Nat) =>
    let new := halo - (stageHalo s (filterNow s) cell stage).1 + haloV
    !lockedThrough s || decide (new ≤ halo) || !(cellsNow s).contains cell ||
      decide (1 ≤ windowOf s cell (lagNow s) (rearLead s) new)
  if handle = 0 then decide (stage ≤ 5 ∨ cell = 0) && room (refHalo (filterNow s) cell stage).1
  else match kernelOf s handle with
    | none => false
    | some k =>
      let lim := haloLimit stage
      let sums := roleSums s cell stage handle
      let plen := if paramLen = 0 then k.param.length else paramLen
      decide (k.stage = stage ∧ (stage ≤ 5 ∨ cell = 0) ∧ k.haloV ≤ lim.1 ∧ k.haloH ≤ lim.2 ∧ sums.1 ≤ 16384 ∧ sums.2 ≤ 16384) &&
        bitAt k.cells cell && decide (k.paramOffset + plen ≤ k.dataBytes) && room k.haloV

/-- A word of private memory lies in the code or the data area of a stage of a role (R380, R411). -/
def areaWord (s : State) (cell stage w : Nat) : Bool :=
  let a := tabGet (fun _ => (0, 0, 0, 0)) s.tables.areas (8 * cell + stage)
  decide (a.1 ≤ 8 * w ∧ 8 * w < a.1 + a.2.1) || decide (16384 + a.2.2.1 ≤ 8 * w ∧ 8 * w < 16384 + a.2.2.1 + a.2.2.2)

/-- The firmware writes the data area of a stage, or of every stage, of the engines of a role: what jobs left is gone. -/
def clearAreas (cell : Nat) (stage : Option Nat) (s : State) : State :=
  let keep := fun (k : Nat) => match stage with
    | some n => decide (k / 65536 ≠ n)
    | none => false
  (s.array.engines.map (fun (e : Nat × Engine) => e.1)).foldl (fun s e =>
    if engineCell s e = cell then
      let v := engineOf s e
      let flips := match stage with
        | some n => tabKeep (fun w => !areaWord s cell n w) v.flips
        | none => []
      setEngine e { v with data := tabKeep keep v.data, flips := flips } s
    else s) s

/-- Where the last code and data area of a role end. -/
def areasEnd (s : State) (cell : Nat) : Nat × Nat :=
  (placeOrder cell).foldl (fun (m : Nat × Nat) n =>
    let a := tabGet (fun _ => (0, 0, 0, 0)) s.tables.areas (8 * cell + n)
    (max m.1 (a.1 + a.2.1), max m.2 (a.2.2.1 + a.2.2.2))) (0, 0)

def setArea (cell stage : Nat) (a : Nat × Nat × Nat × Nat) (s : State) : State :=
  setTables { s.tables with areas := tabSet (fun _ => (0, 0, 0, 0)) s.tables.areas (8 * cell + stage) a } s

/-- Every kernel of a role is placed anew in ascending stage order. -/
def repack (cell : Nat) (s : State) : State :=
  ((placeOrder cell).foldl (fun (e : State × Nat × Nat) n =>
    let z := bindSizes e.1 (bindOf e.1 cell n).handle
    (setArea cell n (e.2.1, z.1, e.2.2, z.2) e.1, e.2.1 + z.1, e.2.2 + z.2)) (s, 0, 0)).1

/-- The kernel now bound to a stage and cell is placed (R411), and its code and data are written (R410). -/
def placeKernel (cell stage : Nat) (s : State) : State :=
  let z := bindSizes s (bindOf s cell stage).handle
  let a := tabGet (fun _ => (0, 0, 0, 0)) s.tables.areas (8 * cell + stage)
  let e := areasEnd s cell
  if z.1 ≤ a.2.1 ∧ z.2 ≤ a.2.2.2 then clearAreas cell (some stage) s
  else if e.1 + z.1 ≤ 16384 ∧ e.2 + z.2 ≤ 16384 then setArea cell stage (e.1, z.1, e.2, z.2) s |> clearAreas cell (some stage)
  else repack cell s |> clearAreas cell none

/-- A kernel is bound to a stage and cell: every tile from this scan frame on runs it, and the stage has what is configured
for it. -/
def bindKernel (cell stage handle : Nat) (param : List Byte) (s : State) : State :=
  let s := undegrade cell stage s
  let s := setBind cell stage { handle := handle, param := param } s
  placeKernel cell stage s |> followWindow

/-- The firmware binds the reference kernel in place of the kernel configured for a stage (R77, R363, R418). -/
def bindReference (s : State) (e : Nat × Nat) : State :=
  (if (bindOf s e.1 e.2).handle = 0 then s else bindKernel e.1 e.2 0 [] s) |> degrade e.1 e.2

/-- Cells and stages that use a class of table (R156); a class without a kernel stage counts as stage 0. After a failed image a
stage counts as degraded until a KERNEL_BIND of it, and a class without a stage until a restart: R83 does not say when degraded
returns to 0 (the model's choice, log entry 149). -/
def stagesOf (id : Nat) : List (Nat × Nat) :=
  let stage := match id / 0x1000000 with
    | 0x10 | 0x11 | 0x12 => 1
    | 0x20 => 2
    | 0x21 => 3
    | 0x22 => 4
    | 0x23 => 5
    | 0x30 => 6
    | _ => 0
  if stage = 0 then [(id / 0x1000000, 0)]
  else if bitsAt id 20 4 ≠ 0xF then [(bitsAt id 20 4, stage)]
  else if stage = 6 then [(0, 6)] else [(0, stage), (1, stage)]

end Sys2Proof.Machine
end

