-- ==== Sys2Proof/Machine/HoldOps.lean ====
section
/-! DEFINITION. The hold library: items on the store, staging into the hold cache, the hold policy and eviction (R162,
R163, R420 to R424). -/

namespace Sys2Proof.Machine

def setHold (v : HoldState) (s : State) : State := { s with hold := v }

/-- Extents of the hold cache in use. -/
def holdExtents (s : State) : Nat :=
  sumNat ((s.rsv.allocs.filter (fun a => decide (a.region = .hold))).map (fun a => a.extents))

/-- Longest run of free extents from extent i on, with the run just below it. -/
def longestFree (s : State) : Nat → Nat → Nat → Nat → Nat
  | 0, _, run, best => max run best
  | fuel + 1, i, run, best =>
    if extentFree s .hold i then longestFree s fuel (i + 1) (run + 1) best else longestFree s fuel (i + 1) 0 (max run best)

/-- RSV_HOLD_USED follows the cache. -/
def followHold (s : State) : State :=
  s |> wrF Reg.RSV_HOLD_USED Fld.RSV_HOLD_USED_used (2 * holdExtents s)
    |> wrF Reg.RSV_HOLD_USED Fld.RSV_HOLD_USED_largest_free (2 * longestFree s (regionExtents s .hold) 0 0 0)

/-- HOLD_ITEM_MISSING (R233, R424). -/
def itemMissing (item : Nat) (s : State) : State := postEvent .device 0x05F5 0x20 2 (dataAt 24 item) s

/-- The policy names an item. -/
def policyItem (s : State) : Nat := rdF s Reg.HWL_HOLD_ITEM Fld.HWL_HOLD_ITEM_item

/-! ### Staging -/

/-- An item is being staged. -/
def stagingOf (s : State) (item : Nat) : Option (List (Nat × Nat × Nat)) :=
  (s.hold.staging.find? (fun e => decide (e.1 = item))).map (fun e => e.2)

/-- Start to stage an item for a descriptor, or for the policy; a staging that runs is joined. -/
def beginStage (item : Nat) (who : List (Nat × Nat × Nat)) (s : State) : State :=
  match stagingOf s item with
  | some _ => setHold { s.hold with staging := s.hold.staging.map (fun e => if e.1 = item then (e.1, e.2 ++ who) else e) } s
  | none => setHold { s.hold with staging := s.hold.staging ++ [(item, who)] } s
      |> nvRead 1 (regionOf s (item / 65536)).first 8 (.holdTable item)

/-- The device stages an item for the policy (R424). -/
def beginBackground (item : Nat) (s : State) : State :=
  let s := if s.hold.background.contains item then s else setHold { s.hold with background := item :: s.hold.background } s
  beginStage item [] s

/-- A staging ends: its descriptors complete, and a failure of an item that the policy names, or named when the device began to
stage it for it, is reported (R424). -/
def endStage (item : Nat) (ok : Bool) (f : (Nat × Nat × Nat) → State → State) (s : State) : State :=
  let who := (stagingOf s item).getD []
  let s := setHold { s.hold with staging := s.hold.staging.filter (fun e => !decide (e.1 = item)),
                                 read := tabSet (fun _ => []) s.hold.read item [],
                                 readLba := tabSet (fun _ => 0) s.hold.readLba item 0 } s
  let s := who.foldl (fun s w => f w s) s
  let named := decide (policyItem s = item) || s.hold.background.contains item
  let s := setHold { s.hold with background := s.hold.background.filter (fun i => i != item) } s
  if !ok && named then itemMissing item s else s

/-- The stage is refused for the store's contents (R163, R422). -/
def refuseStage (item : Nat) (s : State) : State := endStage item false (fun w s => endDsc w .refused (resAt 16 0x14) s) s

/-- The item's region is a hold library that exists, and the index is in its table. -/
def itemNamed (s : State) (item : Nat) : Bool :=
  decide ((regionOf s (item / 65536)).kind = 2 ∧ item % 65536 < 1024)

/-- Cache bytes in use, as HOLD_STAGE reports them. -/
def holdUsed (s : State) : BitVec 96 := resAt 16 (holdExtents s * 2097152)

/-- HOLD_STAGE (R162, R163, R422). -/
def execHoldStage (port sq seq : Nat) (s : State) : Host.Outcome State Fault Refusal :=
  withReady port sq seq 0x0501 (fun d s =>
    let item := d.u32 16
    if itemResident s item then completeI d .ok (holdUsed s) s
    else if !s.store.mounted then complete d .notReady 0 0 s
    else if (stagingOf s item).isNone && !itemNamed s item then refuseWith d .refused 0x14 s
    else beginStage item [(d.port, d.sq, d.seq)] (setRunning d s)) s

/-- The item table has been read: the item itself is read, or does not exist. -/
def holdTableRead (item : Nat) (bs : List Byte) (s : State) : State :=
  let o := 32 * (item % 65536)
  let first := leAt bs o 8
  let count := leAt bs (o + 8) 8
  let r := regionOf s (item / 65536)
  if first < 8 ∨ count = 0 ∨ r.count < first + count ∨ leAt bs (o + 16) 16 ≠ 0 then refuseStage item s
  else nvRead 1 (r.first + first) count (.holdItem item) s

/-- The item has been read from an LBA on. -/
def holdItemRead (item lba : Nat) (bs : List Byte) (s : State) : State :=
  setHold { s.hold with read := tabSet (fun _ => []) s.hold.read item bs,
                        readLba := tabSet (fun _ => 0) s.hold.readLba item lba } s

/-- The header of an item holds (R421). -/
def itemHeaderOk (b : List Byte) : Bool :=
  decide (leAt b 0 4 = 0x4948584F ∧ leAt b 4 2 = 1 ∧ 16 ≤ leAt b 6 2 ∧ leAt b 6 2 ≤ 15360 ∧ 2 ≤ leAt b 8 2 ∧ leAt b 8 2 ≤ 8640) &&
    decide (1 ≤ leAt b 10 1 ∧ leAt b 11 1 ≤ 1 ∧ 1 ≤ leAt b 12 4 ∧ leAt b 12 4 ≤ 65535 ∧ leAt b 16 48 = 0)

/-- The frame of directory entry i, decoded; none when it breaks R421 or R422. -/
def itemFrame (b : List Byte) (i : Nat) : Option (List Byte) :=
  let o := 64 + 16 * i
  let at_ := 4096 * leAt b o 4
  let len := leAt b (o + 4) 4
  let size := 6 * leAt b 6 2 * leAt b 8 2
  let stored := (b.drop at_).take len
  if leAt b (o + 12) 4 ≠ 0 ∨ at_ < 64 + 16 * leAt b 12 4 ∨ b.length < at_ + len then none
  else if leAt b 11 1 = 0 then
    if len = size ∧ crc32c stored = leAt b (o + 8) 4 then some stored else none
  else if leAt b (o + 8) 4 ≠ 0 then none
  else match decodeStream (len + 1) 0 false stored [] with
    | some ws => if 2 * ws.length = size then some (wordBytes ws) else none
    | none => none

/-- The bytes of frame f that lie in line rel of the item's copy: from the first on, to before the second. -/
def HoldItem.repairBytes (h : HoldItem) (f rel : Nat) : Nat × Nat :=
  let size := 6 * h.width * h.height
  (64 * rel - size * f, min size (64 * rel + 64 - size * f))

/-- Every frame of an item, from the last to the first of those counted. -/
def itemFrames (b : List Byte) : Nat → List (List Byte) → Option (List (List Byte))
  | 0, fs => some fs
  | n + 1, fs => match itemFrame b n with
    | some f => itemFrames b n (f :: fs)
    | none => none

/-- HOLD_STAGE_DONE (R422): the item that has been read is checked and decoded. -/
def execHoldStageDone (item : Nat) (s : State) : Host.Outcome State Fault Refusal :=
  let b := tabGet (fun _ => ([] : List Byte)) s.hold.read item
  if b = [] ∨ (stagingOf s item).isNone then .next s
  else if !itemHeaderOk b then .next (refuseStage item s)
  else
    let w := leAt b 6 2
    let h := leAt b 8 2
    let n := leAt b 12 4
    match alloc .hold (holdTag item) (6 * w * h * n) s with
    | none => .next (endStage item false (fun e s => endDsc e .resource (resAt 16 0x50) s) s)
    | some s2 =>
      match itemFrames b n [] with
      | none => .next (refuseStage item s)
      | some fs =>
        let lba := tabGet (fun _ => 0) s.hold.readLba item
        let lbas := (List.range n).map (fun i => lba + leAt b (64 + 16 * i) 4)
        let it : HoldItem := { width := w, height := h, rep := leAt b 10 1, frames := fs, lbas := lbas,
                               stored := (List.range n).map (fun i => leAt b (68 + 16 * i) 4), coded := decide (leAt b 11 1 = 1) }
        let s := setHold { s2.hold with items := tabSet (fun _ => none) s2.hold.items item (some it) } s2 |> followHold
        .next (endStage item true (fun e s => endDsc e .ok (holdUsed s) s) s)

/-! ### Policy and eviction -/

/-- HOLD_POLICY (R162, R424). -/
def execHoldPolicy (port sq seq : Nat) (s : State) : Host.Outcome State Fault Refusal :=
  withReady port sq seq 0x0504 (fun d s =>
    let item := d.u32 24
    let s := wrF Reg.HWL_HOLD_TIMEOUT Fld.HWL_HOLD_TIMEOUT_frames (d.u16 16) s
      |> wrF Reg.HWL_FREEZE_TIMEOUT Fld.HWL_FREEZE_TIMEOUT_ms (d.u32 20) |> wrF Reg.HWL_HOLD_ITEM Fld.HWL_HOLD_ITEM_item item
    let s := if item = 0 ∨ itemResident s item = true then s
      else if s.store.mounted && ((stagingOf s item).isSome || itemNamed s item) then beginBackground item s
      else itemMissing item s
    completeI d .ok 0 s |> freezeIfDue) s

/-- An item plays. -/
def itemPlays (s : State) (item : Nat) : Bool :=
  match s.hold.play with
  | some p => decide (p.item = item)
  | none => false

/-- HOLD_EVICT (R163): an item that is not resident leaves nothing to remove. -/
def execHoldEvict (port sq seq : Nat) (s : State) : Host.Outcome State Fault Refusal :=
  withReady port sq seq 0x0505 (fun d s =>
    let item := d.u32 16
    if itemPlays s item ∨ (item ≠ 0 ∧ policyItem s = item) then complete d .busy 0 0 s
    else setHold { s.hold with items := tabSet (fun _ => none) s.hold.items item none } s
      |> freeTag .hold (holdTag item) |> followHold |> completeI d .ok 0) s

end Sys2Proof.Machine
end

