-- ==== Sys2Proof/Machine/Ports.lean ====
section
/-! DEFINITION. Port resets (R69, R72, R108, R293, R563) and links that come up (R74). -/

namespace Sys2Proof.Machine

/-! ### What still names a descriptor of a port that is gone

The device goes on with work it has begun; the number 4 names no port, so nothing that ends later completes anything. -/

def gonePort (p q : Nat) : Nat := if q = p then 4 else q

def goneDsc (p : Nat) (w : Nat × Nat × Nat) : Nat × Nat × Nat := (gonePort p w.1, w.2)

def NvUse.gone (p : Nat) : NvUse → NvUse
  | .hostRead q a b => .hostRead (gonePort p q) a b
  | .hostWrite q a b => .hostWrite (gonePort p q) a b
  | .dealloc q a b => .dealloc (gonePort p q) a b
  | .dir k q a b => .dir k (gonePort p q) a b
  | .load q a b => .load (gonePort p q) a b
  | .logRead q a b k n => .logRead (gonePort p q) a b k n
  | .codec l q a b => .codec l (gonePort p q) a b
  | u => u

def StoreState.gone (p : Nat) (t : StoreState) : StoreState :=
  { t with nvme := t.nvme.map (fun c => { c with use := c.use.gone p }),
           changing := t.changing.map (fun c => { c with port := gonePort p c.port }),
           queued := t.queued.map (goneDsc p) }

def Flip.gone (p : Nat) (f : Flip) : Flip := { f with port := gonePort p f.port }

def LayerState.gone (p : Nat) (l : LayerState) : LayerState :=
  { l with current := l.current.map (Flip.gone p), retiring := l.retiring.map (fun e => (e.1.gone p, e.2)),
           faultFlip := l.faultFlip.map (Flip.gone p), aheadOf := l.aheadOf.map (goneDsc p) }

def LaneState.gone (p : Nat) (l : LaneState) : LaneState := { l with eyeDsc := l.eyeDsc.map (goneDsc p) }

def SecState.gone (p : Nat) (t : SecState) : SecState :=
  { t with challenge := t.challenge.filter (fun c => decide (c.1 ≠ p)),
           fuse := t.fuse.map (fun f => (f.1, goneDsc p f.2)),
           flash := t.flash.map (fun f => (f.1, f.2.1, goneDsc p f.2.2)) }

def FaultState.gone (p : Nat) (t : FaultState) : FaultState :=
  { t with awaiting := t.awaiting.map (fun a => (a.1, a.2.1, goneDsc p a.2.2)) }

def PowerState.gone (p : Nat) (t : PowerState) : PowerState :=
  let req := fun (r : PwrReq) => { r with dsc := r.dsc.map (goneDsc p) }
  { t with entry := t.entry.map (fun e => { e with req := req e.req }),
           exit := t.exit.map (fun e => { e with dsc := e.dsc.map (goneDsc p), then_ := e.then_.map req }),
           slot := t.slot.filter (fun r => decide (r.dsc.map (·.1) ≠ some p)) }

/-! ### Layers of the port (R293) -/

/-- First layer line still to be composed that has not been fetched: a plane line it needs is not there. -/
def firstUnfetched (s : State) (n : Nat) : Nat :=
  let v := viewOf s
  let h := v.field (Reg.COMP_Ln_SIZE n) Fld.COMP_Ln_SIZE_height
  let from_ := ((s.comp.cur.map (·.next)).getD 0) - v.field (Reg.COMP_Ln_POS n) Fld.COMP_Ln_POS_y
  (((List.range h).drop from_).find? (fun y => (neededLines v n y).any (fun e =>
    !(frameLayer s n).lines.any (fun b => decide (b.1 = 16384 * e.1 + e.2))))).getD h

/-- A LIVE layer of the port shows its fallback colour from there on, and is then disabled. -/
def loseLayer (p : Nat) (s : State) (n : Nat) : State :=
  let live := decide ((viewOf s).kind n = 2)
  if hostOf s 1 n ≠ p ∨ ((viewNow s).kind n ≠ 2 ∧ live = false) then s
  else
    let latched := s.comp.cur.all (fun c => c.latched)
    let f := frameLayer s n
    let s := if live ∧ s.comp.cur.isSome then setFrameLayer n { f with faultFrom := minLine f.faultFrom (firstUnfetched s n) } s else s
    let l := layerOf s n
    setLayer n { l with off := l.off || latched, ahead := [], aheadOf := none, aheadFault := none } s |> setFlag Flag.COMP_port_lost
      |> postEvent (.port (owner s)) 0x02F2 0x30 2 (dataAt 24 n ||| dataAt 25 p)

/-- A fetch of a SNAPSHOT version for a descriptor of the port ends. -/
def loseFetch (p : Nat) (s : State) (n : Nat) : State :=
  match (layerOf s n).fetching with
  | some (q, _, _) => if q = p then
      setLayer n { layerOf s n with fetching := none, fetched := [] } s |> freeTag .layer (layerTag n true) else s
  | none => s

/-- Expected values and definitions of a rectangle that the port's descriptors brought. -/
def loseChecks (p : Nat) (s : State) (r : Nat) : State :=
  let v := rectOf s r
  let w := v.waiting.filter (fun e => decide (e.port ≠ p))
  let d := v.defining.filter (fun e => decide (e.1 ≠ p))
  if w = v.waiting ∧ d = v.defining then s else setRect r { v with waiting := w, defining := d } s |> followWaiting r

/-! ### The reset -/

/-- Registers of a port: its page and its MSI-X state. -/
def portReg (p k : Nat) : Bool := decide (portKey p 0 ≤ k ∧ k < portKey (p + 1) 0)

/-- Parameter blocks of the KERNEL_BINDs of the port that wait. -/
def loseBinds (p : Nat) (s : State) : State :=
  (s.host.inflight.filter (fun d => decide (d.port = p ∧ d.opcode = 0x0402))).foldl
    (fun s d => freeTag .tables (bindTag d.order) s) s

/-- Everything the device holds for a port goes (R108): no record is written to it any more. -/
def dropPort (p : Nat) (s : State) : State :=
  let s := loseBinds p s
  let s := { s with host := { s.host with
    sq := tabKeep (fun k => decide (k / 8 ≠ p)) s.host.sq, cq := tabKeep (fun k => decide (k / 8 ≠ p)) s.host.cq,
    evq := tabKeep (fun k => decide (k ≠ p)) s.host.evq,
    inflight := s.host.inflight.filter (fun d => decide (d.port ≠ p)),
    groups := s.host.groups.filter (fun g => decide (g.port ≠ p)) } }
  let s := setPort p { up := (portOf s p).up, bootTold := (portOf s p).bootTold } s |> resetRegs (portReg p)
  let s := (List.range 8).foldl (fun s n => if hostOf s 4 n = p then cancelLane n s else s) s
  let s := (List.range 48).foldl (loseChecks p) s
  let s := layerNumbers.foldl (loseFetch p) s
  let s := { s with
    store := s.store.gone p, sec := s.sec.gone p, fault := s.fault.gone p, power := s.power.gone p,
    tables := { s.tables with loads := s.tables.loads.filter (fun l => decide (l.port ≠ p)) },
    hold := { s.hold with staging := s.hold.staging.map (fun e => (e.1, e.2.filter (fun w => decide (w.1 ≠ p)))) },
    lanes := { s.lanes with jobs := s.lanes.jobs.filter (fun j => decide (j.port ≠ p)),
                            lane := s.lanes.lane.map (fun e => (e.1, e.2.gone p)) },
    slk := { s.slk with bc := s.slk.bc.map (fun b => { b with dsc := b.dsc.map (goneDsc p) }) },
    raster := { s.raster with dsc := s.raster.dsc.map (goneDsc p),
                              queue := s.raster.queue.filter (fun w => decide (w.1 ≠ p)) } }
  let s := ((List.range 16).foldl (loseLayer p) s)
  { s with comp := { s.comp with layers := s.comp.layers.map (fun e => (e.1, e.2.gone p)) } } |> followLayers |> recordMissing

/-- Every descriptor of the port completes with ABORTED but the POWER_REQ being served. -/
def abortPort (p : Nat) (keep : Option (Nat × Nat × Nat)) (s : State) : State :=
  (s.host.inflight.filter (fun d => decide (d.port = p ∧ some (d.port, d.sq, d.seq) ≠ keep))).foldl
    (fun s d => complete d .aborted 0 0 s) s

/-- PORT_RESET (R69, R108, R552): cause 0 link-down, 1 HPm_PERST_N, 2 fatal AER error, 3 function level reset, which
leaves the link up. The owner's descriptors complete with ABORTED as the reset begins (R72). In DEEP and OFF the port's inputs are ignored (R49). -/
def execPortReset (port cause : Nat) (s : State) : Host.Outcome State Fault Refusal :=
  if !portExists s port || decide (3 < cause) || !inputsLive s then .next s
  else
    let s := dropPort port (if port = owner s then abortPort port none s else s)
    let s := if cause = 3 then s else setPort port { portOf s port with up := false } s |> askUnit (0x10 + port) 2
    .next (s |> setFlag Flag.FAULT_port_down
      |> postEvent .device 0x01F5 (0x10 + port) 2 (dataAt 24 port ||| dataAt 25 cause))

/-- HOST_LINK_UP (R74): the port answers once step 1 of the start has ended; before that, or in a state without port
PHYs, the link does not train. -/
def execHostLinkUp (port : Nat) (s : State) : Host.Outcome State Fault Refusal :=
  let early := match s.boot.phase with
    | .aonOff | .held | .rail _ | .straps | .retryWait | .railsOff | .boardTest => true
    | _ => false
  if !portExists s port || early || decide (s.power.state = .deep ∨ s.power.state = .off) || (portOf s port).up then .next s
  else .next (setPort port { portOf s port with up := true } s |> askUnit (0x10 + port) 1)

end Sys2Proof.Machine
end

