-- ==== Sys2Proof/Machine/PowerSeq.lean ====
section
/-! DEFINITION. The power sequencer (R509 to R529): requests and the slot, the entry handshake with what each unit does
in it, states reached, and exits. -/

namespace Sys2Proof.Machine

/-! ### The event log's way to the store (R433) -/

/-- The first buffered record's sequence number. -/
def logFirst (s : State) : Nat := s.store.logNext.getD 0 - s.store.logBuf.length

/-- Records of region 1. -/
def logRecords : Nat := 33554432

/-- LBAs from a record of region 1 on that hold a number of records, none past the region's end. -/
def logLbas (n count : Nat) : Nat := (n % 128 + count + 127) / 128

/-- The buffered records, up to the ring's end, are written where their sequence numbers place them: each LBA holds 128, so the
blocks they go into are read first and keep their other records. -/
def writeLog (s : State) : State :=
  let n := logFirst s % logRecords
  let count := min s.store.logBuf.length (logRecords - n)
  nvRead 2 ((regionOf s 1).first + n / 128) (logLbas n count) (.logMerge count) s

/-- The blocks have been read: they go back with the records in their places. -/
def mergeLog (count : Nat) (bs : List Byte) (s : State) : State :=
  let n := logFirst s % logRecords
  let at_ := 32 * (n % 128)
  nvWrite ((regionOf s 1).first + n / 128)
    (bs.take at_ ++ (s.store.logBuf.take count).flatMap (fun e => e.bytes) ++ bs.drop (at_ + 32 * count)) (.logWrite count) s

/-- A write of the event log runs. -/
def logBusy (s : State) : Bool :=
  s.store.nvme.any (fun c => match c.use with
    | .logMerge _ => true
    | .logWrite _ => true
    | .logHead => true
    | .logFlush => true
    | _ => false)

/-- The log head follows the records: it names the first number that is not written yet. -/
def writeHead (s : State) : State := nvWrite 2 (logHead (logFirst s)) .logHead s

/-! ### The result of a transition (R513) -/

/-- The transition ends: PWR_RESULT_DATA is written and valid is set. -/
def endTransition (target reached unit st : Nat) (replayed : Bool) (s : State) : State :=
  wr Reg.PWR_RESULT_DATA (BitVec.ofNat 32 (target + 8 * reached + 64 * b2n replayed + 256 * unit + 65536 * st)) s
    |> resultEnd Reg.PWR_RESULT 0

/-- POWER_STATE, and the interrupt to the BMC (R141, R535). -/
def postState (old new : PState) (cause who : Nat) (s : State) : State :=
  postEvent .device 0x0AF1 0xA0 0 (dataAt 24 old.code ||| dataAt 25 new.code ||| dataAt 26 cause ||| dataAt 27 who) s
    |> emit (.bmcAlert 0x0AF1)

/-- The POWER_REQ of a request completes. -/
def endRequest (d : Option (Nat × Nat × Nat)) (st : Status) (res : BitVec 96) (s : State) : State :=
  match d with
  | some w => endDsc w st res s
  | none => s

def reachedRes (reached : PState) (replayed : Bool) : BitVec 96 := resAt 16 reached.code ||| resAt 17 (b2n replayed)

/-! ### The units of a handshake (R517) -/

/-- HP0 to HP3 that exist. -/
def portUnits (s : State) : List Nat := ([0, 1, 2, 3].filter (portExists s)).map (· + 0x10)

/-- The units asked, in order. From SLEEP only those that still run. -/
def entryUnits (s : State) (old new : PState) : List Nat :=
  match old, new with
  | _, .idle => [0x30, 0x31, 0x40, 0x41, 0x42, 0x43]
  | .sleep, _ => 0x01 :: portUnits s
  | _, .sleep => [0x01, 0x02, 0x80, 0x20, 0x70, 0x30, 0x31, 0x40, 0x41, 0x42, 0x43, 0x14, 0x50]
  | _, _ => [0x01, 0x02, 0x80, 0x20, 0x70, 0x30, 0x31, 0x40, 0x41, 0x42, 0x43, 0x14, 0x50] ++ portUnits s

/-- Units that IDLE has gated. -/
def gatedUnit (u : Nat) : Bool := [0x30, 0x31, 0x40, 0x41, 0x42, 0x43].contains u

/-- The unit an entry waits for. -/
def nextUnit (s : State) (e : Entry) : Option Nat :=
  (entryUnits s e.from_ e.req.target).find? (fun u => !e.agreed.contains u)

/-- A descriptor of an opcode runs. -/
def opRuns (s : State) (op : Nat) : Bool := s.host.inflight.any (fun d => decide (d.opcode = op ∧ d.phase = .running))

/-- The unit refuses the entry. STP refuses by STP_SHUTDOWN_TIMEOUT. -/
def unitRefuses (s : State) (e : Entry) (u : Nat) : Bool :=
  let idle := decide (e.req.target = .idle)
  if u = 0x01 then
    s.tables.loads.any (fun l => decide (l.opcode ≠ 0x0402)) || decide (s.hold.staging ≠ []) || opRuns s 0x0E01
  else if u = 0x02 then s.sec.flash.isSome || s.sec.fuse.isSome
  else if u = 0x80 then s.cdc.any (fun (l : Nat × CdcLane) => l.2.job.isSome)
  else if u = 0x30 then
    idle && (((planeOn s 0 || planeOn s 1) && !rdB s Reg.HWL_STAT Fld.HWL_STAT_sleeping && !rdB s Reg.HWL_STAT Fld.HWL_STAT_silent) ||
      (List.range 16).any (fun n => (viewNow s).enabled n && decide ((viewNow s).kind n = 2)) ||
      s.host.groups.any (fun g => decide (g.order ≠ 0)))
  else if u = 0x31 then
    idle && (match s.hold.play with
      | some p => p.loop || !p.ended
      | none => false)
  else false

/-- The unit has stopped: RAST when its sequence has ended, STP when its shutdown has: CC.SHN is set, and its answer says that
CSTS.SHST reads complete (R428). -/
def unitStopped (s : State) (u : Nat) : Bool :=
  if u = 0x70 then decide (s.raster.phase = .off)
  else if u = 0x14 then !s.store.mounted || (s.store.shutting && s.store.shn)
  else true

/-- What a shutdown still has to do: the records, then Flush (R428). -/
def goOnShutting (s : State) : State :=
  if !s.store.shutting then s else if s.store.logBuf = [] then nvFlush .shutFlush s else writeLog s

/-- STP's shutdown begins (R428); a write of the log that runs ends first. -/
def beginShutdown (s : State) : State :=
  if !s.store.mounted then s
  else
    let s := setStore { s.store with shutting := true, flushed := false, shn := false } s
    if logBusy s then s else goOnShutting s

/-- A unit is asked: RAST and STP begin what they have to end before they answer. -/
def askForEntry (u : Nat) (s : State) : State :=
  if u = 0x70 then serveQueue (s.raster.queue.length + 1) s else if u = 0x14 then beginShutdown s else s

/-! ### What a unit does when it agrees -/

/-- Each Headwater lane's settings are saved and it goes OFF, and the Sluice lanes that are ACTIVE, which RAST stops next, are
noted (R201); the frame being received ends. -/
def stopHeadwater (s : State) : State :=
  let s := (List.range 128).foldl (fun s n =>
    if laneIs s 1 n Lane.active then setLane 1 n { laneOf s 1 n with wasActive := true } s else s) s
  let s := endHwFrame s
  let s := { s with hwl := { s.hwl with frame := none, checking := false, awaitActive := false },
                    comp := { s.comp with h1Waiting := false, waiting := [] } }
  (List.range 32).foldl (fun s n =>
    if laneIs s 0 n Lane.off then s
    else
      let l := { laneOf s 0 n with saved := some (rd s (Reg.LANE_EQ 0 n)), wasActive := laneIs s 0 n Lane.active }
      setLane 0 n l s |> goLane 0 n Lane.off |> jobLaneGone 0 n) s

/-- Sluice stops with RAST: every lane goes OFF. -/
def stopSluice (s : State) : State :=
  (List.range 128).foldl (fun s n =>
    if laneIs s 1 n Lane.off then s else goLane 1 n Lane.off s |> jobLaneGone 1 n) s

/-- Engines of a quadrant lose their registers and their jobs (R374). -/
def stopQuadrant (q : Nat) (s : State) : State :=
  let s := (s.pipe.jobs.filter (fun j => decide (j.engine / 64 = q))).foldl (fun s j => dropJob j s) s
  let lose := fun (e : Nat × Engine) => if e.1 / 64 = q then
    (e.1, { data := e.2.data, flips := e.2.flips, fenced := e.2.fenced, stops := e.2.stops, eccs := e.2.eccs }) else e
  let engines := (s.array.engines.map lose).filter (fun e => decide (e.2 ≠ {}))
  { s with array := { s.array with engines := engines } }

/-- The store is shut down. -/
def storeShut (s : State) : State :=
  if !s.store.mounted then { s with boot := { s.boot with perstN := none } }
  else
    let s := setStore { s.store with mounted := false, controller := false, shutting := false, shn := false } s
    { s with boot := { s.boot with perstN := none } } |> wrF Reg.STP_STAT Fld.STP_STAT_mounted 0
      |> wrF Reg.STP_STAT Fld.STP_STAT_link_up 0 |> wrF Reg.STP_STAT Fld.STP_STAT_reason 7 |> askUnit 0x14 3

/-- Composition stops inside a frame: what the frame has seen of its layers is reported, and nothing of it is left for the next
one (R292). -/
def stopComposition (s : State) : State :=
  match s.comp.cur with
  | some c =>
    let s := layerNumbers.foldl (endLayer c.cfn) s
    { s with comp := { s.comp with cur := none } }
  | none => s

/-- What a unit does as it agrees. -/
def quiesce (e : Entry) (u : Nat) (s : State) : State :=
  let idle := decide (e.req.target = .idle)
  if u = 0x20 then stopHeadwater s
  else if u = 0x70 then if idle then s else stopSluice s
  else if u = 0x30 then if idle then s else stopComposition s
  else if u = 0x31 then if idle ∧ rasterOn s = true then storeIdleFrame s else s
  else if 0x40 ≤ u ∧ u ≤ 0x43 then if idle then s else stopQuadrant (u - 0x40) s
  else if u = 0x14 then storeShut s
  else if u = 0x50 then
    wrF Reg.RSV_STAT Fld.RSV_STAT_self_refresh 1 s |> wrF Reg.RSV_STAT Fld.RSV_STAT_scrubbing 0
  else if 0x10 ≤ u ∧ u ≤ 0x13 then abortPort (u - 0x10) e.req.dsc s
  else s

/-! ### A state is reached -/

/-- The rails of a low-power state (R31). R57 gives an order for a power-down alone; for the entry to SLEEP and DEEP the
order of this definition is the model's (log entry 107). -/
def railsFor (st : PState) (s : State) : State :=
  match st with
  | .sleep => s |> railOff 5 |> commandRail 1 550
  | .deep => s |> railOff 5 |> railOff 7 |> railOff 6 |> railOff 2 |> commandRail 1 550
  | _ => s

/-- Every port takes a port reset and loses its link. -/
def dropPorts (s : State) : State :=
  [0, 1, 2, 3].foldl (fun s p => if portExists s p then
    dropPort p s |> setPort p { portOf s p with up := false } |> askUnit (0x10 + p) 2 else s) s

/-- OFF: every rail but VDD_AON goes, and everything with them. -/
def goOff (s : State) : State :=
  let s := restart true (railsOff s)
  setPower { s.power with state := .off } s

/-- The raster shows the stored drive frame; the tile jobs in progress serve no frame any more (R341). -/
def showIdle (s : State) : State :=
  let s := s.pipe.jobs.foldl (fun s j => dropJob j s) s
  if scanning s then setRaster { s.raster with shown := .idle } s else s

/-- Every unit has agreed and the state is reached (R517, R519, R525). -/
def enterState (e : Entry) (s : State) : State :=
  let new := e.req.target
  let replay := e.wake.isSome
  let cause := if e.req.who = .mgmt then 1 else 0
  let reached := if replay then PState.run else new
  let s := setPower { s.power with entry := none } s
    |> postState e.from_ new cause e.req.who.code
    |> endRequest e.req.dsc .ok (reachedRes reached replay)
    |> endTransition new.code reached.code 0 0 replay
  let s := if replay then setFlag Flag.PWR_replayed_wake s else s
  let s := if new = .idle then showIdle s else s
  let s := if new = .deep ∨ new = .off then dropPorts s else s
  let s := setPower { s.power with state := new } s |> railsFor new
  match new, e.wake with
  | .off, none => goOff s
  | .off, some _ => goOff s |> powerStart
  | _, some w => beginExit { from_ := new, wake := w, cause := 6 } s
  | _, none => s

/-! ### Requests (R511, R512, R520) -/

/-- The entry waits for its next unit: those that IDLE gated agree at once. -/
def askNext : Nat → State → State
  | 0, s => s
  | fuel + 1, s =>
    match s.power.entry with
    | none => s
    | some e =>
      match nextUnit s e with
      | none => s
      | some u =>
        if e.from_ = .idle ∧ gatedUnit u = true then
          askNext fuel (quiesce e u (setPower { s.power with entry := some { e with agreed := u :: e.agreed } } s))
        else askForEntry u s

/-- An entry begins. -/
def beginEntry (r : PwrReq) (s : State) : State :=
  let on := if s.power.state = .run ∨ s.power.state = .idle then rasterOn s else s.power.rasterOn
  setPower { s.power with entry := some { req := r, from_ := s.power.state }, rasterOn := on } s
    |> resultBegin Reg.PWR_RESULT [Reg.PWR_RESULT_DATA] |> askNext 32

/-- A transition runs. -/
def transitionRuns (s : State) : Bool := s.power.entry.isSome || s.power.exit.isSome

/-- A request starts while no transition runs. -/
def startRequest (r : PwrReq) (s : State) : State :=
  let st := s.power.state
  let reaching := decide (r.target = .run)
  if r.target = st then
    s |> resultBegin Reg.PWR_RESULT [Reg.PWR_RESULT_DATA] |> endTransition st.code st.code 0 0 false
      |> endRequest r.dsc .ok (reachedRes st false)
  else if reaching && decide (st = .idle) then
    recordWake { source := 4 } s |> beginExit { from_ := st, wake := { source := 4 }, cause := 0, dsc := r.dsc }
  else if reaching then beginExit { from_ := st, wake := { source := 0 }, cause := 0, dsc := r.dsc } s
  else if st = .deep ∧ r.target = .off then
    resultBegin Reg.PWR_RESULT [Reg.PWR_RESULT_DATA] s |> enterState { req := r, from_ := st }
  else if st = .deep ∨ (st = .sleep ∧ r.target = .idle) then
    beginExit { from_ := st, wake := { source := 0 }, cause := 0, then_ := some r } s
  else beginEntry r s

/-- The waiting request starts once no transition runs. -/
def serveSlot (s : State) : State :=
  match s.power.slot with
  | some r => if transitionRuns s then s else startRequest r (setPower { s.power with slot := none } s)
  | none => serveOps 5 s

/-- The waiting request is replaced (R520); for the BMC's, SUPERSEDED stands in PWR_RESULT_DATA until the transition that runs
ends (log entry 151). -/
def supersede (r : PwrReq) (s : State) : State :=
  let s := setFlag Flag.PWR_superseded s
  let s := if r.who = .bmc then wrF Reg.PWR_RESULT_DATA (16, 16) 3 s else s
  match r.dsc.bind (fun w => dscOf s w.1 w.2.1 w.2.2) with
  | some d => complete d .superseded 0 0 s
  | none => s

/-- A request arrives. -/
def requestPower (r : PwrReq) (s : State) : State :=
  if !transitionRuns s then startRequest r s
  else
    match s.power.slot with
    | none => setPower { s.power with slot := some r } s
    | some old =>
      if r.who = .mgmt ∧ old.who ≠ .mgmt then s
      else supersede old (setPower { s.power with slot := some r } s)

/-- Every unit has agreed: for IDLE with the raster running the state waits for the next scan frame start. -/
def entryComplete (s : State) : Bool :=
  match s.power.entry with
  | some e => (nextUnit s e).isNone
  | none => false

/-- The state of an entry that is complete is reached, and the slot is served. -/
def finishEntry (s : State) : State :=
  match s.power.entry with
  | some e => enterState e s |> serveSlot
  | none => s

/-! ### Aborted entries (R518) -/

/-- Headwater bring-up from step 3 of R226: every lane that was ACTIVE, and once a first training has run (R186) every enabled
lane, trains if it is OFF. -/
def bringUpHeadwater (s : State) : State :=
  (List.range 32).foldl (fun s n =>
    if (s.lanes.begun || (laneOf s 0 n).wasActive) && laneEnabled s 0 n && laneIs s 0 n Lane.off then startTraining 0 n 2 s
    else s) s

/-- The Sluice lanes that were ACTIVE train again (R201): in the sequence of R266 when the raster comes back, else at once. -/
def bringUpSluice (s : State) : State :=
  (List.range 128).foldl (fun s n =>
    if (laneOf s 1 n).wasActive && laneIs s 1 n Lane.off then startTraining 1 n 2 s else s) s

/-- After a wake, silence detection runs again from the instant all_active becomes 1, unless the source was sleeping (R232). -/
def resumeSilence (s : State) : State :=
  let sleeping := rdB s Reg.HWL_STAT Fld.HWL_STAT_sleeping
  wrF Reg.HWL_STAT Fld.HWL_STAT_missing 0 { s with hwl := { s.hwl with awaitActive := !sleeping, missed := 0 } }
    |> followActive

/-- A command that something beside the mount and the log waits for: it stays, and ends by its time-out, when the controller is
enabled anew (log entry 78). -/
def NvUse.serves : NvUse → Bool
  | .hostRead _ _ _ | .hostWrite _ _ _ | .dealloc _ _ _ | .dir _ _ _ _ | .load _ _ _ | .logRead _ _ _ _ _ | .codec _ _ _ _
  | .holdTable _ | .holdItem _ | .manifest | .bootImage _ => true
  | .mountRead | .format _ | .logMerge _ | .logWrite _ | .logHead | .logFlush | .holdRepair _ _ _ | .record | .smart | .errorLog
  | .event | .admin | .shutFlush => false

/-- The store is mounted again by the steps of R427. -/
def remount (s : State) : State :=
  setStore { s.store with mounted := false, controller := false, shutting := false, shn := false,
                          nvme := s.store.nvme.filter (fun c => c.use.serves) } s
    |> wrF Reg.STP_STAT Fld.STP_STAT_mounted 0

/-- A unit that has agreed accepts work again. -/
def restartUnit (s : State) (u : Nat) : State :=
  if u = 0x70 then if s.power.rasterOn then beginEnable none s else bringUpSluice s
  else if u = 0x20 then bringUpHeadwater s |> resumeSilence
  else if u = 0x50 then wrF Reg.RSV_STAT Fld.RSV_STAT_self_refresh 0 s |> wrF Reg.RSV_STAT Fld.RSV_STAT_scrubbing 1
  else s

/-- Register and field of a unit's refusals, and of a target's aborted entries. -/
def refuseCount (u : Nat) : Nat × Nat :=
  match u with
  | 0x01 => (Reg.PWR_REFUSE0, 0) | 0x02 => (Reg.PWR_REFUSE0, 8) | 0x80 => (Reg.PWR_REFUSE0, 16)
  | 0x14 => (Reg.PWR_REFUSE0, 24) | 0x30 => (Reg.PWR_REFUSE1, 0) | _ => (Reg.PWR_REFUSE1, 8)

/-- A unit refuses: the others are restarted in reverse order, and the request completes with REFUSED. -/
def abortEntry (e : Entry) (u : Nat) (s : State) : State :=
  let s := setPower { s.power with entry := none } s
  let s := if u = 0x14 then remount s else s
  let s := e.agreed.foldl restartUnit s
  let c := refuseCount u
  let route := match e.req.who with
    | .port p => Route.port p
    | _ => Route.device
  let s := s |> setFlag Flag.PWR_refused |> bumpSat c.1 (c.2, 8) 1
    |> bumpSat Reg.PWR_ABORTS (8 * (e.req.target.code - 1), 8) 1
    |> postEvent route 0x0AF0 0xA0 1 (dataAt 24 u ||| dataAt 25 e.req.target.code)
    |> endRequest e.req.dsc .refused (resAt 16 u)
    |> endTransition e.req.target.code e.from_.code u 4 false
  serveQueue (s.raster.queue.length + 1) s |> serveSlot

/-! ### Exits (R526 to R529) -/

/-- Requester byte of the exit's POWER_STATE: the port that asked or whose link woke the device. -/
def exitRequester (x : Exit) : Nat :=
  if x.wake.source = 3 then x.wake.port
  else if x.cause ≠ 0 then 0xFF
  else match x.then_, x.dsc with
    | some r, _ => r.who.code
    | none, some w => if w.1 < 4 then w.1 else 0xFF
    | none, none => 0xFF

/-- After SLEEP or DEEP (R529): the Reservoir, Headwater, the raster and the store come back. The raster is enabled again whatever
panel_blocked reads: R529 and R80 disagree there (the model's choice, log entry 154). -/
def resume (s : State) : State :=
  let s := wrF Reg.RSV_STAT Fld.RSV_STAT_self_refresh 0 s |> wrF Reg.RSV_STAT Fld.RSV_STAT_scrubbing 1
    |> bringUpHeadwater |> resumeSilence
  let s := { s with boot := { s.boot with perstN := some false }, pipe := { s.pipe with histAge := 0 } }
  if s.power.rasterOn then beginEnable none s else bringUpSluice s |> serveQueue (s.raster.queue.length + 1)

/-- The exit ends in RUN; the clusters scrub their private memories (R374). -/
def finishExit (x : Exit) (s : State) : State :=
  let old := x.from_
  let s := setPower { s.power with exit := none, state := .run, static := 0 } s
  let s := scrubPrivate (if old = .idle then s else resume s)
  let s := s |> postState old .run x.cause (exitRequester x)
    |> endRequest x.dsc .ok (reachedRes .run false) |> endTransition 0 0 0 0 (decide (x.cause = 6))
  match x.then_ with
  | some r => startRequest r s
  | none => serveSlot s

end Sys2Proof.Machine
end

