-- ==== Sys2Proof/Machine/SOps.lean ====
section
/-! DEFINITION. S opcodes (R144 to R147): their arrival at a unit, the conditions and checks at a scan frame start, and
the effect of each (R151, R159, R161, R163, R175, R423). -/

namespace Sys2Proof.Machine

/-! ### Hold playback (R423) -/

/-- Playback of a resident item starts with frame 0. -/
def startPlay (p : Playback) (s : State) : State :=
  setHold { s.hold with play := some p } s |> postEvent .device 0x05F0 0x20 0 (dataAt 24 p.item)

/-- Frames of an item, and the scan frames each is shown for. -/
def itemSize (s : State) (item : Nat) : Nat × Nat :=
  match tabGet (fun _ => none) s.hold.items item with
  | some h => (h.frames.length, h.rep)
  | none => (0, 1)

/-- In mode 0 the last frame is first shown: HOLD_ENDED. -/
def noteLast (s : State) : State :=
  match s.hold.play with
  | some p =>
    if p.loop || p.ended || decide (p.frame + 1 < (itemSize s p.item).1) then s
    else setHold { s.hold with play := some { p with ended := true } } s |> postEvent .device 0x05F1 0x20 0 (dataAt 24 p.item)
  | none => s

/-- One more scan frame of playback: the frame stays for its repeats, then the next one follows. -/
def stepPlay (p : Playback) (n rep : Nat) : Playback :=
  if p.shown < rep then { p with shown := p.shown + 1 }
  else if p.frame + 1 < n then { p with frame := p.frame + 1, shown := 1, prev := some p.frame }
  else if p.loop then { p with frame := 0, shown := 1, prev := some p.frame }
  else { p with shown := p.shown }

/-! ### Conditions and checks -/

/-- What an S opcode sets: two that set the same state at one scan frame start are of one key (R147). -/
def Dsc.sKey (d : Dsc) : Nat × Nat :=
  match d.opcode with
  | 0x0303 => (3, d.u32 16)
  | 0x0402 => (4, 8 * d.u8 17 + d.u8 16)
  | 0x0502 | 0x0503 => (5, 0)
  | n => (n, 0)

/-- Every input that the opcode names is ready: no table load runs that could still stage its table (R146). -/
def inputReady (s : State) (d : Dsc) : Bool :=
  decide (d.opcode ≠ 0x0303) || (stagedTable s (d.u32 16)).isSome ||
    !s.tables.loads.any (fun l => decide (l.opcode = 0x0301))

/-- The status with which its checks fail, and result bytes; none when they pass. -/
def sFailure (s : State) (d : Dsc) : Option (Status × BitVec 96) :=
  match d.opcode with
  | 0x0102 => if timelineOk s (d.u8 16) (d.u16 18) then none else some (.refused, resAt 16 0x70)
  | 0x0303 => if activationOk s (d.u32 16) then none else some (.refused, resAt 16 0x31)
  | 0x0402 => if bindOk s (d.u8 16) (d.u8 17) (d.u16 18) (d.u32 20) then none else some (.refused, resAt 16 0x31)
  | 0x0502 => if itemResident s (d.u32 16) && rasterOn s then none else some (.notReady, 0)
  | 0x0C02 => if offsetTooLarge s (signed 32 (d.u32 16)) then some (.refused, resAt 16 0x70) else none
  | _ => none

/-- The opcode reports SUPERSEDED (R147). -/
def reportsSuperseded (op : Nat) : Bool := [0x0303, 0x0402, 0x0502].contains op

/-! ### Effects -/

/-- A KERNEL_BIND leaves without effect: its parameter block goes. -/
def dropBind (d : Dsc) (s : State) : State :=
  if d.opcode = 0x0402 then dropLoad (d.port, d.sq, d.seq) s |> freeTag .tables (bindTag d.order) else s

/-- KERNEL_BIND takes effect: the parameter block given, or the kernel's own. -/
def effectBind (d : Dsc) (s : State) : State :=
  let stage := d.u8 16
  let cell := d.u8 17
  let h := d.u16 18
  let param := bindParam s d
  let s := dropLoad (d.port, d.sq, d.seq) s |> freeTag .tables (paramTag cell stage)
    |> retag .tables (bindTag d.order) (paramTag cell stage)
  bindKernel cell stage h param s

/-- HOLD_PLAY takes effect. -/
def effectPlay (d : Dsc) (s : State) : State :=
  wrF Reg.HWL_STAT Fld.HWL_STAT_holding 0 s
    |> startPlay { item := d.u32 16, loop := decide (d.u8 20 = 1), x := d.u16 22, y := d.u16 24 } |> noteLast

/-- HOLD_STOP takes effect. -/
def effectStop (s : State) : State := setHold { s.hold with play := none } s |> wrF Reg.HWL_STAT Fld.HWL_STAT_holding 0

/-- What an S opcode does, and its result bytes. -/
def sEffect (d : Dsc) (s : State) : BitVec 96 × State :=
  match d.opcode with
  | 0x0102 => (0, setTimeline (d.u8 16) (d.u8 17) (d.u16 18) s)
  | 0x0303 => (0, activateS (d.u32 16) s)
  | 0x0402 => (resAt 16 (bindOf s (d.u8 17) (d.u8 16)).handle, effectBind d s)
  | 0x0502 => (0, effectPlay d s)
  | 0x0503 => (0, effectStop s)
  | 0x0C01 => (0, effectTimeLock d s)
  | 0x0C02 => (0, setPhaseOffset (BitVec.ofNat 32 (d.u32 16)) s)
  | _ => (0, s)

/-- The opcode takes effect in scan frame k, or completes with the status of the check that fails. -/
def applyS (k : Nat) (d : Dsc) (s : State) : State :=
  match sFailure s d with
  | some f => dropBind d s |> complete d f.1 0 f.2
  | none =>
    let e := sEffect d s
    complete d (if d.target ≠ 0 ∧ d.target < k then .late else .ok) k e.1 e.2

/-- The opcode is replaced at the same scan frame start: it reports SUPERSEDED if it is listed for that, and otherwise OK, late
or not (R147). -/
def supersedeS (k : Nat) (d : Dsc) (s : State) : State :=
  let s := dropBind d s
  if reportsSuperseded d.opcode then complete d .superseded 0 0 s
  else complete d .ok k 0 s

/-! ### Scan frame starts -/

def insertByOrder (d : Dsc) : List Dsc → List Dsc
  | [] => [d]
  | e :: es => if d.order < e.order then d :: e :: es else e :: insertByOrder d es

/-- S opcodes that wait, in the order in which they reached their units. -/
def waitingS (s : State) : List Dsc :=
  (s.host.inflight.filter (fun d => decide (d.phase = .waiting))).foldl (fun l d => insertByOrder d l) []

/-- A later opcode of a key stands: its checks pass when its turn comes, after those before it have taken effect. -/
def laterStands (key : Nat × Nat) : List Dsc → State → Bool
  | [], _ => false
  | e :: es, s =>
    match sFailure s e with
    | some _ => laterStands key es s
    | none => decide (e.sKey = key) || laterStands key es (sEffect e s).2

/-- Take those that are due, oldest first: each must pass its own checks, and a later one of the same key that takes effect
supersedes it (R147). -/
def applyDue (k : Nat) : List Dsc → State → State
  | [], s => s
  | d :: ds, s =>
    applyDue k ds (if (sFailure s d).isNone && laterStands d.sKey ds s then supersedeS k d s else applyS k d s)

/-- The conditions of R146 hold for scan frame k. Its field at_ is 1 while the next scan frame starts too soon. -/
def dueAt (s : State) (k : Nat) (d : Dsc) : Bool := decide ((d.target = 0 ∨ d.target ≤ k) ∧ d.at_ = 0) && inputReady s d

/-- Scan frame k starts: the S opcodes that are due take effect. -/
def frameOpcodes (k : Nat) (s : State) : State :=
  let due := (waitingS s).filter (dueAt s k)
  let soon := (waitingS s).filter (fun d => decide (d.at_ ≠ 0))
  soon.foldl (fun s d => setDsc { d with at_ := 0 } s) (applyDue k due s)

/-- A direct request for a timeline mode takes effect, if its checks still pass (R257, R356). -/
def takeRequest (s : State) : State :=
  match s.raster.request with
  | some b =>
    let s := setRaster { s.raster with request := none } s
    if timelineOk s (b2n b) (lagNow s) then
      setTimeline (b2n b) (rdF s Reg.RAST_CTRL Fld.RAST_CTRL_auto_return) (lagNow s) s
    else wrF Reg.RAST_CTRL Fld.RAST_CTRL_timeline (b2n (lockedThrough s)) s |> setFlag Flag.RAST_cfg_err
  | none => s

/-- While the raster is disabled they take effect as soon as their inputs are ready. -/
def idleOpcodes (s : State) : State :=
  if rasterOn s then s
  else
    let s := takeRequest s
    (waitingS s).foldl (fun s d => if inputReady s d then applyS (sfn s) d s else s) s

/-! ### Arrival -/

/-- An S opcode reaches its unit: an IDLE trigger (R515). One that arrives in the last line of a scan frame comes less
than a line before the next. -/
def reachUnit (d : Dsc) (s : State) : State :=
  let r := nextOrder s
  let soon := scanning s && decide (linesNow s ≤ s.raster.line)
  setDsc { d with phase := .waiting, order := r.1, at_ := b2n soon } r.2 |> idleTrigger |> idleOpcodes

/-- SET_TIMELINE (R151). -/
def execSetTimeline (port sq seq : Nat) (s : State) : Host.Outcome State Fault Refusal :=
  withReady port sq seq 0x0102 reachUnit s

/-- TABLE_ACTIVATE_S (R159). -/
def execTableActivateS (port sq seq : Nat) (s : State) : Host.Outcome State Fault Refusal :=
  withReady port sq seq 0x0303 reachUnit s

/-- HOLD_PLAY (R163): an item that is not resident, or a disabled raster, fails at once. -/
def execHoldPlay (port sq seq : Nat) (s : State) : Host.Outcome State Fault Refusal :=
  withReady port sq seq 0x0502 (fun d s =>
    if itemResident s (d.u32 16) && rasterOn s then reachUnit d s else complete d .notReady 0 0 s) s

/-- HOLD_STOP (R163). -/
def execHoldStop (port sq seq : Nat) (s : State) : Host.Outcome State Fault Refusal :=
  withReady port sq seq 0x0503 reachUnit s

/-- TIME_LOCK (R175). -/
def execTimeLock (port sq seq : Nat) (s : State) : Host.Outcome State Fault Refusal :=
  withReady port sq seq 0x0C01 reachUnit s

/-- TIME_PHASE (R175). -/
def execTimePhase (port sq seq : Nat) (s : State) : Host.Outcome State Fault Refusal :=
  withReady port sq seq 0x0C02 reachUnit s

/-- KERNEL_BIND (R161) with the parameter block that the device has read, none after a read error: the block takes room
in the tables region until the bind takes effect. -/
def execKernelBind (port sq seq : Nat) (param : Option (List Byte)) (s : State) : Host.Outcome State Fault Refusal :=
  withReady port sq seq 0x0402 (fun d s =>
    let n := d.u32 20
    if n = 0 then reachUnit d s
    else match param with
      | none => complete d .fetchFault 0 0 s
      | some bs =>
        match allocTwice (bindTag s.host.nextOrder) n s with
        | none => refuseWith d .resource 0x50 s
        | some s =>
          let l : Load := { port := d.port, sq := d.sq, seq := d.seq, opcode := 0x0402, data := some (bs.take n) }
          monitorAdd port n (setTables { s.tables with loads := s.tables.loads ++ [l] } s) |> reachUnit d) s

end Sys2Proof.Machine
end

