-- ==== Sys2Proof/Machine/Scan.lean ====
section
/-! DEFINITION. The start of a scan frame (R21, R25, R146, R245, R249, R252, R256 to R261, R317, R329, R336, R340, R363,
R364, R375, R418, R423, R514). -/

namespace Sys2Proof.Machine

/-! ### Bad Reservoir lines met by a frame (R418) -/

/-- RSV_UNCORRECTABLE with its counts: outcome 0 substituted, 1 repaired, 2 lost. -/
def tellBad (region outcome line : Nat) (s : State) : State :=
  s |> setFlag Flag.RSV_uncorrectable |> bumpSat Reg.RSV_UNCORRECTED (0, 32) 1
    |> postEvent .device 0x0EF0 0x50 1 (dataAt 24 region ||| dataAt 25 outcome ||| dataAt 28 line)

/-- The allocation that holds line l of a region, and the line's place in it. -/
def allocAt (s : State) (r : RsvRegion) (l : Nat) : Option (Alloc × Nat) :=
  (s.rsv.allocs.find? (fun a => decide (a.region = r ∧ 32768 * a.start ≤ l ∧ l < 32768 * (a.start + a.extents)))).map
    (fun a => (a, l - 32768 * a.start))

/-- Tags of the tables region of which both copies of a line are bad. -/
def lostTags (s : State) : List Nat :=
  let at_ := (s.rsv.badLines.filter (fun b => decide (b.1 = 5))).filterMap (fun (b : Nat × Nat) =>
    (allocAt s .tables b.2).map (fun (e : Alloc × Nat) => (e.1.tag, e.1.start, e.2)))
  ((at_.filter (fun x => at_.any (fun y => decide (x.1 = y.1 ∧ x.2.1 ≠ y.2.1 ∧ x.2.2 = y.2.2)))).map (·.1)).eraseDups

/-- What a tag's loss costs: a table has no active version, a staged one is gone, a kernel or a parameter block takes the
stages bound to it back to the reference kernel. -/
def loseTag (s : State) (tag : Nat) : State :=
  let back := fun (s : State) (e : Nat × Nat) =>
    let h := (bindOf s e.1 e.2).handle
    if h = 0 then s
    else bindReference s e
      |> postEvent .device 0x04F7 0x40 2 (dataAt 24 e.2 ||| dataAt 25 e.1 ||| dataAt 28 h)
  let slots := (List.range 8).flatMap (fun n => [(0, n), (1, n)])
  if tag < 2 ^ 32 then loseTable tag s |> followDefects |> recordMissing
  else if tag < 2 ^ 33 then dropStaged (tag - 2 ^ 32) s
  else if tag < 2 ^ 34 then
    (slots.filter (fun (e : Nat × Nat) => decide ((bindOf s e.1 e.2).handle = tag - 2 ^ 33))).foldl back s
  else (slots.filter (fun (e : Nat × Nat) => decide (paramTag e.1 e.2 = tag))).foldl back s

/-- Tables and kernels whose both copies are bad are lost from this scan frame on. -/
def loseTables (s : State) : State :=
  let tags := lostTags s
  let lines := s.rsv.badLines.filter (fun (b : Nat × Nat) => decide (b.1 = 5) &&
    (allocAt s .tables b.2).any (fun e => tags.contains e.1.tag))
  let s := lines.foldl (fun s (b : Nat × Nat) => tellBad 5 2 b.2 s) s
  tags.foldl loseTag { s with rsv := { s.rsv with badLines := s.rsv.badLines.filter (fun b => !lines.contains b) } }

/-- LBA and count of what is read again for line rel of an item's copy in frame f: the 4 KiB blocks that hold its bytes, or
the stream of a Meander frame, which can only be decoded from its start. -/
def repairAt (h : HoldItem) (f rel : Nat) : Nat × Nat :=
  let r := h.repairBytes f rel
  if h.coded then (h.lbas.getD f 0, (h.stored.getD f 0 + 4095) / 4096)
  else (h.lbas.getD f 0 + r.1 / 4096, (r.2 - 1) / 4096 + 1 - r.1 / 4096)

/-- The frame that scans reads a bad line: it is told, and recovers as its region does. A hold line is read again from
the store, a table line is rewritten from its other copy, a history line is written anew by the tile. -/
def readBad (s : State) (b : Nat × Nat) : State :=
  let forget := fun (s : State) => { s with rsv := { s.rsv with badLines := s.rsv.badLines.filter (fun e => e != b) } }
  match b.1 with
  | 0 =>
    let slot := b.2 / slotLines
    let shown : Bool := match s.raster.shown with
      | .composed n => s.comp.ring.any (fun c => decide (c.cfn = n ∧ c.slot = slot)) ||
          s.comp.cur.any (fun c => decide (c.cfn = n ∧ c.slot = slot))
      | .idle => decide (s.pipe.idleSlot = slot)
      | _ => false
    if shown then tellBad 0 0 b.2 s else s
  | 1 => tellBad 1 0 b.2 s |> forget
  | 2 =>
    match allocAt s .demura b.2 with
    | some e => if demuraOn s.pipe.ctrl (bitsAt e.1.tag 20 4) ∧ e.1.tag < 2 ^ 32 then tellBad 2 0 b.2 s else s
    | none => s
  | 3 =>
    match allocAt s .layer b.2 with
    | some e => if e.1.tag % 2 = 0 ∧ e.1.tag < 64 ∧ (viewNow s).enabled (e.1.tag / 2) = true then tellBad 3 0 b.2 s else s
    | none => s
  | 4 =>
    match allocAt s .hold b.2, s.raster.shown with
    | some e, .hold item f =>
      let it := tabGet (fun _ => none) s.hold.items item
      let size := match it with
        | some h => 6 * h.width * h.height
        | none => 0
      if e.1.tag = item ∧ size * f < 64 * e.2 + 64 ∧ 64 * e.2 < size * (f + 1) then
        let s := tellBad 4 0 b.2 s
        if s.store.mounted && !s.store.nvme.any (fun c => decide (c.use = .holdRepair item b.2 f)) then
          match it with
          | some h => nvRead 1 (repairAt h f e.2).1 (repairAt h f e.2).2 (.holdRepair item b.2 f) s
          | none => s
        else s
      else s
    | _, _ => s
  | _ => if (allocAt s .tables b.2).isSome then tellBad 5 1 b.2 s |> forget else forget s

/-- The bad lines that the frame reads. -/
def readBadLines (s : State) : State := s.rsv.badLines.foldl readBad s

/-! ### End of the frame before -/

/-- Tagged tiles that the frame left without an issue time are written (R504). -/
def flushTags (s : State) : State :=
  let ts := s.pipe.tagged
  ts.foldl (fun s e => writeTag e.2 s) (setPipe { s.pipe with tagged := [] } s)

/-- ENG_SLACK of a role (R375, R378): the smallest over its quadrants, at its largest value when no job ran. -/
def roleSlack (s : State) (role : Nat) : Nat :=
  ([0, 1, 2, 3].filter (fun q => decide (roleOf s q = role))).foldl (fun m q =>
    match tabGet (fun _ => 0) s.pipe.slack q with
    | 0 => m
    | n + 1 => min m n) 4095

/-- The governor's step of a quadrant (R375): the point it asks for, its cause, and the count of calm frames. -/
def governor (s : State) (q : Nat) : Nat × Nat × Nat :=
  let r := Reg.PWR_LIMITd q
  let lo := rdF s r Fld.PWR_LIMITd_min_op
  let hi := quadCap s q
  let op := opOf s q
  let slack := tabGet (fun _ => 0) s.pipe.slack q
  let calm := tabGet (fun _ => 0) s.pipe.calm q
  let high := decide (slack = 0 ∨ rdF s Reg.ENG_GOV Fld.ENG_GOV_slack_high < slack)
  let calm := if high then calm + 1 else 0
  if !rdB s Reg.ENG_CTRL Fld.ENG_CTRL_gov_en then (hi, 3, 0)
  else
    let step : Nat × Nat × Nat :=
      if s.pipe.slackFell.contains q then (hi, 2, 0)
      else if slack ≠ 0 ∧ slack ≤ rdF s Reg.ENG_GOV Fld.ENG_GOV_slack_low then (op + 1, 0, 0)
      else if max 1 (rdF s Reg.ENG_GOV Fld.ENG_GOV_down_frames) ≤ calm then (op - 1, 1, 0)
      else (op, 3, calm)
    let n := min (max step.1 lo) hi
    (n, if n = step.1 then step.2.1 else 3, step.2.2)

/-- The governor runs for every quadrant unless an entry has stopped it. -/
def runGovernor (s : State) : State :=
  if s.power.entry.isSome ∨ compClocked s = false then s
  else [0, 1, 2, 3].foldl (fun s q =>
    let g := governor s q
    let s := setPipe { s.pipe with calm := tabSet (fun _ => 0) s.pipe.calm q g.2.2 } s
    if g.1 = opOf s q then s else wantOp q g.1 g.2.1 s) s

/-- The scan frame that runs ends. An irregular one has broken the distance of locked-through mode, at the latest now: the
device leaves it with no line of the frame still to scan (R24, R251). -/
def endScanFrame (s : State) : State :=
  let n := sfn s
  let s := tellFallen s |> flushTags
  let s := if s.power.state = .idle then idleDrives n s else computeDrives n s
  let s := if s.raster.irregular && lockedThrough s then leaveLocked (rdF s Reg.RAST_LAG_STAT Fld.RAST_LAG_STAT_d) s else s
  let s := wrF Reg.ENG_SLACK Fld.ENG_SLACK_front (roleSlack s 0) s |> wrF Reg.ENG_SLACK Fld.ENG_SLACK_rear (roleSlack s 1)
  runGovernor s

/-! ### Crash (R249) -/

/-- A pending crash is made in the frame that starts; a TIME_LOCK that takes effect at this start has cancelled it (R251). -/
def makeCrash (s : State) : State :=
  match s.raster.lock.crash with
  | none => setRaster { s.raster with irregular := false } s
  | some e =>
    let len := (crashLength s e).toNat
    let ticks := len / 65536
    setRaster { s.raster with irregular := true, irregularLen := len, lock := { s.raster.lock with crash := none } } s
      |> setFlag Flag.RAST_crash
      |> postEvent .device 0x0CF3 0x70 1 (dataAt 24 (ticks % 2 ^ 32) ||| dataAt 28 (pat32 e))

/-! ### Timeline modes (R256 to R258) -/

/-- A pending change to buffered mode, a request, or the automatic return is made. A request is made after the change that silence
asked for, and so wins (the model's choice, log entry 148). -/
def frameMode (s : State) : State :=
  let d := rdF s Reg.RAST_LAG_STAT Fld.RAST_LAG_STAT_d
  let s := setRaster { s.raster with distances := (d :: s.raster.distances).take 64, leftAt := none } s
  let s := match s.raster.toBuffered with
    | some cause => changeMode 0 cause (setRaster { s.raster with toBuffered := none, left := true, good := 0 } s)
    | none => s
  let s := takeRequest s
  let holds := s.raster.left && rdB s Reg.RAST_CTRL Fld.RAST_CTRL_auto_return && lockable s (lagNow s)
  let good := if holds then s.raster.good + 1 else 0
  if 64 ≤ good ∧ windowsOpen s (lagNow s) (rearLead s) (filterNow s) = true then
    changeMode 1 3 (setRaster { s.raster with good := 0, left := false } s)
  else setRaster { s.raster with good := good } s

/-! ### Selection (R25, R234, R423) -/

/-- Hold playback in this scan frame: the policy's starts when it is due and ends when the source's frame is there. -/
def framePlay (fresh : Bool) (s : State) : State :=
  let head := ((s.comp.ring.head?).map (·.cfn)).getD 0
  let over_ := match s.hwl.endHoldAt, s.hold.play with
    | some c, some p => p.policy && decide (c ≤ head)
    | _, _ => false
  if s.hold.due then
    let item := policyItem s
    let s := setHold { s.hold with due := false } s
    if itemResident s item then
      wrF Reg.HWL_STAT Fld.HWL_STAT_holding 1 s |> startPlay { item := item, loop := true, x := 0, y := 0, policy := true } |> noteLast
    else s
  else if over_ then
    let item := (s.hold.play.map (·.item)).getD 0
    { setHold { s.hold with play := none } s with hwl := { s.hwl with endHoldAt := none } }
      |> wrF Reg.HWL_STAT Fld.HWL_STAT_holding 0 |> postEvent .device 0x05F1 0x20 0 (dataAt 24 item)
  else match s.hold.play with
    | some p =>
      if fresh then s
      else
        let z := itemSize s p.item
        noteLast (setHold { s.hold with play := some (stepPlay p z.1 z.2) } s)
    | none => s

/-- What the scan frame reads. -/
def selectFrame (s : State) : Shown :=
  let newest : Shown := match s.comp.ring with
    | c :: _ => .composed c.cfn
    | [] => .nothing
  match s.power.state, s.hold.play, s.comp.cur with
  | .idle, _, _ => .idle
  | _, some p, _ => .hold p.item p.frame
  | _, none, some c => if lockedThrough s then .composed c.cfn else newest
  | _, none, none => newest

/-- The drive frame of IDLE stays until a newer composed frame is there (R528). -/
def keepIdle (s : State) (old new : Shown) : Shown :=
  match new with
  | .composed n => if old = .idle ∧ n ≤ s.raster.newest ∧ s.hold.play.isNone then .idle else new
  | _ => new

/-- The picture behind a selection: that of the stored drive frame is the one it was computed from. -/
def pictureOf (s : State) (w : Shown) : Shown := if w = .idle then idleShows s else w

/-- CFN shown; 0 during hold playback. -/
def shownCfn : Shown → Nat
  | .composed n => n
  | _ => 0

/-- Lines of the frame shown are patched. -/
def shownPatched (s : State) (w : Shown) : Bool :=
  match w with
  | .composed n => s.comp.ring.any (fun c => decide (c.cfn = n) && c.patched) ||
      (match s.comp.cur with
       | some c => decide (c.cfn = n ∧ c.copied ≠ [])
       | none => false)
  | _ => false

/-- Flags of the scan history entry (R261). -/
def histFlags (s : State) (isNew : Bool) (dropped : Nat) (w : Shown) : Nat :=
  let hold := match w with
    | .hold _ _ => true
    | _ => false
  b2n isNew + 2 * b2n (!isNew) + 4 * min 255 dropped + 1024 * b2n hold + 2048 * b2n (lockedThrough s) +
    4096 * b2n s.raster.irregular + 8192 * b2n (shownPatched s w)

/-- The scan history entry of this frame is written; its phase error when it was compared before it started. -/
def writeHistory (flags cfn : Nat) (s : State) : State :=
  let n := sfn s
  let k := 8 * (n % 16)
  let e := ((s.raster.lock.ahead.find? (fun x => decide (x.1 = n))).map (·.2)).getD 0
  let words := [n % 2 ^ 32, n / 2 ^ 32 % 2 ^ 32, cfn % 2 ^ 32, cfn / 2 ^ 32 % 2 ^ 32, flags, pattern 32 e, 0, 0]
  let s := setLock { s.raster.lock with ahead := s.raster.lock.ahead.filter (fun x => decide (n < x.1)) } s
  (words.zipIdx).foldl (fun s (e : Nat × Nat) => wr (Reg.RAST_HIST (k + e.2)) (BitVec.ofNat 32 e.1) s) s

/-! ### Panel temperature, overdrive and light (R252, R340) -/

/-- A cell's overdrive selection is shown, and OD_RANGE told once per entry into the condition. -/
def frameOd (t : Int) (s : State) (cell : Nat) : State :=
  let sets := odTemps s false cell
  let k := if cell = 0 then Reg.PIPE_OD_STAT_F else Reg.PIPE_OD_STAT_R
  let mask := sets.foldl (fun m (e : Nat × Int) => m + 2 ^ e.1) 0
  let pick := (odSelect sets t).getD (0, 0, 0)
  let bypass := decide (sets = []) || !odOn s.pipe.ctrl cell || decide (s.power.state = .idle)
  let s := wr k (BitVec.ofNat 32 (pick.1 + 8 * pick.2.1 + 256 * pick.2.2 + 65536 * mask + 2 ^ 24 * b2n bypass)) s
  let out := decide (1 < sets.length) &&
    (sets.all (fun (e : Nat × Int) => decide (t < e.2)) || sets.all (fun (e : Nat × Int) => decide (e.2 < t)))
  let told := s.pipe.odTold.contains cell
  let s := setPipe { s.pipe with odTold := if out then (if told then s.pipe.odTold else cell :: s.pipe.odTold)
                                           else s.pipe.odTold.filter (· != cell) } s
  if out && !told then
    setFlag Flag.PIPE_od_range s |> postEvent .device 0x03F3 0x31 1 (dataAt 24 cell ||| dataAt 28 (pattern 16 t))
  else s

/-- Response centroid of a cell by its overdrive sets, in ns. -/
def respTarget (s : State) (t : Int) (cell : Nat) : Nat :=
  match odSelect (odTemps s false cell) t with
  | none => 0
  | some (a, b, w) =>
    let ra : Int := odResp ((activeTable s (odId cell a)).getD [])
    let rb : Int := odResp ((activeTable s (odId cell b)).getD [])
    (1000 * (ra + roundShift ((rb - ra) * w) 8)).toNat

/-- The model moves a response centroid by at most 1 µs per second; the first frame sets it. -/
def moveResp (s : State) (old target : Nat) : Nat :=
  if s.raster.first then target
  else
    let step := (nsOf (frame65 s)).toNat / 1000000
    if old ≤ target then min target (old + step) else max target (old - step)

/-- Start of the line that drives row y of a cell, and when it has settled, in ns from the scan frame start. -/
def driveNs (s : State) (cell y : Nat) : Int :=
  nsOf (line65 s * ((y : Int) - (if cell = 1 then rearLead s else 0)))

def settleNs (s : State) (y : Nat) : Int :=
  (cellsNow s).foldl (fun m c => max m (driveNs s c y + (if c = 1 then s.raster.respRear else s.raster.respFront : Nat)))
    (driveNs s 0 y + s.raster.respFront)

/-- Light centroid of row height / 2 (R252). -/
def photonNs (s : State) : Int :=
  let h := panelH s
  let yc := h / 2
  if !rdB s Reg.RAST_FLASH_CTRL Fld.RAST_FLASH_CTRL_mode then
    (settleNs s yc + driveNs s 0 yc + nsOf (frame65 s)) / 2
  else
    let z := ((List.range 36).filter (fun z => decide (z * h / 36 ≤ yc))).length - 1
    settleNs s ((z + 1) * h / 36 - 1) + 1000 * (rdF s Reg.RAST_FLASH Fld.RAST_FLASH_flash_delay : Int) +
      500 * (rdF s Reg.RAST_FLASH Fld.RAST_FLASH_flash_width : Int)

/-- T, the selections, the response model and the two timestamps of this frame. -/
def frameLight (s : State) : State :=
  let t := panelTemp s
  let s := wrF Reg.PIPE_TEMP_STAT Fld.PIPE_TEMP_STAT_temp (pattern 16 t) s
    |> wrF Reg.PIPE_TEMP_STAT Fld.PIPE_TEMP_STAT_measured (b2n (s.pipe.temp.isSome && !s.pipe.tempLost))
  let s := [0, 1].foldl (frameOd t) s
  let front := moveResp s s.raster.respFront (respTarget s t 0)
  let rear := moveResp s s.raster.respRear (respTarget s t 1)
  let s := setRaster { s.raster with respFront := front, respRear := rear } s
    |> wr Reg.RAST_RESP (BitVec.ofNat 32 (min 65535 (front / 1000) + 65536 * min 65535 (rear / 1000)))
  let ph := photonNs s
  let flip := now s
  let st : FrameStamp := { sfn := sfn s, flip := flip, photon := flip.plus ph.toNat }
  tick (setRaster { s.raster with photon := ph, stamps := (st :: s.raster.stamps).take 16 } s)

/-! ### Tables and kernels of the frame -/

/-- A stage of the panel's cells that is on lacks its table (R329); concealment never lacks its list (R330). -/
def stageLacks (s : State) : Bool :=
  (cellsNow s).any (fun c =>
    (channelsOf c).any (fun ch => (activeTable s (linId c ch)).isNone ||
      (demuraOn s.pipe.ctrl c && (activeTable s (demuraId c ch)).isNone)) ||
    (odOn s.pipe.ctrl c && decide (odSets s c = [])))

/-- Kernels that faulted too often give way to the reference kernels (R363). -/
def replaceKernels (s : State) : State :=
  let rs := s.tables.replace
  rs.foldl bindReference (setTables { s.tables with replace := [] } s)

/-- Unfenced engines of a quadrant. -/
def unfencedOf (s : State) (q : Nat) : Nat := ((List.range 64).filter (fun i => !engineFenced s (64 * q + i))).length

/-- With fewer than 8 unfenced engines in the rear role the firmware moves the front quadrant with the most into it and loads the
role's kernels there (R364); speculative jobs on it are discarded. -/
def moveRoles (s : State) : State :=
  let role := fun r => [0, 1, 2, 3].filter (fun q => decide (roleOf s q = r))
  let rear := ((role 1).map (unfencedOf s)).foldl (· + ·) 0
  if (cellsNow s).contains 1 ∧ rear < 8 ∧ 1 < (role 0).length then
    let best := (role 0).foldl (fun b q => if unfencedOf s b < unfencedOf s q then q else b) ((role 0).headD 0)
    let mask := putBits (rearMask s) best 1 1
    let gone := s.pipe.jobs.filter (fun j => decide (j.engine / 64 = best))
    let s := gone.foldl (fun s j => if j.cell = 2 then dropJob j s else discardJob j s) s |> loadRoles (rearMask s) mask
    { s with array := { s.array with moved := some mask } } |> followWindow
  else s

/-! ### Jobs -/

/-- Jobs that waited for a kernel whose bind takes effect in this frame go on. -/
def resumeJobs (s : State) : State :=
  (s.pipe.jobs.filter (fun j => !j.completed && decide (j.toFetch = 0) && !(engineOf s j.engine).running &&
    !(clusterOf s (j.engine / 8)).queue.any (fun q => q.input && decide (q.engine = j.engine)))).foldl
    (fun s j => advanceJob (chainSteps j.cell).length j s) s

/-- Jobs of frames that are over go; speculative ones whose key no longer holds are discarded (R360). -/
def frameJobs (s : State) : State :=
  let old := s.pipe.jobs.filter (fun j => decide (j.sfn ≠ sfn s ∨ j.cell = 2))
  let s := old.foldl (fun s j => dropJob j s) s
  let s := setPipe { s.pipe with reruns := s.pipe.reruns.filter (fun j => decide (j.sfn = sfn s ∧ j.cell ≠ 2)) } s
  let bad := (s.pipe.jobs ++ s.pipe.reruns).filter (fun j => !keyHolds s j)
  let s := bad.foldl (fun s j => discardJob j s) s |> resumeJobs
  let early := s.pipe.early
  early.foldl (fun s (e : Nat × Nat × Nat × Nat × Nat) => fallTile e.1 e.2.1 e.2.2.1 e.2.2.2.1 e.2.2.2.2 s)
    (setPipe { s.pipe with early := [] } s)

/-- What the pipeline starts the frame with: history, statistics and zone values move on. -/
def framePipe (wasIdle : Bool) (s : State) : State :=
  let p := s.pipe
  let zones := (frameStats s).zoneMax
  let p := if wasIdle then p
    else { p with hist2 := p.hist1, hist1 := p.histNew, histAge := min 3 (p.histAge + 1) }
  let p := { p with drive := [], done := [], fallen := [], discarded := p.discarded.filter (fun e => decide (sfn s ≤ e.sfn)) }
  let p := { p with prevZones := zones, tileStats := [], slack := [] }
  let p := { p with zones := p.nextZones.getD p.zones, dimming := if p.nextZones.isSome then p.nextDimming else p.dimming }
  let p := { p with nextZones := none, slackFell := [], statusSent := [], ctrl := rd s Reg.PIPE_CTRL, ofs := rd s Reg.PIPE_DITHER_OFS }
  let s := { s with slk := { s.slk with ctrl := rd s Reg.SLK_CTRL } }
  let p := { p with zoneLog := ((sfn s, p.zones) :: p.zoneLog).take 64 }
  let s := setPipe { p with lit := decide (s.raster.phase = .running) && !s.raster.first } s |> takeIdleHistory
  wrF Reg.BKL_STAT Fld.BKL_STAT_dimming_on (b2n s.pipe.dimming) s

/-- Nothing that IDLE waits for has happened in this frame (R514). -/
def staticFrame (s : State) (repeated : Bool) : Bool :=
  repeated && rasterOn s &&
    (match s.hold.play with
     | some p => !p.loop && p.ended
     | none => true) &&
    !(List.range 16).any (fun n => (viewNow s).enabled n && decide ((viewNow s).kind n = 2)) &&
    !s.host.groups.any (fun g => decide (g.order ≠ 0)) && !s.host.inflight.any (fun d => decide (d.phase = .waiting))

/-! ### The start -/

/-- Selection, history entry and dropped frames. -/
def frameSelect (old : Shown) (s : State) : State :=
  let new := keepIdle s old (selectFrame s)
  let pic := pictureOf s new
  let isNew := s.raster.first || decide (pic ≠ pictureOf s old)
  let cfn := shownCfn pic
  let head := ((s.comp.ring.head?).map (·.cfn)).getD 0
  let dropped := if s.raster.first || lockedThrough s || decide (cfn = 0) then 0 else cfn - s.raster.newest - 1
  let seen := if cfn = 0 then max head s.raster.newest else max cfn s.raster.newest
  let s := setRaster { s.raster with shown := new, newest := seen } s |> writeHistory (histFlags s isNew dropped pic) cfn
  let n := if staticFrame s (!isNew) then s.power.static + 1 else 0
  setPower { s.power with static := n } s

/-- Scan frame n starts. -/
def startScanFrame (s : State) : State :=
  let old := s.raster.shown
  let wasIdle := decide (s.power.state = .idle)
  let s := { s with sfn := s.sfn + 1 } |> countEvent 0x70 0x11 1
  let s := setRaster { s.raster with line := 0, lastLen := frameLen65 s } s
  let s := if entryComplete s then finishEntry s else s
  let s := loseTables s |> framePipe wasIdle |> replaceKernels |> moveRoles
  let play := s.hold.play
  let s := frameOpcodes (sfn s) s |> makeCrash
  let s := frameMode s |> framePlay (decide (s.hold.play ≠ play)) |> frameSelect old |> readBadLines |> frameLight
  let s := if stageLacks s && decide (s.power.state ≠ .idle) then setFlag Flag.PIPE_table_missing s else s
  let s := frameJobs s
  setRaster { s.raster with first := false } s

/-- The black frame starts (R267). -/
def startBlack (s : State) : State :=
  let s := { s with sfn := s.sfn + 1 } |> countEvent 0x70 0x11 1
  let s := s.pipe.jobs.foldl (fun s j => dropJob j s) s |> framePipe false
  let s := setRaster { s.raster with line := 0, lastLen := frameLen65 s, irregular := false, phase := .black, shown := .black } s
    |> setPower { s.power with static := 0 }
  writeHistory (histFlags s true 0 .black) 0 s |> frameLight |> idleOpcodes

/-- Every line of the frame that runs has started. -/
def frameOver (s : State) : Bool := decide (linesNow s ≤ s.raster.line)

/-- SCAN_FRAME_START (R245). -/
def execScanFrameStart (s : State) : Host.Outcome State Fault Refusal :=
  match s.raster.phase with
  | .training =>
    if sluiceTrains s || decide (s.raster.line < leadIn s) then .next s
    else .next (startScanFrame (setRaster { s.raster with phase := .running } s) |> endSequence)
  | .running => if frameOver s then .next (startScanFrame (endScanFrame s)) else .next s
  | .toBlack => if frameOver s then .next (startBlack (endScanFrame s)) else .next s
  | .black => if frameOver s then .next (endBlack (endScanFrame s) |> idleOpcodes) else .next s
  | _ => .next s

end Sys2Proof.Machine
end

