-- ==== Sys2Proof/Machine/Power.lean ====
section
/-! DEFINITION. Power requests, policies and wakes (R511 to R529), operating points (R530 to R533), PMBus (R534), and the
fatal faults of R541 that do not depend on the boot. -/

namespace Sys2Proof.Machine

/-! ### Requests and policy -/

/-- POWER_REQ (R172, R512): a request for RUN is an IDLE trigger. -/
def execPowerReq (port sq seq : Nat) (s : State) : Host.Outcome State Fault Refusal :=
  withReady port sq seq 0x0A01 (fun d s =>
    let target := PState.ofCode (d.u8 16)
    let s := setRunning d s
    let s := if target = .run then
        if transitionRuns s then idleTrigger s else setPower { s.power with static := 0 } s
      else s
    requestPower { target := target, who := .port d.port, dsc := some (d.port, d.sq, d.seq) } s) s

/-- The device runs far enough to serve a power request of the BMC: boot is not between two stages. -/
def bmcServed (s : State) : Bool :=
  match s.boot.phase with
  | .ready | .hold | .recoveryWait | .stopped => decide (s.power.state ≠ .off)
  | _ => false

/-- POWER_REQ of the BMC (R142, R511): targets other than SLEEP and OFF are ignored. -/
def execBmcPowerReq (target : Nat) (s : State) : Host.Outcome State Fault Refusal :=
  if bmcServed s = true ∧ (target = 2 ∨ target = 4) then
    .next (requestPower { target := PState.ofCode target, who := .bmc } s)
  else .next s

/-- Scan frames of static content before IDLE (R537). -/
def idleFrames (s : State) : Nat := min 1000 (max 1 (rdF s Reg.PWR_POLICY Fld.PWR_POLICY_idle_frames))

/-- MGMT's policy runs: it stops when MGMT agrees to an entry, until the exit ends or the entry aborts (R517, R518, R526). -/
def policyRuns (s : State) : Bool :=
  match s.power.entry with
  | some e => !e.agreed.contains 0x01
  | none => true

/-- IDLE_POLICY (R514). -/
def execIdlePolicy (s : State) : Host.Outcome State Fault Refusal :=
  if ready s && policyRuns s && rdB s Reg.PWR_POLICY Fld.PWR_POLICY_idle_en && decide (s.power.state = .run) &&
      decide (idleFrames s ≤ s.power.static) then
    .next (requestPower { target := .idle, who := .mgmt } (setPower { s.power with static := 0 } s))
  else .next s

/-- SLEEP_POLICY (R516): the source has slept for the delay and no hold playback runs. -/
def execSleepPolicy (s : State) : Host.Outcome State Fault Refusal :=
  if ready s && policyRuns s && rdB s Reg.PWR_POLICY Fld.PWR_POLICY_sleep_en && rdB s Reg.HWL_STAT Fld.HWL_STAT_sleeping &&
      s.hold.play.isNone && decide (s.power.state = .run ∨ s.power.state = .idle) then
    .next (requestPower { target := .sleep, who := .mgmt } s)
  else .next s

/-! ### The handshake -/

/-- An entry that is complete waits for the scan frame start: IDLE with the raster enabled (R517). -/
def waitsForFrame (s : State) (e : Entry) : Bool := decide (e.req.target = .idle) && rasterOn s

/-- The state is reached, unless it waits for a scan frame. -/
def settleEntry (s : State) : State :=
  match s.power.entry with
  | some e => if (nextUnit s e).isNone && !waitsForFrame s e then finishEntry s else s
  | none => s

/-- The unit that is asked answers. -/
def answerEntry (e : Entry) (u : Nat) (s : State) : State :=
  if unitRefuses s e u then abortEntry e u s
  else if !unitStopped s u then s
  else
    let e := { e with agreed := u :: e.agreed }
    quiesce e u (setPower { s.power with entry := some e } s) |> askNext 32 |> settleEntry

/-- UNIT_AGREE (R517). -/
def execUnitAgree (s : State) : Host.Outcome State Fault Refusal :=
  match s.power.entry with
  | some e =>
    match nextUnit s e with
    | some u => .next (answerEntry e u s)
    | none => .next (settleEntry s)
  | none => .next s

/-- STP_SHUTDOWN_TIMEOUT (R428, R517): STP refuses while it is being asked, up to the complete CSTS.SHST that it waits for. -/
def execStpShutdownTimeout (s : State) : Host.Outcome State Fault Refusal :=
  match s.power.entry with
  | some e => if nextUnit s e = some 0x14 ∧ s.store.shutting = true then .next (abortEntry e 0x14 s) else .next s
  | none => .next s

/-! ### Wakes and exits -/

/-- Only VDD_AON is on, and WAKE_N or RESET_N starts the device; the wait of a class 2 fault runs to its end first (R541). -/
def isOff (s : State) : Bool := decide (s.power.state = .off) && !decide (s.boot.phase = .retryWait)

/-- A start by a wake from OFF (R69, R522). -/
def startFromOff (s : State) : State := recordWake { source := 1 } s |> powerStart

/-- WAKE_N (R522). -/
def execWakeN (s : State) : Host.Outcome State Fault Refusal :=
  if isOff s then .next (startFromOff s) else .next (wakeUp { source := 1 } 2 s)

/-- WAKE_FROM_OFF (R69). -/
def execWakeFromOff (s : State) : Host.Outcome State Fault Refusal :=
  if isOff s then .next (startFromOff s) else .next s

/-- WAKE_SENSE (R522, R523): recognised in SLEEP and DEEP while sense_en is 1. -/
def execWakeSense (s : State) : Host.Outcome State Fault Refusal :=
  if (s.power.state = .sleep ∨ s.power.state = .deep) ∧ rdB s Reg.PWR_WAKE_CFG Fld.PWR_WAKE_CFG_sense_en = true then
    .next (wakeUp { source := 2 } 3 s)
  else .next s

/-- HOST_LINK_WAKE (R524): recognised in SLEEP for the ports of link_en. -/
def execHostLinkWake (port : Nat) (s : State) : Host.Outcome State Fault Refusal :=
  if s.power.state = .sleep ∧ portExists s port = true ∧
      bitAt (rdF s Reg.PWR_WAKE_CFG Fld.PWR_WAKE_CFG_link_en) port = true then
    .next (wakeUp { source := 3, port := port } 4 s)
  else .next s

/-- POWER_EXIT_DONE (R526 to R529): not before the rails of the exit are at power-good. -/
def execPowerExitDone (s : State) : Host.Outcome State Fault Refusal :=
  match s.power.exit with
  | some x =>
    if x.rails ≠ [] then .next s
    else if s.power.resetAtRun then .next (ownerReset s) else .next (finishExit x s)
  | none => .next s

/-! ### Operating points -/

/-- A quadrant without governor runs at its highest point (R375). -/
def followQuad (q : Nat) (s : State) : State :=
  if rdB s Reg.ENG_CTRL Fld.ENG_CTRL_gov_en ∨ opOf s q = quadCap s q then s else wantOp q (quadCap s q) 3 s

/-- OP_LIMIT (R172, R531). -/
def execOpLimit (port sq seq : Nat) (s : State) : Host.Outcome State Fault Refusal :=
  withReady port sq seq 0x0A02 (fun d s =>
    let r := Reg.PWR_LIMITd (d.u8 16)
    let lo := d.u8 17
    let hi := d.u8 18
    if hi < lo ∨ (d.u8 16 = 4 ∧ hi < rdF s r Fld.PWR_LIMITd_floor) then refuseWith d .refused 0xA0 s
    else
      let s := wrF r Fld.PWR_LIMITd_min_op lo s |> wrF r Fld.PWR_LIMITd_max_op hi
      let s := if d.u8 16 = 4 then followCompOp s else followQuad (d.u8 16) s
      completeI d .ok 0 s) s

/-- Voltage that the domains of a rail ask for: the quadrants for VDD_ENG, CK_COMP for VDD_CORE. -/
def askedMv (s : State) (d : Nat) : Nat :=
  if d = 4 then opMv s (opOf s 4) else opMv s (max (max (opOf s 0) (opOf s 1)) (max (opOf s 2) (opOf s 3)))

/-- A domain's clock switches (R532): OP_CHANGED for a quadrant, then the rail follows. -/
def switchOp (c : OpChange) (s : State) : State :=
  let old := opOf s c.domain
  let raised := decide (old < c.target) && rdB s Reg.PWR_OP_CFG Fld.PWR_OP_CFG_vgood_mode
  let s := if raised then emit (.pmbusRead (railOf c.domain) 0x8B) s else s
  let s := setPower { s.power with change := none } s |> setOp c.domain c.target
  let s := if c.domain < 4 then
      postEvent .device 0x04F8 (0x40 + c.domain) 0
        (dataAt 24 old ||| dataAt 25 c.target ||| dataAt 26 (tabGet (fun _ => 0) s.power.opCause c.domain)) s
    else s
  serveOps 5 (commandRail (railOf c.domain) (askedMv s c.domain) s)

/-- OP_SWITCH (R532): no operating point changes while an entry handshake runs (R533). -/
def execOpSwitch (s : State) : Host.Outcome State Fault Refusal :=
  match s.power.change with
  | some c => if s.power.entry.isSome then .next s else .next (switchOp c s)
  | none => .next s

/-- OP_PLL_TIMEOUT (R533). -/
def execOpPllTimeout (s : State) : Host.Outcome State Fault Refusal :=
  match s.power.change with
  | some c =>
    let s := setPower { s.power with change := none } s |> setFlag Flag.PWR_pll_fail
    let s := if c.domain < 4 then fenceQuadrant c.domain 5 s else s
    .next (serveOps 5 s)
  | none => .next s

/-- VOLTAGE_FAIL (R533) with the last READ_VOUT in mV: a raise is abandoned in vgood_mode 1. -/
def execVoltageFail (vout : Nat) (s : State) : Host.Outcome State Fault Refusal :=
  match s.power.change with
  | some c =>
    if rdB s Reg.PWR_OP_CFG Fld.PWR_OP_CFG_vgood_mode = true ∧ opOf s c.domain < c.target then
      .next (setPower { s.power with change := none } s |> setFlag Flag.PWR_vgood_fail
        |> postEvent .device 0x0AF2 0xA0 1 (dataAt 24 (railOf c.domain) ||| dataAt 25 c.target ||| dataAt 28 (vout % 65536))
        |> serveOps 5)
    else .next s
  | none => .next s

/-! ### PMBus -/

/-- RAIL_TELEMETRY (R534) with READ_VOUT in mV and READ_IOUT in 10 mA units of rails 0 to 7. -/
def execRailTelemetry (readings : List (Nat × Nat)) (s : State) : Host.Outcome State Fault Refusal :=
  if !panelPowered s then .next s
  else .next (s.power.rails.foldl (fun s n =>
    let s := s |> emit (.pmbusRead n 0x8B) |> emit (.pmbusRead n 0x8C)
    match readings[n]? with
    | some v => wrF (Reg.PWR_RAILn n) Fld.PWR_RAILn_vout v.1 s |> wrF (Reg.PWR_RAILn n) Fld.PWR_RAILn_iout v.2
    | none => s) s)

/-- READ_TEMPERATURE_POLL (R534, R553) with READ_TEMPERATURE_1 of rails 0 to 7: the one-second samples are taken. -/
def execReadTemperaturePoll (temps : List Nat) (s : State) : Host.Outcome State Fault Refusal :=
  if !panelPowered s then .next s
  else
    let t := s.power.rails.foldl (fun t n => match temps[n]? with
      | some v => tabSet (fun _ => 0) t n v
      | none => t) s.power.railTemp
    let s := s.power.rails.foldl (fun s n => emit (.pmbusRead n 0x8D) s) s
    let sample := (List.range 8).map (fun n => (rdF s (Reg.PWR_RAILn n) Fld.PWR_RAILn_vout, rdF s (Reg.PWR_RAILn n) Fld.PWR_RAILn_iout))
    let s := setPower { s.power with railTemp := t, samples := (sample :: s.power.samples).take 16 } s
    .next { s with fault := { s.fault with temps := (hottestRaw s :: s.fault.temps).take 128 } }

/-- Only VDD_AON stays on, and all that the other rails kept is lost. -/
def loseRails (ph : StartPhase) (s : State) : State :=
  let s := restart true (railsOff s)
  { s with boot := { s.boot with phase := ph }, power := { s.power with state := .off } }

/-- A regulator is off while commanded on (R541 class 2): one power cycle, and after a second fault within 600 s the state
that R56 leaves. -/
def railFault (rail word : Nat) (s : State) : State :=
  let recent := decide (within s 600000000000 s.power.cycles ≠ [])
  let s := setPower { s.power with cycles := upNs s :: s.power.cycles } s |> fatalRecord 2 0xA0 rail word
  if recent then loseRails .railsOff s |> wrF Reg.AON_STATUS Fld.AON_STATUS_failed_rail (rail + 1)
  else loseRails .retryWait s

/-- PMBUS_ALERT (R534) with the STATUS_WORD of rails 0 to 7: PMBUS_FAULT for each rail that reports a fault, then
CLEAR_FAULTS, then class 2 for a rail that is off. -/
def execPmbusAlert (words : List Nat) (s : State) : Host.Outcome State Fault Refusal :=
  let s := s.power.rails.foldl (fun s n => emit (.pmbusRead n 0x79) s) s
  let bad := (List.range 8).filter (fun n => s.power.rails.contains n && decide (words.getD n 0 ≠ 0))
  let s := bad.foldl (fun s n => setFlag Flag.PWR_pmbus_fault s
    |> postEvent .device 0x0AF3 0xA0 2 (dataAt 24 n ||| dataAt 28 (words.getD n 0 % 65536))) s
  let s := bad.foldl (fun s n => pmbus n 0x03 0 s) s
  match bad.find? (fun n => bitAt (words.getD n 0) 6) with
  | some n => .next (railFault n (words.getD n 0 % 65536) s)
  | none => .next s

/-! ### Fatal faults (R541) -/

/-- Rails are on: the device can meet a fault at all. -/
def isPowered (s : State) : Bool := decide (s.power.rails ≠ [])

/-- THERMAL_TRIP (R541 class 1, R85). -/
def execThermalTrip (s : State) : Host.Outcome State Fault Refusal :=
  if !isPowered s then .next s
  else
    let s := fatalRecord 1 0xA0 0 0 s |> setReason [5] |> loseRails .railsOff
    .next { s with boot := { s.boot with thermalStop := true } }

/-- The device runs: MGMT's memories and the PLLs are up. -/
def mgmtRuns (s : State) : Bool :=
  match s.boot.phase with
  | .aonOff | .held | .rail _ | .straps | .retryWait | .railsOff | .boardTest => false
  | _ => decide (s.power.state ≠ .deep ∧ s.power.state ≠ .off)

/-- Units whose PLL's loss of lock is fatal: MGMT, COMP, RSV, SLK, RAST, HWL. -/
def fatalPll (u : Nat) : Bool := [0x01, 0x30, 0x50, 0x60, 0x70, 0x20].contains u

/-- PLL_LOCK_LOSS (R541 class 4) of the domain of a unit. -/
def execPllLockLoss (unit : Nat) (s : State) : Host.Outcome State Fault Refusal :=
  if mgmtRuns s && fatalPll unit then .next (fatalReset 4 unit unit s) else .next s

/-- MGMT_MEMORY_ERROR (R541 class 5) in MGMT or SEC. -/
def execMgmtMemoryError (unit : Nat) (s : State) : Host.Outcome State Fault Refusal :=
  if mgmtRuns s && [0x01, 0x02].contains unit then .next (fatalReset 5 unit 0 s) else .next s

/-- RSV_INTERFACE_FAILURE (R541 class 6). -/
def execRsvInterfaceFailure (s : State) : Host.Outcome State Fault Refusal :=
  if isPowered s && !isOff s then .next (fatalReset 6 0x50 0 s) else .next s

/-- WATCHDOG_EXPIRY (R70, R541 class 3). -/
def execWatchdogExpiry (s : State) : Host.Outcome State Fault Refusal :=
  if mgmtRuns s then .next (fatalReset 3 0x01 0 s) else .next s

/-! ### Die sensors (R546, R569) -/

/-- Valid sensor values, signed sQ12.4. -/
def sensorValues (s : State) : List Int :=
  (List.range 20).filterMap (fun i =>
    if rdB s (Reg.TOP_SENSi i) Fld.TOP_SENSi_valid then some (signed 16 (rdF s (Reg.TOP_SENSi i) (0, 16))) else none)

/-- The temperature of R546 in °C: none for no warning. -/
def warnAt (s : State) : Option Nat :=
  match rdF s Reg.FAULT_CTRL Fld.FAULT_CTRL_warn with
  | 0 => none
  | n + 1 => some (min 110 (n + 1))

/-- A change in progress to a point above OP3 goes to OP3 instead, or ends where OP3 is in force. -/
def capChange (s : State) : State :=
  match s.power.change with
  | some c =>
    if c.domain < 4 ∧ 3 < c.target then
      setPower { s.power with change := if opOf s c.domain = 3 then none else some { c with target := 3 } } s
    else s
  | none => s

/-- The cap of OP3 comes on or goes. -/
def setCap (on : Bool) (hot : Int) (s : State) : State :=
  let s := wrF Reg.FAULT_STAT Fld.FAULT_STAT_thermal_capped (b2n on) s
  let s := if on then setFlag Flag.FAULT_thermal_warn s |> capChange else s
  let s := postEvent .device 0x0EF3 0x01 1 (dataAt 24 (b2n on) ||| dataAt 28 (pattern 16 hot)) s
  [0, 1, 2, 3].foldl (fun s q =>
    if on then if 3 < opOf s q then wantOp q 3 3 s else s else followQuad q s) s |> serveOps 5

/-- The hottest sensor is held against the warning temperature. -/
def judgeHeat (hot : Int) (s : State) : State :=
  let capped := rdB s Reg.FAULT_STAT Fld.FAULT_STAT_thermal_capped
  match warnAt s with
  | none => if capped then setCap false hot s else s
  | some w =>
    if !capped && decide (16 * (w : Int) ≤ hot) then setCap true hot s
    else if capped && decide (hot < 16 * ((w : Int) - 5)) then setCap false hot s
    else s

/-- SENSOR_REFRESH (R569) with the latest conversion of each sensor as an sQ12.4 pattern, none where its self-check
fails. -/
def execSensorRefresh (values : List (Option Nat)) (s : State) : Host.Outcome State Fault Refusal :=
  if !mgmtRuns s then .next s
  else
    let s := (List.range 20).foldl (fun s i =>
      match values.getD i none with
      | some v => wrF (Reg.TOP_SENSi i) (0, 16) v s |> wrF (Reg.TOP_SENSi i) Fld.TOP_SENSi_valid 1
      | none => wrF (Reg.TOP_SENSi i) Fld.TOP_SENSi_valid 0 s) s
    match sensorValues s with
    | [] => .next (wrF Reg.FAULT_STAT Fld.FAULT_STAT_hottest 0 s)
    | v :: vs =>
      let hot := vs.foldl max v
      let shown := roundShift hot 4
      .next (wrF Reg.FAULT_STAT Fld.FAULT_STAT_hottest (pattern 8 (max (-128) (min 127 shown))) s |> judgeHeat hot)

end Sys2Proof.Machine
end

