-- ==== Sys2Proof/Machine/Store.lean ====
section
/-! DEFINITION. The store: its commands (R164, R165, R433, R436), directory changes (R430, R432), the mount (R427, R429,
R431), and boot loads (R73 step 8, R77, R434). What an NVMe command's end does is in StoreDone.lean. -/

namespace Sys2Proof.Machine

/-! ### Reads, writes and information -/

/-- STORE_READ (R164, R165). -/
def execStoreRead (port sq seq : Nat) (s : State) : Host.Outcome State Fault Refusal :=
  withReady port sq seq 0x0601 (fun d s =>
    if !s.store.mounted then complete d .notReady 0 0 s
    else if !rangeIn s (d.u16 16) (d.u64 24) (d.u32 20) then badWith d .badAddress 24 s
    else setRunning d s |> nvRead 2 ((regionOf s (d.u16 16)).first + d.u64 24) (d.u32 20) (.hostRead d.port d.sq d.seq)) s

/-- STORE_WRITE (R164, R165, R436) with the host buffer's bytes, none after a read error. -/
def execStoreWrite (port sq seq : Nat) (data : Option (List Byte)) (s : State) : Host.Outcome State Fault Refusal :=
  withReady port sq seq 0x0602 (fun d s =>
    if !s.store.mounted then complete d .notReady 0 0 s
    else if !rangeIn s (d.u16 16) (d.u64 24) (d.u32 20) then badWith d .badAddress 24 s
    else if d.u16 16 = 1 ∨ d.u16 16 = 2 then refuseWith d .refused 0x14 s
    else match data with
      | none => complete d .fetchFault 0 0 s
      | some bs =>
        if bs.length ≠ d.u32 20 * 4096 then s
        else setRunning d s |> monitorAdd d.port bs.length
          |> nvWrite ((regionOf s (d.u16 16)).first + d.u64 24) bs (.hostWrite d.port d.sq d.seq)) s

/-- STORE_INFO (R164). -/
def execStoreInfo (port sq seq : Nat) (s : State) : Host.Outcome State Fault Refusal :=
  withReady port sq seq 0x0605 (fun d s =>
    if !s.store.mounted then complete d .notReady 0 0 s
    else completeI d .ok (resAt 16 (s.store.managed % 2 ^ 32) ||| resAt 20 (freeLbas s.store.managed s.store.dir % 2 ^ 32) |||
      resAt 24 s.store.dir.length) s) s

/-! ### Directory changes (R430, R432) -/

/-- Lowest unused region ID from 3 to 1,023. -/
def freeRegion (dir : Tab Region) : Option Nat :=
  ((List.range 1021).map (· + 3)).find? (fun n => decide ((regionIn dir n).kind = 0))

/-- Up to a multiple of 256. -/
def align256 (n : Nat) : Nat := (n + 255) / 256 * 256

/-- A run of count LBAs from first takes no LBA of a region and ends within the managed ones. -/
def runFree (dir : Tab Region) (managed first count : Nat) : Bool :=
  decide (first + count ≤ managed) &&
    dir.all (fun (e : Nat × Region) => decide (e.2.first + e.2.count ≤ first ∨ first + count ≤ e.2.first))

/-- Where the lowest free run of count LBAs starts: at the first boundary after the metadata or after a region. -/
def freeRun (dir : Tab Region) (managed count : Nat) : Option Nat :=
  let starts := 256 :: dir.map (fun (e : Nat × Region) => align256 (e.2.first + e.2.count))
  (starts.filter (fun a => runFree dir managed a count)).foldl (fun (m : Option Nat) a =>
    match m with
    | some b => some (min a b)
    | none => some a) none

/-- Something uses a region (R165): a descriptor that reads or writes it, or a hold item of it in the cache or being
staged. -/
def regionUsed (s : State) (r : Nat) : Bool :=
  s.host.inflight.any (fun d => decide (d.phase = .running) && d.opcode != 0x0604 &&
      (decide (d.resource = some (5, r)) || decide (d.codecRegion = some r))) ||
    s.hold.items.any (fun (e : Nat × Option HoldItem) => decide (e.1 / 65536 = r)) ||
    s.hold.staging.any (fun e => decide (e.1 / 65536 = r))

/-- Step 1 of R432: the changed directory goes to the copy that the current superblock does not name. -/
def writeDir (c : DirChange) (s : State) : State :=
  setStore { s.store with changing := some c } s
    |> nvWrite (16 + 16 * (1 - s.store.copy)) (dirBytes c.dir) (.dir 1 c.port c.sq c.seq)

/-- A STORE_CREATE finds its region, or fails. -/
def beginCreate (d : Dsc) (s : State) : State :=
  let count := d.u64 24
  match freeRegion s.store.dir, freeRun s.store.dir s.store.managed count with
  | some n, some first =>
    let r : Region := { kind := d.u8 16, first := first, count := count, created := now s }
    writeDir { dir := tabSet (fun _ => noRegion) s.store.dir n r, port := d.port, sq := d.sq, seq := d.seq, region := n } (tick s)
  | _, _ => refuseWith d .resource 0x14 s

/-- A STORE_DELETE deallocates its LBAs, or fails. REFUSED, unit 0x14, for a region that does not exist and for regions 1 and 2 is
the model's choice (log entry 118). -/
def beginDelete (d : Dsc) (s : State) : State :=
  let n := d.u16 16
  let r := regionOf s n
  if r.kind = 0 ∨ n = 1 ∨ n = 2 then refuseWith d .refused 0x14 s
  else if regionUsed s n then complete d .busy 0 0 s
  else
    let c : DirChange := { dir := tabSet (fun _ => noRegion) s.store.dir n noRegion, port := d.port, sq := d.sq, seq := d.seq, region := n }
    setStore { s.store with changing := some c } s |> sendNvme 2 9 r.first r.count [] (.dealloc d.port d.sq d.seq)

def beginChange (d : Dsc) (s : State) : State := if d.opcode = 0x0603 then beginCreate d s else beginDelete d s

/-- Changes that wait begin, one at a time. -/
def serveChanges : List (Nat × Nat × Nat) → State → State
  | [], s => setStore { s.store with queued := [] } s
  | w :: rest, s =>
    if s.store.changing.isSome then setStore { s.store with queued := w :: rest } s
    else match dscOf s w.1 w.2.1 w.2.2 with
      | some d => serveChanges rest (beginChange d s)
      | none => serveChanges rest s

/-- A change is asked for: it begins, or waits for those before it. -/
def askChange (d : Dsc) (s : State) : State :=
  serveChanges (s.store.queued ++ [(d.port, d.sq, d.seq)]) (setRunning d s)

/-- STORE_CREATE (R164, R165, R430). -/
def execStoreCreate (port sq seq : Nat) (s : State) : Host.Outcome State Fault Refusal :=
  withReady port sq seq 0x0603 (fun d s =>
    if !s.store.mounted then complete d .notReady 0 0 s
    else if d.u64 24 = 0 then badWith d .badDescriptor 24 s
    else askChange d s) s

/-- STORE_DELETE (R164, R165, R430). -/
def execStoreDelete (port sq seq : Nat) (s : State) : Host.Outcome State Fault Refusal :=
  withReady port sq seq 0x0604 (fun d s =>
    if !s.store.mounted then complete d .notReady 0 0 s else askChange d s) s

/-- Step 3 of R432: the superblock not current, with the next generation. -/
def writeSuper (c : DirChange) (s : State) : State :=
  nvWrite (1 - s.store.current) (superblock s (1 - s.store.copy) (s.store.generation + 1) (crc32c (dirBytes c.dir)))
    (.dir 3 c.port c.sq c.seq) s

/-- After step 4 the new directory is in force and the descriptor completes (R570). -/
def endChange (c : DirChange) (s : State) : State :=
  let made := decide ((regionIn c.dir c.region).kind ≠ 0)
  let s := setStore { s.store with dir := c.dir, copy := 1 - s.store.copy, current := 1 - s.store.current,
                                   generation := s.store.generation + 1, changing := none } s |> followStore
  let s := if made then s else setHost 5 c.region (owner s) s
  serveChanges s.store.queued (endDsc (c.port, c.sq, c.seq) .ok (if made then resAt 16 c.region else 0) s)

/-! ### The event log and health -/

/-- The sequence number that a 32-bit one names: the nearest at or below the next to be written, none above it. -/
def logName (s : State) (first : Nat) : Nat :=
  let head := logFirst s
  let behind := (head + 2 ^ 32 - first % 2 ^ 32) % 2 ^ 32
  if 2 ^ 31 ≤ behind then head else max (head - logRecords) (head - behind)

/-- The read of the log goes on from its record `done`, to the ring's end at most. -/
def askLog (d : Dsc) (done total : Nat) (s : State) : State :=
  let n := (d.at_ + done) % logRecords
  nvRead 2 ((regionOf s 1).first + n / 128) (logLbas n (min (total - done) (logRecords - n))) (.logRead d.port d.sq d.seq done total) s

/-- DIAG_LOG_READ (R178, R433). -/
def execDiagLogRead (port sq seq : Nat) (s : State) : Host.Outcome State Fault Refusal :=
  withReady port sq seq 0x0E04 (fun d s =>
    let first := logName s (d.u32 24)
    let n := min (d.u16 28) (logFirst s - first)
    if !s.store.mounted then complete d .notReady 0 0 s
    else if n = 0 then completeI d .ok (resAt 20 (first % 2 ^ 32)) s
    else setDsc { d with phase := .running, at_ := first } s |> askLog { d with at_ := first } 0 n) s

/-- Log entries have been read: they go to the host. -/
def logEntriesRead (w : Nat × Nat × Nat) (done total : Nat) (bs : List Byte) (s : State) : State :=
  match dscOf s w.1 w.2.1 w.2.2 with
  | none => s
  | some d =>
    let n := (d.at_ + done) % logRecords
    let k := min (total - done) (logRecords - n)
    let out := (bs.drop (32 * (n % 128))).take (32 * k)
    let s := emit (.dma d.port (d.u64 16 + 32 * done) out) s |> monitorAdd d.port out.length
    if done + k < total then askLog d (done + k) total s
    else completeI d .ok (resAt 16 total ||| resAt 20 ((d.at_ + total) % 2 ^ 32)) s

/-- A command of a use is outstanding. -/
def pendingUse (s : State) (u : NvUse) : Bool := s.store.nvme.any (fun c => decide (c.use = u))

/-- EVENT_LOG_FLUSH (R433). -/
def execEventLogFlush (s : State) : Host.Outcome State Fault Refusal :=
  if s.store.mounted && !s.store.shutting && decide (s.store.logBuf ≠ []) && !logBusy s then
    .next (writeLog s)
  else .next s

/-- SMART_POLL (R426). -/
def execSmartPoll (s : State) : Host.Outcome State Fault Refusal :=
  if s.store.mounted && !pendingUse s .smart then .next (sendNvme 0 2 2 0 [] .smart s) else .next s

/-- The SMART / health log has been read: its composite temperature is a u16 in kelvin at byte 1. -/
def smartRead (bs : List Byte) (s : State) : State :=
  setStore { s.store with smart := bs.take 512 } s |> wrF Reg.STP_TEMP Fld.STP_TEMP_temp (pattern 16 ((leAt bs 1 2 : Int) - 273))

/-! ### Boot loads (R73 step 8, R434) -/

/-- A boot manifest's entries; none when it breaks R434. -/
def readManifest (bs : List Byte) : Option (List (Nat × Nat × Nat × Nat × Nat)) :=
  let n := leAt bs 6 2
  if leAt bs 0 4 ≠ 0x4D42584F ∨ leAt bs 4 2 ≠ 1 ∨ 255 < n ∨ leAt bs 8 8 ≠ 0 then none
  else some ((List.range n).map (fun i =>
    let o := 16 + 16 * i
    (leAt bs o 4, leAt bs (o + 4) 4, leAt bs (o + 8) 1, leAt bs (o + 9) 1, leAt bs (o + 10) 1)))

/-- Detail of a failed load (R78). -/
def loadDetail (e : Nat × Nat × Nat × Nat × Nat) (img : List Byte) : Nat :=
  if e.2.2.1 = 2 then 0x80000000 + 0x100 * e.2.2.2.2 + e.2.2.2.1
  else ((imageTables img).head?.map (fun t => t.2.1)).getD 0

/-- KERNEL_SIG (R77): the stage of the kernel, or of the image's first table, uses the reference kernel. -/
def loadFails (e : Nat × Nat × Nat × Nat × Nat) (img : List Byte) (s : State) : State :=
  let stages := if e.2.2.1 = 2 then [(e.2.2.2.2, e.2.2.2.1)] else stagesOf (loadDetail e img)
  stages.foldl bindReference s |> bootFailure 0x31 0xFF (loadDetail e img)

/-- The boot loads have ended. -/
def loadsEnd (s : State) : State := { s with boot := { s.boot with loadsDone := true } }

/-- The next entry of the manifest is read; after the last the loads have ended. One that cannot be read fails. -/
def nextLoad : List (Nat × Nat × Nat × Nat × Nat) → State → State
  | [], s =>
    setStore { s.store with manifest := [] } { s with boot := { s.boot with manifestDone := true } } |> loadsEnd |> recordMissing
  | e :: rest, s =>
    if s.store.mounted && rangeIn s 3 e.1 e.2.1 && decide (0 < e.2.1) then
      setStore { s.store with manifest := e :: rest } s |> nvRead 1 ((regionOf s 3).first + e.1) e.2.1 (.bootImage 0)
    else nextLoad rest (loadFails e [] s)

/-- The next demura image, which loads after READY (R80). -/
def nextDemura : List ((Nat × Nat × Nat × Nat × Nat) × List Nat) → State → State
  | [], s => setStore { s.store with deferred := [] } s |> recordMissing
  | e :: rest, s =>
    if s.store.mounted then
      setStore { s.store with deferred := e :: rest } s |> nvRead 1 ((regionOf s 3).first + e.1.1) e.1.2.1 (.bootImage 1)
    else nextDemura rest (loadFails e.1 [] s |> recordMissing)

/-- Boot step 8 begins: with a boot archive its manifest is read, without one there is nothing to load. -/
def beginLoads (s : State) : State :=
  if (regionOf s 3).kind = 1 then nvRead 1 (regionOf s 3).first 1 .manifest s else loadsEnd s

/-- The manifest has been read. -/
def manifestRead (bs : List Byte) (s : State) : State :=
  match readManifest bs with
  | some es => nextLoad es s
  | none => loadsEnd s

/-- Verification under R92 failed, by any path (R572). -/
def noteVerify (img : List Byte) (ty room : Nat) (s : State) : State :=
  match verifyImage s img ty room with
  | .accept _ => s
  | _ => setFlag Flag.SEC_sig_fail s

/-- An entry's image is loaded: every table becomes active, a kernel is bound with its own parameter block. A kernel that
loads and whose bind contract then fails stays loaded and measured, and its load counts as failed: the model's choice
(log entry 110). -/
def takeImage (e : Nat × Nat × Nat × Nat × Nat) (img : List Byte) (s : State) : State :=
  let stage := e.2.2.2.1
  let cell := e.2.2.2.2
  let room := 4096 * e.2.1
  if e.2.2.1 = 1 then
    let s := noteVerify img 3 room s
    match loadTables img room s with
    | .done _ s => (imageTables img).foldl (fun s t => activateS t.2.1 s) s
    | .failed _ _ => loadFails e img s
  else if e.2.2.1 = 2 then
    let s := noteVerify img 2 room s
    match loadKernel img room s with
    | .done res s2 =>
      let h := res.toNat % 65536
      if 1 ≤ stage ∧ stage ≤ 7 ∧ cell ≤ 1 ∧ bindOk s2 stage cell h 0 = true then
        let param := ((kernelOf s2 h).map (fun k => k.param)).getD []
        bindKernel cell stage h param s2
      else loadFails e img s2
    | .failed _ _ => loadFails e img s
  else loadFails e img s

/-- An image carries demura maps. -/
def hasDemura (e : Nat × Nat × Nat × Nat × Nat) (img : List Byte) : Bool :=
  decide (e.2.2.1 = 1) && (imageTables img).any (fun t => decide (t.2.1 / 0x1000000 = 0x21))

/-- The image of the entry being loaded has been read. -/
def bootImageRead (i : Nat) (img : List Byte) (s : State) : State :=
  if i = 0 then
    match s.store.manifest with
    | [] => s
    | e :: rest =>
      if hasDemura e img then nextLoad rest (setStore { s.store with deferred := s.store.deferred ++ [(e, (imageTables img).map (fun t => t.2.1))] } s)
      else nextLoad rest (takeImage e img s)
  else
    match s.store.deferred with
    | [] => s
    | e :: rest => nextDemura rest (setStore { s.store with deferred := rest } (takeImage e.1 img s) |> recordMissing)

/-- It could not be read. -/
def bootImageFails (i : Nat) (s : State) : State :=
  if i = 0 then
    match s.store.manifest with
    | [] => s
    | e :: rest => nextLoad rest (loadFails e [] s)
  else
    match s.store.deferred with
    | [] => s
    | e :: rest => nextDemura rest (setStore { s.store with deferred := rest } (loadFails e.1 [] s) |> recordMissing)

/-! ### The mount (R427, R429, R431) -/

/-- STORE_LINK_UP (R427): the store is out of reset, and CC.EN is set. -/
def execStoreLinkUp (speed width : Nat) (s : State) : Host.Outcome State Fault Refusal :=
  if s.boot.perstN = some true ∧ rdB s Reg.STP_STAT Fld.STP_STAT_link_up = false then
    .next (wrF Reg.STP_STAT Fld.STP_STAT_link_up 1 s |> wrF Reg.STP_STAT Fld.STP_STAT_speed speed
      |> wrF Reg.STP_STAT Fld.STP_STAT_width width)
  else .next s

/-- Boot waits for the store in stage LOAD. -/
def loadsWait (s : State) : Bool := decide (s.boot.phase = .load) && !s.boot.loadsDone

/-- The store stays absent for a reason. -/
def mountFails (reason : Nat) (s : State) : State :=
  let s := setStore { s.store with mounted := false } s |> wrF Reg.STP_STAT Fld.STP_STAT_reason reason |> askUnit 0x14 2
  if loadsWait s then loadsEnd s else s

/-- STORE_ABSENT_TIMEOUT (R427, R77): no link after 100 ms, or no ready controller after 200 ms. -/
def execStoreAbsentTimeout (s : State) : Host.Outcome State Fault Refusal :=
  if s.boot.perstN ≠ some true ∨ s.store.controller = true then .next s
  else
    let s := if ready s then s else bootFailure 0x30 0xFF 0 s
    .next (mountFails (if rdB s Reg.STP_STAT Fld.STP_STAT_link_up then 2 else 1) s)

/-- A mount reads or writes the metadata. -/
def mounting (s : State) : Bool :=
  s.store.nvme.any (fun c => match c.use with
    | .mountRead => true
    | .format _ => true
    | _ => false)

/-- The device can start a mount: the link is up, nothing runs on it, and no private test mode is open (R103). -/
def mayMount (s : State) : Bool :=
  rdB s Reg.STP_STAT Fld.STP_STAT_link_up && !s.store.mounted && !s.store.shutting && !mounting s && !s.sec.testMode

/-- STORE_MOUNT_RETRY (R427): the controller is enabled again, which ends its admin commands. -/
def execStoreMountRetry (s : State) : Host.Outcome State Fault Refusal :=
  if mayMount s then
    .next (setStore { s.store with controller := false, nvme := s.store.nvme.filter (fun c => decide (c.queue ≠ 0)) } s)
  else .next s

/-- STORE_CONTROLLER_READY (R426, R427) with what Identify reports: a 4,096-byte LBA format, and the LBAs of
namespace 1. The order of the admin commands is a DESIGN CHOICE. -/
def execStoreControllerReady (formatOk : Bool) (nsze : Nat) (s : State) : Host.Outcome State Fault Refusal :=
  if !mayMount s || s.store.controller then .next s
  else
    let s := setStore { s.store with controller := true, managed := min nsze 1953125000 } s
      |> sendAdmin 6 1 |> sendAdmin 6 0 |> sendAdmin 9 7 |> sendAdmin 0x0A 7 |> sendAdmin 9 6 |> sendAdmin 0x0A 6
      |> sendAdmin 5 1 |> sendAdmin 5 2 |> sendAdmin 1 1 |> sendAdmin 1 2 |> sendNvme 0 0x0C 0 0 [] .event
    if formatOk then .next (nvRead 1 0 64 .mountRead s) else .next (mountFails 3 s)

/-- A superblock's CRC holds and its magic is there. -/
def superSound (b : List Byte) : Bool := decide (leAt b 0 4 = 0x5342584F ∧ crc32c (b.take 4092) = leAt b 4092 4)

/-- A superblock is valid, and the directory copy it names has its CRC (R429). -/
def superUsable (meta_ b : List Byte) : Bool :=
  superSound b && decide (leAt b 4 2 = 1 ∧ leAt b 6 2 ≤ 1 ∧
    crc32c ((meta_.drop (65536 * (1 + leAt b 6 2))).take 65536) = leAt b 24 4)

/-- The mount ends: the store is in service (R427 step 5, R433). -/
def mounted (formatted : Bool) (next : Nat) (s : State) : State :=
  let logNext := s.store.logNext.getD (next + s.store.logBuf.length)
  let s := setStore { s.store with mounted := true, shutting := false, flushed := false, shn := false, logNext := some logNext } s |> followStore
    |> wrF Reg.STP_STAT Fld.STP_STAT_formatted (b2n formatted) |> wrF Reg.STP_STAT Fld.STP_STAT_reason 0 |> askUnit 0x14 1
  let s := postEvent .device 0x06F0 0x14 0 (dataAt 24 (b2n formatted) ||| dataAt 28 (s.store.managed % 2 ^ 32)) s
  let s := if s.store.logBuf = [] then s else writeLog s
  if loadsWait s then beginLoads s else s

/-- The superblock in use: no LBA beyond those that it, the namespace or R425 give is managed. -/
def useSuper (meta_ b : List Byte) (which : Nat) (s : State) : State :=
  let copy := leAt b 6 2
  setStore { s.store with dir := readDir ((meta_.drop (65536 * (1 + copy))).take 65536), copy := copy, current := which,
                          generation := leAt b 8 8, label := (b.drop 32).take 20,
                          managed := min (leAt b 16 8) s.store.managed } s
    |> mounted false (leAt meta_ 8192 8)

/-- The directory of a blank store (R431). -/
def blankDir (t : Stamp) : Tab Region :=
  [(1, { kind := 4, first := 256, count := 262144, created := t }), (2, { kind := 5, first := 262400, count := 256, created := t })]

/-- A blank store is formatted: the directory first, then the log head and every other LBA of the metadata, which may hold
anything; the superblock comes last. -/
def beginFormat (s : State) : State :=
  let t := now s
  let s := tick s
  let s := setStore { s.store with dir := blankDir t, copy := 0, current := 0, generation := 1,
                                   label := leBytes 8 s.fuses.serial.toNat ++ t.bytes } s
  nvWrite 16 (dirBytes (blankDir t)) (.format 0) s

/-- A step of formatting has ended. -/
def formatStep (step : Nat) (s : State) : State :=
  match step with
  | 0 => nvWrite 1 (List.replicate 4096 0 ++ logHead 0 ++ List.replicate (13 * 4096) 0) (.format 1) s
  | 1 => nvWrite 32 (List.replicate (32 * 4096) 0) (.format 2) s
  | 2 => nvFlush (.format 3) s
  | 3 => nvWrite 0 (superblock s 0 1 (crc32c (dirBytes s.store.dir))) (.format 4) s
  | 4 => nvFlush (.format 5) s
  | _ => mounted true 0 s

/-- LBAs 0 to 63 have been read (R429, R431). -/
def metadataRead (m : List Byte) (s : State) : State :=
  let a := m.take 4096
  let b := (m.drop 4096).take 4096
  let newer := fun (x : List Byte) => superSound x && decide (1 < leAt x 4 2)
  if leAt a 0 4 ≠ 0x5342584F ∧ leAt b 0 4 ≠ 0x5342584F then beginFormat s
  else if newer a || newer b then mountFails 4 s
  else if superUsable m a && (!superUsable m b || decide (leAt b 8 8 ≤ leAt a 8 8)) then useSuper m a 0 s
  else if superUsable m b then useSuper m b 1 s
  else mountFails 5 s

/-! ### Image loads end (R92, R99, R158, R160) -/

/-- The image is verified and loaded, and the descriptor completes. -/
def endLoad (d : Dsc) (img : List Byte) (s : State) : State :=
  let n := d.u32 20
  let s := dropLoad (d.port, d.sq, d.seq) s |> noteVerify img (if d.opcode = 0x0301 then 3 else 2) n
  let r := if d.opcode = 0x0301 then loadTables img n s else loadKernel img n s
  let s := match r with
    | .done res s => completeI d .ok res s
    | .failed st res => complete d st 0 res s
  s |> recordMissing |> idleOpcodes

/-- IMAGE_LOAD_DONE: from a host buffer with the bytes read, none after a read error; from the store with those it gave. -/
def execImageLoadDone (port sq seq : Nat) (data : Option (List Byte)) (s : State) : Host.Outcome State Fault Refusal :=
  match loadOf s (port, sq, seq), dscOf s port sq seq with
  | some l, some d =>
    if d.opcode = 0x0402 then .next s
    else if d.u8 16 = 1 then
      match l.data with
      | some bs => .next (endLoad d bs s)
      | none => .next s
    else match data with
      | none => .next (dropLoad (port, sq, seq) s |> complete d .fetchFault 0 0 |> recordMissing |> idleOpcodes)
      | some bs => if bs.length = d.u32 20 then .next (monitorAdd d.port bs.length s |> endLoad d bs) else .next s
  | _, _ => .next s

end Sys2Proof.Machine
end

