-- ==== Sys2Proof/Machine/Reservoir.lean ====
section
/-! DEFINITION. The scrubber and uncorrectable Reservoir lines (R416 to R418), and the owner's region sizes (R413). -/

namespace Sys2Proof.Machine

/-- 64-byte lines of the whole Reservoir. -/
def reservoirLines : Nat := 268435456

/-- The scrubber moves on; after the last line a pass has ended (R417). -/
def nextScrub (s : State) : State :=
  if s.rsv.scrubbed + 1 < reservoirLines then { s with rsv := { s.rsv with scrubbed := s.rsv.scrubbed + 1 } }
  else { s with rsv := { s.rsv with scrubbed := 0 } } |> bumpWrap Reg.RSV_SCRUB_PASS 1

/-- The owner region of a code of R438. -/
def regionOfCode : Nat → Option RsvRegion
  | 2 => some .demura
  | 3 => some .layer
  | 4 => some .hold
  | 5 => some .tables
  | _ => none

/-- A line of a demura map that is in force: each of its pixels takes a delta of 0 until the map is loaded again. The
header line carries no pixel. -/
def zeroDemura (tag rel : Nat) (s : State) : State :=
  if rel = 0 then s
  else
    let f := fun (bs : List Byte) => bs.take (64 * rel) ++ List.replicate (min 64 (bs.length - 64 * rel)) 0 ++ bs.drop (64 * rel + 64)
    if tag < 2 ^ 32 then
      setTables { s.tables with active := s.tables.active.map (fun e => if e.1 = tag then (e.1, f e.2) else e) } s
    else
      setTables { s.tables with staged := s.tables.staged.map (fun e => if stagedTag e.1 = tag then (e.1, f e.2) else e) } s

/-- The plane of a SNAPSHOT version that holds its line rel, and the line's place in the plane. -/
def planePlace (fmt w h : Nat) : List Nat → Nat → Option (Nat × Nat)
  | [], _ => none
  | p :: ps, rel =>
    let n := planeLines fmt h p * ((lineBytes fmt w p + 63) / 64)
    if rel < n then some (p, rel) else planePlace fmt w h ps (rel - n)

/-- A line of the version that a layer shows. -/
def spoilLayer (n rel : Nat) (s : State) : State :=
  let v := viewNow s
  let fmt := v.field (Reg.COMP_Ln_CFG n) Fld.COMP_Ln_CFG_format
  match planePlace fmt (v.field (Reg.COMP_Ln_SIZE n) Fld.COMP_Ln_SIZE_width) (v.field (Reg.COMP_Ln_SIZE n) Fld.COMP_Ln_SIZE_height)
      (List.range (planesOf fmt)) rel with
  | some b => setLayer n { layerOf s n with bad := b :: (layerOf s n).bad } s
  | none => s

/-- Lines of a history slot (R412). -/
def historyLines : Nat := 10368000

/-- The subpixels of a history line, packed at 10 bits in the order of the pixels, R, G, B and then rear, have no history.
The slot of scan frame k is k mod 2. -/
def spoilHistory (slot rel : Nat) (s : State) : State :=
  let chans := if (cellsNow s).contains 1 then 4 else 3
  let first := 512 * rel / 10
  let mark := fun (t : Tab (List Nat)) => (List.range (512 * (rel + 1) / 10 + 1 - first)).foldl (fun t i =>
    let k := first + i
    let x := k / chans % panelW s
    let y := k / chans / panelW s
    let c := k % chans
    let key := 65536 * (if c = 3 then 4 else c) + y
    tabSet (fun _ => []) t key ((tabGet (fun _ => []) t key).set x 1024)) t
  if panelW s = 0 then s
  else if sfn s % 2 = slot then setPipe { s.pipe with hist2 := mark s.pipe.hist2 } s
  else setPipe { s.pipe with hist1 := mark s.pipe.hist1 } s

/-- An uncorrectable line becomes known: what its next read meets, by R418. A line of a free extent is cleared. -/
def spoil (region line : Nat) (s : State) : State :=
  let note := fun (s : State) =>
    if s.rsv.badLines.contains (region, line) then s
    else { s with rsv := { s.rsv with badLines := s.rsv.badLines ++ [(region, line)] } }
  match region, regionOfCode region with
  | 0, _ => if line < 3 * slotLines then note s else s
  | 1, _ => if line < 2 * historyLines then note (spoilHistory (line / historyLines) (line % historyLines) s) else s
  | _, some r =>
    match allocAt s r line with
    | none => s
    | some e =>
      match r with
      | .demura => note (zeroDemura e.1.tag e.2 s)
      | .layer => note (if e.1.tag % 2 = 0 ∧ e.1.tag < 64 then spoilLayer (e.1.tag / 2) e.2 s else s)
      | _ => note s
  | _, none => s

/-- Reads that have corrected n lines (R416). -/
def corrected (n : Nat) (s : State) : State :=
  (List.range n).foldl (fun s _ => setFlag Flag.RSV_corrected s |> bumpSat Reg.RSV_CORRECTED (0, 32) 1 |> countEvent 0x50 0x12 1) s

/-- RSV_SCRUB_READ (R416, R417) of a line of a region of R438: result 0 clean, 1 corrected, 2 uncorrectable. Another
region number is a line that no region holds. -/
def execRsvScrubRead (region line result : Nat) (s : State) : Host.Outcome State Fault Refusal :=
  if !rdB s Reg.RSV_STAT Fld.RSV_STAT_scrubbing || !panelPowered s then .next s
  else
    let s := nextScrub s
    if result = 1 then .next (corrected 1 s)
    else if result = 2 ∧ region ≤ 5 then .next (spoil region line s |> tellBad region 2 line)
    else .next s

/-- RSV_ALLOC_WRITE (R10, R413): register 0 holds demura and layer, 1 hold and tables; a write that breaks a limit is
ignored and sets cfg_err. -/
def execRsvAllocWrite (port reg : Nat) (val : Word) (s : State) : Host.Outcome State Fault Refusal :=
  if !ownerWrites s port || ready s || decide (1 < reg) then .next s
  else
    let k := if reg = 0 then Reg.RSV_ALLOC0 else Reg.RSV_ALLOC1
    let s2 := writeRwl k val s
    let total := rdF s2 Reg.RSV_ALLOC0 Fld.RSV_ALLOC0_demura + rdF s2 Reg.RSV_ALLOC0 Fld.RSV_ALLOC0_layer +
      rdF s2 Reg.RSV_ALLOC1 Fld.RSV_ALLOC1_hold + rdF s2 Reg.RSV_ALLOC1 Fld.RSV_ALLOC1_tables
    if 12840 < total ∨ rdF s2 Reg.RSV_ALLOC1 Fld.RSV_ALLOC1_tables < 128 then .next (setFlag Flag.RSV_cfg_err s)
    else .next s2

end Sys2Proof.Machine
end

