-- ==== Sys2Proof/Machine/LineReads.lean ====
section
/-! DEFINITION. COMPOSITION_LINE_START (R254, R256, R272, R504), with what the Reservoir's reads find (R416, R418). -/

namespace Sys2Proof.Machine

/-- Reads have found lines uncorrectable: each has from now on the effect of its region, and is told at once. A table with
both copies bad is lost at the next scan frame start. -/
def foundBad (lines : List (Nat × Nat)) (s : State) : State :=
  let new := lines.filter (fun b => !s.rsv.badLines.contains b)
  let s := new.foldl (fun s b => spoil b.1 b.2 s) s
  let lost := lostTags s
  let waits := fun (b : Nat × Nat) => decide (b.1 = 5) && (allocAt s .tables b.2).any (fun e => lost.contains e.1.tag)
  (new.filter (fun b => s.rsv.badLines.contains b && !waits b)).foldl readBad s

/-- COMPOSITION_LINE_START (R254, R272): the next line of the frame in progress starts; reads.dist is its distance to
the scan line that reads it, in lines. -/
def execCompositionLineStart (reads : LineReads) (s : State) : Host.Outcome State Fault Refusal :=
  match s.comp.cur, compClocked s with
  | none, _ | some _, false => .next s
  | some c, true =>
    let s := corrected reads.corrected s |> foundBad reads.bad
    let y := c.next
    let h := panelH s
    let s := if y < h then runLine y s |> noteRow y else s
    let s := if y = h then frameWhole s else s
    let s := { s with comp := { s.comp with cur := s.comp.cur.map (fun c => { c with next := y + 1 }) } }
    .next (measure (decide (y < h)) (brokenDistance s y) (if c.fromHwl then reads.dist else c.lag) s |> followResume)

end Sys2Proof.Machine
end

