-- ==== Sys2Proof/Machine/Sluice.lean ====
section
/-! DEFINITION. Sluice: line packets (R463 to R467), driver configuration (R470, R471, R483), the back-channel (R472 to
R475), and resumption after a lock loss (R478, R479). -/

namespace Sys2Proof.Machine

/-! ### Line packets -/

/-- Segment number of a lane, within its cell. -/
def segOf (lane : Nat) : Nat := if lane < 96 then lane else lane - 96

/-- The polarity bit of a line (R465). -/
def polarity (mode line n : Nat) : Nat :=
  match mode with
  | 1 => n % 2
  | 2 => (line + n) % 2
  | 3 => (line / 2 + n) % 2
  | _ => 0

/-- Values of N bits, the first lowest, as the payload bytes of D data blocks (R466). -/
def packValues (n d : Nat) (vs : List Nat) : List Byte :=
  leBytes (8 * d) (vs.foldr (fun v acc => v % 2 ^ n + 2 ^ n * acc) 0)

/-- Drive line y of a cell in the next scan frame, from the jobs that have completed for it; none while one is missing. -/
def nextDrive (s : State) (cell y : Nat) : Option (List Nat) :=
  if s.raster.phase = .toBlack then
    some ((List.range (panelW s)).flatMap (fun _ => (channelsOf cell).map (blackLevel s cell)))
  else if s.raster.shown = .idle then some (idleLine s cell y)
  else
    let t := { s with pipe := { s.pipe with ctrl := rd s Reg.PIPE_CTRL, ofs := rd s Reg.PIPE_DITHER_OFS } }
    let part := fun (tc : Nat) =>
      (s.pipe.jobs.find? (fun j => decide (j.cell = cell ∧ j.tc = tc ∧ j.tr = y / 16 ∧ j.sfn = sfn s + 1) && j.completed)).map
        (fun (j : Job) => (rowOf (tileRect s tc (y / 16)) (fun x => x)).flatMap (fun x => (channelsOf cell).map (fun ch =>
          ditherAt t (sfn s + 1) cell ch x y ((j.planes.getD ch default).read x y))))
    let parts := (List.range (tileCols s)).map part
    if parts.all (fun p => p.isSome) then some (parts.flatMap (fun p => p.getD [])) else none

/-- The drive line that a packet carries. -/
def packetLine (s : State) (cell y : Nat) (next : Bool) : Option (List Nat) :=
  if next then nextDrive s cell y else if lineReady s cell y then some (driveLine s cell y) else none

/-- LINE_START bytes 1 to 7 (R465). -/
def lineStart (s : State) (cell line n : Nat) (next repair : Bool) : List Byte :=
  let mode := field (if next then rd s Reg.SLK_CTRL else s.slk.ctrl) (2 * cell) 2
  let drv := if cell = 0 then Reg.SLK_DRV_F else Reg.SLK_DRV_R
  leBytes 2 line ++ leBytes 1 (cell + 2 * polarity mode line n + 4 * b2n repair) ++
    leBytes 1 (rdF s drv Fld.SLK_DRV_F_cs_width) ++ leBytes 2 (rdF s drv Fld.SLK_DRV_F_oe_delay) ++ leBytes 1 (n % 256)

/-- The lowest-numbered lane of a tile's segments. -/
def tileLane (s : State) (cell tc tr : Nat) : Nat :=
  (if cell = 0 then 3 else 1) * (tileRect s tc tr).x / segWidth s + 96 * cell

/-- Tag records of tiles whose issue time this packet is (R504). -/
def issueTags (lane line : Nat) (s : State) : State :=
  let hit := fun (e : Nat × TagRec) => decide (e.1 = laneCell lane ∧ 16 * e.2.tr = line ∧ tileLane s e.1 e.2.tc e.2.tr = lane)
  let mine := s.pipe.tagged.filter hit
  let s := setPipe { s.pipe with tagged := s.pipe.tagged.filter (fun e => !hit e) } s
  mine.foldl (fun s e => tick (writeTag (e.2.setTime 5 (Config.ticksAt s.fresh % 2 ^ 32)) s)) s

/-- A packet of the next scan frame is the issue of its tile, whose record is written when the tile retires. -/
def issueAhead (lane line : Nat) (s : State) : State :=
  let hit := fun (j : Job) => decide (j.sfn = sfn s + 1 ∧ j.cell = laneCell lane ∧ 16 * j.tr = line ∧ tileLane s j.cell j.tc j.tr = lane)
  let stamp := fun (g : TagRec) => { g.setTime 5 (Config.ticksAt s.fresh % 2 ^ 32) with issued := true }
  tick (setPipe { s.pipe with jobs := s.pipe.jobs.map (fun j => if hit j then { j with tag := j.tag.map stamp } else j) } s)

/-- The first packet after a return to ACTIVE: the lines it skipped, and the lines held since the lock loss (R478, R479). -/
def tellHeld (lane i : Nat) (s : State) : State :=
  let l := laneOf s 1 lane
  match l.heldFrom, l.backAt with
  | some a, some row =>
    let n := i - a
    let s := setLane 1 lane { l with heldFrom := none, backAt := none } s
    let s := (List.range (i - row - 1)).foldl (fun s _ => setFlag Flag.SLK_skip s) s
    if n = 0 then s
    else setFlag Flag.SLK_held s |> bumpSat Reg.SLK_LINES_HELD (0, 32) n |> countEvent 0x60 0x12 n
      |> postEvent .device 0x0BF9 0x60 1 (dataAt 24 lane ||| dataAt 25 (laneCell lane) ||| dataAt 28 (a % panelH s) |||
          dataAt 30 (min 65535 n))
  | _, _ => s

/-- A packet that ends at most this many UI before the load of its line ends later than 16 ticks before it, a UI lasting 80 / c ns
at rate code c: it carries repair = 1 (R467). -/
def packetLate (s : State) (lane offset : Nat) : Bool := decide (6 * offset + 6 < rateNow s 1 lane)

/-- The lane clock can give a scheduled packet this load_offset: LINE_END ends at the latest block boundary at or before 16 ticks
before the load (R467). -/
def offsetFits (s : State) (lane offset : Nat) : Bool :=
  !packetLate s lane offset && decide (6 * offset ≤ rateNow s 1 lane + 396)

/-- Line packets go out: scan frames run, or an enable is about to start its first, whose line 0 and leading rear lines go before
it (R263, R467). -/
def packetsRun (s : State) (next : Bool) : Bool := scanning s || (next && decide (s.raster.phase = .training))

/-- SLK_LINE_PACKET (R465 to R467, R478): the packet of a line of this scan frame, or of the next one, with the
load_offset that the lane clock gives a scheduled packet, after the IDLE blocks sent since the last other block. One that ends too
late is a repair packet whether the command says so or not. -/
def execSlkLinePacket (lane line : Nat) (at_ : PacketTime) (next repair : Bool) (s : State) : Host.Outcome State Fault Refusal :=
  let repair := repair || packetLate s lane at_.offset
  if !laneIs s 1 lane Lane.active || !carriesSegment s lane || !packetsRun s next || decide (127 < lane ∨ panelH s ≤ line) ||
      (!repair && !offsetFits s lane at_.offset) then .next s
  else
    let cell := laneCell lane
    let n := sfn s + b2n next
    match packetLine s cell line next with
    | none => .next s
    | some vs =>
      let d := packetBlocks s
      let w := segWidth s
      let start := lineStart s cell line n next repair
      let payload := packValues (driveDepth s) d ((vs.drop (w * segOf lane)).take w)
      let ending := leBytes 2 (crc16 (start ++ payload)) ++ leBytes 2 (if repair then 0 else at_.offset) ++ leBytes 2 d
      let s := emit (.sluice lane 0x78 start) s |> emit (.sluice lane 0 payload) |> emit (.sluice lane 0x87 ending)
        |> sendBlocks lane at_.idle (controlOf 0x78 start :: dataBlocksOf d payload ++ [controlOf 0x87 ending])
        |> countEvent 0x60 0x10 1 |> monitorAdd 8 (8 * d) |> setStat 1 lane Fld.LANE_STAT_frozen 0
      let s := setLane 1 lane { laneOf s 1 lane with cfgSent := [] } s
      let s := if repair then setFlag Flag.SLK_repair s |> countEvent 0x60 0x11 1 else s
      let s := if next then issueAhead lane line s else issueTags lane line s
      .next (tellHeld lane (n * panelH s + line) s)

/-! ### Driver configuration (R470, R471, R483) -/

/-- Data of a write: the device's own registers are taken when they are sent, the rear cell's unused BLACK codes being
free values. -/
def cfgData (s : State) (lane addr data : Nat) : Nat × State :=
  let cell := laneCell lane
  if addr = 0 then
    let depth := driveDepth s
    ((if depth = 12 then 0 else if depth = 10 then 1 else 2) + 4 * cell + 65536 * segWidth s, s)
  else if addr = 3 ∨ (cell = 0 ∧ (addr = 4 ∨ addr = 5)) then (blackLevel s cell (addr - 3), s)
  else if addr = 4 ∨ addr = 5 then freeBelow 4096 s
  else (data, s)

/-- No packet is scheduled on a lane (R471): no scan frame runs, or the next line of its cell, whose rear lines run rear_lead lines
earlier, lies in vertical blanking. -/
def cfgTime (s : State) (lane : Nat) : Bool :=
  let v := rdF s Reg.RAST_GEOM Fld.RAST_GEOM_vtotal
  !scanning s || decide (panelH s ≤ (s.raster.line + laneCell lane * rdF s Reg.RAST_LAG Fld.RAST_LAG_rear_lead) % v)

/-- CFG_WRITE (R464, R471): the next write that waits for the lane's driver goes out, after the IDLE blocks sent since the last
other block. Before the first raster enable the lane's pins are Hi-Z (R46). -/
def execCfgWrite (w : LaneIdle) (s : State) : Host.Outcome State Fault Refusal :=
  let ⟨lane, idle⟩ := w
  let l := laneOf s 1 lane
  match l.cfgQueue with
  | [] => .next s
  | (addr, data) :: rest =>
    if !laneIs s 1 lane Lane.active || !cfgTime s lane || !s.raster.driven then .next s
    else
      let v := cfgData s lane addr data
      let body := BitVec.ofNat 8 0x99 :: leBytes 1 addr ++ leBytes 4 v.1 ++ leBytes 1 (l.cfgSeq % 256)
      let l2 := { l with cfgQueue := rest, cfgSeq := l.cfgSeq + 1, cfgSent := l.cfgSent ++ [(addr, data)] }
      let out := (body ++ [BitVec.ofNat 8 (crc8 body)]).drop 1
      let s := setLane 1 lane l2 v.2 |> emit (.sluice lane 0x99 out) |> sendBlocks lane idle [controlOf 0x99 out]
      let was := s.slk.dcfg
      let now := if rest.any (fun e => !ownWrites.contains (e.1, 0)) then was else was.filter (fun n => n != lane)
      let s := { s with slk := { s.slk with dcfg := now } }
      if was ≠ [] ∧ now = [] then .next (resultEnd Reg.SLK_DCFG_RESULT 0 s) else .next (followDcfg s)

/-- Lanes of SLK_DCFG_MASK. -/
def dcfgMask (s : State) : List Nat :=
  (List.range 128).filter (fun n => bitAt (rd s (Reg.SLK_DCFG_MASKi (n / 32))).toNat (n % 32))

/-- SLK_DCFG_GO (R470, R483): a write while a request runs is ignored (R137), and one to the device's own addresses sets
cfg_err. -/
def execSlkDcfgGo (port : Nat) (val : Word) (s : State) : Host.Outcome State Fault Refusal :=
  let addr := rdF s Reg.SLK_DCFG_ADDR Fld.SLK_DCFG_ADDR_address
  let read := rdB s Reg.SLK_DCFG_ADDR Fld.SLK_DCFG_ADDR_read
  if !ownerWrites s port || decide (field val 0 1 = 0) || resultBusy s Reg.SLK_DCFG_RESULT then .next s
  else if !read && decide (addr = 0 ∨ (3 ≤ addr ∧ addr ≤ 15)) then .next (setFlag Flag.SLK_cfg_err s)
  else
    let mask := dcfgMask s
    let active := mask.filter (fun n => laneIs s 1 n Lane.active)
    let s := resultBegin Reg.SLK_DCFG_RESULT [Reg.SLK_DCFG_RDATA] s
    if active = [] then .next (resultEnd Reg.SLK_DCFG_RESULT 1 s)
    else if read then
      .next (askDriver { lane := mask.headD 0, cmd := 2, args := leBytes 1 addr, dsc := none, dcfg := true } s)
    else
      let data := (rd s Reg.SLK_DCFG_DATA).toNat
      let s := active.foldl (fun s n => setLane 1 n { laneOf s 1 n with cfgQueue := (laneOf s 1 n).cfgQueue ++ [(addr, data)] } s) s
      .next { s with slk := { s.slk with dcfg := active } }

/-! ### Reports (R193, R474, R476) -/

/-- One step of the de-emphasis trial at a report (R193). -/
def deemphStep (lane fom : Nat) (s : State) : State :=
  let l := laneOf s 1 lane
  let code := fun (v : Nat) (s : State) => wrF (Reg.LANE_EQ 1 lane) Fld.LANE_EQ_S_deemph v s
  let put := fun (t : Option Trial) (s : State) => setLane 1 lane { laneOf s 1 lane with trial := t } s
  let d := min 19 (rdF s (Reg.LANE_EQ 1 lane) Fld.LANE_EQ_S_deemph)
  match l.trial with
  | none =>
    if d < 19 then put (some { base := d, ref := fom, up := true }) s |> code (d + 1)
    else put (some { base := d, ref := fom, up := false }) s |> code (d - 1)
  | some t =>
    if t.ref + 2 ≤ fom then put none s
    else if t.up && decide (0 < t.base) then put (some { t with up := false }) s |> code (t.base - 1)
    else put none s |> code t.base

/-- A report of a lane that sweeps its de-emphasis (R190 steps 3 and 4). -/
def sweepReport (lane fom : Nat) (s : State) : State :=
  let l := laneOf s 1 lane
  let code := fun (v : Nat) (s : State) => wrF (Reg.LANE_EQ 1 lane) Fld.LANE_EQ_S_deemph v s
  if l.sweep.length < 20 then
    let sweep := l.sweep ++ [fom]
    let s := setLane 1 lane { l with sweep := sweep } s
    (if sweep.length < 20 then code sweep.length s else code (argMax sweep) s) |> trainSignal lane Lane.adapt
  else if rdF s (Reg.LANE_ADAPT 1 lane) Fld.LANE_ADAPT_fom_min ≤ fom then becomeActive 1 lane s
  else s

/-- The driver of a lane answers, or does not. -/
def setBcOk (lane : Nat) (ok : Bool) (s : State) : State := wrF (Reg.SLK_DRVn_STAT lane) Fld.SLK_DRVn_STAT_bc_ok (b2n ok) s

/-- One driver's slot of a ROLL: status and FoM. -/
def rollReport (lane status fom : Nat) (s : State) : State :=
  let st := laneState s 1 lane
  let s := setBcOk lane true s |> setLane 1 lane { laneOf s 1 lane with rollAgain := false }
  let s := if bitAt status 2 then askDriver { lane := lane, cmd := 1, args := [], dsc := none } s else s
  if st = Lane.off ∨ st = Lane.failed then s
  else
    let s := driverLocks lane status s |> setStat 1 lane Fld.LANE_STAT_fom (fom % 256)
    let s := if st = Lane.prbs then wrF (Reg.PRBS_STAT 1 lane) Fld.PRBS_STAT_locked (bitsAt status 3 1) s else s
    if st = Lane.detect ∧ bitAt status 0 = true then goLane 1 lane Lane.align s
      else if st = Lane.align ∧ bitAt status 1 = true then
        wrF (Reg.LANE_EQ 1 lane) Fld.LANE_EQ_S_deemph 0 s |> goLane 1 lane Lane.adapt
      else if st = Lane.adapt then sweepReport lane (fom % 256) s
      else if st = Lane.active ∧ rdB s (Reg.LANE_EQ 1 lane) Fld.LANE_EQ_S_deemph_adapt = true ∧ statB s 1 lane Fld.LANE_STAT_frozen = false then
        deemphStep lane (fom % 256) s
      else s

/-- A back-channel exchange with a driver has failed twice (R473). -/
def bcError (lane : Nat) (crc : Bool) (s : State) : State :=
  setBcOk lane false s |> setFlag (if crc then Flag.SLK_bc_crc else Flag.SLK_bc_timeout)
    |> postEvent .device 0x0BFB 0x60 1 (dataAt 24 (lane / 16) ||| dataAt 25 (lane % 16) ||| dataAt 26 (b2n crc))

/-- A slot of a ROLL that is missing, or whose CRC fails: it is asked for once more, with the next ROLL (log entry 153), and then it
is an error. A driver whose lane is OFF may be absent. -/
def slotMissed (lane : Nat) (crc : Bool) (s : State) : State :=
  if laneIs s 1 lane Lane.off then setBcOk lane false s
  else if (laneOf s 1 lane).rollAgain then bcError lane crc (setLane 1 lane { laneOf s 1 lane with rollAgain := false } s)
  else setLane 1 lane { laneOf s 1 lane with rollAgain := true } s

/-- ROLL (R474, R476) on a line, with each driver's status, FoM and CRC-8 where its slot brought them. -/
def execRoll (bc : Nat) (replies : List (Option (Nat × Nat × Nat))) (s : State) : Host.Outcome State Fault Refusal :=
  let runs := (bcLanes bc).any (fun n => (1 ≤ laneState s 1 n && decide (laneState s 1 n ≤ 5)) || laneIs s 1 n Lane.prbs)
  if decide (7 < bc) || !runs || !bcFree s bc then .next s
  else
    let s := emit (.backChannel bc 15 0 (bcFrame 15 0 [])) s
    .next ((bcLanes bc).foldl (fun s n =>
      match replies.getD (n % 16) none with
      | some (status, fom, crc) =>
        if crc8 [BitVec.ofNat 8 status, BitVec.ofNat 8 fom] = crc then rollReport n status fom s else slotMissed n true s
      | none => slotMissed n false s) s)

/-- STATUS_POLL (R474) of a driver; a driver that checks a pattern is also asked for its counts (R473). -/
def execStatusPoll (lane : Nat) (s : State) : Host.Outcome State Fault Refusal :=
  if 127 < lane ∨ bcFree s (lane / 16) = false then .next s
  else if laneIs s 1 lane Lane.active then .next (askDriver { lane := lane, cmd := 1, args := [], dsc := none } s)
  else if laneIs s 1 lane Lane.prbs then
    .next (askDriver { lane := lane, cmd := 1, args := [], dsc := none } s |> askDriver { lane := lane, cmd := 7, args := [], dsc := none })
  else .next s

/-! ### Lock loss, and the return (R475, R478) -/

/-- A driver reports loss of lock, which shows neither lock; row is the first that its outputs do not show. -/
def driverLoses (lane row : Nat) (s : State) : State :=
  if !laneIs s 1 lane Lane.active then s else loseLock 1 lane 3 (noteHeld lane row s) |> driverLocks lane 0

/-- STATUS reply (R473, R481). -/
def statusReply (lane : Nat) (bs : List Byte) (s : State) : State :=
  let r := Reg.SLK_DRVn_STAT lane
  let alert := leAt bs 3 1
  let old := rdF s r Fld.SLK_DRVn_STAT_alert
  let s := wrF r Fld.SLK_DRVn_STAT_temp (leAt bs 2 1) s |> wrF r Fld.SLK_DRVn_STAT_alert alert
    |> bumpSat r Fld.SLK_DRVn_STAT_crc_errs (leAt bs 4 1) |> setStat 1 lane Fld.LANE_STAT_fom (leAt bs 1 1)
    |> driverLocks lane (leAt bs 0 1)
  let s := if 2 ≤ alert ∧ alert ≤ 4 ∧ alert ≠ old then
      setFlag Flag.SLK_drv_alert s
        |> postEvent .device 0x0BFA 0x60 2 (dataAt 24 lane ||| dataAt 25 alert ||| dataAt 26 (leAt bs 2 1))
    else s
  if alert = 1 then driverLoses lane (lostRow s lane) s else s

/-- BC_ALERT_PULSE (R475): a low run of so many ns on a line. row is the row of the segment's cell, as SFN × height + line,
that the driver's outputs last showed. -/
def execBcAlertPulse (bc width row : Nat) (s : State) : Host.Outcome State Fault Refusal :=
  let a := (width - 950) / 100
  if width ≤ 1000 ∨ 7 < bc then .next s
  else if a = 0 ∨ 16 < a then
    .next (postEvent .device 0x0BFB 0x60 1 (dataAt 24 bc ||| dataAt 25 0xFF ||| dataAt 26 2) s)
  else .next (driverLoses (16 * bc + a - 1) (min (row + 1) (lostRow s (16 * bc + a - 1))) s)

/-- The frame that a driver sends once it has lock again (R475). -/
def relockFrame (lane fom : Nat) : List Byte :=
  let body := [BitVec.ofNat 8 (0xE0 + lane % 16), BitVec.ofNat 8 fom]
  body ++ [BitVec.ofNat 8 (crc8 body)]

/-- RELOCK (R475, R476, R478): the lane is ACTIVE again. A frame that is not whole by its CRC-8 is none; the driver repeats it. -/
def execRelock (lane : Nat) (frame : List Byte) (s : State) : Host.Outcome State Fault Refusal :=
  let fom := leAt frame 1 1
  if !laneIs s 1 lane Lane.fast || decide (127 < lane) || decide (frame ≠ relockFrame lane fom) then .next s
  else .next (setStat 1 lane Fld.LANE_STAT_fom fom s |> driverLocks lane 3 |> fastDone 1 lane)

/-! ### Replies (R473) -/

/-- A request of a line that has been sent. -/
def askedBc (s : State) (bc : Nat) : Option BcReq := (oldestBc s bc).filter (fun q => !q.held)

/-- It waits no more, and the next of its line goes out. -/
def dropBc (q : BcReq) (s : State) : State := pumpBc (q.lane / 16) { s with slk := { s.slk with bc := s.slk.bc.erase q } }

/-- A driver's reply to a request: byte 0 echoed, the fields, and the CRC-8 (R472, R473). -/
def replyFrame (q : BcReq) (fields : List Byte) : List Byte :=
  let body := BitVec.ofNat 8 (16 * q.cmd + q.lane % 16) :: fields
  body ++ [BitVec.ofNat 8 (crc8 body)]

/-- Bytes of reply fields of a command. -/
def replyLength (cmd : Nat) : Nat :=
  match cmd with
  | 1 => 5 | 2 => 4 | 3 => 1 | 5 => 8 | 7 => 11 | _ => 0

/-- A driver has returned a line of its eye scan (R202). -/
def eyeReply (lane : Nat) (bs : List Byte) (s : State) : State :=
  if leAt bs 0 1 = 0 then askDriver { lane := lane, cmd := 5, args := [], dsc := none } s
  else if !resultBusy s (Reg.LANE_EYE_RESULT 1 lane) then s
  else eyeData 1 lane (leAt bs 7 1) { left := leAt bs 1 1, right := leAt bs 2 1, top := leAt bs 3 1, bottom := leAt bs 4 1,
                                      centre := leAt bs 5 2 } s |> eyeEnd 1 lane 0

/-- The counts of a driver's checker (R210). -/
def prbsReply (lane : Nat) (bs : List Byte) (s : State) : State :=
  let bits := leAt bs 1 6
  setLane 1 lane { laneOf s 1 lane with bits := bits } s |> wrF (Reg.PRBS_STAT 1 lane) Fld.PRBS_STAT_locked (leAt bs 0 1 % 2)
    |> wr (Reg.PRBS_BITS_LO 1 lane) (BitVec.ofNat 32 bits) |> wr (Reg.PRBS_ERRS 1 lane) (BitVec.ofNat 32 (leAt bs 7 4))

/-- What a good reply does. -/
def takeReply (q : BcReq) (bs : List Byte) (s : State) : State :=
  match q.cmd with
  | 1 => statusReply q.lane bs s
  | 2 => if q.dcfg then wr Reg.SLK_DCFG_RDATA (BitVec.ofNat 32 (leAt bs 0 4)) s |> resultEnd Reg.SLK_DCFG_RESULT 0 else s
  | 3 =>
    let s := slip 1 q.lane (leAt bs 0 1) s
    match q.dsc with
    | some w => endDsc w .ok 0 s
    | none => s
  | 4 => askDriver { lane := q.lane, cmd := 5, args := [], dsc := none } s
  | 5 => eyeReply q.lane bs s
  | 7 => prbsReply q.lane bs s
  | _ => s

/-- A request stays without an answer. -/
def failRequest (q : BcReq) (crc : Bool) (s : State) : State :=
  let s := dropBc q s |> bcError q.lane crc
  if q.dcfg then resultEnd Reg.SLK_DCFG_RESULT (if crc then 3 else 2) s
  else if (q.cmd = 4 ∨ q.cmd = 5) ∧ resultBusy s (Reg.LANE_EYE_RESULT 1 q.lane) = true then eyeEnd 1 q.lane 2 s
  else match q.dsc with
    | some w => endDsc w .timeout (resAt 16 0x60) s
    | none => s

/-- A reply is missing, or its CRC fails: it is asked for once more, as soon as the device may send on the line. -/
def replyMissed (q : BcReq) (crc : Bool) (s : State) : State :=
  if q.again then failRequest q crc s
  else
    let bcs := s.slk.bc.map (fun b => if b = q then { b with again := true, held := true } else b)
    pumpBc (q.lane / 16) { s with slk := { s.slk with bc := bcs } }

/-- BC_REPLY (R472, R473): the frame that answers the request of a line. One that is not the request's echo, its fields and their
CRC-8 fails its CRC. -/
def execBcReply (bc : Nat) (frame : List Byte) (s : State) : Host.Outcome State Fault Refusal :=
  match askedBc s bc with
  | some q =>
    let fields := (frame.drop 1).take (replyLength q.cmd)
    if frame = replyFrame q fields ∧ fields.length = replyLength q.cmd then
      .next (dropBc q s |> setBcOk q.lane true |> takeReply q fields)
    else .next (replyMissed q true s)
  | none => .next s

/-- BC_REPLY_TIMEOUT (R473): a reply is missing, or its CRC fails. -/
def execBcReplyTimeout (bc : Nat) (crc : Bool) (s : State) : Host.Outcome State Fault Refusal :=
  match askedBc s bc with
  | some q => .next (replyMissed q crc s)
  | none => .next s

end Sys2Proof.Machine
end

