-- ==== Sys2Proof/Machine/Window.lean ====
section
/-! DEFINITION. What a host reads in Window A and Window B (R74, R109 to R112, R498, R505, R558 to R573): the registers
that show other state, and the two windows. -/

namespace Sys2Proof.Machine

/-- Two bits of a host number for each of n resources of a kind from index i on. -/
def hostBits (s : State) (kind i n : Nat) : Nat :=
  sumNat ((List.range n).map (fun j => hostOf s kind (i + j) % 4 * 4 ^ j))

/-- TOP_PORTS (R567). -/
def portsWord (s : State) : Nat :=
  sumNat ([0, 1, 2, 3].map (fun m => b2n (portExists s m) * 2 ^ m + b2n (portExists s m && (portOf s m).up) * 2 ^ (4 + m))) +
    256 * owner s

/-- TOP_STRAPS (R567). -/
def strapsWord (s : State) : Nat :=
  s.straps.ownerSel % 4 + 4 * b2n s.straps.merge01 + 8 * b2n s.straps.merge23 + 16 * (s.straps.bmcAddr % 4)

/-- PWR_STAT (R537). -/
def pwrStat (s : State) : Nat :=
  let p := s.power
  let target := match p.entry with
    | some e => e.req.target.code
    | none => 0
  let latched := match p.entry with
    | some e => e.wake.isSome
    | none => false
  let slot := match p.slot with
    | some r => r.target.code
    | none => 0
  p.state.code + 8 * b2n (p.entry.isSome || p.exit.isSome) + 16 * target + 128 * b2n p.slot.isSome + 256 * slot + 2048 * b2n latched

/-- Two bits of state for each key slot, slot 0 lowest (R94, R572). -/
def slotStates (s : State) : Nat := sumNat ([0, 1, 2, 3].map (fun k => slotState s k % 4 * 4 ^ k))

/-- SEC_STAT (R572). -/
def secStat (s : State) : Nat :=
  let port := match s.sec.challenge with
    | some (p, _) => p
    | none => 0
  b2n (s.sec.fuse.isSome || s.sec.flash.isSome) + 2 * b2n s.sec.challenge.isSome + 4 * (port % 4) + 256 * slotStates s +
    65536 * (s.fuses.minVersion % 128)

/-- Tp in ns, nearest, the largest over the lanes of a cell that carry a segment (R467, R483): at rate code c a UI lasts
80 / c ns. -/
def txTime (s : State) (cell : Nat) : Nat :=
  ((List.range 128).filter (fun n => decide (laneCell n = cell) && carriesSegment s n)).foldl (fun a n =>
    let c := rateNow s 1 n
    if c = 0 then a else max a ((2 * (packetBlocks s + 2) * 5280 + c) / (2 * c))) 0

/-- A register of TOP that shows other state (R565 to R570). -/
def topReads (s : State) (o : Nat) : Option Nat :=
  if o = 0 then some (0x912000B0 + 256 * (s.fuses.orderingCode % 256))
  else if o = 4 then some (s.fuses.serial.toNat % 2 ^ 32)
  else if o = 8 then some (s.fuses.serial.toNat / 2 ^ 32)
  else if o = 0xC then some (strapsWord s)
  else if o = 0x10 then some (portsWord s)
  else if 0x40 ≤ o ∧ o < 0x50 then some (permMask s ((o - 0x40) / 4))
  else if o = 0x60 then some (hostBits s 1 0 16)
  else if o = 0x64 then some (hostBits s 4 0 8)
  else if 0x100 ≤ o ∧ o < 0x200 then some (sumNat ((List.range 4).map (fun b => unitByte s (o - 0x100 + b) % 256 * 256 ^ b)))
  else if 0x400 ≤ o ∧ o < 0x500 then some (hostBits s 5 (4 * (o - 0x400)) 16)
  else none

/-- A register of SEC that shows other state (R572). -/
def secReads (s : State) (o : Nat) : Option Nat :=
  if o = 0 then some (secStat s)
  else if 0x100 ≤ o ∧ o < 0x180 then some (leAt (slotHash s ((o - 0x100) / 32)) (o % 32) 4)
  else none

/-- A register of a port's page that shows other state (R140). -/
def portReads (s : State) (p o : Nat) : Option Nat :=
  if o = 0 then some (p + 4 * b2n (decide (p = owner s)) +
    8 * b2n ((s.straps.merge01 && decide (p = 0)) || (s.straps.merge23 && decide (p = 2))))
  else if o = 4 then some (permMask s p)
  else if o = 0xC then some (b2n (ready s) + 2 * b2n (portOf s p).fetchBusy + 4 * b2n (portOf s p).fetchPending)
  else if 0x10C ≤ o ∧ o < 0x180 ∧ o % 16 = 12 then
    let n := (o - 0x10C) / 16
    let size := ringSize s (Reg.SQn_CFG p n)
    some ((sqOf s p n).fetched % size % 65536 + 65536 * ((sqOf s p n).fetched / size % 65536))
  else none

/-- What a per-layer register of H0 or H1 shows in place of its own bits (R298): kind 0, and the format and the size of
its Headwater plane. -/
def hwLayerReads (s : State) (n o : Nat) : Nat :=
  let w := (rd s (if n = 16 then Reg.HWL_PLANE0 else Reg.HWL_PLANE1)).toNat
  if o = 0 then putBits (putBits (rd s (Reg.COMP_Ln_CFG n)).toNat 1 2 0) 8 8 (planeFormat w)
  else if o = 4 then planeWidth w + 65536 * planeHeight w
  else if o < 0x38 then 0
  else putBits (rd s (Reg.COMP_Ln_PITCH n)).toNat 0 30 0

/-- ENG_Cc_STAT: while patrol sweeps the cluster, whether a visit is under way is a free value; a visit ends within its command,
and its beginning is no command. -/
def clusterStat (s : State) (c : Nat) : Nat :=
  putBits (rd s (Reg.ENG_Cc_STAT c)).toNat 2 1 (if patrolOn s c then Config.freeValue (s.fresh + c) % 2 else 0)

/-- A register outside those blocks that shows other state. -/
def otherReads (s : State) (k : Nat) : Option Nat :=
  if k = Reg.BOOT_STATUS then some (putBits (rd s k).toNat 3 1 (b2n s.fuses.testMark))
  else if k = Reg.PWR_STAT then some (pwrStat s)
  else if k = Reg.RAST_SFN_LO then some (sfn s % 2 ^ 32)
  else if k = Reg.RAST_CFN_LO then some (cfn s % 2 ^ 32)
  else if k = Reg.HFN_OFFSET_LO then some (pattern 64 s.raster.lock.hfnOffset % 2 ^ 32)
  else if k = Reg.RAST_TIME_NS then some (now s).ns
  else if Reg.COMP_Ln_CFG 16 ≤ k ∧ k ≤ Reg.COMP_Ln_PITCH 17 ∧ (k % 64 ≤ 4 ∨ 0x20 ≤ k % 64) then
    some (hwLayerReads s ((k - Reg.COMP_Ln_CFG 0) / 64) (k % 64))
  else if Reg.ENG_Cc_STAT 0 ≤ k ∧ k ≤ Reg.ENG_Cc_STAT 31 ∧ k % 16 = Reg.ENG_Cc_STAT 0 % 16 then
    some (clusterStat s ((k - Reg.ENG_Cc_STAT 0) / 16))
  else if k = Reg.BKL_STATS_SFN_LO then some (s.pipe.statsSfn % 2 ^ 32)
  else if k = Reg.SLK_STAT then some (putBits (putBits (rd s k).toNat 0 7 (frontSegs s)) 8 6 (rearSegs s))
  else if k = Reg.SLK_TX_TIME then some (txTime s 0 % 65536 + 65536 * (txTime s 1 % 65536))
  else if k = Reg.STP_LOG_NEXT then some (s.store.logNext.getD 0 % 2 ^ 32)
  else if k = Reg.FAULT_STAT then some (putBits (rd s k).toNat 16 8 (recentFatals s))
  else if Reg.CHK_Rr_CFG 0 ≤ k ∧ k ≤ Reg.CHK_Rr_CFG 47 ∧ k % 32 = Reg.CHK_Rr_CFG 0 % 32 then
    some (putBits (rd s k).toNat 8 2 (hostOf s 3 ((k - Reg.CHK_Rr_CFG 0) / 32)))
  else if Reg.CHK_Rr_CFG 0 ≤ k ∧ k < Reg.CHK_Rr_CFG 48 ∧ k % 32 = Reg.CHK_Rr_FRAME_LO 0 % 32 then
    some (((rectOf s ((k - Reg.CHK_Rr_POS 0) / 32)).window.head?.getD (0, 0)).1 % 2 ^ 32)
  else if Reg.BKL_ZONE_DATA 0 ≤ k ∧ k ≤ Reg.BKL_ZONE_DATA 31 then
    let z := 64 * min 35 (rdF s Reg.BKL_ZONE_SEL Fld.BKL_ZONE_SEL_row) + 2 * ((k - Reg.BKL_ZONE_DATA 0) / 4)
    if s.pipe.statsSfn = 0 ∧ s.pipe.pubZones = [] then some 0
    else some (tabGet (fun _ => 65535) s.pipe.pubZones z % 65536 + 65536 * (tabGet (fun _ => 65535) s.pipe.pubZones (z + 1) % 65536))
  else if Reg.PERF_CTRn_CFG 0 ≤ k ∧ k ≤ Reg.PERF_CTRn_CFG 63 then
    some (putBits (rd s k).toNat 28 2 (hostOf s 2 ((k - Reg.PERF_CTRn_CFG 0) / 4)))
  else if Reg.PERF_BWm_CFG 0 ≤ k ∧ k ≤ Reg.PERF_BWm_CFG 9 then
    some (putBits (rd s k).toNat 28 2 (hostOf s 6 ((k - Reg.PERF_BWm_CFG 0) / 4)))
  else none

/-- A register of Window A with a key that shows other state. -/
def shownBy (s : State) (k : Nat) : Option Nat :=
  if 0x100000 ≤ k then portReads s (k / 0x100000 - 1) (k % 0x100000)
  else if 0x10000 ≤ k ∧ k < 0x11000 then topReads s (k - 0x10000)
  else if 0x1D000 ≤ k ∧ k < 0x1E000 then secReads s (k - 0x1D000)
  else otherReads s k

/-- The value of the register with a key, as a host reads it. -/
def regValue (s : State) (k : Nat) : Nat :=
  match shownBy s k with
  | some v => v
  | none => (rd s k).toNat

/-- The key of the register at a Window A offset of a port: its own page and MSI-X structures lie below 0x1000 and from
0x2000 to 0x3FFF (R109). -/
def windowKey (p o : Nat) : Nat := if o < 0x1000 ∨ (0x2000 ≤ o ∧ o < 0x4000) then portKey p o else o

/-- A 32-bit read of Window A by a port (R74, R109, R558): what no register holds reads 0, and until stage LANES ends so
does everything beyond the port page and the boot page. -/
def readA (s : State) (p o : Nat) : Nat :=
  if !portWrites s p || (decide (0x2000 ≤ o) && !s.boot.lanesDone) || (regAt (windowKey p o)).isNone then 0
  else regValue s (windowKey p o)

/-- A read of 1, 2, 4 or 8 naturally aligned bytes of Window A (R110): fewer than 4 are those of the register that contains
them, and 8 are two reads, the lower offset first. -/
def readWindowA (s : State) (p o n : Nat) : Nat :=
  if n = 8 then readA s p o + 2 ^ 32 * readA s p (o + 4)
  else readA s p (o / 4 * 4) / 256 ^ (o % 4) % 256 ^ n

/-! ### Configuration space (R51, R74, R106, R107) -/

/-- The port's configuration space answers: the port exists, step 1 of the start has ended, and its PHY and its logic are
powered. -/
def configAnswers (s : State) (p : Nat) : Bool :=
  portExists s p && s.power.rails.contains 2 && s.power.rails.contains 6 && s.power.rails.contains 7 &&
    !decide (s.power.state = .deep ∨ s.power.state = .off)

/-- Size of a BAR in bytes: Window A and Window B (R106). -/
def barSize (o : Nat) : Nat := if o = 0x10 then 0x100000 else if o = 0x18 then 0x1000 else 0

/-- The 32-bit words of configuration space whose place the PCIe specification fixes and whose contents R106 and R107 state:
identity, class, header type 0, the two 64-bit memory BARs with their bases, and 0 for the BARs and the expansion ROM that do not
exist; none for the others. -/
def configRead (s : State) (p o : Nat) : Option Nat :=
  if !configAnswers s p then none
  else if o = 0 then some 0x91201F35
  else if o = 8 then some 0x038000B0
  else if o = 0x0C then some 0
  else if o = 0x10 then some (4 + (portOf s p).config.barA % 2 ^ 32 / barSize 0x10 * barSize 0x10)
  else if o = 0x14 then some ((portOf s p).config.barA / 2 ^ 32)
  else if o = 0x18 then some (4 + (portOf s p).config.barB % 2 ^ 32 / barSize 0x18 * barSize 0x18)
  else if o = 0x1C then some ((portOf s p).config.barB / 2 ^ 32)
  else if o = 0x20 ∨ o = 0x24 ∨ o = 0x30 then some 0
  else if o = 0x2C then some 0
  else none

/-! ### Window B (R111, R505, R573) -/

/-- The 32 bytes of a tag record (R504). -/
def TagRec.bytes (t : TagRec) : List Byte :=
  leBytes 4 t.sfn ++ leBytes 2 t.tr ++ leBytes 1 t.tc ++ leBytes 1 t.flags ++
    (List.range 6).flatMap (fun i => leBytes 4 (t.times.getD i 0))

/-- One of the two words of a monitor. -/
def monitorWord (s : State) (m half : Nat) : Nat :=
  let c := tabGet (fun _ => ({} : Monitor)) s.perf.monitors m
  if half = 0 then c.pubBytes % 2 ^ 48 + 2 ^ 48 * (c.seq % 65536) else c.pubMin % 2 ^ 32 + 2 ^ 32 * (c.pubMax % 2 ^ 32)

/-- Fixed counter k as it reads: while frozen the two clock counters keep their value (R500). -/
def fixedShown (s : State) (k : Nat) : Nat :=
  if rdB s Reg.PERF_STAT Fld.PERF_STAT_frozen ∧ k < 2 then tabGet (fun _ => 0) s.perf.fixed k else fixedWord s k

/-- The item at a multiple of 8 in Window B of a port. -/
def itemB (s : State) (p o : Nat) : Nat :=
  let mine := fun (kind i v : Nat) => if hostOf s kind i = p then v else 0
  let owned := fun (v : Nat) => if p = owner s then v else 0
  let snap := fun (i : Nat) => tabGet (fun _ => 0) s.perf.snap i
  if o < 0x200 then mine 2 (o / 8) (ctrWord s (o / 8))
  else if o < 0x240 then fixedShown s ((o - 0x200) / 8)
  else if o = 0x240 then s.perf.snapSeq + 2 ^ 32 * b2n (rdB s Reg.PERF_STAT Fld.PERF_STAT_frozen)
  else if o = 0x248 then owned (s.perf.tagIndex % 2 ^ 32)
  else if 0x400 ≤ o ∧ o < 0x600 then mine 2 ((o - 0x400) / 8) (snap ((o - 0x400) / 8))
  else if 0x600 ≤ o ∧ o < 0x640 then snap (64 + (o - 0x600) / 8)
  else if 0x680 ≤ o ∧ o < 0x720 then mine 6 ((o - 0x680) / 16) (monitorWord s ((o - 0x680) / 16) ((o - 0x680) / 8 % 2))
  else if 0x800 ≤ o ∧ o < 0x1000 then
    owned (leAt (tabGet (fun _ => ({} : TagRec)) s.perf.tags ((o - 0x800) / 32)).bytes (o % 32) 8)
  else 0

/-- A 64-bit read of Window B by a port: without USER_COUNTERS a participant reads 0 (R111). -/
def readB (s : State) (p o : Nat) : Nat :=
  if portWrites s p && bitAt (permMask s p) 0 then itemB s p (o / 8 * 8) % 2 ^ 64 else 0

/-- A read of 1, 2, 4 or 8 naturally aligned bytes of Window B: of the item, its addressed half, or bytes of that (R573). -/
def readWindowB (s : State) (p o n : Nat) : Nat := readB s p o / 256 ^ (o % 8) % 256 ^ n

end Sys2Proof.Machine
end

