-- ==== Sys2Proof/Machine/FieldRecord.lean ====
section
/-! DEFINITION. The field record (R102, R553), its capture by DIAG_FIELD_RECORD (R178) and by the BMC (R142), and the end
of a fatal restart (R545). -/

namespace Sys2Proof.Machine

/-- Four bytes of each of some registers, as they read. -/
def regBytes (s : State) (ks : List Nat) : List Byte := ks.flatMap (fun k => leBytes 4 (regValue s k))

/-- The 16 status registers of the record. -/
def recordStatus : List Nat :=
  [Reg.BOOT_STATUS, Reg.AON_STATUS, Reg.BOOT_FW_VERSION, Reg.BOOT_TIME, Reg.PWR_STAT, Reg.PWR_WAKE_STAT, Reg.PWR_REFUSE0,
   Reg.PWR_REFUSE1, Reg.PWR_ABORTS, Reg.RAST_STAT, Reg.PHOTON_PHASE, Reg.RAST_FREQ, Reg.ENG_STAT, Reg.STP_STAT, Reg.HWL_STAT,
   Reg.SLK_STAT]

/-- The four measurements (R98). -/
def measurements (s : State) : List Byte :=
  leBytes 64 s.boot.running.digest.toNat ++ leBytes 64 s.sec.mKernels.toNat ++ leBytes 64 s.sec.mTables.toNat ++
    configMeasurement s

/-- One lane's 16 bytes. -/
def laneEntry (s : State) (link lane : Nat) : List Byte :=
  regBytes s [Reg.LANE_STAT link lane, Reg.LANE_RETRAIN_CNT link lane, Reg.LANE_HDR_ERR link lane, Reg.LANE_EQ link lane]

/-- The rail samples: for each rail, 16 of voltage and current, newest first, 0 where none was taken. -/
def railSamples (s : State) : List Byte :=
  (List.range 8).flatMap (fun r => (List.range 16).flatMap (fun i =>
    let v := (s.power.samples.getD i []).getD r (0, 0)
    leBytes 2 v.1 ++ leBytes 2 v.2))

/-- The error counts. -/
def recordErrors (s : State) : List Byte :=
  regBytes s [Reg.RSV_CORRECTED, Reg.RSV_UNCORRECTED, Reg.ENG_FALLBACK_TILES, Reg.ENG_SPEC_DISCARD, Reg.HWL_PATCH_LINES,
    Reg.SLK_LINES_HELD, Reg.CHK_MISMATCHES] ++ List.replicate 4 0 ++
  (List.range 32).flatMap (fun c => regBytes s [Reg.ENG_Cc_ECC c, Reg.ENG_Cc_PATROL c]) ++
  regBytes s ((List.range 8).map Reg.ENG_FENCEi) ++ List.replicate 192 0

/-- The last 1,024 events of the log: those the store holds, then those that wait for it. -/
def recordEvents (s : State) : List Byte :=
  let waiting := s.store.logBuf.length
  let first := logFirst s
  let old := min first (1024 - min 1024 waiting)
  let kept := (List.range old).flatMap (fun i => leBytes 32 (Config.storedEvent (first - old + i)).toNat)
  let all := kept ++ (s.store.logBuf.drop (waiting - 1024)).flatMap (fun e => e.bytes)
  all ++ List.replicate (32768 - all.length) 0

/-- The 65,536 bytes of the record, captured for a cause with a number, from one snapshot of the counters. -/
def fieldRecord (s : State) (cause seq : Nat) : List Byte :=
  leBytes 4 0x4658524C ++ leBytes 2 1 ++ leBytes 1 cause ++ leBytes 1 s.fuses.orderingCode ++ leBytes 4 seq ++ leBytes 4 0 ++
  leBytes 8 s.fuses.serial.toNat ++ leBytes 8 (sfn s) ++ (now s).bytes ++ List.replicate 20 0 ++
  regBytes s recordStatus ++ regBytes s ((List.range 32).map Reg.FAULT_FATALi) ++
  (List.range 256).flatMap (fun u => leBytes 1 (unitByte s u)) ++ measurements s ++
  (List.range 32).flatMap (laneEntry s 0) ++ (List.range 128).flatMap (laneEntry s 1) ++ railSamples s ++
  (List.range 128).flatMap (fun i => leBytes 2 (s.fault.temps.getD i 0)) ++
  (List.range 72).flatMap (fun i => leBytes 8 (tabGet (fun _ => 0) s.perf.snap i)) ++ recordErrors s ++
  (s.store.smart ++ List.replicate (512 - s.store.smart.length) 0) ++ List.replicate 27072 0 ++ recordEvents s

/-- A capture: the snapshot, the record, and its place on the store when that is mounted (R433). The state after it has
the record; its number is the one before the capture's end. -/
def capture (cause : Nat) (s : State) : State :=
  let s := takeSnapshot s
  let n := s.store.recordSeq
  let r := fieldRecord s cause n
  let s := tick { s with fault := { s.fault with record := r, captured := true }, store := { s.store with recordSeq := n + 1 } }
  if s.store.mounted then nvWrite ((regionOf s 2).first + 16 * (n % 16)) r .record s else s

/-- DIAG_FIELD_RECORD (R102, R178). -/
def execDiagFieldRecord (port sq seq : Nat) (s : State) : Host.Outcome State Fault Refusal :=
  withReady port sq seq 0x0E01 (fun d s =>
    let n := s.store.recordSeq
    let s := capture 0 s
    emit (.dma d.port (d.u64 16) s.fault.record) s |> monitorAdd d.port 65536 |> completeI d .ok (resAt 16 (n % 2 ^ 32))) s

/-- Address of the target (R50, R141): the dynamic one once the controller has assigned it, else the static one. -/
def bmcAddress (s : State) : Nat := (s.bmc.dynamic.map (fun a => a.toNat)).getD (0x58 + s.straps.bmcAddr)

/-- The target's reply to a command byte and its arguments; in SMBus mode the packet error code over the whole transfer
follows. -/
def bmcReply (asked bytes : List Byte) (s : State) : State :=
  let a := bmcAddress s
  let pec := crc8 (BitVec.ofNat 8 (2 * a) :: asked ++ BitVec.ofNat 8 (2 * a + 1) :: bytes)
  emit (.bmcReply a (if s.bmc.smbus then bytes ++ [BitVec.ofNat 8 pec] else bytes)) s

/-- BMC_FIELD_CAPTURE (R142): answered in RUN, IDLE and SLEEP (R141). -/
def execBmcFieldCapture (s : State) : Host.Outcome State Fault Refusal :=
  if mgmtRuns s then .next (capture 1 s) else .next s

/-- BMC_FIELD_READ (R142). -/
def execBmcFieldRead (page : Nat) (s : State) : Host.Outcome State Fault Refusal :=
  if mgmtRuns s then
    .next (bmcReply [4, BitVec.ofNat 8 page] (if s.fault.captured then (s.fault.record.drop (256 * (page % 256))).take 256 else List.replicate 256 0) s)
  else .next s

/-- Once READY is set and the store is mounted after a fatal restart, FATAL_RECOVERED is posted and a field record is
captured (R545). -/
def fatalRecovered (s : State) : State :=
  match s.fault.recovering with
  | some cls =>
    if ready s && s.store.mounted then
      { s with fault := { s.fault with recovering := none } } |> setFlag Flag.FAULT_fatal_recovered
        |> postEvent .device 0x0EF2 1 2
          (dataAt 24 cls ||| dataAt 25 (recentFatals s) ||| dataAt 28 (((rd s Reg.FAULT_FATAL_NEXT).toNat + 2 ^ 32 - 1) % 2 ^ 32))
        |> capture 2
    else s
  | none => s

end Sys2Proof.Machine
end

