-- ==== Sys2Proof/Machine/StoreDone.lean ====
section
/-! DEFINITION. What the end of an NVMe command does: success, error after two retries, time-out, and the loss of the
store (R426 to R433, R437). -/

namespace Sys2Proof.Machine

/-- A directory change ends without effect; those that wait begin. -/
def dropChange (w : Nat × Nat × Nat) (f : NvFail) (s : State) : State :=
  let s := f.end_ w (setStore { s.store with changing := none } s)
  serveChanges s.store.queued s

/-- The Flush of a shutdown has ended. -/
def endFlush (s : State) : State := setStore { s.store with flushed := true } s

/-- Once the Flush has ended and no I/O command is outstanding, STP deletes the queues and sets CC.SHN (R426, R428). -/
def stopController (s : State) : State :=
  if s.store.shutting && s.store.flushed && !s.store.shn && s.store.nvme.all (fun c => decide (c.queue = 0)) then
    sendAdmin 0 1 s |> sendAdmin 0 2 |> sendAdmin 4 1 |> sendAdmin 4 2 |> emit .controllerShutdown
      |> (fun s => setStore { s.store with shn := true } s)
  else s

/-- A write of the log has failed: its records stay, and a shutdown goes on to its Flush. -/
def logFails (s : State) : State := if s.store.shutting then nvFlush .shutFlush s else s

/-- The Asynchronous Event Request that is always outstanding (R426). -/
def askEvent (s : State) : State := sendNvme 0 0x0C 0 0 [] .event s

/-- An uncorrectable hold line is lost: it cannot be read again from the store. -/
def holdLost (line : Nat) (s : State) : State :=
  postEvent .device 0x0EF0 0x50 1 (dataAt 24 4 ||| dataAt 25 2 ||| dataAt 28 line) s

/-- A hold line has been read again from the store: its bytes of the frame are rewritten (R418). A Meander frame is decoded
once more, and is lost when a check of R453 fails. -/
def holdRepaired (item line frame : Nat) (bs : List Byte) (s : State) : State :=
  match allocAt s .hold line, tabGet (fun _ => none) s.hold.items item with
  | some e, some h =>
    let r := h.repairBytes frame e.2
    let stored := bs.take (h.stored.getD frame 0)
    let new : Option (List Byte) :=
      if h.coded then (decodeStream (stored.length + 1) 0 false stored []).map (fun ws => ((wordBytes ws).drop r.1).take (r.2 - r.1))
      else some ((bs.drop (r.1 % 4096)).take (r.2 - r.1))
    let old := h.frames.getD frame []
    match new with
    | some b =>
      let f := old.take r.1 ++ b ++ old.drop (r.1 + b.length)
      let h2 : HoldItem := { h with frames := h.frames.set frame f }
      if e.1.tag = item ∧ s.rsv.badLines.contains (4, line) = true then
        { setHold { s.hold with items := tabSet (fun _ => none) s.hold.items item (some h2) } s with
          rsv := { s.rsv with badLines := s.rsv.badLines.filter (fun b => b != (4, line)) } }
      else s
    | none => holdLost line s
  | _, _ => s

/-- A command has failed for good: what it was for ends so. -/
def failUse (u : NvUse) (f : NvFail) (s : State) : State :=
  match u with
  | .mountRead => mountFails 5 s
  | .format _ => mountFails 5 s
  | .logMerge _ => logFails s
  | .logWrite _ => logFails s
  | .logHead => logFails s
  | .logFlush => logFails s
  | .hostRead p q n => f.end_ (p, q, n) s
  | .hostWrite p q n => f.end_ (p, q, n) s
  | .logRead p q n _ _ => f.end_ (p, q, n) s
  | .dealloc p q n => dropChange (p, q, n) f s
  | .dir _ p q n => dropChange (p, q, n) f s
  | .load p q n => dropLoad (p, q, n) s |> f.end_ (p, q, n) |> recordMissing |> idleOpcodes
  | .manifest => bootFailure 0x31 0xFF 0 s |> loadsEnd
  | .bootImage i => bootImageFails i s
  | .holdTable item => endStage item false f.end_ s
  | .holdItem item => endStage item false f.end_ s
  | .holdRepair _ line _ => holdLost line s
  | .codec lane p q n => if codecFor s lane (p, q, n) then failCodec lane f s else s
  | .record => s
  | .smart => s
  | .errorLog => s
  | .event => if f = .absent then s else askEvent s
  | .admin => s
  | .shutFlush => endFlush s

/-- The bytes of a STORE_READ go to the host (R164). -/
def hostReadDone (w : Nat × Nat × Nat) (bs : List Byte) (s : State) : State :=
  match dscOf s w.1 w.2.1 w.2.2 with
  | some d => emit (.dma d.port (d.u64 32) bs) s |> monitorAdd d.port bs.length |> completeI d .ok (resAt 16 bs.length)
  | none => s

/-- The step of a directory change after step k has ended (R432). -/
def dirStep (k : Nat) (c : DirChange) (s : State) : State :=
  match k with
  | 1 => nvFlush (.dir 2 c.port c.sq c.seq) s
  | 2 => writeSuper c s
  | 3 => nvFlush (.dir 4 c.port c.sq c.seq) s
  | _ => endChange c s

/-- The input of a codec job's next block has been read. -/
def codecRead (lane : Nat) (w : Nat × Nat × Nat) (bs : List Byte) (s : State) : State :=
  match (cdcOf s lane).job with
  | some j =>
    if (j.port, j.sq, j.seq) = w then
      setCdc lane { cdcOf s lane with job := some { j with data := some ((bs.drop (j.pos % 4096)).take (nextInput j)) } } s
    else s
  | none => s

/-- An image has been read for a load. -/
def imageRead (w : Nat × Nat × Nat) (bs : List Byte) (s : State) : State :=
  setTables { s.tables with loads := s.tables.loads.map (fun l =>
    if (l.port, l.sq, l.seq) = w then { l with data := some bs } else l) } s

/-- A command has succeeded: what it was for goes on. -/
def doneUse (c : NvCmd) (bs : List Byte) (s : State) : State :=
  match c.use with
  | .mountRead => metadataRead bs s
  | .format k => formatStep k s
  | .logMerge k => mergeLog k bs s
  | .logWrite k => setStore { s.store with logBuf := s.store.logBuf.drop k } s |> writeHead
  | .logHead => nvFlush .logFlush s
  | .logFlush => goOnShutting s
  | .hostRead p q n => hostReadDone (p, q, n) bs s
  | .hostWrite p q n => endDsc (p, q, n) .ok (resAt 16 c.data.length) s
  | .dealloc _ _ _ => match s.store.changing with
    | some ch => writeDir ch s
    | none => s
  | .dir k _ _ _ => match s.store.changing with
    | some ch => dirStep k ch s
    | none => s
  | .load p q n => imageRead (p, q, n) bs s
  | .manifest => manifestRead bs s
  | .bootImage i => bootImageRead i bs s
  | .holdTable item => holdTableRead item bs s
  | .holdItem item => holdItemRead item c.lba bs s
  | .holdRepair item line frame => holdRepaired item line frame bs s
  | .codec lane p q n => codecRead lane (p, q, n) bs s
  | .logRead p q n k m => logEntriesRead (p, q, n) k m bs s
  | .record => s
  | .smart => smartRead bs s
  | .errorLog => s
  | .event => askEvent s
  | .admin => s
  | .shutFlush => endFlush s

/-- A command that has gone out. -/
def cmdOf (s : State) (cid : Nat) : Option NvCmd := s.store.nvme.find? (fun c => decide (c.cid = cid) && !c.held)

/-- A command is over, and those it held back go out. -/
def dropCmd (cid : Nat) (s : State) : State := sendHeld [] (s.store.nvme.filter (fun c => c.cid != cid)) s

/-- An I/O command that reads. -/
def NvCmd.reads (c : NvCmd) : Bool := decide (c.queue ≠ 0 ∧ c.op = 2)

/-- I/O reads and writes are counted, and their data measured (R495, R502). -/
def countIo (c : NvCmd) (s : State) : State :=
  if c.queue = 0 then s
  else if c.op = 2 then countEvent 0x14 0x10 1 s |> monitorAdd 4 (4096 * c.lbas)
  else if c.op = 1 then countEvent 0x14 0x11 1 s |> monitorAdd 4 c.data.length
  else s

/-- The error of a command that has failed three times (R437); the error log is read for it (R426). -/
def storeError (c : NvCmd) (status : Nat) (s : State) : State :=
  let s := setFlag Flag.STP_cmd_err s |> postEvent .device 0x06F2 0x14 1
    (dataAt 24 c.op ||| dataAt 25 c.queue ||| dataAt 26 (status % 65536) ||| dataAt 28 (c.lba % 2 ^ 32))
  if c.use = .errorLog then s else sendNvme 0 2 1 0 [] .errorLog s

/-- NVME_COMPLETION (R437) of a command: status 0 is success, and a read then carries its bytes. -/
def execNvmeCompletion (cid status : Nat) (data : List Byte) (s : State) : Host.Outcome State Fault Refusal :=
  match cmdOf s cid with
  | none => .next s
  | some c =>
    if status = 0 then
      if c.reads && decide (data.length ≠ 4096 * c.lbas) then .next s
      else .next (fatalRecovered (stopController (doneUse c data (countIo c (dropCmd cid s)))))
    else if c.tries < 2 then
      .next (emit c.out (setStore { s.store with nvme := s.store.nvme.map (fun e =>
        if e.cid = cid then { e with tries := e.tries + 1 } else e) } s))
    else .next (stopController (failUse c.use (.status (status % 65536)) (storeError c status (dropCmd cid s))))

/-- NVME_COMMAND_TIMEOUT (R165, R426): the command has been outstanding for 10 s. The event request is outstanding always, so no
time ends it. -/
def execNvmeCommandTimeout (cid : Nat) (s : State) : Host.Outcome State Fault Refusal :=
  match cmdOf s cid with
  | none => .next s
  | some c =>
    if c.use = .event then .next s
    else .next (stopController (failUse c.use .timeout (sendAdmin 8 cid (dropCmd cid s))))

/-- Every command of the store and every change that waits fails for want of a store; a mount just ends. -/
def failAll (cmds : List NvCmd) (waiting : List (Nat × Nat × Nat)) (s : State) : State :=
  let s := cmds.foldl (fun s c => match c.use with
    | .mountRead => s
    | .format _ => s
    | u => failUse u .absent s) s
  waiting.foldl (fun s w => NvFail.absent.end_ w s) s

/-- What has read the store and goes on from the bytes in the device ends with NOT_READY as well: loads, hold items and codec jobs
(R427). -/
def dropRead (s : State) : State :=
  let s := (s.tables.loads.filter (fun l => l.data.isSome)).foldl (fun s l =>
    dropLoad (l.port, l.sq, l.seq) s |> endDsc (l.port, l.sq, l.seq) .notReady 0 |> recordMissing |> idleOpcodes) s
  let s := s.hold.staging.foldl (fun s e => endStage e.1 false NvFail.absent.end_ s) s
  (List.range 8).foldl (fun s n => match (cdcOf s n).job with
    | some j => if j.store then failCodec n .absent s else s
    | none => s) s

/-- The store goes out of service, its commands with it. -/
def storeGone (s : State) : State :=
  setStore { s.store with mounted := false, controller := false, shutting := false, flushed := false, shn := false, nvme := [],
                          queued := [] } s
    |> followStore |> askUnit 0x14 2

/-- STORE_LOST (R427): reason 1 the link went down, 6 the controller reports fatal status. -/
def execStoreLost (reason : Nat) (s : State) : Host.Outcome State Fault Refusal :=
  if rdB s Reg.STP_STAT Fld.STP_STAT_link_up = false ∨ (reason ≠ 1 ∧ reason ≠ 6) then .next s
  else
    let was := s.store.mounted
    let cmds := s.store.nvme
    let waiting := s.store.queued
    let s := storeGone s |> wrF Reg.STP_STAT Fld.STP_STAT_reason reason
      |> wrF Reg.STP_STAT Fld.STP_STAT_link_up (b2n (decide (reason ≠ 1)))
    let s := if was then setFlag Flag.STP_lost s |> postEvent .device 0x06F1 0x14 2 (dataAt 24 reason) else s
    let s := failAll cmds waiting s |> dropRead
    .next (if loadsWait s then loadsEnd s else s)

end Sys2Proof.Machine
end

