-- ==== Sys2Proof/Machine/Boot.lean ====
section
/-! DEFINITION. Power-up, straps, the boot sequence, HOLD, recovery and TOP_RESET (R50 to R57, R69 to R89, R568). -/

namespace Sys2Proof.Machine

def setBoot (b : BootState) (s : State) : State := { s with boot := b }

/-! ### Power and rails (R52, R55 to R57) -/

/-- VDD_AON_POWER_UP (R55 step 1): the AON domain comes up with its registers at their reset values; RESET_N is low. -/
def execVddAonPowerUp (s : State) : Host.Outcome State Fault Refusal :=
  if s.boot.phase = .aonOff then .next (setBoot { s.boot with phase := .held } s) else .next s

/-- VDD_AON_LOSS (R57): the AON domain resets with everything else; fuses alone stay. -/
def execVddAonLoss (s : State) : Host.Outcome State Fault Refusal :=
  let r := restart true s
  .next { r with regs := [], power := {}, fault := {}, boot := { phase := .aonOff } }

/-- RESET_N_LOW (R46, R69). -/
def execResetNLow (s : State) : Host.Outcome State Fault Refusal :=
  if s.boot.phase = .aonOff then .next s
  else
    let r := restart true s
    .next (setBoot { r.boot with phase := .held } r)

/-- POWER_ON (R52, R55, R69) with BSCAN_EN as RESET_N rises. -/
def execPowerOn (bscan : Bool) (s : State) : Host.Outcome State Fault Refusal :=
  if s.boot.phase = .held then
    let s := powerStart (setBoot { s.boot with bscan := bscan } s)
    .next (if bscan then setBoot { s.boot with phase := .boardTest, board := true } s else s)
  else .next s

/-- The rail that board-test mode sequences after rail n (R52). -/
def boardRail : Nat → Option Nat
  | 0 => some 2
  | 2 => some 6
  | _ => none

/-- Every rail is at power-good: the PLLs lock and the boot ROM starts. -/
def railsGood (s : State) : State :=
  let s := if s.boot.retried then wrF Reg.AON_STATUS Fld.AON_STATUS_rail_retry 1 s else s
  setStage 2 .rom s

/-- The rail after rail n is commanded on, and VDDIO is followed by the straps when this start has not sampled them
(R50, R52, R55 steps 3 and 4). -/
def afterRail (n : Nat) (s : State) : State :=
  if n = 0 ∧ ¬ s.straps.sampled then setBoot { s.boot with phase := .straps } s
  else if s.boot.board then
    let s := setBoot { s.boot with phase := .boardTest } s
    match boardRail n with
    | some r => railOn r s
    | none => s
  else if n < 7 then
    let s := railOn (n + 1) s
    setBoot { s.boot with phase := .rail (n + 1) } s
  else railsGood s

/-- The next rail of an exit from SLEEP or DEEP, once rail n is at power-good (R526, R527, R534). -/
def nextExitRail (x : Exit) (s : State) : State :=
  match x.rails with
  | _ :: r :: rest =>
    railOn r (setPower { s.power with exit := some { x with rails := r :: rest, raised := r :: x.raised } } s)
  | _ => setPower { s.power with exit := some { x with rails := [] } } s

/-- A rail missed power-good: the sequence is repeated once, and then only VDD_AON stays on (R56). -/
def railMissed (n : Nat) (s : State) : State :=
  if s.boot.retried then loseRails .railsOff s |> wrF Reg.AON_STATUS Fld.AON_STATUS_failed_rail (n + 1)
  else
    let s := railsOff s
    setBoot { s.boot with phase := .retryWait, retried := true } s

/-- A rail missed power-good at a wake (R56, R534): the rails that the exit has enabled go off, the newest first, and the
sequence is repeated once after the wait; at the second miss only VDD_AON stays on. -/
def exitRailMissed (x : Exit) (n : Nat) (s : State) : State :=
  if x.retried then loseRails .railsOff s |> wrF Reg.AON_STATUS Fld.AON_STATUS_failed_rail (n + 1)
  else
    let s := x.raised.foldl (fun s r => railOff r s) s
    let again : Exit := { x with rails := x.raised.reverse ++ x.rails.drop 1, raised := [], retried := true, waiting := true }
    setPower { s.power with exit := some again } s

/-- RAIL_POWER_GOOD_TIMEOUT (R56). -/
def execRailPowerGoodTimeout (n : Nat) (s : State) : Host.Outcome State Fault Refusal :=
  match s.boot.phase with
  | .rail m => if n = m then .next (railMissed n s) else .next s
  | .boardTest => if s.power.rails.head? = some n then .next (railMissed n s) else .next s
  | _ =>
    match s.power.exit with
    | some x => if x.rails.head? = some n ∧ x.waiting = false then .next (exitRailMissed x n s) else .next s
    | none => .next s

/-- A VOUT_MODE byte names ULINEAR16: mode 0 in bits 7 to 5 (PRESUMED from the PMBus specification, log entry 152). -/
def ulinear16 (mode : Nat) : Bool := decide (mode / 32 = 0)

/-- RAIL_POWER_GOOD (R55, R534) of rail n of R534: STATUS_WORD has shown it. A regulator that reports another format than
ULINEAR16 counts as a rail that failed power-good. In any other phase of boot an exit from SLEEP or DEEP may wait for the rail. -/
def execRailPowerGood (r : RailReport) (s : State) : Host.Outcome State Fault Refusal :=
  let n := r.rail
  if !ulinear16 r.voutMode then execRailPowerGoodTimeout n s
  else match s.boot.phase with
  | .rail m => if n = m then .next (emit (.pmbusRead n 0x79) s |> afterRail n) else .next s
  | .boardTest =>
    if s.power.rails.head? = some n then .next (emit (.pmbusRead n 0x79) s |> afterRail n) else .next s
  | _ =>
    match s.power.exit with
    | some x =>
      if x.rails.head? = some n ∧ x.waiting = false then .next (emit (.pmbusRead n 0x79) s |> nextExitRail x) else .next s
    | none => .next s

/-- RAIL_RETRY_WAIT (R56, R541): the sequence again after a missed power-good; after a fault of class 2 a start, which
the fatal reason bit describes (R85). -/
def execRailRetryWait (s : State) : Host.Outcome State Fault Refusal :=
  if s.boot.phase ≠ .retryWait then
    match s.power.exit with
    | some x =>
      if x.waiting then
        let begun := fun r => { x with waiting := false, raised := [r] }
        .next (match x.rails with
          | r :: _ => railOn r (setPower { s.power with exit := some (begun r) } s)
          | [] => s)
      else .next s
    | none => .next s
  else if s.boot.retried then
    let s := railOn 0 s
    .next (setBoot { s.boot with phase := if s.boot.board then .boardTest else .rail 0 } s)
  else
    let s := powerStart s |> setReason [8]
    .next { s with fault := { s.fault with recovering := some 2 } }

/-- STRAP_SAMPLE (R50, R55 step 3): once per start, after VDDIO has reached power-good; the next rail follows it. -/
def execStrapSample (ownerSel : Nat) (merge01 merge23 : Bool) (bmcAddr : Nat) (s : State) : Host.Outcome State Fault Refusal :=
  if s.boot.phase = .straps ∧ s.straps.sampled = false then
    .next (afterRail 0 { s with straps :=
      { ownerSel := ownerSel % 4, merge01 := merge01, merge23 := merge23, bmcAddr := bmcAddr % 4, sampled := true } })
  else .next s

/-! ### The firmware image (R73 step 2, R77, R88) -/

/-- Room of a slot and of the staging area (R87, R85). -/
def slotRoom : Nat := 16777216

/-- A slot's image as R92 judges it; a slot that a flash write left broken fails (R177, R568). -/
def judgeSlot (s : State) (slot : Nat) (img : List Byte) : Verdict :=
  if s.sec.broken.contains slot then .reject else verifyImage s img 1 slotRoom

/-- Firmware runs, from slot 0 or 1, or from the staging area as 2: boot goes on with step 3 of R73, and STP_PERST_N goes
low. The build number is not derived from the image by any rule: a free value. -/
def runFirmware (source : Nat) (recovery : Bool) (img d : List Byte) (s : State) : State :=
  let r := freeBelow 65536 s
  let info := fwInfo img d r.1
  let s := r.2 |> wrF Reg.BOOT_STATUS Fld.BOOT_STATUS_fw_source source
    |> wrF Reg.BOOT_STATUS Fld.BOOT_STATUS_recovery_active (b2n recovery)
    |> wrF Reg.BOOT_FW_VERSION (0, 16) info.securityVersion |> wrF Reg.BOOT_FW_VERSION (16, 16) info.build
    |> setStage 4 (.clear false)
  setBoot { s.boot with running := info, perstN := some false } s

/-- No image runs: the memories are cleared and trained on the way to RECOVERY_WAIT (R88). -/
def toRecovery (s : State) : State := setStage 4 (.clear true) s

/-- What a slot's failed verification records at once: sig_fail, and ROLLBACK for a version below the minimum (R77). -/
def slotFails (slot : Nat) (img : List Byte) (v : Verdict) (s : State) : State :=
  let s := setFlag Flag.SEC_sig_fail s
  match v with
  | .rollback => bootFailure 0x13 slot (imageVersion img) s
  | _ => s

/-- The candidates are tried in order; first is the slot that failed before this one. -/
def trySlots : Option Nat → List (Nat × List Byte) → State → State
  | _, [], s => bootFailure 0x12 0xFF 0 s |> toRecovery
  | first, (slot, img) :: rest, s =>
    match judgeSlot s slot img with
    | .accept d =>
      let s := match first with
        | some f => bootFailure 0x11 f 0 s
        | none => s
      runFirmware slot first.isSome img d s
    | v => trySlots (some (first.getD slot)) rest (slotFails slot img v s)

/-- Candidates, the one with the larger update_seq first and slot A on a tie (R88). -/
def bootOrder (a b : List Byte) : List (Nat × List Byte) :=
  let ca := if isCandidate a then [(0, a)] else []
  let cb := if isCandidate b then [(1, b)] else []
  if imageUpdateSeq a < imageUpdateSeq b then cb ++ ca else ca ++ cb

/-- update_seq of a slot's header; 0 without a candidate header (R572). -/
def slotSeq (img : List Byte) : Word := if isCandidate img then BitVec.ofNat 32 (imageUpdateSeq img) else 0

/-- BOOT_IMAGE_VERIFIED (R88): the flash identified itself and was read, and what slots A and B hold. -/
def execBootImageVerified (identified : Bool) (slotA slotB : List Byte) (s : State) : Host.Outcome State Fault Refusal :=
  if s.boot.phase ≠ .rom then .next s
  else
    let s := wrF Reg.BOOT_STATUS Fld.BOOT_STATUS_stage 2 s
    if !identified then .next (bootFailure 0x14 0xFF 0 s |> toRecovery)
    else
      let s := s |> wr Reg.SEC_SEQ_A (slotSeq slotA) |> wr Reg.SEC_SEQ_B (slotSeq slotB)
      let order := bootOrder slotA slotB
      if order = [] then .next (bootFailure 0x10 0xFF 0 s |> toRecovery)
      else .next (trySlots none order (wrF Reg.BOOT_STATUS Fld.BOOT_STATUS_stage 3 s))

/-! ### Clear, training and lanes (R73 steps 3 to 6, R77, R545) -/

/-- BOOT_CLEAR_DONE. -/
def execBootClearDone (ok : Bool) (s : State) : Host.Outcome State Fault Refusal :=
  match s.boot.phase with
  | .clear r => if ok then .next (setStage 5 (.rsvTrain r) s) else .next (bootFailure 0x21 0xFF 0 s |> enterStopped)
  | _ => .next s

/-- RSV_TRAIN_DONE: the Reservoir is in service, and its scrubber starts (R417). -/
def execRsvTrainDone (ok : Bool) (s : State) : Host.Outcome State Fault Refusal :=
  match s.boot.phase with
  | .rsvTrain r =>
    if !ok then .next (bootFailure 0x20 0xFF 0 s |> enterStopped)
    else
      let s := wrF Reg.RSV_STAT Fld.RSV_STAT_trained 1 s |> wrF Reg.RSV_STAT Fld.RSV_STAT_scrubbing 1
      .next (if r then setStage 0xE .recoveryWait s else setStage 6 .lanes s)
  | _ => .next s

/-- LANE_CALIBRATION_DONE: the global set-up blocks answer. The third fatal device reset within 600 s ends the start
here (R545). Boot loads begin once the store has been mounted, and end at once when its mount has failed. -/
def execLaneCalibrationDone (s : State) : Host.Outcome State Fault Refusal :=
  if s.boot.phase ≠ .lanes then .next s
  else
    let s := setBoot { s.boot with lanesDone := true } s
    if s.fault.recovering.isSome ∧ 3 ≤ recentResets s then
      .next (wrF Reg.FAULT_STAT Fld.FAULT_STAT_repeat_stop 1 s |> enterStopped)
    else
      let s := setStage 7 .load s
      if s.store.mounted then .next (beginLoads s)
      else if rdF s Reg.STP_STAT Fld.STP_STAT_reason ≠ 0 then .next (loadsEnd s)
      else .next s

/-- STP_PERST_RELEASE (R46, R73 step 6). -/
def execStpPerstRelease (s : State) : Host.Outcome State Fault Refusal :=
  if s.boot.perstN = some false then .next (setBoot { s.boot with perstN := some true } s) else .next s

/-! ### READY and HOLD (R73 step 9, R76, R78, R83, R84) -/

/-- READY is set, ms after the start began: held failures go to the rings that are enabled, demura maps load (R80), and a
fatal restart has ended. -/
def setReady (ms : Nat) (s : State) : State :=
  let s := s |> wrF Reg.BOOT_STATUS Fld.BOOT_STATUS_ready 1 |> setStage 9 .ready |> wr Reg.BOOT_TIME (BitVec.ofNat 32 ms)
    |> wrF Reg.BOOT_CTRL Fld.BOOT_CTRL_hold 0 |> followHold
  let s := { s with fault := { s.fault with pinHeld := false } }
  let s := [0, 1, 2, 3].foldl (fun s p => tellFailures p s) s
  s |> activateDefault 0x10F00000 splitSection |> activateDefault 0x12F00000 filterSection
    |> activateDefault 0x24F00000 riffleSection |> followWindow
    |> nextDemura s.store.deferred |> recordMissing |> fatalRecovered

/-- READY (R73 step 9): the boot loads have ended, ms after the start began. -/
def execReady (ms : Nat) (s : State) : Host.Outcome State Fault Refusal :=
  if s.boot.phase = .load ∧ s.boot.loadsDone = true then
    .next (if rdB s Reg.BOOT_CTRL Fld.BOOT_CTRL_hold then setStage 8 .hold s else setReady ms s)
  else .next s

/-- HOLD ends because its limit has: HOLD_LIMIT is recorded and READY set. -/
def holdLimit (ms : Nat) (s : State) : State := bootFailure 0x41 0xFF 0 s |> setReady ms

/-- BOOT_HOLD_LIMIT_EXPIRY (R76), ms after the start began. -/
def execBootHoldLimitExpiry (ms : Nat) (s : State) : Host.Outcome State Fault Refusal :=
  if s.boot.phase = .hold ∧ rd s Reg.BOOT_HOLD_LIMIT ≠ 0 then .next (holdLimit ms s) else .next s

/-- BOOT_CTRL_HOLD (R76, R84). -/
def execBootCtrlHold (port : Nat) (val : Word) (s : State) : Host.Outcome State Fault Refusal :=
  if bootWrites s port && !ready s then .next (writeRw Reg.BOOT_CTRL val s) else .next s

/-- BOOT_CTRL_RELEASE (R76, R84), ms after the start began. -/
def execBootCtrlRelease (port ms : Nat) (s : State) : Host.Outcome State Fault Refusal :=
  if bootWrites s port && decide (s.boot.phase = .hold) then .next (setReady ms s) else .next s

/-- BOOT_HOLD_LIMIT_WRITE (R76): elapsed ms have been spent in HOLD, and ms since the start began. -/
def execBootHoldLimitWrite (port : Nat) (val : Word) (elapsed ms : Nat) (s : State) : Host.Outcome State Fault Refusal :=
  if !bootWrites s port || ready s then .next s
  else
    let s := wr Reg.BOOT_HOLD_LIMIT val s
    if s.boot.phase = .hold ∧ val ≠ 0 ∧ val.toNat ≤ elapsed then .next (holdLimit ms s) else .next s

/-! ### Recovery (R84, R85, R89) -/

/-- The owner stages an image: only in RECOVERY_WAIT, and not while one is being verified. -/
def mayStage (s : State) (port : Nat) : Bool :=
  bootWrites s port && decide (s.boot.phase = .recoveryWait) && !rdB s Reg.BOOT_XFER_CTRL Fld.BOOT_XFER_CTRL_busy

/-- BOOT_XFER_OPEN (R85). -/
def execBootXferOpen (port : Nat) (s : State) : Host.Outcome State Fault Refusal :=
  if mayStage s port then .next (setBoot { s.boot with staging := [], stagedLen := 0 } s) else .next s

/-- Bytes placed in the staging area from an offset on. -/
def stageBytes (o : Nat) (bs : List Byte) (t : Tab Byte) : Tab Byte :=
  bs.zipIdx.foldl (fun t e => tabSet (fun _ => 0) t (o + e.2) e.1) t

/-- BOOT_XFER_DATA_WRITE (R12, R85, R89) of whole words from offset off of the data window. -/
def execBootXferDataWrite (port off : Nat) (data : List Byte) (s : State) : Host.Outcome State Fault Refusal :=
  let o := rdF s Reg.BOOT_XFER_OFFSET Fld.BOOT_XFER_OFFSET_offset
  if mayStage s port && decide (off % 4 = 0 ∧ data.length % 4 = 0 ∧ off + data.length ≤ 2048 ∧ o % 2048 = 0 ∧ data ≠ []) then
    .next (setBoot { s.boot with staging := stageBytes (o + off) data s.boot.staging,
                                 stagedLen := max s.boot.stagedLen (o + off + data.length) } s)
  else .next s

/-- BOOT_CTRL_RECOVERY_GO (R84, R89). -/
def execBootCtrlRecoveryGo (port : Nat) (s : State) : Host.Outcome State Fault Refusal :=
  if mayStage s port then
    .next (wrF Reg.BOOT_XFER_CTRL Fld.BOOT_XFER_CTRL_busy 1 s |> wrF Reg.BOOT_XFER_CTRL Fld.BOOT_XFER_CTRL_result_valid 0
      |> wrF Reg.BOOT_XFER_CTRL Fld.BOOT_XFER_CTRL_result_ok 0)
  else .next s

/-- The staged image. -/
def stagedImage (s : State) : List Byte := (List.range s.boot.stagedLen).map (fun i => tabGet (fun _ => 0) s.boot.staging i)

/-- RECOVERY_VERIFY_DONE (R77, R89, R92). -/
def execRecoveryVerifyDone (s : State) : Host.Outcome State Fault Refusal :=
  if s.boot.phase ≠ .recoveryWait ∨ rdB s Reg.BOOT_XFER_CTRL Fld.BOOT_XFER_CTRL_busy = false then .next s
  else
    let img := stagedImage s
    let s := wrF Reg.BOOT_XFER_CTRL Fld.BOOT_XFER_CTRL_busy 0 s |> wrF Reg.BOOT_XFER_CTRL Fld.BOOT_XFER_CTRL_result_valid 1
    match verifyImage s img 1 slotRoom with
    | .accept d => .next (wrF Reg.BOOT_XFER_CTRL Fld.BOOT_XFER_CTRL_result_ok 1 s |> runFirmware 2 true img d)
    | v => .next (slotFails 2 img v s |> bootFailure 0x40 2 0)

/-! ### TOP_RESET (R568) -/

/-- TOP_RESET: in SLEEP the device wakes first, and the reset waits for RUN. -/
def execTopReset (port key : Nat) (s : State) : Host.Outcome State Fault Refusal :=
  if !ownerWrites s port || decide (key % 65536 ≠ 0x5A5A) then .next s
  else if s.power.state = .sleep ∧ s.power.entry = none then
    .next (wakeUp { source := 3, port := port } 4 (setPower { s.power with resetAtRun := true } s))
  else .next (ownerReset s)

end Sys2Proof.Machine
end

