-- ==== Sys2Proof/Machine/Sec.lean ====
section
/-! DEFINITION. The security core (R93 to R99, R103, R176, R177, R571, R572). -/

namespace Sys2Proof.Machine

def setSec (v : SecState) (s : State) : State := { s with sec := v }

/-! ### Attestation and the certificate (R97, R98) -/

/-- Bytes 0 to 335 of an attestation report. -/
def reportBody (s : State) (nonce : List Byte) : List Byte :=
  let flag := fun (i : Nat) (b : Bool) => b2n b * 2 ^ i
  let source := rdF s Reg.BOOT_STATUS Fld.BOOT_STATUS_fw_source
  leBytes 4 0x4158524C ++ leBytes 2 1 ++
  leBytes 2 (flag 0 s.fuses.testMark + flag 1 (rdB s Reg.BOOT_STATUS Fld.BOOT_STATUS_recovery_active) +
    flag 2 (decide (source = 2)) + flag 3 (rdB s Reg.BOOT_STATUS Fld.BOOT_STATUS_degraded) +
    flag 4 (rdB s Reg.BOOT_STATUS Fld.BOOT_STATUS_panel_blocked)) ++
  leBytes 8 s.fuses.serial.toNat ++ leBytes 8 (sfn s) ++ (now s).bytes ++ leBytes 1 source ++ leBytes 1 (slotStates s) ++
  leBytes 2 s.boot.running.securityVersion ++ nonce ++ measurements s ++ leBytes 8 0

/-- SEC_ATTEST (R98, R176). -/
def execSecAttest (port sq seq : Nat) (s : State) : Host.Outcome State Fault Refusal :=
  withReady port sq seq 0x0D01 (fun d s =>
    let body := reportBody s (leBytes 32 (d.get 24 32))
    let report := body ++ leBytes 1280 (Config.falconSign s.fresh (shake256 body 64)).toNat
    emit (.dma d.port (d.u64 16) report) (tick s) |> monitorAdd d.port 1616 |> completeI d .ok 0) s

/-- The 3,120 bytes of the identity certificate. -/
def certificate (s : State) : List Byte :=
  leBytes 4 0x4358524C ++ leBytes 2 1 ++ leBytes 2 s.fuses.orderingCode ++ leBytes 8 s.fuses.serial.toNat ++ leBytes 1 0xB0 ++
    leBytes 7 0 ++ leBytes 1809 Config.certBody.toNat ++ leBytes 7 0 ++ leBytes 1280 Config.certSignature.toNat

/-- SEC_CERT (R97, R176). -/
def execSecCert (port sq seq : Nat) (s : State) : Host.Outcome State Fault Refusal :=
  withReady port sq seq 0x0D07 (fun d s =>
    emit (.dma d.port (d.u64 16) (certificate s)) s |> monitorAdd d.port 3120 |> completeI d .ok 0) s

/-! ### Challenges and key slots (R94 to R96, R177) -/

/-- An unused challenge goes. -/
def lapse (s : State) : State :=
  match s.sec.challenge with
  | some _ => setFlag Flag.SEC_challenge_lapsed (setSec { s.sec with challenge := none } s)
  | none => s

/-- SEC_CHALLENGE. -/
def execSecChallenge (port sq seq : Nat) (s : State) : Host.Outcome State Fault Refusal :=
  withReady port sq seq 0x0D02 (fun d s =>
    let c := Config.challenge s.fresh
    let s := tick (lapse s)
    setSec { s.sec with challenge := some (d.port, c) } s |> emit (.dma d.port (d.u64 16) (leBytes 32 c.toNat))
      |> monitorAdd d.port 32 |> completeI d .ok 0) s

/-- CHALLENGE_EXPIRY. -/
def execChallengeExpiry (s : State) : Host.Outcome State Fault Refusal := .next (lapse s)

/-- SEC programs fuses for a descriptor. -/
def beginFuse (op : FuseOp) (d : Dsc) (s : State) : State :=
  setRunning d (setSec { s.sec with fuse := some (op, d.port, d.sq, d.seq) } s)

/-- The slot a SEC_ENROL names or, for 0, the lowest empty one. -/
def enrolSlot (s : State) (slot : Nat) : Option Nat :=
  if slot = 0 then [1, 2, 3].find? (fun k => decide (slotState s k = 0)) else some slot

/-- SEC_ENROL (R95, R177) with the 3,073 bytes of the key and its signature, none after a read error. It uses up the
challenge; while SEC programs fuses it waits. A named slot that is not empty gives REFUSED even when no slot is empty: R177 gives
both statuses and no order (the model's choice, log entry 156). -/
def execSecEnrol (port sq seq : Nat) (data : Option (List Byte)) (s : State) : Host.Outcome State Fault Refusal :=
  withReady port sq seq 0x0D03 (fun d s =>
    if s.sec.fuse.isSome then s
    else match s.sec.challenge with
      | none => complete d .notReady 0 0 s
      | some (p, c) =>
        if p ≠ d.port then complete d .notReady 0 0 s
        else
          let s := setSec { s.sec with challenge := none } s
          match enrolSlot s (d.u8 16) with
          | none => refuseWith d .resource 2 s
          | some k =>
            if slotState s k ≠ 0 then refuseWith d .refused 2 s
            else match data with
              | none => complete d .fetchFault 0 0 s
              | some bs =>
                let s := monitorAdd d.port 3073 s
                if Config.falconVerify (bs.take 1793) (leBytes 32 c.toNat) ((bs.drop 1793).take 1280) then
                  beginFuse (.enrol k (BitVec.ofNat 256 (ofLe (shake256 (bs.take 1793) 32)))) d s
                else complete d .signatureFail 0 0 s) s

/-- SEC_REVOKE (R96, R177). -/
def execSecRevoke (port sq seq : Nat) (s : State) : Host.Outcome State Fault Refusal :=
  withReady port sq seq 0x0D04 (fun d s =>
    if s.sec.fuse.isSome then s
    else if slotState s (d.u8 16) ≠ 1 then refuseWith d .refused 2 s
    else beginFuse (.revoke (d.u8 16)) d s) s

/-- SEC_ROLLBACK (R93, R177). -/
def execSecRollback (port sq seq : Nat) (s : State) : Host.Outcome State Fault Refusal :=
  withReady port sq seq 0x0D06 (fun d s =>
    let target := min s.boot.running.securityVersion 64
    if s.sec.fuse.isSome then s
    else if !s.boot.running.advance then refuseWith d .refused 2 s
    else if target ≤ s.fuses.minVersion then completeI d .ok (resAt 16 s.fuses.minVersion) s
    else beginFuse (.minimum target) d s) s

/-- What a fuse operation's end adds: the result, and KEY_REVOKED. -/
def fuseResult (s : State) : FuseOp → BitVec 96
  | .enrol k _ => resAt 16 k
  | .revoke _ => 0
  | .minimum _ => resAt 16 s.fuses.minVersion

def tellRevoked (op : FuseOp) (s : State) : State :=
  match op with
  | .revoke k => postEvent .device 0x0DF0 2 1 (dataAt 24 k) s
  | _ => s

/-- FUSE_PROGRAMMING_DONE (R572). -/
def execFuseProgrammingDone (s : State) : Host.Outcome State Fault Refusal :=
  match s.sec.fuse with
  | none => .next s
  | some (op, w) =>
    let s := setSec { s.sec with fuse := none } { s with fuses := burnFuse op s.fuses } |> setFlag Flag.SEC_fuse_write
    .next (endDsc w .ok (fuseResult s op) s |> tellRevoked op)

/-! ### Firmware updates (R89, R177) -/

/-- The slot an update writes: the one that did not boot; for a pushed image A first, and then the other each time. -/
def updateSlot (s : State) : Nat :=
  match rdF s Reg.BOOT_STATUS Fld.BOOT_STATUS_fw_source, s.sec.lastSlot with
  | 0, _ => 1
  | 1, _ => 0
  | _, some k => 1 - k
  | _, none => 0

/-- SEC_FW_UPDATE with the image's bytes, none after a read error. While a slot is being written it waits. -/
def execSecFwUpdate (port sq seq : Nat) (data : Option (List Byte)) (s : State) : Host.Outcome State Fault Refusal :=
  withReady port sq seq 0x0D05 (fun d s =>
    if s.sec.flash.isSome then s
    else match data with
      | none => complete d .fetchFault 0 0 s
      | some img =>
        let s := monitorAdd d.port (d.u32 20) s
        match verifyImage s (img.take (d.u32 20)) 1 (d.u32 20) with
        | .accept h =>
          if imageUpdateSeq img ≤ s.boot.running.updateSeq then refuseWith d .refused 2 s
          else
            let k := updateSlot s
            setRunning d (setSec { s.sec with flash := some (k, fwInfo img h 0, d.port, d.sq, d.seq), lastSlot := some k } s)
        | _ => setFlag Flag.SEC_sig_fail s |> complete d .signatureFail 0 0) s

/-- FW_FLASH_WRITE_DONE: the slot holds the image, or after 300 s it is broken. -/
def execFwFlashWriteDone (ok : Bool) (s : State) : Host.Outcome State Fault Refusal :=
  match s.sec.flash with
  | none => .next s
  | some (k, info, w) =>
    let s := setSec { s.sec with flash := none, broken := s.sec.broken.filter (fun b => b != k) } s
    if ok then
      .next (wr (if k = 0 then Reg.SEC_SEQ_A else Reg.SEC_SEQ_B) (BitVec.ofNat 32 info.updateSeq) s
        |> setFlag Flag.SEC_flash_write |> endDsc w .ok (resAt 16 k))
    else .next (setSec { s.sec with broken := k :: s.sec.broken } s |> endDsc w .timeout 0)

/-! ### Private test modes (R103) -/

/-- Layers without the picture data they hold. -/
def clearLayers (t : Tab LayerState) : Tab LayerState :=
  let f := fun (e : Nat × LayerState) => (e.1, { e.2 with version := [], lines := [], ahead := [], fetched := [] })
  (t.map f).filter (fun (e : Nat × LayerState) => decide (e.2 ≠ {}))

/-- The frame being composed without the lines it has and reads. -/
def clearFrame (c : CompFrame) : CompFrame :=
  { c with lines := [], own := c.own.map (fun f => { f with lines := [] }),
           held := c.held.map (fun h => { h with layers := clearLayers h.layers, tables := [] }) }

/-- The memories that R75 clears: everything the Reservoir and the SRAMs hold. A codec job that runs has lost its
dictionary: it ends as a cancelled one does. BOOT_STATUS.degraded keeps its value, though the binds go: the spec does not say
what it reads then (the model's choice, log entry 155). -/
def clearMemories (s : State) : State :=
  let s := (List.range 8).foldl (fun s n => cancelLane n s) s
  let s := { s with
    tables := { loads := s.tables.loads, version := s.tables.version },
    hold := {}, rsv := {}, pipe := {},
    boot := { s.boot with staging := [], stagedLen := 0 },
    fault := { s.fault with record := [], captured := false },
    store := { s.store with logBuf := [] },
    hwl := { s.hwl with frame := s.hwl.frame.map (fun f => { f with lines := [] }) },
    comp := { s.comp with ring := [], layers := clearLayers s.comp.layers, cur := s.comp.cur.map clearFrame,
                          waiting := s.comp.waiting.map (fun f => { f with lines := [] }) },
    lanes := { s.lanes with lane := (s.lanes.lane.map (fun (e : Nat × LaneState) => (e.1, { e.2 with packet := none }))).filter
                              (fun (e : Nat × LaneState) => decide (e.2 ≠ {})) },
    array := { moved := s.array.moved,
               engines := (s.array.engines.map (fun e => (e.1, ({ fenced := e.2.fenced } : Engine)))).filter (fun e => e.2.fenced),
               clusters := (s.array.clusters.map (fun e =>
                 (e.1, ({ fenced := e.2.fenced, clockFenced := e.2.clockFenced } : Cluster)))).filter (fun e => e.2.fenced || e.2.clockFenced) } }
  showActive s |> followDefects

/-- PRIVATE_TEST_MODE_OPEN with Otius's response to a challenge of the serial and 32 random bytes. -/
def execPrivateTestModeOpen (response : List Byte) (s : State) : Host.Outcome State Fault Refusal :=
  let challenge := leBytes 8 s.fuses.serial.toNat ++ leBytes 32 (Config.challenge s.fresh).toNat
  if !mgmtRuns s || s.sec.testMode then .next s
  else if !Config.testAuthority challenge response then .next (tick (emit (.testChallenge challenge) s))
  else
    let s := emit (.testChallenge challenge) s
    let s := tick { s with fuses := { s.fuses with testMark := true } } |> clearMemories
    let cmds := s.store.nvme
    let waiting := s.store.queued
    let s := failAll cmds waiting (storeGone s) |> dropRead
    .next (setSec { s.sec with testMode := true } s |> followBlocked |> recordMissing)

end Sys2Proof.Machine
end

