-- ==== Sys2Proof/Machine/Diag.lean ====
section
/-! DEFINITION. DIAG_UNIT_ENABLE and DIAG_UNIT_FENCE with their acknowledgement (R178, R364, R548 to R551), and the commands
of the BMC (R141, R142). -/

namespace Sys2Proof.Machine

/-! ### Fencing by the owner -/

/-- A unit that the two commands act on (R548). -/
def fenceable (u : Nat) : Bool := decide ((0x40 ≤ u ∧ u ≤ 0x43) ∨ (0xC0 ≤ u ∧ u ≤ 0xDF))

/-- The quadrant of a fenceable unit, and its clusters. -/
def unitQuadrant (u : Nat) : Nat := if u < 0xC0 then u - 0x40 else (u - 0xC0) / 8
def unitClusters (u : Nat) : List Nat := if u < 0xC0 then (List.range 8).map (· + 8 * (u - 0x40)) else [u - 0xC0]

/-- Unfenced engines of a cluster. -/
def unfencedIn (s : State) (c : Nat) : Nat := ((List.range 8).filter (fun i => !engineFenced s (8 * c + i))).length

/-- The fence would leave the unit's role, in use, with no unfenced engine (R548). -/
def lastOfRole (s : State) (u : Nat) : Bool :=
  let r := roleOf s (unitQuadrant u)
  let all := ([0, 1, 2, 3].filter (fun q => decide (roleOf s q = r))).map (unfencedOf s)
  let mine := (unitClusters u).map (unfencedIn s)
  (cellsNow s).contains r && decide (sumNat all ≤ sumNat mine)

/-- The data path fences a unit that is not fenced; its running jobs fall back. No cause of UNIT_FENCED names a command. -/
def fenceUnit (u : Nat) (s : State) : State :=
  let cs := unitClusters u
  if cs.all (fun c => if u < 0xC0 then (clusterOf s c).clockFenced else (clusterOf s c).fenced) then s
  else
    let s := if u < 0xC0 then fenceClocks (u - 0x40) s
      else cs.foldl (fun s c => setCluster c { clusterOf s c with fenced := true, passLeft := none } s
        |> wrF (Reg.ENG_Cc_STAT c) Fld.ENG_Cc_STAT_fenced 1) s
    let s := askUnit u 2 s
    let s := cs.foldl (fun s c => (List.range 8).foldl (fun s i => fallEngine (8 * c + i) 1 s) s) s
    followFences s |> setFlag Flag.FAULT_fence

/-- A command waits for the data path's acknowledgement. -/
def awaitUnit (u : Nat) (enable : Bool) (d : Dsc) (s : State) : State :=
  setRunning d { s with fault := { s.fault with awaiting := s.fault.awaiting ++ [(u, enable, d.port, d.sq, d.seq)] } }

/-- DIAG_UNIT_FENCE (R548). -/
def execDiagUnitFence (port sq seq : Nat) (s : State) : Host.Outcome State Fault Refusal :=
  withReady port sq seq 0x0E03 (fun d s =>
    let u := d.u8 16
    if !fenceable u then refuseWith d .refused u s
    else if lastOfRole s u then refuseWith d .refused (0x40 + unitQuadrant u) s
    else refuseEnables u s |> fenceUnit u |> awaitUnit u false d) s

/-- Regions of a cluster that a patrol pass visits (R364, R551). -/
def patrolRegions : Nat := 1536

/-- DIAG_UNIT_ENABLE (R178, R364, R548): a cluster first runs a patrol pass; a unit in service stays so. -/
def execDiagUnitEnable (port sq seq : Nat) (s : State) : Host.Outcome State Fault Refusal :=
  withReady port sq seq 0x0E02 (fun d s =>
    let u := d.u8 16
    if !fenceable u || decide (dataPathState s u = 4) then refuseWith d .refused u s
    else if u < 0xC0 then awaitUnit u true d s
    else setCluster (u - 0xC0) { clusterOf s (u - 0xC0) with passLeft := some patrolRegions } s |> awaitUnit u true d) s

/-- A quadrant's own fence ends; a cluster of it that is fenced itself stays so. -/
def enableQuadrant (q : Nat) (s : State) : State :=
  let s := (List.range 8).foldl (fun s i =>
    let c := 8 * q + i
    let s := if (clusterOf s c).fenced then s else askUnit (unitOfCluster c) 1 s
    setCluster c { clusterOf s c with clockFenced := false } s
      |> wrF (Reg.ENG_Cc_STAT c) Fld.ENG_Cc_STAT_fenced (b2n (clusterOf s c).fenced)) s
  followFences s |> askUnit (0x40 + q) 1

/-- The data path enables a unit. -/
def enableUnit (u : Nat) (s : State) : State := if u < 0xC0 then enableQuadrant (u - 0x40) s else enableCluster (u - 0xC0) s

/-- Commands that wait for a unit's acknowledgement, and the others. -/
def takeAwaiting (p : Nat × Bool × Nat × Nat × Nat → Bool) (s : State) : List (Nat × Bool × Nat × Nat × Nat) × State :=
  (s.fault.awaiting.filter p, { s with fault := { s.fault with awaiting := s.fault.awaiting.filter (fun a => !p a) } })

/-- DATA_PATH_ACKNOWLEDGE (R178, R548, R551): fences of the unit are acknowledged, and an enable once its pass is clean. -/
def execDataPathAcknowledge (unit : Nat) (s : State) : Host.Outcome State Fault Refusal :=
  let clean := decide (unit < 0xC0) || decide ((clusterOf s (unit - 0xC0)).passLeft = some 0)
  let r := takeAwaiting (fun a => decide (a.1 = unit) && (!a.2.1 || clean)) s
  let s := if r.1.any (fun a => a.2.1) then enableUnit unit r.2 else r.2
  .next (r.1.foldl (fun s a => endDsc a.2.2 .ok 0 s) s)

/-- DIAG_UNIT_ENABLE_TIMEOUT (R178). -/
def execDiagUnitEnableTimeout (unit : Nat) (s : State) : Host.Outcome State Fault Refusal :=
  let r := takeAwaiting (fun a => decide (a.1 = unit) && a.2.1) s
  let s := if unit < 0xC0 ∨ r.1 = [] then r.2
    else setCluster (unit - 0xC0) { clusterOf r.2 (unit - 0xC0) with passLeft := none } r.2
  .next (r.1.foldl (fun s a => endDsc a.2.2 .timeout 0 s) s)

/-! ### The BMC (R141, R142) -/

/-- The target answers STATUS, POWER_REQ and POWER_RESULT: in DEEP the AON responder does. -/
def bmcAnswers (s : State) : Bool := mgmtRuns s || decide (s.power.state = .deep)

/-- Device power in units of 10 mW: the sum over the rails of vout in mV by iout in 10 mA (R534). -/
def devicePower (s : State) : Nat :=
  min 65535 (sumNat ((List.range 8).map (fun n => rdF s (Reg.PWR_RAILn n) Fld.PWR_RAILn_vout * rdF s (Reg.PWR_RAILn n) Fld.PWR_RAILn_iout)) / 1000)

/-- BMC_STATUS. -/
def execBmcStatus (s : State) : Host.Outcome State Fault Refusal :=
  if bmcAnswers s then
    .next (bmcReply [1] (regBytes s [Reg.BOOT_STATUS, Reg.AON_STATUS] ++ leBytes 1 s.power.state.code ++
      leBytes 1 (rdF s Reg.FAULT_STAT Fld.FAULT_STAT_hottest) ++ leBytes 2 (devicePower s) ++ leBytes 4 0) s)
  else .next s

/-- BMC_UNIT_TABLE from a unit ID on. -/
def execBmcUnitTable (first : Nat) (s : State) : Host.Outcome State Fault Refusal :=
  if mgmtRuns s then
    .next (bmcReply [2, BitVec.ofNat 8 first] ((List.range (256 - first % 256)).map (fun i => BitVec.ofNat 8 (unitByte s (first % 256 + i)))) s)
  else .next s

/-- BMC_POWER_RESULT (R513): the result word, and the status and unit of PWR_RESULT_DATA. -/
def execBmcPowerResult (s : State) : Host.Outcome State Fault Refusal :=
  if bmcAnswers s then
    .next (bmcReply [6] (leBytes 2 (rdF s Reg.PWR_RESULT (0, 10)) ++ leBytes 1 (rdF s Reg.PWR_RESULT_DATA (16, 16)) ++
      leBytes 1 (rdF s Reg.PWR_RESULT_DATA (8, 8))) s)
  else .next s

end Sys2Proof.Machine
end

