-- ==== Sys2Proof/Machine/Writes.lean ====
section
/-! DEFINITION. Direct register writes without a row of their own (R10 to R13, R110, R135), W1C flags (R138), permission
masks (R113), ASSIGN (R152), and the captured read of R508. -/

namespace Sys2Proof.Machine

/-! ### W1C flags (R138) -/

/-- A W1C flag register of a block, the key of the first register of its counts, and of the second for bits 4 to 7. -/
def blockFlags : List (Nat × Nat × Nat) :=
  [(Reg.HWL_FLAGS, Reg.HWL_FLAG_CNT0, Reg.HWL_FLAG_CNT1), (Reg.RAST_FLAGS, Reg.RAST_FLAG_CNT0, Reg.RAST_FLAG_CNT1),
   (Reg.COMP_FLAGS, Reg.COMP_FLAG_CNT, Reg.COMP_FLAG_CNT), (Reg.BKL_FLAGS, Reg.BKL_FLAG_CNT, Reg.BKL_FLAG_CNT1),
   (Reg.PIPE_FLAGS, Reg.PIPE_FLAG_CNT0, Reg.PIPE_FLAG_CNT1), (Reg.ENG_FLAGS, Reg.ENG_FLAG_CNT0, Reg.ENG_FLAG_CNT1),
   (Reg.RSV_FLAGS, Reg.RSV_FLAG_CNT, Reg.RSV_FLAG_CNT), (Reg.STP_FLAGS, Reg.STP_FLAG_CNT, Reg.STP_FLAG_CNT),
   (Reg.CDC_FLAGS, Reg.CDC_FLAG_CNT, Reg.CDC_FLAG_CNT), (Reg.SLK_FLAGS, Reg.SLK_FLAG_CNT0, Reg.SLK_FLAG_CNT1)] ++
  [(Reg.CHK_FLAGS, Reg.CHK_FLAG_CNT, Reg.CHK_FLAG_CNT), (Reg.PERF_FLAGS, Reg.PERF_FLAG_CNT, Reg.PERF_FLAG_CNT),
   (Reg.PWR_FLAGS, Reg.PWR_FLAG_CNT0, Reg.PWR_FLAG_CNT1), (Reg.FAULT_FLAGS, Reg.FAULT_FLAG_CNT, Reg.FAULT_FLAG_CNT1),
   (Reg.SEC_FLAGS, Reg.SEC_FLAG_CNT, Reg.SEC_FLAG_CNT)]

/-- The link and lane of a lane page offset (R109). -/
def laneAt (o : Nat) : Nat × Nat := if o < 0x28000 then (0, (o - 0x20000) / 0x400) else (1, (o - 0x28000) / 0x400)

/-- The count registers of the flag register with a key. -/
def flagCounts (k : Nat) : Option (Nat × Nat) :=
  if 0x100000 ≤ k then
    if k % 0x100000 = 0x20 then some (k + 4, k + 4) else none
  else if 0x20000 ≤ k then
    let l := laneAt k
    if k = Reg.LANE_FLAGS l.1 l.2 then some (Reg.LANE_FLAG_CNT0 l.1 l.2, Reg.LANE_FLAG_CNT1 l.1 l.2) else none
  else (blockFlags.find? (fun e => decide (e.1 = k))).map (fun e => e.2)

/-- Bit b of a flag register is cleared with its count. -/
def clearBit (k : Nat) (cs : Nat × Nat) (b : Nat) (s : State) : State :=
  clearFlag { reg := k, bit := b, cnt := if b < 4 then cs.1 else cs.2, byte := b % 4, unit := 0 } s

/-- The W1C bits of the register with a key. -/
def w1cBits (k : Nat) : Nat :=
  match regAt k with
  | some r => r.w1c
  | none => 0

/-- A write of val to a flag register: each W1C bit written 1 is cleared. -/
def clearFlags (k : Nat) (val : Word) (s : State) : State :=
  match flagCounts k with
  | some cs => (List.range 32).foldl (fun s b => if bitAt val.toNat b && bitAt (w1cBits k) b then clearBit k cs b s else s) s
  | none => s

/-- A write of val to AON_STATUS (R85): failed_rail clears only under all ones; its flags have no counts (R138). -/
def clearAon (val : Word) (s : State) : State :=
  let s := if field val 0 4 = 15 then wrF Reg.AON_STATUS Fld.AON_STATUS_failed_rail 0 s else s
  [4, 5, 6, 7, 8].foldl (fun s b => if bitAt val.toNat b then wrF Reg.AON_STATUS (b, 1) 0 s else s) s

/-- FLAG_CLEAR (R10, R13, R82, R110, R138) at an offset of Window A; in COMP, PIPE, BKL and RAST it is an IDLE trigger
(R515). -/
def execFlagClear (port off : Nat) (val : Word) (s : State) : Host.Outcome State Fault Refusal :=
  let k := windowKey port off
  if off = Reg.AON_STATUS then if portWrites s port then .next (clearAon val s) else .next s
  else if k ≠ off then if portWrites s port then .next (clearFlags k val s) else .next s
  else if ownerWrites s port then
    let s := clearFlags k val s
    .next (if [0x12, 0x15, 0x16, 0x1F].contains (k / 0x1000) && decide (val.toNat &&& w1cBits k ≠ 0) then idleTrigger s else s)
  else .next s

/-! ### Direct writes -/

/-- Registers that a command of their own writes. -/
def ownRow (k : Nat) : Bool :=
  if 0x100000 ≤ k then
    let o := k % 0x100000
    [0x1C, 0x20, 0x308].contains o || (decide ((0x100 ≤ o ∧ o < 0x180) ∨ (0x200 ≤ o ∧ o < 0x280)) && decide (o % 16 = 8))
  else if 0x20000 ≤ k then [0, 8, 0x1C, 0x2C, 0x40, 0x4C].contains (k % 0x400)
  else [Reg.BOOT_CTRL, Reg.BOOT_HOLD_LIMIT, Reg.BOOT_XFER_CTRL, Reg.AON_STATUS, Reg.TOP_RESET, Reg.RAST_CTRL, Reg.RAST_GEOM,
      Reg.RAST_LAG, Reg.PIPE_FMT, Reg.ENG_CTRL, Reg.RSV_ALLOC0, Reg.RSV_ALLOC1, Reg.SLK_DCFG_GO].contains k ||
    (List.range 4).any (fun m => decide (k = Reg.TOP_HOST_PERMm m))

/-- The ring whose base a port page offset holds is enabled: the write is ignored (R117). -/
def baseLocked (s : State) (p o : Nat) : Bool :=
  if 0x100 ≤ o ∧ o < 0x180 ∧ o % 16 < 8 then ringOn s (Reg.SQn_CFG p ((o - 0x100) / 16))
  else if 0x200 ≤ o ∧ o < 0x280 ∧ o % 16 < 8 then ringOn s (Reg.CQn_CFG p ((o - 0x200) / 16))
  else decide (0x300 ≤ o ∧ o < 0x308) && ringOn s (Reg.EVQ_CFG p)

/-- A vector that is unmasked while its message is pending sends it, as the PCIe specification states (R560). -/
def unmask (p v : Nat) (s : State) : State :=
  if rdB s (Reg.MSIX_PBA p (v / 32)) (v % 32, 1) && !rdB s (Reg.MSIX_CTRL p v) (0, 1) && !(portOf s p).config.msixMask then
    emit (.msix p v) (wrF (Reg.MSIX_PBA p (v / 32)) (v % 32, 1) 0 s)
  else s

/-- A word written to a port's own page or MSI-X structures. A new coalescing count may be met by the records that wait. -/
def writePort (p o : Nat) (val : Word) (s : State) : State :=
  if baseLocked s p o then s
  else
    let s := writeRw (portKey p o) val s
    if 0x2000 ≤ o ∧ o < 0x2400 ∧ o % 16 = 12 then unmask p ((o - 0x2000) / 16) s
    else if o = 0x30C then signalEvq p s
    else if 0x200 ≤ o ∧ o < 0x280 ∧ o % 16 = 12 then signalCq p ((o - 0x200) / 16) s
    else s

/-- A direct write to COMP reaches the lines still to be composed too: they read the registers as the latch instant
found them (R135, R255). -/
def writeHeldRegs (k : Nat) (val : Word) (s : State) : State :=
  match s.comp.cur, regAt k with
  | some c, some r =>
    match c.held with
    | some h =>
      let w := (tabGet regReset h.regs k &&& ~~~BitVec.ofNat 32 r.rw) ||| (val &&& BitVec.ofNat 32 r.rw)
      { s with comp := { s.comp with cur := some { c with held := some { h with regs := tabSet regReset h.regs k w } } } }
    | none => s
  | _, _ => s

/-- What a write to a global register brings with it. A write that leaves no bit to set is ignored and brings nothing
(R12). -/
def afterWrite (k : Nat) (val : Word) (oldMode : Nat) (s : State) : State :=
  let block := k / 0x1000
  let s := if block = 0x15 then writeHeldRegs k val s |> followLayers else s
  let s := if k = Reg.RAST_LOCK then restartLock oldMode s else s
  let s := if k = Reg.PIPE_CTRL ∨ k = Reg.BKL_CTRL then followBlocked s |> recordMissing else s
  let s := if k = Reg.PIPE_CTRL ∨ k = Reg.ENG_DEADLINE then followWindow s else s
  let s := if k = Reg.HWL_STRIPE then followActive s else s
  let s := if k = Reg.HWL_ROT then followRot s else s
  let s := if k = Reg.HWL_HOLD_TIMEOUT then freezeIfDue s else s
  if [0x12, 0x15, 0x16, 0x1F].contains block && (regAt k).any (fun r => decide (r.rw ≠ 0)) then idleTrigger s else s

/-- A write to LANE_EQ of a Sluice lane sets the code from which adaptation goes on (R193). -/
def endTrialAt (k : Nat) (s : State) : State :=
  let l := laneAt k
  if k % 0x400 = 0x14 ∧ l.1 = 1 then setLane 1 l.2 { laneOf s 1 l.2 with trial := none } s else s

/-- A word written to a global set-up register or a lane page by the owner. -/
def writeGlobal (k : Nat) (val : Word) (s : State) : State :=
  if k = Reg.COMP_PQ_REF then
    if ready s then s else wr k (BitVec.ofNat 32 (val.toNat % 65536)) s |> idleTrigger
  else if 0x20000 ≤ k then endTrialAt k (writeRw k val s)
  else
    let old := lockMode s
    afterWrite k val old (writeRw k val s)

/-- One aligned 32-bit write. -/
def writeWord (p o : Nat) (val : Word) (s : State) : State :=
  let k := windowKey p o
  if ownRow k || (regAt k).isNone || decide (w1cBits k ≠ 0) then s
  else if k ≠ o then if portWrites s p && (decide (o < 0x1000) || s.boot.lanesDone) then writePort p o val s else s
  else if o < 0x10000 then if bootWrites s p then writeRw k val s else s
  else if ownerWrites s p then writeGlobal k val s else s

/-- REGISTER_WRITE: an aligned write of 4 or 8 bytes, the lower word first; a write with fewer enabled bytes is ignored
(R110). Its bytes are TLP payload that the port's monitor counts (R502). -/
def execRegisterWrite (port off size : Nat) (val : BitVec 64) (s : State) : Host.Outcome State Fault Refusal :=
  let lo := BitVec.ofNat 32 (val.toNat % 2 ^ 32)
  let hi := BitVec.ofNat 32 (val.toNat / 2 ^ 32)
  let s := monitorAdd port size s
  if size = 4 ∧ off % 4 = 0 then .next (writeWord port off lo s)
  else if size = 8 ∧ off % 8 = 0 then .next (writeWord port off lo s |> writeWord port (off + 4) hi)
  else .next s

/-- TOP_HOST_PERM_WRITE (R112, R113): the owner's own entry and that of an absent port ignore it; a change is told to the
port. -/
def execTopHostPermWrite (port m : Nat) (val : Word) (s : State) : Host.Outcome State Fault Refusal :=
  if !ownerWrites s port || !portExists s m || decide (m = owner s) then .next s
  else
    let old := permMask s m
    let s := writeRw (Reg.TOP_HOST_PERMm m) val s
    if permMask s m = old then .next s
    else .next (postEvent (.port m) 0x01F4 (0x10 + m) 0 (dataAt 24 (permMask s m)) s)

/-! ### ASSIGN (R114, R152, R486, R492) -/

/-- Resources of a kind. -/
def kindSize : Nat → Nat
  | 1 => 16
  | 2 => 64
  | 3 => 48
  | 4 => 8
  | 5 => 1024
  | 6 => 10
  | _ => 0

/-- A descriptor names a resource. -/
def Dsc.uses (d : Dsc) (kind i : Nat) : Bool :=
  decide (d.resource = some (kind, i)) || (decide (kind = 5) && decide (d.codecRegion = some i))

/-- A resource has a descriptor from its current host that has not completed. -/
def resourceBusy (s : State) (kind i : Nat) : Bool :=
  s.host.inflight.any (fun d => decide (d.port = hostOf s kind i) && d.uses kind i)

/-- A resource goes to a host: a counter is cleared, a rectangle that moves is disabled and cleared; of the store regions
only those that exist and are not the device's own move (R570). -/
def assignOne (kind host : Nat) (s : State) (i : Nat) : State :=
  if kind = 5 ∧ (i < 3 ∨ (regionOf s i).kind = 0) then s
  else
    let s := if kind = 2 then setCtr i {} s |> wr (Reg.PERF_CTRn_CFG i) 0 else s
    let s := if kind = 3 ∧ hostOf s 3 i ≠ host then disableRect i s else s
    setHost kind i host s

/-- ASSIGN. -/
def execAssign (port sq seq : Nat) (s : State) : Host.Outcome State Fault Refusal :=
  withReady port sq seq 0x0103 (fun d s =>
    let kind := d.u8 16
    let host := d.u8 17
    let range := (List.range (d.u16 20)).map (· + d.u16 18)
    if kindSize kind < d.u16 18 + d.u16 20 ∨ portExists s host = false then refuseWith d .refused 0x30 s
    else if range.any (resourceBusy s kind) then complete d .busy 0 0 s
    else range.foldl (assignOne kind host) s |> completeI d .ok 0) s

/-! ### CHK_Rr_FRAME_LO (R210, R508) -/

/-- CHK_FRAME_LO_READ of a rectangle: it captures the frame's high word and CHK_Rr_LAST. -/
def execChkFrameLoRead (port rect : Nat) (s : State) : Host.Outcome State Fault Refusal :=
  if !portWrites s port || !s.boot.lanesDone || decide (48 ≤ rect) then .next s
  else
    let v := (rectOf s rect).window.head?.getD (0, 0)
    .next (wr (Reg.CHK_Rr_FRAME_HI rect) (BitVec.ofNat 32 (v.1 / 2 ^ 32)) s |> wr (Reg.CHK_Rr_LAST rect) (BitVec.ofNat 32 v.2)
      |> answerRead port (Reg.CHK_Rr_FRAME_LO rect) (v.1 % 2 ^ 32))

end Sys2Proof.Machine
end

