-- ==== Sys2Proof/Machine/Dispatch.lean ====
section
/-! DEFINITION. One arm for each command: a direct call of its meaning. -/

namespace Sys2Proof.Machine

open Sys2Proof

/-- The effect of a command on everything but the queue. -/
def exec (i : Instr) (s : State) : Host.Outcome State Fault Refusal :=
  match i with
  | .add e rd ra rb => Sys2Proof.Machine.execAdd e rd ra rb s
  | .sub e rd ra rb => Sys2Proof.Machine.execSub e rd ra rb s
  | .and e rd ra rb => Sys2Proof.Machine.execAnd e rd ra rb s
  | .or e rd ra rb => Sys2Proof.Machine.execOr e rd ra rb s
  | .xor e rd ra rb => Sys2Proof.Machine.execXor e rd ra rb s
  | .shl e rd ra rb => Sys2Proof.Machine.execShl e rd ra rb s
  | .shr e rd ra rb => Sys2Proof.Machine.execShr e rd ra rb s
  | .sra e rd ra rb => Sys2Proof.Machine.execSra e rd ra rb s
  | .slt e rd ra rb => Sys2Proof.Machine.execSlt e rd ra rb s
  | .sltu e rd ra rb => Sys2Proof.Machine.execSltu e rd ra rb s
  | .min e rd ra rb => Sys2Proof.Machine.execMin e rd ra rb s
  | .minu e rd ra rb => Sys2Proof.Machine.execMinu e rd ra rb s
  | .max e rd ra rb => Sys2Proof.Machine.execMax e rd ra rb s
  | .maxu e rd ra rb => Sys2Proof.Machine.execMaxu e rd ra rb s
  | .mul e rd ra rb => Sys2Proof.Machine.execMul e rd ra rb s
  | .mulh e rd ra rb => Sys2Proof.Machine.execMulh e rd ra rb s
  | .mulhu e rd ra rb => Sys2Proof.Machine.execMulhu e rd ra rb s
  | .addi e rd ra imm => Sys2Proof.Machine.execAddi e rd ra imm s
  | .andi e rd ra imm => Sys2Proof.Machine.execAndi e rd ra imm s
  | .ori e rd ra imm => Sys2Proof.Machine.execOri e rd ra imm s
  | .xori e rd ra imm => Sys2Proof.Machine.execXori e rd ra imm s
  | .shli e rd ra sh => Sys2Proof.Machine.execShli e rd ra sh s
  | .shri e rd ra sh => Sys2Proof.Machine.execShri e rd ra sh s
  | .srai e rd ra sh => Sys2Proof.Machine.execSrai e rd ra sh s
  | .slti e rd ra imm => Sys2Proof.Machine.execSlti e rd ra imm s
  | .sltiu e rd ra imm => Sys2Proof.Machine.execSltiu e rd ra imm s
  | .lui e rd imm => Sys2Proof.Machine.execLui e rd imm s
  | .jal e rd imm => Sys2Proof.Machine.execJal e rd imm s
  | .jalr e rd ra imm => Sys2Proof.Machine.execJalr e rd ra imm s
  | .br e cond ra rb off => Sys2Proof.Machine.execBr e cond ra rb off s
  | .lw e rd ra off => Sys2Proof.Machine.execLw e rd ra off s
  | .lh e rd ra off => Sys2Proof.Machine.execLh e rd ra off s
  | .lhu e rd ra off => Sys2Proof.Machine.execLhu e rd ra off s
  | .lb e rd ra off => Sys2Proof.Machine.execLb e rd ra off s
  | .lbu e rd ra off => Sys2Proof.Machine.execLbu e rd ra off s
  | .sw e rd ra off => Sys2Proof.Machine.execSw e rd ra off s
  | .sh e rd ra off => Sys2Proof.Machine.execSh e rd ra off s
  | .sb e rd ra off => Sys2Proof.Machine.execSb e rd ra off s
  | .vld e pg vd ra off => Sys2Proof.Machine.execVld e pg vd ra off s
  | .vst e pg vd ra off => Sys2Proof.Machine.execVst e pg vd ra off s
  | .vldb e pg vd ra off => Sys2Proof.Machine.execVldb e pg vd ra off s
  | .aaddH e rd ra rb => Sys2Proof.Machine.execAaddH e rd ra rb s
  | .aaddW e rd ra rb => Sys2Proof.Machine.execAaddW e rd ra rb s
  | .aaddsH e rd ra rb => Sys2Proof.Machine.execAaddsH e rd ra rb s
  | .aaddsW e rd ra rb => Sys2Proof.Machine.execAaddsW e rd ra rb s
  | .aswpH e rd ra rb => Sys2Proof.Machine.execAswpH e rd ra rb s
  | .aswpW e rd ra rb => Sys2Proof.Machine.execAswpW e rd ra rb s
  | .vadd e pg vd va vb => Sys2Proof.Machine.execVadd e pg vd va vb s
  | .vsub e pg vd va vb => Sys2Proof.Machine.execVsub e pg vd va vb s
  | .vadds e pg vd va vb => Sys2Proof.Machine.execVadds e pg vd va vb s
  | .vsubs e pg vd va vb => Sys2Proof.Machine.execVsubs e pg vd va vb s
  | .vaddus e pg vd va vb => Sys2Proof.Machine.execVaddus e pg vd va vb s
  | .vsubus e pg vd va vb => Sys2Proof.Machine.execVsubus e pg vd va vb s
  | .vaddsu e pg vd va vb => Sys2Proof.Machine.execVaddsu e pg vd va vb s
  | .vmin e pg vd va vb => Sys2Proof.Machine.execVmin e pg vd va vb s
  | .vmax e pg vd va vb => Sys2Proof.Machine.execVmax e pg vd va vb s
  | .vminu e pg vd va vb => Sys2Proof.Machine.execVminu e pg vd va vb s
  | .vmaxu e pg vd va vb => Sys2Proof.Machine.execVmaxu e pg vd va vb s
  | .vand e pg vd va vb => Sys2Proof.Machine.execVand e pg vd va vb s
  | .vor e pg vd va vb => Sys2Proof.Machine.execVor e pg vd va vb s
  | .vxor e pg vd va vb => Sys2Proof.Machine.execVxor e pg vd va vb s
  | .vshl e pg vd va vb => Sys2Proof.Machine.execVshl e pg vd va vb s
  | .vshr e pg vd va vb => Sys2Proof.Machine.execVshr e pg vd va vb s
  | .vsra e pg vd va vb => Sys2Proof.Machine.execVsra e pg vd va vb s
  | .vmul e pg vd va vb => Sys2Proof.Machine.execVmul e pg vd va vb s
  | .vmulh e pg vd va vb => Sys2Proof.Machine.execVmulh e pg vd va vb s
  | .vmulhu e pg vd va vb => Sys2Proof.Machine.execVmulhu e pg vd va vb s
  | .vabsdu e pg vd va vb => Sys2Proof.Machine.execVabsdu e pg vd va vb s
  | .vavgu e pg vd va vb => Sys2Proof.Machine.execVavgu e pg vd va vb s
  | .vsel e pg vd va vb => Sys2Proof.Machine.execVsel e pg vd va vb s
  | .vshli e pg vd va imm => Sys2Proof.Machine.execVshli e pg vd va imm s
  | .vshri e pg vd va imm => Sys2Proof.Machine.execVshri e pg vd va imm s
  | .vsrai e pg vd va imm => Sys2Proof.Machine.execVsrai e pg vd va imm s
  | .vaddi e pg vd va imm => Sys2Proof.Machine.execVaddi e pg vd va imm s
  | .vmov e pg vd va => Sys2Proof.Machine.execVmov e pg vd va s
  | .vclz e pg vd va => Sys2Proof.Machine.execVclz e pg vd va s
  | .vrcp e pg vd va => Sys2Proof.Machine.execVrcp e pg vd va s
  | .vrsqrt e pg vd va => Sys2Proof.Machine.execVrsqrt e pg vd va s
  | .vlane e pg vd va => Sys2Proof.Machine.execVlane e pg vd va s
  | .vmvs e pg vd ra => Sys2Proof.Machine.execVmvs e pg vd ra s
  | .vcmp e pg pd cond va vb => Sys2Proof.Machine.execVcmp e pg pd cond va vb s
  | .pand e pd pa pb => Sys2Proof.Machine.execPand e pd pa pb s
  | .por e pd pa pb => Sys2Proof.Machine.execPor e pd pa pb s
  | .pxor e pd pa pb => Sys2Proof.Machine.execPxor e pd pa pb s
  | .pandn e pd pa pb => Sys2Proof.Machine.execPandn e pd pa pb s
  | .pset e pd ra pb => Sys2Proof.Machine.execPset e pd ra pb s
  | .pget e rd pa pb => Sys2Proof.Machine.execPget e rd pa pb s
  | .vmac e pg ak va vb mode => Sys2Proof.Machine.execVmac e pg ak va vb mode s
  | .aclr e pg ak => Sys2Proof.Machine.execAclr e pg ak s
  | .aset e pg ak va sh sgn => Sys2Proof.Machine.execAset e pg ak va sh sgn s
  | .vrnd e pg ak vd sh mode => Sys2Proof.Machine.execVrnd e pg ak vd sh mode s
  | .lut1 e pg vd vx sd sgn => Sys2Proof.Machine.execLut1 e pg vd vx sd sgn s
  | .lut2 e pg vd vx vy sd sgn => Sys2Proof.Machine.execLut2 e pg vd vx vy sd sgn s
  | .mvq e rd ra => Sys2Proof.Machine.execMvq e rd ra s
  | .bar e id => Sys2Proof.Machine.execBar e id s
  | .wait e mask => Sys2Proof.Machine.execWait e mask s
  | .csrr e rd csr => Sys2Proof.Machine.execCsrr e rd csr s
  | .csrw e ra csr => Sys2Proof.Machine.execCsrw e ra csr s
  | .eret e => Sys2Proof.Machine.execEret e s
  | .halt e => Sys2Proof.Machine.execHalt e s
  | .powerOn bscan => Sys2Proof.Machine.execPowerOn bscan s
  | .railPowerGood r => Sys2Proof.Machine.execRailPowerGood r s
  | .railPowerGoodTimeout n => Sys2Proof.Machine.execRailPowerGoodTimeout n s
  | .strapSample ownerSel merge01 merge23 bmcAddr => Sys2Proof.Machine.execStrapSample ownerSel merge01 merge23 bmcAddr s
  | .portReset port cause => Sys2Proof.Machine.execPortReset port cause s
  | .bootImageVerified identified slotA slotB => Sys2Proof.Machine.execBootImageVerified identified slotA slotB s
  | .bootClearDone ok => Sys2Proof.Machine.execBootClearDone ok s
  | .rsvTrainDone ok => Sys2Proof.Machine.execRsvTrainDone ok s
  | .storeLinkUp speed width => Sys2Proof.Machine.execStoreLinkUp speed width s
  | .storeControllerReady formatOk nsze => Sys2Proof.Machine.execStoreControllerReady formatOk nsze s
  | .ready ms => Sys2Proof.Machine.execReady ms s
  | .bootHoldLimitExpiry ms => Sys2Proof.Machine.execBootHoldLimitExpiry ms s
  | .bootCtrlHold port val => Sys2Proof.Machine.execBootCtrlHold port val s
  | .bootCtrlRelease port ms => Sys2Proof.Machine.execBootCtrlRelease port ms s
  | .bootCtrlRecoveryGo port => Sys2Proof.Machine.execBootCtrlRecoveryGo port s
  | .bootXferOpen port => Sys2Proof.Machine.execBootXferOpen port s
  | .bootXferDataWrite port off data => Sys2Proof.Machine.execBootXferDataWrite port off data s
  | .bootHoldLimitWrite port val elapsed ms => Sys2Proof.Machine.execBootHoldLimitWrite port val elapsed ms s
  | .topReset port key => Sys2Proof.Machine.execTopReset port key s
  | .flagClear port off val => Sys2Proof.Machine.execFlagClear port off val s
  | .registerWrite port off size val => Sys2Proof.Machine.execRegisterWrite port off size val s
  | .topHostPermWrite port m val => Sys2Proof.Machine.execTopHostPermWrite port m val s
  | .rastGeomWrite port val => Sys2Proof.Machine.execRastGeomWrite port val s
  | .rastLagWrite port val => Sys2Proof.Machine.execRastLagWrite port val s
  | .rastCtrlTimelineWrite port val => Sys2Proof.Machine.execRastCtrlTimelineWrite port val s
  | .pipeFmtWrite port val => Sys2Proof.Machine.execPipeFmtWrite port val s
  | .engCtrlRearRoleWrite port val => Sys2Proof.Machine.execEngCtrlRearRoleWrite port val s
  | .rsvAllocWrite port reg val => Sys2Proof.Machine.execRsvAllocWrite port reg val s
  | .portKick port val => Sys2Proof.Machine.execPortKick port val s
  | .pollTimerExpiry port => Sys2Proof.Machine.execPollTimerExpiry port s
  | .doorbellFetchDone port words => Sys2Proof.Machine.execDoorbellFetchDone port words s
  | .descriptorFetchDone port sq raw => Sys2Proof.Machine.execDescriptorFetchDone port sq raw s
  | .sqCfgWrite port n val => Sys2Proof.Machine.execSqCfgWrite port n val s
  | .cqCfgWrite port n val => Sys2Proof.Machine.execCqCfgWrite port n val s
  | .evqCfgWrite port val => Sys2Proof.Machine.execEvqCfgWrite port val s
  | .coalesceTimerExpiry port ring => Sys2Proof.Machine.execCoalesceTimerExpiry port ring s
  | .setPanel port sq seq => Sys2Proof.Machine.execSetPanel port sq seq s
  | .setTimeline port sq seq => Sys2Proof.Machine.execSetTimeline port sq seq s
  | .assign port sq seq => Sys2Proof.Machine.execAssign port sq seq s
  | .setBackground port sq seq => Sys2Proof.Machine.execSetBackground port sq seq s
  | .rasterEnable port sq seq => Sys2Proof.Machine.execRasterEnable port sq seq s
  | .layerConfig port sq seq => Sys2Proof.Machine.execLayerConfig port sq seq s
  | .layerFlip port sq seq => Sys2Proof.Machine.execLayerFlip port sq seq s
  | .layerEnable port sq seq => Sys2Proof.Machine.execLayerEnable port sq seq s
  | .layerMatrix port sq seq => Sys2Proof.Machine.execLayerMatrix port sq seq s
  | .tableLoad port sq seq => Sys2Proof.Machine.execTableLoad port sq seq s
  | .tableActivateC port sq seq => Sys2Proof.Machine.execTableActivateC port sq seq s
  | .tableActivateS port sq seq => Sys2Proof.Machine.execTableActivateS port sq seq s
  | .tableDrop port sq seq => Sys2Proof.Machine.execTableDrop port sq seq s
  | .kernelLoad port sq seq => Sys2Proof.Machine.execKernelLoad port sq seq s
  | .kernelBind port sq seq param => Sys2Proof.Machine.execKernelBind port sq seq param s
  | .kernelUnload port sq seq => Sys2Proof.Machine.execKernelUnload port sq seq s
  | .imageLoadDone port sq seq data => Sys2Proof.Machine.execImageLoadDone port sq seq data s
  | .holdStage port sq seq => Sys2Proof.Machine.execHoldStage port sq seq s
  | .holdStageDone item => Sys2Proof.Machine.execHoldStageDone item s
  | .holdPlay port sq seq => Sys2Proof.Machine.execHoldPlay port sq seq s
  | .holdStop port sq seq => Sys2Proof.Machine.execHoldStop port sq seq s
  | .holdPolicy port sq seq => Sys2Proof.Machine.execHoldPolicy port sq seq s
  | .holdEvict port sq seq => Sys2Proof.Machine.execHoldEvict port sq seq s
  | .storeRead port sq seq => Sys2Proof.Machine.execStoreRead port sq seq s
  | .storeWrite port sq seq data => Sys2Proof.Machine.execStoreWrite port sq seq data s
  | .storeCreate port sq seq => Sys2Proof.Machine.execStoreCreate port sq seq s
  | .storeDelete port sq seq => Sys2Proof.Machine.execStoreDelete port sq seq s
  | .storeInfo port sq seq => Sys2Proof.Machine.execStoreInfo port sq seq s
  | .nvmeCompletion cid status data => Sys2Proof.Machine.execNvmeCompletion cid status data s
  | .nvmeCommandTimeout cid => Sys2Proof.Machine.execNvmeCommandTimeout cid s
  | .storeLost reason => Sys2Proof.Machine.execStoreLost reason s
  | .codecJob port sq seq => Sys2Proof.Machine.execCodecJob port sq seq s
  | .codecOutBuf port sq seq => Sys2Proof.Machine.execCodecOutBuf port sq seq s
  | .codecCancel port sq seq => Sys2Proof.Machine.execCodecCancel port sq seq s
  | .codecBlockDone lane bytes => Sys2Proof.Machine.execCodecBlockDone lane bytes s
  | .checkRect port sq seq => Sys2Proof.Machine.execCheckRect port sq seq s
  | .checkExpect port sq seq => Sys2Proof.Machine.execCheckExpect port sq seq s
  | .checkFrameComputed rect => Sys2Proof.Machine.execCheckFrameComputed rect s
  | .ctrProgram port sq seq => Sys2Proof.Machine.execCtrProgram port sq seq s
  | .ctrSnapshot port sq seq => Sys2Proof.Machine.execCtrSnapshot port sq seq s
  | .ctrFreeze port sq seq => Sys2Proof.Machine.execCtrFreeze port sq seq s
  | .bwMonitor port sq seq => Sys2Proof.Machine.execBwMonitor port sq seq s
  | .bwWindowEnd monitor lo hi => Sys2Proof.Machine.execBwWindowEnd monitor lo hi s
  | .tagConfig port sq seq => Sys2Proof.Machine.execTagConfig port sq seq s
  | .powerReq port sq seq => Sys2Proof.Machine.execPowerReq port sq seq s
  | .opLimit port sq seq => Sys2Proof.Machine.execOpLimit port sq seq s
  | .laneTrain port sq seq => Sys2Proof.Machine.execLaneTrain port sq seq s
  | .laneBitSlip port sq seq => Sys2Proof.Machine.execLaneBitSlip port sq seq s
  | .laneEyeScan port sq seq => Sys2Proof.Machine.execLaneEyeScan port sq seq s
  | .lanePrbs port sq seq => Sys2Proof.Machine.execLanePrbs port sq seq s
  | .timeLock port sq seq => Sys2Proof.Machine.execTimeLock port sq seq s
  | .timePhase port sq seq => Sys2Proof.Machine.execTimePhase port sq seq s
  | .timeStamp port sq seq => Sys2Proof.Machine.execTimeStamp port sq seq s
  | .timeSet port sq seq => Sys2Proof.Machine.execTimeSet port sq seq s
  | .secAttest port sq seq => Sys2Proof.Machine.execSecAttest port sq seq s
  | .secChallenge port sq seq => Sys2Proof.Machine.execSecChallenge port sq seq s
  | .secEnrol port sq seq data => Sys2Proof.Machine.execSecEnrol port sq seq data s
  | .secRevoke port sq seq => Sys2Proof.Machine.execSecRevoke port sq seq s
  | .secFwUpdate port sq seq data => Sys2Proof.Machine.execSecFwUpdate port sq seq data s
  | .fwFlashWriteDone ok => Sys2Proof.Machine.execFwFlashWriteDone ok s
  | .secRollback port sq seq => Sys2Proof.Machine.execSecRollback port sq seq s
  | .secCert port sq seq => Sys2Proof.Machine.execSecCert port sq seq s
  | .diagFieldRecord port sq seq => Sys2Proof.Machine.execDiagFieldRecord port sq seq s
  | .diagUnitEnable port sq seq => Sys2Proof.Machine.execDiagUnitEnable port sq seq s
  | .diagUnitFence port sq seq => Sys2Proof.Machine.execDiagUnitFence port sq seq s
  | .diagLogRead port sq seq => Sys2Proof.Machine.execDiagLogRead port sq seq s
  | .bmcUnitTable first => Sys2Proof.Machine.execBmcUnitTable first s
  | .bmcFieldRead page => Sys2Proof.Machine.execBmcFieldRead page s
  | .bmcPowerReq target => Sys2Proof.Machine.execBmcPowerReq target s
  | .laneCfgWrite port link lane val => Sys2Proof.Machine.execLaneCfgWrite port link lane val s
  | .laneSlipWrite port link lane val => Sys2Proof.Machine.execLaneSlipWrite port link lane val s
  | .laneEyeStartWrite port link lane val => Sys2Proof.Machine.execLaneEyeStartWrite port link lane val s
  | .prbsCtrlWrite port link lane val => Sys2Proof.Machine.execPrbsCtrlWrite port link lane val s
  | .prbsInjectWrite port link lane n bits val => Sys2Proof.Machine.execPrbsInjectWrite port link lane n bits val s
  | .prbsBitsLoRead port link lane n bits => Sys2Proof.Machine.execPrbsBitsLoRead port link lane n bits s
  | .rastSfnLoRead port => Sys2Proof.Machine.execRastSfnLoRead port s
  | .rastCfnLoRead port => Sys2Proof.Machine.execRastCfnLoRead port s
  | .hfnOffsetLoRead port => Sys2Proof.Machine.execHfnOffsetLoRead port s
  | .rastTimeNsRead port => Sys2Proof.Machine.execRastTimeNsRead port s
  | .bklStatsSfnLoRead port => Sys2Proof.Machine.execBklStatsSfnLoRead port s
  | .chkFrameLoRead port rect => Sys2Proof.Machine.execChkFrameLoRead port rect s
  | .laneTrainingDone link lane status fom crc => Sys2Proof.Machine.execLaneTrainingDone link lane status fom crc s
  | .laneTrainingTimeout link lane => Sys2Proof.Machine.execLaneTrainingTimeout link lane s
  | .laneLockLost link lane cause => Sys2Proof.Machine.execLaneLockLost link lane cause s
  | .fastRetrainTimeout link lane => Sys2Proof.Machine.execFastRetrainTimeout link lane s
  | .retrainCountReset link lane => Sys2Proof.Machine.execRetrainCountReset link lane s
  | .fomWindow lane disagree steps => Sys2Proof.Machine.execFomWindow lane disagree steps s
  | .ctleTrial lane => Sys2Proof.Machine.execCtleTrial lane s
  | .idleFreeze link lane => Sys2Proof.Machine.execIdleFreeze link lane s
  | .recentreDone scan => Sys2Proof.Machine.execRecentreDone scan s
  | .eyeScanDone link lane left right top bottom centre answered => Sys2Proof.Machine.execEyeScanDone link lane left right top bottom centre answered s
  | .hwlLinePacket lane blocks => Sys2Proof.Machine.execHwlLinePacket lane blocks s
  | .frameStart lane header low high late => Sys2Proof.Machine.execFrameStart lane header low high late s
  | .frameEnd lane header low high => Sys2Proof.Machine.execFrameEnd lane header low high s
  | .hwlSleepBlock b => Sys2Proof.Machine.execHwlSleepBlock b s
  | .hwlWakeBlock b => Sys2Proof.Machine.execHwlWakeBlock b s
  | .hwlTrainBlock b => Sys2Proof.Machine.execHwlTrainBlock b s
  | .hwlIdleBlock b => Sys2Proof.Machine.execHwlIdleBlock b s
  | .hwlUnknownBlock lane block => Sys2Proof.Machine.execHwlUnknownBlock lane block s
  | .lineDeadline plane line => Sys2Proof.Machine.execLineDeadline plane line s
  | .refFrameEdge gap since => Sys2Proof.Machine.execRefFrameEdge gap since s
  | .refTodMessage msg afterMs => Sys2Proof.Machine.execRefTodMessage msg afterMs s
  | .compositionFrameStart distances => Sys2Proof.Machine.execCompositionFrameStart distances s
  | .compositionLineStart reads => Sys2Proof.Machine.execCompositionLineStart reads s
  | .liveFetchDone layer plane line forNext bytes => Sys2Proof.Machine.execLiveFetchDone layer plane line forNext bytes s
  | .snapshotFetchDone port sq seq data => Sys2Proof.Machine.execSnapshotFetchDone port sq seq data s
  | .tileDispatch cell tc tr next cfn => Sys2Proof.Machine.execTileDispatch cell tc tr next cfn s
  | .tileComplete cell tc tr => Sys2Proof.Machine.execTileComplete cell tc tr s
  | .tileRetire cell tc tr => Sys2Proof.Machine.execTileRetire cell tc tr s
  | .tileDeadline cell tc tr next => Sys2Proof.Machine.execTileDeadline cell tc tr next s
  | .deadlineWarning cell tc tr => Sys2Proof.Machine.execDeadlineWarning cell tc tr s
  | .maxCyclesExpiry engine => Sys2Proof.Machine.execMaxCyclesExpiry engine s
  | .moverRequestDone cluster => Sys2Proof.Machine.execMoverRequestDone cluster s
  | .moverStarve cluster n cycles => Sys2Proof.Machine.execMoverStarve cluster n cycles s
  | .patrolVisit c aborted bits word spad priv => Sys2Proof.Machine.execPatrolVisit c aborted bits word spad priv s
  | .handlerEntry engine => Sys2Proof.Machine.execHandlerEntry engine s
  | .barrierRelease engine => Sys2Proof.Machine.execBarrierRelease engine s
  | .waitRelease engine => Sys2Proof.Machine.execWaitRelease engine s
  | .stageEnd engine => Sys2Proof.Machine.execStageEnd engine s
  | .instructionUndefined engine => Sys2Proof.Machine.execInstructionUndefined engine s
  | .rsvScrubRead region line result => Sys2Proof.Machine.execRsvScrubRead region line result s
  | .bklStrobe controller onRow offRow => Sys2Proof.Machine.execBklStrobe controller onRow offRow s
  | .zoneData controller row frame fits => Sys2Proof.Machine.execZoneData controller row frame fits s
  | .bklStatus controller status crc => Sys2Proof.Machine.execBklStatus controller status crc s
  | .slkLinePacket lane line at_ next repair => Sys2Proof.Machine.execSlkLinePacket lane line at_ next repair s
  | .cfgWrite w => Sys2Proof.Machine.execCfgWrite w s
  | .slkDcfgGo port val => Sys2Proof.Machine.execSlkDcfgGo port val s
  | .roll bc replies => Sys2Proof.Machine.execRoll bc replies s
  | .statusPoll lane => Sys2Proof.Machine.execStatusPoll lane s
  | .bcReply bc frame => Sys2Proof.Machine.execBcReply bc frame s
  | .bcReplyTimeout bc crc => Sys2Proof.Machine.execBcReplyTimeout bc crc s
  | .bcAlertPulse bc width row => Sys2Proof.Machine.execBcAlertPulse bc width row s
  | .relock lane frame => Sys2Proof.Machine.execRelock lane frame s
  | .hostLinkWake port => Sys2Proof.Machine.execHostLinkWake port s
  | .voltageFail vout => Sys2Proof.Machine.execVoltageFail vout s
  | .railTelemetry readings => Sys2Proof.Machine.execRailTelemetry readings s
  | .pmbusAlert words => Sys2Proof.Machine.execPmbusAlert words s
  | .pllLockLoss unit => Sys2Proof.Machine.execPllLockLoss unit s
  | .mgmtMemoryError unit => Sys2Proof.Machine.execMgmtMemoryError unit s
  | .sensorRefresh values => Sys2Proof.Machine.execSensorRefresh values s
  | .panelTempPoll reads => Sys2Proof.Machine.execPanelTempPoll reads s
  | .unitStateUpdate unit => Sys2Proof.Machine.execUnitStateUpdate unit s
  | .hwlSignalDetect lane => Sys2Proof.Machine.execHwlSignalDetect lane s
  | .cdrLock lane => Sys2Proof.Machine.execCdrLock lane s
  | .blockLock r => Sys2Proof.Machine.execBlockLock r s
  | .invalidSyncHeader lane block => Sys2Proof.Machine.execInvalidSyncHeader lane block s
  | .prbsCheckerLocked r => Sys2Proof.Machine.execPrbsCheckerLocked r s
  | .prbsCheckerUnlock lane n bits => Sys2Proof.Machine.execPrbsCheckerUnlock lane n bits s
  | .hostLinkUp port => Sys2Proof.Machine.execHostLinkUp port s
  | .counterWrap n => Sys2Proof.Machine.execCounterWrap n s
  | .dataPathAcknowledge unit => Sys2Proof.Machine.execDataPathAcknowledge unit s
  | .diagUnitEnableTimeout unit => Sys2Proof.Machine.execDiagUnitEnableTimeout unit s
  | .readTemperaturePoll temps => Sys2Proof.Machine.execReadTemperaturePoll temps s
  | .privateTestModeOpen response => Sys2Proof.Machine.execPrivateTestModeOpen response s
  | .wakeFromOff => Sys2Proof.Machine.execWakeFromOff s
  | .vddAonLoss => Sys2Proof.Machine.execVddAonLoss s
  | .watchdogExpiry => Sys2Proof.Machine.execWatchdogExpiry s
  | .laneCalibrationDone => Sys2Proof.Machine.execLaneCalibrationDone s
  | .stpPerstRelease => Sys2Proof.Machine.execStpPerstRelease s
  | .storeAbsentTimeout => Sys2Proof.Machine.execStoreAbsentTimeout s
  | .recoveryVerifyDone => Sys2Proof.Machine.execRecoveryVerifyDone s
  | .panelPowerStep => Sys2Proof.Machine.execPanelPowerStep s
  | .storeMountRetry => Sys2Proof.Machine.execStoreMountRetry s
  | .eventLogFlush => Sys2Proof.Machine.execEventLogFlush s
  | .smartPoll => Sys2Proof.Machine.execSmartPoll s
  | .challengeExpiry => Sys2Proof.Machine.execChallengeExpiry s
  | .bmcStatus => Sys2Proof.Machine.execBmcStatus s
  | .bmcFieldCapture => Sys2Proof.Machine.execBmcFieldCapture s
  | .bmcPowerResult => Sys2Proof.Machine.execBmcPowerResult s
  | .silenceCheck => Sys2Proof.Machine.execSilenceCheck s
  | .freeze => Sys2Proof.Machine.execFreeze s
  | .freezeTimeout => Sys2Proof.Machine.execFreezeTimeout s
  | .refFrameLost => Sys2Proof.Machine.execRefFrameLost s
  | .ref10mPresent => Sys2Proof.Machine.execRef10mPresent s
  | .ref10mLost => Sys2Proof.Machine.execRef10mLost s
  | .refPpsEdge => Sys2Proof.Machine.execRefPpsEdge s
  | .scanFrameStart => Sys2Proof.Machine.execScanFrameStart s
  | .latchInstant => Sys2Proof.Machine.execLatchInstant s
  | .stage6Deadline => Sys2Proof.Machine.execStage6Deadline s
  | .idlePolicy => Sys2Proof.Machine.execIdlePolicy s
  | .sleepPolicy => Sys2Proof.Machine.execSleepPolicy s
  | .unitAgree => Sys2Proof.Machine.execUnitAgree s
  | .stpShutdownTimeout => Sys2Proof.Machine.execStpShutdownTimeout s
  | .wakeN => Sys2Proof.Machine.execWakeN s
  | .wakeSense => Sys2Proof.Machine.execWakeSense s
  | .powerExitDone => Sys2Proof.Machine.execPowerExitDone s
  | .opSwitch => Sys2Proof.Machine.execOpSwitch s
  | .opPllTimeout => Sys2Proof.Machine.execOpPllTimeout s
  | .thermalTrip => Sys2Proof.Machine.execThermalTrip s
  | .rsvInterfaceFailure => Sys2Proof.Machine.execRsvInterfaceFailure s
  | .resetNLow => Sys2Proof.Machine.execResetNLow s
  | .vddAonPowerUp => Sys2Proof.Machine.execVddAonPowerUp s
  | .railRetryWait => Sys2Proof.Machine.execRailRetryWait s
  | .scanLineStart => Sys2Proof.Machine.execScanLineStart s
  | .fuseProgrammingDone => Sys2Proof.Machine.execFuseProgrammingDone s
  | .refPpsLost => Sys2Proof.Machine.execRefPpsLost s

end Sys2Proof.Machine
end

