-- ==== Sys2Proof/Machine/Pins.lean ====
section
/-! DEFINITION. What the balls of each signal group do (R33, R38, R45, R46, R49, R51): the table of R45 over the state of the
block. No command reads it: it is what the block shows to the board. -/

namespace Sys2Proof.Machine

/-- The signal groups of R45, a member by its number where they differ. -/
inductive Pin where
  | sluiceTx (lane : Nat)
  | sluiceBc (n : Nat)
  | gateOut (n : Nat)
  | panelPower (k : Nat)
  | panelSync
  | backlightClk (k : Nat)
  | backlightMosi (k : Nat)
  | backlightCs (k : Nat)
  | backlightIn (k : Nat)
  | headwaterRx (lane : Nat)
  | hostLanes (port : Nat)
  | hostPerst (port : Nat)
  | hostClkreq (port : Nat)
  | storeLanes
  | storeRefclk
  | storePerst
  | reference
  | crystal
  | bmc
  | panelI3c
  | flash
  | jtagIn
  | tdo
  | fault
  | diode
  | resetN
  | wakeN
  | wakeSense
  | crystal32
  | pmbus
deriving DecidableEq, Repr

/-- What a ball does. `low` and `high` are driven levels; `driven` is a signal that toggles, `active` a shared or
bidirectional one in use, `linkSleep` a PCIe link in L1.2. -/
inductive PinState where
  | low
  | high
  | driven
  | active
  | input
  | failsafe
  | terminated
  | unterminated
  | linkSleep
  | unpowered
  | hiZ
  | released
  | running
  | stopped
  | available
  | ignored
deriving DecidableEq, Repr

def level (b : Bool) : PinState := if b then .high else .low

/-- The rails behind RUN and IDLE are there. -/
def awake (s : State) : Bool := decide (s.power.state = .run ∨ s.power.state = .idle) && s.power.rails.contains 0

/-- The block runs or sleeps, VDDIO on. -/
def lightSleep (s : State) : Bool := inputsLive s

/-- The flash is in use: the firmware image is being read, or an update writes a slot. -/
def flashUsed (s : State) : Bool :=
  decide (s.boot.phase = .rom) || s.sec.flash.isSome

/-- The pair of a Sluice lane is driven: the panel outputs are, and the lane is in use (R38, R46). -/
def sluiceDriven (s : State) (lane : Nat) : Bool := awake s && s.raster.driven && !laneIs s 1 lane Lane.off

/-- What the balls of a group do (R45). The backlight outputs stand at their idle levels (R266 step 1): a frame that a controller
sends is one command of the model, and no state lies within it. PNL_SYNC_OUT is low until the scan runs and in mode 0 (R265). -/
def pinState (s : State) : Pin → PinState
  | .sluiceTx lane => if sluiceDriven s lane then .driven else .hiZ
  | .sluiceBc _ => if awake s then .active else .released
  | .gateOut n => if awake s && s.raster.driven then level (bitAt s.raster.gto n) else .hiZ
  | .panelPower k => if awake s && s.raster.driven then level (s.raster.powered.contains k) else .hiZ
  | .panelSync => if !awake s || !s.raster.driven then .hiZ
      else if scanning s && decide (rdF s Reg.PNL_SYNC_CFG Fld.PNL_SYNC_CFG_mode ≠ 0) then .driven else .low
  | .backlightClk _ => if awake s && s.raster.driven then level (rdB s Reg.BKL_CTRL Fld.BKL_CTRL_spi_mode) else .hiZ
  | .backlightMosi _ => if awake s && s.raster.driven then .low else .hiZ
  | .backlightCs _ => if awake s && s.raster.driven then .high else .hiZ
  | .backlightIn _ => if awake s then .input else .failsafe
  | .headwaterRx _ => if awake s then .terminated else .unterminated
  | .hostLanes _ => if awake s then .active else if lightSleep s then .linkSleep else .unpowered
  | .hostPerst port => if !portExists s port then .ignored else if lightSleep s then .input else .failsafe
  | .hostClkreq port => if portExists s port && lightSleep s then .active else .released
  | .storeLanes => if awake s then .active else .unpowered
  | .storeRefclk => if awake s then .active else if lightSleep s then .hiZ else .unpowered
  | .storePerst => match s.boot.perstN with
    | some b => if awake s then level b else .hiZ
    | none => .hiZ
  | .reference | .jtagIn => if lightSleep s then .input else .failsafe
  | .crystal => if lightSleep s then .running else .stopped
  | .bmc => if s.power.state = .off then .failsafe else .active
  | .panelI3c => if awake s then .active else .released
  | .flash => if awake s && flashUsed s then .active else .hiZ
  | .tdo => if awake s && s.boot.bscan then .driven else .hiZ
  | .fault => if faultPin s then .low else .released
  | .diode => .available
  | .resetN | .wakeN => .input
  | .wakeSense => if s.power.state = .sleep ∨ s.power.state = .deep then .active else .ignored
  | .crystal32 => if s.power.state = .off then .stopped else .running
  | .pmbus => if s.power.state = .off then .released else .active

end Sys2Proof.Machine
end

