-- ==== Sys2Proof/Safety.lean ====
section
/-! DEFINITION. What a sound state and a lawful change of state are, in the terms the claims use. -/

namespace Sys2Proof

open Sys2Proof.Machine

/-- The register file is in its canonical form: equal register contents are equal data. -/
def RegsCanonical (s : State) : Prop := tabWf regReset s.regs = true

/-- A key slot's fuses only go from empty to enrolled to revoked, and keep the hash of an enrolled slot (R94 to R96). -/
def SlotGrows (a b : KeySlot) : Prop := a = b ∨ a.state = 0 ∧ b.state = 1 ∨ a.state = 1 ∧ b.state = 3 ∧ b.hash = a.hash

/-- Fuses only grow, slot 0 being Otius's own: the ordering code and serial are fixed, the minimum version never falls, no slot goes back and the
test mark is never cleared (R93 to R96, R103). -/
def FusesGrow (a b : Fuses) : Prop :=
  b.orderingCode = a.orderingCode ∧ b.serial = a.serial ∧ a.minVersion ≤ b.minVersion ∧
    (a.testMark = true → b.testMark = true) ∧
    ∀ k, k ≠ 0 → SlotGrows (tabGet (fun _ => {}) a.slots k) (tabGet (fun _ => {}) b.slots k)

/-- What the security core programs fits the slot it names: one to enrol is empty, one to revoke is enrolled (R95, R96). -/
def FusesOnly (s : State) : Prop :=
  tabWf (fun _ => ({} : KeySlot)) s.fuses.slots = true ∧
    match s.sec.fuse with
    | some (.enrol k _, _) => k ≠ 0 → (tabGet (fun _ => ({} : KeySlot)) s.fuses.slots k).state = 0
    | some (.revoke k, _) => k ≠ 0 → (tabGet (fun _ => ({} : KeySlot)) s.fuses.slots k).state = 1
    | _ => True

/-- What a customer kernel never reaches (R101): fuses, keys, boot, straps, assignments, the store's contents, the hold
cache, the Reservoir and the links. Events it causes are still kept for the event log. -/
def KernelIsolated (s t : State) : Prop :=
  t.fuses = s.fuses ∧ t.sec = s.sec ∧ t.boot = s.boot ∧ t.straps = s.straps ∧ t.assign = s.assign ∧
    t.store.dir = s.store.dir ∧ t.store.nvme = s.store.nvme ∧ t.store.mounted = s.store.mounted ∧ t.hold = s.hold ∧
    t.rsv = s.rsv ∧ t.slk = s.slk ∧ t.lanes = s.lanes ∧ t.hwl = s.hwl

/-- Engine e finds words as they were written: none has a wrong bit (R370), and patrol visits the region of none next (R373). -/
def Undisturbed (s : State) (e : Nat) (words : List (Nat × Nat)) : Prop :=
  (∀ x ∈ words, wrongBits s (e / 8) x = 0) ∧
    (patrolOn s (e / 8) = true → ∀ x ∈ words, patrolRegion x ≠ dueRegion (clusterOf s (e / 8)))

/-- The engine that an instruction names fetches its word next and finds it undisturbed, with nothing that stalls it, no handler
due and no write of its cluster's port A in the bank cycle (R369). -/
def Issues (s : State) (i : Instr) : Prop :=
  (∃ w, eddyWord i = some w ∧ nextWord s (eddyEngine i) = some (some w)) ∧
    Undisturbed s (eddyEngine i) [codeWord s (eddyEngine i)] ∧ (clusterOf s (eddyEngine i / 8)).portA = []

/-- An engine may access n bytes at an EA (R380) and finds them undisturbed. -/
def Reaches (s : State) (e ea n : Nat) : Prop := eaOk s e ea n = true ∧ Undisturbed s e (wordsAt s e ea n)

/-- The same in the scratchpad alone, where atomics work (R387). -/
def ReachesPad (s : State) (e ea n : Nat) : Prop := inPad ea n = true ∧ Undisturbed s e (wordsAt s e ea n)

/-- A mover request that the descriptor at an EA spells is one that the mover takes, with room in the queue (R395, R396). -/
def RequestFits (s : State) (e ea : Nat) : Prop :=
  (∃ k, runningKernel s e = some k ∧ inData k ea 16 = true) ∧ Undisturbed s e (wordsAt s e ea 16) ∧
    requestOk s e (readRequest e (eaRead s e ea 16)) (leAt (eaRead s e ea 16) 3 1) = true ∧
    freeSlots (clusterOf s (e / 8)) ≠ []

/-- Every active lane of a lookup may read its entries (R393, R394) and finds them undisturbed. -/
def LookupReaches (s : State) (e : Nat) (pg : BitVec 3) (sd : BitVec 5) (two : Bool) (a b : Nat → Nat) : Prop :=
  let v := engineOf s e
  let d := lutDesc (v.sreg sd)
  (∀ i ∈ activeLanes (v.preg pg), ∀ n ∈ lutIndices d two (a i) (b i), eaOk s e (d.base + 2 * n) 2 = true) ∧
    Undisturbed s e ((activeLanes (v.preg pg)).flatMap (fun i =>
      (lutIndices d two (a i) (b i)).flatMap (fun n => wordsAt s e (d.base + 2 * n) 2)))

/-- What the rules ask of an instruction beyond its issue for it to run without a fault. -/
def Legal (s : State) : Instr → Prop
  | .br _ c _ _ _ => c.toNat < 6
  | .vcmp _ _ _ c _ _ => c.toNat < 6
  | .vrnd _ _ _ _ _ m => m.toNat < 3
  | .lw e _ ra off | .sw e _ ra off => Reaches s e (alignEa (eaOf (engineOf s e) ra off) 4) 4
  | .lh e _ ra off | .lhu e _ ra off | .sh e _ ra off => Reaches s e (alignEa (eaOf (engineOf s e) ra off) 2) 2
  | .lb e _ ra off | .lbu e _ ra off | .sb e _ ra off => Reaches s e (alignEa (eaOf (engineOf s e) ra off) 1) 1
  | .vld e _ _ ra off | .vst e _ _ ra off => Reaches s e (alignEa (eaOf (engineOf s e) ra off) 2) 32
  | .vldb e _ _ ra off => Reaches s e (alignEa (eaOf (engineOf s e) ra off) 2) 2
  | .aaddH e _ ra _ | .aaddsH e _ ra _ | .aswpH e _ ra _ => ReachesPad s e (alignEa ((engineOf s e).sreg ra).toNat 2) 2
  | .aaddW e _ ra _ | .aaddsW e _ ra _ | .aswpW e _ ra _ => ReachesPad s e (alignEa ((engineOf s e).sreg ra).toNat 4) 4
  | .lut1 e pg _ vx sd _ => LookupReaches s e pg sd false (fun i => vlane ((engineOf s e).vreg vx) i) (fun _ => 0)
  | .lut2 e pg _ vx vy sd _ =>
    LookupReaches s e pg sd true (fun i => vlane ((engineOf s e).vreg vx) i) (fun i => vlane ((engineOf s e).vreg vy) i)
  | .mvq e _ ra => RequestFits s e (alignEa ((engineOf s e).sreg ra).toNat 16)
  | .wait _ m => m ≠ 0
  | .csrr _ _ c | .csrw _ _ c => c.toNat ≤ 5
  | .eret e => (engineOf s e).inh = true
  | _ => True

/-- Where an instruction leaves the pc (R384, R398, R399, R404, R405): at the next word, at a jump's target, or in place. -/
def pcAfter (s : State) (i : Instr) : Nat :=
  let v := engineOf s (eddyEngine i)
  match i with
  | .jal _ _ n => (((v.pc : Int) + 4 * n.toInt) % 4294967296).toNat
  | .jalr _ _ ra n => (v.sreg ra + n.signExtend 32).toNat / 4 * 4
  | .br _ c ra rb off =>
    if condHolds c (v.sreg ra) (v.sreg rb) = some true then (((v.pc : Int) + 4 * off.toInt) % 4294967296).toNat else v.pc + 4
  | .bar _ _ => if v.frameJob then v.pc else v.pc + 4
  | .wait _ m => if waitHolds v m.toNat then v.pc + 4 else v.pc
  | .eret _ => v.epc
  | .halt _ => v.pc
  | _ => v.pc + 4

/-- What an atomic leaves (R387): the new value in the scratchpad, the old one in rd, and st.sat if it was held. -/
def atomicEnd (e : Nat) (rd : BitVec 5) (old ea n new : Nat) (held : Bool) (s : State) : State :=
  spend (countEvent (unitOfCluster (e / 8)) 0x14 1 (advance e
    (fun v => { v.setS rd (BitVec.ofNat 32 old) with sat := v.sat || held })
    (eaStore e ((leBytes n new).zipIdx.map (fun b => (ea + b.2, b.1))) s)))

/-- Instructions that only work on the registers of their engine and never fault. -/
def Instr.registersOnly : Instr → Bool
  | .add .. | .sub .. | .and .. | .or .. | .xor .. | .shl .. | .shr .. | .sra .. | .slt .. | .sltu .. | .min .. | .minu .. => true
  | .max .. | .maxu .. | .mul .. | .mulh .. | .mulhu .. | .addi .. | .andi .. | .ori .. | .xori .. | .slti .. | .sltiu .. => true
  | .shli .. | .shri .. | .srai .. | .lui .. | .jal .. | .jalr .. | .vadd .. | .vsub .. | .vadds .. | .vsubs .. | .vaddus .. => true
  | .vsubus .. | .vaddsu .. | .vmin .. | .vmax .. | .vminu .. | .vmaxu .. | .vand .. | .vor .. | .vxor .. | .vshl .. => true
  | .vshr .. | .vsra .. | .vmul .. | .vmulh .. | .vmulhu .. | .vabsdu .. | .vavgu .. | .vsel .. | .vshli .. | .vshri .. => true
  | .vsrai .. | .vaddi .. | .vmov .. | .vclz .. | .vrcp .. | .vrsqrt .. | .vlane .. | .vmvs .. | .pand .. | .por .. => true
  | .pxor .. | .pandn .. | .pset .. | .pget .. | .vmac .. | .aclr .. | .aset .. => true
  | _ => false

end Sys2Proof
end

