-- ==== Sys2Proof/WellFormed.lean ====
section
/-! DEFINITION. Which commands are well-formed: each number in the range the spec gives it. A command outside it is none
the device can receive; the model gives it some effect, and no claim rests on that. -/

namespace Sys2Proof

/-- Host ports HP0 to HP3 (R106). -/
def portOk (port : Nat) : Bool := decide (port < 4)

/-- A descriptor of one of a port's eight submission rings (R116). -/
def ringOk (port sq : Nat) : Bool := portOk port && decide (sq < 8)

/-- Headwater lanes 0 to 31 (link 0) and Sluice lanes 0 to 127 (link 1). -/
def laneOk (link lane : Nat) : Bool :=
  (decide (link = 0) && decide (lane < 32)) || (decide (link = 1) && decide (lane < 128))

/-- Engines 0 to 255 (R349). -/
def engineOk (e : Nat) : Bool := decide (e < 256)

/-- Tile (c, tc, tr) of the front or rear cell, at most 32 by 540 of them (R350), or the frame job as cell 2. -/
def tileOk (cell tc tr : Nat) : Bool := decide (cell = 2) || (decide (cell ≤ 1) && decide (tc < 32) && decide (tr < 540))

/-- Zone rows 0 to 35, or 255 for none (R321). -/
def rowOk (row : Nat) : Bool := decide (row < 36) || decide (row = 255)

/-- Every operand lies in its range. -/
def Instr.wf : Instr → Bool
  | .add e _ _ _ => engineOk e
  | .sub e _ _ _ => engineOk e
  | .and e _ _ _ => engineOk e
  | .or e _ _ _ => engineOk e
  | .xor e _ _ _ => engineOk e
  | .shl e _ _ _ => engineOk e
  | .shr e _ _ _ => engineOk e
  | .sra e _ _ _ => engineOk e
  | .slt e _ _ _ => engineOk e
  | .sltu e _ _ _ => engineOk e
  | .min e _ _ _ => engineOk e
  | .minu e _ _ _ => engineOk e
  | .max e _ _ _ => engineOk e
  | .maxu e _ _ _ => engineOk e
  | .mul e _ _ _ => engineOk e
  | .mulh e _ _ _ => engineOk e
  | .mulhu e _ _ _ => engineOk e
  | .addi e _ _ _ => engineOk e
  | .andi e _ _ _ => engineOk e
  | .ori e _ _ _ => engineOk e
  | .xori e _ _ _ => engineOk e
  | .shli e _ _ _ => engineOk e
  | .shri e _ _ _ => engineOk e
  | .srai e _ _ _ => engineOk e
  | .slti e _ _ _ => engineOk e
  | .sltiu e _ _ _ => engineOk e
  | .lui e _ _ => engineOk e
  | .jal e _ _ => engineOk e
  | .jalr e _ _ _ => engineOk e
  | .br e cond _ _ _ => engineOk e && decide (cond.toNat ≤ 5)
  | .lw e _ _ _ => engineOk e
  | .lh e _ _ _ => engineOk e
  | .lhu e _ _ _ => engineOk e
  | .lb e _ _ _ => engineOk e
  | .lbu e _ _ _ => engineOk e
  | .sw e _ _ _ => engineOk e
  | .sh e _ _ _ => engineOk e
  | .sb e _ _ _ => engineOk e
  | .vld e _ _ _ _ => engineOk e
  | .vst e _ _ _ _ => engineOk e
  | .vldb e _ _ _ _ => engineOk e
  | .aaddH e _ _ _ => engineOk e
  | .aaddW e _ _ _ => engineOk e
  | .aaddsH e _ _ _ => engineOk e
  | .aaddsW e _ _ _ => engineOk e
  | .aswpH e _ _ _ => engineOk e
  | .aswpW e _ _ _ => engineOk e
  | .vadd e _ _ _ _ => engineOk e
  | .vsub e _ _ _ _ => engineOk e
  | .vadds e _ _ _ _ => engineOk e
  | .vsubs e _ _ _ _ => engineOk e
  | .vaddus e _ _ _ _ => engineOk e
  | .vsubus e _ _ _ _ => engineOk e
  | .vaddsu e _ _ _ _ => engineOk e
  | .vmin e _ _ _ _ => engineOk e
  | .vmax e _ _ _ _ => engineOk e
  | .vminu e _ _ _ _ => engineOk e
  | .vmaxu e _ _ _ _ => engineOk e
  | .vand e _ _ _ _ => engineOk e
  | .vor e _ _ _ _ => engineOk e
  | .vxor e _ _ _ _ => engineOk e
  | .vshl e _ _ _ _ => engineOk e
  | .vshr e _ _ _ _ => engineOk e
  | .vsra e _ _ _ _ => engineOk e
  | .vmul e _ _ _ _ => engineOk e
  | .vmulh e _ _ _ _ => engineOk e
  | .vmulhu e _ _ _ _ => engineOk e
  | .vabsdu e _ _ _ _ => engineOk e
  | .vavgu e _ _ _ _ => engineOk e
  | .vsel e _ _ _ _ => engineOk e
  | .vshli e _ _ _ _ => engineOk e
  | .vshri e _ _ _ _ => engineOk e
  | .vsrai e _ _ _ _ => engineOk e
  | .vaddi e _ _ _ _ => engineOk e
  | .vmov e _ _ _ => engineOk e
  | .vclz e _ _ _ => engineOk e
  | .vrcp e _ _ _ => engineOk e
  | .vrsqrt e _ _ _ => engineOk e
  | .vlane e _ _ _ => engineOk e
  | .vmvs e _ _ _ => engineOk e
  | .vcmp e _ _ cond _ _ => engineOk e && decide (cond.toNat ≤ 5)
  | .pand e _ _ _ => engineOk e
  | .por e _ _ _ => engineOk e
  | .pxor e _ _ _ => engineOk e
  | .pandn e _ _ _ => engineOk e
  | .pset e _ _ _ => engineOk e
  | .pget e _ _ _ => engineOk e
  | .vmac e _ _ _ _ _ => engineOk e
  | .aclr e _ _ => engineOk e
  | .aset e _ _ _ _ _ => engineOk e
  | .vrnd e _ _ _ _ mode => engineOk e && decide (mode.toNat ≤ 2)
  | .lut1 e _ _ _ _ _ => engineOk e
  | .lut2 e _ _ _ _ _ _ => engineOk e
  | .mvq e _ _ => engineOk e
  | .bar e _ => engineOk e
  | .wait e mask => engineOk e && decide (mask ≠ 0)
  | .csrr e _ csr => engineOk e && decide (csr.toNat ≤ 5)
  | .csrw e _ csr => engineOk e && decide (csr.toNat ≤ 5)
  | .eret e => engineOk e
  | .halt e => engineOk e
  | .powerOn _ => true
  | .railPowerGood r => decide (r.rail < 8 ∧ r.voutMode < 256)
  | .railPowerGoodTimeout n => decide (n < 8)
  | .strapSample ownerSel _ _ bmcAddr => decide (ownerSel < 4) && decide (bmcAddr < 4)
  | .portReset port cause => portOk port && decide (cause ≤ 3)
  | .bootImageVerified _ _ _ => true
  | .bootClearDone _ => true
  | .rsvTrainDone _ => true
  | .storeLinkUp _ _ => true
  | .storeControllerReady _ _ => true
  | .ready _ => true
  | .bootHoldLimitExpiry _ => true
  | .bootCtrlHold port _ => portOk port
  | .bootCtrlRelease port _ => portOk port
  | .bootCtrlRecoveryGo port => portOk port
  | .bootXferOpen port => portOk port
  | .bootXferDataWrite port off data => portOk port && decide (off + data.length ≤ 2048)
  | .bootHoldLimitWrite port _ _ _ => portOk port
  | .topReset port _ => portOk port
  | .flagClear port off _ => portOk port && decide (off % 4 = 0)
  | .registerWrite port off size _ => portOk port && (decide (size = 4 ∧ off % 4 = 0) || decide (size = 8 ∧ off % 8 = 0))
  | .topHostPermWrite port m _ => portOk port && portOk m
  | .rastGeomWrite port _ => portOk port
  | .rastLagWrite port _ => portOk port
  | .rastCtrlTimelineWrite port _ => portOk port
  | .pipeFmtWrite port _ => portOk port
  | .engCtrlRearRoleWrite port _ => portOk port
  | .rsvAllocWrite port reg _ => portOk port && decide (reg ≤ 1)
  | .portKick port _ => portOk port
  | .pollTimerExpiry port => portOk port
  | .doorbellFetchDone port _ => portOk port
  | .descriptorFetchDone port sq _ => ringOk port sq
  | .sqCfgWrite port n _ => portOk port && decide (n < 8)
  | .cqCfgWrite port n _ => portOk port && decide (n < 8)
  | .evqCfgWrite port _ => portOk port
  | .coalesceTimerExpiry port ring => portOk port && (decide (ring = 0x80) || decide (0x40 ≤ ring ∧ ring < 0x48))
  | .setPanel port sq _ => ringOk port sq
  | .setTimeline port sq _ => ringOk port sq
  | .assign port sq _ => ringOk port sq
  | .setBackground port sq _ => ringOk port sq
  | .rasterEnable port sq _ => ringOk port sq
  | .layerConfig port sq _ => ringOk port sq
  | .layerFlip port sq _ => ringOk port sq
  | .layerEnable port sq _ => ringOk port sq
  | .layerMatrix port sq _ => ringOk port sq
  | .tableLoad port sq _ => ringOk port sq
  | .tableActivateC port sq _ => ringOk port sq
  | .tableActivateS port sq _ => ringOk port sq
  | .tableDrop port sq _ => ringOk port sq
  | .kernelLoad port sq _ => ringOk port sq
  | .kernelBind port sq _ _ => ringOk port sq
  | .kernelUnload port sq _ => ringOk port sq
  | .imageLoadDone port sq _ _ => ringOk port sq
  | .holdStage port sq _ => ringOk port sq
  | .holdStageDone item => decide (item < 2 ^ 32)
  | .holdPlay port sq _ => ringOk port sq
  | .holdStop port sq _ => ringOk port sq
  | .holdPolicy port sq _ => ringOk port sq
  | .holdEvict port sq _ => ringOk port sq
  | .storeRead port sq _ => ringOk port sq
  | .storeWrite port sq _ _ => ringOk port sq
  | .storeCreate port sq _ => ringOk port sq
  | .storeDelete port sq _ => ringOk port sq
  | .storeInfo port sq _ => ringOk port sq
  | .nvmeCompletion cid _ _ => decide (cid < 65536)
  | .nvmeCommandTimeout _ => true
  | .storeLost reason => (decide (reason = 1) || decide (reason = 6))
  | .codecJob port sq _ => ringOk port sq
  | .codecOutBuf port sq _ => ringOk port sq
  | .codecCancel port sq _ => ringOk port sq
  | .codecBlockDone lane _ => decide (lane < 8)
  | .checkRect port sq _ => ringOk port sq
  | .checkExpect port sq _ => ringOk port sq
  | .checkFrameComputed rect => decide (rect < 48)
  | .ctrProgram port sq _ => ringOk port sq
  | .ctrSnapshot port sq _ => ringOk port sq
  | .ctrFreeze port sq _ => ringOk port sq
  | .bwMonitor port sq _ => ringOk port sq
  | .bwWindowEnd monitor _ _ => decide (monitor < 10)
  | .tagConfig port sq _ => ringOk port sq
  | .powerReq port sq _ => ringOk port sq
  | .opLimit port sq _ => ringOk port sq
  | .laneTrain port sq _ => ringOk port sq
  | .laneBitSlip port sq _ => ringOk port sq
  | .laneEyeScan port sq _ => ringOk port sq
  | .lanePrbs port sq _ => ringOk port sq
  | .timeLock port sq _ => ringOk port sq
  | .timePhase port sq _ => ringOk port sq
  | .timeStamp port sq _ => ringOk port sq
  | .timeSet port sq _ => ringOk port sq
  | .secAttest port sq _ => ringOk port sq
  | .secChallenge port sq _ => ringOk port sq
  | .secEnrol port sq _ _ => ringOk port sq
  | .secRevoke port sq _ => ringOk port sq
  | .secFwUpdate port sq _ _ => ringOk port sq
  | .fwFlashWriteDone _ => true
  | .secRollback port sq _ => ringOk port sq
  | .secCert port sq _ => ringOk port sq
  | .diagFieldRecord port sq _ => ringOk port sq
  | .diagUnitEnable port sq _ => ringOk port sq
  | .diagUnitFence port sq _ => ringOk port sq
  | .diagLogRead port sq _ => ringOk port sq
  | .bmcUnitTable first => decide (first < 256)
  | .bmcFieldRead page => decide (page < 256)
  | .bmcPowerReq _ => true
  | .laneCfgWrite port link lane _ => portOk port && laneOk link lane
  | .laneSlipWrite port link lane _ => portOk port && laneOk link lane
  | .laneEyeStartWrite port link lane _ => portOk port && laneOk link lane
  | .prbsCtrlWrite port link lane _ => portOk port && laneOk link lane
  | .prbsInjectWrite port link lane _ _ _ => portOk port && laneOk link lane
  | .prbsBitsLoRead port link lane _ _ => portOk port && laneOk link lane
  | .rastSfnLoRead port => portOk port
  | .rastCfnLoRead port => portOk port
  | .hfnOffsetLoRead port => portOk port
  | .rastTimeNsRead port => portOk port
  | .bklStatsSfnLoRead port => portOk port
  | .chkFrameLoRead port rect => portOk port && decide (rect < 48)
  | .laneTrainingDone link lane _ _ _ => laneOk link lane
  | .laneTrainingTimeout link lane => laneOk link lane
  | .laneLockLost link lane _ => laneOk link lane
  | .fastRetrainTimeout link lane => laneOk link lane
  | .retrainCountReset link lane => laneOk link lane
  | .fomWindow lane _ _ => laneOk 0 lane
  | .ctleTrial lane => laneOk 0 lane
  | .idleFreeze link lane => laneOk link lane
  | .recentreDone scan => laneOk 0 scan.lane
  | .eyeScanDone link lane _ _ _ _ _ _ => laneOk link lane
  | .hwlLinePacket lane _ => laneOk 0 lane
  | .frameStart lane _ _ _ _ => laneOk 0 lane
  | .frameEnd lane _ _ _ => laneOk 0 lane
  | .hwlSleepBlock b => laneOk 0 b.lane
  | .hwlWakeBlock b => laneOk 0 b.lane
  | .hwlTrainBlock b => laneOk 0 b.lane
  | .hwlIdleBlock b => laneOk 0 b.lane
  | .hwlUnknownBlock lane _ => laneOk 0 lane
  | .lineDeadline plane _ => decide (plane ≤ 1)
  | .refFrameEdge _ _ => true
  | .refTodMessage _ _ => true
  | .compositionFrameStart _ => true
  | .compositionLineStart _ => true
  | .liveFetchDone layer plane _ _ _ => decide (layer < 16) && decide (plane < 3)
  | .snapshotFetchDone port sq _ _ => ringOk port sq
  | .tileDispatch cell tc tr _ _ => tileOk cell tc tr
  | .tileComplete cell tc tr => tileOk cell tc tr
  | .tileRetire cell tc tr => tileOk cell tc tr
  | .tileDeadline cell tc tr _ => tileOk cell tc tr
  | .deadlineWarning cell tc tr => tileOk cell tc tr
  | .maxCyclesExpiry engine => engineOk engine
  | .moverRequestDone cluster => decide (cluster < 32)
  | .moverStarve cluster _ _ => decide (cluster < 32)
  | .patrolVisit c _ _ word _ _ => decide (c < 32) && decide (word < 64)
  | .handlerEntry engine => engineOk engine
  | .barrierRelease engine => engineOk engine
  | .waitRelease engine => engineOk engine
  | .stageEnd engine => engineOk engine
  | .instructionUndefined engine => engineOk engine
  | .rsvScrubRead _ _ result => decide (result ≤ 2)
  | .bklStrobe controller onRow offRow => decide (controller < 4) && rowOk onRow && rowOk offRow
  | .zoneData controller row _ _ => decide (controller < 4) && decide (row < 36)
  | .bklStatus controller _ _ => decide (controller < 4)
  | .slkLinePacket lane _ _ _ _ => laneOk 1 lane
  | .cfgWrite w => laneOk 1 w.lane
  | .slkDcfgGo port _ => portOk port
  | .roll bc replies => decide (bc < 8) && decide (replies.length ≤ 16)
  | .statusPoll lane => laneOk 1 lane
  | .bcReply bc frame => decide (bc < 8) && decide (frame.length ≤ 16)
  | .bcReplyTimeout bc _ => decide (bc < 8)
  | .bcAlertPulse bc _ _ => decide (bc < 8)
  | .relock lane frame => laneOk 1 lane && decide (frame.length ≤ 16)
  | .hostLinkWake port => portOk port
  | .voltageFail _ => true
  | .railTelemetry _ => true
  | .pmbusAlert _ => true
  | .pllLockLoss unit => decide (unit < 256)
  | .mgmtMemoryError unit => decide (unit < 256)
  | .sensorRefresh _ => true
  | .panelTempPoll _ => true
  | .unitStateUpdate unit => decide (unit < 256)
  | .hwlSignalDetect lane => laneOk 0 lane
  | .cdrLock lane => laneOk 0 lane
  | .blockLock r => laneOk 0 r.lane
  | .invalidSyncHeader lane _ => laneOk 0 lane
  | .prbsCheckerLocked r => laneOk 0 r.lane
  | .prbsCheckerUnlock lane _ _ => laneOk 0 lane
  | .hostLinkUp port => portOk port
  | .counterWrap n => decide (n < 64)
  | .dataPathAcknowledge unit => decide (unit < 256)
  | .diagUnitEnableTimeout unit => decide (unit < 256)
  | .readTemperaturePoll _ => true
  | .privateTestModeOpen _ => true
  | .wakeFromOff => true
  | .vddAonLoss => true
  | .watchdogExpiry => true
  | .laneCalibrationDone => true
  | .stpPerstRelease => true
  | .storeAbsentTimeout => true
  | .recoveryVerifyDone => true
  | .panelPowerStep => true
  | .storeMountRetry => true
  | .eventLogFlush => true
  | .smartPoll => true
  | .challengeExpiry => true
  | .bmcStatus => true
  | .bmcFieldCapture => true
  | .bmcPowerResult => true
  | .silenceCheck => true
  | .freeze => true
  | .freezeTimeout => true
  | .refFrameLost => true
  | .ref10mPresent => true
  | .ref10mLost => true
  | .refPpsEdge => true
  | .scanFrameStart => true
  | .latchInstant => true
  | .stage6Deadline => true
  | .idlePolicy => true
  | .sleepPolicy => true
  | .unitAgree => true
  | .stpShutdownTimeout => true
  | .wakeN => true
  | .wakeSense => true
  | .powerExitDone => true
  | .opSwitch => true
  | .opPllTimeout => true
  | .thermalTrip => true
  | .rsvInterfaceFailure => true
  | .resetNLow => true
  | .vddAonPowerUp => true
  | .railRetryWait => true
  | .scanLineStart => true
  | .fuseProgrammingDone => true
  | .refPpsLost => true

end Sys2Proof
end

