-- ==== Sys2Proof/Certificates/Slice0/Obligations.lean ====
section
/-! DEFINITION. The statements about the model. A clause `conditions → exec c s = .next t` says that the command runs and
what it leaves; the conditions are on the state and the operands alone. -/

open Sys2Proof Sys2Proof.Machine

/-- A step runs the command at the front of the queue on the queue's rest; with no command it idles (log entry 2). -/
def Obligations.StepRunsFront : Prop :=
  (∀ (c : Instr) (q : List Instr) (s : State), s.pending = c :: q → step s = exec c { s with pending := q }) ∧
  (∀ s : State, s.pending = [] → step s = .next s)

/-- No command ends the run: whatever its operands and the state, it answers a next state (R538: an error is a status, a
flag or an event of the device). -/
def Obligations.NothingStops : Prop :=
  (∀ (c : Instr) (s : State), ∃ t, exec c s = .next t) ∧ (∀ s : State, ∃ t, step s = .next t)

/-- The state after reset: registers at their reset values and in canonical form, nothing waiting, no port's link up, the
rails off, fuses empty (log entry 1). -/
def Obligations.ResetState : Prop :=
  RegsCanonical State.reset ∧ (∀ k, rd State.reset k = regReset k) ∧ State.reset.pending = [] ∧
  (∀ p, (portOf State.reset p).up = false) ∧ State.reset.power.rails = [] ∧ FusesOnly State.reset ∧
  regReset Reg.RAST_LAG = rd State.reset Reg.RAST_LAG ∧ 
  (∀ l a, l < 2 → a < (if l = 0 then 32 else 128) → laneIs State.reset l a Lane.off = true)

/-- The register file stays in its canonical form: equal register contents stay equal data. -/
def Obligations.RegsStayCanonical : Prop :=
  ∀ s t : State, RegsCanonical s → step s = .next t → RegsCanonical t

/-- Fuses only grow (R93 to R96, R103): whatever the command, the ordering code and serial stay, the minimum version never
falls, a key slot only goes from empty to enrolled to revoked, and the test mark is never cleared. -/
def Obligations.FusesOnlyGrow : Prop :=
  ∀ s t : State, FusesOnly s → step s = .next t → FusesOnly t ∧ FusesGrow s.fuses t.fuses

/-- Registers (R10, R138, R379): a written register reads back, a written field holds its value and leaves the other fields, and
no other register changes. In an engine s0 reads 0 and p0 reads all ones, writes to them are discarded, and a write of another
register reads back and leaves the rest. -/
def Obligations.RegisterFile : Prop :=
  (∀ (s : State) (k j : Nat) (w : Word), RegsCanonical s →
    rd (wr k w s) k = w ∧ (j ≠ k → rd (wr k w s) j = rd s j) ∧ RegsCanonical (wr k w s) ∧
    (∀ lo n x, lo + n ≤ 32 → rdF (wrF k (lo, n) x s) k (lo, n) = x % 2 ^ n ∧
      ∀ lo' n', (lo' + n' ≤ lo ∨ lo + n ≤ lo') → rdF (wrF k (lo, n) x s) k (lo', n') = rdF s k (lo', n')) ∧
    (∀ v : Word, j ≠ k → rd (writeRw k v s) j = rd s j)) ∧
  (∀ (v : Engine) (x : BitVec 32) (y : BitVec 16) (z : BitVec 256),
    v.sreg 0 = 0 ∧ v.preg 0 = 0xFFFF ∧ v.setS 0 x = v ∧ v.setP 0 y = v ∧
    (keysAbove 0 v.s = true → ∀ i j : BitVec 5, i ≠ 0 → (v.setS i x).sreg i = x ∧ (j ≠ i → (v.setS i x).sreg j = v.sreg j)) ∧
    (keysAbove 0 v.p = true → ∀ i j : BitVec 3, i ≠ 0 → (v.setP i y).preg i = y ∧ (j ≠ i → (v.setP i y).preg j = v.preg j)) ∧
    (keysAbove 0 v.v = true → ∀ i j : BitVec 5, (v.setV i z).vreg i = z ∧ (j ≠ i → (v.setV i z).vreg j = v.vreg j)))

/-- Counter wraps (R496): an unchained counter wraps at 2^48 and counts that; a chained even counter hands it to its odd
partner, which counts its own, and the pair holds one number of 96 bits; an odd partner that is not enabled holds its value
(R493). -/
def Obligations.CounterWraps : Prop :=
  ∀ (s : State) (n v : Nat), keysAbove 0 s.perf.ctrs = true → (ctr s n).value < 2 ^ 48 → (ctr s (n + 1)).value < 2 ^ 48 →
    v < 2 ^ 48 →
    (ctrChained s n = false → (ctr s n).value + v < 2 ^ 48 → ctr (ctrAdd n v s) n = { ctr s n with value := (ctr s n).value + v } ∧
      (ctrAdd n v s).regs = s.regs) ∧
    (ctrChained s n = false → 2 ^ 48 ≤ (ctr s n).value + v → ctr (ctrAdd n v s) n = {
        value := (ctr s n).value + v - 2 ^ 48, ovf := min 255 ((ctr s n).ovf + 1) } ∧
      (RegsCanonical s → rdF (ctrAdd n v s) Reg.PERF_FLAGS (0, 1) = 1)) ∧
    (n % 2 = 0 → ctrChained s n = true → RegsCanonical s →
      rdB s (Reg.PERF_CTRn_CFG (n + 1)) Fld.PERF_CTRn_CFG_enable = true → (ctr (ctrAdd n v s) n).ovf = (ctr s n).ovf ∧
      (ctr (ctrAdd n v s) n).value = ((ctr s n).value + v) % 2 ^ 48 ∧
      (ctr (ctrAdd n v s) (n + 1)).value * 2 ^ 48 + (ctr (ctrAdd n v s) n).value =
        ((ctr s (n + 1)).value * 2 ^ 48 + (ctr s n).value + v) % 2 ^ 96 ∧
      (ctr (ctrAdd n v s) (n + 1)).ovf =
        if 2 ^ 96 ≤ (ctr s (n + 1)).value * 2 ^ 48 + (ctr s n).value + v then min 255 ((ctr s (n + 1)).ovf + 1)
        else (ctr s (n + 1)).ovf) ∧
    (n % 2 = 0 → ctrChained s n = true → RegsCanonical s →
      rdB s (Reg.PERF_CTRn_CFG (n + 1)) Fld.PERF_CTRn_CFG_enable = false →
      (ctr (ctrAdd n v s) n).value = ((ctr s n).value + v) % 2 ^ 48 ∧ ctr (ctrAdd n v s) (n + 1) = ctr s (n + 1))

/-- Completions and descriptor order (R124, R125, R127, R134): a record goes to the completion ring of its submission ring
while an entry is free and is held when none is, and its descriptor leaves the device; a descriptor may start only when
every earlier one of its ring has started, and behind a fence only when every earlier one has completed; a command that
names one that may not start has no effect. -/
def Obligations.DescriptorLife : Prop :=
  (∀ (s : State) (d : Dsc) (c : Completion) (p n : Nat),
    (0 < cqFree s p n → (cqOf s p n).held = [] → postCompletion p n c s = writeCompletion p n c s) ∧
    (cqFree s p n = 0 → (cqOf s p n).stalled = true → postCompletion p n c s =
      setCq p n { cqOf s p n with held := (cqOf s p n).held ++ [c], stalled := true } s) ∧
    (∀ st f r, ∀ e ∈ (complete d st f r s).host.inflight, e.is d.port d.sq d.seq = false) ∧
    (∀ st f r, ∀ e ∈ s.host.inflight, e.is d.port d.sq d.seq = false → e ∈ (complete d st f r s).host.inflight)) ∧
  (∀ (s : State) (p q n op : Nat) (f : Dsc → State → State),
    (∀ d, readyDsc s p q n op = some d → d.is p q n = true ∧ d.opcode = op ∧
      (∀ e ∈ s.host.inflight, e.port = p → e.sq = q → e.seq < n → d.fence = false ∧ e.phase ≠ .ready)) ∧
    (readyDsc s p q n op = none → withReady p q n op f s = .next s))

/-- The events' way (R115, R129): an event of the device goes to the owner and to the participants that hold its group, in
port order, and to no port that does not exist. -/
def Obligations.EventRouting : Prop :=
  ∀ (s : State) (code : Nat),
    (∀ p, p ∈ routePorts s .device code ↔ portExists s p = true ∧ (p = owner s ∨ holdsGroup s p (code / 256) = true)) ∧
    (∀ e p, passes s p e.severity = false → postToPort e s p = s) ∧
    (∀ e p, passes s p e.severity = true → (portOf s p).lostSince = 0 → evqFree s p = 0 →
      postToPort e s p = setFlag (Flag.PORT_ev_lost p) (bumpSat (Reg.PORT_EVQ_LOST p) (0, 32) 1
        (setPort p { portOf s p with lostSince := 1 } s)))

/-- Power-up, rails and pins (R45, R50, R54 to R57, R69, R526): what each command of the rail sequence does where its event is
due, at a start and at a wake; loss of supply and RESET_N (R46, R522) restart the device, and only the fuses outlast VDD_AON; the
panel's pins are Hi-Z in OFF and before the first enable. -/
def Obligations.RailsAndRestarts : Prop :=
  ∀ s : State,
    (∀ b, s.boot.phase = .held → ∃ t, exec (.powerOn b) s = .next t ∧ t.power.rails = [0] ∧ t.straps = {} ∧
      t.boot.phase = (if b then .boardTest else .rail 0)) ∧
    (∀ n m, n < 7 → ulinear16 m = true → s.boot.phase = .rail n → (n = 0 → s.straps.sampled = true) → s.boot.board = false →
      s.power.rails.contains (n + 1) = false → ∃ t, exec (.railPowerGood ⟨n, m⟩) s = .next t ∧
        t.power.rails = (n + 1) :: s.power.rails ∧ t.boot.phase = .rail (n + 1) ∧ t.regs = s.regs ∧
        t.out = s.out ++ [.pmbusRead n 0x79, .pmbus (n + 1) 0x02 Config.onOffConfig.toNat
          (pmbusBytes (n + 1) 0x02 Config.onOffConfig.toNat), .pmbusRead (n + 1) 0x20,
          .pmbus (n + 1) 1 0x80 (pmbusBytes (n + 1) 1 0x80)]) ∧
    (∀ m, ulinear16 m = true → s.boot.phase = .rail 0 → s.straps.sampled = false →
      ∃ t, exec (.railPowerGood ⟨0, m⟩) s = .next t ∧
      t.boot.phase = .straps ∧ t.power.rails = s.power.rails ∧ t.regs = s.regs) ∧
    (∀ m, ulinear16 m = true → s.boot.phase = .rail 7 → s.boot.board = false →
      ∃ t, exec (.railPowerGood ⟨7, m⟩) s = .next t ∧ t.boot.phase = .rom) ∧
    (∀ x n r rest m, ulinear16 m = true → (∀ k, s.boot.phase ≠ .rail k) → s.boot.phase ≠ .boardTest → s.power.exit = some x →
      x.rails = n :: r :: rest → x.waiting = false → s.power.rails.contains r = false →
      ∃ t, exec (.railPowerGood ⟨n, m⟩) s = .next t ∧ t.power.rails = r :: s.power.rails ∧
        t.power.exit = some { x with rails := r :: rest, raised := r :: x.raised }) ∧
    (∀ x n, (∀ k, s.boot.phase ≠ .rail k) → s.boot.phase ≠ .boardTest → s.power.exit = some x → x.rails.head? = some n →
      x.waiting = false → x.retried = false → ∃ t, exec (.railPowerGoodTimeout n) s = .next t ∧ t.boot = s.boot ∧ t.power.exit =
        some { x with rails := x.raised.reverse ++ x.rails.drop 1, raised := [], retried := true, waiting := true }) ∧
    (∀ n, s.boot.phase = .rail n → s.boot.retried = false → ∃ t, exec (.railPowerGoodTimeout n) s = .next t ∧
      t.boot.phase = .retryWait ∧ t.boot.retried = true ∧ t.power.rails = []) ∧
    (∀ n, s.boot.phase = .rail n → s.boot.retried = true → ∃ t, exec (.railPowerGoodTimeout n) s = .next t ∧
      t.boot.phase = .railsOff ∧ t.power.rails = [] ∧ t.power.state = .off) ∧
    (s.boot.phase = .retryWait → s.boot.retried = true → s.boot.board = false → s.power.rails = [] →
      ∃ t, exec .railRetryWait s = .next t ∧ t.boot.phase = .rail 0 ∧ t.power.rails = [0]) ∧
    (∀ a m n c, a < 4 → c < 4 → s.boot.phase = .straps → s.straps.sampled = false → s.boot.board = false →
      s.power.rails.contains 1 = false → ∃ t, exec (.strapSample a m n c) s = .next t ∧
        t.straps = { ownerSel := a, merge01 := m, merge23 := n, bmcAddr := c, sampled := true } ∧
        t.boot.phase = .rail 1 ∧ t.power.rails = 1 :: s.power.rails) ∧
    (s.boot.phase = .aonOff → ∃ t, exec .vddAonPowerUp s = .next t ∧ t.boot.phase = .held ∧ t.regs = s.regs) ∧
    (∃ t, exec .vddAonLoss s = .next t ∧ t.regs = [] ∧ t.boot.phase = .aonOff ∧ t.host = {} ∧ t.power.rails = [] ∧
      t.pending = s.pending ∧ (s.sec.fuse = none → t.fuses = s.fuses)) ∧
    (s.boot.phase ≠ .aonOff → ∃ t, exec .resetNLow s = .next t ∧ t.boot.phase = .held ∧ t.host = {} ∧ t.power.rails = [] ∧
      (RegsCanonical s → ∀ k, regScope k = .aon → rd t k = rd s k) ∧ (s.sec.fuse = none → t.fuses = s.fuses)) ∧
    (s.power.state = .off → s.boot.phase ≠ .retryWait → ∃ t, exec .wakeFromOff s = .next t ∧ t.boot.phase = .rail 0 ∧ t.power.rails = [0] ∧
      (RegsCanonical s → rdF t Reg.PWR_WAKE_STAT Fld.PWR_WAKE_STAT_source = 1)) ∧
    (s.power.state = .off → s.boot.phase ≠ .retryWait → exec .wakeN s = exec .wakeFromOff s) ∧
    (s.power.state = .off → ∀ n, pinState s (.sluiceTx n) = .hiZ ∧ pinState s (.gateOut n) = .hiZ ∧
      pinState s (.panelPower n) = .hiZ ∧ pinState s .storePerst = .hiZ ∧ pinState s .fault = .released) ∧
    (s.power.state = .run → s.power.rails.contains 0 = true → s.raster.driven = false → ∀ n, pinState s (.sluiceTx n) = .hiZ ∧
      pinState s (.gateOut n) = .hiZ ∧ pinState s (.panelPower n) = .hiZ ∧ pinState s (.headwaterRx n) = .terminated) ∧
    (s.power.state = .run → s.power.rails.contains 0 = true → s.raster.driven = true → ∀ n,
      pinState s (.gateOut n) = (if bitAt s.raster.gto n then .high else .low) ∧
      pinState s (.panelPower n) = (if s.raster.powered.contains n then .high else .low)) ∧
    (∀ r : RailReport, ulinear16 r.voutMode = false → exec (.railPowerGood r) s = exec (.railPowerGoodTimeout r.rail) s) ∧
    (s.boot.phase = .retryWait → exec .wakeFromOff s = .next s)

/-- The boot stages (R73, R75 to R77, R84, R88): the stage each boot event leads to, when READY is set, and what the
owner's writes of BOOT_CTRL and BOOT_HOLD_LIMIT do. -/
def Obligations.BootStages : Prop :=
  (∀ s : State,
    (∀ i a b, s.boot.phase = .rom → ∃ t, exec (.bootImageVerified i a b) s = .next t ∧
      (t.boot.phase = .clear true ∨ t.boot.phase = .clear false) ∧
      ((i = false ∨ bootOrder a b = []) → t.boot.phase = .clear true)) ∧
    (∀ r, s.boot.phase = .clear r → exec (.bootClearDone true) s = .next (setStage 5 (.rsvTrain r) s)) ∧
    (RegsCanonical s → s.boot.phase = .rsvTrain false → ∃ t, exec (.rsvTrainDone true) s = .next t ∧ t.boot.phase = .lanes ∧
      rdB t Reg.RSV_STAT Fld.RSV_STAT_trained = true ∧ rdB t Reg.RSV_STAT Fld.RSV_STAT_scrubbing = true) ∧
    (s.boot.phase = .rsvTrain true → ∃ t, exec (.rsvTrainDone true) s = .next t ∧ t.boot.phase = .recoveryWait) ∧
    (s.boot.phase = .lanes → s.fault.recovering = none → s.store.mounted = false →
      rdF s Reg.STP_STAT Fld.STP_STAT_reason = 0 → ∃ t, exec .laneCalibrationDone s = .next t ∧
        t.boot.phase = .load ∧ t.boot.lanesDone = true) ∧
    (s.boot.perstN = some false → exec .stpPerstRelease s = .next { s with boot := { s.boot with perstN := some true } })) ∧
  (∀ (s : State) (ms : Nat),
    (s.boot.phase = .load → s.boot.loadsDone = true → rdB s Reg.BOOT_CTRL Fld.BOOT_CTRL_hold = false →
      exec (.ready ms) s = .next (setReady ms s)) ∧
    (s.boot.phase = .load → s.boot.loadsDone = true → rdB s Reg.BOOT_CTRL Fld.BOOT_CTRL_hold = true →
      exec (.ready ms) s = .next (setStage 8 .hold s)) ∧
    (s.boot.phase = .hold → rd s Reg.BOOT_HOLD_LIMIT ≠ 0 →
      exec (.bootHoldLimitExpiry ms) s = .next (bootFailure 0x41 0xFF 0 s |> setReady ms)) ∧
    (∀ p v, bootWrites s p = true → ready s = false → exec (.bootCtrlHold p v) s = .next (writeRw Reg.BOOT_CTRL v s)) ∧
    (∀ p, bootWrites s p = true → s.boot.phase = .hold → exec (.bootCtrlRelease p ms) s = .next (setReady ms s)) ∧
    (∀ p v el, bootWrites s p = true → ready s = false → el < v.toNat →
      exec (.bootHoldLimitWrite p v el ms) s = .next (wr Reg.BOOT_HOLD_LIMIT v s)))

/-- Recovery staging and TOP_RESET (R84, R85, R89, R568). -/
def Obligations.RecoveryStaging : Prop :=
  ∀ s : State,
    (∀ p, mayStage s p = true → exec (.bootXferOpen p) s =
      .next { s with boot := { s.boot with staging := [], stagedLen := 0 } }) ∧
    (∀ p off (b0 b1 b2 b3 : Byte), mayStage s p = true → off % 4 = 0 → off + 4 ≤ 2048 →
      rdF s Reg.BOOT_XFER_OFFSET Fld.BOOT_XFER_OFFSET_offset = 0 →
      ∃ t, exec (.bootXferDataWrite p off [b0, b1, b2, b3]) s = .next t ∧ t.boot.stagedLen = max s.boot.stagedLen (off + 4) ∧
        t.regs = s.regs ∧ (s.boot.staging = [] → tabGet (fun _ => 0) t.boot.staging off = b0 ∧ tabGet (fun _ => 0) t.boot.staging (off + 3) = b3)) ∧
    (∀ p, RegsCanonical s → mayStage s p = true → ∃ t, exec (.bootCtrlRecoveryGo p) s = .next t ∧
      rdB t Reg.BOOT_XFER_CTRL Fld.BOOT_XFER_CTRL_busy = true ∧
      rdB t Reg.BOOT_XFER_CTRL Fld.BOOT_XFER_CTRL_result_valid = false ∧ t.boot = s.boot) ∧
    (RegsCanonical s → s.boot.phase = .recoveryWait → rdB s Reg.BOOT_XFER_CTRL Fld.BOOT_XFER_CTRL_busy = true →
      ∃ t, exec .recoveryVerifyDone s = .next t ∧ rdB t Reg.BOOT_XFER_CTRL Fld.BOOT_XFER_CTRL_busy = false ∧
        rdB t Reg.BOOT_XFER_CTRL Fld.BOOT_XFER_CTRL_result_valid = true ∧
        (t.boot.phase = .clear false ↔ ∃ d, verifyImage s (stagedImage s) 1 slotRoom = .accept d) ∧
        (t.boot.phase = .recoveryWait ∨ t.boot.phase = .clear false ∧ t.boot.perstN = some false ∧
          rdB t Reg.BOOT_XFER_CTRL Fld.BOOT_XFER_CTRL_result_ok = true ∧
          rdB t Reg.BOOT_STATUS Fld.BOOT_STATUS_recovery_active = true)) ∧
    (s.boot.phase = .recoveryWait → rdB s Reg.BOOT_XFER_CTRL Fld.BOOT_XFER_CTRL_busy = true →
      verifyImage s (stagedImage s) 1 slotRoom = .reject → exec .recoveryVerifyDone s = .next (bootFailure 0x40 2 0
        (setFlag Flag.SEC_sig_fail (wrF Reg.BOOT_XFER_CTRL Fld.BOOT_XFER_CTRL_result_valid 1
          (wrF Reg.BOOT_XFER_CTRL Fld.BOOT_XFER_CTRL_busy 0 s))))) ∧
    (s.boot.phase = .recoveryWait → rdB s Reg.BOOT_XFER_CTRL Fld.BOOT_XFER_CTRL_busy = true →
      formatOk (stagedImage s) 1 = false → verifyImage s (stagedImage s) 1 slotRoom = .reject) ∧
    (∀ p k, ownerWrites s p = true → k % 65536 = 0x5A5A → s.power.state ≠ .sleep →
      exec (.topReset p k) s = .next (ownerReset s))

/-- Who may ask for a power state and how it is entered and left (R142, R172, R511 to R520, R526 to R529): the unit asked
next agrees, refuses or is waited for, and STP's timeout aborts. -/
def Obligations.PowerStates : Prop :=
  (∀ s : State,
    (∀ p q n d, readyDsc s p q n 0x0A01 = some d → PState.ofCode (d.u8 16) ≠ .run → exec (.powerReq p q n) s =
      .next (requestPower { target := PState.ofCode (d.u8 16), who := .port d.port, dsc := some (d.port, d.sq, d.seq) }
        (setRunning d s))) ∧
    (∀ k, bmcServed s = true → k = 2 ∨ k = 4 → exec (.bmcPowerReq k) s =
      .next (requestPower { target := if k = 2 then .sleep else .off, who := .bmc } s)) ∧
    (ready s = true → policyRuns s = true → rdB s Reg.PWR_POLICY Fld.PWR_POLICY_idle_en = true → s.power.state = .run →
      min 1000 (max 1 (rdF s Reg.PWR_POLICY Fld.PWR_POLICY_idle_frames)) ≤ s.power.static → exec .idlePolicy s =
        .next (requestPower { target := .idle, who := .mgmt } { s with power := { s.power with static := 0 } })) ∧
    (ready s = true → policyRuns s = true → rdB s Reg.PWR_POLICY Fld.PWR_POLICY_sleep_en = true → rdB s Reg.HWL_STAT Fld.HWL_STAT_sleeping = true →
      s.hold.play = none → s.power.state = .run → exec .sleepPolicy s =
        .next (requestPower { target := .sleep, who := .mgmt } s))) ∧
  (∀ (s : State) (e : Entry),
    (∀ u, s.power.entry = some e → nextUnit s e = some u → unitRefuses s e u = true →
      exec .unitAgree s = .next (abortEntry e u s)) ∧
    (∀ u, s.power.entry = some e → nextUnit s e = some u → unitRefuses s e u = false → unitStopped s u = true →
      exec .unitAgree s = .next (settleEntry (askNext 32 (quiesce { e with agreed := u :: e.agreed } u
        { s with power := { s.power with entry := some { e with agreed := u :: e.agreed } } })))) ∧
    (s.power.entry = some e → nextUnit s e = some 0x14 → s.store.shutting = true →
      exec .stpShutdownTimeout s = .next (abortEntry e 0x14 s)) ∧
    (∀ x, s.power.exit = some x → x.rails = [] → s.power.resetAtRun = false → exec .powerExitDone s = .next (finishExit x s)) ∧
    (∀ x, s.power.exit = some x → x.rails = [] → s.power.resetAtRun = true → exec .powerExitDone s = .next (ownerReset s)))

/-- Wakes (R522 to R525): recognised in the states and under the enables of R523 and R524, latched during an entry. -/
def Obligations.WakesRecognised : Prop :=
  ∀ s : State,
    (s.power.state = .idle → s.power.entry = none → s.power.exit = none → exec .wakeN s =
      .next (beginExit { from_ := .idle, wake := { source := 1 }, cause := 2 } (recordWake { source := 1 } s))) ∧
    (s.power.state = .sleep → s.power.entry = none → s.power.exit = none →
      rdB s Reg.PWR_WAKE_CFG Fld.PWR_WAKE_CFG_sense_en = true → exec .wakeSense s =
      .next (beginExit { from_ := .sleep, wake := { source := 2 }, cause := 3 } (recordWake { source := 2 } s))) ∧
    (∀ p, s.power.state = .sleep → s.power.entry = none → s.power.exit = none → portExists s p = true →
      bitAt (rdF s Reg.PWR_WAKE_CFG Fld.PWR_WAKE_CFG_link_en) p = true → exec (.hostLinkWake p) s =
      .next (beginExit { from_ := .sleep, wake := { source := 3, port := p }, cause := 4 }
        (recordWake { source := 3, port := p } s))) ∧
    (∀ e, RegsCanonical s → s.power.state = .run → s.power.entry = some e → e.wake = none → ∃ t, exec .wakeN s = .next t ∧
      t.power.entry = some { e with wake := some { source := 1 } } ∧
      rdF t Reg.PWR_WAKE_STAT Fld.PWR_WAKE_STAT_source = 1)

/-- Operating points (R172, R530 to R533): the limit a descriptor sets, the switch that ends a change, and the two ways a
change fails. PMBus telemetry and alerts, and the die sensors (R534, R546, R553, R569). -/
def Obligations.PowerUpkeep : Prop :=
  (∀ (s : State) (c : OpChange),
    (∀ p q n d, readyDsc s p q n 0x0A02 = some d → d.u8 16 < 4 → d.u8 17 ≤ d.u8 18 → exec (.opLimit p q n) s =
      .next (completeI d .ok 0 (followQuad (d.u8 16) (wrF (Reg.PWR_LIMITd (d.u8 16)) Fld.PWR_LIMITd_max_op (d.u8 18)
        (wrF (Reg.PWR_LIMITd (d.u8 16)) Fld.PWR_LIMITd_min_op (d.u8 17) s))))) ∧
    (s.power.change = some c → s.power.entry = none → c.domain = 4 → c.target ≤ opOf s 4 → exec .opSwitch s =
      .next (serveOps 5 (commandRail 2 (askedMv (setOp 4 c.target { s with power := { s.power with change := none } }) 4)
        (setOp 4 c.target { s with power := { s.power with change := none } })))) ∧
    (s.power.change = some c → s.power.entry = none → c.domain < 4 → c.target ≤ opOf s c.domain →
      ∃ u, exec .opSwitch s = .next (serveOps 5 (commandRail 5 (askedMv u c.domain) u)) ∧
        u = postEvent .device 0x04F8 (0x40 + c.domain) 0 (dataAt 24 (opOf s c.domain) ||| dataAt 25 c.target |||
          dataAt 26 (tabGet (fun _ => 0) s.power.opCause c.domain))
          (wrF Reg.ENG_STAT (3 * c.domain, 3) c.target { s with power := { s.power with
            change := none, op := tabSet (fun _ => 0) s.power.op c.domain c.target } })) ∧
    (s.power.change = some c → c.domain = 4 → exec .opPllTimeout s =
      .next (serveOps 5 (setFlag Flag.PWR_pll_fail { s with power := { s.power with change := none } }))) ∧
    (s.power.change = some c → c.domain < 4 → exec .opPllTimeout s = .next (serveOps 5 (fenceQuadrant c.domain 5
      (setFlag Flag.PWR_pll_fail { s with power := { s.power with change := none } })))) ∧
    (∀ v, s.power.change = some c → rdB s Reg.PWR_OP_CFG Fld.PWR_OP_CFG_vgood_mode = true → opOf s c.domain < c.target →
      exec (.voltageFail v) s = .next (serveOps 5 (postEvent .device 0x0AF2 0xA0 1
        (dataAt 24 (railOf c.domain) ||| dataAt 25 c.target ||| dataAt 28 (v % 65536))
        (setFlag Flag.PWR_vgood_fail { s with power := { s.power with change := none } }))))) ∧
  (∀ s : State,
    (∀ n v i, RegsCanonical s → panelPowered s = true → s.power.rails = [n] → n < 8 → v < 4096 → i < 4096 →
      ∃ t, exec (.railTelemetry (List.replicate 8 (v, i))) s = .next t ∧
        rdF t (Reg.PWR_RAILn n) Fld.PWR_RAILn_vout = v ∧ rdF t (Reg.PWR_RAILn n) Fld.PWR_RAILn_iout = i ∧
        t.power = s.power) ∧
    (∀ ts, panelPowered s = true → ∃ t, exec (.readTemperaturePoll ts) s = .next t ∧ t.regs = s.regs ∧
      t.power.samples.length = min 16 (s.power.samples.length + 1) ∧
      t.fault.temps = (hottestRaw s :: s.fault.temps).take 128) ∧
    (∀ n w, s.power.rails = [n] → n < 8 → w ≠ 0 → bitAt w 6 = false →
      exec (.pmbusAlert (List.replicate 8 w)) s = .next (pmbus n 3 0 (postEvent .device 0x0AF3 0xA0 2
        (dataAt 24 n ||| dataAt 28 (w % 65536)) (setFlag Flag.PWR_pmbus_fault (emit (.pmbusRead n 0x79) s))))) ∧
    (∀ n w, s.power.rails = [n] → n < 8 → bitAt w 6 = true → ∃ t, exec (.pmbusAlert (List.replicate 8 w)) s = .next t ∧
      t.power.rails = [] ∧ (t.boot.phase = .retryWait ∨ t.boot.phase = .railsOff)) ∧
    (RegsCanonical s → mgmtRuns s = true → rdF s Reg.FAULT_CTRL Fld.FAULT_CTRL_warn = 0 → rdB s Reg.FAULT_STAT Fld.FAULT_STAT_thermal_capped = false →
      ∃ t, exec (.sensorRefresh []) s = .next t ∧ (∀ i, i < 20 → rdB t (Reg.TOP_SENSi i) Fld.TOP_SENSi_valid = false) ∧
        rdF t Reg.FAULT_STAT Fld.FAULT_STAT_hottest = 0))

/-- Fatal faults (R541, R544, R547): each class records its fault in the next of the four records, holds FAULT_N low and
resets the device, or leaves only VDD_AON on; in STOPPED a class of 3 to 6 is recorded and no reset follows (the model's
choice, log entry 150). -/
def Obligations.FatalFaults : Prop :=
  (∀ s : State,
    (s.power.rails ≠ [] → ∃ t, exec .thermalTrip s = .next t ∧ t.power.rails = [] ∧ t.power.state = .off ∧
      t.boot.phase = .railsOff ∧ t.boot.thermalStop = true) ∧
    (∀ u, mgmtRuns s = true → u ∈ [0x01, 0x30, 0x50, 0x60, 0x70, 0x20] →
      exec (.pllLockLoss u) s = .next (fatalReset 4 u u s)) ∧
    (∀ u, mgmtRuns s = true → u = 1 ∨ u = 2 → exec (.mgmtMemoryError u) s = .next (fatalReset 5 u 0 s)) ∧
    (s.power.rails ≠ [] → s.power.state ≠ .off → exec .rsvInterfaceFailure s = .next (fatalReset 6 0x50 0 s)) ∧
    (mgmtRuns s = true → exec .watchdogExpiry s = .next (fatalReset 3 0x01 0 s)) ∧
    (∀ cls u d, s.boot.phase ≠ .stopped → (∀ n, n < 8 → s.power.rails.contains n = true) → ∃ t, fatalReset cls u d s = t ∧
      t.boot.phase = .rom ∧ t.fault.recovering = some cls ∧ t.fault.pinHeld = true ∧ t.raster = {} ∧ t.pending = s.pending) ∧
    (∀ cls u d, s.boot.phase = .stopped → ∃ t, fatalReset cls u d s = t ∧ t.boot.phase = .stopped ∧
      t.power.rails = s.power.rails ∧ t.raster = s.raster ∧ t.pending = s.pending)) ∧
  (∀ (s : State) (c u x : Nat), RegsCanonical s → c < 256 → u < 256 → x < 65536 →
    rd (fatalReset c u x s) Reg.FAULT_FATAL_NEXT = rd s Reg.FAULT_FATAL_NEXT + 1 ∧
    rd (fatalReset c u x s) (Reg.FAULT_FATALi (8 * ((rd s Reg.FAULT_FATAL_NEXT).toNat % 4))) =
      BitVec.ofNat 32 (c + 0x100 * u + 0x10000 * x) ∧
    (s.boot.phase ≠ .stopped → faultPin (fatalReset c u x s) = true))

/-- Port resets and links that come up (R49, R69, R72, R74, R108, R552): the owner's descriptors complete with ABORTED, the port
forgets its rings and descriptors, and only a function level reset leaves its link up; in DEEP and OFF the input is ignored. -/
def Obligations.PortLinks : Prop :=
  ∀ (s : State) (p : Nat), portExists s p = true →
    (∀ u, inputsLive s = true → (p = owner s ∧ u = abortPort p none s ∨ p ≠ owner s ∧ u = s) →
      (exec (.portReset p 3) s = .next (postEvent .device 0x01F5 (0x10 + p) 2 (dataAt 24 p ||| dataAt 25 3)
        (setFlag Flag.FAULT_port_down (dropPort p u)))) ∧
      (∀ c, c < 3 → exec (.portReset p c) s = .next (postEvent .device 0x01F5 (0x10 + p) 2 (dataAt 24 p ||| dataAt 25 c)
        (setFlag Flag.FAULT_port_down (askUnit (0x10 + p) 2
          (setPort p { portOf (dropPort p u) p with up := false } (dropPort p u))))))) ∧
    (∀ c, inputsLive s = false → exec (.portReset p c) s = .next s) ∧
    (s.boot.phase = .load → s.power.state = .run → (portOf s p).up = false →
      exec (.hostLinkUp p) s = .next (askUnit (0x10 + p) 1 (setPort p { portOf s p with up := true } s)))

/-- Fetches (R120 to R122): a kick or a due poll sends one read of the doorbell block, a trigger while one is in flight asks
for one more, and the block that returns is judged word by word; the rings of a port are served in round-robin order, at most
16 descriptors in a turn. -/
def Obligations.DoorbellFetch : Prop :=
  ∀ (s : State) (p : Nat),
    (∀ v, portWrites s p = true → ready s = true → (portOf s p).fetchBusy = false → exec (.portKick p v) s =
      .next { setPort p { portOf s p with fetchBusy := true } s with out := s.out ++ [.doorbellFetch p] }) ∧
    (∀ v, portWrites s p = true → ready s = true → (portOf s p).fetchBusy = true →
      exec (.portKick p v) s = .next (setPort p { portOf s p with fetchPending := true } s)) ∧
    (rdF s (Reg.PORT_POLL p) Fld.PORT_POLL_period_us ≠ 0 → portWrites s p = true → ready s = true →
      (portOf s p).fetchBusy = false → exec (.pollTimerExpiry p) s =
        .next { setPort p { portOf s p with fetchBusy := true } s with out := s.out ++ [.doorbellFetch p] }) ∧
    (∀ ws : List (BitVec 64), ws.length = 18 → (portOf s p).fetchBusy = true →
      exec (.doorbellFetchDone p (some ws)) s = .next (fetchEnds p (acceptBlock p ws (monitorAdd p 144
        (setPort p { portOf (countEvent (0x10 + p) 0x13 1 s) p with blockFault := false }
          (countEvent (0x10 + p) 0x13 1 s)))))) ∧
    ((portOf s p).fetchBusy = true → exec (.doorbellFetchDone p none) s =
      .next (fetchEnds p (blockReadFailed p (countEvent (0x10 + p) 0x13 1 s)))) ∧
    (∀ n (w : BitVec 512), mayFetch s p n = true → exec (.descriptorFetchDone p n (some w)) s =
      .next (parseDsc { port := p, sq := n, seq := (sqOf s p n).fetched, raw := w }
        (monitorAdd p 64 (countEvent (0x10 + p) 0x10 1
          (setSq p n { sqOf s p n with fetched := (sqOf s p n).fetched + 1, waiting := (sqOf s p n).waiting - 1 }
            (setPort p { portOf s p with turn := n, inTurn := if (portOf s p).turn = n ∧ (portOf s p).inTurn < 16
              then (portOf s p).inTurn + 1 else 1 } s)))))) ∧
    (∀ n, mayFetch s p n = true → ringOn s (Reg.SQn_CFG p n) = true ∧ 0 < (sqOf s p n).waiting ∧ (sqOf s p n).faulted = false) ∧
    (hasWork s p (portOf s p).turn = true → (portOf s p).inTurn < 16 → mayFetch s p (portOf s p).turn = true) ∧
    (∀ i, 1 ≤ i → i ≤ 8 → (hasWork s p (portOf s p).turn = true → 16 ≤ (portOf s p).inTurn) →
      hasWork s p (((portOf s p).turn + i) % 8) = true →
      (∀ j, 1 ≤ j → j < i → hasWork s p (((portOf s p).turn + j) % 8) = false) →
      mayFetch s p (((portOf s p).turn + i) % 8) = true) ∧
    (∀ n, mayFetch s p n = true → exec (.descriptorFetchDone p n none) s =
      .next (postEvent (.port p) 0x01F3 (0x10 + p) 2 (dataAt 24 n ||| dataAt 26 8)
        (setFlag (Flag.PORT_fetch_fault p) (setSq p n { sqOf s p n with faulted := true } s))))

/-- Tail words (R120): an accepted word moves the tail and its generation by the number of new descriptors, a wrapped one
included; a word that asks for more than the free slots, or names a slot the ring does not have, moves nothing. -/
def Obligations.TailWords : Prop :=
  ∀ (s : State) (p n t : Nat), ringOn s (Reg.SQn_CFG p n) = true →
    (sqOf s p n).tail < ringSize s (Reg.SQn_CFG p n) → ringSize s (Reg.SQn_CFG p n) ≤ 65536 →
    (sqOf s p n).gen < 65536 → tabWf (fun _ => ({} : SqState)) s.host.sq = true →
    ((sqOf s p n).tail < t → t < ringSize s (Reg.SQn_CFG p n) → t - (sqOf s p n).tail ≤ sqFree s p n →
      sqOf (sqWord p n (t + 0x10000 * (sqOf s p n).gen) s) p n =
        { sqOf s p n with tail := t, waiting := (sqOf s p n).waiting + (t - (sqOf s p n).tail),
                          outstanding := (sqOf s p n).outstanding + (t - (sqOf s p n).tail) }) ∧
    (t < (sqOf s p n).tail → t + ringSize s (Reg.SQn_CFG p n) - (sqOf s p n).tail ≤ sqFree s p n →
      sqOf (sqWord p n (t + 0x10000 * (((sqOf s p n).gen + 1) % 65536)) s) p n =
        { sqOf s p n with tail := t, gen := ((sqOf s p n).gen + 1) % 65536,
                          waiting := (sqOf s p n).waiting + (t + ringSize s (Reg.SQn_CFG p n) - (sqOf s p n).tail),
                          outstanding := (sqOf s p n).outstanding + (t + ringSize s (Reg.SQn_CFG p n) - (sqOf s p n).tail) }) ∧
    ((sqOf s p n).tail < t → t < 65536 → (ringSize s (Reg.SQn_CFG p n) ≤ t ∨ sqFree s p n < t - (sqOf s p n).tail) →
      (sqOf (sqWord p n (t + 0x10000 * (sqOf s p n).gen) s) p n).tail = (sqOf s p n).tail ∧
      (sqOf (sqWord p n (t + 0x10000 * (sqOf s p n).gen) s) p n).waiting = (sqOf s p n).waiting)

/-- Ring set-up (R116 to R118) and the coalescing timer (R136). -/
def Obligations.RingSetup : Prop :=
  ∀ (s : State) (p n : Nat) (v : Word), portWrites s p = true → n < 8 →
    (ringOn s (Reg.SQn_CFG p n) = false → field v 0 1 = 1 → 6 ≤ field v 8 5 → field v 8 5 ≤ 16 → field v 1 3 < 8 →
      RegsCanonical s → ringOn s (Reg.CQn_CFG p (field v 1 3)) = true → ∃ t, exec (.sqCfgWrite p n v) s = .next t ∧
        ringOn t (Reg.SQn_CFG p n) = true ∧ ringSize t (Reg.SQn_CFG p n) = 2 ^ field v 8 5 ∧
        rdF t (Reg.SQn_CFG p n) Fld.SQn_CFG_cq = field v 1 3 ∧ t.boot = s.boot ∧ t.fuses = s.fuses) ∧
    (ringOn s (Reg.SQn_CFG p n) = true → field v 0 1 = 0 → exec (.sqCfgWrite p n v) s =
      .next (drainSq p n (dropOpen p n (setSq p n { sqOf s p n with draining := true, waiting := 0 } s)))) ∧
    (ringOn s (Reg.SQn_CFG p n) = true → field v 0 1 = 0 → s.host.inflight = [] → s.host.groups = [] →
      (∀ c, (cqOf s p c).held = []) → RegsCanonical s → tabWf (fun _ => ({} : SqState)) s.host.sq = true →
      ∃ t, exec (.sqCfgWrite p n v) s = .next t ∧ ringOn t (Reg.SQn_CFG p n) = false ∧ t.boot = s.boot) ∧
    (ringOn s (Reg.CQn_CFG p n) = false → field v 0 1 = 1 → 6 ≤ field v 8 5 → field v 8 5 ≤ 16 → RegsCanonical s →
      ∃ t, exec (.cqCfgWrite p n v) s = .next t ∧ ringOn t (Reg.CQn_CFG p n) = true ∧
        ringSize t (Reg.CQn_CFG p n) = 2 ^ field v 8 5 ∧ rdF t (Reg.CQn_CFG p n) Fld.CQn_CFG_vector = field v 16 6 ∧
        t.boot = s.boot) ∧
    (ringOn s (Reg.CQn_CFG p n) = true → field v 0 1 = 0 → cqNamed s p n = true → RegsCanonical s → exec (.cqCfgWrite p n v) s =
      .next (signalCq p n (wrF (Reg.CQn_CFG p n) Fld.CQn_CFG_irq_en (field v 22 1)
        (wrF (Reg.CQn_CFG p n) Fld.CQn_CFG_vector (field v 16 6) s)))) ∧
    (ringOn s (Reg.EVQ_CFG p) = true → field v 0 1 = 0 → exec (.evqCfgWrite p v) s =
      .next (setEvq p {} (wrF (Reg.EVQ_CFG p) Fld.CQn_CFG_enable 0
        (wrF (Reg.EVQ_CFG p) Fld.CQn_CFG_irq_en (field v 22 1) (wrF (Reg.EVQ_CFG p) Fld.CQn_CFG_vector (field v 16 6) s))))) ∧
    (rdF s (Reg.CQn_COALESCE p n) Fld.CQn_COALESCE_time_us ≠ 0 → (cqOf s p n).unsignalled ≠ 0 →
      ringOn s (Reg.CQn_CFG p n) = true → rdB s (Reg.CQn_CFG p n) Fld.CQn_CFG_irq_en = true →
      exec (.coalesceTimerExpiry p (0x40 + n)) s = .next (sendMsix p (rdF s (Reg.CQn_CFG p n) Fld.CQn_CFG_vector)
        (setCq p n { cqOf s p n with unsignalled := 0 } s))) ∧
    (rdF s (Reg.EVQ_COALESCE p) Fld.CQn_COALESCE_time_us ≠ 0 → (evqOf s p).unsignalled ≠ 0 →
      ringOn s (Reg.EVQ_CFG p) = true → rdB s (Reg.EVQ_CFG p) Fld.CQn_CFG_irq_en = true →
      exec (.coalesceTimerExpiry p 0x80) s = .next (sendMsix p (rdF s (Reg.EVQ_CFG p) Fld.CQn_CFG_vector)
        (setEvq p { evqOf s p with unsignalled := 0 } s)))

/-- Direct register writes (R10 to R13, R23, R110, R138, R243, R257, R263, R345, R349): only the bits marked RW change,
each one-written flag is cleared with its count, a participant's write of a global register changes no register, a
geometry or role that the rules do not allow sets the configuration error flag, and a write to RAST or PIPE is an IDLE trigger
(R515). What each of the eight direct writes leaves is said for every state and operand, and that it completes. -/
def Obligations.DirectWrites : Prop :=
  (∀ (s : State) (p : Nat),
    (∀ v : BitVec 64, ownerWrites s p = true → exec (.registerWrite p Reg.FAULT_CTRL 4 v) s =
      .next (wr Reg.FAULT_CTRL ((rd s Reg.FAULT_CTRL &&& ~~~0xFF1F#32) ||| (BitVec.ofNat 32 v.toNat &&& 0xFF1F#32))
        (monitorAdd p 4 s))) ∧
    (∀ off size (v : BitVec 64), ownerWrites s p = false → 0x11000 ≤ off → off + 4 < 0x20000 →
      exec (.registerWrite p off size v) s = .next (monitorAdd p size s)) ∧
    (∀ v : Word, ownerWrites s p = true → field v 0 2 = 1 → field v 2 30 = 0 →
      exec (.flagClear p Reg.PERF_FLAGS v) s = .next (wrF Reg.PERF_FLAG_CNT (0, 8) 0 (wrF Reg.PERF_FLAGS (0, 1) 0 s))) ∧
    (∀ m (v : Word), ownerWrites s p = true → portExists s m = true → m ≠ owner s → RegsCanonical s → m < 4 →
      rdF s (Reg.TOP_HOST_PERMm m) (0, 15) ≠ field v 0 15 → exec (.topHostPermWrite p m v) s =
      .next (postEvent (.port m) 0x01F4 (0x10 + m) 0 (dataAt 24 (field v 0 15)) (writeRw (Reg.TOP_HOST_PERMm m) v s))) ∧
    (∀ m (v : Word), ownerWrites s p = true → portExists s m = true → m ≠ owner s → RegsCanonical s → m < 4 →
      rdF s (Reg.TOP_HOST_PERMm m) (0, 15) = field v 0 15 → exec (.topHostPermWrite p m v) s =
      .next (writeRw (Reg.TOP_HOST_PERMm m) v s))) ∧
  (∀ (s : State) (p : Nat) (v : Word), ownerWrites s p = true →
    (∀ pn, s.raster.panel = some pn → s.raster.phase = .off → pn.height + rearLead s + 8 ≤ field v 0 14 →
      field v 16 14 < field v 0 14 → min 400 (framePeriod pn / panelVtotal pn.height / 65536) ≤ framePeriod pn / field v 0 14 / 65536 →
      exec (.rastGeomWrite p v) s = .next (idleTrigger (followGeometry (writeRw Reg.RAST_GEOM v s)))) ∧
    (s.raster.panel = none → exec (.rastGeomWrite p v) s = .next (idleTrigger (setFlag Flag.RAST_cfg_err s))) ∧
    (field v 16 7 = rearLead s → minLag s ≤ field v 0 11 → field v 0 11 ≤ 1024 → RegsCanonical s → s.power.entry = none →
      s.power.state = .run → ∃ t, exec (.rastLagWrite p v) s = .next t ∧ lagNow t = field v 0 11 ∧ rearLead t = rearLead s ∧ t.boot = s.boot ∧
        t.raster = s.raster ∧ ∀ k, k ≠ Reg.RAST_LAG → k ≠ Reg.ENG_WINDOW → rd t k = rd s k) ∧
    (timelineOk s (field v 1 1) (lagNow s) = false → exec (.rastCtrlTimelineWrite p v) s =
      .next (idleTrigger (setFlag Flag.RAST_cfg_err s))) ∧
    (timelineOk s (field v 1 1) (lagNow s) = true → rasterOn s = false → scanning s = false →
      exec (.rastCtrlTimelineWrite p v) s = .next (idleTrigger (setTimeline (field v 1 1) (field v 2 1) (lagNow s) s))) ∧
    (timelineOk s (field v 1 1) (lagNow s) = true → (rasterOn s = true ∨ scanning s = true) → s.power.entry = none →
      s.power.state = .run → ∃ t, exec (.rastCtrlTimelineWrite p v) s = .next t ∧
      t.raster.request = some (decide (field v 1 1 = 1)) ∧ (RegsCanonical s →
        rdF t Reg.RAST_CTRL Fld.RAST_CTRL_timeline = field v 1 1 ∧ rdF t Reg.RAST_CTRL Fld.RAST_CTRL_auto_return = field v 2 1 ∧
        ∀ k, k ≠ Reg.RAST_CTRL → rd t k = rd s k)) ∧
    (∀ pn, s.raster.panel = some pn → s.raster.phase = .off → pn.width / 32 ≤ field v 16 9 → field v 16 9 ≤ 480 →
      pn.width % field v 16 9 = 0 → exec (.pipeFmtWrite p v) s =
        .next (idleTrigger (offSegments (wrF Reg.PIPE_FMT Fld.PIPE_FMT_seg_width (field v 16 9) s)))) ∧
    ((∀ n, n < 128 → laneIs s 1 n Lane.off = true) → offSegments s = s) ∧
    (s.raster.phase = .off → field v 0 4 ≠ 15 → (field v 0 4 = 0 → (cellsNow s).contains 1 = false) →
      exec (.engCtrlRearRoleWrite p v) s = .next (followGovernor (setRoles (field v 0 4)
        (wrF Reg.ENG_CTRL Fld.ENG_CTRL_gov_en (field v 10 1) (wrF Reg.ENG_CTRL Fld.ENG_CTRL_patrol_en (field v 8 1) s))))) ∧
    ((s.raster.phase ≠ .off ∨ field v 0 4 = 15 ∨ field v 0 4 = 0 ∧ (cellsNow s).contains 1 = true) →
      exec (.engCtrlRearRoleWrite p v) s = .next (setFlag (Flag.ENG_cfg_err 0x40) s)) ∧
    (s.raster.phase ≠ .off → exec (.rastGeomWrite p v) s = .next (idleTrigger (setFlag Flag.RAST_cfg_err s))) ∧
    (∀ pn, s.raster.panel = some pn → s.raster.phase = .off → ¬ (pn.height + rearLead s + 8 ≤ field v 0 14 ∧
      field v 16 14 < field v 0 14 ∧ min 400 (framePeriod pn / panelVtotal pn.height / 65536) ≤ framePeriod pn / field v 0 14 / 65536) →
      exec (.rastGeomWrite p v) s = .next (idleTrigger (setFlag Flag.RAST_cfg_err s))) ∧
    (∀ a b, a = writeRearLead (field v 16 7) s → b = (if minLag a ≤ field v 0 11 ∧ field v 0 11 ≤ 1024 then
        wrF Reg.RAST_LAG Fld.RAST_LAG_lag (field v 0 11) a else a) →
      exec (.rastLagWrite p v) s =
        .next (idleTrigger (followWindow (wrF Reg.RAST_LAG Fld.RAST_LAG_lag (max (lagNow b) (minLag b)) b)))) ∧
    ((s.raster.panel = none ∨ s.raster.phase ≠ .off) →
      exec (.pipeFmtWrite p v) s = .next (idleTrigger (setFlag Flag.PIPE_cfg_err s))) ∧
    (∀ pn, s.raster.panel = some pn → s.raster.phase = .off →
      ¬ (pn.width / 32 ≤ field v 16 9 ∧ field v 16 9 ≤ 480 ∧ pn.width % field v 16 9 = 0) →
      exec (.pipeFmtWrite p v) s = .next (idleTrigger (setFlag Flag.PIPE_cfg_err s)))) ∧
  (∀ (s : State) (p m off size : Nat) (v : Word) (x : BitVec 64),
    (off % 4 = 0 → exec (.registerWrite p off 4 x) s =
      .next (writeWord p off (BitVec.ofNat 32 (x.toNat % 2 ^ 32)) (monitorAdd p 4 s))) ∧
    (off % 8 = 0 → exec (.registerWrite p off 8 x) s = .next (writeWord p (off + 4) (BitVec.ofNat 32 (x.toNat / 2 ^ 32))
      (writeWord p off (BitVec.ofNat 32 (x.toNat % 2 ^ 32)) (monitorAdd p 8 s)))) ∧
    (¬ (size = 4 ∧ off % 4 = 0) → ¬ (size = 8 ∧ off % 8 = 0) →
      exec (.registerWrite p off size x) s = .next (monitorAdd p size s)) ∧
    (portWrites s p = true → exec (.flagClear p Reg.AON_STATUS v) s = .next (clearAon v s)) ∧
    (portWrites s p = true → off ≠ Reg.AON_STATUS → windowKey p off ≠ off →
      exec (.flagClear p off v) s = .next (clearFlags (windowKey p off) v s)) ∧
    (portWrites s p = false → (off = Reg.AON_STATUS ∨ windowKey p off ≠ off) → exec (.flagClear p off v) s = .next s) ∧
    (ownerWrites s p = true → off ≠ Reg.AON_STATUS → windowKey p off = off →
      (off / 0x1000 = 0x12 ∨ off / 0x1000 = 0x15 ∨ off / 0x1000 = 0x16 ∨ off / 0x1000 = 0x1F) →
      v.toNat &&& w1cBits off ≠ 0 → exec (.flagClear p off v) s = .next (idleTrigger (clearFlags off v s))) ∧
    (ownerWrites s p = true → off ≠ Reg.AON_STATUS → windowKey p off = off →
      (off / 0x1000 ≠ 0x12 ∧ off / 0x1000 ≠ 0x15 ∧ off / 0x1000 ≠ 0x16 ∧ off / 0x1000 ≠ 0x1F ∨ v.toNat &&& w1cBits off = 0) →
      exec (.flagClear p off v) s = .next (clearFlags off v s)) ∧
    (ownerWrites s p = false → off ≠ Reg.AON_STATUS → windowKey p off = off → exec (.flagClear p off v) s = .next s) ∧
    ((ownerWrites s p = false ∨ portExists s m = false ∨ m = owner s) → exec (.topHostPermWrite p m v) s = .next s) ∧
    (ownerWrites s p = false → exec (.rastGeomWrite p v) s = .next s ∧ exec (.rastLagWrite p v) s = .next s ∧
      exec (.rastCtrlTimelineWrite p v) s = .next s ∧ exec (.pipeFmtWrite p v) s = .next s ∧
      exec (.engCtrlRearRoleWrite p v) s = .next s)) ∧
  (∀ (s : State) (p m off size : Nat) (v : Word) (x : BitVec 64),
    (∃ t, exec (.registerWrite p off size x) s = .next t) ∧ (∃ t, exec (.flagClear p off v) s = .next t) ∧
    (∃ t, exec (.topHostPermWrite p m v) s = .next t) ∧ (∃ t, exec (.rastGeomWrite p v) s = .next t) ∧
    (∃ t, exec (.rastLagWrite p v) s = .next t) ∧ (∃ t, exec (.rastCtrlTimelineWrite p v) s = .next t) ∧
    (∃ t, exec (.pipeFmtWrite p v) s = .next t) ∧ (∃ t, exec (.engCtrlRearRoleWrite p v) s = .next t))

/-- Captured reads (R210, R270, R327, R508): a read of a low word gives it and captures the high word of the same number. -/
def Obligations.CapturedReads : Prop :=
  ∀ (s : State) (p : Nat), portWrites s p = true → s.boot.lanesDone = true →
    (exec (.rastSfnLoRead p) s = .next (emit (.readData p Reg.RAST_SFN_LO (sfn s % 2 ^ 32))
      (wr Reg.RAST_SFN_HI (BitVec.ofNat 32 (sfn s / 2 ^ 32)) s))) ∧
    (exec (.rastCfnLoRead p) s = .next (emit (.readData p Reg.RAST_CFN_LO (cfn s % 2 ^ 32))
      (wr Reg.RAST_CFN_HI (BitVec.ofNat 32 (cfn s / 2 ^ 32)) s))) ∧
    (exec (.hfnOffsetLoRead p) s = .next (emit (.readData p Reg.HFN_OFFSET_LO (pattern 64 s.raster.lock.hfnOffset % 2 ^ 32))
      (wr Reg.HFN_OFFSET_HI (BitVec.ofNat 32 (pattern 64 s.raster.lock.hfnOffset / 2 ^ 32)) s))) ∧
    (exec (.bklStatsSfnLoRead p) s = .next (emit (.readData p Reg.BKL_STATS_SFN_LO (s.pipe.statsSfn % 2 ^ 32))
      (wr Reg.BKL_STATS_SFN_HI (BitVec.ofNat 32 (s.pipe.statsSfn / 2 ^ 32)) s))) ∧
    (∃ t, exec (.rastTimeNsRead p) s = .next t ∧ t.out = s.out ++ [.readData p Reg.RAST_TIME_NS (now s).ns] ∧
      t.fresh = s.fresh + 1 ∧ (RegsCanonical s → rd t Reg.RAST_TIME_SEC_LO = BitVec.ofNat 32 (now s).sec)) ∧
    (∀ r f, r < 48 → (rectOf s r).window.head? = some f → exec (.chkFrameLoRead p r) s =
      .next (emit (.readData p (Reg.CHK_Rr_FRAME_LO r) (f.1 % 2 ^ 32)) (wr (Reg.CHK_Rr_LAST r) (BitVec.ofNat 32 f.2)
        (wr (Reg.CHK_Rr_FRAME_HI r) (BitVec.ofNat 32 (f.1 / 2 ^ 32)) s))))

/-- The BMC's commands (R141, R142, R513) with what each answers, from the static address until the controller has assigned
another one; in SMBus mode a packet error code follows (the bytes it covers: log entry 164). -/
def Obligations.BmcCommands : Prop :=
  ∀ s : State,
    (bmcAnswers s = true → exec .bmcStatus s = .next (bmcReply [1] (leBytes 4 (regValue s Reg.BOOT_STATUS) ++
      (leBytes 4 (regValue s Reg.AON_STATUS) ++ []) ++ leBytes 1 s.power.state.code ++
      leBytes 1 (rdF s Reg.FAULT_STAT Fld.FAULT_STAT_hottest) ++ leBytes 2 (devicePower s) ++ leBytes 4 0) s)) ∧
    (bmcAnswers s = true → exec .bmcPowerResult s = .next (bmcReply [6] (leBytes 2 (rdF s Reg.PWR_RESULT (0, 10)) ++
      leBytes 1 (rdF s Reg.PWR_RESULT_DATA (16, 16)) ++ leBytes 1 (rdF s Reg.PWR_RESULT_DATA (8, 8))) s)) ∧
    (∀ f, f < 256 → mgmtRuns s = true → exec (.bmcUnitTable f) s =
      .next (bmcReply [2, BitVec.ofNat 8 f] ((List.range (256 - f)).map (fun i => BitVec.ofNat 8 (unitByte s (f + i)))) s)) ∧
    (mgmtRuns s = true → s.store.mounted = false → ∃ t, exec .bmcFieldCapture s = .next t ∧ t.fault.captured = true ∧
      t.store.recordSeq = s.store.recordSeq + 1 ∧ t.perf.snapSeq = (s.perf.snapSeq + 1) % 2 ^ 32 ∧ t.regs = s.regs ∧
      t.fault.record = fieldRecord (takeSnapshot s) 1 s.store.recordSeq) ∧
    (∀ k, k < 256 → mgmtRuns s = true → s.fault.captured = true → exec (.bmcFieldRead k) s =
      .next (bmcReply [4, BitVec.ofNat 8 k] ((s.fault.record.drop (256 * k)).take 256) s)) ∧
    (∀ asked bytes, s.bmc.smbus = false → s.bmc.dynamic = none →
      bmcReply asked bytes s = emit (.bmcReply (0x58 + s.straps.bmcAddr) bytes) s) ∧
    (∀ asked bytes, s.bmc.smbus = true → s.bmc.dynamic = none → bmcReply asked bytes s = emit (.bmcReply (0x58 + s.straps.bmcAddr)
      (bytes ++ [BitVec.ofNat 8 (crc8 (BitVec.ofNat 8 (2 * (0x58 + s.straps.bmcAddr)) :: asked ++
        BitVec.ofNat 8 (2 * (0x58 + s.straps.bmcAddr) + 1) :: bytes))])) s)

/-- The unit state table and fencing by the owner (R178, R548 to R551). -/
def Obligations.UnitStates : Prop :=
  ∀ s : State,
    (∀ u n, tabGet (fun _ => 0) s.fault.dataPath u = n + 1 → exec (.unitStateUpdate u) s = .next (writeUnit u n s)) ∧
    (∀ p q n d, readyDsc s p q n 0x0E03 = some d → fenceable (d.u8 16) = true → lastOfRole s (d.u8 16) = false →
      exec (.diagUnitFence p q n) s =
        .next (awaitUnit (d.u8 16) false d (fenceUnit (d.u8 16) (refuseEnables (d.u8 16) s)))) ∧
    (∀ p q n d, readyDsc s p q n 0x0E03 = some d → fenceable (d.u8 16) = true → lastOfRole s (d.u8 16) = true →
      exec (.diagUnitFence p q n) s = .next (complete d .refused 0 (resAt 16 (0x40 + unitQuadrant (d.u8 16))) s)) ∧
    (∀ p q n d, readyDsc s p q n 0x0E02 = some d → 0xC0 ≤ d.u8 16 → fenceable (d.u8 16) = true →
      dataPathState s (d.u8 16) ≠ 4 → exec (.diagUnitEnable p q n) s = .next (awaitUnit (d.u8 16) true d
        (setCluster (d.u8 16 - 0xC0) { clusterOf s (d.u8 16 - 0xC0) with passLeft := some 1536 } s))) ∧
    (∀ u w, u < 0xC0 → s.fault.awaiting = [(u, true, w)] → exec (.dataPathAcknowledge u) s =
      .next (endDsc w .ok 0 (enableUnit u { s with fault := { s.fault with awaiting := [] } }))) ∧
    (∀ u w, s.fault.awaiting = [(u, false, w)] → exec (.dataPathAcknowledge u) s =
      .next (endDsc w .ok 0 { s with fault := { s.fault with awaiting := [] } })) ∧
    (∀ u w, u < 0xC0 → s.fault.awaiting = [(u, true, w)] → exec (.diagUnitEnableTimeout u) s =
      .next (endDsc w .timeout 0 { s with fault := { s.fault with awaiting := [] } })) ∧
    (∀ p q n d, readyDsc s p q n 0x0E01 = some d → exec (.diagFieldRecord p q n) s =
      .next (completeI d .ok (resAt 16 (s.store.recordSeq % 2 ^ 32)) (monitorAdd d.port 65536
        (emit (.dma d.port (d.u64 16) (capture 0 s).fault.record) (capture 0 s)))))

/-- An S opcode reaches its unit (R144 to R147, R151, R159, R161, R163, R175): while the raster is enabled it waits there in the
order of arrival; while it is disabled it takes effect and completes at once; after its target has passed it is LATE. -/
def Obligations.ScanOpcodes : Prop :=
  (∀ (s u : State) (p q n : Nat) (d e : Dsc), e = { d with
      phase := .waiting, order := s.host.nextOrder, at_ := b2n (scanning s && decide (linesNow s ≤ s.raster.line)) } →
    u = idleTrigger (setDsc e { s with host := { s.host with nextOrder := s.host.nextOrder + 1 } }) →
    (rasterOn u = true →
      (readyDsc s p q n 0x0102 = some d → exec (.setTimeline p q n) s = .next u) ∧
      (readyDsc s p q n 0x0303 = some d → exec (.tableActivateS p q n) s = .next u) ∧
      (readyDsc s p q n 0x0502 = some d → itemResident s (d.u32 16) = true → rasterOn s = true →
        exec (.holdPlay p q n) s = .next u) ∧
      (readyDsc s p q n 0x0503 = some d → exec (.holdStop p q n) s = .next u) ∧
      (readyDsc s p q n 0x0C01 = some d → exec (.timeLock p q n) s = .next u) ∧
      (readyDsc s p q n 0x0C02 = some d → exec (.timePhase p q n) s = .next u) ∧
      (readyDsc s p q n 0x0402 = some d → d.u32 20 = 0 → exec (.kernelBind p q n none) s = .next u)) ∧
    (rasterOn u = false → u.raster.request = none → s.host.inflight = [d] → inputReady u e = true → sFailure u e = none →
      ∀ st, st = (if d.target ≠ 0 ∧ d.target < sfn u then Status.late else Status.ok) →
      (readyDsc s p q n 0x0102 = some d → exec (.setTimeline p q n) s =
        .next (complete e st (sfn u) 0 (setTimeline (d.u8 16) (d.u8 17) (d.u16 18) u))) ∧
      (readyDsc s p q n 0x0303 = some d → exec (.tableActivateS p q n) s =
        .next (complete e st (sfn u) 0 (followDefects (followWindow (activate (d.u32 16) u))))) ∧
      (readyDsc s p q n 0x0503 = some d → exec (.holdStop p q n) s = .next (complete e st (sfn u) 0
        (wrF Reg.HWL_STAT Fld.HWL_STAT_holding 0 { u with hold := { u.hold with play := none } }))) ∧
      (readyDsc s p q n 0x0C01 = some d → exec (.timeLock p q n) s = .next (complete e st (sfn u) 0 (effectTimeLock e u))) ∧
      (readyDsc s p q n 0x0C02 = some d → lockState u ≠ 1 → RegsCanonical u → exec (.timePhase p q n) s =
        .next (complete e st (sfn u) 0 (wr Reg.RAST_PHASE_OFFSET (BitVec.ofNat 32 (d.u32 16)) u))) ∧
      (readyDsc s p q n 0x0402 = some d → d.u32 20 = 0 → exec (.kernelBind p q n none) s = .next (complete e st (sfn u)
        (resAt 16 (bindOf u (d.u8 17) (d.u8 16)).handle) (effectBind e u)))) ∧
    (readyDsc s p q n 0x0502 = some d → itemResident s (d.u32 16) = false →
      exec (.holdPlay p q n) s = .next (complete d .notReady 0 0 s)) ∧
    (readyDsc s p q n 0x0402 = some d → d.u32 20 ≠ 0 →
      exec (.kernelBind p q n none) s = .next (complete d .fetchFault 0 0 s)) ∧
    (∀ bs t, readyDsc s p q n 0x0402 = some d → d.u32 20 ≠ 0 → allocTwice (bindTag s.host.nextOrder) (d.u32 20) s = some t →
      exec (.kernelBind p q n (some bs)) s = .next (reachUnit d (monitorAdd p (d.u32 20) { t with tables := { t.tables with
        loads := t.tables.loads ++ [{ port := d.port, sq := d.sq, seq := d.seq, opcode := 0x0402, data := some (bs.take (d.u32 20)) }] } })))) ∧
  (∀ (s : State) (k : Nat) (d : Dsc), sFailure s d = none →
    (d.opcode = 0x0102 → d.target = 0 →
      applyS k d s = complete d .ok k 0 (setTimeline (d.u8 16) (d.u8 17) (d.u16 18) s)) ∧
    (d.opcode = 0x0502 → d.target ≠ 0 → d.target < k → applyS k d s = complete d .late k 0 (effectPlay d s)) ∧
    (d.opcode = 0x0503 → d.target = 0 → applyS k d s = complete d .ok k 0
      (wrF Reg.HWL_STAT Fld.HWL_STAT_holding 0 { s with hold := { s.hold with play := none } })) ∧
    (d.opcode = 0x0C02 → d.target = 0 → lockState s ≠ 1 → RegsCanonical s → applyS k d s =
      complete d .ok k 0 (wr Reg.RAST_PHASE_OFFSET (BitVec.ofNat 32 (d.u32 16)) s)) ∧
    (d.opcode = 0x0C01 → d.target = 0 → applyS k d s = complete d .ok k 0 (effectTimeLock d s)))

/-- SET_PANEL, RASTER_ENABLE and the panel enables (R36, R151, R266, R267). -/
def Obligations.RasterSequence : Prop :=
  ∀ (s : State) (p q n : Nat) (d : Dsc),
    (readyDsc s p q n 0x0101 = some d → s.raster.phase = .off →
      formatOkPanel (d.u16 16) (d.u16 18) (d.u32 20) (d.u32 24) = true → exec (.setPanel p q n) s =
        .next (recordMissing (completeI d .ok 0 (applyPanel {
          width := d.u16 16, height := d.u16 18, rateNum := d.u32 20, rateDen := d.u32 24, cells := d.u8 28, depth := d.u8 29 } s)))) ∧
    (readyDsc s p q n 0x0101 = some d → s.raster.phase ≠ .off → exec (.setPanel p q n) s =
      .next (complete d .busy 0 0 s)) ∧
    (readyDsc s p q n 0x0105 = some d → s.raster.phase = .running → rasterStopped s = false → d.u8 16 = 0 →
      exec (.rasterEnable p q n) s = .next (beginReverse (some (d.port, d.sq, d.seq)) (setRunning d s))) ∧
    (readyDsc s p q n 0x0105 = some d → s.raster.phase = .off → rasterStopped s = false → d.u8 16 = 1 →
      rdB s Reg.BOOT_STATUS Fld.BOOT_STATUS_panel_blocked = false →
      rdB (checkRates s) Reg.SLK_STAT Fld.SLK_STAT_rate_ok = true →
      exec (.rasterEnable p q n) s = .next (beginEnable (some (d.port, d.sq, d.seq)) (setRunning d (checkRates s)))) ∧
    (readyDsc s p q n 0x0105 = some d → s.raster.phase = .off → rasterStopped s = false → d.u8 16 = 1 →
      rdB s Reg.BOOT_STATUS Fld.BOOT_STATUS_panel_blocked = true →
      exec (.rasterEnable p q n) s = .next (complete d .notReady 0 0 s)) ∧
    (∀ k, s.raster.phase = .rising k → k < 4 → enableUsed s k = true → exec .panelPowerStep s =
      .next { s with raster := { s.raster with phase := .rising (k + 1), powered := k :: s.raster.powered } }) ∧
    (s.raster.phase = .rising 4 → exec .panelPowerStep s =
      .next (trainForRaster 1 { s with raster := { s.raster with phase := .training } })) ∧
    (∀ k, s.raster.phase = .falling (k + 1) → k < 3 → s.raster.powered = [k + 1, k] → exec .panelPowerStep s =
      .next (finishFalling { s with raster := { s.raster with phase := .falling k, powered := [k + 1] } })) ∧
    (readyDsc s p q n 0x0103 = some d → d.u16 18 + d.u16 20 ≤ kindSize (d.u8 16) → portExists s (d.u8 17) = true →
      (∀ k, k < d.u16 20 → resourceBusy s (d.u8 16) (k + d.u16 18) = false) → exec (.assign p q n) s = .next (completeI d .ok 0
        (((List.range (d.u16 20)).map (· + d.u16 18)).foldl (assignOne (d.u8 16) (d.u8 17)) s))) ∧
    (readyDsc s p q n 0x0103 = some d → kindSize (d.u8 16) < d.u16 18 + d.u16 20 →
      exec (.assign p q n) s = .next (complete d .refused 0 (resAt 16 0x30) s))

/-- The groupable opcodes reach the compositor (R132, R149, R151, R153 to R155, R159, R275, R281): a member that passes its
checks has arrived; a group of one then takes its place among those that wait for the latch instant, one with a member still to
come waits. -/
def Obligations.GroupMembersArrive : Prop :=
  ∀ (s : State) (p q n : Nat) (d : Dsc),
    (readyDsc s p q n 0x0104 = some d → exec (.setBackground p q n) s = .next (arrive d s)) ∧
    (readyDsc s p q n 0x0201 = some d → d.u8 29 ≠ 4 → exec (.layerConfig p q n) s = .next (arrive d s)) ∧
    (∀ t, readyDsc s p q n 0x0201 = some d → activeTable s (0x02F00000 + d.u8 16) = some t →
      exec (.layerConfig p q n) s = .next (arrive d s)) ∧
    (readyDsc s p q n 0x0201 = some d → d.u8 29 = 4 → activeTable s (0x02F00000 + d.u8 16) = none →
      exec (.layerConfig p q n) s = .next (failMember d .refused 0x30 s)) ∧
    (readyDsc s p q n 0x0203 = some d → d.u8 17 = 0 → exec (.layerEnable p q n) s = .next (arrive d s)) ∧
    (readyDsc s p q n 0x0203 = some d → (viewNow s).configured (d.u8 16) = true →
      exec (.layerEnable p q n) s = .next (arrive d s)) ∧
    (readyDsc s p q n 0x0203 = some d → d.u8 17 = 1 → (viewNow s).configured (d.u8 16) = false →
      pendingConfig s (d.u8 16) (memberCfn s d) = none → exec (.layerEnable p q n) s = .next (failMember d .notReady 0 s)) ∧
    (readyDsc s p q n 0x0204 = some d → exec (.layerMatrix p q n) s = .next (arrive d s)) ∧
    (∀ t, readyDsc s p q n 0x0302 = some d → stagedTable s (d.u32 16) = some t → exec (.tableActivateC p q n) s =
      .next (arrive d s)) ∧
    (∀ f w h, readyDsc s p q n 0x0202 = some d → flipSettings s (d.u8 16) (memberCfn s d) = some (2, f, w, h) →
      flipBreach d f w h = none → exec (.layerFlip p q n) s = .next (arrive d s)) ∧
    (∀ k f w h o st, readyDsc s p q n 0x0202 = some d → flipSettings s (d.u8 16) (memberCfn s d) = some (k, f, w, h) →
      flipBreach d f w h = some (o, st) → exec (.layerFlip p q n) s = .next (failMember d st o s)) ∧
    (∀ f w h t, readyDsc s p q n 0x0202 = some d → flipSettings s (d.u8 16) (memberCfn s d) = some (1, f, w, h) →
      flipBreach d f w h = none → (layerOf (sweepFetches s) (d.u8 16)).fetching = none →
      alloc .layer (layerTag (d.u8 16) true) (versionBytes f w h) (sweepFetches s) = some t →
      exec (.layerFlip p q n) s = .next (setLayer (d.u8 16)
        { layerOf t (d.u8 16) with fetching := some (d.port, d.sq, d.seq), fetchNo := t.host.nextOrder }
        (setRunning d { t with host := { t.host with nextOrder := t.host.nextOrder + 1 } }))) ∧
    (∀ g, dscOf s d.port d.sq d.seq = some d → groupOf s d.group = some g → g.closed = true → g.order = 0 → g.port = d.port →
      g.sq = d.sq → g.members = [d.seq] → g.target ≤ naturalCfn s → arrive d s = idleTrigger (setGroup
        { g with order := s.host.nextOrder } (setDsc { d with phase := .arrived }
          { s with host := { s.host with nextOrder := s.host.nextOrder + 1 } }))) ∧
    (∀ g e m, groupOf s d.group = some g → m ∈ g.members → dscOf s g.port g.sq m = some e → e.is d.port d.sq d.seq = false →
      e.phase ≠ .arrived → arrive d s = setDsc { d with phase := .arrived } s)

/-- Table and kernel loads (R157 to R161): a load from the host begins at once; one from the store reads its LBAs; a table
is dropped and a kernel unloaded only while nothing uses it. -/
def Obligations.TablesAndKernels : Prop :=
  ∀ (s : State) (p q n : Nat) (d : Dsc),
    (readyDsc s p q n 0x0301 = some d → d.u8 16 = 0 → exec (.tableLoad p q n) s = .next (setRunning d { s with tables :=
      { s.tables with loads := s.tables.loads ++ [{ port := d.port, sq := d.sq, seq := d.seq, opcode := d.opcode }] } })) ∧
    (readyDsc s p q n 0x0401 = some d → d.u8 16 = 0 → exec (.kernelLoad p q n) s = .next (setRunning d { s with tables :=
      { s.tables with loads := s.tables.loads ++ [{ port := d.port, sq := d.sq, seq := d.seq, opcode := d.opcode }] } })) ∧
    (readyDsc s p q n 0x0401 = some d → d.u8 16 ≠ 0 → s.store.mounted = false → exec (.kernelLoad p q n) s =
      .next (complete d .notReady 0 0 s)) ∧
    (∀ t, readyDsc s p q n 0x0304 = some d → stagedTable s (d.u32 16) = some t → activationPending s (d.u32 16) = false →
      exec (.tableDrop p q n) s = .next (completeI d .ok 0 (dropStaged (d.u32 16) s))) ∧
    (∀ k, readyDsc s p q n 0x0403 = some d → kernelOf s (d.u16 16) = some k → kernelUsed s (d.u16 16) = false →
      exec (.kernelUnload p q n) s = .next (completeI d .ok 0 (freeTag .tables (kernelTag (d.u16 16))
        { s with tables := { s.tables with kernels := tabSet (fun _ => none) s.tables.kernels (d.u16 16) none } }))) ∧
    (∀ k, readyDsc s p q n 0x0403 = some d → kernelOf s (d.u16 16) = some k → kernelUsed s (d.u16 16) = true →
      exec (.kernelUnload p q n) s = .next (complete d .busy 0 0 s)) ∧
    (∀ l bs, loadOf s (p, q, n) = some l → dscOf s p q n = some d → d.opcode ≠ 0x0402 → d.u8 16 = 0 → bs.length = d.u32 20 →
      exec (.imageLoadDone p q n (some bs)) s = .next (endLoad d bs (monitorAdd d.port bs.length s))) ∧
    (∀ l, loadOf s (p, q, n) = some l → dscOf s p q n = some d → d.opcode ≠ 0x0402 → d.u8 16 = 0 →
      exec (.imageLoadDone p q n none) s = .next (idleOpcodes (recordMissing (complete d .fetchFault 0 0
        (dropLoad (p, q, n) s)))))

/-- The hold library (R162, R163, R422, R424). -/
def Obligations.HoldLibrary : Prop :=
  ∀ (s : State) (p q n : Nat) (d : Dsc),
    (readyDsc s p q n 0x0501 = some d → itemResident s (d.u32 16) = true → exec (.holdStage p q n) s =
      .next (completeI d .ok (resAt 16 (holdExtents s * 2097152)) s)) ∧
    (readyDsc s p q n 0x0501 = some d → itemResident s (d.u32 16) = false → s.store.mounted = true →
      stagingOf s (d.u32 16) = none → itemNamed s (d.u32 16) = true → exec (.holdStage p q n) s =
        .next (nvRead 1 (regionOf s (d.u32 16 / 65536)).first 8 (.holdTable (d.u32 16))
          { setRunning d s with hold := { s.hold with staging := s.hold.staging ++ [(d.u32 16, [(d.port, d.sq, d.seq)])] } })) ∧
    (readyDsc s p q n 0x0505 = some d → itemPlays s (d.u32 16) = false → policyItem s ≠ d.u32 16 →
      exec (.holdEvict p q n) s = .next (completeI d .ok 0 (followHold (freeTag .hold (holdTag (d.u32 16))
        { s with hold := { s.hold with items := tabSet (fun _ => none) s.hold.items (d.u32 16) none } })))) ∧
    (readyDsc s p q n 0x0505 = some d → itemPlays s (d.u32 16) = true → exec (.holdEvict p q n) s =
      .next (complete d .busy 0 0 s)) ∧
    (readyDsc s p q n 0x0504 = some d → d.u32 24 = 0 → exec (.holdPolicy p q n) s = .next (freezeIfDue (completeI d .ok 0
      (wrF Reg.HWL_HOLD_ITEM Fld.HWL_HOLD_ITEM_item 0 (wrF Reg.HWL_FREEZE_TIMEOUT Fld.HWL_FREEZE_TIMEOUT_ms (d.u32 20)
        (wrF Reg.HWL_HOLD_TIMEOUT Fld.HWL_HOLD_TIMEOUT_frames (d.u16 16) s)))))) ∧
    (∀ i who, tabGet (fun _ => ([] : List Byte)) s.hold.read i ≠ [] → stagingOf s i = some who →
      itemHeaderOk (tabGet (fun _ => ([] : List Byte)) s.hold.read i) = false →
      exec (.holdStageDone i) s = .next (refuseStage i s)) ∧
    (∀ i who b fs t, tabGet (fun _ => ([] : List Byte)) s.hold.read i = b → b ≠ [] → stagingOf s i = some who →
      itemHeaderOk b = true → alloc .hold (holdTag i) (6 * leAt b 6 2 * leAt b 8 2 * leAt b 12 4) s = some t →
      itemFrames b (leAt b 12 4) [] = some fs → exec (.holdStageDone i) s =
        .next (endStage i true (fun e s => endDsc e .ok (holdUsed s) s) (followHold { t with hold := { t.hold with
          items := tabSet (fun _ => none) t.hold.items i (some {
            width := leAt b 6 2, height := leAt b 8 2, rep := leAt b 10 1, frames := fs, lbas := (List.range (leAt b 12 4)).map (fun j =>
              tabGet (fun _ => 0) s.hold.readLba i + leAt b (64 + 16 * j) 4),
            stored := (List.range (leAt b 12 4)).map (fun j => leAt b (68 + 16 * j) 4), coded := decide (leAt b 11 1 = 1) }) } })))

/-- Store commands of the host (R164, R165, R178, R430 to R433): an absent store answers NOT_READY, a range outside its
region BAD_ADDRESS, and the rest goes to the store. -/
def Obligations.StoreCommands : Prop :=
  ∀ (s : State) (p q n : Nat) (d : Dsc),
    (readyDsc s p q n 0x0601 = some d → s.store.mounted = true → rangeIn s (d.u16 16) (d.u64 24) (d.u32 20) = true →
      exec (.storeRead p q n) s = .next (nvRead 2 ((regionOf s (d.u16 16)).first + d.u64 24) (d.u32 20)
        (.hostRead d.port d.sq d.seq) (setRunning d s))) ∧
    (readyDsc s p q n 0x0601 = some d → s.store.mounted = false → exec (.storeRead p q n) s =
      .next (complete d .notReady 0 0 s)) ∧
    (∀ bs, readyDsc s p q n 0x0602 = some d → s.store.mounted = true → rangeIn s (d.u16 16) (d.u64 24) (d.u32 20) = true →
      d.u16 16 ≠ 1 → d.u16 16 ≠ 2 → bs.length = d.u32 20 * 4096 → exec (.storeWrite p q n (some bs)) s =
        .next (nvWrite ((regionOf s (d.u16 16)).first + d.u64 24) bs (.hostWrite d.port d.sq d.seq)
          (monitorAdd d.port bs.length (setRunning d s)))) ∧
    (readyDsc s p q n 0x0602 = some d → s.store.mounted = true → rangeIn s (d.u16 16) (d.u64 24) (d.u32 20) = true →
      d.u16 16 = 1 → exec (.storeWrite p q n none) s = .next (complete d .refused 0 (resAt 16 0x14) s)) ∧
    (readyDsc s p q n 0x0603 = some d → s.store.mounted = true → d.u64 24 ≠ 0 → s.store.queued = [] →
      exec (.storeCreate p q n) s = .next (serveChanges [(d.port, d.sq, d.seq)] (setRunning d s))) ∧
    (readyDsc s p q n 0x0604 = some d → s.store.mounted = true → s.store.queued = [] →
      exec (.storeDelete p q n) s = .next (serveChanges [(d.port, d.sq, d.seq)] (setRunning d s))) ∧
    (readyDsc s p q n 0x0605 = some d → s.store.mounted = true → exec (.storeInfo p q n) s = .next (completeI d .ok
      (resAt 16 (s.store.managed % 2 ^ 32) ||| resAt 20 (freeLbas s.store.managed s.store.dir % 2 ^ 32) |||
        resAt 24 s.store.dir.length) s)) ∧
    (readyDsc s p q n 0x0E04 = some d → s.store.mounted = true → d.u16 28 ≠ 0 → logName s (d.u32 24) < logFirst s →
      logName s (d.u32 24) % logRecords + min (d.u16 28) (logFirst s - logName s (d.u32 24)) ≤ logRecords →
      exec (.diagLogRead p q n) s = .next (nvRead 2 ((regionOf s 1).first + logName s (d.u32 24) % logRecords / 128)
        (logLbas (logName s (d.u32 24) % logRecords) (min (d.u16 28) (logFirst s - logName s (d.u32 24))))
        (.logRead d.port d.sq d.seq 0 (min (d.u16 28) (logFirst s - logName s (d.u32 24))))
        (setDsc { d with phase := .running, at_ := logName s (d.u32 24) } s))) ∧
    (s.store.mounted = true → s.store.shutting = false → s.store.logBuf ≠ [] → s.store.nvme = [] →
      exec .eventLogFlush s = .next (writeLog s)) ∧
    (s.store.mounted = true → s.store.nvme = [] → exec .smartPoll s = .next (sendNvme 0 2 2 0 [] .smart s))

/-- The store's link, its mount and its loss (R426, R427, R437): two retries of a command that fails, one abort for one
that does not answer; the event request is outstanding always. A shutdown that has flushed deletes the queues and sets CC.SHN
(R428). The order of a mount's admin commands is the model's choice (log entry 78). -/
def Obligations.StoreService : Prop :=
  ∀ s : State,
    (∀ v w, s.boot.perstN = some true → rdB s Reg.STP_STAT Fld.STP_STAT_link_up = false → RegsCanonical s → v < 16 → w < 16 →
      ∃ t, exec (.storeLinkUp v w) s = .next t ∧ rdB t Reg.STP_STAT Fld.STP_STAT_link_up = true ∧ t.store = s.store) ∧
    (∀ z, mayMount s = true → s.store.controller = false → ∃ t, exec (.storeControllerReady true z) s = .next t ∧
      t.store.controller = true ∧ t.store.managed = min z 1953125000 ∧ t.store.mounted = false ∧
      t.store.nvme.map (fun c => (c.op, c.lba, c.lbas, c.use)) = s.store.nvme.map (fun c => (c.op, c.lba, c.lbas, c.use)) ++
        [(6, 1, 0, .admin), (6, 0, 0, .admin), (9, 7, 0, .admin), (0x0A, 7, 0, .admin), (9, 6, 0, .admin), (0x0A, 6, 0, .admin),
          (5, 1, 0, .admin), (5, 2, 0, .admin), (1, 1, 0, .admin), (1, 2, 0, .admin), (0x0C, 0, 0, .event), (2, 0, 64, .mountRead)]) ∧
    (s.boot.perstN = some true → s.store.controller = false → ready s = true →
      rdB s Reg.STP_STAT Fld.STP_STAT_link_up = false → exec .storeAbsentTimeout s = .next (mountFails 1 s)) ∧
    (mayMount s = true → exec .storeMountRetry s = .next { s with store := { s.store with
      controller := false, nvme := s.store.nvme.filter (fun c => decide (c.queue ≠ 0)) } }) ∧
    (rdB s Reg.STP_STAT Fld.STP_STAT_link_up = true → s.store.mounted = true → s.store.nvme = [] → s.store.queued = [] →
      s.tables.loads = [] → s.hold.staging = [] → (∀ n, n < 8 → (cdcOf s n).job = none) →
      s.boot.phase = .ready → ∃ t, exec (.storeLost 1) s = .next t ∧ t.store.mounted = false ∧ t.boot = s.boot) ∧
    (∀ i c bs, cmdOf s i = some c → (c.queue = 0 ∨ c.op ≠ 2 ∨ bs.length = 4096 * c.lbas) →
      exec (.nvmeCompletion i 0 bs) s = .next (fatalRecovered (stopController (doneUse c bs (countIo c (dropCmd i s)))))) ∧
    (∀ i c st, cmdOf s i = some c → st ≠ 0 → c.tries < 2 → ∃ t, exec (.nvmeCompletion i st []) s = .next t ∧
      t.out = s.out ++ [c.out] ∧ t.store.mounted = s.store.mounted ∧ t.regs = s.regs) ∧
    (∀ i c st, cmdOf s i = some c → st ≠ 0 → 2 ≤ c.tries → exec (.nvmeCompletion i st []) s =
      .next (stopController (failUse c.use (.status (st % 65536)) (storeError c st (dropCmd i s))))) ∧
    (∀ i c, cmdOf s i = some c → c.use ≠ .event → exec (.nvmeCommandTimeout i) s =
      .next (stopController (failUse c.use .timeout (sendAdmin 8 i (dropCmd i s))))) ∧
    (∀ i c, cmdOf s i = some c → c.use = .event → exec (.nvmeCommandTimeout i) s = .next s) ∧
    (s.store.shutting = true → s.store.flushed = true → s.store.shn = false → s.store.nvme = [] →
      ∃ t, t = stopController s ∧ t.store.shn = true ∧ .controllerShutdown ∈ t.out ∧
        t.store.nvme.map (fun c => (c.op, c.lba)) = [(0, 1), (0, 2), (4, 1), (4, 2)])

/-- The codec lanes (R166 to R168, R453 to R460). -/
def Obligations.CodecLanes : Prop :=
  ∀ (s : State) (p q n : Nat) (d : Dsc),
    (readyDsc s p q n 0x0701 = some d → (cdcOf s (d.u8 16)).job = none → d.u8 18 = 0 → exec (.codecJob p q n) s =
      .next (beginJob (d.u8 16) d s)) ∧
    (∀ j, readyDsc s p q n 0x0701 = some d → (cdcOf s (d.u8 16)).job = some j → exec (.codecJob p q n) s =
      .next (complete d .busy 0 0 s)) ∧
    (readyDsc s p q n 0x0702 = some d → (cdcOf s (d.u8 16)).job = none → exec (.codecOutBuf p q n) s =
      .next (setCdc (d.u8 16) { cdcOf s (d.u8 16) with bufs := (cdcOf s (d.u8 16)).bufs ++
        [{ port := d.port, sq := d.sq, seq := d.seq, addr := d.u64 24, len := d.u32 20 }] } (setRunning d s))) ∧
    (readyDsc s p q n 0x0703 = some d → exec (.codecCancel p q n) s =
      .next (completeI d .ok 0 (cancelLane (d.u8 16) s))) ∧
    (∀ l j bs, (cdcOf s l).job = some j → j.waiting = none → j.store = false → j.decode = false →
      bs.length = min 8192 (j.inLen - j.pos) → exec (.codecBlockDone l (some bs)) s = .next (compressBlock l j bs s)) ∧
    (∀ l j bs, (cdcOf s l).job = some j → j.waiting = none → j.store = false → j.decode = true →
      bs.length = min 8200 (j.inLen - j.pos) → exec (.codecBlockDone l (some bs)) s = .next (decompressBlock l j bs s)) ∧
    (∀ l j, (cdcOf s l).job = some j → j.waiting = none → j.store = false →
      exec (.codecBlockDone l none) s = .next (endJob l false .fetchFault 0 s))

/-- Confidence rectangles (R169, R170, R485 to R490). -/
def Obligations.ConfidenceRectangles : Prop :=
  ∀ (s : State) (p q n : Nat) (d : Dsc),
    (readyDsc s p q n 0x0801 = some d →
      rectValid s (d.u8 16 / 16) (d.u8 17) (d.u16 20) (d.u16 22) (d.u16 24) (d.u16 26) = true →
      exec (.checkRect p q n) s = .next (defineRect d s)) ∧
    (readyDsc s p q n 0x0801 = some d →
      rectValid s (d.u8 16 / 16) (d.u8 17) (d.u16 20) (d.u16 22) (d.u16 24) (d.u16 26) = false →
      exec (.checkRect p q n) s = .next (complete d .refused 0 (resAt 16 0x88) s)) ∧
    (readyDsc s p q n 0x0802 = some d → d.u8 17 = 1 → exec (.checkExpect p q n) s = .next (completeI d .ok 0
      (wrF (Reg.CHK_Rr_CFG (d.u8 16)) Fld.CHK_Rr_CFG_sticky_set 1 (wr (Reg.CHK_Rr_STICKY (d.u8 16)) (BitVec.ofNat 32 (d.u32 20))
        (setRect (d.u8 16) { rectOf s (d.u8 16) with run := 0 } s))))) ∧
    (readyDsc s p q n 0x0802 = some d → d.u8 17 = 0 → d.target = 0 → (rectOf s (d.u8 16)).waiting.length < 16 →
      exec (.checkExpect p q n) s = .next (setRunning d (followWaiting (d.u8 16) (setRect (d.u8 16)
        { rectOf s (d.u8 16) with waiting := (rectOf s (d.u8 16)).waiting ++
          [{ port := d.port, sq := d.sq, seq := d.seq, frame := 0, crc := d.u32 20 }] } s)))) ∧
    (readyDsc s p q n 0x0802 = some d → d.u8 17 = 0 → d.target = 0 → 16 ≤ (rectOf s (d.u8 16)).waiting.length →
      exec (.checkExpect p q n) s = .next (complete d .resource 0 (resAt 16 0x88) s)) ∧
    (∀ r, r < 32 → rectOn s r = true → exec (.checkFrameComputed r) s = .next (computeRect s r)) ∧
    (∀ r, 32 ≤ r → r < 48 → rectOn s r = true → exec (.checkFrameComputed r) s = .next (computeDrive (sfn s) s r))

/-- The counter pool, the bandwidth monitors and the tile tags (R171, R172, R493 to R503). -/
def Obligations.CounterCommands : Prop :=
  ∀ (s : State) (p q n : Nat) (d : Dsc),
    (∀ k, readyDsc s p q n 0x0901 = some d → bitAt (d.u8 17) 1 = false → ctrNow s (d.u8 16) + k < 2 ^ 48 →
      exec (.ctrProgram p q ⟨n, k⟩) s = .next (completeI d .ok 0
        (ctrConfig (d.u8 16) (d.u8 17) (d.u8 18) (d.u16 20) (setCtr (d.u8 16) { value := d.u64 24 % 2 ^ 48, ovf := 0 } s)))) ∧
    (∀ k, readyDsc s p q n 0x0901 = some d → bitAt (d.u8 17) 1 = false → ctrChained s (d.u8 16) = false →
      rdB s (Reg.PERF_CTRn_CFG (d.u8 16)) Fld.PERF_CTRn_CFG_enable = true →
      rdB s (Reg.PERF_CTRn_CFG (d.u8 16)) Fld.PERF_CTRn_CFG_level = false →
      rdB s Reg.PERF_STAT Fld.PERF_STAT_frozen = false → 2 ^ 48 ≤ ctrNow s (d.u8 16) + k →
      exec (.ctrProgram p q ⟨n, k⟩) s = .next (completeI d .ok 0
        (ctrConfig (d.u8 16) (d.u8 17) (d.u8 18) (d.u16 20) (setCtr (d.u8 16) { value := d.u64 24 % 2 ^ 48, ovf := 1 }
          (bumpSat Reg.PERF_FLAG_CNT (0, 8) 1 (wrF Reg.PERF_FLAGS (0, 1) 1 s)))))) ∧
    (∀ k, readyDsc s p q n 0x0901 = some d → bitAt (d.u8 17) 1 = true → d.u8 16 % 2 = 1 → exec (.ctrProgram p q ⟨n, k⟩) s =
      .next (complete d .refused 0 (resAt 16 0x90) s)) ∧
    (readyDsc s p q n 0x0902 = some d → exec (.ctrSnapshot p q n) s =
      .next (completeI d .ok (resAt 16 ((s.perf.snapSeq + 1) % 2 ^ 32)) (takeSnapshot s))) ∧
    (readyDsc s p q n 0x0903 = some d → d.u8 16 = 0 → exec (.ctrFreeze p q n) s = .next (completeI d .ok 0
      (wrF Reg.PERF_STAT Fld.PERF_STAT_frozen 0 { s with fresh := s.fresh + 1 }))) ∧
    (readyDsc s p q n 0x0903 = some d → d.u8 16 = 1 → rdB s Reg.PERF_STAT Fld.PERF_STAT_frozen = true →
      exec (.ctrFreeze p q n) s = .next (completeI d .ok 0
        (wrF Reg.PERF_STAT Fld.PERF_STAT_frozen 1 { s with fresh := s.fresh + 1 }))) ∧
    (∀ u, readyDsc s p q n 0x0903 = some d → d.u8 16 = 1 → rdB s Reg.PERF_STAT Fld.PERF_STAT_frozen = false →
      (List.range 64).foldl holdCtr s = u → exec (.ctrFreeze p q n) s = .next (completeI d .ok 0
        (wrF Reg.PERF_STAT Fld.PERF_STAT_frozen 1 { u with
          fresh := u.fresh + 1
          perf := { u.perf with
            fixed := tabSet (fun _ => 0) (tabSet (fun _ => 0) s.perf.fixed 0 (Config.ticksAt s.fresh % 2 ^ 64)) 1
              (Config.compCyclesAt s.fresh % 2 ^ 64) } }))) ∧
    (readyDsc s p q n 0x0904 = some d → exec (.bwMonitor p q n) s = .next (completeI d .ok 0
      (wrF (Reg.PERF_BWm_CFG (d.u8 16)) Fld.PERF_BWm_CFG_window_us (d.u32 20) { s with perf := { s.perf with
        monitors := tabSet (fun _ => {}) s.perf.monitors (d.u8 16)
          { tabGet (fun _ => ({} : Monitor)) s.perf.monitors (d.u8 16) with bytes := 0 } } }))) ∧
    (∀ m lo hi, m < 10 → m ≠ 5 → m ≠ 6 → rdF s (Reg.PERF_BWm_CFG m) Fld.PERF_BWm_CFG_window_us ≠ 0 →
      exec (.bwWindowEnd m lo hi) s = .next { s with fresh := s.fresh + 1, perf := { s.perf with monitors := tabSet (fun _ => {}) s.perf.monitors m {
          bytes := 0, pubBytes := (tabGet (fun _ => ({} : Monitor)) s.perf.monitors m).bytes % 2 ^ 48,
          pubMin := lo % 2 ^ 32, pubMax := hi % 2 ^ 32, seq := ((tabGet (fun _ => ({} : Monitor)) s.perf.monitors m).seq + 1) % 65536 } } }) ∧
    (∀ m, m = 64 ∨ m = 65 → rdB s Reg.PERF_STAT Fld.PERF_STAT_frozen = false → exec (.counterWrap m) s =
      .next (bumpSat Reg.PERF_FLAG_CNT (0, 8) 1 (wrF Reg.PERF_FLAGS (0, 1) 1 s))) ∧
    (∀ m, m < 64 → rdF s (Reg.PERF_CTRn_CFG m) Fld.PERF_CTRn_CFG_event = 1 →
      rdB s (Reg.PERF_CTRn_CFG m) Fld.PERF_CTRn_CFG_level = true → ctrOddHalf s m = false →
      rdB s Reg.PERF_STAT Fld.PERF_STAT_frozen = false → rdB s (Reg.PERF_CTRn_CFG m) Fld.PERF_CTRn_CFG_enable = true →
      exec (.counterWrap m) s = .next (ctrAdd m (2 ^ 48 - (ctr s m).value) s)) ∧
    (readyDsc s p q n 0x0905 = some d → d.u8 17 = 1 → exec (.tagConfig p q n) s = .next (completeI d .ok 0
      (wrF Reg.PERF_STAT Fld.PERF_STAT_tag_k (d.u8 16) { s with perf := { s.perf with tagS := 1, tags := [], tagIndex := 0 } }))) ∧
    (∀ m lo hi w, m = 5 ∨ m = 6 → w = rdF s (Reg.PERF_BWm_CFG m) Fld.PERF_BWm_CFG_window_us → 2 ≤ w → lo % 64 = 0 → hi % 64 = 0 →
      lo ≤ hi → ∃ b, w * lo ≤ b ∧ b ≤ w * hi ∧ b % 64 = 0 ∧ exec (.bwWindowEnd m lo hi) s = .next { s with
        fresh := s.fresh + 1, perf := { s.perf with monitors := tabSet (fun _ => {}) s.perf.monitors m {
          bytes := 0, pubBytes := b % 2 ^ 48, pubMin := lo % 2 ^ 32, pubMax := hi % 2 ^ 32,
          seq := ((tabGet (fun _ => ({} : Monitor)) s.perf.monitors m).seq + 1) % 65536 } } })

/-- Attestation, keys, fuses and firmware updates (R93 to R98, R176, R177, R572). -/
def Obligations.SecurityCommands : Prop :=
  ∀ (s : State) (p q n : Nat) (d : Dsc),
    (readyDsc s p q n 0x0D01 = some d → exec (.secAttest p q n) s = .next (completeI d .ok 0 (monitorAdd d.port 1616
      (emit (.dma d.port (d.u64 16) (reportBody s (leBytes 32 (d.get 24 32)) ++
        leBytes 1280 (Config.falconSign s.fresh (shake256 (reportBody s (leBytes 32 (d.get 24 32))) 64)).toNat))
        { s with fresh := s.fresh + 1 })))) ∧
    (readyDsc s p q n 0x0D07 = some d → exec (.secCert p q n) s = .next (completeI d .ok 0 (monitorAdd d.port 3120
      (emit (.dma d.port (d.u64 16) (certificate s)) s)))) ∧
    (readyDsc s p q n 0x0D02 = some d → s.sec.challenge = none → exec (.secChallenge p q n) s =
      .next (completeI d .ok 0 (monitorAdd d.port 32 (emit (.dma d.port (d.u64 16) (leBytes 32 (Config.challenge s.fresh).toNat))
        { s with fresh := s.fresh + 1, sec := { s.sec with challenge := some (d.port, Config.challenge s.fresh) } })))) ∧
    (∀ c, s.sec.challenge = some c → exec .challengeExpiry s =
      .next (setFlag Flag.SEC_challenge_lapsed { s with sec := { s.sec with challenge := none } })) ∧
    (∀ c bs, readyDsc s p q n 0x0D03 = some d → s.sec.fuse = none → s.sec.challenge = some (d.port, c) → 1 ≤ d.u8 16 →
      slotState s (d.u8 16) = 0 → ∃ t, exec (.secEnrol p q n (some bs)) s = .next t ∧ t.sec.challenge = none ∧
        t.fuses = s.fuses ∧
        (Config.falconVerify (bs.take 1793) (leBytes 32 c.toNat) ((bs.drop 1793).take 1280) = true → t.sec.fuse =
          some (.enrol (d.u8 16) (BitVec.ofNat 256 (ofLe (shake256 (bs.take 1793) 32))), d.port, d.sq, d.seq)) ∧
        (Config.falconVerify (bs.take 1793) (leBytes 32 c.toNat) ((bs.drop 1793).take 1280) = false →
          t.sec.fuse = none)) ∧
    (readyDsc s p q n 0x0D03 = some d → s.sec.fuse = none → s.sec.challenge = none →
      exec (.secEnrol p q n none) s = .next (complete d .notReady 0 0 s)) ∧
    (readyDsc s p q n 0x0D04 = some d → s.sec.fuse = none → slotState s (d.u8 16) = 1 → exec (.secRevoke p q n) s =
      .next (setRunning d { s with sec := { s.sec with fuse := some (.revoke (d.u8 16), d.port, d.sq, d.seq) } })) ∧
    (readyDsc s p q n 0x0D04 = some d → s.sec.fuse = none → slotState s (d.u8 16) ≠ 1 → exec (.secRevoke p q n) s =
      .next (complete d .refused 0 (resAt 16 2) s)) ∧
    (readyDsc s p q n 0x0D06 = some d → s.sec.fuse = none → s.boot.running.advance = true →
      s.fuses.minVersion < min s.boot.running.securityVersion 64 → exec (.secRollback p q n) s =
        .next (setRunning d { s with sec := { s.sec with
          fuse := some (.minimum (min s.boot.running.securityVersion 64), d.port, d.sq, d.seq) } })) ∧
    (readyDsc s p q n 0x0D05 = some d → s.sec.flash = none → exec (.secFwUpdate p q n none) s =
      .next (complete d .fetchFault 0 0 s)) ∧
    (∀ img, readyDsc s p q n 0x0D05 = some d → s.sec.flash = none → ∃ t, exec (.secFwUpdate p q n (some img)) s = .next t ∧
      t.fuses = s.fuses ∧ ∀ h, verifyImage s (img.take (d.u32 20)) 1 (d.u32 20) = .accept h →
        s.boot.running.updateSeq < imageUpdateSeq img →
          t.sec.flash = some (updateSlot s, fwInfo img h 0, d.port, d.sq, d.seq)) ∧
    (∀ img, readyDsc s p q n 0x0D05 = some d → s.sec.flash = none → formatOk (img.take (d.u32 20)) 1 = false →
      exec (.secFwUpdate p q n (some img)) s =
        .next (complete d .signatureFail 0 0 (setFlag Flag.SEC_sig_fail (monitorAdd d.port (d.u32 20) s)))) ∧
    (∀ op w, s.sec.fuse = some (op, w) → ∃ t, exec .fuseProgrammingDone s = .next t ∧ t.fuses = burnFuse op s.fuses ∧
      t.sec = { s.sec with fuse := none }) ∧
    (∀ k i w, s.sec.flash = some (k, i, w) → exec (.fwFlashWriteDone false) s = .next (endDsc w .timeout 0
      { s with sec := { s.sec with flash := none, broken := k :: s.sec.broken.filter (fun b => b != k) } })) ∧
    (∀ k i w, s.sec.flash = some (k, i, w) → ∃ t, exec (.fwFlashWriteDone true) s = .next t ∧ t.sec.flash = none ∧
      t.sec.broken = s.sec.broken.filter (fun b => b != k) ∧ t.fuses = s.fuses) ∧
    (∀ r : List Byte, mgmtRuns s = true → s.sec.testMode = false → ∃ t, exec (.privateTestModeOpen r) s = .next t ∧
      (Config.testAuthority (leBytes 8 s.fuses.serial.toNat ++ leBytes 32 (Config.challenge s.fresh).toNat) r = true →
        t.fuses = { s.fuses with testMark := true } ∧ t.sec.testMode = true) ∧
      (Config.testAuthority (leBytes 8 s.fuses.serial.toNat ++ leBytes 32 (Config.challenge s.fresh).toNat) r = false →
        t = { s with fresh := s.fresh + 1, out := s.out ++ [.testChallenge
          (leBytes 8 s.fuses.serial.toNat ++ leBytes 32 (Config.challenge s.fresh).toNat)] }))

/-- The lane opcodes and the owner's direct lane writes (R173, R174, R180, R186, R188, R189, R202 to R206). -/
def Obligations.LaneCommands : Prop :=
  ∀ (s : State) (p q n : Nat) (d : Dsc),
    (readyDsc s p q n 0x0B01 = some d → d.u8 16 = 0 → d.u8 17 = 0 → trainMask d = [0] → laneIs s 0 0 Lane.active = true →
      (laneOf s 0 0).packet = none →
      exec (.laneTrain p q n) s = .next (endJobs (countRetrain Fld.LANE_RETRAIN_CNT_fast 0 0 (goLane 0 0 Lane.fast
        (setLane 0 0 { laneOf s 0 0 with attempts := 1, invalid := [], valid := 0, good := 0, idle := 0, thaw := false }
          { setRunning d s with lanes := { s.lanes with jobs := s.lanes.jobs ++
          [{ port := p, sq := q, seq := n, link := 0, full := false, waiting := [], running := [0] }] } }))))) ∧
    (readyDsc s p q n 0x0B02 = some d → activeVideo s (d.u8 16) (d.u8 17) = false → d.u8 16 = 0 →
      exec (.laneBitSlip p q n) s = .next (completeI d .ok 0 (slip 0 (d.u8 17) (d.u16 18) s))) ∧
    (readyDsc s p q n 0x0B02 = some d → activeVideo s (d.u8 16) (d.u8 17) = true →
      exec (.laneBitSlip p q n) s = .next (complete d .refused 0 (resAt 16 (linkUnit (d.u8 16))) s)) ∧
    (readyDsc s p q n 0x0B03 = some d → resultBusy s (Reg.LANE_EYE_RESULT (d.u8 16) (d.u8 17)) = false →
      exec (.laneEyeScan p q n) s = .next (eyeStart (d.u8 16) (d.u8 17) (some (p, q, n)) (setRunning d s))) ∧
    (readyDsc s p q n 0x0B03 = some d → resultBusy s (Reg.LANE_EYE_RESULT (d.u8 16) (d.u8 17)) = true →
      exec (.laneEyeScan p q n) s =
        .next (complete d .busy 0 0 (setFlag (Flag.LANE_busy_reject (d.u8 16) (d.u8 17)) s))) ∧
    (readyDsc s p q n 0x0B04 = some d → activeVideo s (d.u8 16) (d.u8 17) = false → d.u8 20 = 0 →
      exec (.lanePrbs p q n) s = .next (completeI d .ok 0 (prbsPattern (d.u8 16) (d.u8 17) (d.u8 18) (d.u64 24)
        (wr (Reg.PRBS_USER_HI (d.u8 16) (d.u8 17)) (BitVec.ofNat 32 (d.u64 24 / 2 ^ 32))
          (wr (Reg.PRBS_USER_LO (d.u8 16) (d.u8 17)) (BitVec.ofNat 32 (d.u64 24))
            (wrF (Reg.PRBS_CTRL (d.u8 16) (d.u8 17)) Fld.PRBS_CTRL_role (d.u8 19)
              (wrF (Reg.PRBS_CTRL (d.u8 16) (d.u8 17)) Fld.PRBS_CTRL_pattern (d.u8 18) s))))))) ∧
    (∀ l a (v : Word), ownerWrites s p = true → laneEnabled s l a = true →
      laneEnabled (writeRw (Reg.LANE_CFG l a) v s) l a = false → exec (.laneCfgWrite p l a v) s =
        .next (jobLaneGone l a (goLane l a Lane.off (endTrial l a
          (setLane l a { laneOf s l a with saved := none } (writeRw (Reg.LANE_CFG l a) v s)))))) ∧
    (∀ l a (v : Word) u, ownerWrites s p = true → laneEnabled s l a = false →
      laneEnabled (writeRw (Reg.LANE_CFG l a) v s) l a = true → s.lanes.begun = true →
      wrF (Reg.LANE_ALIGN l a) Fld.LANE_ALIGN_position 0 (writeRw (Reg.LANE_CFG l a) v s) = u → rateOk u l a = true →
      exec (.laneCfgWrite p l a v) s = .next (startTraining l a 1 u)) ∧
    (∀ a (v : Word), ownerWrites s p = true → 1 ≤ field v 0 7 → field v 0 7 ≤ 66 → activeVideo s 0 a = false →
      exec (.laneSlipWrite p 0 a v) s = .next (slip 0 a (field v 0 7) s)) ∧
    (∀ l a (v : Word), ownerWrites s p = true → field v 0 1 = 1 → resultBusy s (Reg.LANE_EYE_RESULT l a) = false →
      exec (.laneEyeStartWrite p l a v) s = .next (eyeStart l a none s)) ∧
    (∀ a (v : Word), ownerWrites s p = true → activeVideo s 0 a = false → exec (.prbsCtrlWrite p 0 a v) s =
      .next (if 5 < field v 0 3 then writeRw (Reg.PRBS_CTRL 0 a) v s else prbsPattern 0 a (field v 0 3)
        (prbsUser (writeRw (Reg.PRBS_CTRL 0 a) v s) 0 a) (writeRw (Reg.PRBS_CTRL 0 a) v s))) ∧
    (∀ l a b k (v : Word) u, ownerWrites s p = true → field v 0 2 = 1 → prbsAdvance l a b k s = u →
      ownerWrites u p = true → (laneOf u l a).inject = 0 → exec (.prbsInjectWrite p l a b k v) s =
        .next (setLane l a { laneOf u l a with inject := 1 } u)) ∧
    (∀ l a b k (v : Word) u, ownerWrites s p = true → field v 0 2 = 1 → prbsAdvance l a b k s = u →
      ownerWrites u p = true → (laneOf u l a).inject ≠ 0 → exec (.prbsInjectWrite p l a b k v) s =
        .next (setFlag (Flag.LANE_busy_reject l a) u)) ∧
    (∀ l a b k u, prbsAdvance l a b k s = u → portWrites u p = true → u.boot.lanesDone = true →
      exec (.prbsBitsLoRead p l a b k) s = .next (emit (.readData p (Reg.PRBS_BITS_LO l a) ((laneOf u l a).bits % 2 ^ 32))
        (wr (Reg.PRBS_BITS_HI l a) (BitVec.ofNat 32 ((laneOf u l a).bits / 2 ^ 32)) u))) ∧
    (∀ a b k g, laneIs s 1 a Lane.prbs = true → b ≠ 0 → s.raster.driven = true →
      generateBits (prbsPat s 1 a) b (laneOf s 1 a) = g →
      prbsAdvance 1 a b k s = emit (.prbsBits a b (polarBits s 1 a b g.1)) (setLane 1 a g.2 s))

/-- The steps of a training (R185, R187, R188, R190, R198): what moves a lane from state to state; and the PRBS checker (R205,
R206), bit by bit. -/
def Obligations.LaneTraining : Prop :=
  ∀ (s : State) (a : Nat),
    (laneIs s 0 a Lane.detect = true → (laneOf s 0 a).asleep = false → RegsCanonical s →
      exec (.hwlSignalDetect a) s = .next (goLane 0 a Lane.cdr (beginSteps 0 a s))) ∧
    (laneIs s 0 a Lane.cdr = true → exec (.cdrLock a) s = .next (goLane 0 a Lane.align s)) ∧
    (∀ (b : BitVec 66) u v w, headerOf b = 1 ∨ headerOf b = 2 → laneIs s 0 a Lane.align = true →
      rdB s (Reg.LANE_CFG 0 a) Fld.LANE_CFG_polarity = false →
      setLane 0 a { laneOf s 0 a with scr := (descramble (laneOf s 0 a).scr (payloadOf b)).2 } s = w →
      (laneOf w 0 a).valid = 63 →
      setLane 0 a { laneOf w 0 a with invalid := ((laneOf w 0 a).invalid.map (· + 1)).filter (· < 64), valid := 64 } w = u →
      setLane 0 a { laneOf u 0 a with win := 0, sweep := [], good := 0, foms := [] } u = v →
      exec (.blockLock ⟨a, 66, b.toNat⟩) s = .next (goLane 0 a Lane.adapt (wrF (Reg.LANE_EQ 0 a) Fld.LANE_EQ_H_ctle 0 v))) ∧
    (∀ n bits t u, laneIs s 0 a Lane.fast = true → t < n → (∀ k, k < 64 → headerAt n bits (t + 66 * k) = true) →
      (∀ t', t' < t → ∃ k, k < 64 ∧ headerAt n bits (t' + 66 * k) = false) →
      seedScrambler a (blocksAt n bits t) (setStat 0 a Fld.LANE_STAT_block_lock 1 (slip 0 a (t % 66) s)) = u →
      exec (.blockLock ⟨a, n, bits⟩) s = .next (setLane 0 a { laneOf u 0 a with valid := 64 } u)) ∧
    (∀ st f c, laneIs s 0 a Lane.adapt = true → statB s 0 a Fld.LANE_STAT_block_lock = true → 4 ≤ (laneOf s 0 a).good →
      exec (.laneTrainingDone 0 a st f c) s = .next (becomeActive 0 a s)) ∧
    (∀ st f c, laneIs s 0 a Lane.fast = true → statB s 0 a Fld.LANE_STAT_block_lock = true → 4 ≤ (laneOf s 0 a).good →
      exec (.laneTrainingDone 0 a st f c) s = .next (fastDone 0 a s)) ∧
    (∀ st f c, laneIs s 1 a Lane.adapt = true → 20 ≤ (laneOf s 1 a).sweep.length →
      crc8 [BitVec.ofNat 8 st, BitVec.ofNat 8 f] = c → rdF s (Reg.LANE_ADAPT 1 a) Fld.LANE_ADAPT_fom_min ≤ f % 256 →
      exec (.laneTrainingDone 1 a st f c) s =
        .next (becomeActive 1 a (setStat 1 a Fld.LANE_STAT_fom (f % 256) (driverLocks a st s)))) ∧
    (∀ l, laneIs s l a Lane.detect = true → exec (.laneTrainingTimeout l a) s =
      .next (takeWaiting l a (jobLaneEnds l a false (laneEvent l a 0x0BF3 2 1 (goLane l a Lane.failed
        (setLane l a { laneOf s l a with saved := none } s)))))) ∧
    (laneIs s 0 a Lane.align = true → rdB s (Reg.LANE_CFG 0 a) Fld.LANE_CFG_align_manual = false →
      (laneOf s 0 a).tried + 1 < 66 → exec (.laneTrainingTimeout 0 a) s =
        .next (slip 0 a 1 (setLane 0 a { laneOf s 0 a with tried := (laneOf s 0 a).tried + 1 } s))) ∧
    (∀ (b : BitVec 66) u w, headerOf b = 0 ∨ headerOf b = 3 → notIdle a (abandonPacket a 3 s) = u →
      rdB u (Reg.LANE_CFG 0 a) Fld.LANE_CFG_polarity = false →
      setLane 0 a { laneOf u 0 a with scr := (descramble (laneOf u 0 a).scr (payloadOf b)).2 } u = w →
      (laneOf w 0 a).invalid.length < 15 → exec (.invalidSyncHeader a b) s = .next (bumpSat (Reg.LANE_HDR_ERR 0 a)
        Fld.LANE_HDR_ERR_invalid_headers 1 (setLane 0 a { laneOf w 0 a with
          invalid := 0 :: ((laneOf w 0 a).invalid.map (· + 1)).filter (· < 64), valid := 0 } w))) ∧
    (∀ n bits c, laneIs s 0 a Lane.prbs = true → n ≠ 0 →
      checkBits (prbsPat s 0 a) (prbsUser s 0 a) n (polarBits s 0 a n bits) { lane := laneOf s 0 a } = c → c.drops = 0 →
      exec (.prbsCheckerLocked ⟨a, n, bits⟩) s = .next (wrF (Reg.PRBS_STAT 0 a) Fld.PRBS_STAT_locked
        (b2n (decide (128 ≤ c.lane.prbsSeen))) (bumpSat (Reg.PRBS_ERRS 0 a) Fld.PRBS_ERRS_errors c.errs
          (wr (Reg.PRBS_BITS_LO 0 a) (BitVec.ofNat 32 c.lane.bits) (setLane 0 a c.lane s))))) ∧
    (∀ n bits c, laneIs s 0 a Lane.prbs = true → n ≠ 0 → rdB s (Reg.PRBS_STAT 0 a) Fld.PRBS_STAT_locked = true →
      checkBits (prbsPat s 0 a) (prbsUser s 0 a) n (polarBits s 0 a n bits) { lane := laneOf s 0 a } = c → c.drops = 1 →
      exec (.prbsCheckerUnlock a n bits) s = .next (setFlag (Flag.LANE_prbs_unlock 0 a) (wrF (Reg.PRBS_STAT 0 a)
        Fld.PRBS_STAT_locked (b2n (decide (128 ≤ c.lane.prbsSeen))) (bumpSat (Reg.PRBS_ERRS 0 a) Fld.PRBS_ERRS_errors c.errs
          (wr (Reg.PRBS_BITS_LO 0 a) (BitVec.ofNat 32 c.lane.bits) (setLane 0 a c.lane s)))))) ∧
    (∀ pat user b (c : Checked), c.lane.inject = 0 → c.lane.prbsSeen = 128 → b = prbsNext pat c.lane.prbsSeq →
      checkBit pat user c b = { c with lane := { c.lane with
        prbsSeq := (2 * c.lane.prbsSeq + b2n b) % 2 ^ 64, bits := (c.lane.bits + 1) % 2 ^ 48 } }) ∧
    (∀ pat user b (c : Checked), c.lane.inject = 0 → c.lane.prbsSeen = 128 → b ≠ prbsNext pat c.lane.prbsSeq →
      (checkBit pat user c b).errs = c.errs + 1 ∧ (c.lane.prbsErrs.length < 100 → (checkBit pat user c b).drops = c.drops)) ∧
    (∀ pat user b (c : Checked), c.lane.inject = 0 → c.lane.prbsSeen < 63 → (checkBit pat user c b).lane.prbsSeen =
      c.lane.prbsSeen + 1 ∧ (checkBit pat user c b).errs = c.errs ∧ (checkBit pat user c b).lane.bits = c.lane.bits) ∧
    (∀ st f c, laneIs s 1 a Lane.adapt = true → crc8 [BitVec.ofNat 8 st, BitVec.ofNat 8 f] ≠ c →
      exec (.laneTrainingDone 1 a st f c) s = .next s) ∧
    (laneIs s 0 a Lane.detect = true → (laneOf s 0 a).asleep = true → laneIs (startTraining 0 a 3 s) 0 a Lane.detect = true →
      exec (.hwlSignalDetect a) s = .next (goLane 0 a Lane.cdr (startTraining 0 a 3 s)))

/-- Lock loss, retrain, adaptation and freeze (R191 to R200, R202, R203). -/
def Obligations.LaneUpkeep : Prop :=
  ∀ (s : State) (l a : Nat),
    (∀ c, laneIs s l a Lane.active = true → exec (.laneLockLost l a c) s = .next (loseLock l a c s)) ∧
    (laneIs s l a Lane.fast = true → (laneOf s l a).failures < 2 → ∃ t, exec (.fastRetrainTimeout l a) s = .next t ∧
      t = countRetrain Fld.LANE_RETRAIN_CNT_fast l a (setLane l a { laneOf s l a with
        failures := (laneOf s l a).failures + 1, attempts := (laneOf s l a).attempts + 1, good := 0 }
        (setFlag (Flag.LANE_fast_fail l a) s))) ∧
    (laneIs s l a Lane.fast = true → 2 ≤ (laneOf s l a).failures → exec (.fastRetrainTimeout l a) s =
      .next (startTraining l a 0 (setLane l a { laneOf s l a with
        failures := (laneOf s l a).failures + 1, attempts := (laneOf s l a).attempts + 1, good := 0 }
        (setFlag (Flag.LANE_fast_fail l a) s)))) ∧
    (laneIs s l a Lane.active = true → exec (.retrainCountReset l a) s =
      .next (setLane l a { laneOf s l a with failures := 0 } s)) ∧
    (∀ dis, laneIs s 0 a Lane.fast = true → statB s 0 a Fld.LANE_STAT_block_lock = false → RegsCanonical s →
      exec (.fomWindow a dis []) s = .next (setLane 0 a { laneOf s 0 a with
        foms := (nextFom (laneFom s 0 a) dis :: (laneOf s 0 a).foms).take 8 }
        (setStat 0 a Fld.LANE_STAT_fom (nextFom (laneFom s 0 a) dis) s))) ∧
    (adapting s a = true → (laneOf s 0 a).trial = none → (laneOf s 0 a).foms.length = 8 →
      rdF s (Reg.LANE_EQ 0 a) Fld.LANE_EQ_H_ctle < 15 → exec (.ctleTrial a) s =
        .next (wrF (Reg.LANE_EQ 0 a) Fld.LANE_EQ_H_ctle (rdF s (Reg.LANE_EQ 0 a) Fld.LANE_EQ_H_ctle + 1)
          (setLane 0 a { laneOf s 0 a with trial := some {
            base := rdF s (Reg.LANE_EQ 0 a) Fld.LANE_EQ_H_ctle, ref := (laneOf s 0 a).foms.sum, up := true } } s))) ∧
    (laneIs s 1 a Lane.active = true → statB s 1 a Fld.LANE_STAT_frozen = false → exec (.idleFreeze 1 a) s =
      .next (freezeLane 1 a s)) ∧
    (laneIs s 0 a Lane.active = true → statB s 0 a Fld.LANE_STAT_frozen = false → (laneOf s 0 a).idle < 4097 →
      exec (.idleFreeze 0 a) s = .next s) ∧
    (statB s 0 a Fld.LANE_STAT_recentring = true → (laneOf s 0 a).thaw = false → (laneOf s 0 a).eyeWaits = false →
      tabWf (fun _ => ({} : LaneState)) s.lanes.lane = true →
      ∀ errors, exec (.recentreDone ⟨a, errors⟩) s = .next (laneEvent 0 a 0x0BF4 0 (laneFom s 0 a) (setFlag (Flag.LANE_recentre 0 a)
        (setStat 0 a Fld.LANE_STAT_fom_ref (laneFom s 0 a) (setStat 0 a Fld.LANE_STAT_recentring 0
          (setLane 0 a { laneOf s 0 a with phase := centredPhase (laneOf s 0 a).phase errors } s)))))) ∧
    (∀ phase pre n post, (∀ e ∈ pre ++ post, e ≠ 0) → pre.length + (n + 1) + post.length = 64 →
      centredPhase phase (pre ++ List.replicate (n + 1) 0 ++ post) = (phase + 32 + pre.length + n / 2) % 64) ∧
    (∀ le ri tp bo ce, resultBusy s (Reg.LANE_EYE_RESULT l a) = true → (laneOf s l a).eyeWaits = false →
      exec (.eyeScanDone l a le ri tp bo ce true) s = .next (tick (eyeEnd l a 0 (eyeData l a (laneOf s l a).eyeFom
        (eyeResult s.fresh le ri tp bo ce) s)))) ∧
    (∀ free counts k, (∀ i, i < k → counts.getD i 0 ≤ 1) → k < counts.length → 1 < counts.getD k 0 → eyeEdge free counts = k) ∧
    (∀ le ri tp bo ce, resultBusy s (Reg.LANE_EYE_RESULT l a) = true → (laneOf s l a).eyeWaits = false →
      exec (.eyeScanDone l a le ri tp bo ce false) s = .next (eyeEnd l a 2 s))

/-- Blocks of the Headwater link, silence, freeze and hold (R183, R184, R194, R213, R214, R226, R230 to R234): a receiver reads
what the source coded, and each block does what its type says. -/
def Obligations.HeadwaterBlocks : Prop :=
  (∀ (s : State) (a : Nat),
    (∀ h x (b : BitVec 66), h < 4 → onWire s a [(h, x)] = [b] → (takeBlock a b s).1 = readBlock h x) ∧
    (∀ c (p x : BitVec 64), scramble c p = (x, (scramble c p).2) → descramble c x = (p, (scramble c p).2)) ∧
    (∀ b k p t, hwlReceives s a = true → takeBlock a b s = (.control k p, t) → knownType k = false →
      exec (.hwlUnknownBlock a b) s = .next (setFlag Flag.HWL_pkt_err (notIdle a (abandonPacket a 3 t)))) ∧
    (∀ b p t, hwlReceives s a = true → takeBlock a b s = (.data p, t) → (laneOf (dataArrives a (notIdle a t)) 0 a).packet = none →
      exec (.hwlUnknownBlock a b) s = .next (setFlag Flag.HWL_pkt_err (dataArrives a (notIdle a t)))) ∧
    (∀ b p t, a < 32 → takeBlock a b s = (.control 0x2D p, t) →
      exec (.hwlTrainBlock ⟨a, b⟩) s = .next (notIdle a (abandonPacket a 3 t))) ∧
    (∀ b p t, takeBlock a b s = (.control 0x1E p, t) → (laneOf t 0 a).packet = none → laneIs t 0 a Lane.active = false →
      exec (.hwlIdleBlock ⟨a, b⟩) s = .next (setLane 0 a { laneOf t 0 a with idle := (laneOf t 0 a).idle + 1 }
        (countEvent 0x20 0x12 1 t))) ∧
    (∀ b p t u, hwlReceives s a = true → takeBlock a b s = (.control 0x55 p, t) → notIdle a (abandonPacket a 3 t) = u →
      rdB u Reg.HWL_STAT Fld.HWL_STAT_sleeping = true → exec (.hwlSleepBlock ⟨a, b⟩) s = .next u) ∧
    (∀ b p t u, hwlReceives s a = true → takeBlock a b s = (.control 0x55 p, t) → notIdle a (abandonPacket a 3 t) = u →
      rdB u Reg.HWL_STAT Fld.HWL_STAT_sleeping = false → rdB u Reg.RAST_STAT Fld.RAST_STAT_timeline = false →
      u.comp.cur = none → u.hwl.frame = none → RegsCanonical u → ∃ w, exec (.hwlSleepBlock ⟨a, b⟩) s = .next w ∧
        w.hwl.checking = false ∧ rdB w Reg.HWL_STAT Fld.HWL_STAT_sleeping = true) ∧
    (∀ b p t u, hwlReceives s a = true → takeBlock a b s = (.control 0x66 p, t) → notIdle a (abandonPacket a 3 t) = u →
      u.power.state = .run → u.power.entry = none → rdB u Reg.HWL_STAT Fld.HWL_STAT_sleeping = true → RegsCanonical u →
      ∃ w, exec (.hwlWakeBlock ⟨a, b⟩) s = .next w ∧ w.hwl.checking = true ∧ rdB w Reg.HWL_STAT Fld.HWL_STAT_sleeping = false)) ∧
  (∀ s : State,
    (planeOn s 0 = true → s.hwl.checking = true → rdB s Reg.HWL_STAT Fld.HWL_STAT_sleeping = false → RegsCanonical s →
      rdB s Reg.HWL_STAT Fld.HWL_STAT_silent = true → exec .silenceCheck s = .next (freezeIfDue
        (bumpSat Reg.HWL_STAT Fld.HWL_STAT_missing 1 { s with hwl := { s.hwl with missed := s.hwl.missed + 1 } }))) ∧
    (rdB s Reg.HWL_STAT Fld.HWL_STAT_silent = true → rdB s Reg.HWL_STAT Fld.HWL_STAT_frozen = false →
      min 600 (max 1 (rdF s Reg.HWL_HOLD_TIMEOUT Fld.HWL_HOLD_TIMEOUT_frames)) ≤ s.hwl.missed → exec .freeze s =
        .next (postEvent .device 0x05F3 0x20 1 (dataAt 24 (rdF (wrF Reg.HWL_STAT Fld.HWL_STAT_frozen 1 s) Reg.HWL_STAT
          Fld.HWL_STAT_missing)) (wrF Reg.HWL_STAT Fld.HWL_STAT_frozen 1 s))) ∧
    (rdB s Reg.HWL_STAT Fld.HWL_STAT_frozen = true → rdB s Reg.HWL_STAT Fld.HWL_STAT_holding = false → s.hold.due = false →
      rdF s Reg.HWL_FREEZE_TIMEOUT Fld.HWL_FREEZE_TIMEOUT_ms ≠ 0 → policyItem s ≠ 0 → itemResident s (policyItem s) = true →
      exec .freezeTimeout s = .next { s with hold := { s.hold with due := true } }) ∧
    (rdB s Reg.HWL_STAT Fld.HWL_STAT_frozen = true → rdB s Reg.HWL_STAT Fld.HWL_STAT_holding = false → s.hold.due = false →
      rdF s Reg.HWL_FREEZE_TIMEOUT Fld.HWL_FREEZE_TIMEOUT_ms ≠ 0 → policyItem s ≠ 0 → itemResident s (policyItem s) = false →
      exec .freezeTimeout s = .next (postEvent .device 0x05F5 0x20 2 (dataAt 24 (policyItem s)) s)))

/-- Line packets and frames of the Headwater link (R212, R218 to R222, R228, R229): the checks in their order, and what an
accepted line, a frame's start and its end do. -/
def Obligations.HeadwaterFrames : Prop :=
  ∀ (s : State) (a : Nat),
    (∀ bs, exec (.hwlLinePacket a bs) s = .next (bs.foldl (lineBlock a) s)) ∧
    (∀ b p t u, hwlReceives s a = true → takeBlock a b s = (.control 0x78 p, t) → notIdle a (abandonPacket a 3 t) = u →
      exec (.hwlLinePacket a [b]) s = .next (setLane 0 a { laneOf u 0 a with packet := some ((payloadBytes p).drop 1, []) } u)) ∧
    (∀ b p t u st data, hwlReceives s a = true → takeBlock a b s = (.data p, t) → dataArrives a (notIdle a t) = u →
      (laneOf u 0 a).packet = some (st, data) → exec (.hwlLinePacket a [b]) s =
        .next (setLane 0 a { laneOf u 0 a with packet := some (st, data ++ payloadBytes p) } u)) ∧
    (∀ b p t u st data k w x, hwlReceives s a = true → takeBlock a b s = (.control 0x87 p, t) → notIdle a t = u →
      (laneOf u 0 a).packet = some (st, data) → packetOf st data ((payloadBytes p).drop 1) = k → data.length = 8 * k.dataBlocks →
      setLane 0 a { laneOf u 0 a with packet := none } u = w →
      (k.fits w.hwl.planes = false → exec (.hwlLinePacket a [b]) s =
        .next (noteFailure k.plane k.line 3 (setFlag Flag.HWL_fmt_err w))) ∧
      (k.fits w.hwl.planes = true → (hwView w).enabled (16 + k.plane) = false → exec (.hwlLinePacket a [b]) s =
        .next (setFlag Flag.HWL_plane_off w)) ∧
      (k.fits w.hwl.planes = true → (hwView w).enabled (16 + k.plane) = true → w.hwl.frame = none →
        exec (.hwlLinePacket a [b]) s = .next (setFlag Flag.HWL_pkt_err w)) ∧
      (∀ f, k.fits w.hwl.planes = true → (hwView w).enabled (16 + k.plane) = true → w.hwl.frame = some f → f.open_ = true →
        { w with hwl := { w.hwl with frame := some (brought a k.plane k.line f) } } = x →
        (k.frameLo ≠ f.lo → exec (.hwlLinePacket a [b]) s =
          .next (noteFailure k.plane k.line 3 (setFlag Flag.HWL_pkt_err x))) ∧
        (k.frameLo = f.lo → deadlinePassed x (brought a k.plane k.line f) k.plane k.line = true →
          exec (.hwlLinePacket a [b]) s = .next (setFlag Flag.HWL_pkt_err x)) ∧
        (k.frameLo = f.lo → deadlinePassed x (brought a k.plane k.line f) k.plane k.line = false →
          crc32c (k.startBytes ++ k.data) ≠ k.crc → exec (.hwlLinePacket a [b]) s =
            .next (noteFailure k.plane k.line 1 (setFlag Flag.HWL_crc_err x))) ∧
        (k.frameLo = f.lo → deadlinePassed x (brought a k.plane k.line f) k.plane k.line = false →
          crc32c (k.startBytes ++ k.data) = k.crc → f.has k.plane k.line = true → exec (.hwlLinePacket a [b]) s =
            .next (setFlag Flag.HWL_dup x)) ∧
        (k.frameLo = f.lo → deadlinePassed x (brought a k.plane k.line f) k.plane k.line = false →
          crc32c (k.startBytes ++ k.data) = k.crc → f.has k.plane k.line = false → exec (.hwlLinePacket a [b]) s =
            .next (acceptLine a k (brought a k.plane k.line f) x)))) ∧
    (∀ h lo hi b p t u, hwlReceives s a = true → wireOf h lo hi = b → takeBlock a b s = (.control 0x33 p, t) →
      notIdle a (abandonPacket a 3 t) = u →
      (∀ f, u.hwl.frame = some f → f.open_ = true → f.lo = payloadByte p 2 → inSet f.mask a = true → f.starts.contains a = false →
        exec (.frameStart a h lo hi false) s = .next { wakeSource u with hwl := { (wakeSource u).hwl with
          frame := (wakeSource u).hwl.frame.map (fun f => { f with starts := a :: f.starts }) } }) ∧
      (joinsFrame u a (payloadByte p 2) = false → inSet (hwlMask u) a = true → exec (.frameStart a h lo hi false) s =
        .next (openFrame a (payloadByte p 2) (bitsAt p.toNat 32 32) (wakeSource (idleTrigger u))))) ∧
    (∀ h lo hi b p t u, hwlReceives s a = true → wireOf h lo hi = b → takeBlock a b s = (.control 0x4B p, t) →
      notIdle a (abandonPacket a 3 t) = u →
      (u.hwl.frame = none → exec (.frameEnd a h lo hi) s = .next (setFlag Flag.HWL_pkt_err u)) ∧
      (∀ f, u.hwl.frame = some f → f.open_ = true → f.lo = payloadByte p 2 → f.ended = [] → lanesOf f.mask = [a] →
        exec (.frameEnd a h lo hi) s = .next (followResume (closeFrame (patchReceiving
          { u with hwl := { u.hwl with frame := some { f with ended := [a] } } }))))) ∧
    (∀ pl y c, s.comp.cur = some c → pl ≤ 1 → y ∈ linesOf s pl → y + (viewOf s).planeY pl < panelH s →
      y + (viewOf s).planeY pl ≤ c.next → exec (.lineDeadline pl y) s = .next (followResume (patchLine pl 2 s y)))

/-- The reference inputs and the host's time (R175, R239 to R242, R260, R268): an edge, a loss, a message and a second edge,
each with its effect; TIME_STAMP and TIME_SET. -/
def Obligations.TimeAndReference : Prop :=
  (∀ s : State,
    (∀ g k, inputsLive s = true → refPeriod s ≠ 0 → s.raster.lock.lost = false → s.raster.lock.sinceEdge = none →
      exec (.refFrameEdge g k) s = .next (acceptEdge k true (recordGap g s))) ∧
    (∀ g k, inputsLive s = false → exec (.refFrameEdge g k) s = .next s) ∧
    (inputsLive s = true → s.raster.lock.lost = false → s.raster.lock.sinceEdge.isSome = true → refPeriod s ≠ 0 →
      ∃ t, exec .refFrameLost s = .next t ∧ t.raster.lock.lost = true ∧ t.fuses = s.fuses) ∧
    (inputsLive s = true → 2 ≤ lockMode s → s.raster.lock.lost10m = false → RegsCanonical s → exec .ref10mPresent s =
      .next (setLock { s.raster.lock with lost10m := false } (wrF Reg.RAST_STAT Fld.RAST_STAT_on_10m 1
        (wrF Reg.RAST_STAT Fld.RAST_STAT_ref10m_present 1 s)))) ∧
    (inputsLive s = true → rdB s Reg.RAST_STAT Fld.RAST_STAT_ref10m_present = true → lockMode s < 2 → RegsCanonical s → exec .ref10mLost s =
      .next (wrF Reg.RAST_STAT Fld.RAST_STAT_ref10m_present 0 s)) ∧
    (∀ m ms, inputsLive s = true → m.length = 24 → leAt m 0 2 = 0x5AA5 → todFault m ms = none → exec (.refTodMessage m ms) s =
      .next (setLock { s.raster.lock with tod := some (leAt m 4 6) } s)) ∧
    (∀ m ms r, inputsLive s = true → m.length = 24 → leAt m 0 2 = 0x5AA5 → todFault m ms = some r → exec (.refTodMessage m ms) s =
      .next (postEvent .device 0x0CF5 0x70 1 (dataAt 24 r) (setFlag Flag.RAST_tod_bad s))) ∧
    (inputsLive s = true → s.raster.lock.tod = none → ∃ t, exec .refPpsEdge s = .next t ∧ t.timeBase = s.timeBase ∧
      (RegsCanonical s → rdB t Reg.RAST_STAT Fld.RAST_STAT_pps_present = true)) ∧
    (∀ x, inputsLive s = true → s.raster.lock.tod = some x → ∃ t, exec .refPpsEdge s = .next t ∧ t.timeBase = { sec := x } ∧
      t.raster.lock.tod = none) ∧
    (inputsLive s = true → rdB s Reg.RAST_STAT Fld.RAST_STAT_pps_present = true → exec .refPpsLost s =
      .next (postEvent .device 0x0CF0 0x70 2 (dataAt 24 2)
        (wrF Reg.RAST_STAT Fld.RAST_STAT_hfn_valid 0 (wrF Reg.RAST_STAT Fld.RAST_STAT_pps_present 0 s)))) ∧
    (inputsLive s = false → exec .refFrameLost s = .next s ∧ exec .refPpsLost s = .next s)) ∧
  (∀ (s : State) (p q n : Nat) (d : Dsc),
    (∀ t, readyDsc s p q n 0x0C03 = some d → d.u64 24 = 0 → s.raster.stamps.head? = some t → d.u8 16 = 0 →
      exec (.timeStamp p q n) s = .next (complete d .ok t.sfn (BitVec.ofNat 96 (ofLe t.flip.bytes)) s)) ∧
    (readyDsc s p q n 0x0C03 = some d → s.raster.stamps = [] → exec (.timeStamp p q n) s =
      .next (complete d .late (d.u64 24) 0 s)) ∧
    (readyDsc s p q n 0x0C04 = some d → rdB s Reg.RAST_STAT Fld.RAST_STAT_tod_valid = false → exec (.timeSet p q n) s =
      .next (completeI d .ok 0 { s with timeBase := { sec := d.get 16 6, ns := d.u32 24 }, fresh := s.fresh + 1 })) ∧
    (readyDsc s p q n 0x0C04 = some d → rdB s Reg.RAST_STAT Fld.RAST_STAT_tod_valid = true → exec (.timeSet p q n) s =
      .next (complete d .refused 0 (resAt 16 0x70) s)))

/-- Scan frames, scan lines and the composition timeline (R245, R254, R255, R262 to R267, R272, R286 to R292, R416, R509,
R575); the lines that the reads between two composition lines correct come with the line start (log entry 165). -/
def Obligations.Timelines : Prop :=
  ∀ s : State,
    (∀ ds u, planeOn s 0 = false → compClocked s = true → s.raster.phase = .running → endFrame (applyWaiting s) = u → u.comp.h1Waiting = false →
      u.comp.waiting = [] → exec (.compositionFrameStart ds) s =
        .next (startFrame false (some (noSupply u)) u.raster.timerLag u)) ∧
    (∀ k ks f u, planeOn s 0 = false → compClocked s = true → s.raster.phase = .running → endFrame (applyWaiting s) = u →
      u.comp.h1Waiting = true → u.comp.waiting = [] → u.hwl.frame = some f → f.lead ≤ k → exec (.compositionFrameStart (k :: ks)) s = .next
        (startFrame false none u.raster.timerLag { u with comp := { u.comp with waiting := [], h1Waiting := false } })) ∧
    (∀ k ks f u, planeOn s 0 = false → compClocked s = true → s.raster.phase = .running → endFrame (applyWaiting s) = u →
      u.comp.h1Waiting = true → u.comp.waiting = [] → u.hwl.frame = some f → k < f.lead → exec (.compositionFrameStart (k :: ks)) s =
        .next (startFrame false (some (noSupply u)) u.raster.timerLag u)) ∧
    (∀ c k, s.comp.cur = some c → compClocked s = true → panelH s < c.next → exec (.compositionLineStart ⟨k, 0, []⟩) s = .next (followResume
      (wrF Reg.RAST_LAG_STAT Fld.RAST_LAG_STAT_d (min (if c.fromHwl then k else c.lag) 4095)
        { s with comp := { s.comp with cur := some { c with next := c.next + 1 } } }))) ∧
    (∀ c, s.comp.cur = some c → c.latchLine < c.next → exec .latchInstant s = .next (latch s)) ∧
    (∀ i pl y bs f c, i < 16 → pl < 3 → (viewOf s).kind i = 2 → (frameLayer s i).current = some f → s.comp.cur = some c →
      servedLine (viewOf s) i pl y + (viewOf s).field (Reg.COMP_Ln_POS i) Fld.COMP_Ln_POS_y ≤ c.next + 255 →
      exec (.liveFetchDone i pl y false (some bs)) s = .next (monitorAdd (hostOf s 1 i) bs.length (countEvent 0x30 0x11 1
        (setFrameLayer i { frameLayer s i with lines := tabSet (fun _ => []) (frameLayer s i).lines (16384 * pl + y) bs } s)))) ∧
    (∀ i pl y bs c, s.comp.cur = some c → c.next + 255 <
        servedLine (viewOf s) i pl y + (viewOf s).field (Reg.COMP_Ln_POS i) Fld.COMP_Ln_POS_y →
      exec (.liveFetchDone i pl y false bs) s = .next s) ∧
    (∀ p q n d ls, dscOf s p q n = some d → (layerOf s (d.u8 16)).fetching = some (p, q, n) → d.phase = .running →
      fetchTurn s p (d.u8 16) = true → exec (.snapshotFetchDone p q n (some ls)) s = .next (arrive d (monitorAdd p
        (ls.foldl (fun a e => a + e.2.length) 0)
        (setLayer (d.u8 16) { layerOf s (d.u8 16) with fetched := planeTab ls } s)))) ∧
    (∀ p q n d, dscOf s p q n = some d → (layerOf s (d.u8 16)).fetching = some (p, q, n) → d.phase = .running →
      fetchTurn s p (d.u8 16) = true → exec (.snapshotFetchDone p q n none) s = .next (leaveGroup d .fetchFault 0
        (postEvent (.resource (hostOf s 1 (d.u8 16))) 0x02F0 0x30 2 (dataAt 24 (d.u8 16) ||| dataAt 28 d.tag)
          (setFlag Flag.COMP_fetch_fault (freeTag .layer (layerTag (d.u8 16) true)
            (setLayer (d.u8 16) { layerOf s (d.u8 16) with fetching := none } s)))))) ∧
    (s.raster.phase = .training → sluiceTrains s = false → leadIn s ≤ s.raster.line → exec .scanFrameStart s =
      .next (endSequence (startScanFrame { s with raster := { s.raster with phase := .running } }))) ∧
    (s.raster.phase = .running → s.raster.irregular = false → vtotal s ≤ s.raster.line → exec .scanFrameStart s =
      .next (startScanFrame (endScanFrame s))) ∧
    (s.raster.phase = .toBlack → s.raster.irregular = false → vtotal s ≤ s.raster.line → exec .scanFrameStart s =
      .next (startBlack (endScanFrame s))) ∧
    (s.raster.phase = .running → s.raster.line < linesNow s → ∃ t, exec .scanLineStart s = .next t ∧
      t.raster.line = s.raster.line + 1 ∧ t.raster.frac < 65536 ∧ t.sfn = s.sfn ∧ t.boot = s.boot ∧ t.fuses = s.fuses) ∧
    (∀ k m ks f g u, planeOn s 0 = false → compClocked s = true → s.raster.phase = .running → endFrame (applyWaiting s) = u →
      u.comp.h1Waiting = false → u.comp.waiting = [f, g] → k < f.lead → g.lead ≤ m →
      exec (.compositionFrameStart (k :: m :: ks)) s = .next (startFrame false (some g) u.raster.timerLag
        { u with comp := { u.comp with waiting := [f], h1Waiting := false } })) ∧
    (∀ ds, compClocked s = false → exec (.compositionFrameStart ds) s = .next s) ∧
    (∀ r, compClocked s = false → exec (.compositionLineStart r) s = .next s) ∧
    (∀ c k n, s.comp.cur = some c → compClocked s = true → exec (.compositionLineStart ⟨k, n, []⟩) s =
      exec (.compositionLineStart ⟨k, 0, []⟩) (corrected n s)) ∧
    (∀ n, RegsCanonical s → (rd s Reg.RSV_CORRECTED).toNat + n < 2 ^ 32 →
      (rd (corrected n s) Reg.RSV_CORRECTED).toNat = (rd s Reg.RSV_CORRECTED).toNat + n)

/-- Tiles (R342, R354, R357, R360 to R362): dispatch, completion, retirement, and the deadlines. -/
def Obligations.TileCommands : Prop :=
  ∀ (s : State) (c x y : Nat),
    (∀ nx f sh, scanning s = true → c ≠ 2 → s.pipe.reruns = [] →
      (nx = false ∧ sh = s.raster.shown ∨ nx = true ∧ s.hold.play = none ∧ predicted s f = true ∧ sh = .composed f) →
      (tileCould s c x y nx sh = true → tileWaits s c x y nx sh = false → (nx = true → frameFirst s c y = false) → rdF s Reg.PERF_STAT Fld.PERF_STAT_tag_k = 0 →
        exec (.tileDispatch c x y nx f) s = .next (startJob (if c = 1 then 1 else 0) (tileJob s c x y nx sh) 1 s)) ∧
      ((tileCould s c x y nx sh && !tileWaits s c x y nx sh && !(nx && frameFirst s c y)) = false →
        exec (.tileDispatch c x y nx f) s = .next s)) ∧
    (∀ f nx, scanning s = true → exec (.tileDispatch 2 x y nx f) s = .next (dispatchFrame x (serveReruns s))) ∧
    (∀ j, runningJob s c x y = some j → (chainSteps c).length ≤ j.at_ → c ≠ 2 → referenceReads s j = [] → exec (.tileComplete c x y) s =
      .next (noteSlack (j.engine / 64) (deadlineLine s (decide (j.sfn ≠ sfn s)) c y - s.raster.line).toNat
        (setJob { j with completed := true } s))) ∧
    (∀ j, s.pipe.jobs = [j] → j.cell = c → j.tc = x → j.tr = y → j.sfn = sfn s → j.completed = true → scanning s = true →
      windowClosed s c = false → keyHolds s j = true → exec (.tileRetire c x y) s = .next (serveReruns (retireJob j s))) ∧
    (∀ j, s.pipe.jobs = [j] → j.cell = c → j.tc = x → j.tr = y → j.sfn = sfn s → j.completed = true → scanning s = true →
      windowClosed s c = false → keyHolds s j = false → exec (.tileRetire c x y) s = .next (serveReruns (discardJob j s))) ∧
    (∀ j, scanning s = true → tileExists s c x y = true → tileDone s c x y = false → s.pipe.jobs = [j] → j.cell = c →
      j.tc = x → j.tr = y → j.sfn = sfn s → j.completed = false → exec (.tileDeadline c x y false) s =
        .next (serveReruns (fallJob j (deadlineCause (stopEngine j.engine 0 s) c j.rerun) j.engine
          (dropJob j (stopEngine j.engine 0 s))))) ∧
    (∀ j, runningJob s c x y = some j → rdF s Reg.ENG_DEADLINE Fld.ENG_DEADLINE_warn ≠ 0 →
      j.group = [] → (engineOf s j.engine).running = true → (engineOf s j.engine).dwarn = false → exec (.deadlineWarning c x y) s =
        .next (setEngine j.engine { engineOf s j.engine with dwarn := true, dwarnPend := true } s)) ∧
    (scanning s = true → s.pipe.nextZones = none → s.pipe.jobs = [] → s.pipe.reruns = [] → exec .stage6Deadline s = .next (setFlag Flag.BKL_zone_late
      { s with pipe := { s.pipe with nextZones := some s.pipe.zones, nextDimming := s.pipe.dimming, pubZones := s.pipe.zones } })) ∧
    (windowClosed s c = true → exec (.tileRetire c x y) s = .next s) ∧
    (∀ j, scanning s = true → tileExists s c x y = true → tileDone s c x y = false → s.pipe.jobs = [] → s.pipe.reruns = [j] →
      j.cell = c → j.tc = x → j.tr = y → j.sfn = sfn s → exec (.tileDeadline c x y false) s =
        .next (fallJob j (if windowClosed s c then 3 else 2) j.engine { s with pipe := { s.pipe with reruns := [] } })) ∧
    (scanning s = true → tileExists s c x y = true → tileDone s c x y = false → s.pipe.jobs = [] → s.pipe.reruns = [] →
      exec (.tileDeadline c x y false) s = .next (fallBack false c x y (if windowClosed s c then 3 else 0)
        (firstEngine s (if c = 1 then 1 else 0)) s)) ∧
    (∀ j w ws, runningJob s c x y = some j → (chainSteps c).length ≤ j.at_ → referenceReads s j = w :: ws →
      exec (.tileComplete c x y) s = .next (if (meetErrors j.engine j.engine (w :: ws) s).1 = true then
        (meetErrors j.engine j.engine (w :: ws) s).2 else completeJob j (meetErrors j.engine j.engine (w :: ws) s).2))

/-- The events of an engine and of its mover (R362, R367, R382, R397 to R399, R403, R405), what a read that meets an error does
(R370), same-cycle writes of the two ports (R369), and patrol (R371 to R373). -/
def Obligations.EngineEvents : Prop :=
  ∀ (s : State) (e : Nat),
    ((engineOf s e).running = true → exec (.maxCyclesExpiry e) s = .next (serveReruns (fallEngine e 1 (stopEngine e 1 s)))) ∧
    (∀ r q, e < 32 → compClocked s = true → (clusterOf s e).queue = r :: q → r.input = false → r.window ≠ 4 → exec (.moverRequestDone e) s =
      .next (moverWrites e r (finishRequest e r s))) ∧
    (∀ r q, e < 32 → compClocked s = true → (clusterOf s e).queue = r :: q → r.input = false → r.window = 4 →
      (∀ x ∈ r.words, wrongBits s (r.engine / 8) x = 0) → exec (.moverRequestDone e) s = .next (finishRequest e r s)) ∧
    (∀ i r n, (clusterOf s e).queue[i]? = some r → r.starved = false →
      max 1 (rdF s Reg.ENG_MOVER Fld.ENG_MOVER_starve) ≤ n → exec (.moverStarve e i n) s =
        .next (postEvent .device 0x04F3 (0xC0 + e) 1 (dataAt 24 e ||| dataAt 28 (n % 2 ^ 32))
          (bumpSat (Reg.ENG_Cc_MOVER e) Fld.ENG_Cc_MOVER_starved 1 (setFlag (Flag.ENG_mover_starve (0xC0 + e))
            (setCluster e { clusterOf s e with queue := (clusterOf s e).queue.set i { r with starved := true } } s))))) ∧
    (∀ k entry, (engineOf s e).running = true → (engineOf s e).stall = .free → compClocked s = true →
      runningKernel s e = some k → handlerDue k (engineOf s e) = some (entry, true) → exec (.handlerEntry e) s =
        .next (setEngine e { engineOf s e with
          epc := (engineOf s e).pc % 16384, inh := true, pc := entry, stall := .free, dwarnPend := false } s)) ∧
    (∀ k entry m, (engineOf s e).running = true → (engineOf s e).stall = .waiting m → compClocked s = true →
      runningKernel s e = some k → handlerDue k (engineOf s e) = some (entry, false) → exec (.handlerEntry e) s =
        .next (setEngine e { engineOf s e with
          epc := (engineOf s e).pc % 16384, inh := true, pc := entry, stall := .free, mdonePend := false } s)) ∧
    (∀ id, (engineOf s e).stall = .barrier id → barrierGroup s e = [e] → exec (.barrierRelease e) s =
      .next (setEngine e { engineOf s e with stall := .free, pc := (engineOf s e).pc + 4 } s)) ∧
    (∀ m, (engineOf s e).stall = .waiting m → waitHolds (engineOf s e) m = true → exec (.waitRelease e) s =
      .next (setEngine e { engineOf s e with stall := .free, pc := (engineOf s e).pc + 4 } s)) ∧
    (∀ j t, (engineOf s e).running = true → (engineOf s e).stall = .halting → (engineOf s e).tags = 0 → jobOf s e = some j →
      j.group = [] → j.engine = e → tabWf (fun _ => ({} : Engine)) s.array.engines = true →
      setEngine e { engineOf s e with running := false } s = t → (∀ x ∈ outputWords t j, wrongBits t (e / 8) x = 0) →
      exec (.stageEnd e) s = .next (endJobStage j t)) ∧
    (∀ w, nextWord s e = some (some w) → eddyDecode e w = none → exec (.instructionUndefined e) s =
      .next (kernelFault e 1 s)) ∧
    (nextWord s e = some none → exec (.instructionUndefined e) s = .next (kernelFault e 2 s)) ∧
    (∀ w, e < 32 → compClocked s = true → rdB s Reg.ENG_CTRL Fld.ENG_CTRL_patrol_en = true → (clusterOf s e).aborted = [] →
      (clusterOf s e).region < 1535 → tabWf (fun _ => ({} : Cluster)) s.array.clusters = true →
      exec (.patrolVisit e false 0 w [] []) s = .next (setCluster e { clusterOf s e with
        region := (clusterOf s e).region + 1, passLeft := (clusterOf s e).passLeft.map (· - 1) } s)) ∧
    (∀ b w, e < 32 → compClocked s = true → rdB s Reg.ENG_CTRL Fld.ENG_CTRL_patrol_en = true → (clusterOf s e).aborted = [] →
      (clusterOf s e).region < 1535 → tabWf (fun _ => ({} : Cluster)) s.array.clusters = true →
      ∃ t, exec (.patrolVisit e true b w [] []) s = .next t ∧ clusterOf t e = { clusterOf s e with
        region := (clusterOf s e).region + 1, aborted := [((clusterOf s e).region, 5, 1)] }) ∧
    (∀ x, wrongBits s (e / 8) x = 1 → patrolOn s (e / 8) = false → ∀ f : State → State, eccAccess e [x] f s =
      f (bumpSat (Reg.ENG_Cc_ECC (e / 8)) Fld.ENG_Cc_ECC_corrected 1 (setWrong (e / 8) x 0 s))) ∧
    (∀ x, 2 ≤ wrongBits s (e / 8) x → patrolOn s (e / 8) = false → hasCopy s e x = false → ∀ f : State → State,
      eccAccess e [x] f s = abandonJob e (meetDouble e (e / 8) s x)) ∧
    (∀ bs, 4 ≤ e % 8 → clashes (clusterOf s (e / 8)).portA bs = [] → eaWrite e bs s = eaStore e bs s) ∧
    (∀ bs lost, 4 ≤ e % 8 → clashes (clusterOf s (e / 8)).portA bs = lost → lost ≠ [] →
      eaWrite e bs s = eaStore e bs { s with fresh := s.fresh + 1 } ∨ eaWrite e bs s = loseWrites e lost.length
        (eaStore e (bs.filter (fun b => !lost.contains (b.1 / 8))) { s with fresh := s.fresh + 1 })) ∧
    (∀ r q, e < 32 → compClocked s = true → (clusterOf s e).queue = r :: q → r.input = true → exec (.moverRequestDone e) s =
      .next (finishFetch e r s)) ∧
    (∀ b w f, e < 32 → patrolOn s e = false → exec (.patrolVisit e b 1 w [f] []) s = .next (spoilWords e [(8, f)] s))

/-- The scrubber and the region sizes of the Reservoir (R413, R416 to R418). -/
def Obligations.ReservoirUpkeep : Prop :=
  ∀ s : State,
    (∀ r l, rdB s Reg.RSV_STAT Fld.RSV_STAT_scrubbing = true → panelPowered s = true → s.rsv.scrubbed + 1 < 268435456 →
      exec (.rsvScrubRead r l 0) s = .next { s with rsv := { s.rsv with scrubbed := s.rsv.scrubbed + 1 } }) ∧
    (∀ r l, rdB s Reg.RSV_STAT Fld.RSV_STAT_scrubbing = true → panelPowered s = true → s.rsv.scrubbed + 1 < 268435456 →
      exec (.rsvScrubRead r l 1) s = .next (countEvent 0x50 0x12 1 (bumpSat Reg.RSV_CORRECTED (0, 32) 1 (setFlag Flag.RSV_corrected
        { s with rsv := { s.rsv with scrubbed := s.rsv.scrubbed + 1 } })))) ∧
    (∀ r l, rdB s Reg.RSV_STAT Fld.RSV_STAT_scrubbing = true → panelPowered s = true → r ≤ 5 →
      exec (.rsvScrubRead r l 2) s = .next (tellBad r 2 l (spoil r l (nextScrub s)))) ∧
    (∀ p (v : Word), ownerWrites s p = true → ready s = false →
      128 ≤ rdF (writeRwl Reg.RSV_ALLOC1 v s) Reg.RSV_ALLOC1 Fld.RSV_ALLOC1_tables →
      rdF (writeRwl Reg.RSV_ALLOC1 v s) Reg.RSV_ALLOC0 Fld.RSV_ALLOC0_demura +
        rdF (writeRwl Reg.RSV_ALLOC1 v s) Reg.RSV_ALLOC0 Fld.RSV_ALLOC0_layer +
        rdF (writeRwl Reg.RSV_ALLOC1 v s) Reg.RSV_ALLOC1 Fld.RSV_ALLOC1_hold +
        rdF (writeRwl Reg.RSV_ALLOC1 v s) Reg.RSV_ALLOC1 Fld.RSV_ALLOC1_tables ≤ 12840 →
      exec (.rsvAllocWrite p 1 v) s = .next (writeRwl Reg.RSV_ALLOC1 v s)) ∧
    (∀ p (v : Word), ownerWrites s p = true → ready s = false →
      rdF (writeRwl Reg.RSV_ALLOC1 v s) Reg.RSV_ALLOC1 Fld.RSV_ALLOC1_tables < 128 →
      exec (.rsvAllocWrite p 1 v) s = .next (setFlag Flag.RSV_cfg_err s)) ∧
    (∀ p (v : Word), ownerWrites s p = true → ready s = false →
      128 ≤ rdF (writeRwl Reg.RSV_ALLOC0 v s) Reg.RSV_ALLOC1 Fld.RSV_ALLOC1_tables →
      rdF (writeRwl Reg.RSV_ALLOC0 v s) Reg.RSV_ALLOC0 Fld.RSV_ALLOC0_demura +
        rdF (writeRwl Reg.RSV_ALLOC0 v s) Reg.RSV_ALLOC0 Fld.RSV_ALLOC0_layer +
        rdF (writeRwl Reg.RSV_ALLOC0 v s) Reg.RSV_ALLOC1 Fld.RSV_ALLOC1_hold +
        rdF (writeRwl Reg.RSV_ALLOC0 v s) Reg.RSV_ALLOC1 Fld.RSV_ALLOC1_tables ≤ 12840 →
      exec (.rsvAllocWrite p 0 v) s = .next (writeRwl Reg.RSV_ALLOC0 v s))

/-- The Sluice link (R464 to R478): line packets, driver configuration, and the back-channel: what a good frame does, the one
retry of a reply that is missing or fails its CRC (R472, R473), and no request while a lane of the line is in FAST_RETRAIN (R475).
A ROLL slot is asked for again with the next ROLL: the model's choice, log entry 153. -/
def Obligations.SluiceLink : Prop :=
  ∀ (s : State) (a : Nat),
    (∀ y o vs, laneIs s 1 a Lane.active = true → carriesSegment s a = true → scanning s = true → a ≤ 127 → y < panelH s →
      packetLine s (laneCell a) y false = some vs → offsetFits s a o = true → ∀ i, ∃ t bs,
        exec (.slkLinePacket a y ⟨o, i⟩ false false) s = .next t ∧
        Out.sluice a 0x78 (lineStart s (laneCell a) y (sfn s) false false) ∈ t.out ∧ Out.wire a bs ∈ t.out ∧
        bs.length = i + packetBlocks s + 2 ∧ t.sfn = s.sfn ∧ t.boot = s.boot ∧ t.fuses = s.fuses) ∧
    (∀ ad v r i out, (laneOf s 1 a).cfgQueue = (ad, v) :: r → 16 ≤ ad → laneIs s 1 a Lane.active = true → s.raster.phase = .off →
      s.raster.driven = true → s.slk.dcfg = [] → (leBytes 1 ad ++ leBytes 4 v ++ leBytes 1 ((laneOf s 1 a).cfgSeq % 256)) ++
        [BitVec.ofNat 8 (crc8 (BitVec.ofNat 8 0x99 :: leBytes 1 ad ++ leBytes 4 v ++
          leBytes 1 ((laneOf s 1 a).cfgSeq % 256)))] = out →
      exec (.cfgWrite ⟨a, i⟩) s = .next (sendBlocks a i [controlOf 0x99 out] (emit (.sluice a 0x99 out)
        (setLane 1 a { laneOf s 1 a with
          cfgQueue := r, cfgSeq := (laneOf s 1 a).cfgSeq + 1, cfgSent := (laneOf s 1 a).cfgSent ++ [(ad, v)] } s)))) ∧
    (∀ p (v : Word), ownerWrites s p = true → field v 0 1 = 1 → resultBusy s Reg.SLK_DCFG_RESULT = false →
      rdB s Reg.SLK_DCFG_ADDR Fld.SLK_DCFG_ADDR_read = false → rdF s Reg.SLK_DCFG_ADDR Fld.SLK_DCFG_ADDR_address = 0 →
      exec (.slkDcfgGo p v) s = .next (setFlag Flag.SLK_cfg_err s)) ∧
    (∀ p (v : Word), ownerWrites s p = true → field v 0 1 = 1 → resultBusy s Reg.SLK_DCFG_RESULT = false →
      16 ≤ rdF s Reg.SLK_DCFG_ADDR Fld.SLK_DCFG_ADDR_address → dcfgMask s = [] → exec (.slkDcfgGo p v) s =
        .next (resultEnd Reg.SLK_DCFG_RESULT 1 (resultBegin Reg.SLK_DCFG_RESULT [Reg.SLK_DCFG_RDATA] s))) ∧
    (∀ p (v : Word), ownerWrites s p = true → field v 0 1 = 1 → resultBusy s Reg.SLK_DCFG_RESULT = false →
      rdB s Reg.SLK_DCFG_ADDR Fld.SLK_DCFG_ADDR_read = false → 16 ≤ rdF s Reg.SLK_DCFG_ADDR Fld.SLK_DCFG_ADDR_address →
      dcfgMask s = [a] → laneIs s 1 a Lane.active = true → RegsCanonical s → ∃ t, exec (.slkDcfgGo p v) s = .next t ∧
        t.slk.dcfg = [a] ∧ resultBusy t Reg.SLK_DCFG_RESULT = true ∧
        (tabWf (fun _ => ({} : LaneState)) s.lanes.lane = true → (laneOf t 1 a).cfgQueue = (laneOf s 1 a).cfgQueue ++
          [(rdF s Reg.SLK_DCFG_ADDR Fld.SLK_DCFG_ADDR_address, (rd s Reg.SLK_DCFG_DATA).toNat)])) ∧
    (∀ p (v : Word), ownerWrites s p = true → field v 0 1 = 1 → resultBusy s Reg.SLK_DCFG_RESULT = false →
      rdB s Reg.SLK_DCFG_ADDR Fld.SLK_DCFG_ADDR_read = true → dcfgMask s = [a] → laneIs s 1 a Lane.active = true →
      exec (.slkDcfgGo p v) s = .next (askDriver
        { lane := a, cmd := 2, args := leBytes 1 (rdF s Reg.SLK_DCFG_ADDR Fld.SLK_DCFG_ADDR_address), dsc := none, dcfg := true }
        (resultBegin Reg.SLK_DCFG_RESULT [Reg.SLK_DCFG_RDATA] s))) ∧
    (∀ b rs, b ≤ 7 → bcFree s b = true → laneIs s 1 (16 * b) Lane.prbs = true → exec (.roll b rs) s =
      .next ((bcLanes b).foldl (fun s n => match rs.getD (n % 16) none with
        | some r => if crc8 [BitVec.ofNat 8 r.1, BitVec.ofNat 8 r.2.1] = r.2.2 then rollReport n r.1 r.2.1 s
          else slotMissed n true s
        | none => slotMissed n false s) (emit (.backChannel b 15 0 [0xF0, BitVec.ofNat 8 (crc8 [0xF0])]) s))) ∧
    (a ≤ 127 → bcFree s (a / 16) = true → laneIs s 1 a Lane.active = true → exec (.statusPoll a) s =
      .next (askDriver { lane := a, cmd := 1, args := [], dsc := none } s)) ∧
    (∀ b q bs, oldestBc s b = some q → q.held = false → bs.length = replyLength q.cmd →
      exec (.bcReply b (replyFrame q bs)) s = .next (takeReply q bs (setBcOk q.lane true (dropBc q s)))) ∧
    (∀ b q c, oldestBc s b = some q → q.held = false → q.again = true →
      exec (.bcReplyTimeout b c) s = .next (failRequest q c s)) ∧
    (∀ b q c, oldestBc s b = some q → q.held = false → q.again = false → exec (.bcReplyTimeout b c) s =
      .next (pumpBc (q.lane / 16) { s with slk := { s.slk with
        bc := s.slk.bc.map (fun x => if x = q then { x with again := true, held := true } else x) } })) ∧
    (∀ b n row, b ≤ 7 → 1 ≤ n → n ≤ 16 → exec (.bcAlertPulse b (950 + 100 * n) row) s =
      .next (driverLoses (16 * b + n - 1) (min (row + 1) (lostRow s (16 * b + n - 1))) s)) ∧
    (∀ f, a ≤ 127 → f < 256 → laneIs s 1 a Lane.fast = true → exec (.relock a (relockFrame a f)) s =
      .next (fastDone 1 a (driverLocks a 3 (setStat 1 a Fld.LANE_STAT_fom f s)))) ∧
    (∀ b q fr, oldestBc s b = some q → q.held = false →
      fr ≠ replyFrame q ((fr.drop 1).take (replyLength q.cmd)) → exec (.bcReply b fr) s = .next (replyMissed q true s)) ∧
    (∀ b q, oldestBc s b = some q → q.held = true → bcFree s b = true → pumpBc b s =
      emit (.backChannel (q.lane / 16) q.cmd (q.lane % 16) (bcFrame q.cmd (q.lane % 16) q.args)) { s with slk := { s.slk with
        bc := s.slk.bc.map (fun x => if x = q then { x with held := false } else x) } }) ∧
    (∀ b, bcFree s b = false → pumpBc b s = s) ∧
    (∀ fr, fr ≠ relockFrame a (leAt fr 1 1) → exec (.relock a fr) s = .next s) ∧
    (laneIs s 1 a Lane.off = false → (laneOf s 1 a).rollAgain = true → ∀ c, slotMissed a c s =
      bcError a c (setLane 1 a { laneOf s 1 a with rollAgain := false } s)) ∧
    (laneIs s 1 a Lane.off = false → (laneOf s 1 a).rollAgain = false → ∀ c, slotMissed a c s =
      setLane 1 a { laneOf s 1 a with rollAgain := true } s)

/-- The backlight link and the panel's temperature sensors (R319 to R323, R339). -/
def Obligations.BacklightLink : Prop :=
  ∀ (s : State) (k : Nat),
    (∀ a b, controllerOn s k = true → a < 36 → b < 36 → scanningMode s = true → exec (.bklStrobe k a b) s =
      .next (setFlag Flag.BKL_strobe_merge (noteStrobe k a b (countEvent 0x78 0x10 1 (emit (.spi k
        ([2, BitVec.ofNat 8 a, BitVec.ofNat 8 b] ++ [BitVec.ofNat 8 (crc8 [2, BitVec.ofNat 8 a, BitVec.ofNat 8 b])])) s))))) ∧
    (∀ a, controllerOn s k = true → a < 36 → exec (.bklStrobe k a 255) s =
      .next (noteStrobe k a 255 (countEvent 0x78 0x10 1 (emit (.spi k ([2, BitVec.ofNat 8 a, 255#8] ++
        [BitVec.ofNat 8 (crc8 [2, BitVec.ofNat 8 a, 255#8])])) s)))) ∧
    (∀ r f b u, linkOn s k = true → r < 36 → zonesOf s f = some b → dataTurn s k r f = true →
      { s with pipe := { s.pipe with dataFor := tabSet (fun _ => 0) s.pipe.dataFor (64 * k + r) f } } = u →
      exec (.zoneData k r f true) s = .next (spiFrame k
        ([1, BitVec.ofNat 8 r, BitVec.ofNat 8 (f % 256)] ++ (List.range 16).flatMap (fun j =>
          leBytes 2 (codeOf u (64 * r + 16 * k + j) (tabGet (fun _ => 65535) b (64 * r + 16 * k + j)))))
        { u with fresh := u.fresh + 2304 })) ∧
    (∀ r f b u, linkOn s k = true → r < 36 → zonesOf s f = some b → dataTurn s k r f = true →
      { s with pipe := { s.pipe with dataFor := tabSet (fun _ => 0) s.pipe.dataFor (64 * k + r) f } } = u →
      exec (.zoneData k r f false) s = .next (postEvent .device 0x0CF9 0x78 1
        (dataAt 24 k ||| dataAt 25 r ||| dataAt 28 (f % 256)) (setFlag Flag.BKL_spi_late u))) ∧
    (∀ st c, linkOn s k = true → dataWaits s k = false → s.pipe.statusSent.contains k = false → crc8 [BitVec.ofNat 8 (st % 256), 0] ≠ c →
      exec (.bklStatus k st c) s = .next (setFlag Flag.BKL_crc_err (countEvent 0x78 0x10 1 (emit (.spi k [4, 0])
        { s with pipe := { s.pipe with statusSent := k :: s.pipe.statusSent } })))) ∧
    (linkOn s k = true → dataWaits s k = false → s.pipe.statusSent.contains k = false → exec (.bklStatus k 0 (crc8 [0, 0])) s =
      .next (wrF Reg.BKL_DRV_STAT (8 * k, 8) 0 (countEvent 0x78 0x10 1 (emit (.spi k [4, 0])
        { s with pipe := { s.pipe with statusSent := k :: s.pipe.statusSent } })))) ∧
    (∀ rs, s.power.state = .run → rdF s Reg.PIPE_TEMP_CFG Fld.PIPE_TEMP_CFG_sensor_en = 0 → s.pipe.temp = none →
      (∀ n, n < 8 → sensorValid s n = false) → exec (.panelTempPoll rs) s = .next s) ∧
    (∀ v rs, RegsCanonical s → s.power.state = .run → rdF s Reg.PIPE_TEMP_CFG Fld.PIPE_TEMP_CFG_sensor_en = 1 →
      exec (.panelTempPoll (some v :: rs)) s = .next (followTemp (readSensor 0 (some v) (emit (.panelI3c
        (rdF s (Reg.PIPE_TSENSn_CFG 0) Fld.PIPE_TSENSn_CFG_bus) (rdF s (Reg.PIPE_TSENSn_CFG 0) Fld.PIPE_TSENSn_CFG_addr)
        (rdF s (Reg.PIPE_TSENSn_CFG 0) Fld.PIPE_TSENSn_CFG_pointer)) s))))

/-- Scalar instructions (R383, R384): rd takes the result of the s registers or of one and the immediate, which sums and
comparisons sign-extend and logic zero-extends; a jump links pc + 4, a branch whose condition holds adds 4 × off12 to pc,
and a target outside the code faults when it is fetched. The helpers of R384 are what it says. -/
def Obligations.EddyScalars : Prop :=
  (∀ (s : State) (e : Nat) (v : Engine) (rd ra rb : BitVec 5), engineOf s e = v →
    (Issues s (.add e rd ra rb) → exec (.add e rd ra rb) s = .next (goTo e (v.pc + 4) (v.setS rd (v.sreg ra + v.sreg rb)) s)) ∧
    (Issues s (.sub e rd ra rb) → exec (.sub e rd ra rb) s = .next (goTo e (v.pc + 4) (v.setS rd (v.sreg ra - v.sreg rb)) s)) ∧
    (Issues s (.and e rd ra rb) → exec (.and e rd ra rb) s = .next (goTo e (v.pc + 4) (v.setS rd (v.sreg ra &&& v.sreg rb)) s)) ∧
    (Issues s (.or e rd ra rb) → exec (.or e rd ra rb) s = .next (goTo e (v.pc + 4) (v.setS rd (v.sreg ra ||| v.sreg rb)) s)) ∧
    (Issues s (.xor e rd ra rb) → exec (.xor e rd ra rb) s = .next (goTo e (v.pc + 4) (v.setS rd (v.sreg ra ^^^ v.sreg rb)) s)) ∧
    (Issues s (.shl e rd ra rb) → exec (.shl e rd ra rb) s = .next (goTo e (v.pc + 4)
      (v.setS rd (BitVec.ofNat 32 ((v.sreg ra).toNat * 2 ^ ((v.sreg rb).toNat % 32)))) s)) ∧
    (Issues s (.shr e rd ra rb) → exec (.shr e rd ra rb) s = .next (goTo e (v.pc + 4)
      (v.setS rd (BitVec.ofNat 32 ((v.sreg ra).toNat / 2 ^ ((v.sreg rb).toNat % 32)))) s)) ∧
    (Issues s (.sra e rd ra rb) → exec (.sra e rd ra rb) s = .next (goTo e (v.pc + 4)
      (v.setS rd (BitVec.ofInt 32 ((v.sreg ra).toInt / (2 ^ ((v.sreg rb).toNat % 32) : Nat)))) s)) ∧
    (Issues s (.slt e rd ra rb) → exec (.slt e rd ra rb) s = .next (goTo e (v.pc + 4)
      (v.setS rd (if (v.sreg ra).toInt < (v.sreg rb).toInt then 1 else 0)) s)) ∧
    (Issues s (.sltu e rd ra rb) → exec (.sltu e rd ra rb) s = .next (goTo e (v.pc + 4)
      (v.setS rd (if (v.sreg ra).toNat < (v.sreg rb).toNat then 1 else 0)) s)) ∧
    (Issues s (.min e rd ra rb) → exec (.min e rd ra rb) s = .next (goTo e (v.pc + 4)
      (v.setS rd (if (v.sreg ra).toInt ≤ (v.sreg rb).toInt then v.sreg ra else v.sreg rb)) s)) ∧
    (Issues s (.minu e rd ra rb) → exec (.minu e rd ra rb) s = .next (goTo e (v.pc + 4)
      (v.setS rd (BitVec.ofNat 32 (min (v.sreg ra).toNat (v.sreg rb).toNat))) s)) ∧
    (Issues s (.max e rd ra rb) → exec (.max e rd ra rb) s = .next (goTo e (v.pc + 4)
      (v.setS rd (if (v.sreg ra).toInt ≤ (v.sreg rb).toInt then v.sreg rb else v.sreg ra)) s)) ∧
    (Issues s (.maxu e rd ra rb) → exec (.maxu e rd ra rb) s = .next (goTo e (v.pc + 4)
      (v.setS rd (BitVec.ofNat 32 (max (v.sreg ra).toNat (v.sreg rb).toNat))) s)) ∧
    (Issues s (.mul e rd ra rb) → exec (.mul e rd ra rb) s = .next (goTo e (v.pc + 4)
      (v.setS rd (BitVec.ofNat 32 ((v.sreg ra).toNat * (v.sreg rb).toNat))) s)) ∧
    (Issues s (.mulh e rd ra rb) → exec (.mulh e rd ra rb) s = .next (goTo e (v.pc + 4)
      (v.setS rd (BitVec.ofInt 32 ((v.sreg ra).toInt * (v.sreg rb).toInt / 4294967296))) s)) ∧
    (Issues s (.mulhu e rd ra rb) → exec (.mulhu e rd ra rb) s = .next (goTo e (v.pc + 4)
      (v.setS rd (BitVec.ofNat 32 ((v.sreg ra).toNat * (v.sreg rb).toNat / 4294967296))) s))) ∧
  (∀ (s : State) (e : Nat) (v : Engine) (rd ra : BitVec 5) (imm : BitVec 15), engineOf s e = v →
    (Issues s (.addi e rd ra imm) → exec (.addi e rd ra imm) s = .next (goTo e (v.pc + 4)
      (v.setS rd (BitVec.ofInt 32 ((v.sreg ra).toInt + imm.toInt))) s)) ∧
    (Issues s (.andi e rd ra imm) → exec (.andi e rd ra imm) s = .next (goTo e (v.pc + 4)
      (v.setS rd (v.sreg ra &&& BitVec.ofNat 32 imm.toNat)) s)) ∧
    (Issues s (.ori e rd ra imm) → exec (.ori e rd ra imm) s = .next (goTo e (v.pc + 4)
      (v.setS rd (v.sreg ra ||| BitVec.ofNat 32 imm.toNat)) s)) ∧
    (Issues s (.xori e rd ra imm) → exec (.xori e rd ra imm) s = .next (goTo e (v.pc + 4)
      (v.setS rd (v.sreg ra ^^^ BitVec.ofNat 32 imm.toNat)) s)) ∧
    (Issues s (.slti e rd ra imm) → exec (.slti e rd ra imm) s = .next (goTo e (v.pc + 4)
      (v.setS rd (if (v.sreg ra).toInt < imm.toInt then 1 else 0)) s)) ∧
    (Issues s (.sltiu e rd ra imm) → exec (.sltiu e rd ra imm) s = .next (goTo e (v.pc + 4)
      (v.setS rd (if (v.sreg ra).toNat < (imm.signExtend 32).toNat then 1 else 0)) s)) ∧
    (∀ n, Issues s (.shli e rd ra n) → exec (.shli e rd ra n) s = .next (goTo e (v.pc + 4)
      (v.setS rd (BitVec.ofNat 32 ((v.sreg ra).toNat * 2 ^ n.toNat))) s)) ∧
    (∀ n, Issues s (.shri e rd ra n) → exec (.shri e rd ra n) s = .next (goTo e (v.pc + 4)
      (v.setS rd (BitVec.ofNat 32 ((v.sreg ra).toNat / 2 ^ n.toNat))) s)) ∧
    (∀ n, Issues s (.srai e rd ra n) → exec (.srai e rd ra n) s = .next (goTo e (v.pc + 4)
      (v.setS rd (BitVec.ofInt 32 ((v.sreg ra).toInt / (2 ^ n.toNat : Nat)))) s)) ∧
    (∀ i, Issues s (.lui e rd i) → exec (.lui e rd i) s = .next (goTo e (v.pc + 4)
      (v.setS rd (BitVec.ofNat 32 (4096 * i.toNat))) s)) ∧
    (∀ i, Issues s (.jal e rd i) → exec (.jal e rd i) s = .next (goTo e (((v.pc : Int) + 4 * i.toInt) % 4294967296).toNat
      (v.setS rd (BitVec.ofNat 32 (v.pc + 4))) s)) ∧
    (Issues s (.jalr e rd ra imm) → exec (.jalr e rd ra imm) s = .next (goTo e ((v.sreg ra + imm.signExtend 32).toNat / 4 * 4)
      (v.setS rd (BitVec.ofNat 32 (v.pc + 4))) s)) ∧
    (∀ rb (c : BitVec 3) off (b : Bool) (x y : BitVec 32), Issues s (.br e c ra rb off) → v.sreg ra = x → v.sreg rb = y →
      (c = 0 ∧ (b = true ↔ x = y) ∨ c = 1 ∧ (b = true ↔ x ≠ y) ∨ c = 2 ∧ (b = true ↔ x.toInt < y.toInt) ∨
        c = 3 ∧ (b = true ↔ y.toInt ≤ x.toInt) ∨ c = 4 ∧ (b = true ↔ x.toNat < y.toNat) ∨
        c = 5 ∧ (b = true ↔ y.toNat ≤ x.toNat)) →
      exec (.br e c ra rb off) s =
        .next (goTo e (if b then (((v.pc : Int) + 4 * off.toInt) % 4294967296).toNat else v.pc + 4) v s)) ∧
    (∀ rb c off, Issues s (.br e c ra rb off) → 6 ≤ c.toNat →
      exec (.br e c ra rb off) s = .next (inCycle e (kernelFault e 1) s))) ∧
  ((∀ x : Int, roundShift x 0 = x) ∧ (∀ x : Int, satS 16 x = clampI (-32768) 32767 x) ∧
    (∀ n x : Nat, signed (n + 1) x =
      if x % 2 ^ (n + 1) < 2 ^ n then ((x % 2 ^ (n + 1) : Nat) : Int) else ((x % 2 ^ (n + 1) : Nat) : Int) - (2 ^ (n + 1) : Nat)) ∧
    clz16 0 = 16 ∧ ∀ x, 0 < x → x < 65536 → clz16 x ≤ 15 ∧ 2 ^ (15 - clz16 x) ≤ x ∧ x < 2 ^ (16 - clz16 x)) ∧
  (∀ (s : State) (i : Instr) (k : Kernel), eddyWord i ≠ none → canIssue s (eddyEngine i) = some k →
    k.codeBytes < (engineOf s (eddyEngine i)).pc / 4 * 4 + 4 → exec i s = .next (kernelFault (eddyEngine i) 2 s))

/-- Loads and stores (R380, R385): at ra + off12 with the low bits ignored, in the data area or the scratchpad; an access
outside both faults. A store works within its bank cycle (R369). -/
def Obligations.EddyMemory : Prop :=
  ∀ (s : State) (e : Nat) (v : Engine) (rd ra : BitVec 5) (off : BitVec 12) (a : Nat), engineOf s e = v →
    (v.sreg ra + off.signExtend 32).toNat = a →
    (Issues s (.lw e rd ra off) → Reaches s e (a / 4 * 4) 4 → exec (.lw e rd ra off) s =
      .next (spend (goTo e (v.pc + 4) (v.setS rd (BitVec.ofNat 32 (ofLe (eaRead s e (a / 4 * 4) 4)))) s))) ∧
    (Issues s (.lh e rd ra off) → Reaches s e (a / 2 * 2) 2 → exec (.lh e rd ra off) s =
      .next (spend (goTo e (v.pc + 4) (v.setS rd ((BitVec.ofNat 16 (ofLe (eaRead s e (a / 2 * 2) 2))).signExtend 32)) s))) ∧
    (Issues s (.lhu e rd ra off) → Reaches s e (a / 2 * 2) 2 → exec (.lhu e rd ra off) s =
      .next (spend (goTo e (v.pc + 4) (v.setS rd (BitVec.ofNat 32 (ofLe (eaRead s e (a / 2 * 2) 2)))) s))) ∧
    (Issues s (.lb e rd ra off) → Reaches s e a 1 → exec (.lb e rd ra off) s =
      .next (spend (goTo e (v.pc + 4) (v.setS rd ((BitVec.ofNat 8 (ofLe (eaRead s e a 1))).signExtend 32)) s))) ∧
    (Issues s (.lbu e rd ra off) → Reaches s e a 1 → exec (.lbu e rd ra off) s =
      .next (spend (goTo e (v.pc + 4) (v.setS rd (BitVec.ofNat 32 (ofLe (eaRead s e a 1)))) s))) ∧
    (Issues s (.sw e rd ra off) → eaOk s e (a / 4 * 4) 4 = true → exec (.sw e rd ra off) s =
      .next (inCycle e (fun s => advance e (fun v => v) (eaWrite e ((leBytes 4 (v.sreg rd).toNat).zipIdx.map (fun b => (a / 4 * 4 + b.2, b.1))) s)) s)) ∧
    (Issues s (.sh e rd ra off) → eaOk s e (a / 2 * 2) 2 = true → exec (.sh e rd ra off) s =
      .next (inCycle e (fun s => advance e (fun v => v) (eaWrite e ((leBytes 2 (v.sreg rd).toNat).zipIdx.map (fun b => (a / 2 * 2 + b.2, b.1))) s)) s)) ∧
    (Issues s (.sb e rd ra off) → eaOk s e a 1 = true → exec (.sb e rd ra off) s =
      .next (inCycle e (fun s => advance e (fun v => v) (eaWrite e [(a, BitVec.ofNat 8 ((v.sreg rd).toNat % 256))] s)) s)) ∧
    (∀ pg, Issues s (.vld e pg rd ra off) → Reaches s e (a / 2 * 2) 32 → exec (.vld e pg rd ra off) s =
      .next (spend (goTo e (v.pc + 4) (v.writeLanes rd (v.preg pg) (fun i =>
        (leAt (eaRead s e (a / 2 * 2) 32) (2 * i) 2, false))) s))) ∧
    (∀ pg, Issues s (.vst e pg rd ra off) → eaOk s e (a / 2 * 2) 32 = true → exec (.vst e pg rd ra off) s =
      .next (inCycle e (fun s => advance e (fun v => v) (eaWrite e (storeLanes v (v.preg pg) rd (a / 2 * 2)) s)) s)) ∧
    (∀ pg, Issues s (.vldb e pg rd ra off) → Reaches s e (a / 2 * 2) 2 → exec (.vldb e pg rd ra off) s =
      .next (spend (goTo e (v.pc + 4) (v.writeLanes rd (v.preg pg) (fun _ =>
        (ofLe (eaRead s e (a / 2 * 2) 2), false))) s))) ∧
    (Issues s (.lw e rd ra off) → eaOk s e (a / 4 * 4) 4 = false → exec (.lw e rd ra off) s =
      .next (inCycle e (kernelFault e (if a / 4 * 4 < 0x80000 then 2 else 3)) s))

/-- A store writes its own bytes and no other (R385): of the engine's data areas and of its cluster's scratchpad. -/
def Obligations.StoreFrame : Prop :=
  ∀ (s t : State) (e : Nat) (v : Engine) (rd ra : BitVec 5) (off : BitVec 12) (a : Nat), engineOf s e = v →
    (v.sreg ra + off.signExtend 32).toNat / 4 * 4 = a → Issues s (.sw e rd ra off) → eaOk s e a 4 = true →
    tabWf (fun _ => ({} : Engine)) s.array.engines = true → tabWf (fun _ => ({} : Cluster)) s.array.clusters = true →
    keysAbove 0 v.data = true → keysAbove 0 (clusterOf s (e / 8)).pad = true → exec (.sw e rd ra off) s = .next t →
      (∀ f, f ≠ e → engineOf t f = engineOf s f) ∧ (∀ c, c ≠ e / 8 → clusterOf t c = clusterOf s c) ∧
      (engineOf t e).s = v.s ∧ (engineOf t e).v = v.v ∧ (engineOf t e).a = v.a ∧ (engineOf t e).p = v.p ∧
      (a < 0x80000 → (clusterOf t (e / 8)).pad = (clusterOf s (e / 8)).pad ∧
        (∀ i, i < 4 → tabGet (dataImage s v) (engineOf t e).data (65536 * v.stage + a + i) =
          BitVec.ofNat 8 ((v.sreg rd).toNat / 2 ^ (8 * i))) ∧
        (∀ k, (k < 65536 * v.stage + a ∨ 65536 * v.stage + a + 4 ≤ k) →
          tabGet (dataImage s v) (engineOf t e).data k = tabGet (dataImage s v) v.data k)) ∧
      (0x80000 ≤ a → (engineOf t e).data = v.data ∧
        (∀ i, i < 4 → tabGet (fun _ => 0) (clusterOf t (e / 8)).pad (a - 0x80000 + i) =
          BitVec.ofNat 8 ((v.sreg rd).toNat / 2 ^ (8 * i))) ∧
        (∀ k, (k < a - 0x80000 ∨ a - 0x80000 + 4 ≤ k) →
          tabGet (fun _ => 0) (clusterOf t (e / 8)).pad k = tabGet (fun _ => 0) (clusterOf s (e / 8)).pad k))

/-- Atomics (R387): rd takes what the scratchpad held, and memory the sum, the held sum or the exchanged value; no other byte of
the scratchpad changes. -/
def Obligations.EddyAtomics : Prop :=
  (∀ (s : State) (e : Nat) (v : Engine) (rd ra rb : BitVec 5) (h w : Nat), engineOf s e = v →
    (v.sreg ra).toNat / 2 * 2 = h → (v.sreg ra).toNat / 4 * 4 = w →
    (Issues s (.aaddH e rd ra rb) → ReachesPad s e h 2 → exec (.aaddH e rd ra rb) s = .next (inCycle e (atomicEnd e rd
      (ofLe (eaRead s e h 2)) h 2 ((ofLe (eaRead s e h 2) + (v.sreg rb).toNat) % 65536) false) s)) ∧
    (Issues s (.aaddW e rd ra rb) → ReachesPad s e w 4 → exec (.aaddW e rd ra rb) s = .next (inCycle e (atomicEnd e rd
      (ofLe (eaRead s e w 4)) w 4 ((ofLe (eaRead s e w 4) + (v.sreg rb).toNat) % 4294967296) false) s)) ∧
    (Issues s (.aaddsH e rd ra rb) → ReachesPad s e h 2 → exec (.aaddsH e rd ra rb) s = .next (inCycle e (atomicEnd e rd
      (ofLe (eaRead s e h 2)) h 2 (clampI 0 65535 ((ofLe (eaRead s e h 2) : Int) + signed 16 (v.sreg rb).toNat)).toNat
      (decide (clampI 0 65535 ((ofLe (eaRead s e h 2) : Int) + signed 16 (v.sreg rb).toNat) ≠
        (ofLe (eaRead s e h 2) : Int) + signed 16 (v.sreg rb).toNat))) s)) ∧
    (Issues s (.aaddsW e rd ra rb) → ReachesPad s e w 4 → exec (.aaddsW e rd ra rb) s = .next (inCycle e (atomicEnd e rd
      (ofLe (eaRead s e w 4)) w 4 (clampI 0 4294967295 ((ofLe (eaRead s e w 4) : Int) + signed 32 (v.sreg rb).toNat)).toNat
      (decide (clampI 0 4294967295 ((ofLe (eaRead s e w 4) : Int) + signed 32 (v.sreg rb).toNat) ≠
        (ofLe (eaRead s e w 4) : Int) + signed 32 (v.sreg rb).toNat))) s)) ∧
    (Issues s (.aswpH e rd ra rb) → ReachesPad s e h 2 → exec (.aswpH e rd ra rb) s = .next (inCycle e (atomicEnd e rd
      (ofLe (eaRead s e h 2)) h 2 ((v.sreg rb).toNat % 65536) false) s)) ∧
    (Issues s (.aswpW e rd ra rb) → ReachesPad s e w 4 → exec (.aswpW e rd ra rb) s = .next (inCycle e (atomicEnd e rd
      (ofLe (eaRead s e w 4)) w 4 (v.sreg rb).toNat false) s)) ∧
    (Issues s (.aaddH e rd ra rb) → inPad h 2 = false → exec (.aaddH e rd ra rb) s = .next (inCycle e (kernelFault e 3) s)) ∧
    (Issues s (.aaddW e rd ra rb) → inPad w 4 = false → exec (.aaddW e rd ra rb) s = .next (inCycle e (kernelFault e 3) s)) ∧
    (Issues s (.aaddsH e rd ra rb) → inPad h 2 = false → exec (.aaddsH e rd ra rb) s = .next (inCycle e (kernelFault e 3) s)) ∧
    (Issues s (.aaddsW e rd ra rb) → inPad w 4 = false → exec (.aaddsW e rd ra rb) s = .next (inCycle e (kernelFault e 3) s)) ∧
    (Issues s (.aswpH e rd ra rb) → inPad h 2 = false → exec (.aswpH e rd ra rb) s = .next (inCycle e (kernelFault e 3) s)) ∧
    (Issues s (.aswpW e rd ra rb) → inPad w 4 = false → exec (.aswpW e rd ra rb) s = .next (inCycle e (kernelFault e 3) s))) ∧
  (∀ (s : State) (e : Nat) (rd : BitVec 5) (old ea n new : Nat) (held : Bool), inPad ea n = true → rd ≠ 0 →
    tabWf (fun _ => ({} : Engine)) s.array.engines = true → tabWf (fun _ => ({} : Cluster)) s.array.clusters = true →
    keysAbove 0 (engineOf s e).s = true → keysAbove 0 (clusterOf s (e / 8)).pad = true →
    (engineOf (atomicEnd e rd old ea n new held s) e).sreg rd = BitVec.ofNat 32 old ∧
    (engineOf (atomicEnd e rd old ea n new held s) e).sat = ((engineOf s e).sat || held) ∧
    (engineOf (atomicEnd e rd old ea n new held s) e).pc = (engineOf s e).pc + 4 ∧
    (∀ i, i < n → tabGet (fun _ => 0) (clusterOf (atomicEnd e rd old ea n new held s) (e / 8)).pad (ea - 0x80000 + i) =
      BitVec.ofNat 8 (new / 2 ^ (8 * i))) ∧
    (∀ k, (k < ea - 0x80000 ∨ ea - 0x80000 + n ≤ k) →
      tabGet (fun _ => 0) (clusterOf (atomicEnd e rd old ea n new held s) (e / 8)).pad k =
        tabGet (fun _ => 0) (clusterOf s (e / 8)).pad k))

/-- Vector operations of two operands (R388): each active lane of vd takes the result, an inactive one keeps its value, and
st.sat rises exactly where an active lane was held; vsel writes every lane. -/
def Obligations.EddyVectors : Prop :=
  (∀ (s : State) (e : Nat) (v : Engine) (pg : BitVec 3) (vd va vb : BitVec 5) (a b : Nat → Nat),
    engineOf s e = v →
    (fun i => vlane (v.vreg va) i) = a → (fun i => vlane (v.vreg vb) i) = b →
    (Issues s (.vadd e pg vd va vb) → exec (.vadd e pg vd va vb) s = .next (goTo e (v.pc + 4)
      (v.writeLanes vd (v.preg pg) (fun i => ((a i + b i) % 65536, false))) s)) ∧
    (Issues s (.vsub e pg vd va vb) → exec (.vsub e pg vd va vb) s = .next (goTo e (v.pc + 4)
      (v.writeLanes vd (v.preg pg) (fun i => ((a i + 65536 - b i) % 65536, false))) s)) ∧
    (Issues s (.vadds e pg vd va vb) → exec (.vadds e pg vd va vb) s = .next (goTo e (v.pc + 4)
      (v.writeLanes vd (v.preg pg) (fun i => heldS (signed 16 (a i) + signed 16 (b i)))) s)) ∧
    (Issues s (.vsubs e pg vd va vb) → exec (.vsubs e pg vd va vb) s = .next (goTo e (v.pc + 4)
      (v.writeLanes vd (v.preg pg) (fun i => heldS (signed 16 (a i) - signed 16 (b i)))) s)) ∧
    (Issues s (.vaddus e pg vd va vb) → exec (.vaddus e pg vd va vb) s = .next (goTo e (v.pc + 4)
      (v.writeLanes vd (v.preg pg) (fun i => (min 65535 (a i + b i), decide (65535 < a i + b i)))) s)) ∧
    (Issues s (.vsubus e pg vd va vb) → exec (.vsubus e pg vd va vb) s = .next (goTo e (v.pc + 4)
      (v.writeLanes vd (v.preg pg) (fun i => (a i - b i, decide (a i < b i)))) s)) ∧
    (Issues s (.vaddsu e pg vd va vb) → exec (.vaddsu e pg vd va vb) s = .next (goTo e (v.pc + 4)
      (v.writeLanes vd (v.preg pg) (fun i => heldU ((a i : Int) + signed 16 (b i)))) s)) ∧
    (Issues s (.vmin e pg vd va vb) → exec (.vmin e pg vd va vb) s = .next (goTo e (v.pc + 4)
      (v.writeLanes vd (v.preg pg) (fun i => (if signed 16 (a i) ≤ signed 16 (b i) then a i else b i, false))) s)) ∧
    (Issues s (.vmax e pg vd va vb) → exec (.vmax e pg vd va vb) s = .next (goTo e (v.pc + 4)
      (v.writeLanes vd (v.preg pg) (fun i => (if signed 16 (a i) ≤ signed 16 (b i) then b i else a i, false))) s)) ∧
    (Issues s (.vminu e pg vd va vb) → exec (.vminu e pg vd va vb) s = .next (goTo e (v.pc + 4)
      (v.writeLanes vd (v.preg pg) (fun i => (min (a i) (b i), false))) s)) ∧
    (Issues s (.vmaxu e pg vd va vb) → exec (.vmaxu e pg vd va vb) s = .next (goTo e (v.pc + 4)
      (v.writeLanes vd (v.preg pg) (fun i => (max (a i) (b i), false))) s)) ∧
    (Issues s (.vabsdu e pg vd va vb) → exec (.vabsdu e pg vd va vb) s = .next (goTo e (v.pc + 4)
      (v.writeLanes vd (v.preg pg) (fun i => (((a i : Int) - b i).natAbs, false))) s)) ∧
    (Issues s (.vavgu e pg vd va vb) → exec (.vavgu e pg vd va vb) s = .next (goTo e (v.pc + 4)
      (v.writeLanes vd (v.preg pg) (fun i => ((a i + b i + 1) / 2, false))) s)) ∧
    (Issues s (.vand e pg vd va vb) → exec (.vand e pg vd va vb) s = .next (goTo e (v.pc + 4)
      (v.writeLanes vd (v.preg pg) (fun i => (a i &&& b i, false))) s)) ∧
    (Issues s (.vor e pg vd va vb) → exec (.vor e pg vd va vb) s = .next (goTo e (v.pc + 4)
      (v.writeLanes vd (v.preg pg) (fun i => (a i ||| b i, false))) s)) ∧
    (Issues s (.vxor e pg vd va vb) → exec (.vxor e pg vd va vb) s = .next (goTo e (v.pc + 4)
      (v.writeLanes vd (v.preg pg) (fun i => (a i ^^^ b i, false))) s)) ∧
    (Issues s (.vshl e pg vd va vb) → exec (.vshl e pg vd va vb) s = .next (goTo e (v.pc + 4)
      (v.writeLanes vd (v.preg pg) (fun i => (a i * 2 ^ (b i % 32) % 65536, false))) s)) ∧
    (Issues s (.vshr e pg vd va vb) → exec (.vshr e pg vd va vb) s = .next (goTo e (v.pc + 4)
      (v.writeLanes vd (v.preg pg) (fun i => (a i / 2 ^ (b i % 32), false))) s)) ∧
    (Issues s (.vsra e pg vd va vb) → exec (.vsra e pg vd va vb) s = .next (goTo e (v.pc + 4)
      (v.writeLanes vd (v.preg pg) (fun i => (pattern 16 (signed 16 (a i) / (2 ^ min (b i % 32) 15 : Nat)), false))) s)) ∧
    (Issues s (.vmul e pg vd va vb) → exec (.vmul e pg vd va vb) s = .next (goTo e (v.pc + 4)
      (v.writeLanes vd (v.preg pg) (fun i => (a i * b i % 65536, false))) s)) ∧
    (Issues s (.vmulh e pg vd va vb) → exec (.vmulh e pg vd va vb) s = .next (goTo e (v.pc + 4)
      (v.writeLanes vd (v.preg pg) (fun i => (pattern 16 (signed 16 (a i) * signed 16 (b i) / 65536), false))) s)) ∧
    (Issues s (.vmulhu e pg vd va vb) → exec (.vmulhu e pg vd va vb) s = .next (goTo e (v.pc + 4)
      (v.writeLanes vd (v.preg pg) (fun i => (a i * b i / 65536, false))) s)) ∧
    (Issues s (.vsel e pg vd va vb) → exec (.vsel e pg vd va vb) s = .next (goTo e (v.pc + 4)
      (v.setV vd (ofLanes (fun i => if activeLane (v.preg pg) i then a i else b i))) s)) ∧
    (∀ n : BitVec 5, Issues s (.vshli e pg vd va n) → exec (.vshli e pg vd va n) s = .next (goTo e (v.pc + 4)
      (v.writeLanes vd (v.preg pg) (fun i => (a i * 2 ^ n.toNat % 65536, false))) s)) ∧
    (∀ n : BitVec 5, Issues s (.vshri e pg vd va n) → exec (.vshri e pg vd va n) s = .next (goTo e (v.pc + 4)
      (v.writeLanes vd (v.preg pg) (fun i => (a i / 2 ^ n.toNat, false))) s)) ∧
    (∀ n : BitVec 5, Issues s (.vsrai e pg vd va n) → exec (.vsrai e pg vd va n) s = .next (goTo e (v.pc + 4)
      (v.writeLanes vd (v.preg pg) (fun i => (pattern 16 (signed 16 (a i) / (2 ^ min n.toNat 15 : Nat)), false))) s)) ∧
    (∀ n : BitVec 5, Issues s (.vaddi e pg vd va n) → exec (.vaddi e pg vd va n) s = .next (goTo e (v.pc + 4)
      (v.writeLanes vd (v.preg pg) (fun i => (pattern 16 ((a i : Int) + n.toInt), false))) s))) ∧
  (∀ (v : Engine) (vd j : BitVec 5) (p : BitVec 16) (f : Nat → Nat × Bool) (i : Nat), keysAbove 0 v.v = true → i < 16 →
    vlane ((v.writeLanes vd p f).vreg vd) i = (if p.getLsbD i then (f i).1 % 65536 else vlane (v.vreg vd) i) ∧
    (j ≠ vd → (v.writeLanes vd p f).vreg j = v.vreg j) ∧ (v.writeLanes vd p f).s = v.s ∧ (v.writeLanes vd p f).p = v.p ∧
    (v.writeLanes vd p f).a = v.a ∧ (v.writeLanes vd p f).data = v.data ∧
    (v.writeLanes vd p f).sat = (v.sat || (List.range 16).any (fun k => p.getLsbD k && (f k).2))) ∧
  (∀ x : Int, (heldS x).1 < 65536 ∧ signed 16 (heldS x).1 = max (-32768) (min 32767 x) ∧
    ((heldS x).2 = true ↔ x < -32768 ∨ 32767 < x) ∧
    ((heldU x).1 : Int) = max 0 (min 65535 x) ∧ ((heldU x).2 = true ↔ x < 0 ∨ 65535 < x))

/-- Operations of one operand, and predicates (R383, R389, R390). -/
def Obligations.EddyUnaryAndPredicates : Prop :=
  ∀ (s : State) (e : Nat) (v : Engine) (pg : BitVec 3) (vd va : BitVec 5) (a : Nat → Nat), engineOf s e = v →
    (fun i => vlane (v.vreg va) i) = a →
    (Issues s (.vmov e pg vd va) → exec (.vmov e pg vd va) s = .next (goTo e (v.pc + 4)
      (v.writeLanes vd (v.preg pg) (fun i => (a i, false))) s)) ∧
    (Issues s (.vclz e pg vd va) → exec (.vclz e pg vd va) s = .next (goTo e (v.pc + 4)
      (v.writeLanes vd (v.preg pg) (fun i => (if a i = 0 then 16 else 15 - Nat.log2 (a i), false))) s)) ∧
    (Issues s (.vrcp e pg vd va) → exec (.vrcp e pg vd va) s = .next (goTo e (v.pc + 4)
      ({ v with dz := v.dz || (activeLanes (v.preg pg)).any (fun i => decide (a i = 0)) }.writeLanes vd (v.preg pg) (fun i =>
        if a i < 32768 then (65535, true) else (min 65535 ((2147483648 + a i / 2) / a i), false))) s)) ∧
    (Issues s (.vrsqrt e pg vd va) → exec (.vrsqrt e pg vd va) s = .next (goTo e (v.pc + 4)
      ({ v with dz := v.dz || (activeLanes (v.preg pg)).any (fun i => decide (a i = 0)) }.writeLanes vd (v.preg pg) (fun i =>
        if a i < 16384 then (65535, true) else (min 65535 ((Nat.sqrt (281474976710656 / a i) + 1) / 2), false))) s)) ∧
    (Issues s (.vlane e pg vd va) → exec (.vlane e pg vd va) s = .next (goTo e (v.pc + 4)
      (v.writeLanes vd (v.preg pg) (fun i => (i, false))) s)) ∧
    (Issues s (.vmvs e pg vd va) → exec (.vmvs e pg vd va) s = .next (goTo e (v.pc + 4)
      (v.writeLanes vd (v.preg pg) (fun _ => ((v.sreg va).toNat % 65536, false))) s)) ∧
    (∀ pd (c : BitVec 3) vb (b : Nat → Nat) (holds : Nat → Nat → Bool), (fun i => vlane (v.vreg vb) i) = b →
      Issues s (.vcmp e pg pd c va vb) →
      (c = 0 ∧ holds = (fun x y => decide (x = y)) ∨ c = 1 ∧ holds = (fun x y => decide (x ≠ y)) ∨
        c = 2 ∧ holds = (fun x y => decide (signed 16 x < signed 16 y)) ∨
        c = 3 ∧ holds = (fun x y => decide (signed 16 y ≤ signed 16 x)) ∨
        c = 4 ∧ holds = (fun x y => decide (x < y)) ∨ c = 5 ∧ holds = (fun x y => decide (y ≤ x))) →
      exec (.vcmp e pg pd c va vb) s = .next (goTo e (v.pc + 4)
        (v.setP pd (ofBits16 (fun i => activeLane (v.preg pg) i && holds (a i) (b i)))) s)) ∧
    (∀ pd c vb, Issues s (.vcmp e pg pd c va vb) → 6 ≤ c.toNat → exec (.vcmp e pg pd c va vb) s = .next (inCycle e (kernelFault e 1) s)) ∧
    (∀ pd pa pb, Issues s (.pand e pd pa pb) → exec (.pand e pd pa pb) s =
      .next (goTo e (v.pc + 4) (v.setP pd (v.preg pa &&& v.preg pb)) s)) ∧
    (∀ pd pa pb, Issues s (.por e pd pa pb) → exec (.por e pd pa pb) s =
      .next (goTo e (v.pc + 4) (v.setP pd (v.preg pa ||| v.preg pb)) s)) ∧
    (∀ pd pa pb, Issues s (.pxor e pd pa pb) → exec (.pxor e pd pa pb) s =
      .next (goTo e (v.pc + 4) (v.setP pd (v.preg pa ^^^ v.preg pb)) s)) ∧
    (∀ pd pa pb, Issues s (.pandn e pd pa pb) → exec (.pandn e pd pa pb) s =
      .next (goTo e (v.pc + 4) (v.setP pd (v.preg pa &&& ~~~ v.preg pb)) s)) ∧
    (∀ pd pb, Issues s (.pset e pd va pb) → exec (.pset e pd va pb) s =
      .next (goTo e (v.pc + 4) (v.setP pd (BitVec.ofNat 16 (v.sreg va).toNat)) s)) ∧
    (∀ pa pb, Issues s (.pget e vd pa pb) → exec (.pget e vd pa pb) s =
      .next (goTo e (v.pc + 4) (v.setS vd (BitVec.ofNat 32 (v.preg pa).toNat)) s))

/-- Accumulators and lookups (R391 to R394). -/
def Obligations.EddyAccumulators : Prop :=
  ∀ (s : State) (e : Nat) (v : Engine) (pg : BitVec 3) (k : BitVec 2), engineOf s e = v →
    (∀ va vb (f : Nat → Int), (fun i => (v.acc k i).toInt + signed 16 (vlane (v.vreg va) i) * signed 16 (vlane (v.vreg vb) i)) = f →
      Issues s (.vmac e pg k va vb 1) → exec (.vmac e pg k va vb 1) s = .next (goTo e (v.pc + 4)
        { v.setLanes k (v.preg pg) (fun i => BitVec.ofInt 40 (f i)) with
          aovf := v.aovf || (activeLanes (v.preg pg)).any (fun i => decide ((BitVec.ofInt 40 (f i)).toInt ≠ f i)) } s)) ∧
    (∀ va vb (m : BitVec 4) (f : Nat → Int), (fun i => macExact v k va vb m.toNat i) = f →
      Issues s (.vmac e pg k va vb m) → exec (.vmac e pg k va vb m) s = .next (goTo e (v.pc + 4)
        { v.setLanes k (v.preg pg) (fun i => BitVec.ofInt 40 (f i)) with
          aovf := v.aovf || (activeLanes (v.preg pg)).any (fun i => decide ((BitVec.ofInt 40 (f i)).toInt ≠ f i)) } s)) ∧
    (Issues s (.aclr e pg k) → exec (.aclr e pg k) s =
      .next (goTo e (v.pc + 4) (v.setLanes k (v.preg pg) (fun _ => 0)) s)) ∧
    (∀ va n (f : Nat → Int), (fun i => signed 16 (vlane (v.vreg va) i) * ((2 ^ n.toNat : Nat) : Int)) = f →
      Issues s (.aset e pg k va n true) → exec (.aset e pg k va n true) s = .next (goTo e (v.pc + 4)
        { v.setLanes k (v.preg pg) (fun i => BitVec.ofInt 40 (f i)) with
          aovf := v.aovf || (activeLanes (v.preg pg)).any (fun i => decide ((BitVec.ofInt 40 (f i)).toInt ≠ f i)) } s)) ∧
    (∀ va n (f : Nat → Int), (fun i => ((vlane (v.vreg va) i : Nat) : Int) * ((2 ^ n.toNat : Nat) : Int)) = f →
      Issues s (.aset e pg k va n false) → exec (.aset e pg k va n false) s = .next (goTo e (v.pc + 4)
        { v.setLanes k (v.preg pg) (fun i => BitVec.ofInt 40 (f i)) with
          aovf := v.aovf || (activeLanes (v.preg pg)).any (fun i => decide ((BitVec.ofInt 40 (f i)).toInt ≠ f i)) } s)) ∧
    (∀ vd n, Issues s (.vrnd e pg k vd n 0) → exec (.vrnd e pg k vd n 0) s = .next (goTo e (v.pc + 4)
      (v.writeLanes vd (v.preg pg) (fun i => heldU (roundShift (v.acc k i).toInt n.toNat))) s)) ∧
    (∀ vd n, Issues s (.vrnd e pg k vd n 1) → exec (.vrnd e pg k vd n 1) s = .next (goTo e (v.pc + 4)
      (v.writeLanes vd (v.preg pg) (fun i => heldS (roundShift (v.acc k i).toInt n.toNat))) s)) ∧
    (∀ vd n, Issues s (.vrnd e pg k vd n 2) → exec (.vrnd e pg k vd n 2) s = .next (goTo e (v.pc + 4)
      (v.writeLanes vd (v.preg pg) (fun i => (pattern 16 (roundShift (v.acc k i).toInt n.toNat), false))) s)) ∧
    (∀ vd n, Issues s (.vrnd e pg k vd n 3) → exec (.vrnd e pg k vd n 3) s = .next (inCycle e (kernelFault e 1) s)) ∧
    (∀ vd vx sd g (a : Nat → Nat) (d : LutDesc) (rdE : Nat → Int), (fun i => vlane (v.vreg vx) i) = a → lutDesc (v.sreg sd) = d →
      (fun n => if g then signed 16 (ofLe (eaRead s e (d.base + 2 * n) 2)) else (ofLe (eaRead s e (d.base + 2 * n) 2) : Int)) = rdE →
      Issues s (.lut1 e pg vd vx sd g) → LookupReaches s e pg sd false a (fun _ => 0) →
      exec (.lut1 e pg vd vx sd g) s = .next (spend (goTo e (v.pc + 4) (v.writeLanes vd (v.preg pg) (fun i =>
        (pattern 16 (if d.sh = 0 then rdE (a i) else rdE (a i / 2 ^ d.sh) +
          roundShift ((rdE (a i / 2 ^ d.sh + 1) - rdE (a i / 2 ^ d.sh)) * (a i % 2 ^ d.sh : Nat)) d.sh), false))) s))) ∧
    (∀ vd vx vy sd g (a b : Nat → Nat) (d : LutDesc), (fun i => vlane (v.vreg vx) i) = a → (fun i => vlane (v.vreg vy) i) = b →
      lutDesc (v.sreg sd) = d → Issues s (.lut2 e pg vd vx vy sd g) → LookupReaches s e pg sd true a b →
      exec (.lut2 e pg vd vx vy sd g) s = .next (spend (goTo e (v.pc + 4) (v.writeLanes vd (v.preg pg) (fun i =>
        (pattern 16 (lutValue d (a i) (b i) ((lutIndices d true (a i) (b i)).map (fun n =>
          if g then signed 16 (ofLe (eaRead s e (d.base + 2 * n) 2)) else (ofLe (eaRead s e (d.base + 2 * n) 2) : Int)))),
          false))) s)))

/-- Mover requests, barriers, waits, CSRs, handler return and halt (R395 to R405). -/
def Obligations.EddyControl : Prop :=
  ∀ (s : State) (e : Nat) (v : Engine), engineOf s e = v →
    (∀ rd ra, Issues s (.mvq e rd ra) → RequestFits s e ((v.sreg ra).toNat / 16 * 16) →
      ∃ t n, exec (.mvq e rd ra) s = .next t ∧ n ∈ freeSlots (clusterOf s (e / 8)) ∧ t.fresh = s.fresh + 2 ^ 20 ∧
        (tabWf (fun _ => ({} : Cluster)) s.array.clusters = true → (clusterOf t (e / 8)).queue = (clusterOf s (e / 8)).queue ++
          [{ readRequest e (eaRead s e ((v.sreg ra).toNat / 16 * 16) 16) with tag := n }]) ∧
        (tabWf (fun _ => ({} : Engine)) s.array.engines = true → (engineOf t e).tags = v.tags ||| BitVec.ofNat 16 (2 ^ n))) ∧
    (∀ id, Issues s (.bar e id) → v.frameJob = false → exec (.bar e id) s = .next (goTo e (v.pc + 4) v s)) ∧
    (∀ id, Issues s (.bar e id) → v.frameJob = true → exec (.bar e id) s =
      .next (goTo e v.pc { v with stall := .barrier id.toNat } s)) ∧
    (∀ m, Issues s (.wait e m) → m ≠ 0 → waitHolds v m.toNat = true → exec (.wait e m) s = .next (goTo e (v.pc + 4) v s)) ∧
    (∀ m, Issues s (.wait e m) → m ≠ 0 → waitHolds v m.toNat = false → exec (.wait e m) s =
      .next (goTo e v.pc { v with stall := .waiting m.toNat } s)) ∧
    (Issues s (.wait e 0) → exec (.wait e 0) s = .next (inCycle e (kernelFault e 1) s)) ∧
    (∀ rd c, Issues s (.csrr e rd c) → c.toNat ≤ 5 → exec (.csrr e rd c) s =
      .next (spend (goTo e (v.pc + 4) (v.setS rd (csrValue s e c)) s))) ∧
    (∀ ra, Issues s (.csrw e ra 4) → exec (.csrw e ra 4) s =
      .next (goTo e (v.pc + 4) { v with mdone := v.mdone &&& ~~~ (BitVec.ofNat 16 (v.sreg ra).toNat) } s)) ∧
    (∀ ra, Issues s (.csrw e ra 1) → exec (.csrw e ra 1) s =
      .next (goTo e (v.pc + 4) { v with epc := (v.sreg ra).toNat % 16384 } s)) ∧
    (∀ ra, Issues s (.csrw e ra 0) → exec (.csrw e ra 0) s = .next (goTo e (v.pc + 4) { v with
      wcol := v.wcol && !(v.sreg ra).getLsbD 0, sat := v.sat && !(v.sreg ra).getLsbD 1, dz := v.dz && !(v.sreg ra).getLsbD 2,
      aovf := v.aovf && !(v.sreg ra).getLsbD 3, ie := (v.sreg ra).getLsbD 4 } s)) ∧
    (∀ ra, Issues s (.csrw e ra 3) → exec (.csrw e ra 3) s = .next (goTo e (v.pc + 4) v s)) ∧
    (Issues s (.eret e) → v.inh = true → exec (.eret e) s = .next (goTo e v.epc { v with inh := false } s)) ∧
    (Issues s (.eret e) → v.inh = false → exec (.eret e) s = .next (inCycle e (kernelFault e 1) s)) ∧
    (Issues s (.halt e) → exec (.halt e) s = .next (goTo e v.pc { v with stall := .halting } s))

/-- Every instruction of an engine completes (R379 to R405): one that issues, and whose operands keep the rules that the rules
name for it, goes on at the pc that they state, is counted once, and leaves the host's rings, the tiles, the tables and all that
the device sends as they were. Legal names what the rules ask of br, vcmp, vrnd, the loads, stores and atomics, the lookups, mvq,
wait, csrr, csrw and eret; of every other instruction they ask nothing. -/
def Obligations.EddyCompletes : Prop :=
  ∀ (s : State) (i : Instr), Issues s i → Legal s i → tabWf (fun _ => ({} : Engine)) s.array.engines = true →
    ∃ t, exec i s = .next t ∧ (engineOf t (eddyEngine i)).pc = pcAfter s i ∧ (engineOf t (eddyEngine i)).running = true ∧
      (engineOf t (eddyEngine i)).cycles = (engineOf s (eddyEngine i)).cycles + 1 ∧
      t.host = s.host ∧ t.pipe = s.pipe ∧ t.tables = s.tables ∧ t.out = s.out

/-- The frame of the register instructions (R380, R384, R388 to R392): when one that only works on registers runs, no other
engine, no private or scratchpad byte and nothing outside the array changes but counters. -/
def Obligations.RegisterFrame : Prop :=
  ∀ (s t : State) (i : Instr), i.registersOnly = true → Issues s i → exec i s = .next t →
    tabWf (fun _ => ({} : Engine)) s.array.engines = true →
      (∀ f, f ≠ eddyEngine i → engineOf t f = engineOf s f) ∧ (engineOf t (eddyEngine i)).data = (engineOf s (eddyEngine i)).data ∧
      (engineOf t (eddyEngine i)).stage = (engineOf s (eddyEngine i)).stage ∧
      (engineOf t (eddyEngine i)).mdone = (engineOf s (eddyEngine i)).mdone ∧
      (engineOf t (eddyEngine i)).epc = (engineOf s (eddyEngine i)).epc ∧
      t.array.clusters = s.array.clusters ∧ t.tables = s.tables ∧ t.host = s.host ∧ t.pipe = s.pipe ∧ t.raster = s.raster ∧
      t.out = s.out ∧ t.pending = s.pending ∧
      (∀ k, k ≠ Reg.PERF_FLAGS → k ≠ Reg.PERF_FLAG_CNT → RegsCanonical s → rd t k = rd s k)

/-- Isolation (R101): no instruction that an engine issues, a faulting one included, changes the fuses, the security core,
boot, the assignments, the store's contents, the hold cache, the Reservoir or the links. -/
def Obligations.KernelsAreIsolated : Prop :=
  ∀ (s t : State) (i : Instr), eddyWord i ≠ none → exec i s = .next t → KernelIsolated s t

/-- Undefined encodings (R382): a word that spells no instruction stops the kernel with cause 1, one outside the code with
cause 2, and an instruction the engine does not fetch has no effect. -/
def Obligations.FetchFaults : Prop :=
  ∀ (s : State) (i : Instr), eddyWord i ≠ none →
    (nextWord s (eddyEngine i) = some none → exec i s = .next (kernelFault (eddyEngine i) 2 s)) ∧
    (∀ w, nextWord s (eddyEngine i) = some (some w) → eddyWord i ≠ some w → exec i s = .next s) ∧
    (nextWord s (eddyEngine i) = none → exec i s = .next s)

/-- The round trip (R381 to R383): every well-formed Eddy instruction is read back from its word, with every operand at every
value that its field admits. -/
def Obligations.EddyRoundTrip : Prop :=
  ∀ (i : Instr) (w : Word), i.wf = true → eddyWord i = some w → eddyDecode (eddyEngine i) w = some i
end

