-- ==== Sys2Proof/Laws/Bits.lean ====
section
/-! SUPPORT. Laws of bit fields: a field reads what was put, and the fields beside it are kept. -/

namespace Sys2Proof.Machine

theorem putBits_eq (x lo n v : Nat) :
    putBits x lo n v = x % 2 ^ lo + 2 ^ lo * (v % 2 ^ n + 2 ^ n * (x / 2 ^ (lo + n))) := by
  have h1 := Nat.div_add_mod x (2 ^ lo)
  have h2 := Nat.div_add_mod (x / 2 ^ lo) (2 ^ n)
  have h3 : x / 2 ^ (lo + n) = x / 2 ^ lo / 2 ^ n := by rw [Nat.pow_add, Nat.div_div_eq_div_mul]
  unfold putBits bitsAt
  rw [h3]
  generalize x / 2 ^ lo / 2 ^ n = b at *
  generalize x / 2 ^ lo % 2 ^ n = m at *
  generalize x % 2 ^ lo = a at *
  generalize v % 2 ^ n = c at *
  generalize 2 ^ lo = L at *
  rw [← h2] at h1
  have e1 : L * (2 ^ n * b + m) = L * (2 ^ n * b) + m * L := by ring
  have e2 : L * (c + 2 ^ n * b) = c * L + L * (2 ^ n * b) := by ring
  rw [e2]
  omega

theorem bitsAt_mod (y : Nat) {lo n k : Nat} (h : lo + n ≤ k) : bitsAt (y % 2 ^ k) lo n = bitsAt y lo n := by
  apply Nat.eq_of_testBit_eq
  intro i
  simp only [bitsAt, Nat.testBit_mod_two_pow, Nat.testBit_div_two_pow]
  by_cases hi : i < n
  · simp [hi, show i + lo < k by omega]
  · simp [hi]

/-- A field reads the low bits of what was put. -/
theorem field_withField (w : Word) {lo n : Nat} (v : Nat) (h : lo + n ≤ 32) : field (withField w lo n v) lo n = v % 2 ^ n := by
  unfold field withField
  rw [BitVec.toNat_ofNat, bitsAt_mod _ h, putBits_eq]
  unfold bitsAt
  rw [Nat.add_mul_div_left _ _ (Nat.two_pow_pos lo), Nat.div_eq_of_lt (Nat.mod_lt _ (Nat.two_pow_pos lo)), Nat.zero_add,
    Nat.add_mul_mod_self_left, Nat.mod_mod]

/-- The fields beside it are kept. -/
theorem field_withField_other (w : Word) {lo n lo' n' : Nat} (v : Nat) (h : lo + n ≤ 32)
    (ho : lo' + n' ≤ lo ∨ lo + n ≤ lo') : field (withField w lo n v) lo' n' = field w lo' n' := by
  unfold field withField
  have hlt : putBits w.toNat lo n v < 2 ^ 32 := by
    rw [putBits_eq]
    have hb : w.toNat / 2 ^ (lo + n) < 2 ^ (32 - (lo + n)) := by
      rw [Nat.div_lt_iff_lt_mul (Nat.two_pow_pos _), ← Nat.pow_add, Nat.sub_add_cancel h]
      exact w.isLt
    have h1 := Nat.mod_lt w.toNat (Nat.two_pow_pos lo)
    have h2 := Nat.mod_lt v (Nat.two_pow_pos n)
    have e : 2 ^ 32 = 2 ^ lo * (2 ^ n * 2 ^ (32 - (lo + n))) := by
      rw [← Nat.pow_add, ← Nat.pow_add]; congr 1; omega
    rw [e]
    have h3 : v % 2 ^ n + 2 ^ n * (w.toNat / 2 ^ (lo + n)) + 1 ≤ 2 ^ n * 2 ^ (32 - (lo + n)) := by
      have := Nat.mul_le_mul_left (2 ^ n) hb
      rw [Nat.succ_eq_add_one, Nat.mul_add] at this
      omega
    have h4 := Nat.mul_le_mul_left (2 ^ lo) h3
    rw [Nat.mul_add] at h4
    omega
  rw [BitVec.toNat_ofNat, Nat.mod_eq_of_lt hlt, putBits_eq]
  rcases ho with ho | ho
  · rw [← bitsAt_mod _ ho, ← bitsAt_mod w.toNat ho, Nat.add_mul_mod_self_left, Nat.mod_mod]
  · unfold bitsAt
    obtain ⟨j, rfl⟩ := Nat.exists_eq_add_of_le ho
    rw [Nat.pow_add 2 (lo + n) j, ← Nat.div_div_eq_div_mul, ← Nat.div_div_eq_div_mul]
    congr 2
    rw [Nat.pow_add 2 lo n, ← Nat.div_div_eq_div_mul (_ + _), Nat.add_mul_div_left _ _ (Nat.two_pow_pos lo),
      Nat.div_eq_of_lt (Nat.mod_lt _ (Nat.two_pow_pos lo)), Nat.zero_add, Nat.add_mul_div_left _ _ (Nat.two_pow_pos n),
      Nat.div_eq_of_lt (Nat.mod_lt _ (Nat.two_pow_pos n)), Nat.zero_add]

end Sys2Proof.Machine
end

