-- ==== Sys2Proof/Laws/Table.lean ====
section
/-! SUPPORT. Laws of the sparse tables: a key reads back what was set, the others keep their value, and every operation
keeps the canonical form. -/

namespace Sys2Proof.Machine

variable {α : Type}

theorem keysAbove_weaken {a b : Nat} (h : a ≤ b) : ∀ {t : Tab α}, keysAbove b t = true → keysAbove a t = true
  | [], _ => rfl
  | (j, v) :: t, ht => by
    simp only [keysAbove, Bool.and_eq_true, decide_eq_true_eq] at ht ⊢
    exact ⟨by omega, ht.2⟩

/-- Below the first key a table reads what an unlisted key reads as. -/
theorem tabGet_below (d : Nat → α) {k b : Nat} (h : k < b) : ∀ {t : Tab α}, keysAbove b t = true → tabGet d t k = d k
  | [], _ => rfl
  | (j, v) :: t, ht => by
    simp only [keysAbove, Bool.and_eq_true, decide_eq_true_eq] at ht
    simp only [tabGet]
    rw [if_neg (by omega), if_pos (by omega)]

theorem tabGet_insert (d : Nat → α) (k j : Nat) (v : α) : ∀ (t : Tab α) (b : Nat), keysAbove b t = true →
    tabGet d (tabInsert t k v) j = if j = k then v else tabGet d t j
  | [], _, _ => by
    simp only [tabInsert, tabGet]
    split_ifs <;> first | rfl | omega
  | (i, w) :: t, b, ht => by
    simp only [keysAbove, Bool.and_eq_true, decide_eq_true_eq] at ht
    have ih := tabGet_insert d k j v t (i + 1) ht.2
    simp only [tabInsert]
    split_ifs with h1 h2 h3 h4 h5 <;> simp only [tabGet] <;> split_ifs <;> first | rfl | omega | skip
    all_goals first | (rw [ih, if_pos (by omega)]) | (rw [ih, if_neg (by omega)]) 

theorem tabGet_erase (d : Nat → α) (k j : Nat) : ∀ (t : Tab α) (b : Nat), keysAbove b t = true →
    tabGet d (tabErase t k) j = if j = k then d k else tabGet d t j
  | [], _, _ => by
    simp only [tabErase, tabGet]
    split_ifs with h
    · rw [h]
    · rfl
  | (i, w) :: t, b, ht => by
    simp only [keysAbove, Bool.and_eq_true, decide_eq_true_eq] at ht
    have ih := tabGet_erase d k j t (i + 1) ht.2
    have hb : ∀ x, x < i + 1 → tabGet d t x = d x := fun x hx => tabGet_below d hx ht.2
    by_cases h1 : i = k
    · simp only [tabErase, if_pos h1, tabGet]
      split_ifs <;> first | omega | rfl | (subst_vars; exact hb _ (by omega))
    · by_cases h2 : k < i
      · simp only [tabErase, if_neg h1, if_pos h2, tabGet]
        split_ifs <;> first | omega | rfl | (subst_vars; rfl)
      · simp only [tabErase, if_neg h1, if_neg h2, tabGet, ih]
        split_ifs <;> first | omega | rfl

/-- A key reads back what it was set to, and every other key reads as before. -/
theorem tabGet_set [DecidableEq α] (d : Nat → α) {t : Tab α} (h : keysAbove 0 t = true) (k j : Nat) (v : α) :
    tabGet d (tabSet d t k v) j = if j = k then v else tabGet d t j := by
  unfold tabSet
  split_ifs with h1 h2 h2
  · rw [tabGet_erase d k j t 0 h, if_pos h2, h1]
  · rw [tabGet_erase d k j t 0 h, if_neg h2]
  · rw [tabGet_insert d k j v t 0 h, if_pos h2]
  · rw [tabGet_insert d k j v t 0 h, if_neg h2]

theorem keysAbove_insert (k : Nat) (v : α) : ∀ (t : Tab α) (b : Nat), keysAbove b t = true → b ≤ k →
    keysAbove b (tabInsert t k v) = true
  | [], b, _, hk => by simp [tabInsert, keysAbove, hk]
  | (i, w) :: t, b, ht, hk => by
    simp only [keysAbove, Bool.and_eq_true, decide_eq_true_eq] at ht
    simp only [tabInsert]
    split_ifs with h1 h2 <;> simp only [keysAbove, Bool.and_eq_true, decide_eq_true_eq]
    · exact ⟨hk, h1 ▸ ht.2⟩
    · exact ⟨hk, by omega, ht.2⟩
    · exact ⟨ht.1, keysAbove_insert k v t (i + 1) ht.2 (by omega)⟩

theorem keysAbove_erase (k : Nat) : ∀ (t : Tab α) (b : Nat), keysAbove b t = true → keysAbove b (tabErase t k) = true
  | [], _, _ => rfl
  | (i, w) :: t, b, ht => by
    simp only [keysAbove, Bool.and_eq_true, decide_eq_true_eq] at ht
    by_cases h1 : i = k
    · simpa only [tabErase, if_pos h1] using keysAbove_weaken (by omega) ht.2
    · by_cases h2 : k < i
      · simpa only [tabErase, if_neg h1, if_pos h2, keysAbove, Bool.and_eq_true, decide_eq_true_eq] using ht
      · simp only [tabErase, if_neg h1, if_neg h2, keysAbove, Bool.and_eq_true, decide_eq_true_eq]
        exact ⟨ht.1, keysAbove_erase k t (i + 1) ht.2⟩

theorem mem_erase {k : Nat} {e : Nat × α} : ∀ {t : Tab α}, e ∈ tabErase t k → e ∈ t
  | [], h => h
  | (i, w) :: t, h => by
    simp only [tabErase] at h
    split_ifs at h with h1 h2
    · exact List.mem_cons_of_mem _ h
    · exact h
    · rcases List.mem_cons.1 h with h | h
      · exact h ▸ List.mem_cons_self ..
      · exact List.mem_cons_of_mem _ (mem_erase h)

theorem mem_insert {k : Nat} {v : α} {e : Nat × α} : ∀ {t : Tab α}, e ∈ tabInsert t k v → e = (k, v) ∨ e ∈ t
  | [], h => .inl (List.mem_singleton.1 h)
  | (i, w) :: t, h => by
    simp only [tabInsert] at h
    split_ifs at h with h1 h2 <;> rcases List.mem_cons.1 h with h | h
    · exact .inl h
    · exact .inr (List.mem_cons_of_mem _ h)
    · exact .inl h
    · exact .inr h
    · exact .inr (h ▸ List.mem_cons_self ..)
    · exact (mem_insert h).imp_right (List.mem_cons_of_mem _)

theorem tabWf_iff [DecidableEq α] (d : Nat → α) (t : Tab α) :
    tabWf d t = true ↔ keysAbove 0 t = true ∧ ∀ e ∈ t, e.2 ≠ d e.1 := by
  simp [tabWf, List.all_eq_true]

/-- Setting a key keeps the canonical form. -/
theorem tabWf_set [DecidableEq α] (d : Nat → α) {t : Tab α} (h : tabWf d t = true) (k : Nat) (v : α) :
    tabWf d (tabSet d t k v) = true := by
  rw [tabWf_iff] at h ⊢
  unfold tabSet
  split_ifs with h1
  · exact ⟨keysAbove_erase k t 0 h.1, fun e he => h.2 e (mem_erase he)⟩
  · refine ⟨keysAbove_insert k v t 0 h.1 (by omega), fun e he => ?_⟩
    rcases mem_insert he with he | he
    · rw [he]
      exact h1
    · exact h.2 e he

theorem keysAbove_keep (p : Nat → Bool) : ∀ (t : Tab α) (b : Nat), keysAbove b t = true → keysAbove b (tabKeep p t) = true
  | [], _, _ => rfl
  | (i, w) :: t, b, ht => by
    simp only [keysAbove, Bool.and_eq_true, decide_eq_true_eq] at ht
    have ih := keysAbove_keep p t (i + 1) ht.2
    simp only [tabKeep, List.filter_cons] at ih ⊢
    split_ifs with h
    · simp only [keysAbove, Bool.and_eq_true, decide_eq_true_eq]
      exact ⟨ht.1, ih⟩
    · exact keysAbove_weaken (by omega) ih

/-- Keeping some keys keeps the canonical form. -/
theorem tabWf_keep [DecidableEq α] (d : Nat → α) (p : Nat → Bool) {t : Tab α} (h : tabWf d t = true) :
    tabWf d (tabKeep p t) = true := by
  rw [tabWf_iff] at h ⊢
  exact ⟨keysAbove_keep p t 0 h.1, fun e he => h.2 e (List.mem_filter.1 he).1⟩

end Sys2Proof.Machine
end

