-- ==== Sys2Proof/Laws/State.lean ====
section
/-! SUPPORT. Laws of the state: what each update leaves as it was, what a register or a field reads after a write, and that
the register file keeps its canonical form. -/

namespace Sys2Proof.Machine

/-! ### Fields that an update leaves -/

@[simp] theorem wr_frame (k : Nat) (w : Word) (s : State) :
    (wr k w s).pending = s.pending ∧ (wr k w s).fresh = s.fresh ∧ (wr k w s).out = s.out ∧
      (wr k w s).timeBase = s.timeBase ∧ (wr k w s).host = s.host ∧ (wr k w s).straps = s.straps ∧
      (wr k w s).fuses = s.fuses ∧ (wr k w s).boot = s.boot ∧ (wr k w s).sec = s.sec ∧ (wr k w s).power = s.power ∧
      (wr k w s).fault = s.fault ∧ (wr k w s).bmc = s.bmc ∧ (wr k w s).perf = s.perf ∧ (wr k w s).rects = s.rects ∧
      (wr k w s).store = s.store ∧ (wr k w s).sfn = s.sfn ∧ (wr k w s).cfn = s.cfn ∧ (wr k w s).assign = s.assign ∧
      (wr k w s).hold = s.hold ∧ (wr k w s).rsv = s.rsv ∧ (wr k w s).lanes = s.lanes ∧ (wr k w s).raster = s.raster ∧
      (wr k w s).hwl = s.hwl ∧ (wr k w s).comp = s.comp ∧ (wr k w s).tables = s.tables ∧ (wr k w s).pipe = s.pipe ∧
      (wr k w s).array = s.array ∧ (wr k w s).slk = s.slk ∧ (wr k w s).cdc = s.cdc :=
  by refine ⟨?_, ?_, ?_, ?_, ?_, ?_, ?_, ?_, ?_, ?_, ?_, ?_, ?_, ?_, ?_, ?_, ?_, ?_, ?_, ?_, ?_, ?_, ?_, ?_, ?_, ?_, ?_, ?_, ?_⟩ <;> rfl

@[simp] theorem wrF_frame (k : Nat) (f : Nat × Nat) (v : Nat) (s : State) :
    (wrF k f v s).pending = s.pending ∧ (wrF k f v s).fresh = s.fresh ∧ (wrF k f v s).out = s.out ∧
      (wrF k f v s).timeBase = s.timeBase ∧ (wrF k f v s).host = s.host ∧ (wrF k f v s).straps = s.straps ∧
      (wrF k f v s).fuses = s.fuses ∧ (wrF k f v s).boot = s.boot ∧ (wrF k f v s).sec = s.sec ∧
      (wrF k f v s).power = s.power ∧ (wrF k f v s).fault = s.fault ∧ (wrF k f v s).bmc = s.bmc ∧
      (wrF k f v s).perf = s.perf ∧ (wrF k f v s).rects = s.rects ∧ (wrF k f v s).store = s.store ∧
      (wrF k f v s).sfn = s.sfn ∧ (wrF k f v s).cfn = s.cfn ∧ (wrF k f v s).assign = s.assign ∧
      (wrF k f v s).hold = s.hold ∧ (wrF k f v s).rsv = s.rsv ∧ (wrF k f v s).lanes = s.lanes ∧
      (wrF k f v s).raster = s.raster ∧ (wrF k f v s).hwl = s.hwl ∧ (wrF k f v s).comp = s.comp ∧
      (wrF k f v s).tables = s.tables ∧ (wrF k f v s).pipe = s.pipe ∧ (wrF k f v s).array = s.array ∧
      (wrF k f v s).slk = s.slk ∧ (wrF k f v s).cdc = s.cdc :=
  by refine ⟨?_, ?_, ?_, ?_, ?_, ?_, ?_, ?_, ?_, ?_, ?_, ?_, ?_, ?_, ?_, ?_, ?_, ?_, ?_, ?_, ?_, ?_, ?_, ?_, ?_, ?_, ?_, ?_, ?_⟩ <;> rfl

@[simp] theorem bumpSat_frame (k : Nat) (f : Nat × Nat) (n : Nat) (s : State) :
    (bumpSat k f n s).pending = s.pending ∧ (bumpSat k f n s).fresh = s.fresh ∧ (bumpSat k f n s).out = s.out ∧
      (bumpSat k f n s).timeBase = s.timeBase ∧ (bumpSat k f n s).host = s.host ∧ (bumpSat k f n s).straps = s.straps ∧
      (bumpSat k f n s).fuses = s.fuses ∧ (bumpSat k f n s).boot = s.boot ∧ (bumpSat k f n s).sec = s.sec ∧
      (bumpSat k f n s).power = s.power ∧ (bumpSat k f n s).fault = s.fault ∧ (bumpSat k f n s).bmc = s.bmc ∧
      (bumpSat k f n s).perf = s.perf ∧ (bumpSat k f n s).rects = s.rects ∧ (bumpSat k f n s).store = s.store ∧
      (bumpSat k f n s).sfn = s.sfn ∧ (bumpSat k f n s).cfn = s.cfn ∧ (bumpSat k f n s).assign = s.assign ∧
      (bumpSat k f n s).hold = s.hold ∧ (bumpSat k f n s).rsv = s.rsv ∧ (bumpSat k f n s).lanes = s.lanes ∧
      (bumpSat k f n s).raster = s.raster ∧ (bumpSat k f n s).hwl = s.hwl ∧ (bumpSat k f n s).comp = s.comp ∧
      (bumpSat k f n s).tables = s.tables ∧ (bumpSat k f n s).pipe = s.pipe ∧ (bumpSat k f n s).array = s.array ∧
      (bumpSat k f n s).slk = s.slk ∧ (bumpSat k f n s).cdc = s.cdc :=
  by refine ⟨?_, ?_, ?_, ?_, ?_, ?_, ?_, ?_, ?_, ?_, ?_, ?_, ?_, ?_, ?_, ?_, ?_, ?_, ?_, ?_, ?_, ?_, ?_, ?_, ?_, ?_, ?_, ?_, ?_⟩ <;> rfl

@[simp] theorem emit_frame (o : Out) (s : State) :
    (emit o s).pending = s.pending ∧ (emit o s).fresh = s.fresh ∧ (emit o s).regs = s.regs ∧
      (emit o s).timeBase = s.timeBase ∧ (emit o s).host = s.host ∧ (emit o s).straps = s.straps ∧
      (emit o s).fuses = s.fuses ∧ (emit o s).boot = s.boot ∧ (emit o s).sec = s.sec ∧ (emit o s).power = s.power ∧
      (emit o s).fault = s.fault ∧ (emit o s).bmc = s.bmc ∧ (emit o s).perf = s.perf ∧ (emit o s).rects = s.rects ∧
      (emit o s).store = s.store ∧ (emit o s).sfn = s.sfn ∧ (emit o s).cfn = s.cfn ∧ (emit o s).assign = s.assign ∧
      (emit o s).hold = s.hold ∧ (emit o s).rsv = s.rsv ∧ (emit o s).lanes = s.lanes ∧ (emit o s).raster = s.raster ∧
      (emit o s).hwl = s.hwl ∧ (emit o s).comp = s.comp ∧ (emit o s).tables = s.tables ∧ (emit o s).pipe = s.pipe ∧
      (emit o s).array = s.array ∧ (emit o s).slk = s.slk ∧ (emit o s).cdc = s.cdc :=
  by refine ⟨?_, ?_, ?_, ?_, ?_, ?_, ?_, ?_, ?_, ?_, ?_, ?_, ?_, ?_, ?_, ?_, ?_, ?_, ?_, ?_, ?_, ?_, ?_, ?_, ?_, ?_, ?_, ?_, ?_⟩ <;> rfl

@[simp] theorem tick_frame (s : State) :
    (tick s).pending = s.pending ∧ (tick s).regs = s.regs ∧ (tick s).out = s.out ∧ (tick s).timeBase = s.timeBase ∧
      (tick s).host = s.host ∧ (tick s).straps = s.straps ∧ (tick s).fuses = s.fuses ∧ (tick s).boot = s.boot ∧
      (tick s).sec = s.sec ∧ (tick s).power = s.power ∧ (tick s).fault = s.fault ∧ (tick s).bmc = s.bmc ∧
      (tick s).perf = s.perf ∧ (tick s).rects = s.rects ∧ (tick s).store = s.store ∧ (tick s).sfn = s.sfn ∧
      (tick s).cfn = s.cfn ∧ (tick s).assign = s.assign ∧ (tick s).hold = s.hold ∧ (tick s).rsv = s.rsv ∧
      (tick s).lanes = s.lanes ∧ (tick s).raster = s.raster ∧ (tick s).hwl = s.hwl ∧ (tick s).comp = s.comp ∧
      (tick s).tables = s.tables ∧ (tick s).pipe = s.pipe ∧ (tick s).array = s.array ∧ (tick s).slk = s.slk ∧
      (tick s).cdc = s.cdc :=
  by refine ⟨?_, ?_, ?_, ?_, ?_, ?_, ?_, ?_, ?_, ?_, ?_, ?_, ?_, ?_, ?_, ?_, ?_, ?_, ?_, ?_, ?_, ?_, ?_, ?_, ?_, ?_, ?_, ?_, ?_⟩ <;> rfl

@[simp] theorem setCtr_frame (n : Nat) (c : Ctr) (s : State) :
    (setCtr n c s).pending = s.pending ∧ (setCtr n c s).fresh = s.fresh ∧ (setCtr n c s).regs = s.regs ∧
      (setCtr n c s).out = s.out ∧ (setCtr n c s).timeBase = s.timeBase ∧ (setCtr n c s).host = s.host ∧
      (setCtr n c s).straps = s.straps ∧ (setCtr n c s).fuses = s.fuses ∧ (setCtr n c s).boot = s.boot ∧
      (setCtr n c s).sec = s.sec ∧ (setCtr n c s).power = s.power ∧ (setCtr n c s).fault = s.fault ∧
      (setCtr n c s).bmc = s.bmc ∧ (setCtr n c s).rects = s.rects ∧ (setCtr n c s).store = s.store ∧
      (setCtr n c s).sfn = s.sfn ∧ (setCtr n c s).cfn = s.cfn ∧ (setCtr n c s).assign = s.assign ∧
      (setCtr n c s).hold = s.hold ∧ (setCtr n c s).rsv = s.rsv ∧ (setCtr n c s).lanes = s.lanes ∧
      (setCtr n c s).raster = s.raster ∧ (setCtr n c s).hwl = s.hwl ∧ (setCtr n c s).comp = s.comp ∧
      (setCtr n c s).tables = s.tables ∧ (setCtr n c s).pipe = s.pipe ∧ (setCtr n c s).array = s.array ∧
      (setCtr n c s).slk = s.slk ∧ (setCtr n c s).cdc = s.cdc :=
  by refine ⟨?_, ?_, ?_, ?_, ?_, ?_, ?_, ?_, ?_, ?_, ?_, ?_, ?_, ?_, ?_, ?_, ?_, ?_, ?_, ?_, ?_, ?_, ?_, ?_, ?_, ?_, ?_, ?_, ?_⟩ <;> rfl

@[simp] theorem flagOverflow_frame (s : State) :
    (flagOverflow s).pending = s.pending ∧ (flagOverflow s).fresh = s.fresh ∧ (flagOverflow s).out = s.out ∧
      (flagOverflow s).timeBase = s.timeBase ∧ (flagOverflow s).host = s.host ∧ (flagOverflow s).straps = s.straps ∧
      (flagOverflow s).fuses = s.fuses ∧ (flagOverflow s).boot = s.boot ∧ (flagOverflow s).sec = s.sec ∧
      (flagOverflow s).power = s.power ∧ (flagOverflow s).fault = s.fault ∧ (flagOverflow s).bmc = s.bmc ∧
      (flagOverflow s).perf = s.perf ∧ (flagOverflow s).rects = s.rects ∧ (flagOverflow s).store = s.store ∧
      (flagOverflow s).sfn = s.sfn ∧ (flagOverflow s).cfn = s.cfn ∧ (flagOverflow s).assign = s.assign ∧
      (flagOverflow s).hold = s.hold ∧ (flagOverflow s).rsv = s.rsv ∧ (flagOverflow s).lanes = s.lanes ∧
      (flagOverflow s).raster = s.raster ∧ (flagOverflow s).hwl = s.hwl ∧ (flagOverflow s).comp = s.comp ∧
      (flagOverflow s).tables = s.tables ∧ (flagOverflow s).pipe = s.pipe ∧ (flagOverflow s).array = s.array ∧
      (flagOverflow s).slk = s.slk ∧ (flagOverflow s).cdc = s.cdc :=
  by refine ⟨?_, ?_, ?_, ?_, ?_, ?_, ?_, ?_, ?_, ?_, ?_, ?_, ?_, ?_, ?_, ?_, ?_, ?_, ?_, ?_, ?_, ?_, ?_, ?_, ?_, ?_, ?_, ?_, ?_⟩ <;> rfl

@[simp] theorem setPort_frame (p : Nat) (v : PortState) (s : State) :
    (setPort p v s).pending = s.pending ∧ (setPort p v s).fresh = s.fresh ∧ (setPort p v s).regs = s.regs ∧
      (setPort p v s).out = s.out ∧ (setPort p v s).timeBase = s.timeBase ∧ (setPort p v s).straps = s.straps ∧
      (setPort p v s).fuses = s.fuses ∧ (setPort p v s).boot = s.boot ∧ (setPort p v s).sec = s.sec ∧
      (setPort p v s).power = s.power ∧ (setPort p v s).fault = s.fault ∧ (setPort p v s).bmc = s.bmc ∧
      (setPort p v s).perf = s.perf ∧ (setPort p v s).rects = s.rects ∧ (setPort p v s).store = s.store ∧
      (setPort p v s).sfn = s.sfn ∧ (setPort p v s).cfn = s.cfn ∧ (setPort p v s).assign = s.assign ∧
      (setPort p v s).hold = s.hold ∧ (setPort p v s).rsv = s.rsv ∧ (setPort p v s).lanes = s.lanes ∧
      (setPort p v s).raster = s.raster ∧ (setPort p v s).hwl = s.hwl ∧ (setPort p v s).comp = s.comp ∧
      (setPort p v s).tables = s.tables ∧ (setPort p v s).pipe = s.pipe ∧ (setPort p v s).array = s.array ∧
      (setPort p v s).slk = s.slk ∧ (setPort p v s).cdc = s.cdc :=
  by refine ⟨?_, ?_, ?_, ?_, ?_, ?_, ?_, ?_, ?_, ?_, ?_, ?_, ?_, ?_, ?_, ?_, ?_, ?_, ?_, ?_, ?_, ?_, ?_, ?_, ?_, ?_, ?_, ?_, ?_⟩ <;> rfl

@[simp] theorem setSq_frame (p n : Nat) (v : SqState) (s : State) :
    (setSq p n v s).pending = s.pending ∧ (setSq p n v s).fresh = s.fresh ∧ (setSq p n v s).regs = s.regs ∧
      (setSq p n v s).out = s.out ∧ (setSq p n v s).timeBase = s.timeBase ∧ (setSq p n v s).straps = s.straps ∧
      (setSq p n v s).fuses = s.fuses ∧ (setSq p n v s).boot = s.boot ∧ (setSq p n v s).sec = s.sec ∧
      (setSq p n v s).power = s.power ∧ (setSq p n v s).fault = s.fault ∧ (setSq p n v s).bmc = s.bmc ∧
      (setSq p n v s).perf = s.perf ∧ (setSq p n v s).rects = s.rects ∧ (setSq p n v s).store = s.store ∧
      (setSq p n v s).sfn = s.sfn ∧ (setSq p n v s).cfn = s.cfn ∧ (setSq p n v s).assign = s.assign ∧
      (setSq p n v s).hold = s.hold ∧ (setSq p n v s).rsv = s.rsv ∧ (setSq p n v s).lanes = s.lanes ∧
      (setSq p n v s).raster = s.raster ∧ (setSq p n v s).hwl = s.hwl ∧ (setSq p n v s).comp = s.comp ∧
      (setSq p n v s).tables = s.tables ∧ (setSq p n v s).pipe = s.pipe ∧ (setSq p n v s).array = s.array ∧
      (setSq p n v s).slk = s.slk ∧ (setSq p n v s).cdc = s.cdc :=
  by refine ⟨?_, ?_, ?_, ?_, ?_, ?_, ?_, ?_, ?_, ?_, ?_, ?_, ?_, ?_, ?_, ?_, ?_, ?_, ?_, ?_, ?_, ?_, ?_, ?_, ?_, ?_, ?_, ?_, ?_⟩ <;> rfl

@[simp] theorem setCq_frame (p n : Nat) (v : CqState) (s : State) :
    (setCq p n v s).pending = s.pending ∧ (setCq p n v s).fresh = s.fresh ∧ (setCq p n v s).regs = s.regs ∧
      (setCq p n v s).out = s.out ∧ (setCq p n v s).timeBase = s.timeBase ∧ (setCq p n v s).straps = s.straps ∧
      (setCq p n v s).fuses = s.fuses ∧ (setCq p n v s).boot = s.boot ∧ (setCq p n v s).sec = s.sec ∧
      (setCq p n v s).power = s.power ∧ (setCq p n v s).fault = s.fault ∧ (setCq p n v s).bmc = s.bmc ∧
      (setCq p n v s).perf = s.perf ∧ (setCq p n v s).rects = s.rects ∧ (setCq p n v s).store = s.store ∧
      (setCq p n v s).sfn = s.sfn ∧ (setCq p n v s).cfn = s.cfn ∧ (setCq p n v s).assign = s.assign ∧
      (setCq p n v s).hold = s.hold ∧ (setCq p n v s).rsv = s.rsv ∧ (setCq p n v s).lanes = s.lanes ∧
      (setCq p n v s).raster = s.raster ∧ (setCq p n v s).hwl = s.hwl ∧ (setCq p n v s).comp = s.comp ∧
      (setCq p n v s).tables = s.tables ∧ (setCq p n v s).pipe = s.pipe ∧ (setCq p n v s).array = s.array ∧
      (setCq p n v s).slk = s.slk ∧ (setCq p n v s).cdc = s.cdc :=
  by refine ⟨?_, ?_, ?_, ?_, ?_, ?_, ?_, ?_, ?_, ?_, ?_, ?_, ?_, ?_, ?_, ?_, ?_, ?_, ?_, ?_, ?_, ?_, ?_, ?_, ?_, ?_, ?_, ?_, ?_⟩ <;> rfl

@[simp] theorem setEvq_frame (p : Nat) (v : CqState) (s : State) :
    (setEvq p v s).pending = s.pending ∧ (setEvq p v s).fresh = s.fresh ∧ (setEvq p v s).regs = s.regs ∧
      (setEvq p v s).out = s.out ∧ (setEvq p v s).timeBase = s.timeBase ∧ (setEvq p v s).straps = s.straps ∧
      (setEvq p v s).fuses = s.fuses ∧ (setEvq p v s).boot = s.boot ∧ (setEvq p v s).sec = s.sec ∧
      (setEvq p v s).power = s.power ∧ (setEvq p v s).fault = s.fault ∧ (setEvq p v s).bmc = s.bmc ∧
      (setEvq p v s).perf = s.perf ∧ (setEvq p v s).rects = s.rects ∧ (setEvq p v s).store = s.store ∧
      (setEvq p v s).sfn = s.sfn ∧ (setEvq p v s).cfn = s.cfn ∧ (setEvq p v s).assign = s.assign ∧
      (setEvq p v s).hold = s.hold ∧ (setEvq p v s).rsv = s.rsv ∧ (setEvq p v s).lanes = s.lanes ∧
      (setEvq p v s).raster = s.raster ∧ (setEvq p v s).hwl = s.hwl ∧ (setEvq p v s).comp = s.comp ∧
      (setEvq p v s).tables = s.tables ∧ (setEvq p v s).pipe = s.pipe ∧ (setEvq p v s).array = s.array ∧
      (setEvq p v s).slk = s.slk ∧ (setEvq p v s).cdc = s.cdc :=
  by refine ⟨?_, ?_, ?_, ?_, ?_, ?_, ?_, ?_, ?_, ?_, ?_, ?_, ?_, ?_, ?_, ?_, ?_, ?_, ?_, ?_, ?_, ?_, ?_, ?_, ?_, ?_, ?_, ?_, ?_⟩ <;> rfl

@[simp] theorem setDsc_frame (d : Dsc) (s : State) :
    (setDsc d s).pending = s.pending ∧ (setDsc d s).fresh = s.fresh ∧ (setDsc d s).regs = s.regs ∧
      (setDsc d s).out = s.out ∧ (setDsc d s).timeBase = s.timeBase ∧ (setDsc d s).straps = s.straps ∧
      (setDsc d s).fuses = s.fuses ∧ (setDsc d s).boot = s.boot ∧ (setDsc d s).sec = s.sec ∧ (setDsc d s).power = s.power ∧
      (setDsc d s).fault = s.fault ∧ (setDsc d s).bmc = s.bmc ∧ (setDsc d s).perf = s.perf ∧ (setDsc d s).rects = s.rects ∧
      (setDsc d s).store = s.store ∧ (setDsc d s).sfn = s.sfn ∧ (setDsc d s).cfn = s.cfn ∧ (setDsc d s).assign = s.assign ∧
      (setDsc d s).hold = s.hold ∧ (setDsc d s).rsv = s.rsv ∧ (setDsc d s).lanes = s.lanes ∧
      (setDsc d s).raster = s.raster ∧ (setDsc d s).hwl = s.hwl ∧ (setDsc d s).comp = s.comp ∧
      (setDsc d s).tables = s.tables ∧ (setDsc d s).pipe = s.pipe ∧ (setDsc d s).array = s.array ∧
      (setDsc d s).slk = s.slk ∧ (setDsc d s).cdc = s.cdc :=
  by refine ⟨?_, ?_, ?_, ?_, ?_, ?_, ?_, ?_, ?_, ?_, ?_, ?_, ?_, ?_, ?_, ?_, ?_, ?_, ?_, ?_, ?_, ?_, ?_, ?_, ?_, ?_, ?_, ?_, ?_⟩ <;> rfl

@[simp] theorem dropDsc_frame (d : Dsc) (s : State) :
    (dropDsc d s).pending = s.pending ∧ (dropDsc d s).fresh = s.fresh ∧ (dropDsc d s).regs = s.regs ∧
      (dropDsc d s).out = s.out ∧ (dropDsc d s).timeBase = s.timeBase ∧ (dropDsc d s).straps = s.straps ∧
      (dropDsc d s).fuses = s.fuses ∧ (dropDsc d s).boot = s.boot ∧ (dropDsc d s).sec = s.sec ∧
      (dropDsc d s).power = s.power ∧ (dropDsc d s).fault = s.fault ∧ (dropDsc d s).bmc = s.bmc ∧
      (dropDsc d s).perf = s.perf ∧ (dropDsc d s).rects = s.rects ∧ (dropDsc d s).store = s.store ∧
      (dropDsc d s).sfn = s.sfn ∧ (dropDsc d s).cfn = s.cfn ∧ (dropDsc d s).assign = s.assign ∧
      (dropDsc d s).hold = s.hold ∧ (dropDsc d s).rsv = s.rsv ∧ (dropDsc d s).lanes = s.lanes ∧
      (dropDsc d s).raster = s.raster ∧ (dropDsc d s).hwl = s.hwl ∧ (dropDsc d s).comp = s.comp ∧
      (dropDsc d s).tables = s.tables ∧ (dropDsc d s).pipe = s.pipe ∧ (dropDsc d s).array = s.array ∧
      (dropDsc d s).slk = s.slk ∧ (dropDsc d s).cdc = s.cdc :=
  by refine ⟨?_, ?_, ?_, ?_, ?_, ?_, ?_, ?_, ?_, ?_, ?_, ?_, ?_, ?_, ?_, ?_, ?_, ?_, ?_, ?_, ?_, ?_, ?_, ?_, ?_, ?_, ?_, ?_, ?_⟩ <;> rfl

@[simp] theorem setRunning_frame (d : Dsc) (s : State) :
    (setRunning d s).pending = s.pending ∧ (setRunning d s).fresh = s.fresh ∧ (setRunning d s).regs = s.regs ∧
      (setRunning d s).out = s.out ∧ (setRunning d s).timeBase = s.timeBase ∧ (setRunning d s).straps = s.straps ∧
      (setRunning d s).fuses = s.fuses ∧ (setRunning d s).boot = s.boot ∧ (setRunning d s).sec = s.sec ∧
      (setRunning d s).power = s.power ∧ (setRunning d s).fault = s.fault ∧ (setRunning d s).bmc = s.bmc ∧
      (setRunning d s).perf = s.perf ∧ (setRunning d s).rects = s.rects ∧ (setRunning d s).store = s.store ∧
      (setRunning d s).sfn = s.sfn ∧ (setRunning d s).cfn = s.cfn ∧ (setRunning d s).assign = s.assign ∧
      (setRunning d s).hold = s.hold ∧ (setRunning d s).rsv = s.rsv ∧ (setRunning d s).lanes = s.lanes ∧
      (setRunning d s).raster = s.raster ∧ (setRunning d s).hwl = s.hwl ∧ (setRunning d s).comp = s.comp ∧
      (setRunning d s).tables = s.tables ∧ (setRunning d s).pipe = s.pipe ∧ (setRunning d s).array = s.array ∧
      (setRunning d s).slk = s.slk ∧ (setRunning d s).cdc = s.cdc :=
  by refine ⟨?_, ?_, ?_, ?_, ?_, ?_, ?_, ?_, ?_, ?_, ?_, ?_, ?_, ?_, ?_, ?_, ?_, ?_, ?_, ?_, ?_, ?_, ?_, ?_, ?_, ?_, ?_, ?_, ?_⟩ <;> rfl

@[simp] theorem setBoot_frame (v : BootState) (s : State) :
    (setBoot v s).pending = s.pending ∧ (setBoot v s).fresh = s.fresh ∧ (setBoot v s).regs = s.regs ∧
      (setBoot v s).out = s.out ∧ (setBoot v s).timeBase = s.timeBase ∧ (setBoot v s).host = s.host ∧
      (setBoot v s).straps = s.straps ∧ (setBoot v s).fuses = s.fuses ∧ (setBoot v s).sec = s.sec ∧
      (setBoot v s).power = s.power ∧ (setBoot v s).fault = s.fault ∧ (setBoot v s).bmc = s.bmc ∧
      (setBoot v s).perf = s.perf ∧ (setBoot v s).rects = s.rects ∧ (setBoot v s).store = s.store ∧
      (setBoot v s).sfn = s.sfn ∧ (setBoot v s).cfn = s.cfn ∧ (setBoot v s).assign = s.assign ∧
      (setBoot v s).hold = s.hold ∧ (setBoot v s).rsv = s.rsv ∧ (setBoot v s).lanes = s.lanes ∧
      (setBoot v s).raster = s.raster ∧ (setBoot v s).hwl = s.hwl ∧ (setBoot v s).comp = s.comp ∧
      (setBoot v s).tables = s.tables ∧ (setBoot v s).pipe = s.pipe ∧ (setBoot v s).array = s.array ∧
      (setBoot v s).slk = s.slk ∧ (setBoot v s).cdc = s.cdc :=
  by refine ⟨?_, ?_, ?_, ?_, ?_, ?_, ?_, ?_, ?_, ?_, ?_, ?_, ?_, ?_, ?_, ?_, ?_, ?_, ?_, ?_, ?_, ?_, ?_, ?_, ?_, ?_, ?_, ?_, ?_⟩ <;> rfl

@[simp] theorem setPower_frame (v : PowerState) (s : State) :
    (setPower v s).pending = s.pending ∧ (setPower v s).fresh = s.fresh ∧ (setPower v s).regs = s.regs ∧
      (setPower v s).out = s.out ∧ (setPower v s).timeBase = s.timeBase ∧ (setPower v s).host = s.host ∧
      (setPower v s).straps = s.straps ∧ (setPower v s).fuses = s.fuses ∧ (setPower v s).boot = s.boot ∧
      (setPower v s).sec = s.sec ∧ (setPower v s).fault = s.fault ∧ (setPower v s).bmc = s.bmc ∧
      (setPower v s).perf = s.perf ∧ (setPower v s).rects = s.rects ∧ (setPower v s).store = s.store ∧
      (setPower v s).sfn = s.sfn ∧ (setPower v s).cfn = s.cfn ∧ (setPower v s).assign = s.assign ∧
      (setPower v s).hold = s.hold ∧ (setPower v s).rsv = s.rsv ∧ (setPower v s).lanes = s.lanes ∧
      (setPower v s).raster = s.raster ∧ (setPower v s).hwl = s.hwl ∧ (setPower v s).comp = s.comp ∧
      (setPower v s).tables = s.tables ∧ (setPower v s).pipe = s.pipe ∧ (setPower v s).array = s.array ∧
      (setPower v s).slk = s.slk ∧ (setPower v s).cdc = s.cdc :=
  by refine ⟨?_, ?_, ?_, ?_, ?_, ?_, ?_, ?_, ?_, ?_, ?_, ?_, ?_, ?_, ?_, ?_, ?_, ?_, ?_, ?_, ?_, ?_, ?_, ?_, ?_, ?_, ?_, ?_, ?_⟩ <;> rfl

@[simp] theorem setSec_frame (v : SecState) (s : State) :
    (setSec v s).pending = s.pending ∧ (setSec v s).fresh = s.fresh ∧ (setSec v s).regs = s.regs ∧
      (setSec v s).out = s.out ∧ (setSec v s).timeBase = s.timeBase ∧ (setSec v s).host = s.host ∧
      (setSec v s).straps = s.straps ∧ (setSec v s).fuses = s.fuses ∧ (setSec v s).boot = s.boot ∧
      (setSec v s).power = s.power ∧ (setSec v s).fault = s.fault ∧ (setSec v s).bmc = s.bmc ∧ (setSec v s).perf = s.perf ∧
      (setSec v s).rects = s.rects ∧ (setSec v s).store = s.store ∧ (setSec v s).sfn = s.sfn ∧ (setSec v s).cfn = s.cfn ∧
      (setSec v s).assign = s.assign ∧ (setSec v s).hold = s.hold ∧ (setSec v s).rsv = s.rsv ∧
      (setSec v s).lanes = s.lanes ∧ (setSec v s).raster = s.raster ∧ (setSec v s).hwl = s.hwl ∧
      (setSec v s).comp = s.comp ∧ (setSec v s).tables = s.tables ∧ (setSec v s).pipe = s.pipe ∧
      (setSec v s).array = s.array ∧ (setSec v s).slk = s.slk ∧ (setSec v s).cdc = s.cdc :=
  by refine ⟨?_, ?_, ?_, ?_, ?_, ?_, ?_, ?_, ?_, ?_, ?_, ?_, ?_, ?_, ?_, ?_, ?_, ?_, ?_, ?_, ?_, ?_, ?_, ?_, ?_, ?_, ?_, ?_, ?_⟩ <;> rfl

@[simp] theorem setTables_frame (v : TableState) (s : State) :
    (setTables v s).pending = s.pending ∧ (setTables v s).fresh = s.fresh ∧ (setTables v s).regs = s.regs ∧
      (setTables v s).out = s.out ∧ (setTables v s).timeBase = s.timeBase ∧ (setTables v s).host = s.host ∧
      (setTables v s).straps = s.straps ∧ (setTables v s).fuses = s.fuses ∧ (setTables v s).boot = s.boot ∧
      (setTables v s).sec = s.sec ∧ (setTables v s).power = s.power ∧ (setTables v s).fault = s.fault ∧
      (setTables v s).bmc = s.bmc ∧ (setTables v s).perf = s.perf ∧ (setTables v s).rects = s.rects ∧
      (setTables v s).store = s.store ∧ (setTables v s).sfn = s.sfn ∧ (setTables v s).cfn = s.cfn ∧
      (setTables v s).assign = s.assign ∧ (setTables v s).hold = s.hold ∧ (setTables v s).rsv = s.rsv ∧
      (setTables v s).lanes = s.lanes ∧ (setTables v s).raster = s.raster ∧ (setTables v s).hwl = s.hwl ∧
      (setTables v s).comp = s.comp ∧ (setTables v s).pipe = s.pipe ∧ (setTables v s).array = s.array ∧
      (setTables v s).slk = s.slk ∧ (setTables v s).cdc = s.cdc :=
  by refine ⟨?_, ?_, ?_, ?_, ?_, ?_, ?_, ?_, ?_, ?_, ?_, ?_, ?_, ?_, ?_, ?_, ?_, ?_, ?_, ?_, ?_, ?_, ?_, ?_, ?_, ?_, ?_, ?_, ?_⟩ <;> rfl

@[simp] theorem setLane_frame (l a : Nat) (v : LaneState) (s : State) :
    (setLane l a v s).pending = s.pending ∧ (setLane l a v s).fresh = s.fresh ∧ (setLane l a v s).regs = s.regs ∧
      (setLane l a v s).out = s.out ∧ (setLane l a v s).timeBase = s.timeBase ∧ (setLane l a v s).host = s.host ∧
      (setLane l a v s).straps = s.straps ∧ (setLane l a v s).fuses = s.fuses ∧ (setLane l a v s).boot = s.boot ∧
      (setLane l a v s).sec = s.sec ∧ (setLane l a v s).power = s.power ∧ (setLane l a v s).fault = s.fault ∧
      (setLane l a v s).bmc = s.bmc ∧ (setLane l a v s).perf = s.perf ∧ (setLane l a v s).rects = s.rects ∧
      (setLane l a v s).store = s.store ∧ (setLane l a v s).sfn = s.sfn ∧ (setLane l a v s).cfn = s.cfn ∧
      (setLane l a v s).assign = s.assign ∧ (setLane l a v s).hold = s.hold ∧ (setLane l a v s).rsv = s.rsv ∧
      (setLane l a v s).raster = s.raster ∧ (setLane l a v s).hwl = s.hwl ∧ (setLane l a v s).comp = s.comp ∧
      (setLane l a v s).tables = s.tables ∧ (setLane l a v s).pipe = s.pipe ∧ (setLane l a v s).array = s.array ∧
      (setLane l a v s).slk = s.slk ∧ (setLane l a v s).cdc = s.cdc :=
  by refine ⟨?_, ?_, ?_, ?_, ?_, ?_, ?_, ?_, ?_, ?_, ?_, ?_, ?_, ?_, ?_, ?_, ?_, ?_, ?_, ?_, ?_, ?_, ?_, ?_, ?_, ?_, ?_, ?_, ?_⟩ <;> rfl

@[simp] theorem setLayer_frame (i : Nat) (v : LayerState) (s : State) :
    (setLayer i v s).pending = s.pending ∧ (setLayer i v s).fresh = s.fresh ∧ (setLayer i v s).regs = s.regs ∧
      (setLayer i v s).out = s.out ∧ (setLayer i v s).timeBase = s.timeBase ∧ (setLayer i v s).host = s.host ∧
      (setLayer i v s).straps = s.straps ∧ (setLayer i v s).fuses = s.fuses ∧ (setLayer i v s).boot = s.boot ∧
      (setLayer i v s).sec = s.sec ∧ (setLayer i v s).power = s.power ∧ (setLayer i v s).fault = s.fault ∧
      (setLayer i v s).bmc = s.bmc ∧ (setLayer i v s).perf = s.perf ∧ (setLayer i v s).rects = s.rects ∧
      (setLayer i v s).store = s.store ∧ (setLayer i v s).sfn = s.sfn ∧ (setLayer i v s).cfn = s.cfn ∧
      (setLayer i v s).assign = s.assign ∧ (setLayer i v s).hold = s.hold ∧ (setLayer i v s).rsv = s.rsv ∧
      (setLayer i v s).lanes = s.lanes ∧ (setLayer i v s).raster = s.raster ∧ (setLayer i v s).hwl = s.hwl ∧
      (setLayer i v s).tables = s.tables ∧ (setLayer i v s).pipe = s.pipe ∧ (setLayer i v s).array = s.array ∧
      (setLayer i v s).slk = s.slk ∧ (setLayer i v s).cdc = s.cdc :=
  by refine ⟨?_, ?_, ?_, ?_, ?_, ?_, ?_, ?_, ?_, ?_, ?_, ?_, ?_, ?_, ?_, ?_, ?_, ?_, ?_, ?_, ?_, ?_, ?_, ?_, ?_, ?_, ?_, ?_, ?_⟩ <;> rfl

@[simp] theorem setEngine_frame (e : Nat) (v : Engine) (s : State) :
    (setEngine e v s).pending = s.pending ∧ (setEngine e v s).fresh = s.fresh ∧ (setEngine e v s).regs = s.regs ∧
      (setEngine e v s).out = s.out ∧ (setEngine e v s).timeBase = s.timeBase ∧ (setEngine e v s).host = s.host ∧
      (setEngine e v s).straps = s.straps ∧ (setEngine e v s).fuses = s.fuses ∧ (setEngine e v s).boot = s.boot ∧
      (setEngine e v s).sec = s.sec ∧ (setEngine e v s).power = s.power ∧ (setEngine e v s).fault = s.fault ∧
      (setEngine e v s).bmc = s.bmc ∧ (setEngine e v s).perf = s.perf ∧ (setEngine e v s).rects = s.rects ∧
      (setEngine e v s).store = s.store ∧ (setEngine e v s).sfn = s.sfn ∧ (setEngine e v s).cfn = s.cfn ∧
      (setEngine e v s).assign = s.assign ∧ (setEngine e v s).hold = s.hold ∧ (setEngine e v s).rsv = s.rsv ∧
      (setEngine e v s).lanes = s.lanes ∧ (setEngine e v s).raster = s.raster ∧ (setEngine e v s).hwl = s.hwl ∧
      (setEngine e v s).comp = s.comp ∧ (setEngine e v s).tables = s.tables ∧ (setEngine e v s).pipe = s.pipe ∧
      (setEngine e v s).slk = s.slk ∧ (setEngine e v s).cdc = s.cdc :=
  by refine ⟨?_, ?_, ?_, ?_, ?_, ?_, ?_, ?_, ?_, ?_, ?_, ?_, ?_, ?_, ?_, ?_, ?_, ?_, ?_, ?_, ?_, ?_, ?_, ?_, ?_, ?_, ?_, ?_, ?_⟩ <;> rfl

@[simp] theorem setCluster_frame (c : Nat) (v : Cluster) (s : State) :
    (setCluster c v s).pending = s.pending ∧ (setCluster c v s).fresh = s.fresh ∧ (setCluster c v s).regs = s.regs ∧
      (setCluster c v s).out = s.out ∧ (setCluster c v s).timeBase = s.timeBase ∧ (setCluster c v s).host = s.host ∧
      (setCluster c v s).straps = s.straps ∧ (setCluster c v s).fuses = s.fuses ∧ (setCluster c v s).boot = s.boot ∧
      (setCluster c v s).sec = s.sec ∧ (setCluster c v s).power = s.power ∧ (setCluster c v s).fault = s.fault ∧
      (setCluster c v s).bmc = s.bmc ∧ (setCluster c v s).perf = s.perf ∧ (setCluster c v s).rects = s.rects ∧
      (setCluster c v s).store = s.store ∧ (setCluster c v s).sfn = s.sfn ∧ (setCluster c v s).cfn = s.cfn ∧
      (setCluster c v s).assign = s.assign ∧ (setCluster c v s).hold = s.hold ∧ (setCluster c v s).rsv = s.rsv ∧
      (setCluster c v s).lanes = s.lanes ∧ (setCluster c v s).raster = s.raster ∧ (setCluster c v s).hwl = s.hwl ∧
      (setCluster c v s).comp = s.comp ∧ (setCluster c v s).tables = s.tables ∧ (setCluster c v s).pipe = s.pipe ∧
      (setCluster c v s).slk = s.slk ∧ (setCluster c v s).cdc = s.cdc :=
  by refine ⟨?_, ?_, ?_, ?_, ?_, ?_, ?_, ?_, ?_, ?_, ?_, ?_, ?_, ?_, ?_, ?_, ?_, ?_, ?_, ?_, ?_, ?_, ?_, ?_, ?_, ?_, ?_, ?_, ?_⟩ <;> rfl

/-! ### Operations that touch registers and counters alone -/

/-- The state without its registers and counters. -/
def State.still (s : State) : State := { s with regs := [], perf := {} }

/-- Two states that differ in registers and counters alone. -/
theorem still_frame {s t : State} (h : t.still = s.still) :
    t.pending = s.pending ∧ t.fresh = s.fresh ∧ t.out = s.out ∧ t.timeBase = s.timeBase ∧ t.host = s.host ∧
      t.straps = s.straps ∧ t.fuses = s.fuses ∧ t.boot = s.boot ∧ t.sec = s.sec ∧ t.power = s.power ∧
      t.fault = s.fault ∧ t.bmc = s.bmc ∧ t.rects = s.rects ∧ t.store = s.store ∧ t.sfn = s.sfn ∧
      t.cfn = s.cfn ∧ t.assign = s.assign ∧ t.hold = s.hold ∧ t.rsv = s.rsv ∧ t.lanes = s.lanes ∧
      t.raster = s.raster ∧ t.hwl = s.hwl ∧ t.comp = s.comp ∧ t.tables = s.tables ∧ t.pipe = s.pipe ∧
      t.array = s.array ∧ t.slk = s.slk ∧ t.cdc = s.cdc := by
  obtain ⟨⟩ := t
  obtain ⟨⟩ := s
  simp only [State.still, State.mk.injEq] at h
  simp only [h, and_self]

@[simp] theorem wr_still (k : Nat) (w : Word) (s : State) : (wr k w s).still = s.still := (rfl)
@[simp] theorem wrF_still (k : Nat) (f : Nat × Nat) (v : Nat) (s : State) : (wrF k f v s).still = s.still := (rfl)
@[simp] theorem bumpSat_still (k : Nat) (f : Nat × Nat) (n : Nat) (s : State) : (bumpSat k f n s).still = s.still := (rfl)
@[simp] theorem setCtr_still (n : Nat) (c : Ctr) (s : State) : (setCtr n c s).still = s.still := (rfl)
@[simp] theorem flagOverflow_still (s : State) : (flagOverflow s).still = s.still := (rfl)

@[simp] theorem writeRw_still (k : Nat) (w : Word) (s : State) : (writeRw k w s).still = s.still := by
  unfold writeRw
  split <;> rfl

@[simp] theorem ctrAddOne_still (n v : Nat) (s : State) : (ctrAddOne n v s).still = s.still := by
  unfold ctrAddOne
  dsimp only
  split <;> rfl

@[simp] theorem ctrCarry_still (n v : Nat) (s : State) : (ctrCarry n v s).still = s.still := by
  unfold ctrCarry
  split_ifs <;> simp

@[simp] theorem ctrAdd_still (n v : Nat) (s : State) : (ctrAdd n v s).still = s.still := by
  unfold ctrAdd
  dsimp only
  split_ifs <;> simp

theorem foldl_still {α : Type} (f : State → α → State) (h : ∀ s a, (f s a).still = s.still) :
    ∀ (l : List α) (s : State), (l.foldl f s).still = s.still
  | [], _ => rfl
  | a :: l, s => (foldl_still f h l (f s a)).trans (h s a)

@[simp] theorem countEvent_still (u ev v : Nat) (s : State) : (countEvent u ev v s).still = s.still := by
  unfold countEvent
  split_ifs
  · rfl
  · refine foldl_still _ (fun s n => ?_) _ s
    split_ifs <;> simp

@[simp] theorem fixedAdd_still (k v : Nat) (s : State) : (fixedAdd k v s).still = s.still := by
  unfold fixedAdd
  dsimp only
  split_ifs <;> rfl

@[simp] theorem monitorAdd_still (m v : Nat) (s : State) : (monitorAdd m v s).still = s.still := by
  unfold monitorAdd
  dsimp only
  split_ifs <;> rfl

@[simp] theorem setFlag_still (f : Flag) (s : State) : (setFlag f s).still = s.still := by simp [setFlag]

@[simp] theorem clearFlag_still (f : Flag) (s : State) : (clearFlag f s).still = s.still := (rfl)

@[simp] theorem writeRw_frame (k : Nat) (w : Word) (s : State) :
    (writeRw k w s).pending = s.pending ∧ (writeRw k w s).fresh = s.fresh ∧ (writeRw k w s).out = s.out ∧
      (writeRw k w s).timeBase = s.timeBase ∧ (writeRw k w s).host = s.host ∧ (writeRw k w s).straps = s.straps ∧
      (writeRw k w s).fuses = s.fuses ∧ (writeRw k w s).boot = s.boot ∧ (writeRw k w s).sec = s.sec ∧
      (writeRw k w s).power = s.power ∧ (writeRw k w s).fault = s.fault ∧ (writeRw k w s).bmc = s.bmc ∧
      (writeRw k w s).rects = s.rects ∧ (writeRw k w s).store = s.store ∧ (writeRw k w s).sfn = s.sfn ∧
      (writeRw k w s).cfn = s.cfn ∧ (writeRw k w s).assign = s.assign ∧ (writeRw k w s).hold = s.hold ∧
      (writeRw k w s).rsv = s.rsv ∧ (writeRw k w s).lanes = s.lanes ∧ (writeRw k w s).raster = s.raster ∧
      (writeRw k w s).hwl = s.hwl ∧ (writeRw k w s).comp = s.comp ∧ (writeRw k w s).tables = s.tables ∧
      (writeRw k w s).pipe = s.pipe ∧ (writeRw k w s).array = s.array ∧ (writeRw k w s).slk = s.slk ∧
      (writeRw k w s).cdc = s.cdc :=
  still_frame (writeRw_still ..)

@[simp] theorem ctrAdd_frame (n v : Nat) (s : State) :
    (ctrAdd n v s).pending = s.pending ∧ (ctrAdd n v s).fresh = s.fresh ∧ (ctrAdd n v s).out = s.out ∧
      (ctrAdd n v s).timeBase = s.timeBase ∧ (ctrAdd n v s).host = s.host ∧ (ctrAdd n v s).straps = s.straps ∧
      (ctrAdd n v s).fuses = s.fuses ∧ (ctrAdd n v s).boot = s.boot ∧ (ctrAdd n v s).sec = s.sec ∧
      (ctrAdd n v s).power = s.power ∧ (ctrAdd n v s).fault = s.fault ∧ (ctrAdd n v s).bmc = s.bmc ∧
      (ctrAdd n v s).rects = s.rects ∧ (ctrAdd n v s).store = s.store ∧ (ctrAdd n v s).sfn = s.sfn ∧
      (ctrAdd n v s).cfn = s.cfn ∧ (ctrAdd n v s).assign = s.assign ∧ (ctrAdd n v s).hold = s.hold ∧
      (ctrAdd n v s).rsv = s.rsv ∧ (ctrAdd n v s).lanes = s.lanes ∧ (ctrAdd n v s).raster = s.raster ∧
      (ctrAdd n v s).hwl = s.hwl ∧ (ctrAdd n v s).comp = s.comp ∧ (ctrAdd n v s).tables = s.tables ∧
      (ctrAdd n v s).pipe = s.pipe ∧ (ctrAdd n v s).array = s.array ∧ (ctrAdd n v s).slk = s.slk ∧
      (ctrAdd n v s).cdc = s.cdc :=
  still_frame (ctrAdd_still ..)

@[simp] theorem countEvent_frame (u ev v : Nat) (s : State) :
    (countEvent u ev v s).pending = s.pending ∧ (countEvent u ev v s).fresh = s.fresh ∧ (countEvent u ev v s).out = s.out ∧
      (countEvent u ev v s).timeBase = s.timeBase ∧ (countEvent u ev v s).host = s.host ∧
      (countEvent u ev v s).straps = s.straps ∧ (countEvent u ev v s).fuses = s.fuses ∧
      (countEvent u ev v s).boot = s.boot ∧ (countEvent u ev v s).sec = s.sec ∧ (countEvent u ev v s).power = s.power ∧
      (countEvent u ev v s).fault = s.fault ∧ (countEvent u ev v s).bmc = s.bmc ∧ (countEvent u ev v s).rects = s.rects ∧
      (countEvent u ev v s).store = s.store ∧ (countEvent u ev v s).sfn = s.sfn ∧ (countEvent u ev v s).cfn = s.cfn ∧
      (countEvent u ev v s).assign = s.assign ∧ (countEvent u ev v s).hold = s.hold ∧ (countEvent u ev v s).rsv = s.rsv ∧
      (countEvent u ev v s).lanes = s.lanes ∧ (countEvent u ev v s).raster = s.raster ∧ (countEvent u ev v s).hwl = s.hwl ∧
      (countEvent u ev v s).comp = s.comp ∧ (countEvent u ev v s).tables = s.tables ∧ (countEvent u ev v s).pipe = s.pipe ∧
      (countEvent u ev v s).array = s.array ∧ (countEvent u ev v s).slk = s.slk ∧ (countEvent u ev v s).cdc = s.cdc :=
  still_frame (countEvent_still ..)

@[simp] theorem fixedAdd_frame (k v : Nat) (s : State) :
    (fixedAdd k v s).pending = s.pending ∧ (fixedAdd k v s).fresh = s.fresh ∧ (fixedAdd k v s).out = s.out ∧
      (fixedAdd k v s).timeBase = s.timeBase ∧ (fixedAdd k v s).host = s.host ∧ (fixedAdd k v s).straps = s.straps ∧
      (fixedAdd k v s).fuses = s.fuses ∧ (fixedAdd k v s).boot = s.boot ∧ (fixedAdd k v s).sec = s.sec ∧
      (fixedAdd k v s).power = s.power ∧ (fixedAdd k v s).fault = s.fault ∧ (fixedAdd k v s).bmc = s.bmc ∧
      (fixedAdd k v s).rects = s.rects ∧ (fixedAdd k v s).store = s.store ∧ (fixedAdd k v s).sfn = s.sfn ∧
      (fixedAdd k v s).cfn = s.cfn ∧ (fixedAdd k v s).assign = s.assign ∧ (fixedAdd k v s).hold = s.hold ∧
      (fixedAdd k v s).rsv = s.rsv ∧ (fixedAdd k v s).lanes = s.lanes ∧ (fixedAdd k v s).raster = s.raster ∧
      (fixedAdd k v s).hwl = s.hwl ∧ (fixedAdd k v s).comp = s.comp ∧ (fixedAdd k v s).tables = s.tables ∧
      (fixedAdd k v s).pipe = s.pipe ∧ (fixedAdd k v s).array = s.array ∧ (fixedAdd k v s).slk = s.slk ∧
      (fixedAdd k v s).cdc = s.cdc :=
  still_frame (fixedAdd_still ..)

@[simp] theorem monitorAdd_frame (m v : Nat) (s : State) :
    (monitorAdd m v s).pending = s.pending ∧ (monitorAdd m v s).fresh = s.fresh ∧ (monitorAdd m v s).out = s.out ∧
      (monitorAdd m v s).timeBase = s.timeBase ∧ (monitorAdd m v s).host = s.host ∧ (monitorAdd m v s).straps = s.straps ∧
      (monitorAdd m v s).fuses = s.fuses ∧ (monitorAdd m v s).boot = s.boot ∧ (monitorAdd m v s).sec = s.sec ∧
      (monitorAdd m v s).power = s.power ∧ (monitorAdd m v s).fault = s.fault ∧ (monitorAdd m v s).bmc = s.bmc ∧
      (monitorAdd m v s).rects = s.rects ∧ (monitorAdd m v s).store = s.store ∧ (monitorAdd m v s).sfn = s.sfn ∧
      (monitorAdd m v s).cfn = s.cfn ∧ (monitorAdd m v s).assign = s.assign ∧ (monitorAdd m v s).hold = s.hold ∧
      (monitorAdd m v s).rsv = s.rsv ∧ (monitorAdd m v s).lanes = s.lanes ∧ (monitorAdd m v s).raster = s.raster ∧
      (monitorAdd m v s).hwl = s.hwl ∧ (monitorAdd m v s).comp = s.comp ∧ (monitorAdd m v s).tables = s.tables ∧
      (monitorAdd m v s).pipe = s.pipe ∧ (monitorAdd m v s).array = s.array ∧ (monitorAdd m v s).slk = s.slk ∧
      (monitorAdd m v s).cdc = s.cdc :=
  still_frame (monitorAdd_still ..)

@[simp] theorem setFlag_frame (f : Flag) (s : State) :
    (setFlag f s).pending = s.pending ∧ (setFlag f s).fresh = s.fresh ∧ (setFlag f s).out = s.out ∧
      (setFlag f s).timeBase = s.timeBase ∧ (setFlag f s).host = s.host ∧ (setFlag f s).straps = s.straps ∧
      (setFlag f s).fuses = s.fuses ∧ (setFlag f s).boot = s.boot ∧ (setFlag f s).sec = s.sec ∧
      (setFlag f s).power = s.power ∧ (setFlag f s).fault = s.fault ∧ (setFlag f s).bmc = s.bmc ∧
      (setFlag f s).rects = s.rects ∧ (setFlag f s).store = s.store ∧ (setFlag f s).sfn = s.sfn ∧
      (setFlag f s).cfn = s.cfn ∧ (setFlag f s).assign = s.assign ∧ (setFlag f s).hold = s.hold ∧
      (setFlag f s).rsv = s.rsv ∧ (setFlag f s).lanes = s.lanes ∧ (setFlag f s).raster = s.raster ∧
      (setFlag f s).hwl = s.hwl ∧ (setFlag f s).comp = s.comp ∧ (setFlag f s).tables = s.tables ∧
      (setFlag f s).pipe = s.pipe ∧ (setFlag f s).array = s.array ∧ (setFlag f s).slk = s.slk ∧ (setFlag f s).cdc = s.cdc :=
  still_frame (setFlag_still ..)

@[simp] theorem clearFlag_frame (f : Flag) (s : State) :
    (clearFlag f s).pending = s.pending ∧ (clearFlag f s).fresh = s.fresh ∧ (clearFlag f s).out = s.out ∧
      (clearFlag f s).timeBase = s.timeBase ∧ (clearFlag f s).host = s.host ∧ (clearFlag f s).straps = s.straps ∧
      (clearFlag f s).fuses = s.fuses ∧ (clearFlag f s).boot = s.boot ∧ (clearFlag f s).sec = s.sec ∧
      (clearFlag f s).power = s.power ∧ (clearFlag f s).fault = s.fault ∧ (clearFlag f s).bmc = s.bmc ∧
      (clearFlag f s).rects = s.rects ∧ (clearFlag f s).store = s.store ∧ (clearFlag f s).sfn = s.sfn ∧
      (clearFlag f s).cfn = s.cfn ∧ (clearFlag f s).assign = s.assign ∧ (clearFlag f s).hold = s.hold ∧
      (clearFlag f s).rsv = s.rsv ∧ (clearFlag f s).lanes = s.lanes ∧ (clearFlag f s).raster = s.raster ∧
      (clearFlag f s).hwl = s.hwl ∧ (clearFlag f s).comp = s.comp ∧ (clearFlag f s).tables = s.tables ∧
      (clearFlag f s).pipe = s.pipe ∧ (clearFlag f s).array = s.array ∧ (clearFlag f s).slk = s.slk ∧
      (clearFlag f s).cdc = s.cdc :=
  still_frame (clearFlag_still ..)

/-! ### What a register reads after a write -/

theorem rd_wr {s : State} (h : RegsCanonical s) (k j : Nat) (w : Word) : rd (wr k w s) j = if j = k then w else rd s j :=
  tabGet_set regReset ((tabWf_iff ..).1 h).1 k j w

theorem rd_wr_same {s : State} (h : RegsCanonical s) (k : Nat) (w : Word) : rd (wr k w s) k = w := by
  rw [rd_wr h, if_pos rfl]

theorem rd_wr_other {s : State} (h : RegsCanonical s) {k j : Nat} (w : Word) (hj : j ≠ k) : rd (wr k w s) j = rd s j := by
  rw [rd_wr h, if_neg hj]

theorem rd_wrF_other {s : State} (h : RegsCanonical s) {k j : Nat} (f : Nat × Nat) (v : Nat) (hj : j ≠ k) :
    rd (wrF k f v s) j = rd s j := rd_wr_other h _ hj

theorem rdF_wrF_same {s : State} (h : RegsCanonical s) (k : Nat) {f : Nat × Nat} (v : Nat) (hf : f.1 + f.2 ≤ 32) :
    rdF (wrF k f v s) k f = v % 2 ^ f.2 := by
  unfold rdF wrF
  rw [rd_wr_same h, field_withField _ _ hf]

theorem rdF_wrF_field {s : State} (h : RegsCanonical s) (k : Nat) {f g : Nat × Nat} (v : Nat) (hf : f.1 + f.2 ≤ 32)
    (hg : g.1 + g.2 ≤ f.1 ∨ f.1 + f.2 ≤ g.1) : rdF (wrF k f v s) k g = rdF s k g := by
  unfold rdF wrF
  rw [rd_wr_same h, field_withField_other _ _ hf hg]

theorem rdF_wrF_other {s : State} (h : RegsCanonical s) {k j : Nat} (f g : Nat × Nat) (v : Nat) (hj : j ≠ k) :
    rdF (wrF k f v s) j g = rdF s j g := by
  unfold rdF
  rw [rd_wrF_other h f v hj]

/-! ### The canonical form of the register file -/

/-- An update that leaves the registers keeps their canonical form. -/
theorem canonical_of_regs {s t : State} (h : RegsCanonical s) (e : t.regs = s.regs) : RegsCanonical t := by
  unfold RegsCanonical
  rw [e]
  exact h

theorem canonical_wr {s : State} (h : RegsCanonical s) (k : Nat) (w : Word) : RegsCanonical (wr k w s) :=
  tabWf_set regReset h k w

theorem canonical_wrF {s : State} (h : RegsCanonical s) (k : Nat) (f : Nat × Nat) (v : Nat) : RegsCanonical (wrF k f v s) :=
  canonical_wr h _ _

theorem canonical_bumpSat {s : State} (h : RegsCanonical s) (k : Nat) (f : Nat × Nat) (n : Nat) :
    RegsCanonical (bumpSat k f n s) := canonical_wrF h _ _ _

theorem canonical_writeRw {s : State} (h : RegsCanonical s) (k : Nat) (w : Word) : RegsCanonical (writeRw k w s) := by
  unfold writeRw
  split
  · exact canonical_wr h _ _
  · exact h

theorem canonical_resetRegs {s : State} (h : RegsCanonical s) (p : Nat → Bool) : RegsCanonical (resetRegs p s) :=
  tabWf_keep regReset (fun k => !p k) h

theorem canonical_flagOverflow {s : State} (h : RegsCanonical s) : RegsCanonical (flagOverflow s) :=
  canonical_bumpSat (canonical_wrF h _ _ _) _ _ _

theorem canonical_ctrAdd {s : State} (h : RegsCanonical s) (n v : Nat) : RegsCanonical (ctrAdd n v s) := by
  have one : ∀ {s : State}, RegsCanonical s → ∀ n v, RegsCanonical (ctrAddOne n v s) := by
    intro s h n v
    unfold ctrAddOne
    dsimp only
    split
    · exact h
    · exact canonical_flagOverflow (s := setCtr ..) h
  unfold ctrAdd
  dsimp only
  split_ifs
  · exact h
  · unfold ctrCarry
    split
    · exact one (canonical_flagOverflow (s := setCtr ..) h) _ _
    · exact canonical_flagOverflow (s := setCtr ..) h
  · exact one h _ _

theorem canonical_foldl {α : Type} (f : State → α → State) (h : ∀ s a, RegsCanonical s → RegsCanonical (f s a)) :
    ∀ (l : List α) (s : State), RegsCanonical s → RegsCanonical (l.foldl f s)
  | [], _, hs => hs
  | a :: l, s, hs => canonical_foldl f h l (f s a) (h s a hs)

theorem canonical_countEvent {s : State} (h : RegsCanonical s) (u ev v : Nat) : RegsCanonical (countEvent u ev v s) := by
  unfold countEvent
  split_ifs
  · exact h
  · refine canonical_foldl _ (fun s n hs => ?_) _ s h
    split_ifs
    · exact canonical_ctrAdd hs _ _
    · exact canonical_ctrAdd hs _ _
    · exact hs

theorem canonical_fixedAdd {s : State} (h : RegsCanonical s) (k v : Nat) : RegsCanonical (fixedAdd k v s) := by
  unfold fixedAdd
  dsimp only
  split_ifs
  · exact h
  · exact h
  · exact canonical_flagOverflow h

theorem canonical_monitorAdd {s : State} (h : RegsCanonical s) (m v : Nat) : RegsCanonical (monitorAdd m v s) := by
  unfold monitorAdd
  dsimp only
  split_ifs <;> exact h

theorem canonical_setFlag {s : State} (h : RegsCanonical s) (f : Flag) : RegsCanonical (setFlag f s) :=
  canonical_countEvent (canonical_bumpSat (canonical_wrF h _ _ _) _ _ _) _ _ _

end Sys2Proof.Machine
end

