-- ==== Sys2Proof/Laws/Ops.lean ====
section
/-! SUPPORT. Laws of the shared operations: events and completions touch registers, counters, the queues of the ports, what is
sent out, the free-value counter and the store's event log, and nothing else. -/

namespace Sys2Proof.Machine

/-- The state without what an event or a completion touches. -/
def State.mute (s : State) : State :=
  { s with regs := [], perf := {}, out := [], host := {}, fresh := 0, store := { s.store with logBuf := [], logNext := none } }

/-- Two states that differ in what an event or a completion touches alone. -/
theorem mute_frame {s t : State} (h : t.mute = s.mute) :
    t.pending = s.pending ∧ t.timeBase = s.timeBase ∧ t.straps = s.straps ∧ t.fuses = s.fuses ∧ t.boot = s.boot ∧
      t.sec = s.sec ∧ t.power = s.power ∧ t.fault = s.fault ∧ t.bmc = s.bmc ∧ t.rects = s.rects ∧
      t.sfn = s.sfn ∧ t.cfn = s.cfn ∧ t.assign = s.assign ∧ t.hold = s.hold ∧ t.rsv = s.rsv ∧
      t.lanes = s.lanes ∧ t.raster = s.raster ∧ t.hwl = s.hwl ∧ t.comp = s.comp ∧ t.tables = s.tables ∧
      t.pipe = s.pipe ∧ t.array = s.array ∧ t.slk = s.slk ∧ t.cdc = s.cdc ∧ t.store.mounted = s.store.mounted ∧
      t.store.controller = s.store.controller ∧ t.store.shutting = s.store.shutting ∧ t.store.dir = s.store.dir ∧
      t.store.changing = s.store.changing ∧ t.store.queued = s.store.queued ∧ t.store.nvme = s.store.nvme ∧
      t.store.nextCid = s.store.nextCid ∧ t.store.recordSeq = s.store.recordSeq := by
  obtain ⟨⟩ := t
  obtain ⟨⟩ := s
  simp only [State.mute, State.mk.injEq, StoreState.mk.injEq] at h
  simp only [h, and_self]

theorem mute_of_still {s t : State} (h : t.still = s.still) : t.mute = s.mute := by
  have e : ∀ x : State, x.mute = x.still.mute := fun _ => rfl
  rw [e t, e s, h]

@[simp] theorem wr_mute (k : Nat) (w : Word) (s : State) : (wr k w s).mute = s.mute := mute_of_still (wr_still ..)
@[simp] theorem wrF_mute (k : Nat) (f : Nat × Nat) (v : Nat) (s : State) : (wrF k f v s).mute = s.mute := mute_of_still (wrF_still ..)
@[simp] theorem bumpSat_mute (k : Nat) (f : Nat × Nat) (n : Nat) (s : State) : (bumpSat k f n s).mute = s.mute := mute_of_still (bumpSat_still ..)
@[simp] theorem countEvent_mute (u ev v : Nat) (s : State) : (countEvent u ev v s).mute = s.mute := mute_of_still (countEvent_still ..)
@[simp] theorem fixedAdd_mute (k v : Nat) (s : State) : (fixedAdd k v s).mute = s.mute := mute_of_still (fixedAdd_still ..)
@[simp] theorem monitorAdd_mute (m v : Nat) (s : State) : (monitorAdd m v s).mute = s.mute := mute_of_still (monitorAdd_still ..)
@[simp] theorem setFlag_mute (f : Flag) (s : State) : (setFlag f s).mute = s.mute := mute_of_still (setFlag_still ..)
@[simp] theorem emit_mute (o : Out) (s : State) : (emit o s).mute = s.mute := (rfl)
@[simp] theorem tick_mute (s : State) : (tick s).mute = s.mute := (rfl)
@[simp] theorem setPort_mute (p : Nat) (v : PortState) (s : State) : (setPort p v s).mute = s.mute := (rfl)
@[simp] theorem setSq_mute (p n : Nat) (v : SqState) (s : State) : (setSq p n v s).mute = s.mute := (rfl)
@[simp] theorem setCq_mute (p n : Nat) (v : CqState) (s : State) : (setCq p n v s).mute = s.mute := (rfl)
@[simp] theorem setEvq_mute (p : Nat) (v : CqState) (s : State) : (setEvq p v s).mute = s.mute := (rfl)
@[simp] theorem setDsc_mute (d : Dsc) (s : State) : (setDsc d s).mute = s.mute := (rfl)
@[simp] theorem dropDsc_mute (d : Dsc) (s : State) : (dropDsc d s).mute = s.mute := (rfl)
@[simp] theorem setRunning_mute (d : Dsc) (s : State) : (setRunning d s).mute = s.mute := (rfl)

theorem foldl_mute {α : Type} (f : State → α → State) (h : ∀ s a, (f s a).mute = s.mute) :
    ∀ (l : List α) (s : State), (l.foldl f s).mute = s.mute
  | [], _ => rfl
  | a :: l, s => (foldl_mute f h l (f s a)).trans (h s a)

@[simp] theorem sendMsix_mute (p v : Nat) (s : State) : (sendMsix p v s).mute = s.mute := by
  unfold sendMsix
  split <;> simp

@[simp] theorem sendEvq_mute (p : Nat) (s : State) : (sendEvq p s).mute = s.mute := by
  unfold sendEvq
  split <;> simp

@[simp] theorem signalEvq_mute (p : Nat) (s : State) : (signalEvq p s).mute = s.mute := by
  unfold signalEvq
  split <;> simp

@[simp] theorem sendCq_mute (p n : Nat) (s : State) : (sendCq p n s).mute = s.mute := by
  unfold sendCq
  split <;> simp

@[simp] theorem signalCq_mute (p n : Nat) (s : State) : (signalCq p n s).mute = s.mute := by
  unfold signalCq
  split <;> simp

@[simp] theorem writeEvent_mute (p : Nat) (e : EventRec) (s : State) : (writeEvent p e s).mute = s.mute := by
  simp [writeEvent]

@[simp] theorem logEvent_mute (e : EventRec) (s : State) : (logEvent e s).mute = s.mute := by
  unfold logEvent
  split_ifs
  · simp
  · rfl

@[simp] theorem reportLost_mute (p : Nat) (s : State) : (reportLost p s).mute = s.mute := by
  unfold reportLost
  dsimp only
  split_ifs <;> simp

@[simp] theorem postToPort_mute (e : EventRec) (s : State) (p : Nat) : (postToPort e s p).mute = s.mute := by
  unfold postToPort
  dsimp only
  split_ifs <;> simp

@[simp] theorem postEvent_mute (r : Route) (c u v : Nat) (x : BitVec 64) (s : State) : (postEvent r c u v x s).mute = s.mute := by
  have hf : ∀ (e : EventRec) (l : List Nat) (s : State), (l.foldl (postToPort e) s).mute = s.mute := fun e l s =>
    foldl_mute _ (fun s p => postToPort_mute e s p) l s
  unfold postEvent
  dsimp only
  split_ifs <;> simp [hf]

@[simp] theorem writeCompletion_mute (p n : Nat) (c : Completion) (s : State) : (writeCompletion p n c s).mute = s.mute := by
  simp [writeCompletion]

@[simp] theorem postCompletion_mute (p n : Nat) (c : Completion) (s : State) : (postCompletion p n c s).mute = s.mute := by
  unfold postCompletion
  dsimp only
  split_ifs <;> simp

@[simp] theorem drainSq_mute (p n : Nat) (s : State) : (drainSq p n s).mute = s.mute := by
  unfold drainSq
  split_ifs <;> simp

@[simp] theorem complete_mute (d : Dsc) (st : Status) (f : Nat) (r : BitVec 96) (s : State) :
    (complete d st f r s).mute = s.mute := by
  unfold complete
  dsimp only
  split_ifs <;> simp

@[simp] theorem completeI_mute (d : Dsc) (st : Status) (r : BitVec 96) (s : State) : (completeI d st r s).mute = s.mute := by
  simp [completeI]

@[simp] theorem postEvent_frame (r : Route) (c u v : Nat) (x : BitVec 64) (s : State) :
    (postEvent r c u v x s).pending = s.pending ∧ (postEvent r c u v x s).timeBase = s.timeBase ∧
      (postEvent r c u v x s).straps = s.straps ∧ (postEvent r c u v x s).fuses = s.fuses ∧
      (postEvent r c u v x s).boot = s.boot ∧ (postEvent r c u v x s).sec = s.sec ∧
      (postEvent r c u v x s).power = s.power ∧ (postEvent r c u v x s).fault = s.fault ∧
      (postEvent r c u v x s).bmc = s.bmc ∧ (postEvent r c u v x s).rects = s.rects ∧ (postEvent r c u v x s).sfn = s.sfn ∧
      (postEvent r c u v x s).cfn = s.cfn ∧ (postEvent r c u v x s).assign = s.assign ∧
      (postEvent r c u v x s).hold = s.hold ∧ (postEvent r c u v x s).rsv = s.rsv ∧
      (postEvent r c u v x s).lanes = s.lanes ∧ (postEvent r c u v x s).raster = s.raster ∧
      (postEvent r c u v x s).hwl = s.hwl ∧ (postEvent r c u v x s).comp = s.comp ∧
      (postEvent r c u v x s).tables = s.tables ∧ (postEvent r c u v x s).pipe = s.pipe ∧
      (postEvent r c u v x s).array = s.array ∧ (postEvent r c u v x s).slk = s.slk ∧ (postEvent r c u v x s).cdc = s.cdc ∧
      (postEvent r c u v x s).store.mounted = s.store.mounted ∧
      (postEvent r c u v x s).store.controller = s.store.controller ∧
      (postEvent r c u v x s).store.shutting = s.store.shutting ∧ (postEvent r c u v x s).store.dir = s.store.dir ∧
      (postEvent r c u v x s).store.changing = s.store.changing ∧ (postEvent r c u v x s).store.queued = s.store.queued ∧
      (postEvent r c u v x s).store.nvme = s.store.nvme ∧ (postEvent r c u v x s).store.nextCid = s.store.nextCid ∧
      (postEvent r c u v x s).store.recordSeq = s.store.recordSeq :=
  mute_frame (postEvent_mute ..)

@[simp] theorem complete_frame (d : Dsc) (st : Status) (f : Nat) (r : BitVec 96) (s : State) :
    (complete d st f r s).pending = s.pending ∧ (complete d st f r s).timeBase = s.timeBase ∧
      (complete d st f r s).straps = s.straps ∧ (complete d st f r s).fuses = s.fuses ∧
      (complete d st f r s).boot = s.boot ∧ (complete d st f r s).sec = s.sec ∧ (complete d st f r s).power = s.power ∧
      (complete d st f r s).fault = s.fault ∧ (complete d st f r s).bmc = s.bmc ∧ (complete d st f r s).rects = s.rects ∧
      (complete d st f r s).sfn = s.sfn ∧ (complete d st f r s).cfn = s.cfn ∧ (complete d st f r s).assign = s.assign ∧
      (complete d st f r s).hold = s.hold ∧ (complete d st f r s).rsv = s.rsv ∧ (complete d st f r s).lanes = s.lanes ∧
      (complete d st f r s).raster = s.raster ∧ (complete d st f r s).hwl = s.hwl ∧ (complete d st f r s).comp = s.comp ∧
      (complete d st f r s).tables = s.tables ∧ (complete d st f r s).pipe = s.pipe ∧
      (complete d st f r s).array = s.array ∧ (complete d st f r s).slk = s.slk ∧ (complete d st f r s).cdc = s.cdc ∧
      (complete d st f r s).store.mounted = s.store.mounted ∧ (complete d st f r s).store.controller = s.store.controller ∧
      (complete d st f r s).store.shutting = s.store.shutting ∧ (complete d st f r s).store.dir = s.store.dir ∧
      (complete d st f r s).store.changing = s.store.changing ∧ (complete d st f r s).store.queued = s.store.queued ∧
      (complete d st f r s).store.nvme = s.store.nvme ∧ (complete d st f r s).store.nextCid = s.store.nextCid ∧
      (complete d st f r s).store.recordSeq = s.store.recordSeq :=
  mute_frame (complete_mute ..)

@[simp] theorem completeI_frame (d : Dsc) (st : Status) (r : BitVec 96) (s : State) :
    (completeI d st r s).pending = s.pending ∧ (completeI d st r s).timeBase = s.timeBase ∧
      (completeI d st r s).straps = s.straps ∧ (completeI d st r s).fuses = s.fuses ∧ (completeI d st r s).boot = s.boot ∧
      (completeI d st r s).sec = s.sec ∧ (completeI d st r s).power = s.power ∧ (completeI d st r s).fault = s.fault ∧
      (completeI d st r s).bmc = s.bmc ∧ (completeI d st r s).rects = s.rects ∧ (completeI d st r s).sfn = s.sfn ∧
      (completeI d st r s).cfn = s.cfn ∧ (completeI d st r s).assign = s.assign ∧ (completeI d st r s).hold = s.hold ∧
      (completeI d st r s).rsv = s.rsv ∧ (completeI d st r s).lanes = s.lanes ∧ (completeI d st r s).raster = s.raster ∧
      (completeI d st r s).hwl = s.hwl ∧ (completeI d st r s).comp = s.comp ∧ (completeI d st r s).tables = s.tables ∧
      (completeI d st r s).pipe = s.pipe ∧ (completeI d st r s).array = s.array ∧ (completeI d st r s).slk = s.slk ∧
      (completeI d st r s).cdc = s.cdc ∧ (completeI d st r s).store.mounted = s.store.mounted ∧
      (completeI d st r s).store.controller = s.store.controller ∧ (completeI d st r s).store.shutting = s.store.shutting ∧
      (completeI d st r s).store.dir = s.store.dir ∧ (completeI d st r s).store.changing = s.store.changing ∧
      (completeI d st r s).store.queued = s.store.queued ∧ (completeI d st r s).store.nvme = s.store.nvme ∧
      (completeI d st r s).store.nextCid = s.store.nextCid ∧ (completeI d st r s).store.recordSeq = s.store.recordSeq :=
  mute_frame (completeI_mute ..)

/-! ### They keep the canonical form of the register file -/

theorem canonical_emit {s : State} (h : RegsCanonical s) (o : Out) : RegsCanonical (emit o s) := h
theorem canonical_setPort {s : State} (h : RegsCanonical s) (p : Nat) (v : PortState) : RegsCanonical (setPort p v s) := h
theorem canonical_setSq {s : State} (h : RegsCanonical s) (p n : Nat) (v : SqState) : RegsCanonical (setSq p n v s) := h
theorem canonical_setCq {s : State} (h : RegsCanonical s) (p n : Nat) (v : CqState) : RegsCanonical (setCq p n v s) := h
theorem canonical_setEvq {s : State} (h : RegsCanonical s) (p : Nat) (v : CqState) : RegsCanonical (setEvq p v s) := h
theorem canonical_dropDsc {s : State} (h : RegsCanonical s) (d : Dsc) : RegsCanonical (dropDsc d s) := h

theorem canonical_sendMsix {s : State} (h : RegsCanonical s) (p v : Nat) : RegsCanonical (sendMsix p v s) := by
  unfold sendMsix
  split
  · exact canonical_wrF h _ _ _
  · exact canonical_monitorAdd (canonical_emit h _) _ _

theorem canonical_sendEvq {s : State} (h : RegsCanonical s) (p : Nat) : RegsCanonical (sendEvq p s) := by
  unfold sendEvq
  split
  · exact canonical_sendMsix (canonical_setEvq h _ _) _ _
  · exact h

theorem canonical_signalEvq {s : State} (h : RegsCanonical s) (p : Nat) : RegsCanonical (signalEvq p s) := by
  unfold signalEvq
  split
  · exact canonical_sendEvq h _
  · exact h

theorem canonical_sendCq {s : State} (h : RegsCanonical s) (p n : Nat) : RegsCanonical (sendCq p n s) := by
  unfold sendCq
  split
  · exact canonical_sendMsix (canonical_setCq h _ _ _) _ _
  · exact h

theorem canonical_signalCq {s : State} (h : RegsCanonical s) (p n : Nat) : RegsCanonical (signalCq p n s) := by
  unfold signalCq
  split
  · exact canonical_sendCq h _ _
  · exact h

theorem canonical_writeEvent {s : State} (h : RegsCanonical s) (p : Nat) (e : EventRec) : RegsCanonical (writeEvent p e s) :=
  canonical_signalEvq (canonical_monitorAdd (canonical_countEvent (canonical_emit (canonical_setEvq h _ _) _) _ _ _) _ _) _

theorem canonical_logEvent {s : State} (h : RegsCanonical s) (e : EventRec) : RegsCanonical (logEvent e s) := by
  unfold logEvent
  split_ifs
  · exact canonical_setFlag h _
  · exact canonical_of_regs h rfl

theorem canonical_reportLost {s : State} (h : RegsCanonical s) (p : Nat) : RegsCanonical (reportLost p s) := by
  unfold reportLost
  dsimp only
  split_ifs
  · exact canonical_writeEvent (canonical_logEvent (canonical_fixedAdd (canonical_setPort h _ _) _ _) _) _ _
  · exact canonical_logEvent (canonical_fixedAdd (canonical_setPort h _ _) _ _) _
  · exact h

theorem canonical_postToPort {s : State} (h : RegsCanonical s) (e : EventRec) (p : Nat) : RegsCanonical (postToPort e s p) := by
  unfold postToPort
  dsimp only
  split_ifs
  · exact h
  · exact canonical_writeEvent (canonical_reportLost h p) _ _
  · exact canonical_setFlag (canonical_bumpSat (canonical_setPort (canonical_reportLost h p) _ _) _ _ _) _

theorem canonical_postEvent {s : State} (h : RegsCanonical s) (r : Route) (c u v : Nat) (x : BitVec 64) :
    RegsCanonical (postEvent r c u v x s) := by
  have h1 := fun e l => canonical_foldl (postToPort e) (fun s p hs => canonical_postToPort hs e p) l _
    (canonical_fixedAdd (s := tick s) h 7 1)
  unfold postEvent
  dsimp only
  split_ifs
  · exact canonical_logEvent (h1 ..) _
  · exact h1 ..
  · exact canonical_logEvent (h1 ..) _
  · exact h1 ..

theorem canonical_writeCompletion {s : State} (h : RegsCanonical s) (p n : Nat) (c : Completion) :
    RegsCanonical (writeCompletion p n c s) :=
  canonical_signalCq (canonical_monitorAdd (canonical_countEvent (canonical_emit (canonical_setCq h _ _ _) _) _ _ _) _ _) _ _

theorem canonical_postCompletion {s : State} (h : RegsCanonical s) (p n : Nat) (c : Completion) :
    RegsCanonical (postCompletion p n c s) := by
  unfold postCompletion
  dsimp only
  split_ifs
  · exact canonical_writeCompletion h _ _ _
  · exact canonical_setCq h _ _ _
  · exact canonical_postEvent (canonical_setFlag (canonical_setCq h _ _ _) _) _ _ _ _ _

theorem canonical_complete {s : State} (h : RegsCanonical s) (d : Dsc) (st : Status) (f : Nat) (r : BitVec 96) :
    RegsCanonical (complete d st f r s) := by
  have drain : ∀ {s : State} p n, RegsCanonical s → RegsCanonical (drainSq p n s) := by
    intro s p n hs
    unfold drainSq
    split_ifs
    · exact canonical_setSq (canonical_wrF hs _ _ _) _ _ _
    · exact hs
  unfold complete
  dsimp only
  split_ifs
  · exact drain _ _ (canonical_postEvent (canonical_postCompletion (canonical_dropDsc h _) _ _ _) _ _ _ _ _)
  · exact drain _ _ (canonical_postEvent (canonical_postCompletion (canonical_dropDsc h _) _ _ _) _ _ _ _ _)
  · exact drain _ _ (canonical_postCompletion (canonical_dropDsc h _) _ _ _)

end Sys2Proof.Machine
end

