-- ==== Sys2Proof/Laws/Eddy.lean ====
section
/-! SUPPORT. Laws of an Eddy engine: what issuing does where nothing disturbs it, and what going on to a pc changes. -/

namespace Sys2Proof.Machine

/-! ### Accesses that nothing disturbs (R369, R370, R373) -/

/-- An access to undisturbed words aborts no visit of patrol. -/
theorem touchVisit_quiet {s : State} {e : Nat} {ws : List (Nat × Nat)} (h : Undisturbed s e ws) : touchVisit e ws s = s := by
  unfold touchVisit
  refine if_neg fun hc => ?_
  simp only [Bool.and_eq_true, List.any_eq_true, decide_eq_true_eq] at hc
  obtain ⟨hp, x, hx, hr⟩ := hc
  exact h.2 hp x hx hr

/-- A read of undisturbed words goes on. -/
theorem eccAccess_quiet {s : State} {e : Nat} {ws : List (Nat × Nat)} (h : Undisturbed s e ws) (f : State → State) :
    eccAccess e ws f s = f s := by
  unfold eccAccess
  rw [touchVisit_quiet h]
  exact if_pos (List.all_eq_true.2 fun x hx => decide_eq_true (h.1 x hx))

/-- With no write of port A in its bank cycle there is no cycle to close. -/
theorem closePort_closed {s : State} {e : Nat} (h : (clusterOf s (e / 8)).portA = []) : closePort e s = s := if_pos h

/-- An instruction that no bank cycle concerns has the effect it has. -/
theorem inCycle_closed {s : State} {e : Nat} {f : State → State} (h : (clusterOf s (e / 8)).portA = [])
    (hf : (clusterOf (f s) (e / 8)).portA = []) : inCycle e f s = f s := by
  unfold inCycle
  split
  · rw [closePort_closed h]
  · exact closePort_closed hf

/-- An instruction that issues has its effect within its bank cycle. -/
theorem issue_runs {s : State} {i : Instr} (h : Issues s i) (f : State → State) :
    issue (eddyEngine i) i f s = .next (inCycle (eddyEngine i) f s) := by
  obtain ⟨⟨w, hw, hn⟩, hq, hp⟩ := h
  unfold issue
  rw [hn]
  simp only [hw, if_true]
  unfold inCycle
  split
  · rw [closePort_closed hp, eccAccess_quiet hq]
  · rw [eccAccess_quiet hq]

/-- An instruction whose effect leaves no write of port A has that effect. -/
theorem issue_effect {s : State} {i : Instr} (h : Issues s i) {f : State → State}
    (hf : (clusterOf (f s) (eddyEngine i / 8)).portA = []) : issue (eddyEngine i) i f s = .next (f s) := by
  rw [issue_runs h, inCycle_closed h.2.2 hf]

/-! ### Going on to a pc -/

@[simp] theorem goTo_clusters (e pc : Nat) (v : Engine) (s : State) : (goTo e pc v s).array.clusters = s.array.clusters := by
  simp [goTo, setEngine]

@[simp] theorem clusterOf_goTo (e pc : Nat) (v : Engine) (s : State) (c : Nat) : clusterOf (goTo e pc v s) c = clusterOf s c := by
  simp [clusterOf]

/-- Going on changes one engine, registers and counters alone. -/
@[simp] theorem goTo_frame (e pc : Nat) (v : Engine) (s : State) :
    (goTo e pc v s).pending = s.pending ∧ (goTo e pc v s).fresh = s.fresh ∧ (goTo e pc v s).out = s.out ∧
      (goTo e pc v s).host = s.host ∧ (goTo e pc v s).pipe = s.pipe ∧ (goTo e pc v s).tables = s.tables ∧
      (goTo e pc v s).raster = s.raster ∧ (goTo e pc v s).power = s.power ∧ (goTo e pc v s).fault = s.fault := by
  simp [goTo]

theorem engineOf_setEngine {s : State} (h : tabWf (fun _ => ({} : Engine)) s.array.engines = true) (e f : Nat) (v : Engine) :
    engineOf (setEngine e v s) f = if f = e then v else engineOf s f :=
  tabGet_set _ ((tabWf_iff _ _).1 h).1 e f v

/-- The engine holds what it was given, with the pc and one more instruction counted; the others are as they were. -/
theorem engineOf_goTo {s : State} (h : tabWf (fun _ => ({} : Engine)) s.array.engines = true) (e pc f : Nat) (v : Engine) :
    engineOf (goTo e pc v s) f = if f = e then { v with pc := pc, cycles := v.cycles + 1 } else engineOf s f := by
  have hc : engineOf (goTo e pc v s) f = engineOf (setEngine e { v with pc := pc, cycles := v.cycles + 1 } s) f := by
    simp [goTo, engineOf]
  rw [hc, engineOf_setEngine h]

/-- An instruction that goes on to a pc completes there. -/
theorem issue_goTo {s : State} {i : Instr} (h : Issues s i) {f : State → State} {pc : Nat} {v : Engine}
    (hf : f s = goTo (eddyEngine i) pc v s) : issue (eddyEngine i) i f s = .next (goTo (eddyEngine i) pc v s) := by
  rw [issue_effect h (by rw [hf, clusterOf_goTo]; exact h.2.2), hf]

end Sys2Proof.Machine
end

