-- ==== Sys2Proof/Laws/Encoding.lean ====
section
/-! SUPPORT. The fields of an Eddy word, format by format: what each of R381's fields reads in a word that was laid
out from fields in range. -/

namespace Sys2Proof.Laws

open Sys2Proof

/-- A field reads back as the bit vector it was laid out from. -/
theorem ofNat_read {n x : Nat} (v : BitVec n) (h : x % 2 ^ n = v.toNat) : BitVec.ofNat n x = v :=
  BitVec.eq_of_toNat_eq (by rw [BitVec.toNat_ofNat, h])

/-- Fields of format R and of the formats that share its layout. -/
theorem formatR_fields {op f7 f3 b a d : Nat} (h0 : op < 128) (h1 : f7 < 128) (h2 : f3 < 8) (h3 : b < 32) (h4 : a < 32)
    (h5 : d < 32) :
    (formatR op f7 f3 b a d).toNat % 128 = op ∧ (formatR op f7 f3 b a d).toNat / 128 % 32 = d ∧
      (formatR op f7 f3 b a d).toNat / 4096 % 32 = a ∧ (formatR op f7 f3 b a d).toNat / 131072 % 32 = b ∧
      (formatR op f7 f3 b a d).toNat / 4194304 % 8 = f3 ∧ (formatR op f7 f3 b a d).toNat / 33554432 = f7 := by
  simp only [formatR, BitVec.toNat_ofNat]
  refine ⟨?_, ?_, ?_, ?_, ?_, ?_⟩ <;> omega

/-- Fields of format I. -/
theorem formatI_fields {op imm a d : Nat} (h0 : op < 128) (h1 : imm < 32768) (h4 : a < 32) (h5 : d < 32) :
    (formatI op imm a d).toNat % 128 = op ∧ (formatI op imm a d).toNat / 128 % 32 = d ∧
      (formatI op imm a d).toNat / 4096 % 32 = a ∧ (formatI op imm a d).toNat / 131072 = imm ∧
      (formatI op imm a d).toNat / 131072 % 32 = imm % 32 := by
  simp only [formatI, BitVec.toNat_ofNat]
  refine ⟨?_, ?_, ?_, ?_, ?_⟩ <;> omega

/-- Fields of format U. -/
theorem formatU_fields {op imm d : Nat} (h0 : op < 128) (h1 : imm < 1048576) (h5 : d < 32) :
    (formatU op imm d).toNat % 128 = op ∧ (formatU op imm d).toNat / 128 % 32 = d ∧ (formatU op imm d).toNat / 4096 = imm := by
  simp only [formatU, BitVec.toNat_ofNat]
  refine ⟨?_, ?_, ?_⟩ <;> omega

/-- Fields of format B. -/
theorem formatB_fields {op off cond b a : Nat} (h0 : op < 128) (h1 : off < 4096) (h2 : cond < 8) (h3 : b < 32) (h4 : a < 32) :
    (formatB op off cond b a).toNat % 128 = op ∧ (formatB op off cond b a).toNat / 128 % 32 = a ∧
      (formatB op off cond b a).toNat / 4096 % 32 = b ∧ (formatB op off cond b a).toNat / 131072 % 8 = cond ∧
      (formatB op off cond b a).toNat / 1048576 = off := by
  simp only [formatB, BitVec.toNat_ofNat]
  refine ⟨?_, ?_, ?_, ?_, ?_⟩ <;> omega

/-- Fields of format M. -/
theorem formatM_fields {op off pg a d : Nat} (h0 : op < 128) (h1 : off < 4096) (h2 : pg < 8) (h3 : a < 32) (h4 : d < 32) :
    (formatM op off pg a d).toNat % 128 = op ∧ (formatM op off pg a d).toNat / 128 % 32 = d ∧
      (formatM op off pg a d).toNat / 4096 % 32 = a ∧ (formatM op off pg a d).toNat / 131072 % 8 = pg ∧
      (formatM op off pg a d).toNat / 1048576 = off := by
  simp only [formatM, BitVec.toNat_ofNat]
  refine ⟨?_, ?_, ?_, ?_, ?_⟩ <;> omega

/-- Fields of format L. -/
theorem formatL_fields {op sgn pg sd y x d : Nat} (h0 : op < 128) (h1 : sgn < 2) (h2 : pg < 8) (h3 : sd < 32) (h4 : y < 32)
    (h5 : x < 32) (h6 : d < 32) :
    (formatL op sgn pg sd y x d).toNat % 128 = op ∧ (formatL op sgn pg sd y x d).toNat / 128 % 32 = d ∧
      (formatL op sgn pg sd y x d).toNat / 4096 % 32 = x ∧ (formatL op sgn pg sd y x d).toNat / 131072 % 32 = y ∧
      (formatL op sgn pg sd y x d).toNat / 4194304 % 32 = sd ∧ (formatL op sgn pg sd y x d).toNat / 134217728 % 8 = pg ∧
      (formatL op sgn pg sd y x d).toNat / 33554432 < 64 ∧
      ((formatL op sgn pg sd y x d).toNat / 33554432 < 32 ↔ sgn = 0) := by
  simp only [formatL, BitVec.toNat_ofNat]
  refine ⟨?_, ?_, ?_, ?_, ?_, ?_, ?_, ?_⟩ <;> omega

/-! ### The decoder, opcode by opcode -/

theorem decode_0x01 {e : Nat} {w : Word} (h : w.toNat % 128 = 0x01) :
    eddyDecode e w = if (w.toNat / 4194304 % 8) = 0 then decodeOp e (w.toNat / 33554432) (BitVec.ofNat 5 (w.toNat / 128 % 32)) (BitVec.ofNat 5 (w.toNat / 4096 % 32)) (BitVec.ofNat 5 (w.toNat / 131072 % 32)) else none := by
  unfold eddyDecode
  simp only [h]
  try rfl

theorem decode_0x02 {e : Nat} {w : Word} (h : w.toNat % 128 = 0x02) :
    eddyDecode e w = some (.addi e (BitVec.ofNat 5 (w.toNat / 128 % 32)) (BitVec.ofNat 5 (w.toNat / 4096 % 32)) (BitVec.ofNat 15 (w.toNat / 131072))) := by
  unfold eddyDecode
  simp only [h]
  try rfl

theorem decode_0x03 {e : Nat} {w : Word} (h : w.toNat % 128 = 0x03) :
    eddyDecode e w = some (.andi e (BitVec.ofNat 5 (w.toNat / 128 % 32)) (BitVec.ofNat 5 (w.toNat / 4096 % 32)) (BitVec.ofNat 15 (w.toNat / 131072))) := by
  unfold eddyDecode
  simp only [h]
  try rfl

theorem decode_0x04 {e : Nat} {w : Word} (h : w.toNat % 128 = 0x04) :
    eddyDecode e w = some (.ori e (BitVec.ofNat 5 (w.toNat / 128 % 32)) (BitVec.ofNat 5 (w.toNat / 4096 % 32)) (BitVec.ofNat 15 (w.toNat / 131072))) := by
  unfold eddyDecode
  simp only [h]
  try rfl

theorem decode_0x05 {e : Nat} {w : Word} (h : w.toNat % 128 = 0x05) :
    eddyDecode e w = some (.xori e (BitVec.ofNat 5 (w.toNat / 128 % 32)) (BitVec.ofNat 5 (w.toNat / 4096 % 32)) (BitVec.ofNat 15 (w.toNat / 131072))) := by
  unfold eddyDecode
  simp only [h]
  try rfl

theorem decode_0x06 {e : Nat} {w : Word} (h : w.toNat % 128 = 0x06) :
    eddyDecode e w = if w.toNat / 131072 < 32 then some (.shli e (BitVec.ofNat 5 (w.toNat / 128 % 32)) (BitVec.ofNat 5 (w.toNat / 4096 % 32)) (BitVec.ofNat 5 (w.toNat / 131072 % 32))) else none := by
  unfold eddyDecode
  simp only [h]
  try rfl

theorem decode_0x07 {e : Nat} {w : Word} (h : w.toNat % 128 = 0x07) :
    eddyDecode e w = if w.toNat / 131072 < 32 then some (.shri e (BitVec.ofNat 5 (w.toNat / 128 % 32)) (BitVec.ofNat 5 (w.toNat / 4096 % 32)) (BitVec.ofNat 5 (w.toNat / 131072 % 32))) else none := by
  unfold eddyDecode
  simp only [h]
  try rfl

theorem decode_0x08 {e : Nat} {w : Word} (h : w.toNat % 128 = 0x08) :
    eddyDecode e w = if w.toNat / 131072 < 32 then some (.srai e (BitVec.ofNat 5 (w.toNat / 128 % 32)) (BitVec.ofNat 5 (w.toNat / 4096 % 32)) (BitVec.ofNat 5 (w.toNat / 131072 % 32))) else none := by
  unfold eddyDecode
  simp only [h]
  try rfl

theorem decode_0x09 {e : Nat} {w : Word} (h : w.toNat % 128 = 0x09) :
    eddyDecode e w = some (.slti e (BitVec.ofNat 5 (w.toNat / 128 % 32)) (BitVec.ofNat 5 (w.toNat / 4096 % 32)) (BitVec.ofNat 15 (w.toNat / 131072))) := by
  unfold eddyDecode
  simp only [h]
  try rfl

theorem decode_0x0A {e : Nat} {w : Word} (h : w.toNat % 128 = 0x0A) :
    eddyDecode e w = some (.sltiu e (BitVec.ofNat 5 (w.toNat / 128 % 32)) (BitVec.ofNat 5 (w.toNat / 4096 % 32)) (BitVec.ofNat 15 (w.toNat / 131072))) := by
  unfold eddyDecode
  simp only [h]
  try rfl

theorem decode_0x0B {e : Nat} {w : Word} (h : w.toNat % 128 = 0x0B) :
    eddyDecode e w = some (.lui e (BitVec.ofNat 5 (w.toNat / 128 % 32)) (BitVec.ofNat 20 (w.toNat / 4096))) := by
  unfold eddyDecode
  simp only [h]
  try rfl

theorem decode_0x0C {e : Nat} {w : Word} (h : w.toNat % 128 = 0x0C) :
    eddyDecode e w = some (.jal e (BitVec.ofNat 5 (w.toNat / 128 % 32)) (BitVec.ofNat 20 (w.toNat / 4096))) := by
  unfold eddyDecode
  simp only [h]
  try rfl

theorem decode_0x0D {e : Nat} {w : Word} (h : w.toNat % 128 = 0x0D) :
    eddyDecode e w = some (.jalr e (BitVec.ofNat 5 (w.toNat / 128 % 32)) (BitVec.ofNat 5 (w.toNat / 4096 % 32)) (BitVec.ofNat 15 (w.toNat / 131072))) := by
  unfold eddyDecode
  simp only [h]
  try rfl

theorem decode_0x0E {e : Nat} {w : Word} (h : w.toNat % 128 = 0x0E) :
    eddyDecode e w = if (w.toNat / 131072 % 8) ≤ 5 then some (.br e (BitVec.ofNat 3 (w.toNat / 131072 % 8)) (BitVec.ofNat 5 (w.toNat / 128 % 32)) (BitVec.ofNat 5 (w.toNat / 4096 % 32)) (BitVec.ofNat 12 (w.toNat / 1048576))) else none := by
  unfold eddyDecode
  simp only [h]
  try rfl

theorem decode_0x10 {e : Nat} {w : Word} (h : w.toNat % 128 = 0x10) :
    eddyDecode e w = if (w.toNat / 131072 % 8) = 0 then some (.lw e (BitVec.ofNat 5 (w.toNat / 128 % 32)) (BitVec.ofNat 5 (w.toNat / 4096 % 32)) (BitVec.ofNat 12 (w.toNat / 1048576))) else none := by
  unfold eddyDecode
  simp only [h]
  try rfl

theorem decode_0x11 {e : Nat} {w : Word} (h : w.toNat % 128 = 0x11) :
    eddyDecode e w = if (w.toNat / 131072 % 8) = 0 then some (.lh e (BitVec.ofNat 5 (w.toNat / 128 % 32)) (BitVec.ofNat 5 (w.toNat / 4096 % 32)) (BitVec.ofNat 12 (w.toNat / 1048576))) else none := by
  unfold eddyDecode
  simp only [h]
  try rfl

theorem decode_0x12 {e : Nat} {w : Word} (h : w.toNat % 128 = 0x12) :
    eddyDecode e w = if (w.toNat / 131072 % 8) = 0 then some (.lhu e (BitVec.ofNat 5 (w.toNat / 128 % 32)) (BitVec.ofNat 5 (w.toNat / 4096 % 32)) (BitVec.ofNat 12 (w.toNat / 1048576))) else none := by
  unfold eddyDecode
  simp only [h]
  try rfl

theorem decode_0x13 {e : Nat} {w : Word} (h : w.toNat % 128 = 0x13) :
    eddyDecode e w = if (w.toNat / 131072 % 8) = 0 then some (.lb e (BitVec.ofNat 5 (w.toNat / 128 % 32)) (BitVec.ofNat 5 (w.toNat / 4096 % 32)) (BitVec.ofNat 12 (w.toNat / 1048576))) else none := by
  unfold eddyDecode
  simp only [h]
  try rfl

theorem decode_0x14 {e : Nat} {w : Word} (h : w.toNat % 128 = 0x14) :
    eddyDecode e w = if (w.toNat / 131072 % 8) = 0 then some (.lbu e (BitVec.ofNat 5 (w.toNat / 128 % 32)) (BitVec.ofNat 5 (w.toNat / 4096 % 32)) (BitVec.ofNat 12 (w.toNat / 1048576))) else none := by
  unfold eddyDecode
  simp only [h]
  try rfl

theorem decode_0x15 {e : Nat} {w : Word} (h : w.toNat % 128 = 0x15) :
    eddyDecode e w = if (w.toNat / 131072 % 8) = 0 then some (.sw e (BitVec.ofNat 5 (w.toNat / 128 % 32)) (BitVec.ofNat 5 (w.toNat / 4096 % 32)) (BitVec.ofNat 12 (w.toNat / 1048576))) else none := by
  unfold eddyDecode
  simp only [h]
  try rfl

theorem decode_0x16 {e : Nat} {w : Word} (h : w.toNat % 128 = 0x16) :
    eddyDecode e w = if (w.toNat / 131072 % 8) = 0 then some (.sh e (BitVec.ofNat 5 (w.toNat / 128 % 32)) (BitVec.ofNat 5 (w.toNat / 4096 % 32)) (BitVec.ofNat 12 (w.toNat / 1048576))) else none := by
  unfold eddyDecode
  simp only [h]
  try rfl

theorem decode_0x17 {e : Nat} {w : Word} (h : w.toNat % 128 = 0x17) :
    eddyDecode e w = if (w.toNat / 131072 % 8) = 0 then some (.sb e (BitVec.ofNat 5 (w.toNat / 128 % 32)) (BitVec.ofNat 5 (w.toNat / 4096 % 32)) (BitVec.ofNat 12 (w.toNat / 1048576))) else none := by
  unfold eddyDecode
  simp only [h]
  try rfl

theorem decode_0x18 {e : Nat} {w : Word} (h : w.toNat % 128 = 0x18) :
    eddyDecode e w = some (.vld e (BitVec.ofNat 3 (w.toNat / 131072 % 8)) (BitVec.ofNat 5 (w.toNat / 128 % 32)) (BitVec.ofNat 5 (w.toNat / 4096 % 32)) (BitVec.ofNat 12 (w.toNat / 1048576))) := by
  unfold eddyDecode
  simp only [h]
  try rfl

theorem decode_0x19 {e : Nat} {w : Word} (h : w.toNat % 128 = 0x19) :
    eddyDecode e w = some (.vst e (BitVec.ofNat 3 (w.toNat / 131072 % 8)) (BitVec.ofNat 5 (w.toNat / 128 % 32)) (BitVec.ofNat 5 (w.toNat / 4096 % 32)) (BitVec.ofNat 12 (w.toNat / 1048576))) := by
  unfold eddyDecode
  simp only [h]
  try rfl

theorem decode_0x1A {e : Nat} {w : Word} (h : w.toNat % 128 = 0x1A) :
    eddyDecode e w = some (.vldb e (BitVec.ofNat 3 (w.toNat / 131072 % 8)) (BitVec.ofNat 5 (w.toNat / 128 % 32)) (BitVec.ofNat 5 (w.toNat / 4096 % 32)) (BitVec.ofNat 12 (w.toNat / 1048576))) := by
  unfold eddyDecode
  simp only [h]
  try rfl

theorem decode_0x1B {e : Nat} {w : Word} (h : w.toNat % 128 = 0x1B) :
    eddyDecode e w = if (w.toNat / 4194304 % 8) = 0 then decodeAmo e (w.toNat / 33554432) (BitVec.ofNat 5 (w.toNat / 128 % 32)) (BitVec.ofNat 5 (w.toNat / 4096 % 32)) (BitVec.ofNat 5 (w.toNat / 131072 % 32)) else none := by
  unfold eddyDecode
  simp only [h]
  try rfl

theorem decode_0x20 {e : Nat} {w : Word} (h : w.toNat % 128 = 0x20) :
    eddyDecode e w = decodeVop e (w.toNat / 33554432) (BitVec.ofNat 3 (w.toNat / 4194304 % 8)) (BitVec.ofNat 5 (w.toNat / 128 % 32)) (BitVec.ofNat 5 (w.toNat / 4096 % 32)) (BitVec.ofNat 5 (w.toNat / 131072 % 32)) := by
  unfold eddyDecode
  simp only [h]
  try rfl

theorem decode_0x21 {e : Nat} {w : Word} (h : w.toNat % 128 = 0x21) :
    eddyDecode e w = decodeVopi e (w.toNat / 33554432) (BitVec.ofNat 3 (w.toNat / 4194304 % 8)) (BitVec.ofNat 5 (w.toNat / 128 % 32)) (BitVec.ofNat 5 (w.toNat / 4096 % 32)) (BitVec.ofNat 5 (w.toNat / 131072 % 32)) := by
  unfold eddyDecode
  simp only [h]
  try rfl

theorem decode_0x22 {e : Nat} {w : Word} (h : w.toNat % 128 = 0x22) :
    eddyDecode e w = if (w.toNat / 131072 % 32) = 0 then decodeVun e (w.toNat / 33554432) (BitVec.ofNat 3 (w.toNat / 4194304 % 8)) (BitVec.ofNat 5 (w.toNat / 128 % 32)) (BitVec.ofNat 5 (w.toNat / 4096 % 32)) else none := by
  unfold eddyDecode
  simp only [h]
  try rfl

theorem decode_0x23 {e : Nat} {w : Word} (h : w.toNat % 128 = 0x23) :
    eddyDecode e w = if (w.toNat / 33554432) = 0 ∧ (w.toNat / 131072 % 32) = 0 then some (.vmvs e (BitVec.ofNat 3 (w.toNat / 4194304 % 8)) (BitVec.ofNat 5 (w.toNat / 128 % 32)) (BitVec.ofNat 5 (w.toNat / 4096 % 32))) else none := by
  unfold eddyDecode
  simp only [h]
  try rfl

theorem decode_0x24 {e : Nat} {w : Word} (h : w.toNat % 128 = 0x24) :
    eddyDecode e w = if (w.toNat / 33554432) ≤ 5 ∧ (w.toNat / 128 % 32) < 8 then some (.vcmp e (BitVec.ofNat 3 (w.toNat / 4194304 % 8)) (BitVec.ofNat 3 (w.toNat / 128 % 32)) (BitVec.ofNat 3 (w.toNat / 33554432)) (BitVec.ofNat 5 (w.toNat / 4096 % 32)) (BitVec.ofNat 5 (w.toNat / 131072 % 32))) else none := by
  unfold eddyDecode
  simp only [h]
  try rfl

theorem decode_0x25 {e : Nat} {w : Word} (h : w.toNat % 128 = 0x25) :
    eddyDecode e w = if (w.toNat / 4194304 % 8) = 0 then decodePop e (w.toNat / 33554432) (w.toNat / 128 % 32) (w.toNat / 4096 % 32) (w.toNat / 131072 % 32) else none := by
  unfold eddyDecode
  simp only [h]
  try rfl

theorem decode_0x28 {e : Nat} {w : Word} (h : w.toNat % 128 = 0x28) :
    eddyDecode e w = if (w.toNat / 33554432) < 16 ∧ (w.toNat / 128 % 32) < 4 then some (.vmac e (BitVec.ofNat 3 (w.toNat / 4194304 % 8)) (BitVec.ofNat 2 (w.toNat / 128 % 32)) (BitVec.ofNat 5 (w.toNat / 4096 % 32)) (BitVec.ofNat 5 (w.toNat / 131072 % 32)) (BitVec.ofNat 4 (w.toNat / 33554432))) else none := by
  unfold eddyDecode
  simp only [h]
  try rfl

theorem decode_0x29 {e : Nat} {w : Word} (h : w.toNat % 128 = 0x29) :
    eddyDecode e w = if (w.toNat / 33554432) = 0 ∧ (w.toNat / 128 % 32) < 4 ∧ (w.toNat / 4096 % 32) = 0 ∧ (w.toNat / 131072 % 32) = 0 then some (.aclr e (BitVec.ofNat 3 (w.toNat / 4194304 % 8)) (BitVec.ofNat 2 (w.toNat / 128 % 32))) else none := by
  unfold eddyDecode
  simp only [h]
  try rfl

theorem decode_0x2A {e : Nat} {w : Word} (h : w.toNat % 128 = 0x2A) :
    eddyDecode e w = if (w.toNat / 33554432) < 2 ∧ (w.toNat / 128 % 32) < 4 then some (.aset e (BitVec.ofNat 3 (w.toNat / 4194304 % 8)) (BitVec.ofNat 2 (w.toNat / 128 % 32)) (BitVec.ofNat 5 (w.toNat / 4096 % 32)) (BitVec.ofNat 5 (w.toNat / 131072 % 32)) (decide ((w.toNat / 33554432) = 1))) else none := by
  unfold eddyDecode
  simp only [h]
  try rfl

theorem decode_0x2B {e : Nat} {w : Word} (h : w.toNat % 128 = 0x2B) :
    eddyDecode e w = if (w.toNat / 33554432) < 3 ∧ (w.toNat / 4096 % 32) < 4 then some (.vrnd e (BitVec.ofNat 3 (w.toNat / 4194304 % 8)) (BitVec.ofNat 2 (w.toNat / 4096 % 32)) (BitVec.ofNat 5 (w.toNat / 128 % 32)) (BitVec.ofNat 5 (w.toNat / 131072 % 32)) (BitVec.ofNat 2 (w.toNat / 33554432))) else none := by
  unfold eddyDecode
  simp only [h]
  try rfl

theorem decode_0x30 {e : Nat} {w : Word} (h : w.toNat % 128 = 0x30) :
    eddyDecode e w = if (w.toNat / 33554432) < 64 ∧ (w.toNat / 131072 % 32) = 0 then some (.lut1 e (BitVec.ofNat 3 (w.toNat / 134217728)) (BitVec.ofNat 5 (w.toNat / 128 % 32)) (BitVec.ofNat 5 (w.toNat / 4096 % 32)) (BitVec.ofNat 5 (w.toNat / 4194304)) (decide (32 ≤ (w.toNat / 33554432)))) else none := by
  unfold eddyDecode
  simp only [h]
  try rfl

theorem decode_0x31 {e : Nat} {w : Word} (h : w.toNat % 128 = 0x31) :
    eddyDecode e w = if (w.toNat / 33554432) < 64 then some (.lut2 e (BitVec.ofNat 3 (w.toNat / 134217728)) (BitVec.ofNat 5 (w.toNat / 128 % 32)) (BitVec.ofNat 5 (w.toNat / 4096 % 32)) (BitVec.ofNat 5 (w.toNat / 131072 % 32)) (BitVec.ofNat 5 (w.toNat / 4194304)) (decide (32 ≤ (w.toNat / 33554432)))) else none := by
  unfold eddyDecode
  simp only [h]
  try rfl

theorem decode_0x38 {e : Nat} {w : Word} (h : w.toNat % 128 = 0x38) :
    eddyDecode e w = if (w.toNat / 33554432) = 0 ∧ (w.toNat / 4194304 % 8) = 0 ∧ (w.toNat / 131072 % 32) = 0 then some (.mvq e (BitVec.ofNat 5 (w.toNat / 128 % 32)) (BitVec.ofNat 5 (w.toNat / 4096 % 32))) else none := by
  unfold eddyDecode
  simp only [h]
  try rfl

theorem decode_0x39 {e : Nat} {w : Word} (h : w.toNat % 128 = 0x39) :
    eddyDecode e w = if w.toNat / 131072 < 16 ∧ (w.toNat / 128 % 32) = 0 ∧ (w.toNat / 4096 % 32) = 0 then some (.bar e (BitVec.ofNat 4 (w.toNat / 131072 % 32))) else none := by
  unfold eddyDecode
  simp only [h]
  try rfl

theorem decode_0x3A {e : Nat} {w : Word} (h : w.toNat % 128 = 0x3A) :
    eddyDecode e w = if 1 ≤ w.toNat / 131072 ∧ w.toNat / 131072 ≤ 7 ∧ (w.toNat / 128 % 32) = 0 ∧ (w.toNat / 4096 % 32) = 0 then some (.wait e (BitVec.ofNat 3 (w.toNat / 131072 % 32))) else none := by
  unfold eddyDecode
  simp only [h]
  try rfl

theorem decode_0x3B {e : Nat} {w : Word} (h : w.toNat % 128 = 0x3B) :
    eddyDecode e w = if w.toNat / 131072 ≤ 5 ∧ (w.toNat / 4096 % 32) = 0 then some (.csrr e (BitVec.ofNat 5 (w.toNat / 128 % 32)) (BitVec.ofNat 3 (w.toNat / 131072 % 32))) else none := by
  unfold eddyDecode
  simp only [h]
  try rfl

theorem decode_0x3C {e : Nat} {w : Word} (h : w.toNat % 128 = 0x3C) :
    eddyDecode e w = if w.toNat / 131072 ≤ 5 ∧ (w.toNat / 128 % 32) = 0 then some (.csrw e (BitVec.ofNat 5 (w.toNat / 4096 % 32)) (BitVec.ofNat 3 (w.toNat / 131072 % 32))) else none := by
  unfold eddyDecode
  simp only [h]
  try rfl

theorem decode_0x3D {e : Nat} {w : Word} (h : w.toNat % 128 = 0x3D) :
    eddyDecode e w = if w.toNat / 128 = 0 then some (.eret e) else none := by
  unfold eddyDecode
  simp only [h]
  try rfl

theorem decode_0x3E {e : Nat} {w : Word} (h : w.toNat % 128 = 0x3E) :
    eddyDecode e w = if w.toNat / 128 = 0 then some (.halt e) else none := by
  unfold eddyDecode
  simp only [h]
  try rfl

end Sys2Proof.Laws
end

