-- ==== Sys2Proof/Laws/PerInstr.lean ====
section
/-! SUPPORT. The round trip of the encodings (R381, R383), one lemma for each command: the word of a well-formed Eddy
instruction decodes to it. A command that is no Eddy instruction has no word. -/

namespace Sys2Proof.Laws.RoundTrip

open Sys2Proof Sys2Proof.Machine

set_option Elab.async false
set_option linter.unusedSimpArgs false

/-- The word of a well-formed instruction decodes to that instruction. -/
def Statement (i : Instr) : Prop :=
  ∀ w : Word, i.wf = true → eddyWord i = some w → eddyDecode (eddyEngine i) w = some i

theorem add (e : Nat) (rd ra rb : BitVec 5) : Statement (.add e rd ra rb) := by
  intro w hw h
  have hq : w = formatR 0x01 0x00 0 rb.toNat ra.toNat rd.toNat := (Option.some.inj h).symm
  subst hq
  clear hw h
  have b_rb := rb.isLt
  have b_ra := ra.isLt
  have b_rd := rd.isLt
  obtain ⟨h0, h1, h2, h3, h4, h5⟩ := formatR_fields (op := 0x01) (f7 := 0x00) (f3 := 0) (b := rb.toNat) (a := ra.toNat) (d := rd.toNat) (by omega) (by omega) (by omega) (by omega) (by omega) (by omega)
  refine (decode_0x01 h0).trans ?_
  refine (if_pos (by omega)).trans ?_
  simp only [h1, h2, h3, h4, h5, BitVec.ofNat_toNat, BitVec.setWidth_eq]
  rfl
theorem sub (e : Nat) (rd ra rb : BitVec 5) : Statement (.sub e rd ra rb) := by
  intro w hw h
  have hq : w = formatR 0x01 0x01 0 rb.toNat ra.toNat rd.toNat := (Option.some.inj h).symm
  subst hq
  clear hw h
  have b_rb := rb.isLt
  have b_ra := ra.isLt
  have b_rd := rd.isLt
  obtain ⟨h0, h1, h2, h3, h4, h5⟩ := formatR_fields (op := 0x01) (f7 := 0x01) (f3 := 0) (b := rb.toNat) (a := ra.toNat) (d := rd.toNat) (by omega) (by omega) (by omega) (by omega) (by omega) (by omega)
  refine (decode_0x01 h0).trans ?_
  refine (if_pos (by omega)).trans ?_
  simp only [h1, h2, h3, h4, h5, BitVec.ofNat_toNat, BitVec.setWidth_eq]
  rfl
theorem and (e : Nat) (rd ra rb : BitVec 5) : Statement (.and e rd ra rb) := by
  intro w hw h
  have hq : w = formatR 0x01 0x02 0 rb.toNat ra.toNat rd.toNat := (Option.some.inj h).symm
  subst hq
  clear hw h
  have b_rb := rb.isLt
  have b_ra := ra.isLt
  have b_rd := rd.isLt
  obtain ⟨h0, h1, h2, h3, h4, h5⟩ := formatR_fields (op := 0x01) (f7 := 0x02) (f3 := 0) (b := rb.toNat) (a := ra.toNat) (d := rd.toNat) (by omega) (by omega) (by omega) (by omega) (by omega) (by omega)
  refine (decode_0x01 h0).trans ?_
  refine (if_pos (by omega)).trans ?_
  simp only [h1, h2, h3, h4, h5, BitVec.ofNat_toNat, BitVec.setWidth_eq]
  rfl
theorem or (e : Nat) (rd ra rb : BitVec 5) : Statement (.or e rd ra rb) := by
  intro w hw h
  have hq : w = formatR 0x01 0x03 0 rb.toNat ra.toNat rd.toNat := (Option.some.inj h).symm
  subst hq
  clear hw h
  have b_rb := rb.isLt
  have b_ra := ra.isLt
  have b_rd := rd.isLt
  obtain ⟨h0, h1, h2, h3, h4, h5⟩ := formatR_fields (op := 0x01) (f7 := 0x03) (f3 := 0) (b := rb.toNat) (a := ra.toNat) (d := rd.toNat) (by omega) (by omega) (by omega) (by omega) (by omega) (by omega)
  refine (decode_0x01 h0).trans ?_
  refine (if_pos (by omega)).trans ?_
  simp only [h1, h2, h3, h4, h5, BitVec.ofNat_toNat, BitVec.setWidth_eq]
  rfl
theorem xor (e : Nat) (rd ra rb : BitVec 5) : Statement (.xor e rd ra rb) := by
  intro w hw h
  have hq : w = formatR 0x01 0x04 0 rb.toNat ra.toNat rd.toNat := (Option.some.inj h).symm
  subst hq
  clear hw h
  have b_rb := rb.isLt
  have b_ra := ra.isLt
  have b_rd := rd.isLt
  obtain ⟨h0, h1, h2, h3, h4, h5⟩ := formatR_fields (op := 0x01) (f7 := 0x04) (f3 := 0) (b := rb.toNat) (a := ra.toNat) (d := rd.toNat) (by omega) (by omega) (by omega) (by omega) (by omega) (by omega)
  refine (decode_0x01 h0).trans ?_
  refine (if_pos (by omega)).trans ?_
  simp only [h1, h2, h3, h4, h5, BitVec.ofNat_toNat, BitVec.setWidth_eq]
  rfl
theorem shl (e : Nat) (rd ra rb : BitVec 5) : Statement (.shl e rd ra rb) := by
  intro w hw h
  have hq : w = formatR 0x01 0x05 0 rb.toNat ra.toNat rd.toNat := (Option.some.inj h).symm
  subst hq
  clear hw h
  have b_rb := rb.isLt
  have b_ra := ra.isLt
  have b_rd := rd.isLt
  obtain ⟨h0, h1, h2, h3, h4, h5⟩ := formatR_fields (op := 0x01) (f7 := 0x05) (f3 := 0) (b := rb.toNat) (a := ra.toNat) (d := rd.toNat) (by omega) (by omega) (by omega) (by omega) (by omega) (by omega)
  refine (decode_0x01 h0).trans ?_
  refine (if_pos (by omega)).trans ?_
  simp only [h1, h2, h3, h4, h5, BitVec.ofNat_toNat, BitVec.setWidth_eq]
  rfl
theorem shr (e : Nat) (rd ra rb : BitVec 5) : Statement (.shr e rd ra rb) := by
  intro w hw h
  have hq : w = formatR 0x01 0x06 0 rb.toNat ra.toNat rd.toNat := (Option.some.inj h).symm
  subst hq
  clear hw h
  have b_rb := rb.isLt
  have b_ra := ra.isLt
  have b_rd := rd.isLt
  obtain ⟨h0, h1, h2, h3, h4, h5⟩ := formatR_fields (op := 0x01) (f7 := 0x06) (f3 := 0) (b := rb.toNat) (a := ra.toNat) (d := rd.toNat) (by omega) (by omega) (by omega) (by omega) (by omega) (by omega)
  refine (decode_0x01 h0).trans ?_
  refine (if_pos (by omega)).trans ?_
  simp only [h1, h2, h3, h4, h5, BitVec.ofNat_toNat, BitVec.setWidth_eq]
  rfl
theorem sra (e : Nat) (rd ra rb : BitVec 5) : Statement (.sra e rd ra rb) := by
  intro w hw h
  have hq : w = formatR 0x01 0x07 0 rb.toNat ra.toNat rd.toNat := (Option.some.inj h).symm
  subst hq
  clear hw h
  have b_rb := rb.isLt
  have b_ra := ra.isLt
  have b_rd := rd.isLt
  obtain ⟨h0, h1, h2, h3, h4, h5⟩ := formatR_fields (op := 0x01) (f7 := 0x07) (f3 := 0) (b := rb.toNat) (a := ra.toNat) (d := rd.toNat) (by omega) (by omega) (by omega) (by omega) (by omega) (by omega)
  refine (decode_0x01 h0).trans ?_
  refine (if_pos (by omega)).trans ?_
  simp only [h1, h2, h3, h4, h5, BitVec.ofNat_toNat, BitVec.setWidth_eq]
  rfl
theorem slt (e : Nat) (rd ra rb : BitVec 5) : Statement (.slt e rd ra rb) := by
  intro w hw h
  have hq : w = formatR 0x01 0x08 0 rb.toNat ra.toNat rd.toNat := (Option.some.inj h).symm
  subst hq
  clear hw h
  have b_rb := rb.isLt
  have b_ra := ra.isLt
  have b_rd := rd.isLt
  obtain ⟨h0, h1, h2, h3, h4, h5⟩ := formatR_fields (op := 0x01) (f7 := 0x08) (f3 := 0) (b := rb.toNat) (a := ra.toNat) (d := rd.toNat) (by omega) (by omega) (by omega) (by omega) (by omega) (by omega)
  refine (decode_0x01 h0).trans ?_
  refine (if_pos (by omega)).trans ?_
  simp only [h1, h2, h3, h4, h5, BitVec.ofNat_toNat, BitVec.setWidth_eq]
  rfl
theorem sltu (e : Nat) (rd ra rb : BitVec 5) : Statement (.sltu e rd ra rb) := by
  intro w hw h
  have hq : w = formatR 0x01 0x09 0 rb.toNat ra.toNat rd.toNat := (Option.some.inj h).symm
  subst hq
  clear hw h
  have b_rb := rb.isLt
  have b_ra := ra.isLt
  have b_rd := rd.isLt
  obtain ⟨h0, h1, h2, h3, h4, h5⟩ := formatR_fields (op := 0x01) (f7 := 0x09) (f3 := 0) (b := rb.toNat) (a := ra.toNat) (d := rd.toNat) (by omega) (by omega) (by omega) (by omega) (by omega) (by omega)
  refine (decode_0x01 h0).trans ?_
  refine (if_pos (by omega)).trans ?_
  simp only [h1, h2, h3, h4, h5, BitVec.ofNat_toNat, BitVec.setWidth_eq]
  rfl
theorem min (e : Nat) (rd ra rb : BitVec 5) : Statement (.min e rd ra rb) := by
  intro w hw h
  have hq : w = formatR 0x01 0x0A 0 rb.toNat ra.toNat rd.toNat := (Option.some.inj h).symm
  subst hq
  clear hw h
  have b_rb := rb.isLt
  have b_ra := ra.isLt
  have b_rd := rd.isLt
  obtain ⟨h0, h1, h2, h3, h4, h5⟩ := formatR_fields (op := 0x01) (f7 := 0x0A) (f3 := 0) (b := rb.toNat) (a := ra.toNat) (d := rd.toNat) (by omega) (by omega) (by omega) (by omega) (by omega) (by omega)
  refine (decode_0x01 h0).trans ?_
  refine (if_pos (by omega)).trans ?_
  simp only [h1, h2, h3, h4, h5, BitVec.ofNat_toNat, BitVec.setWidth_eq]
  rfl
theorem minu (e : Nat) (rd ra rb : BitVec 5) : Statement (.minu e rd ra rb) := by
  intro w hw h
  have hq : w = formatR 0x01 0x0B 0 rb.toNat ra.toNat rd.toNat := (Option.some.inj h).symm
  subst hq
  clear hw h
  have b_rb := rb.isLt
  have b_ra := ra.isLt
  have b_rd := rd.isLt
  obtain ⟨h0, h1, h2, h3, h4, h5⟩ := formatR_fields (op := 0x01) (f7 := 0x0B) (f3 := 0) (b := rb.toNat) (a := ra.toNat) (d := rd.toNat) (by omega) (by omega) (by omega) (by omega) (by omega) (by omega)
  refine (decode_0x01 h0).trans ?_
  refine (if_pos (by omega)).trans ?_
  simp only [h1, h2, h3, h4, h5, BitVec.ofNat_toNat, BitVec.setWidth_eq]
  rfl
theorem max (e : Nat) (rd ra rb : BitVec 5) : Statement (.max e rd ra rb) := by
  intro w hw h
  have hq : w = formatR 0x01 0x0C 0 rb.toNat ra.toNat rd.toNat := (Option.some.inj h).symm
  subst hq
  clear hw h
  have b_rb := rb.isLt
  have b_ra := ra.isLt
  have b_rd := rd.isLt
  obtain ⟨h0, h1, h2, h3, h4, h5⟩ := formatR_fields (op := 0x01) (f7 := 0x0C) (f3 := 0) (b := rb.toNat) (a := ra.toNat) (d := rd.toNat) (by omega) (by omega) (by omega) (by omega) (by omega) (by omega)
  refine (decode_0x01 h0).trans ?_
  refine (if_pos (by omega)).trans ?_
  simp only [h1, h2, h3, h4, h5, BitVec.ofNat_toNat, BitVec.setWidth_eq]
  rfl
theorem maxu (e : Nat) (rd ra rb : BitVec 5) : Statement (.maxu e rd ra rb) := by
  intro w hw h
  have hq : w = formatR 0x01 0x0D 0 rb.toNat ra.toNat rd.toNat := (Option.some.inj h).symm
  subst hq
  clear hw h
  have b_rb := rb.isLt
  have b_ra := ra.isLt
  have b_rd := rd.isLt
  obtain ⟨h0, h1, h2, h3, h4, h5⟩ := formatR_fields (op := 0x01) (f7 := 0x0D) (f3 := 0) (b := rb.toNat) (a := ra.toNat) (d := rd.toNat) (by omega) (by omega) (by omega) (by omega) (by omega) (by omega)
  refine (decode_0x01 h0).trans ?_
  refine (if_pos (by omega)).trans ?_
  simp only [h1, h2, h3, h4, h5, BitVec.ofNat_toNat, BitVec.setWidth_eq]
  rfl
theorem mul (e : Nat) (rd ra rb : BitVec 5) : Statement (.mul e rd ra rb) := by
  intro w hw h
  have hq : w = formatR 0x01 0x0E 0 rb.toNat ra.toNat rd.toNat := (Option.some.inj h).symm
  subst hq
  clear hw h
  have b_rb := rb.isLt
  have b_ra := ra.isLt
  have b_rd := rd.isLt
  obtain ⟨h0, h1, h2, h3, h4, h5⟩ := formatR_fields (op := 0x01) (f7 := 0x0E) (f3 := 0) (b := rb.toNat) (a := ra.toNat) (d := rd.toNat) (by omega) (by omega) (by omega) (by omega) (by omega) (by omega)
  refine (decode_0x01 h0).trans ?_
  refine (if_pos (by omega)).trans ?_
  simp only [h1, h2, h3, h4, h5, BitVec.ofNat_toNat, BitVec.setWidth_eq]
  rfl
theorem mulh (e : Nat) (rd ra rb : BitVec 5) : Statement (.mulh e rd ra rb) := by
  intro w hw h
  have hq : w = formatR 0x01 0x0F 0 rb.toNat ra.toNat rd.toNat := (Option.some.inj h).symm
  subst hq
  clear hw h
  have b_rb := rb.isLt
  have b_ra := ra.isLt
  have b_rd := rd.isLt
  obtain ⟨h0, h1, h2, h3, h4, h5⟩ := formatR_fields (op := 0x01) (f7 := 0x0F) (f3 := 0) (b := rb.toNat) (a := ra.toNat) (d := rd.toNat) (by omega) (by omega) (by omega) (by omega) (by omega) (by omega)
  refine (decode_0x01 h0).trans ?_
  refine (if_pos (by omega)).trans ?_
  simp only [h1, h2, h3, h4, h5, BitVec.ofNat_toNat, BitVec.setWidth_eq]
  rfl
theorem mulhu (e : Nat) (rd ra rb : BitVec 5) : Statement (.mulhu e rd ra rb) := by
  intro w hw h
  have hq : w = formatR 0x01 0x10 0 rb.toNat ra.toNat rd.toNat := (Option.some.inj h).symm
  subst hq
  clear hw h
  have b_rb := rb.isLt
  have b_ra := ra.isLt
  have b_rd := rd.isLt
  obtain ⟨h0, h1, h2, h3, h4, h5⟩ := formatR_fields (op := 0x01) (f7 := 0x10) (f3 := 0) (b := rb.toNat) (a := ra.toNat) (d := rd.toNat) (by omega) (by omega) (by omega) (by omega) (by omega) (by omega)
  refine (decode_0x01 h0).trans ?_
  refine (if_pos (by omega)).trans ?_
  simp only [h1, h2, h3, h4, h5, BitVec.ofNat_toNat, BitVec.setWidth_eq]
  rfl
theorem addi (e : Nat) (rd ra : BitVec 5) (imm : BitVec 15) : Statement (.addi e rd ra imm) := by
  intro w hw h
  have hq : w = formatI 0x02 imm.toNat ra.toNat rd.toNat := (Option.some.inj h).symm
  subst hq
  clear hw h
  have b_imm := imm.isLt
  have b_ra := ra.isLt
  have b_rd := rd.isLt
  obtain ⟨h0, h1, h2, h3, h4⟩ := formatI_fields (op := 0x02) (imm := imm.toNat) (a := ra.toNat) (d := rd.toNat) (by omega) (by omega) (by omega) (by omega)
  refine (decode_0x02 h0).trans ?_
  simp only [h1, h2, h3, h4, BitVec.ofNat_toNat, BitVec.setWidth_eq]
  rfl
theorem andi (e : Nat) (rd ra : BitVec 5) (imm : BitVec 15) : Statement (.andi e rd ra imm) := by
  intro w hw h
  have hq : w = formatI 0x03 imm.toNat ra.toNat rd.toNat := (Option.some.inj h).symm
  subst hq
  clear hw h
  have b_imm := imm.isLt
  have b_ra := ra.isLt
  have b_rd := rd.isLt
  obtain ⟨h0, h1, h2, h3, h4⟩ := formatI_fields (op := 0x03) (imm := imm.toNat) (a := ra.toNat) (d := rd.toNat) (by omega) (by omega) (by omega) (by omega)
  refine (decode_0x03 h0).trans ?_
  simp only [h1, h2, h3, h4, BitVec.ofNat_toNat, BitVec.setWidth_eq]
  rfl
theorem ori (e : Nat) (rd ra : BitVec 5) (imm : BitVec 15) : Statement (.ori e rd ra imm) := by
  intro w hw h
  have hq : w = formatI 0x04 imm.toNat ra.toNat rd.toNat := (Option.some.inj h).symm
  subst hq
  clear hw h
  have b_imm := imm.isLt
  have b_ra := ra.isLt
  have b_rd := rd.isLt
  obtain ⟨h0, h1, h2, h3, h4⟩ := formatI_fields (op := 0x04) (imm := imm.toNat) (a := ra.toNat) (d := rd.toNat) (by omega) (by omega) (by omega) (by omega)
  refine (decode_0x04 h0).trans ?_
  simp only [h1, h2, h3, h4, BitVec.ofNat_toNat, BitVec.setWidth_eq]
  rfl
theorem xori (e : Nat) (rd ra : BitVec 5) (imm : BitVec 15) : Statement (.xori e rd ra imm) := by
  intro w hw h
  have hq : w = formatI 0x05 imm.toNat ra.toNat rd.toNat := (Option.some.inj h).symm
  subst hq
  clear hw h
  have b_imm := imm.isLt
  have b_ra := ra.isLt
  have b_rd := rd.isLt
  obtain ⟨h0, h1, h2, h3, h4⟩ := formatI_fields (op := 0x05) (imm := imm.toNat) (a := ra.toNat) (d := rd.toNat) (by omega) (by omega) (by omega) (by omega)
  refine (decode_0x05 h0).trans ?_
  simp only [h1, h2, h3, h4, BitVec.ofNat_toNat, BitVec.setWidth_eq]
  rfl
theorem shli (e : Nat) (rd ra sh : BitVec 5) : Statement (.shli e rd ra sh) := by
  intro w hw h
  have hq : w = formatI 0x06 sh.toNat ra.toNat rd.toNat := (Option.some.inj h).symm
  subst hq
  clear hw h
  have b_sh := sh.isLt
  have b_ra := ra.isLt
  have b_rd := rd.isLt
  obtain ⟨h0, h1, h2, h3, h4⟩ := formatI_fields (op := 0x06) (imm := sh.toNat) (a := ra.toNat) (d := rd.toNat) (by omega) (by omega) (by omega) (by omega)
  refine (decode_0x06 h0).trans ?_
  refine (if_pos (by omega)).trans ?_
  simp only [h1, h2, h3, h4, Nat.mod_eq_of_lt (show sh.toNat < 32 by omega), BitVec.ofNat_toNat, BitVec.setWidth_eq]
  rfl
theorem shri (e : Nat) (rd ra sh : BitVec 5) : Statement (.shri e rd ra sh) := by
  intro w hw h
  have hq : w = formatI 0x07 sh.toNat ra.toNat rd.toNat := (Option.some.inj h).symm
  subst hq
  clear hw h
  have b_sh := sh.isLt
  have b_ra := ra.isLt
  have b_rd := rd.isLt
  obtain ⟨h0, h1, h2, h3, h4⟩ := formatI_fields (op := 0x07) (imm := sh.toNat) (a := ra.toNat) (d := rd.toNat) (by omega) (by omega) (by omega) (by omega)
  refine (decode_0x07 h0).trans ?_
  refine (if_pos (by omega)).trans ?_
  simp only [h1, h2, h3, h4, Nat.mod_eq_of_lt (show sh.toNat < 32 by omega), BitVec.ofNat_toNat, BitVec.setWidth_eq]
  rfl
theorem srai (e : Nat) (rd ra sh : BitVec 5) : Statement (.srai e rd ra sh) := by
  intro w hw h
  have hq : w = formatI 0x08 sh.toNat ra.toNat rd.toNat := (Option.some.inj h).symm
  subst hq
  clear hw h
  have b_sh := sh.isLt
  have b_ra := ra.isLt
  have b_rd := rd.isLt
  obtain ⟨h0, h1, h2, h3, h4⟩ := formatI_fields (op := 0x08) (imm := sh.toNat) (a := ra.toNat) (d := rd.toNat) (by omega) (by omega) (by omega) (by omega)
  refine (decode_0x08 h0).trans ?_
  refine (if_pos (by omega)).trans ?_
  simp only [h1, h2, h3, h4, Nat.mod_eq_of_lt (show sh.toNat < 32 by omega), BitVec.ofNat_toNat, BitVec.setWidth_eq]
  rfl
theorem slti (e : Nat) (rd ra : BitVec 5) (imm : BitVec 15) : Statement (.slti e rd ra imm) := by
  intro w hw h
  have hq : w = formatI 0x09 imm.toNat ra.toNat rd.toNat := (Option.some.inj h).symm
  subst hq
  clear hw h
  have b_imm := imm.isLt
  have b_ra := ra.isLt
  have b_rd := rd.isLt
  obtain ⟨h0, h1, h2, h3, h4⟩ := formatI_fields (op := 0x09) (imm := imm.toNat) (a := ra.toNat) (d := rd.toNat) (by omega) (by omega) (by omega) (by omega)
  refine (decode_0x09 h0).trans ?_
  simp only [h1, h2, h3, h4, BitVec.ofNat_toNat, BitVec.setWidth_eq]
  rfl
theorem sltiu (e : Nat) (rd ra : BitVec 5) (imm : BitVec 15) : Statement (.sltiu e rd ra imm) := by
  intro w hw h
  have hq : w = formatI 0x0A imm.toNat ra.toNat rd.toNat := (Option.some.inj h).symm
  subst hq
  clear hw h
  have b_imm := imm.isLt
  have b_ra := ra.isLt
  have b_rd := rd.isLt
  obtain ⟨h0, h1, h2, h3, h4⟩ := formatI_fields (op := 0x0A) (imm := imm.toNat) (a := ra.toNat) (d := rd.toNat) (by omega) (by omega) (by omega) (by omega)
  refine (decode_0x0A h0).trans ?_
  simp only [h1, h2, h3, h4, BitVec.ofNat_toNat, BitVec.setWidth_eq]
  rfl
theorem lui (e : Nat) (rd : BitVec 5) (imm : BitVec 20) : Statement (.lui e rd imm) := by
  intro w hw h
  have hq : w = formatU 0x0B imm.toNat rd.toNat := (Option.some.inj h).symm
  subst hq
  clear hw h
  have b_imm := imm.isLt
  have b_rd := rd.isLt
  obtain ⟨h0, h1, h2⟩ := formatU_fields (op := 0x0B) (imm := imm.toNat) (d := rd.toNat) (by omega) (by omega) (by omega)
  refine (decode_0x0B h0).trans ?_
  simp only [h1, h2, BitVec.ofNat_toNat, BitVec.setWidth_eq]
  rfl
theorem jal (e : Nat) (rd : BitVec 5) (imm : BitVec 20) : Statement (.jal e rd imm) := by
  intro w hw h
  have hq : w = formatU 0x0C imm.toNat rd.toNat := (Option.some.inj h).symm
  subst hq
  clear hw h
  have b_imm := imm.isLt
  have b_rd := rd.isLt
  obtain ⟨h0, h1, h2⟩ := formatU_fields (op := 0x0C) (imm := imm.toNat) (d := rd.toNat) (by omega) (by omega) (by omega)
  refine (decode_0x0C h0).trans ?_
  simp only [h1, h2, BitVec.ofNat_toNat, BitVec.setWidth_eq]
  rfl
theorem jalr (e : Nat) (rd ra : BitVec 5) (imm : BitVec 15) : Statement (.jalr e rd ra imm) := by
  intro w hw h
  have hq : w = formatI 0x0D imm.toNat ra.toNat rd.toNat := (Option.some.inj h).symm
  subst hq
  clear hw h
  have b_imm := imm.isLt
  have b_ra := ra.isLt
  have b_rd := rd.isLt
  obtain ⟨h0, h1, h2, h3, h4⟩ := formatI_fields (op := 0x0D) (imm := imm.toNat) (a := ra.toNat) (d := rd.toNat) (by omega) (by omega) (by omega) (by omega)
  refine (decode_0x0D h0).trans ?_
  simp only [h1, h2, h3, h4, BitVec.ofNat_toNat, BitVec.setWidth_eq]
  rfl
theorem br (e : Nat) (cond : BitVec 3) (ra rb : BitVec 5) (off : BitVec 12) : Statement (.br e cond ra rb off) := by
  intro w hw h
  have hv := (Bool.and_eq_true_iff.mp hw).2
  simp only [decide_eq_true_eq] at hv
  have hq : w = formatB 0x0E off.toNat cond.toNat rb.toNat ra.toNat := (Option.some.inj h).symm
  subst hq
  clear hw h
  have b_off := off.isLt
  have b_cond := cond.isLt
  have b_rb := rb.isLt
  have b_ra := ra.isLt
  obtain ⟨h0, h1, h2, h3, h4⟩ := formatB_fields (op := 0x0E) (off := off.toNat) (cond := cond.toNat) (b := rb.toNat) (a := ra.toNat) (by omega) (by omega) (by omega) (by omega) (by omega)
  refine (decode_0x0E h0).trans ?_
  refine (if_pos (by omega)).trans ?_
  simp only [h1, h2, h3, h4, BitVec.ofNat_toNat, BitVec.setWidth_eq]
  rfl
theorem lw (e : Nat) (rd ra : BitVec 5) (off : BitVec 12) : Statement (.lw e rd ra off) := by
  intro w hw h
  have hq : w = formatM 0x10 off.toNat 0 ra.toNat rd.toNat := (Option.some.inj h).symm
  subst hq
  clear hw h
  have b_off := off.isLt
  have b_ra := ra.isLt
  have b_rd := rd.isLt
  obtain ⟨h0, h1, h2, h3, h4⟩ := formatM_fields (op := 0x10) (off := off.toNat) (pg := 0) (a := ra.toNat) (d := rd.toNat) (by omega) (by omega) (by omega) (by omega) (by omega)
  refine (decode_0x10 h0).trans ?_
  refine (if_pos (by omega)).trans ?_
  simp only [h1, h2, h3, h4, BitVec.ofNat_toNat, BitVec.setWidth_eq]
  rfl
theorem lh (e : Nat) (rd ra : BitVec 5) (off : BitVec 12) : Statement (.lh e rd ra off) := by
  intro w hw h
  have hq : w = formatM 0x11 off.toNat 0 ra.toNat rd.toNat := (Option.some.inj h).symm
  subst hq
  clear hw h
  have b_off := off.isLt
  have b_ra := ra.isLt
  have b_rd := rd.isLt
  obtain ⟨h0, h1, h2, h3, h4⟩ := formatM_fields (op := 0x11) (off := off.toNat) (pg := 0) (a := ra.toNat) (d := rd.toNat) (by omega) (by omega) (by omega) (by omega) (by omega)
  refine (decode_0x11 h0).trans ?_
  refine (if_pos (by omega)).trans ?_
  simp only [h1, h2, h3, h4, BitVec.ofNat_toNat, BitVec.setWidth_eq]
  rfl
theorem lhu (e : Nat) (rd ra : BitVec 5) (off : BitVec 12) : Statement (.lhu e rd ra off) := by
  intro w hw h
  have hq : w = formatM 0x12 off.toNat 0 ra.toNat rd.toNat := (Option.some.inj h).symm
  subst hq
  clear hw h
  have b_off := off.isLt
  have b_ra := ra.isLt
  have b_rd := rd.isLt
  obtain ⟨h0, h1, h2, h3, h4⟩ := formatM_fields (op := 0x12) (off := off.toNat) (pg := 0) (a := ra.toNat) (d := rd.toNat) (by omega) (by omega) (by omega) (by omega) (by omega)
  refine (decode_0x12 h0).trans ?_
  refine (if_pos (by omega)).trans ?_
  simp only [h1, h2, h3, h4, BitVec.ofNat_toNat, BitVec.setWidth_eq]
  rfl
theorem lb (e : Nat) (rd ra : BitVec 5) (off : BitVec 12) : Statement (.lb e rd ra off) := by
  intro w hw h
  have hq : w = formatM 0x13 off.toNat 0 ra.toNat rd.toNat := (Option.some.inj h).symm
  subst hq
  clear hw h
  have b_off := off.isLt
  have b_ra := ra.isLt
  have b_rd := rd.isLt
  obtain ⟨h0, h1, h2, h3, h4⟩ := formatM_fields (op := 0x13) (off := off.toNat) (pg := 0) (a := ra.toNat) (d := rd.toNat) (by omega) (by omega) (by omega) (by omega) (by omega)
  refine (decode_0x13 h0).trans ?_
  refine (if_pos (by omega)).trans ?_
  simp only [h1, h2, h3, h4, BitVec.ofNat_toNat, BitVec.setWidth_eq]
  rfl
theorem lbu (e : Nat) (rd ra : BitVec 5) (off : BitVec 12) : Statement (.lbu e rd ra off) := by
  intro w hw h
  have hq : w = formatM 0x14 off.toNat 0 ra.toNat rd.toNat := (Option.some.inj h).symm
  subst hq
  clear hw h
  have b_off := off.isLt
  have b_ra := ra.isLt
  have b_rd := rd.isLt
  obtain ⟨h0, h1, h2, h3, h4⟩ := formatM_fields (op := 0x14) (off := off.toNat) (pg := 0) (a := ra.toNat) (d := rd.toNat) (by omega) (by omega) (by omega) (by omega) (by omega)
  refine (decode_0x14 h0).trans ?_
  refine (if_pos (by omega)).trans ?_
  simp only [h1, h2, h3, h4, BitVec.ofNat_toNat, BitVec.setWidth_eq]
  rfl
theorem sw (e : Nat) (rd ra : BitVec 5) (off : BitVec 12) : Statement (.sw e rd ra off) := by
  intro w hw h
  have hq : w = formatM 0x15 off.toNat 0 ra.toNat rd.toNat := (Option.some.inj h).symm
  subst hq
  clear hw h
  have b_off := off.isLt
  have b_ra := ra.isLt
  have b_rd := rd.isLt
  obtain ⟨h0, h1, h2, h3, h4⟩ := formatM_fields (op := 0x15) (off := off.toNat) (pg := 0) (a := ra.toNat) (d := rd.toNat) (by omega) (by omega) (by omega) (by omega) (by omega)
  refine (decode_0x15 h0).trans ?_
  refine (if_pos (by omega)).trans ?_
  simp only [h1, h2, h3, h4, BitVec.ofNat_toNat, BitVec.setWidth_eq]
  rfl
theorem sh (e : Nat) (rd ra : BitVec 5) (off : BitVec 12) : Statement (.sh e rd ra off) := by
  intro w hw h
  have hq : w = formatM 0x16 off.toNat 0 ra.toNat rd.toNat := (Option.some.inj h).symm
  subst hq
  clear hw h
  have b_off := off.isLt
  have b_ra := ra.isLt
  have b_rd := rd.isLt
  obtain ⟨h0, h1, h2, h3, h4⟩ := formatM_fields (op := 0x16) (off := off.toNat) (pg := 0) (a := ra.toNat) (d := rd.toNat) (by omega) (by omega) (by omega) (by omega) (by omega)
  refine (decode_0x16 h0).trans ?_
  refine (if_pos (by omega)).trans ?_
  simp only [h1, h2, h3, h4, BitVec.ofNat_toNat, BitVec.setWidth_eq]
  rfl
theorem sb (e : Nat) (rd ra : BitVec 5) (off : BitVec 12) : Statement (.sb e rd ra off) := by
  intro w hw h
  have hq : w = formatM 0x17 off.toNat 0 ra.toNat rd.toNat := (Option.some.inj h).symm
  subst hq
  clear hw h
  have b_off := off.isLt
  have b_ra := ra.isLt
  have b_rd := rd.isLt
  obtain ⟨h0, h1, h2, h3, h4⟩ := formatM_fields (op := 0x17) (off := off.toNat) (pg := 0) (a := ra.toNat) (d := rd.toNat) (by omega) (by omega) (by omega) (by omega) (by omega)
  refine (decode_0x17 h0).trans ?_
  refine (if_pos (by omega)).trans ?_
  simp only [h1, h2, h3, h4, BitVec.ofNat_toNat, BitVec.setWidth_eq]
  rfl
theorem vld (e : Nat) (pg : BitVec 3) (vd ra : BitVec 5) (off : BitVec 12) : Statement (.vld e pg vd ra off) := by
  intro w hw h
  have hq : w = formatM 0x18 off.toNat pg.toNat ra.toNat vd.toNat := (Option.some.inj h).symm
  subst hq
  clear hw h
  have b_off := off.isLt
  have b_pg := pg.isLt
  have b_ra := ra.isLt
  have b_vd := vd.isLt
  obtain ⟨h0, h1, h2, h3, h4⟩ := formatM_fields (op := 0x18) (off := off.toNat) (pg := pg.toNat) (a := ra.toNat) (d := vd.toNat) (by omega) (by omega) (by omega) (by omega) (by omega)
  refine (decode_0x18 h0).trans ?_
  simp only [h1, h2, h3, h4, BitVec.ofNat_toNat, BitVec.setWidth_eq]
  rfl
theorem vst (e : Nat) (pg : BitVec 3) (vd ra : BitVec 5) (off : BitVec 12) : Statement (.vst e pg vd ra off) := by
  intro w hw h
  have hq : w = formatM 0x19 off.toNat pg.toNat ra.toNat vd.toNat := (Option.some.inj h).symm
  subst hq
  clear hw h
  have b_off := off.isLt
  have b_pg := pg.isLt
  have b_ra := ra.isLt
  have b_vd := vd.isLt
  obtain ⟨h0, h1, h2, h3, h4⟩ := formatM_fields (op := 0x19) (off := off.toNat) (pg := pg.toNat) (a := ra.toNat) (d := vd.toNat) (by omega) (by omega) (by omega) (by omega) (by omega)
  refine (decode_0x19 h0).trans ?_
  simp only [h1, h2, h3, h4, BitVec.ofNat_toNat, BitVec.setWidth_eq]
  rfl
theorem vldb (e : Nat) (pg : BitVec 3) (vd ra : BitVec 5) (off : BitVec 12) : Statement (.vldb e pg vd ra off) := by
  intro w hw h
  have hq : w = formatM 0x1A off.toNat pg.toNat ra.toNat vd.toNat := (Option.some.inj h).symm
  subst hq
  clear hw h
  have b_off := off.isLt
  have b_pg := pg.isLt
  have b_ra := ra.isLt
  have b_vd := vd.isLt
  obtain ⟨h0, h1, h2, h3, h4⟩ := formatM_fields (op := 0x1A) (off := off.toNat) (pg := pg.toNat) (a := ra.toNat) (d := vd.toNat) (by omega) (by omega) (by omega) (by omega) (by omega)
  refine (decode_0x1A h0).trans ?_
  simp only [h1, h2, h3, h4, BitVec.ofNat_toNat, BitVec.setWidth_eq]
  rfl
theorem aaddH (e : Nat) (rd ra rb : BitVec 5) : Statement (.aaddH e rd ra rb) := by
  intro w hw h
  have hq : w = formatR 0x1B 0x00 0 rb.toNat ra.toNat rd.toNat := (Option.some.inj h).symm
  subst hq
  clear hw h
  have b_rb := rb.isLt
  have b_ra := ra.isLt
  have b_rd := rd.isLt
  obtain ⟨h0, h1, h2, h3, h4, h5⟩ := formatR_fields (op := 0x1B) (f7 := 0x00) (f3 := 0) (b := rb.toNat) (a := ra.toNat) (d := rd.toNat) (by omega) (by omega) (by omega) (by omega) (by omega) (by omega)
  refine (decode_0x1B h0).trans ?_
  refine (if_pos (by omega)).trans ?_
  simp only [h1, h2, h3, h4, h5, BitVec.ofNat_toNat, BitVec.setWidth_eq]
  rfl
theorem aaddW (e : Nat) (rd ra rb : BitVec 5) : Statement (.aaddW e rd ra rb) := by
  intro w hw h
  have hq : w = formatR 0x1B 0x01 0 rb.toNat ra.toNat rd.toNat := (Option.some.inj h).symm
  subst hq
  clear hw h
  have b_rb := rb.isLt
  have b_ra := ra.isLt
  have b_rd := rd.isLt
  obtain ⟨h0, h1, h2, h3, h4, h5⟩ := formatR_fields (op := 0x1B) (f7 := 0x01) (f3 := 0) (b := rb.toNat) (a := ra.toNat) (d := rd.toNat) (by omega) (by omega) (by omega) (by omega) (by omega) (by omega)
  refine (decode_0x1B h0).trans ?_
  refine (if_pos (by omega)).trans ?_
  simp only [h1, h2, h3, h4, h5, BitVec.ofNat_toNat, BitVec.setWidth_eq]
  rfl
theorem aaddsH (e : Nat) (rd ra rb : BitVec 5) : Statement (.aaddsH e rd ra rb) := by
  intro w hw h
  have hq : w = formatR 0x1B 0x02 0 rb.toNat ra.toNat rd.toNat := (Option.some.inj h).symm
  subst hq
  clear hw h
  have b_rb := rb.isLt
  have b_ra := ra.isLt
  have b_rd := rd.isLt
  obtain ⟨h0, h1, h2, h3, h4, h5⟩ := formatR_fields (op := 0x1B) (f7 := 0x02) (f3 := 0) (b := rb.toNat) (a := ra.toNat) (d := rd.toNat) (by omega) (by omega) (by omega) (by omega) (by omega) (by omega)
  refine (decode_0x1B h0).trans ?_
  refine (if_pos (by omega)).trans ?_
  simp only [h1, h2, h3, h4, h5, BitVec.ofNat_toNat, BitVec.setWidth_eq]
  rfl
theorem aaddsW (e : Nat) (rd ra rb : BitVec 5) : Statement (.aaddsW e rd ra rb) := by
  intro w hw h
  have hq : w = formatR 0x1B 0x03 0 rb.toNat ra.toNat rd.toNat := (Option.some.inj h).symm
  subst hq
  clear hw h
  have b_rb := rb.isLt
  have b_ra := ra.isLt
  have b_rd := rd.isLt
  obtain ⟨h0, h1, h2, h3, h4, h5⟩ := formatR_fields (op := 0x1B) (f7 := 0x03) (f3 := 0) (b := rb.toNat) (a := ra.toNat) (d := rd.toNat) (by omega) (by omega) (by omega) (by omega) (by omega) (by omega)
  refine (decode_0x1B h0).trans ?_
  refine (if_pos (by omega)).trans ?_
  simp only [h1, h2, h3, h4, h5, BitVec.ofNat_toNat, BitVec.setWidth_eq]
  rfl
theorem aswpH (e : Nat) (rd ra rb : BitVec 5) : Statement (.aswpH e rd ra rb) := by
  intro w hw h
  have hq : w = formatR 0x1B 0x04 0 rb.toNat ra.toNat rd.toNat := (Option.some.inj h).symm
  subst hq
  clear hw h
  have b_rb := rb.isLt
  have b_ra := ra.isLt
  have b_rd := rd.isLt
  obtain ⟨h0, h1, h2, h3, h4, h5⟩ := formatR_fields (op := 0x1B) (f7 := 0x04) (f3 := 0) (b := rb.toNat) (a := ra.toNat) (d := rd.toNat) (by omega) (by omega) (by omega) (by omega) (by omega) (by omega)
  refine (decode_0x1B h0).trans ?_
  refine (if_pos (by omega)).trans ?_
  simp only [h1, h2, h3, h4, h5, BitVec.ofNat_toNat, BitVec.setWidth_eq]
  rfl
theorem aswpW (e : Nat) (rd ra rb : BitVec 5) : Statement (.aswpW e rd ra rb) := by
  intro w hw h
  have hq : w = formatR 0x1B 0x05 0 rb.toNat ra.toNat rd.toNat := (Option.some.inj h).symm
  subst hq
  clear hw h
  have b_rb := rb.isLt
  have b_ra := ra.isLt
  have b_rd := rd.isLt
  obtain ⟨h0, h1, h2, h3, h4, h5⟩ := formatR_fields (op := 0x1B) (f7 := 0x05) (f3 := 0) (b := rb.toNat) (a := ra.toNat) (d := rd.toNat) (by omega) (by omega) (by omega) (by omega) (by omega) (by omega)
  refine (decode_0x1B h0).trans ?_
  refine (if_pos (by omega)).trans ?_
  simp only [h1, h2, h3, h4, h5, BitVec.ofNat_toNat, BitVec.setWidth_eq]
  rfl
theorem vadd (e : Nat) (pg : BitVec 3) (vd va vb : BitVec 5) : Statement (.vadd e pg vd va vb) := by
  intro w hw h
  have hq : w = formatR 0x20 0x00 pg.toNat vb.toNat va.toNat vd.toNat := (Option.some.inj h).symm
  subst hq
  clear hw h
  have b_pg := pg.isLt
  have b_vb := vb.isLt
  have b_va := va.isLt
  have b_vd := vd.isLt
  obtain ⟨h0, h1, h2, h3, h4, h5⟩ := formatR_fields (op := 0x20) (f7 := 0x00) (f3 := pg.toNat) (b := vb.toNat) (a := va.toNat) (d := vd.toNat) (by omega) (by omega) (by omega) (by omega) (by omega) (by omega)
  refine (decode_0x20 h0).trans ?_
  simp only [h1, h2, h3, h4, h5, BitVec.ofNat_toNat, BitVec.setWidth_eq]
  rfl
theorem vsub (e : Nat) (pg : BitVec 3) (vd va vb : BitVec 5) : Statement (.vsub e pg vd va vb) := by
  intro w hw h
  have hq : w = formatR 0x20 0x01 pg.toNat vb.toNat va.toNat vd.toNat := (Option.some.inj h).symm
  subst hq
  clear hw h
  have b_pg := pg.isLt
  have b_vb := vb.isLt
  have b_va := va.isLt
  have b_vd := vd.isLt
  obtain ⟨h0, h1, h2, h3, h4, h5⟩ := formatR_fields (op := 0x20) (f7 := 0x01) (f3 := pg.toNat) (b := vb.toNat) (a := va.toNat) (d := vd.toNat) (by omega) (by omega) (by omega) (by omega) (by omega) (by omega)
  refine (decode_0x20 h0).trans ?_
  simp only [h1, h2, h3, h4, h5, BitVec.ofNat_toNat, BitVec.setWidth_eq]
  rfl
theorem vadds (e : Nat) (pg : BitVec 3) (vd va vb : BitVec 5) : Statement (.vadds e pg vd va vb) := by
  intro w hw h
  have hq : w = formatR 0x20 0x02 pg.toNat vb.toNat va.toNat vd.toNat := (Option.some.inj h).symm
  subst hq
  clear hw h
  have b_pg := pg.isLt
  have b_vb := vb.isLt
  have b_va := va.isLt
  have b_vd := vd.isLt
  obtain ⟨h0, h1, h2, h3, h4, h5⟩ := formatR_fields (op := 0x20) (f7 := 0x02) (f3 := pg.toNat) (b := vb.toNat) (a := va.toNat) (d := vd.toNat) (by omega) (by omega) (by omega) (by omega) (by omega) (by omega)
  refine (decode_0x20 h0).trans ?_
  simp only [h1, h2, h3, h4, h5, BitVec.ofNat_toNat, BitVec.setWidth_eq]
  rfl
theorem vsubs (e : Nat) (pg : BitVec 3) (vd va vb : BitVec 5) : Statement (.vsubs e pg vd va vb) := by
  intro w hw h
  have hq : w = formatR 0x20 0x04 pg.toNat vb.toNat va.toNat vd.toNat := (Option.some.inj h).symm
  subst hq
  clear hw h
  have b_pg := pg.isLt
  have b_vb := vb.isLt
  have b_va := va.isLt
  have b_vd := vd.isLt
  obtain ⟨h0, h1, h2, h3, h4, h5⟩ := formatR_fields (op := 0x20) (f7 := 0x04) (f3 := pg.toNat) (b := vb.toNat) (a := va.toNat) (d := vd.toNat) (by omega) (by omega) (by omega) (by omega) (by omega) (by omega)
  refine (decode_0x20 h0).trans ?_
  simp only [h1, h2, h3, h4, h5, BitVec.ofNat_toNat, BitVec.setWidth_eq]
  rfl
theorem vaddus (e : Nat) (pg : BitVec 3) (vd va vb : BitVec 5) : Statement (.vaddus e pg vd va vb) := by
  intro w hw h
  have hq : w = formatR 0x20 0x03 pg.toNat vb.toNat va.toNat vd.toNat := (Option.some.inj h).symm
  subst hq
  clear hw h
  have b_pg := pg.isLt
  have b_vb := vb.isLt
  have b_va := va.isLt
  have b_vd := vd.isLt
  obtain ⟨h0, h1, h2, h3, h4, h5⟩ := formatR_fields (op := 0x20) (f7 := 0x03) (f3 := pg.toNat) (b := vb.toNat) (a := va.toNat) (d := vd.toNat) (by omega) (by omega) (by omega) (by omega) (by omega) (by omega)
  refine (decode_0x20 h0).trans ?_
  simp only [h1, h2, h3, h4, h5, BitVec.ofNat_toNat, BitVec.setWidth_eq]
  rfl
theorem vsubus (e : Nat) (pg : BitVec 3) (vd va vb : BitVec 5) : Statement (.vsubus e pg vd va vb) := by
  intro w hw h
  have hq : w = formatR 0x20 0x05 pg.toNat vb.toNat va.toNat vd.toNat := (Option.some.inj h).symm
  subst hq
  clear hw h
  have b_pg := pg.isLt
  have b_vb := vb.isLt
  have b_va := va.isLt
  have b_vd := vd.isLt
  obtain ⟨h0, h1, h2, h3, h4, h5⟩ := formatR_fields (op := 0x20) (f7 := 0x05) (f3 := pg.toNat) (b := vb.toNat) (a := va.toNat) (d := vd.toNat) (by omega) (by omega) (by omega) (by omega) (by omega) (by omega)
  refine (decode_0x20 h0).trans ?_
  simp only [h1, h2, h3, h4, h5, BitVec.ofNat_toNat, BitVec.setWidth_eq]
  rfl
theorem vaddsu (e : Nat) (pg : BitVec 3) (vd va vb : BitVec 5) : Statement (.vaddsu e pg vd va vb) := by
  intro w hw h
  have hq : w = formatR 0x20 0x06 pg.toNat vb.toNat va.toNat vd.toNat := (Option.some.inj h).symm
  subst hq
  clear hw h
  have b_pg := pg.isLt
  have b_vb := vb.isLt
  have b_va := va.isLt
  have b_vd := vd.isLt
  obtain ⟨h0, h1, h2, h3, h4, h5⟩ := formatR_fields (op := 0x20) (f7 := 0x06) (f3 := pg.toNat) (b := vb.toNat) (a := va.toNat) (d := vd.toNat) (by omega) (by omega) (by omega) (by omega) (by omega) (by omega)
  refine (decode_0x20 h0).trans ?_
  simp only [h1, h2, h3, h4, h5, BitVec.ofNat_toNat, BitVec.setWidth_eq]
  rfl
theorem vmin (e : Nat) (pg : BitVec 3) (vd va vb : BitVec 5) : Statement (.vmin e pg vd va vb) := by
  intro w hw h
  have hq : w = formatR 0x20 0x07 pg.toNat vb.toNat va.toNat vd.toNat := (Option.some.inj h).symm
  subst hq
  clear hw h
  have b_pg := pg.isLt
  have b_vb := vb.isLt
  have b_va := va.isLt
  have b_vd := vd.isLt
  obtain ⟨h0, h1, h2, h3, h4, h5⟩ := formatR_fields (op := 0x20) (f7 := 0x07) (f3 := pg.toNat) (b := vb.toNat) (a := va.toNat) (d := vd.toNat) (by omega) (by omega) (by omega) (by omega) (by omega) (by omega)
  refine (decode_0x20 h0).trans ?_
  simp only [h1, h2, h3, h4, h5, BitVec.ofNat_toNat, BitVec.setWidth_eq]
  rfl
theorem vmax (e : Nat) (pg : BitVec 3) (vd va vb : BitVec 5) : Statement (.vmax e pg vd va vb) := by
  intro w hw h
  have hq : w = formatR 0x20 0x09 pg.toNat vb.toNat va.toNat vd.toNat := (Option.some.inj h).symm
  subst hq
  clear hw h
  have b_pg := pg.isLt
  have b_vb := vb.isLt
  have b_va := va.isLt
  have b_vd := vd.isLt
  obtain ⟨h0, h1, h2, h3, h4, h5⟩ := formatR_fields (op := 0x20) (f7 := 0x09) (f3 := pg.toNat) (b := vb.toNat) (a := va.toNat) (d := vd.toNat) (by omega) (by omega) (by omega) (by omega) (by omega) (by omega)
  refine (decode_0x20 h0).trans ?_
  simp only [h1, h2, h3, h4, h5, BitVec.ofNat_toNat, BitVec.setWidth_eq]
  rfl
theorem vminu (e : Nat) (pg : BitVec 3) (vd va vb : BitVec 5) : Statement (.vminu e pg vd va vb) := by
  intro w hw h
  have hq : w = formatR 0x20 0x08 pg.toNat vb.toNat va.toNat vd.toNat := (Option.some.inj h).symm
  subst hq
  clear hw h
  have b_pg := pg.isLt
  have b_vb := vb.isLt
  have b_va := va.isLt
  have b_vd := vd.isLt
  obtain ⟨h0, h1, h2, h3, h4, h5⟩ := formatR_fields (op := 0x20) (f7 := 0x08) (f3 := pg.toNat) (b := vb.toNat) (a := va.toNat) (d := vd.toNat) (by omega) (by omega) (by omega) (by omega) (by omega) (by omega)
  refine (decode_0x20 h0).trans ?_
  simp only [h1, h2, h3, h4, h5, BitVec.ofNat_toNat, BitVec.setWidth_eq]
  rfl
theorem vmaxu (e : Nat) (pg : BitVec 3) (vd va vb : BitVec 5) : Statement (.vmaxu e pg vd va vb) := by
  intro w hw h
  have hq : w = formatR 0x20 0x0A pg.toNat vb.toNat va.toNat vd.toNat := (Option.some.inj h).symm
  subst hq
  clear hw h
  have b_pg := pg.isLt
  have b_vb := vb.isLt
  have b_va := va.isLt
  have b_vd := vd.isLt
  obtain ⟨h0, h1, h2, h3, h4, h5⟩ := formatR_fields (op := 0x20) (f7 := 0x0A) (f3 := pg.toNat) (b := vb.toNat) (a := va.toNat) (d := vd.toNat) (by omega) (by omega) (by omega) (by omega) (by omega) (by omega)
  refine (decode_0x20 h0).trans ?_
  simp only [h1, h2, h3, h4, h5, BitVec.ofNat_toNat, BitVec.setWidth_eq]
  rfl
theorem vand (e : Nat) (pg : BitVec 3) (vd va vb : BitVec 5) : Statement (.vand e pg vd va vb) := by
  intro w hw h
  have hq : w = formatR 0x20 0x0B pg.toNat vb.toNat va.toNat vd.toNat := (Option.some.inj h).symm
  subst hq
  clear hw h
  have b_pg := pg.isLt
  have b_vb := vb.isLt
  have b_va := va.isLt
  have b_vd := vd.isLt
  obtain ⟨h0, h1, h2, h3, h4, h5⟩ := formatR_fields (op := 0x20) (f7 := 0x0B) (f3 := pg.toNat) (b := vb.toNat) (a := va.toNat) (d := vd.toNat) (by omega) (by omega) (by omega) (by omega) (by omega) (by omega)
  refine (decode_0x20 h0).trans ?_
  simp only [h1, h2, h3, h4, h5, BitVec.ofNat_toNat, BitVec.setWidth_eq]
  rfl
theorem vor (e : Nat) (pg : BitVec 3) (vd va vb : BitVec 5) : Statement (.vor e pg vd va vb) := by
  intro w hw h
  have hq : w = formatR 0x20 0x0C pg.toNat vb.toNat va.toNat vd.toNat := (Option.some.inj h).symm
  subst hq
  clear hw h
  have b_pg := pg.isLt
  have b_vb := vb.isLt
  have b_va := va.isLt
  have b_vd := vd.isLt
  obtain ⟨h0, h1, h2, h3, h4, h5⟩ := formatR_fields (op := 0x20) (f7 := 0x0C) (f3 := pg.toNat) (b := vb.toNat) (a := va.toNat) (d := vd.toNat) (by omega) (by omega) (by omega) (by omega) (by omega) (by omega)
  refine (decode_0x20 h0).trans ?_
  simp only [h1, h2, h3, h4, h5, BitVec.ofNat_toNat, BitVec.setWidth_eq]
  rfl
theorem vxor (e : Nat) (pg : BitVec 3) (vd va vb : BitVec 5) : Statement (.vxor e pg vd va vb) := by
  intro w hw h
  have hq : w = formatR 0x20 0x0D pg.toNat vb.toNat va.toNat vd.toNat := (Option.some.inj h).symm
  subst hq
  clear hw h
  have b_pg := pg.isLt
  have b_vb := vb.isLt
  have b_va := va.isLt
  have b_vd := vd.isLt
  obtain ⟨h0, h1, h2, h3, h4, h5⟩ := formatR_fields (op := 0x20) (f7 := 0x0D) (f3 := pg.toNat) (b := vb.toNat) (a := va.toNat) (d := vd.toNat) (by omega) (by omega) (by omega) (by omega) (by omega) (by omega)
  refine (decode_0x20 h0).trans ?_
  simp only [h1, h2, h3, h4, h5, BitVec.ofNat_toNat, BitVec.setWidth_eq]
  rfl
theorem vshl (e : Nat) (pg : BitVec 3) (vd va vb : BitVec 5) : Statement (.vshl e pg vd va vb) := by
  intro w hw h
  have hq : w = formatR 0x20 0x0E pg.toNat vb.toNat va.toNat vd.toNat := (Option.some.inj h).symm
  subst hq
  clear hw h
  have b_pg := pg.isLt
  have b_vb := vb.isLt
  have b_va := va.isLt
  have b_vd := vd.isLt
  obtain ⟨h0, h1, h2, h3, h4, h5⟩ := formatR_fields (op := 0x20) (f7 := 0x0E) (f3 := pg.toNat) (b := vb.toNat) (a := va.toNat) (d := vd.toNat) (by omega) (by omega) (by omega) (by omega) (by omega) (by omega)
  refine (decode_0x20 h0).trans ?_
  simp only [h1, h2, h3, h4, h5, BitVec.ofNat_toNat, BitVec.setWidth_eq]
  rfl
theorem vshr (e : Nat) (pg : BitVec 3) (vd va vb : BitVec 5) : Statement (.vshr e pg vd va vb) := by
  intro w hw h
  have hq : w = formatR 0x20 0x0F pg.toNat vb.toNat va.toNat vd.toNat := (Option.some.inj h).symm
  subst hq
  clear hw h
  have b_pg := pg.isLt
  have b_vb := vb.isLt
  have b_va := va.isLt
  have b_vd := vd.isLt
  obtain ⟨h0, h1, h2, h3, h4, h5⟩ := formatR_fields (op := 0x20) (f7 := 0x0F) (f3 := pg.toNat) (b := vb.toNat) (a := va.toNat) (d := vd.toNat) (by omega) (by omega) (by omega) (by omega) (by omega) (by omega)
  refine (decode_0x20 h0).trans ?_
  simp only [h1, h2, h3, h4, h5, BitVec.ofNat_toNat, BitVec.setWidth_eq]
  rfl
theorem vsra (e : Nat) (pg : BitVec 3) (vd va vb : BitVec 5) : Statement (.vsra e pg vd va vb) := by
  intro w hw h
  have hq : w = formatR 0x20 0x10 pg.toNat vb.toNat va.toNat vd.toNat := (Option.some.inj h).symm
  subst hq
  clear hw h
  have b_pg := pg.isLt
  have b_vb := vb.isLt
  have b_va := va.isLt
  have b_vd := vd.isLt
  obtain ⟨h0, h1, h2, h3, h4, h5⟩ := formatR_fields (op := 0x20) (f7 := 0x10) (f3 := pg.toNat) (b := vb.toNat) (a := va.toNat) (d := vd.toNat) (by omega) (by omega) (by omega) (by omega) (by omega) (by omega)
  refine (decode_0x20 h0).trans ?_
  simp only [h1, h2, h3, h4, h5, BitVec.ofNat_toNat, BitVec.setWidth_eq]
  rfl
theorem vmul (e : Nat) (pg : BitVec 3) (vd va vb : BitVec 5) : Statement (.vmul e pg vd va vb) := by
  intro w hw h
  have hq : w = formatR 0x20 0x11 pg.toNat vb.toNat va.toNat vd.toNat := (Option.some.inj h).symm
  subst hq
  clear hw h
  have b_pg := pg.isLt
  have b_vb := vb.isLt
  have b_va := va.isLt
  have b_vd := vd.isLt
  obtain ⟨h0, h1, h2, h3, h4, h5⟩ := formatR_fields (op := 0x20) (f7 := 0x11) (f3 := pg.toNat) (b := vb.toNat) (a := va.toNat) (d := vd.toNat) (by omega) (by omega) (by omega) (by omega) (by omega) (by omega)
  refine (decode_0x20 h0).trans ?_
  simp only [h1, h2, h3, h4, h5, BitVec.ofNat_toNat, BitVec.setWidth_eq]
  rfl
theorem vmulh (e : Nat) (pg : BitVec 3) (vd va vb : BitVec 5) : Statement (.vmulh e pg vd va vb) := by
  intro w hw h
  have hq : w = formatR 0x20 0x12 pg.toNat vb.toNat va.toNat vd.toNat := (Option.some.inj h).symm
  subst hq
  clear hw h
  have b_pg := pg.isLt
  have b_vb := vb.isLt
  have b_va := va.isLt
  have b_vd := vd.isLt
  obtain ⟨h0, h1, h2, h3, h4, h5⟩ := formatR_fields (op := 0x20) (f7 := 0x12) (f3 := pg.toNat) (b := vb.toNat) (a := va.toNat) (d := vd.toNat) (by omega) (by omega) (by omega) (by omega) (by omega) (by omega)
  refine (decode_0x20 h0).trans ?_
  simp only [h1, h2, h3, h4, h5, BitVec.ofNat_toNat, BitVec.setWidth_eq]
  rfl
theorem vmulhu (e : Nat) (pg : BitVec 3) (vd va vb : BitVec 5) : Statement (.vmulhu e pg vd va vb) := by
  intro w hw h
  have hq : w = formatR 0x20 0x13 pg.toNat vb.toNat va.toNat vd.toNat := (Option.some.inj h).symm
  subst hq
  clear hw h
  have b_pg := pg.isLt
  have b_vb := vb.isLt
  have b_va := va.isLt
  have b_vd := vd.isLt
  obtain ⟨h0, h1, h2, h3, h4, h5⟩ := formatR_fields (op := 0x20) (f7 := 0x13) (f3 := pg.toNat) (b := vb.toNat) (a := va.toNat) (d := vd.toNat) (by omega) (by omega) (by omega) (by omega) (by omega) (by omega)
  refine (decode_0x20 h0).trans ?_
  simp only [h1, h2, h3, h4, h5, BitVec.ofNat_toNat, BitVec.setWidth_eq]
  rfl
theorem vabsdu (e : Nat) (pg : BitVec 3) (vd va vb : BitVec 5) : Statement (.vabsdu e pg vd va vb) := by
  intro w hw h
  have hq : w = formatR 0x20 0x14 pg.toNat vb.toNat va.toNat vd.toNat := (Option.some.inj h).symm
  subst hq
  clear hw h
  have b_pg := pg.isLt
  have b_vb := vb.isLt
  have b_va := va.isLt
  have b_vd := vd.isLt
  obtain ⟨h0, h1, h2, h3, h4, h5⟩ := formatR_fields (op := 0x20) (f7 := 0x14) (f3 := pg.toNat) (b := vb.toNat) (a := va.toNat) (d := vd.toNat) (by omega) (by omega) (by omega) (by omega) (by omega) (by omega)
  refine (decode_0x20 h0).trans ?_
  simp only [h1, h2, h3, h4, h5, BitVec.ofNat_toNat, BitVec.setWidth_eq]
  rfl
theorem vavgu (e : Nat) (pg : BitVec 3) (vd va vb : BitVec 5) : Statement (.vavgu e pg vd va vb) := by
  intro w hw h
  have hq : w = formatR 0x20 0x15 pg.toNat vb.toNat va.toNat vd.toNat := (Option.some.inj h).symm
  subst hq
  clear hw h
  have b_pg := pg.isLt
  have b_vb := vb.isLt
  have b_va := va.isLt
  have b_vd := vd.isLt
  obtain ⟨h0, h1, h2, h3, h4, h5⟩ := formatR_fields (op := 0x20) (f7 := 0x15) (f3 := pg.toNat) (b := vb.toNat) (a := va.toNat) (d := vd.toNat) (by omega) (by omega) (by omega) (by omega) (by omega) (by omega)
  refine (decode_0x20 h0).trans ?_
  simp only [h1, h2, h3, h4, h5, BitVec.ofNat_toNat, BitVec.setWidth_eq]
  rfl
theorem vsel (e : Nat) (pg : BitVec 3) (vd va vb : BitVec 5) : Statement (.vsel e pg vd va vb) := by
  intro w hw h
  have hq : w = formatR 0x20 0x16 pg.toNat vb.toNat va.toNat vd.toNat := (Option.some.inj h).symm
  subst hq
  clear hw h
  have b_pg := pg.isLt
  have b_vb := vb.isLt
  have b_va := va.isLt
  have b_vd := vd.isLt
  obtain ⟨h0, h1, h2, h3, h4, h5⟩ := formatR_fields (op := 0x20) (f7 := 0x16) (f3 := pg.toNat) (b := vb.toNat) (a := va.toNat) (d := vd.toNat) (by omega) (by omega) (by omega) (by omega) (by omega) (by omega)
  refine (decode_0x20 h0).trans ?_
  simp only [h1, h2, h3, h4, h5, BitVec.ofNat_toNat, BitVec.setWidth_eq]
  rfl
theorem vshli (e : Nat) (pg : BitVec 3) (vd va imm : BitVec 5) : Statement (.vshli e pg vd va imm) := by
  intro w hw h
  have hq : w = formatR 0x21 0x00 pg.toNat imm.toNat va.toNat vd.toNat := (Option.some.inj h).symm
  subst hq
  clear hw h
  have b_pg := pg.isLt
  have b_imm := imm.isLt
  have b_va := va.isLt
  have b_vd := vd.isLt
  obtain ⟨h0, h1, h2, h3, h4, h5⟩ := formatR_fields (op := 0x21) (f7 := 0x00) (f3 := pg.toNat) (b := imm.toNat) (a := va.toNat) (d := vd.toNat) (by omega) (by omega) (by omega) (by omega) (by omega) (by omega)
  refine (decode_0x21 h0).trans ?_
  simp only [h1, h2, h3, h4, h5, BitVec.ofNat_toNat, BitVec.setWidth_eq]
  rfl
theorem vshri (e : Nat) (pg : BitVec 3) (vd va imm : BitVec 5) : Statement (.vshri e pg vd va imm) := by
  intro w hw h
  have hq : w = formatR 0x21 0x01 pg.toNat imm.toNat va.toNat vd.toNat := (Option.some.inj h).symm
  subst hq
  clear hw h
  have b_pg := pg.isLt
  have b_imm := imm.isLt
  have b_va := va.isLt
  have b_vd := vd.isLt
  obtain ⟨h0, h1, h2, h3, h4, h5⟩ := formatR_fields (op := 0x21) (f7 := 0x01) (f3 := pg.toNat) (b := imm.toNat) (a := va.toNat) (d := vd.toNat) (by omega) (by omega) (by omega) (by omega) (by omega) (by omega)
  refine (decode_0x21 h0).trans ?_
  simp only [h1, h2, h3, h4, h5, BitVec.ofNat_toNat, BitVec.setWidth_eq]
  rfl
theorem vsrai (e : Nat) (pg : BitVec 3) (vd va imm : BitVec 5) : Statement (.vsrai e pg vd va imm) := by
  intro w hw h
  have hq : w = formatR 0x21 0x02 pg.toNat imm.toNat va.toNat vd.toNat := (Option.some.inj h).symm
  subst hq
  clear hw h
  have b_pg := pg.isLt
  have b_imm := imm.isLt
  have b_va := va.isLt
  have b_vd := vd.isLt
  obtain ⟨h0, h1, h2, h3, h4, h5⟩ := formatR_fields (op := 0x21) (f7 := 0x02) (f3 := pg.toNat) (b := imm.toNat) (a := va.toNat) (d := vd.toNat) (by omega) (by omega) (by omega) (by omega) (by omega) (by omega)
  refine (decode_0x21 h0).trans ?_
  simp only [h1, h2, h3, h4, h5, BitVec.ofNat_toNat, BitVec.setWidth_eq]
  rfl
theorem vaddi (e : Nat) (pg : BitVec 3) (vd va imm : BitVec 5) : Statement (.vaddi e pg vd va imm) := by
  intro w hw h
  have hq : w = formatR 0x21 0x03 pg.toNat imm.toNat va.toNat vd.toNat := (Option.some.inj h).symm
  subst hq
  clear hw h
  have b_pg := pg.isLt
  have b_imm := imm.isLt
  have b_va := va.isLt
  have b_vd := vd.isLt
  obtain ⟨h0, h1, h2, h3, h4, h5⟩ := formatR_fields (op := 0x21) (f7 := 0x03) (f3 := pg.toNat) (b := imm.toNat) (a := va.toNat) (d := vd.toNat) (by omega) (by omega) (by omega) (by omega) (by omega) (by omega)
  refine (decode_0x21 h0).trans ?_
  simp only [h1, h2, h3, h4, h5, BitVec.ofNat_toNat, BitVec.setWidth_eq]
  rfl
theorem vmov (e : Nat) (pg : BitVec 3) (vd va : BitVec 5) : Statement (.vmov e pg vd va) := by
  intro w hw h
  have hq : w = formatR 0x22 0x00 pg.toNat 0 va.toNat vd.toNat := (Option.some.inj h).symm
  subst hq
  clear hw h
  have b_pg := pg.isLt
  have b_va := va.isLt
  have b_vd := vd.isLt
  obtain ⟨h0, h1, h2, h3, h4, h5⟩ := formatR_fields (op := 0x22) (f7 := 0x00) (f3 := pg.toNat) (b := 0) (a := va.toNat) (d := vd.toNat) (by omega) (by omega) (by omega) (by omega) (by omega) (by omega)
  refine (decode_0x22 h0).trans ?_
  refine (if_pos (by omega)).trans ?_
  simp only [h1, h2, h3, h4, h5, BitVec.ofNat_toNat, BitVec.setWidth_eq]
  rfl
theorem vclz (e : Nat) (pg : BitVec 3) (vd va : BitVec 5) : Statement (.vclz e pg vd va) := by
  intro w hw h
  have hq : w = formatR 0x22 0x01 pg.toNat 0 va.toNat vd.toNat := (Option.some.inj h).symm
  subst hq
  clear hw h
  have b_pg := pg.isLt
  have b_va := va.isLt
  have b_vd := vd.isLt
  obtain ⟨h0, h1, h2, h3, h4, h5⟩ := formatR_fields (op := 0x22) (f7 := 0x01) (f3 := pg.toNat) (b := 0) (a := va.toNat) (d := vd.toNat) (by omega) (by omega) (by omega) (by omega) (by omega) (by omega)
  refine (decode_0x22 h0).trans ?_
  refine (if_pos (by omega)).trans ?_
  simp only [h1, h2, h3, h4, h5, BitVec.ofNat_toNat, BitVec.setWidth_eq]
  rfl
theorem vrcp (e : Nat) (pg : BitVec 3) (vd va : BitVec 5) : Statement (.vrcp e pg vd va) := by
  intro w hw h
  have hq : w = formatR 0x22 0x02 pg.toNat 0 va.toNat vd.toNat := (Option.some.inj h).symm
  subst hq
  clear hw h
  have b_pg := pg.isLt
  have b_va := va.isLt
  have b_vd := vd.isLt
  obtain ⟨h0, h1, h2, h3, h4, h5⟩ := formatR_fields (op := 0x22) (f7 := 0x02) (f3 := pg.toNat) (b := 0) (a := va.toNat) (d := vd.toNat) (by omega) (by omega) (by omega) (by omega) (by omega) (by omega)
  refine (decode_0x22 h0).trans ?_
  refine (if_pos (by omega)).trans ?_
  simp only [h1, h2, h3, h4, h5, BitVec.ofNat_toNat, BitVec.setWidth_eq]
  rfl
theorem vrsqrt (e : Nat) (pg : BitVec 3) (vd va : BitVec 5) : Statement (.vrsqrt e pg vd va) := by
  intro w hw h
  have hq : w = formatR 0x22 0x03 pg.toNat 0 va.toNat vd.toNat := (Option.some.inj h).symm
  subst hq
  clear hw h
  have b_pg := pg.isLt
  have b_va := va.isLt
  have b_vd := vd.isLt
  obtain ⟨h0, h1, h2, h3, h4, h5⟩ := formatR_fields (op := 0x22) (f7 := 0x03) (f3 := pg.toNat) (b := 0) (a := va.toNat) (d := vd.toNat) (by omega) (by omega) (by omega) (by omega) (by omega) (by omega)
  refine (decode_0x22 h0).trans ?_
  refine (if_pos (by omega)).trans ?_
  simp only [h1, h2, h3, h4, h5, BitVec.ofNat_toNat, BitVec.setWidth_eq]
  rfl
theorem vlane (e : Nat) (pg : BitVec 3) (vd va : BitVec 5) : Statement (.vlane e pg vd va) := by
  intro w hw h
  have hq : w = formatR 0x22 0x04 pg.toNat 0 va.toNat vd.toNat := (Option.some.inj h).symm
  subst hq
  clear hw h
  have b_pg := pg.isLt
  have b_va := va.isLt
  have b_vd := vd.isLt
  obtain ⟨h0, h1, h2, h3, h4, h5⟩ := formatR_fields (op := 0x22) (f7 := 0x04) (f3 := pg.toNat) (b := 0) (a := va.toNat) (d := vd.toNat) (by omega) (by omega) (by omega) (by omega) (by omega) (by omega)
  refine (decode_0x22 h0).trans ?_
  refine (if_pos (by omega)).trans ?_
  simp only [h1, h2, h3, h4, h5, BitVec.ofNat_toNat, BitVec.setWidth_eq]
  rfl
theorem vmvs (e : Nat) (pg : BitVec 3) (vd ra : BitVec 5) : Statement (.vmvs e pg vd ra) := by
  intro w hw h
  have hq : w = formatR 0x23 0 pg.toNat 0 ra.toNat vd.toNat := (Option.some.inj h).symm
  subst hq
  clear hw h
  have b_pg := pg.isLt
  have b_ra := ra.isLt
  have b_vd := vd.isLt
  obtain ⟨h0, h1, h2, h3, h4, h5⟩ := formatR_fields (op := 0x23) (f7 := 0) (f3 := pg.toNat) (b := 0) (a := ra.toNat) (d := vd.toNat) (by omega) (by omega) (by omega) (by omega) (by omega) (by omega)
  refine (decode_0x23 h0).trans ?_
  refine (if_pos (by omega)).trans ?_
  simp only [h1, h2, h3, h4, h5, BitVec.ofNat_toNat, BitVec.setWidth_eq]
  rfl
theorem vcmp (e : Nat) (pg pd cond : BitVec 3) (va vb : BitVec 5) : Statement (.vcmp e pg pd cond va vb) := by
  intro w hw h
  have hv := (Bool.and_eq_true_iff.mp hw).2
  simp only [decide_eq_true_eq] at hv
  have hq : w = formatR 0x24 cond.toNat pg.toNat vb.toNat va.toNat pd.toNat := (Option.some.inj h).symm
  subst hq
  clear hw h
  have b_cond := cond.isLt
  have b_pg := pg.isLt
  have b_vb := vb.isLt
  have b_va := va.isLt
  have b_pd := pd.isLt
  obtain ⟨h0, h1, h2, h3, h4, h5⟩ := formatR_fields (op := 0x24) (f7 := cond.toNat) (f3 := pg.toNat) (b := vb.toNat) (a := va.toNat) (d := pd.toNat) (by omega) (by omega) (by omega) (by omega) (by omega) (by omega)
  refine (decode_0x24 h0).trans ?_
  refine (if_pos (by omega)).trans ?_
  simp only [h1, h2, h3, h4, h5, BitVec.ofNat_toNat, BitVec.setWidth_eq]
  rfl
theorem pand (e : Nat) (pd pa pb : BitVec 3) : Statement (.pand e pd pa pb) := by
  intro w hw h
  have hq : w = formatR 0x25 0x00 0 pb.toNat pa.toNat pd.toNat := (Option.some.inj h).symm
  subst hq
  clear hw h
  have b_pb := pb.isLt
  have b_pa := pa.isLt
  have b_pd := pd.isLt
  obtain ⟨h0, h1, h2, h3, h4, h5⟩ := formatR_fields (op := 0x25) (f7 := 0x00) (f3 := 0) (b := pb.toNat) (a := pa.toNat) (d := pd.toNat) (by omega) (by omega) (by omega) (by omega) (by omega) (by omega)
  refine (decode_0x25 h0).trans ?_
  refine (if_pos (by omega)).trans ?_
  rw [h1, h2, h3, h5]
  refine (if_pos (by omega)).trans ?_
  simp only [BitVec.ofNat_toNat, BitVec.setWidth_eq]
  rfl
theorem por (e : Nat) (pd pa pb : BitVec 3) : Statement (.por e pd pa pb) := by
  intro w hw h
  have hq : w = formatR 0x25 0x01 0 pb.toNat pa.toNat pd.toNat := (Option.some.inj h).symm
  subst hq
  clear hw h
  have b_pb := pb.isLt
  have b_pa := pa.isLt
  have b_pd := pd.isLt
  obtain ⟨h0, h1, h2, h3, h4, h5⟩ := formatR_fields (op := 0x25) (f7 := 0x01) (f3 := 0) (b := pb.toNat) (a := pa.toNat) (d := pd.toNat) (by omega) (by omega) (by omega) (by omega) (by omega) (by omega)
  refine (decode_0x25 h0).trans ?_
  refine (if_pos (by omega)).trans ?_
  rw [h1, h2, h3, h5]
  refine (if_pos (by omega)).trans ?_
  simp only [BitVec.ofNat_toNat, BitVec.setWidth_eq]
  rfl
theorem pxor (e : Nat) (pd pa pb : BitVec 3) : Statement (.pxor e pd pa pb) := by
  intro w hw h
  have hq : w = formatR 0x25 0x02 0 pb.toNat pa.toNat pd.toNat := (Option.some.inj h).symm
  subst hq
  clear hw h
  have b_pb := pb.isLt
  have b_pa := pa.isLt
  have b_pd := pd.isLt
  obtain ⟨h0, h1, h2, h3, h4, h5⟩ := formatR_fields (op := 0x25) (f7 := 0x02) (f3 := 0) (b := pb.toNat) (a := pa.toNat) (d := pd.toNat) (by omega) (by omega) (by omega) (by omega) (by omega) (by omega)
  refine (decode_0x25 h0).trans ?_
  refine (if_pos (by omega)).trans ?_
  rw [h1, h2, h3, h5]
  refine (if_pos (by omega)).trans ?_
  simp only [BitVec.ofNat_toNat, BitVec.setWidth_eq]
  rfl
theorem pandn (e : Nat) (pd pa pb : BitVec 3) : Statement (.pandn e pd pa pb) := by
  intro w hw h
  have hq : w = formatR 0x25 0x03 0 pb.toNat pa.toNat pd.toNat := (Option.some.inj h).symm
  subst hq
  clear hw h
  have b_pb := pb.isLt
  have b_pa := pa.isLt
  have b_pd := pd.isLt
  obtain ⟨h0, h1, h2, h3, h4, h5⟩ := formatR_fields (op := 0x25) (f7 := 0x03) (f3 := 0) (b := pb.toNat) (a := pa.toNat) (d := pd.toNat) (by omega) (by omega) (by omega) (by omega) (by omega) (by omega)
  refine (decode_0x25 h0).trans ?_
  refine (if_pos (by omega)).trans ?_
  rw [h1, h2, h3, h5]
  refine (if_pos (by omega)).trans ?_
  simp only [BitVec.ofNat_toNat, BitVec.setWidth_eq]
  rfl
theorem pset (e : Nat) (pd : BitVec 3) (ra : BitVec 5) (pb : BitVec 3) : Statement (.pset e pd ra pb) := by
  intro w hw h
  have hq : w = formatR 0x25 0x04 0 pb.toNat ra.toNat pd.toNat := (Option.some.inj h).symm
  subst hq
  clear hw h
  have b_pb := pb.isLt
  have b_ra := ra.isLt
  have b_pd := pd.isLt
  obtain ⟨h0, h1, h2, h3, h4, h5⟩ := formatR_fields (op := 0x25) (f7 := 0x04) (f3 := 0) (b := pb.toNat) (a := ra.toNat) (d := pd.toNat) (by omega) (by omega) (by omega) (by omega) (by omega) (by omega)
  refine (decode_0x25 h0).trans ?_
  refine (if_pos (by omega)).trans ?_
  rw [h1, h2, h3, h5]
  refine (if_pos (by omega)).trans ?_
  simp only [BitVec.ofNat_toNat, BitVec.setWidth_eq]
  rfl
theorem pget (e : Nat) (rd : BitVec 5) (pa pb : BitVec 3) : Statement (.pget e rd pa pb) := by
  intro w hw h
  have hq : w = formatR 0x25 0x05 0 pb.toNat pa.toNat rd.toNat := (Option.some.inj h).symm
  subst hq
  clear hw h
  have b_pb := pb.isLt
  have b_pa := pa.isLt
  have b_rd := rd.isLt
  obtain ⟨h0, h1, h2, h3, h4, h5⟩ := formatR_fields (op := 0x25) (f7 := 0x05) (f3 := 0) (b := pb.toNat) (a := pa.toNat) (d := rd.toNat) (by omega) (by omega) (by omega) (by omega) (by omega) (by omega)
  refine (decode_0x25 h0).trans ?_
  refine (if_pos (by omega)).trans ?_
  rw [h1, h2, h3, h5]
  refine (if_pos (by omega)).trans ?_
  simp only [BitVec.ofNat_toNat, BitVec.setWidth_eq]
  rfl
theorem vmac (e : Nat) (pg : BitVec 3) (ak : BitVec 2) (va vb : BitVec 5) (mode : BitVec 4) : Statement (.vmac e pg ak va vb mode) := by
  intro w hw h
  have hq : w = formatR 0x28 mode.toNat pg.toNat vb.toNat va.toNat ak.toNat := (Option.some.inj h).symm
  subst hq
  clear hw h
  have b_mode := mode.isLt
  have b_pg := pg.isLt
  have b_vb := vb.isLt
  have b_va := va.isLt
  have b_ak := ak.isLt
  obtain ⟨h0, h1, h2, h3, h4, h5⟩ := formatR_fields (op := 0x28) (f7 := mode.toNat) (f3 := pg.toNat) (b := vb.toNat) (a := va.toNat) (d := ak.toNat) (by omega) (by omega) (by omega) (by omega) (by omega) (by omega)
  refine (decode_0x28 h0).trans ?_
  refine (if_pos (by omega)).trans ?_
  simp only [h1, h2, h3, h4, h5, BitVec.ofNat_toNat, BitVec.setWidth_eq]
  rfl
theorem aclr (e : Nat) (pg : BitVec 3) (ak : BitVec 2) : Statement (.aclr e pg ak) := by
  intro w hw h
  have hq : w = formatR 0x29 0 pg.toNat 0 0 ak.toNat := (Option.some.inj h).symm
  subst hq
  clear hw h
  have b_pg := pg.isLt
  have b_ak := ak.isLt
  obtain ⟨h0, h1, h2, h3, h4, h5⟩ := formatR_fields (op := 0x29) (f7 := 0) (f3 := pg.toNat) (b := 0) (a := 0) (d := ak.toNat) (by omega) (by omega) (by omega) (by omega) (by omega) (by omega)
  refine (decode_0x29 h0).trans ?_
  refine (if_pos (by omega)).trans ?_
  simp only [h1, h2, h3, h4, h5, BitVec.ofNat_toNat, BitVec.setWidth_eq]
  rfl
theorem aset (e : Nat) (pg : BitVec 3) (ak : BitVec 2) (va sh : BitVec 5) (sgn : Bool) : Statement (.aset e pg ak va sh sgn) := by
  intro w hw h
  have hq : w = formatR 0x2A (b2n sgn) pg.toNat sh.toNat va.toNat ak.toNat := (Option.some.inj h).symm
  subst hq
  clear hw h
  have b_pg := pg.isLt
  have b_sh := sh.isLt
  have b_va := va.isLt
  have b_ak := ak.isLt
  have b_s : b2n sgn < 2 := by cases sgn <;> decide
  obtain ⟨h0, h1, h2, h3, h4, h5⟩ := formatR_fields (op := 0x2A) (f7 := (b2n sgn)) (f3 := pg.toNat) (b := sh.toNat) (a := va.toNat) (d := ak.toNat) (by omega) (by omega) (by omega) (by omega) (by omega) (by omega)
  refine (decode_0x2A h0).trans ?_
  refine (if_pos (by omega)).trans ?_
  simp only [h1, h2, h3, h4, h5, BitVec.ofNat_toNat, BitVec.setWidth_eq]
  cases sgn <;> rfl
theorem vrnd (e : Nat) (pg : BitVec 3) (ak : BitVec 2) (vd sh : BitVec 5) (mode : BitVec 2) : Statement (.vrnd e pg ak vd sh mode) := by
  intro w hw h
  have hv := (Bool.and_eq_true_iff.mp hw).2
  simp only [decide_eq_true_eq] at hv
  have hq : w = formatR 0x2B mode.toNat pg.toNat sh.toNat ak.toNat vd.toNat := (Option.some.inj h).symm
  subst hq
  clear hw h
  have b_mode := mode.isLt
  have b_pg := pg.isLt
  have b_sh := sh.isLt
  have b_ak := ak.isLt
  have b_vd := vd.isLt
  obtain ⟨h0, h1, h2, h3, h4, h5⟩ := formatR_fields (op := 0x2B) (f7 := mode.toNat) (f3 := pg.toNat) (b := sh.toNat) (a := ak.toNat) (d := vd.toNat) (by omega) (by omega) (by omega) (by omega) (by omega) (by omega)
  refine (decode_0x2B h0).trans ?_
  refine (if_pos (by omega)).trans ?_
  simp only [h1, h2, h3, h4, h5, BitVec.ofNat_toNat, BitVec.setWidth_eq]
  rfl
theorem lut1 (e : Nat) (pg : BitVec 3) (vd vx sd : BitVec 5) (sgn : Bool) : Statement (.lut1 e pg vd vx sd sgn) := by
  intro w hw h
  have hq : w = formatL 0x30 (b2n sgn) pg.toNat sd.toNat 0 vx.toNat vd.toNat := (Option.some.inj h).symm
  subst hq
  clear hw h
  have b_pg := pg.isLt
  have b_sd := sd.isLt
  have b_vx := vx.isLt
  have b_vd := vd.isLt
  have b_s : b2n sgn < 2 := by cases sgn <;> decide
  obtain ⟨h0, h1, h2, h3, h4, h5, h6, h7⟩ := formatL_fields (op := 0x30) (sgn := (b2n sgn)) (pg := pg.toNat) (sd := sd.toNat) (y := 0) (x := vx.toNat) (d := vd.toNat) (by omega) (by omega) (by omega) (by omega) (by omega) (by omega) (by omega)
  refine (decode_0x30 h0).trans ?_
  refine (if_pos (by omega)).trans ?_
  have hd : decide (32 ≤ (formatL 0x30 (b2n sgn) pg.toNat sd.toNat 0 vx.toNat vd.toNat).toNat / 33554432) = sgn := by
    cases sgn <;> simp_all [b2n]
  simp only [h1, h2, h3, h4, h5, h6, h7, hd, ofNat_read sd h4, ofNat_read pg h5, BitVec.ofNat_toNat, BitVec.setWidth_eq]
  rfl
theorem lut2 (e : Nat) (pg : BitVec 3) (vd vx vy sd : BitVec 5) (sgn : Bool) : Statement (.lut2 e pg vd vx vy sd sgn) := by
  intro w hw h
  have hq : w = formatL 0x31 (b2n sgn) pg.toNat sd.toNat vy.toNat vx.toNat vd.toNat := (Option.some.inj h).symm
  subst hq
  clear hw h
  have b_pg := pg.isLt
  have b_sd := sd.isLt
  have b_vy := vy.isLt
  have b_vx := vx.isLt
  have b_vd := vd.isLt
  have b_s : b2n sgn < 2 := by cases sgn <;> decide
  obtain ⟨h0, h1, h2, h3, h4, h5, h6, h7⟩ := formatL_fields (op := 0x31) (sgn := (b2n sgn)) (pg := pg.toNat) (sd := sd.toNat) (y := vy.toNat) (x := vx.toNat) (d := vd.toNat) (by omega) (by omega) (by omega) (by omega) (by omega) (by omega) (by omega)
  refine (decode_0x31 h0).trans ?_
  refine (if_pos (by omega)).trans ?_
  have hd : decide (32 ≤ (formatL 0x31 (b2n sgn) pg.toNat sd.toNat vy.toNat vx.toNat vd.toNat).toNat / 33554432) = sgn := by
    cases sgn <;> simp_all [b2n]
  simp only [h1, h2, h3, h4, h5, h6, h7, hd, ofNat_read sd h4, ofNat_read pg h5, BitVec.ofNat_toNat, BitVec.setWidth_eq]
  rfl
theorem mvq (e : Nat) (rd ra : BitVec 5) : Statement (.mvq e rd ra) := by
  intro w hw h
  have hq : w = formatR 0x38 0 0 0 ra.toNat rd.toNat := (Option.some.inj h).symm
  subst hq
  clear hw h
  have b_ra := ra.isLt
  have b_rd := rd.isLt
  obtain ⟨h0, h1, h2, h3, h4, h5⟩ := formatR_fields (op := 0x38) (f7 := 0) (f3 := 0) (b := 0) (a := ra.toNat) (d := rd.toNat) (by omega) (by omega) (by omega) (by omega) (by omega) (by omega)
  refine (decode_0x38 h0).trans ?_
  refine (if_pos (by omega)).trans ?_
  simp only [h1, h2, h3, h4, h5, BitVec.ofNat_toNat, BitVec.setWidth_eq]
  rfl
theorem bar (e : Nat) (id : BitVec 4) : Statement (.bar e id) := by
  intro w hw h
  have hq : w = formatI 0x39 id.toNat 0 0 := (Option.some.inj h).symm
  subst hq
  clear hw h
  have b_id := id.isLt
  obtain ⟨h0, h1, h2, h3, h4⟩ := formatI_fields (op := 0x39) (imm := id.toNat) (a := 0) (d := 0) (by omega) (by omega) (by omega) (by omega)
  refine (decode_0x39 h0).trans ?_
  refine (if_pos (by omega)).trans ?_
  simp only [h1, h2, h3, h4, Nat.mod_eq_of_lt (show id.toNat < 32 by omega), BitVec.ofNat_toNat, BitVec.setWidth_eq]
  rfl
theorem wait (e : Nat) (mask : BitVec 3) : Statement (.wait e mask) := by
  intro w hw h
  have hv := (Bool.and_eq_true_iff.mp hw).2
  simp only [decide_eq_true_eq] at hv
  have hq : w = formatI 0x3A mask.toNat 0 0 := (Option.some.inj h).symm
  subst hq
  clear hw h
  have b_mask := mask.isLt
  have hz : mask.toNat ≠ 0 := fun hc => hv (BitVec.eq_of_toNat_eq hc)
  obtain ⟨h0, h1, h2, h3, h4⟩ := formatI_fields (op := 0x3A) (imm := mask.toNat) (a := 0) (d := 0) (by omega) (by omega) (by omega) (by omega)
  refine (decode_0x3A h0).trans ?_
  refine (if_pos (by omega)).trans ?_
  simp only [h1, h2, h3, h4, Nat.mod_eq_of_lt (show mask.toNat < 32 by omega), BitVec.ofNat_toNat, BitVec.setWidth_eq]
  rfl
theorem csrr (e : Nat) (rd : BitVec 5) (csr : BitVec 3) : Statement (.csrr e rd csr) := by
  intro w hw h
  have hv := (Bool.and_eq_true_iff.mp hw).2
  simp only [decide_eq_true_eq] at hv
  have hq : w = formatI 0x3B csr.toNat 0 rd.toNat := (Option.some.inj h).symm
  subst hq
  clear hw h
  have b_csr := csr.isLt
  have b_rd := rd.isLt
  obtain ⟨h0, h1, h2, h3, h4⟩ := formatI_fields (op := 0x3B) (imm := csr.toNat) (a := 0) (d := rd.toNat) (by omega) (by omega) (by omega) (by omega)
  refine (decode_0x3B h0).trans ?_
  refine (if_pos (by omega)).trans ?_
  simp only [h1, h2, h3, h4, Nat.mod_eq_of_lt (show csr.toNat < 32 by omega), BitVec.ofNat_toNat, BitVec.setWidth_eq]
  rfl
theorem csrw (e : Nat) (ra : BitVec 5) (csr : BitVec 3) : Statement (.csrw e ra csr) := by
  intro w hw h
  have hv := (Bool.and_eq_true_iff.mp hw).2
  simp only [decide_eq_true_eq] at hv
  have hq : w = formatI 0x3C csr.toNat ra.toNat 0 := (Option.some.inj h).symm
  subst hq
  clear hw h
  have b_csr := csr.isLt
  have b_ra := ra.isLt
  obtain ⟨h0, h1, h2, h3, h4⟩ := formatI_fields (op := 0x3C) (imm := csr.toNat) (a := ra.toNat) (d := 0) (by omega) (by omega) (by omega) (by omega)
  refine (decode_0x3C h0).trans ?_
  refine (if_pos (by omega)).trans ?_
  simp only [h1, h2, h3, h4, Nat.mod_eq_of_lt (show csr.toNat < 32 by omega), BitVec.ofNat_toNat, BitVec.setWidth_eq]
  rfl
theorem eret (e : Nat) : Statement (.eret e) := by
  intro w hw h
  have hq : w = formatI 0x3D 0 0 0 := (Option.some.inj h).symm
  subst hq
  clear hw h
  obtain ⟨h0, h1, h2, h3, h4⟩ := formatI_fields (op := 0x3D) (imm := 0) (a := 0) (d := 0) (by omega) (by omega) (by omega) (by omega)
  refine (decode_0x3D h0).trans ?_
  refine (if_pos (by omega)).trans ?_
  rfl
theorem halt (e : Nat) : Statement (.halt e) := by
  intro w hw h
  have hq : w = formatI 0x3E 0 0 0 := (Option.some.inj h).symm
  subst hq
  clear hw h
  obtain ⟨h0, h1, h2, h3, h4⟩ := formatI_fields (op := 0x3E) (imm := 0) (a := 0) (d := 0) (by omega) (by omega) (by omega) (by omega)
  refine (decode_0x3E h0).trans ?_
  refine (if_pos (by omega)).trans ?_
  rfl
theorem powerOn (bscan : Bool) : Statement (.powerOn bscan) := by
  intro w _ h; cases h
theorem railPowerGood (r : RailReport) : Statement (.railPowerGood r) := by
  intro w _ h; cases h
theorem railPowerGoodTimeout (n : Nat) : Statement (.railPowerGoodTimeout n) := by
  intro w _ h; cases h
theorem strapSample (ownerSel : Nat) (merge01 merge23 : Bool) (bmcAddr : Nat) : Statement (.strapSample ownerSel merge01 merge23 bmcAddr) := by
  intro w _ h; cases h
theorem portReset (port cause : Nat) : Statement (.portReset port cause) := by
  intro w _ h; cases h
theorem bootImageVerified (identified : Bool) (slotA slotB : List Byte) : Statement (.bootImageVerified identified slotA slotB) := by
  intro w _ h; cases h
theorem bootClearDone (ok : Bool) : Statement (.bootClearDone ok) := by
  intro w _ h; cases h
theorem rsvTrainDone (ok : Bool) : Statement (.rsvTrainDone ok) := by
  intro w _ h; cases h
theorem storeLinkUp (speed width : Nat) : Statement (.storeLinkUp speed width) := by
  intro w _ h; cases h
theorem storeControllerReady (formatOk : Bool) (nsze : Nat) : Statement (.storeControllerReady formatOk nsze) := by
  intro w _ h; cases h
theorem ready (ms : Nat) : Statement (.ready ms) := by
  intro w _ h; cases h
theorem bootHoldLimitExpiry (ms : Nat) : Statement (.bootHoldLimitExpiry ms) := by
  intro w _ h; cases h
theorem bootCtrlHold (port : Nat) (val : Word) : Statement (.bootCtrlHold port val) := by
  intro w _ h; cases h
theorem bootCtrlRelease (port ms : Nat) : Statement (.bootCtrlRelease port ms) := by
  intro w _ h; cases h
theorem bootCtrlRecoveryGo (port : Nat) : Statement (.bootCtrlRecoveryGo port) := by
  intro w _ h; cases h
theorem bootXferOpen (port : Nat) : Statement (.bootXferOpen port) := by
  intro w _ h; cases h
theorem bootXferDataWrite (port off : Nat) (data : List Byte) : Statement (.bootXferDataWrite port off data) := by
  intro w _ h; cases h
theorem bootHoldLimitWrite (port : Nat) (val : Word) (elapsed ms : Nat) : Statement (.bootHoldLimitWrite port val elapsed ms) := by
  intro w _ h; cases h
theorem topReset (port key : Nat) : Statement (.topReset port key) := by
  intro w _ h; cases h
theorem flagClear (port off : Nat) (val : Word) : Statement (.flagClear port off val) := by
  intro w _ h; cases h
theorem registerWrite (port off size : Nat) (val : BitVec 64) : Statement (.registerWrite port off size val) := by
  intro w _ h; cases h
theorem topHostPermWrite (port m : Nat) (val : Word) : Statement (.topHostPermWrite port m val) := by
  intro w _ h; cases h
theorem rastGeomWrite (port : Nat) (val : Word) : Statement (.rastGeomWrite port val) := by
  intro w _ h; cases h
theorem rastLagWrite (port : Nat) (val : Word) : Statement (.rastLagWrite port val) := by
  intro w _ h; cases h
theorem rastCtrlTimelineWrite (port : Nat) (val : Word) : Statement (.rastCtrlTimelineWrite port val) := by
  intro w _ h; cases h
theorem pipeFmtWrite (port : Nat) (val : Word) : Statement (.pipeFmtWrite port val) := by
  intro w _ h; cases h
theorem engCtrlRearRoleWrite (port : Nat) (val : Word) : Statement (.engCtrlRearRoleWrite port val) := by
  intro w _ h; cases h
theorem rsvAllocWrite (port reg : Nat) (val : Word) : Statement (.rsvAllocWrite port reg val) := by
  intro w _ h; cases h
theorem portKick (port : Nat) (val : Word) : Statement (.portKick port val) := by
  intro w _ h; cases h
theorem pollTimerExpiry (port : Nat) : Statement (.pollTimerExpiry port) := by
  intro w _ h; cases h
theorem doorbellFetchDone (port : Nat) (words : Option (List (BitVec 64))) : Statement (.doorbellFetchDone port words) := by
  intro w _ h; cases h
theorem descriptorFetchDone (port sq : Nat) (raw : Option (BitVec 512)) : Statement (.descriptorFetchDone port sq raw) := by
  intro w _ h; cases h
theorem sqCfgWrite (port n : Nat) (val : Word) : Statement (.sqCfgWrite port n val) := by
  intro w _ h; cases h
theorem cqCfgWrite (port n : Nat) (val : Word) : Statement (.cqCfgWrite port n val) := by
  intro w _ h; cases h
theorem evqCfgWrite (port : Nat) (val : Word) : Statement (.evqCfgWrite port val) := by
  intro w _ h; cases h
theorem coalesceTimerExpiry (port ring : Nat) : Statement (.coalesceTimerExpiry port ring) := by
  intro w _ h; cases h
theorem setPanel (port sq seq : Nat) : Statement (.setPanel port sq seq) := by
  intro w _ h; cases h
theorem setTimeline (port sq seq : Nat) : Statement (.setTimeline port sq seq) := by
  intro w _ h; cases h
theorem assign (port sq seq : Nat) : Statement (.assign port sq seq) := by
  intro w _ h; cases h
theorem setBackground (port sq seq : Nat) : Statement (.setBackground port sq seq) := by
  intro w _ h; cases h
theorem rasterEnable (port sq seq : Nat) : Statement (.rasterEnable port sq seq) := by
  intro w _ h; cases h
theorem layerConfig (port sq seq : Nat) : Statement (.layerConfig port sq seq) := by
  intro w _ h; cases h
theorem layerFlip (port sq seq : Nat) : Statement (.layerFlip port sq seq) := by
  intro w _ h; cases h
theorem layerEnable (port sq seq : Nat) : Statement (.layerEnable port sq seq) := by
  intro w _ h; cases h
theorem layerMatrix (port sq seq : Nat) : Statement (.layerMatrix port sq seq) := by
  intro w _ h; cases h
theorem tableLoad (port sq seq : Nat) : Statement (.tableLoad port sq seq) := by
  intro w _ h; cases h
theorem tableActivateC (port sq seq : Nat) : Statement (.tableActivateC port sq seq) := by
  intro w _ h; cases h
theorem tableActivateS (port sq seq : Nat) : Statement (.tableActivateS port sq seq) := by
  intro w _ h; cases h
theorem tableDrop (port sq seq : Nat) : Statement (.tableDrop port sq seq) := by
  intro w _ h; cases h
theorem kernelLoad (port sq seq : Nat) : Statement (.kernelLoad port sq seq) := by
  intro w _ h; cases h
theorem kernelBind (port sq seq : Nat) (param : Option (List Byte)) : Statement (.kernelBind port sq seq param) := by
  intro w _ h; cases h
theorem kernelUnload (port sq seq : Nat) : Statement (.kernelUnload port sq seq) := by
  intro w _ h; cases h
theorem imageLoadDone (port sq seq : Nat) (data : Option (List Byte)) : Statement (.imageLoadDone port sq seq data) := by
  intro w _ h; cases h
theorem holdStage (port sq seq : Nat) : Statement (.holdStage port sq seq) := by
  intro w _ h; cases h
theorem holdStageDone (item : Nat) : Statement (.holdStageDone item) := by
  intro w _ h; cases h
theorem holdPlay (port sq seq : Nat) : Statement (.holdPlay port sq seq) := by
  intro w _ h; cases h
theorem holdStop (port sq seq : Nat) : Statement (.holdStop port sq seq) := by
  intro w _ h; cases h
theorem holdPolicy (port sq seq : Nat) : Statement (.holdPolicy port sq seq) := by
  intro w _ h; cases h
theorem holdEvict (port sq seq : Nat) : Statement (.holdEvict port sq seq) := by
  intro w _ h; cases h
theorem storeRead (port sq seq : Nat) : Statement (.storeRead port sq seq) := by
  intro w _ h; cases h
theorem storeWrite (port sq seq : Nat) (data : Option (List Byte)) : Statement (.storeWrite port sq seq data) := by
  intro w _ h; cases h
theorem storeCreate (port sq seq : Nat) : Statement (.storeCreate port sq seq) := by
  intro w _ h; cases h
theorem storeDelete (port sq seq : Nat) : Statement (.storeDelete port sq seq) := by
  intro w _ h; cases h
theorem storeInfo (port sq seq : Nat) : Statement (.storeInfo port sq seq) := by
  intro w _ h; cases h
theorem nvmeCompletion (cid status : Nat) (data : List Byte) : Statement (.nvmeCompletion cid status data) := by
  intro w _ h; cases h
theorem nvmeCommandTimeout (cid : Nat) : Statement (.nvmeCommandTimeout cid) := by
  intro w _ h; cases h
theorem storeLost (reason : Nat) : Statement (.storeLost reason) := by
  intro w _ h; cases h
theorem codecJob (port sq seq : Nat) : Statement (.codecJob port sq seq) := by
  intro w _ h; cases h
theorem codecOutBuf (port sq seq : Nat) : Statement (.codecOutBuf port sq seq) := by
  intro w _ h; cases h
theorem codecCancel (port sq seq : Nat) : Statement (.codecCancel port sq seq) := by
  intro w _ h; cases h
theorem codecBlockDone (lane : Nat) (bytes : Option (List Byte)) : Statement (.codecBlockDone lane bytes) := by
  intro w _ h; cases h
theorem checkRect (port sq seq : Nat) : Statement (.checkRect port sq seq) := by
  intro w _ h; cases h
theorem checkExpect (port sq seq : Nat) : Statement (.checkExpect port sq seq) := by
  intro w _ h; cases h
theorem checkFrameComputed (rect : Nat) : Statement (.checkFrameComputed rect) := by
  intro w _ h; cases h
theorem ctrProgram (port sq : Nat) (seq : SeqCounts) : Statement (.ctrProgram port sq seq) := by
  intro w _ h; cases h
theorem ctrSnapshot (port sq seq : Nat) : Statement (.ctrSnapshot port sq seq) := by
  intro w _ h; cases h
theorem ctrFreeze (port sq seq : Nat) : Statement (.ctrFreeze port sq seq) := by
  intro w _ h; cases h
theorem bwMonitor (port sq seq : Nat) : Statement (.bwMonitor port sq seq) := by
  intro w _ h; cases h
theorem bwWindowEnd (monitor lo hi : Nat) : Statement (.bwWindowEnd monitor lo hi) := by
  intro w _ h; cases h
theorem tagConfig (port sq seq : Nat) : Statement (.tagConfig port sq seq) := by
  intro w _ h; cases h
theorem powerReq (port sq seq : Nat) : Statement (.powerReq port sq seq) := by
  intro w _ h; cases h
theorem opLimit (port sq seq : Nat) : Statement (.opLimit port sq seq) := by
  intro w _ h; cases h
theorem laneTrain (port sq seq : Nat) : Statement (.laneTrain port sq seq) := by
  intro w _ h; cases h
theorem laneBitSlip (port sq seq : Nat) : Statement (.laneBitSlip port sq seq) := by
  intro w _ h; cases h
theorem laneEyeScan (port sq seq : Nat) : Statement (.laneEyeScan port sq seq) := by
  intro w _ h; cases h
theorem lanePrbs (port sq seq : Nat) : Statement (.lanePrbs port sq seq) := by
  intro w _ h; cases h
theorem timeLock (port sq seq : Nat) : Statement (.timeLock port sq seq) := by
  intro w _ h; cases h
theorem timePhase (port sq seq : Nat) : Statement (.timePhase port sq seq) := by
  intro w _ h; cases h
theorem timeStamp (port sq seq : Nat) : Statement (.timeStamp port sq seq) := by
  intro w _ h; cases h
theorem timeSet (port sq seq : Nat) : Statement (.timeSet port sq seq) := by
  intro w _ h; cases h
theorem secAttest (port sq seq : Nat) : Statement (.secAttest port sq seq) := by
  intro w _ h; cases h
theorem secChallenge (port sq seq : Nat) : Statement (.secChallenge port sq seq) := by
  intro w _ h; cases h
theorem secEnrol (port sq seq : Nat) (data : Option (List Byte)) : Statement (.secEnrol port sq seq data) := by
  intro w _ h; cases h
theorem secRevoke (port sq seq : Nat) : Statement (.secRevoke port sq seq) := by
  intro w _ h; cases h
theorem secFwUpdate (port sq seq : Nat) (data : Option (List Byte)) : Statement (.secFwUpdate port sq seq data) := by
  intro w _ h; cases h
theorem fwFlashWriteDone (ok : Bool) : Statement (.fwFlashWriteDone ok) := by
  intro w _ h; cases h
theorem secRollback (port sq seq : Nat) : Statement (.secRollback port sq seq) := by
  intro w _ h; cases h
theorem secCert (port sq seq : Nat) : Statement (.secCert port sq seq) := by
  intro w _ h; cases h
theorem diagFieldRecord (port sq seq : Nat) : Statement (.diagFieldRecord port sq seq) := by
  intro w _ h; cases h
theorem diagUnitEnable (port sq seq : Nat) : Statement (.diagUnitEnable port sq seq) := by
  intro w _ h; cases h
theorem diagUnitFence (port sq seq : Nat) : Statement (.diagUnitFence port sq seq) := by
  intro w _ h; cases h
theorem diagLogRead (port sq seq : Nat) : Statement (.diagLogRead port sq seq) := by
  intro w _ h; cases h
theorem bmcUnitTable (first : Nat) : Statement (.bmcUnitTable first) := by
  intro w _ h; cases h
theorem bmcFieldRead (page : Nat) : Statement (.bmcFieldRead page) := by
  intro w _ h; cases h
theorem bmcPowerReq (target : Nat) : Statement (.bmcPowerReq target) := by
  intro w _ h; cases h
theorem laneCfgWrite (port link lane : Nat) (val : Word) : Statement (.laneCfgWrite port link lane val) := by
  intro w _ h; cases h
theorem laneSlipWrite (port link lane : Nat) (val : Word) : Statement (.laneSlipWrite port link lane val) := by
  intro w _ h; cases h
theorem laneEyeStartWrite (port link lane : Nat) (val : Word) : Statement (.laneEyeStartWrite port link lane val) := by
  intro w _ h; cases h
theorem prbsCtrlWrite (port link lane : Nat) (val : Word) : Statement (.prbsCtrlWrite port link lane val) := by
  intro w _ h; cases h
theorem prbsInjectWrite (port link lane n bits : Nat) (val : Word) : Statement (.prbsInjectWrite port link lane n bits val) := by
  intro w _ h; cases h
theorem prbsBitsLoRead (port link lane n bits : Nat) : Statement (.prbsBitsLoRead port link lane n bits) := by
  intro w _ h; cases h
theorem rastSfnLoRead (port : Nat) : Statement (.rastSfnLoRead port) := by
  intro w _ h; cases h
theorem rastCfnLoRead (port : Nat) : Statement (.rastCfnLoRead port) := by
  intro w _ h; cases h
theorem hfnOffsetLoRead (port : Nat) : Statement (.hfnOffsetLoRead port) := by
  intro w _ h; cases h
theorem rastTimeNsRead (port : Nat) : Statement (.rastTimeNsRead port) := by
  intro w _ h; cases h
theorem bklStatsSfnLoRead (port : Nat) : Statement (.bklStatsSfnLoRead port) := by
  intro w _ h; cases h
theorem chkFrameLoRead (port rect : Nat) : Statement (.chkFrameLoRead port rect) := by
  intro w _ h; cases h
theorem laneTrainingDone (link lane status fom crc : Nat) : Statement (.laneTrainingDone link lane status fom crc) := by
  intro w _ h; cases h
theorem laneTrainingTimeout (link lane : Nat) : Statement (.laneTrainingTimeout link lane) := by
  intro w _ h; cases h
theorem laneLockLost (link lane cause : Nat) : Statement (.laneLockLost link lane cause) := by
  intro w _ h; cases h
theorem fastRetrainTimeout (link lane : Nat) : Statement (.fastRetrainTimeout link lane) := by
  intro w _ h; cases h
theorem retrainCountReset (link lane : Nat) : Statement (.retrainCountReset link lane) := by
  intro w _ h; cases h
theorem fomWindow (lane disagree : Nat) (steps : List Int) : Statement (.fomWindow lane disagree steps) := by
  intro w _ h; cases h
theorem ctleTrial (lane : Nat) : Statement (.ctleTrial lane) := by
  intro w _ h; cases h
theorem idleFreeze (link lane : Nat) : Statement (.idleFreeze link lane) := by
  intro w _ h; cases h
theorem recentreDone (scan : LaneErrors) : Statement (.recentreDone scan) := by
  intro w _ h; cases h
theorem eyeScanDone (link lane : Nat) (left right top bottom : List Nat) (centre : Nat) (answered : Bool) : Statement (.eyeScanDone link lane left right top bottom centre answered) := by
  intro w _ h; cases h
theorem hwlLinePacket (lane : Nat) (blocks : List (BitVec 66)) : Statement (.hwlLinePacket lane blocks) := by
  intro w _ h; cases h
theorem frameStart (lane header : Nat) (low high : BitVec 32) (late : Bool) : Statement (.frameStart lane header low high late) := by
  intro w _ h; cases h
theorem frameEnd (lane header : Nat) (low high : BitVec 32) : Statement (.frameEnd lane header low high) := by
  intro w _ h; cases h
theorem hwlSleepBlock (b : LaneBlock) : Statement (.hwlSleepBlock b) := by
  intro w _ h; cases h
theorem hwlWakeBlock (b : LaneBlock) : Statement (.hwlWakeBlock b) := by
  intro w _ h; cases h
theorem hwlTrainBlock (b : LaneBlock) : Statement (.hwlTrainBlock b) := by
  intro w _ h; cases h
theorem hwlIdleBlock (b : LaneBlock) : Statement (.hwlIdleBlock b) := by
  intro w _ h; cases h
theorem hwlUnknownBlock (lane : Nat) (block : BitVec 66) : Statement (.hwlUnknownBlock lane block) := by
  intro w _ h; cases h
theorem lineDeadline (plane line : Nat) : Statement (.lineDeadline plane line) := by
  intro w _ h; cases h
theorem refFrameEdge (gap since : Nat) : Statement (.refFrameEdge gap since) := by
  intro w _ h; cases h
theorem refTodMessage (msg : List Byte) (afterMs : Nat) : Statement (.refTodMessage msg afterMs) := by
  intro w _ h; cases h
theorem compositionFrameStart (distances : List Nat) : Statement (.compositionFrameStart distances) := by
  intro w _ h; cases h
theorem compositionLineStart (reads : LineReads) : Statement (.compositionLineStart reads) := by
  intro w _ h; cases h
theorem liveFetchDone (layer plane line : Nat) (forNext : Bool) (bytes : Option (List Byte)) : Statement (.liveFetchDone layer plane line forNext bytes) := by
  intro w _ h; cases h
theorem snapshotFetchDone (port sq seq : Nat) (data : Option (List (Nat × List Byte))) : Statement (.snapshotFetchDone port sq seq data) := by
  intro w _ h; cases h
theorem tileDispatch (cell tc tr : Nat) (next : Bool) (cfn : Nat) : Statement (.tileDispatch cell tc tr next cfn) := by
  intro w _ h; cases h
theorem tileComplete (cell tc tr : Nat) : Statement (.tileComplete cell tc tr) := by
  intro w _ h; cases h
theorem tileRetire (cell tc tr : Nat) : Statement (.tileRetire cell tc tr) := by
  intro w _ h; cases h
theorem tileDeadline (cell tc tr : Nat) (next : Bool) : Statement (.tileDeadline cell tc tr next) := by
  intro w _ h; cases h
theorem deadlineWarning (cell tc tr : Nat) : Statement (.deadlineWarning cell tc tr) := by
  intro w _ h; cases h
theorem maxCyclesExpiry (engine : Nat) : Statement (.maxCyclesExpiry engine) := by
  intro w _ h; cases h
theorem moverRequestDone (cluster : Nat) : Statement (.moverRequestDone cluster) := by
  intro w _ h; cases h
theorem moverStarve (cluster n cycles : Nat) : Statement (.moverStarve cluster n cycles) := by
  intro w _ h; cases h
theorem patrolVisit (c : Nat) (aborted : Bool) (bits word : Nat) (spad : List (Nat × Nat)) (priv : List (Nat × Nat × Nat)) : Statement (.patrolVisit c aborted bits word spad priv) := by
  intro w _ h; cases h
theorem handlerEntry (engine : Nat) : Statement (.handlerEntry engine) := by
  intro w _ h; cases h
theorem barrierRelease (engine : Nat) : Statement (.barrierRelease engine) := by
  intro w _ h; cases h
theorem waitRelease (engine : Nat) : Statement (.waitRelease engine) := by
  intro w _ h; cases h
theorem stageEnd (engine : Nat) : Statement (.stageEnd engine) := by
  intro w _ h; cases h
theorem instructionUndefined (engine : Nat) : Statement (.instructionUndefined engine) := by
  intro w _ h; cases h
theorem rsvScrubRead (region line result : Nat) : Statement (.rsvScrubRead region line result) := by
  intro w _ h; cases h
theorem bklStrobe (controller onRow offRow : Nat) : Statement (.bklStrobe controller onRow offRow) := by
  intro w _ h; cases h
theorem zoneData (controller row frame : Nat) (fits : Bool) : Statement (.zoneData controller row frame fits) := by
  intro w _ h; cases h
theorem bklStatus (controller status crc : Nat) : Statement (.bklStatus controller status crc) := by
  intro w _ h; cases h
theorem slkLinePacket (lane line : Nat) (at_ : PacketTime) (next repair : Bool) : Statement (.slkLinePacket lane line at_ next repair) := by
  intro w _ h; cases h
theorem cfgWrite (w : LaneIdle) : Statement (.cfgWrite w) := by
  intro w _ h; cases h
theorem slkDcfgGo (port : Nat) (val : Word) : Statement (.slkDcfgGo port val) := by
  intro w _ h; cases h
theorem roll (bc : Nat) (replies : List (Option (Nat × Nat × Nat))) : Statement (.roll bc replies) := by
  intro w _ h; cases h
theorem statusPoll (lane : Nat) : Statement (.statusPoll lane) := by
  intro w _ h; cases h
theorem bcReply (bc : Nat) (frame : List Byte) : Statement (.bcReply bc frame) := by
  intro w _ h; cases h
theorem bcReplyTimeout (bc : Nat) (crc : Bool) : Statement (.bcReplyTimeout bc crc) := by
  intro w _ h; cases h
theorem bcAlertPulse (bc width row : Nat) : Statement (.bcAlertPulse bc width row) := by
  intro w _ h; cases h
theorem relock (lane : Nat) (frame : List Byte) : Statement (.relock lane frame) := by
  intro w _ h; cases h
theorem hostLinkWake (port : Nat) : Statement (.hostLinkWake port) := by
  intro w _ h; cases h
theorem voltageFail (vout : Nat) : Statement (.voltageFail vout) := by
  intro w _ h; cases h
theorem railTelemetry (readings : List (Nat × Nat)) : Statement (.railTelemetry readings) := by
  intro w _ h; cases h
theorem pmbusAlert (words : List Nat) : Statement (.pmbusAlert words) := by
  intro w _ h; cases h
theorem pllLockLoss (unit : Nat) : Statement (.pllLockLoss unit) := by
  intro w _ h; cases h
theorem mgmtMemoryError (unit : Nat) : Statement (.mgmtMemoryError unit) := by
  intro w _ h; cases h
theorem sensorRefresh (values : List (Option Nat)) : Statement (.sensorRefresh values) := by
  intro w _ h; cases h
theorem panelTempPoll (reads : List (Option Nat)) : Statement (.panelTempPoll reads) := by
  intro w _ h; cases h
theorem unitStateUpdate (unit : Nat) : Statement (.unitStateUpdate unit) := by
  intro w _ h; cases h
theorem hwlSignalDetect (lane : Nat) : Statement (.hwlSignalDetect lane) := by
  intro w _ h; cases h
theorem cdrLock (lane : Nat) : Statement (.cdrLock lane) := by
  intro w _ h; cases h
theorem blockLock (r : LaneBits) : Statement (.blockLock r) := by
  intro w _ h; cases h
theorem invalidSyncHeader (lane : Nat) (block : BitVec 66) : Statement (.invalidSyncHeader lane block) := by
  intro w _ h; cases h
theorem prbsCheckerLocked (r : LaneBits) : Statement (.prbsCheckerLocked r) := by
  intro w _ h; cases h
theorem prbsCheckerUnlock (lane n bits : Nat) : Statement (.prbsCheckerUnlock lane n bits) := by
  intro w _ h; cases h
theorem hostLinkUp (port : Nat) : Statement (.hostLinkUp port) := by
  intro w _ h; cases h
theorem counterWrap (n : Nat) : Statement (.counterWrap n) := by
  intro w _ h; cases h
theorem dataPathAcknowledge (unit : Nat) : Statement (.dataPathAcknowledge unit) := by
  intro w _ h; cases h
theorem diagUnitEnableTimeout (unit : Nat) : Statement (.diagUnitEnableTimeout unit) := by
  intro w _ h; cases h
theorem readTemperaturePoll (temps : List Nat) : Statement (.readTemperaturePoll temps) := by
  intro w _ h; cases h
theorem privateTestModeOpen (response : List Byte) : Statement (.privateTestModeOpen response) := by
  intro w _ h; cases h
theorem wakeFromOff : Statement (.wakeFromOff) := by
  intro w _ h; cases h
theorem vddAonLoss : Statement (.vddAonLoss) := by
  intro w _ h; cases h
theorem watchdogExpiry : Statement (.watchdogExpiry) := by
  intro w _ h; cases h
theorem laneCalibrationDone : Statement (.laneCalibrationDone) := by
  intro w _ h; cases h
theorem stpPerstRelease : Statement (.stpPerstRelease) := by
  intro w _ h; cases h
theorem storeAbsentTimeout : Statement (.storeAbsentTimeout) := by
  intro w _ h; cases h
theorem recoveryVerifyDone : Statement (.recoveryVerifyDone) := by
  intro w _ h; cases h
theorem panelPowerStep : Statement (.panelPowerStep) := by
  intro w _ h; cases h
theorem storeMountRetry : Statement (.storeMountRetry) := by
  intro w _ h; cases h
theorem eventLogFlush : Statement (.eventLogFlush) := by
  intro w _ h; cases h
theorem smartPoll : Statement (.smartPoll) := by
  intro w _ h; cases h
theorem challengeExpiry : Statement (.challengeExpiry) := by
  intro w _ h; cases h
theorem bmcStatus : Statement (.bmcStatus) := by
  intro w _ h; cases h
theorem bmcFieldCapture : Statement (.bmcFieldCapture) := by
  intro w _ h; cases h
theorem bmcPowerResult : Statement (.bmcPowerResult) := by
  intro w _ h; cases h
theorem silenceCheck : Statement (.silenceCheck) := by
  intro w _ h; cases h
theorem freeze : Statement (.freeze) := by
  intro w _ h; cases h
theorem freezeTimeout : Statement (.freezeTimeout) := by
  intro w _ h; cases h
theorem refFrameLost : Statement (.refFrameLost) := by
  intro w _ h; cases h
theorem ref10mPresent : Statement (.ref10mPresent) := by
  intro w _ h; cases h
theorem ref10mLost : Statement (.ref10mLost) := by
  intro w _ h; cases h
theorem refPpsEdge : Statement (.refPpsEdge) := by
  intro w _ h; cases h
theorem scanFrameStart : Statement (.scanFrameStart) := by
  intro w _ h; cases h
theorem latchInstant : Statement (.latchInstant) := by
  intro w _ h; cases h
theorem stage6Deadline : Statement (.stage6Deadline) := by
  intro w _ h; cases h
theorem idlePolicy : Statement (.idlePolicy) := by
  intro w _ h; cases h
theorem sleepPolicy : Statement (.sleepPolicy) := by
  intro w _ h; cases h
theorem unitAgree : Statement (.unitAgree) := by
  intro w _ h; cases h
theorem stpShutdownTimeout : Statement (.stpShutdownTimeout) := by
  intro w _ h; cases h
theorem wakeN : Statement (.wakeN) := by
  intro w _ h; cases h
theorem wakeSense : Statement (.wakeSense) := by
  intro w _ h; cases h
theorem powerExitDone : Statement (.powerExitDone) := by
  intro w _ h; cases h
theorem opSwitch : Statement (.opSwitch) := by
  intro w _ h; cases h
theorem opPllTimeout : Statement (.opPllTimeout) := by
  intro w _ h; cases h
theorem thermalTrip : Statement (.thermalTrip) := by
  intro w _ h; cases h
theorem rsvInterfaceFailure : Statement (.rsvInterfaceFailure) := by
  intro w _ h; cases h
theorem resetNLow : Statement (.resetNLow) := by
  intro w _ h; cases h
theorem vddAonPowerUp : Statement (.vddAonPowerUp) := by
  intro w _ h; cases h
theorem railRetryWait : Statement (.railRetryWait) := by
  intro w _ h; cases h
theorem scanLineStart : Statement (.scanLineStart) := by
  intro w _ h; cases h
theorem fuseProgrammingDone : Statement (.fuseProgrammingDone) := by
  intro w _ h; cases h
theorem refPpsLost : Statement (.refPpsLost) := by
  intro w _ h; cases h

end Sys2Proof.Laws.RoundTrip
end

