-- ==== Sys2Proof/Tests/Slice0.lean ====
section
/-! SUPPORT. The author's own tests: terms that WellFormed refuses, words and numbers that the spec writes out, and for
every statement with hypotheses a state and operands that meet them, clause by clause. -/

open Sys2Proof Sys2Proof.Machine

namespace Sys2Proof.Tests

set_option Elab.async false

/-! ### States to start from -/

/-- A descriptor of port 0, ring 0, with its 64 bytes as one number. -/
def rawDsc (raw : Nat) : Dsc := { port := 0, sq := 0, seq := 0, raw := BitVec.ofNat 512 raw }

/-- The device holds one descriptor. -/
def sent (d : Dsc) (s : State) : State := { s with host := { s.host with inflight := [d] } }

/-- Port 0's link is up and the lanes are calibrated. -/
def linkUp (s : State) : State := { setPort 0 { up := true } s with boot := { s.boot with lanesDone := true } }

/-- A kernel of one stage, of four bytes of code and 64 of data. -/
def kernel (code : List Byte) : Kernel :=
  { stage := 1, cells := 1, haloV := 0, haloH := 0, codeBytes := 4, dataBytes := 64, scratchBytes := 0, maxCycles := 100,
    entry := 0, entryMover := 0, entryWarn := 0, paramOffset := 0, code := code, init := [], param := [] }

/-- Engine 0 runs a kernel of that code, with those registers. -/
def running (code : List Byte) (v : Engine) (s : State) : State :=
  setEngine 0 { v with running := true, handle := 1 } { s with
    power := { s.power with state := .run }, tables := { s.tables with kernels := [(1, some (kernel code))] } }

/-- A job on engine 0, of the tile in the panel's corner. -/
def job : Job :=
  { sfn := 0, cell := 0, tc := 0, tr := 0, engine := 0, key := jobKey State.reset false 0 .nothing, speculative := false }

/-- The pipe holds one job. -/
def atWork (j : Job) (s : State) : State := { s with pipe := { s.pipe with jobs := [j] } }

/-- A Headwater frame whose plane H0 is 16 × 4 pixels, and the packet of one of its lines. -/
def hwFrame : HwFrame := { lo := 255, mask := 1, planes := [16 + 4 * 2 ^ 14, 0] }

def packet : LinePacket :=
  { plane := 0, frameLo := 255, line := 3, format := 0, width := 16, data := List.replicate 64 7, dataBlocks := 8
    crc := crc32c ([0, 255, 3, 0, 0, 16, 0] ++ List.replicate 64 7) }

/-- A block of the wire with header h, for a lane whose descrambler holds zeros. -/
def heard (h : Nat) (p : BitVec 64) : BitVec 66 := blockOf h (scramble 0 p).1

/-- Bytes 1 to 7 of the LINE_START and the LINE_END of that packet. -/
def lineStart : List Byte := [0, 255, 3, 0, 0, 16, 0]

def lineEnd : BitVec 64 := payloadOfBytes (0x87 :: leBytes 4 packet.crc ++ [8, 0, 0])

/-- Lane 31 is ACTIVE. -/
def receiving (s : State) : State := wrF (Reg.LANE_STAT 0 31) Fld.LANE_STAT_state Lane.active s

/-- A time of day message before its CRC. -/
def todBody : List Byte := [0xA5, 0x5A, 1, 1] ++ List.replicate 16 0

/-- A hold item of one raw frame of 16 × 2 pixels (R421). -/
@[irreducible] def item : List Byte :=
  leBytes 4 0x4948584F ++ leBytes 2 1 ++ leBytes 2 16 ++ leBytes 2 2 ++ [1, 0] ++ leBytes 4 1 ++ List.replicate 48 0 ++
    leBytes 4 1 ++ leBytes 4 192 ++ leBytes 4 (crc32c (List.replicate 192 9)) ++ List.replicate 4020 0 ++ List.replicate 192 9

/-- A descriptor that flips layer 15, and the state that holds it and the layer's settings. -/
def atFlip : State :=
  State.reset |> sent (rawDsc (0x0202 + 15 * 2 ^ 128 + 1 * 2 ^ 136 + 256 * 2 ^ 160)) |>
    wrF (Reg.COMP_Ln_CFG 15) Fld.COMP_Ln_CFG_kind 1 |> wrF (Reg.COMP_Ln_CFG 15) Fld.COMP_Ln_CFG_format 64 |>
    wrF (Reg.COMP_Ln_SIZE 15) Fld.COMP_Ln_SIZE_width 64 |> wrF (Reg.COMP_Ln_SIZE 15) Fld.COMP_Ln_SIZE_height 4

/-- The state in which item 1 has been read from the store. -/
def itemRead : State := { State.reset with hold := { State.reset.hold with read := [(1, item)], staging := [(1, [])] } }

theorem itemRead_allocates :
    (alloc .hold (holdTag 1) (6 * leAt item 6 2 * leAt item 8 2 * leAt item 12 4) itemRead).isSome = true := by decide +kernel

/-! ### Terms that WellFormed refuses, one for each check -/

theorem test_ill_formed_eddy_scalar : ([
    .add 256 0 0 0, .sub 256 0 0 0, .and 256 0 0 0, .or 256 0 0 0, .xor 256 0 0 0, .shl 256 0 0 0, .shr 256 0 0 0,
    .sra 256 0 0 0, .slt 256 0 0 0, .sltu 256 0 0 0, .min 256 0 0 0, .minu 256 0 0 0, .max 256 0 0 0, .maxu 256 0 0 0,
    .mul 256 0 0 0, .mulh 256 0 0 0, .mulhu 256 0 0 0, .addi 256 0 0 0, .andi 256 0 0 0, .ori 256 0 0 0, .xori 256 0 0 0,
    .shli 256 0 0 0, .shri 256 0 0 0, .srai 256 0 0 0, .slti 256 0 0 0, .sltiu 256 0 0 0, .lui 256 0 0, .jal 256 0 0,
    .jalr 256 0 0 0, .br 256 0 0 0 0, .br 0 6 0 0 0, .lw 256 0 0 0, .lh 256 0 0 0, .lhu 256 0 0 0, .lb 256 0 0 0,
    .lbu 256 0 0 0, .sw 256 0 0 0, .sh 256 0 0 0, .sb 256 0 0 0, .vld 256 0 0 0 0, .vst 256 0 0 0 0, .vldb 256 0 0 0 0,
    .aaddH 256 0 0 0, .aaddW 256 0 0 0, .aaddsH 256 0 0 0] : List Instr).all (fun i => !i.wf) = true := by decide

theorem test_ill_formed_eddy_vector : ([
    .aaddsW 256 0 0 0, .aswpH 256 0 0 0, .aswpW 256 0 0 0, .vadd 256 0 0 0 0, .vsub 256 0 0 0 0, .vadds 256 0 0 0 0,
    .vsubs 256 0 0 0 0, .vaddus 256 0 0 0 0, .vsubus 256 0 0 0 0, .vaddsu 256 0 0 0 0, .vmin 256 0 0 0 0, .vmax 256 0 0 0 0,
    .vminu 256 0 0 0 0, .vmaxu 256 0 0 0 0, .vand 256 0 0 0 0, .vor 256 0 0 0 0, .vxor 256 0 0 0 0, .vshl 256 0 0 0 0,
    .vshr 256 0 0 0 0, .vsra 256 0 0 0 0, .vmul 256 0 0 0 0, .vmulh 256 0 0 0 0, .vmulhu 256 0 0 0 0, .vabsdu 256 0 0 0 0,
    .vavgu 256 0 0 0 0, .vsel 256 0 0 0 0, .vshli 256 0 0 0 0, .vshri 256 0 0 0 0, .vsrai 256 0 0 0 0, .vaddi 256 0 0 0 0,
    .vmov 256 0 0 0, .vclz 256 0 0 0, .vrcp 256 0 0 0, .vrsqrt 256 0 0 0, .vlane 256 0 0 0, .vmvs 256 0 0 0,
    .vcmp 256 0 0 0 0 0, .vcmp 0 0 0 6 0 0, .pand 256 0 0 0, .por 256 0 0 0, .pxor 256 0 0 0, .pandn 256 0 0 0,
    .pset 256 0 0 0, .pget 256 0 0 0, .vmac 256 0 0 0 0 0, .aclr 256 0 0, .aset 256 0 0 0 0 false, .vrnd 256 0 0 0 0 0,
    .vrnd 0 0 0 0 0 3, .lut1 256 0 0 0 0 false, .lut2 256 0 0 0 0 0 false, .mvq 256 0 0, .bar 256 0, .wait 256 1, .wait 0 0,
    .csrr 256 0 0, .csrr 0 0 6, .csrw 256 0 0, .csrw 0 0 6, .eret 256, .halt 256] : List Instr).all (fun i => !i.wf) = true := by decide

theorem test_ill_formed_1 : ([
    .railPowerGood ⟨8, 0⟩, .railPowerGood ⟨0, 256⟩, .railPowerGoodTimeout 8, .strapSample 4 false false 0,
    .strapSample 0 false false 4, .portReset 4 0, .portReset 0 4, .bootCtrlHold 4 0, .bootCtrlRelease 4 0,
    .bootCtrlRecoveryGo 4, .bootXferOpen 4, .bootXferDataWrite 4 0 [], .bootXferDataWrite 0 2045 [0, 0, 0, 0],
    .bootHoldLimitWrite 4 0 0 0, .topReset 4 0, .flagClear 4 0 0, .flagClear 0 2 0, .registerWrite 4 0 4 0,
    .registerWrite 0 0 2 0, .registerWrite 0 2 4 0, .registerWrite 0 4 8 0, .topHostPermWrite 4 0 0, .topHostPermWrite 0 4 0,
    .rastGeomWrite 4 0, .rastLagWrite 4 0, .rastCtrlTimelineWrite 4 0, .pipeFmtWrite 4 0, .engCtrlRearRoleWrite 4 0,
    .rsvAllocWrite 4 0 0, .rsvAllocWrite 0 2 0, .portKick 4 0, .pollTimerExpiry 4, .doorbellFetchDone 4 none,
    .descriptorFetchDone 4 0 none, .descriptorFetchDone 0 8 none, .sqCfgWrite 4 0 0, .sqCfgWrite 0 8 0, .cqCfgWrite 4 0 0,
    .cqCfgWrite 0 8 0, .evqCfgWrite 4 0, .coalesceTimerExpiry 4 0x80, .coalesceTimerExpiry 0 0x3F,
    .coalesceTimerExpiry 0 0x48, .setPanel 4 0 0] : List Instr).all (fun i => !i.wf) = true := by decide

theorem test_ill_formed_2 : ([
    .setPanel 0 8 0, .setTimeline 4 0 0, .setTimeline 0 8 0, .assign 4 0 0, .assign 0 8 0, .setBackground 4 0 0,
    .setBackground 0 8 0, .rasterEnable 4 0 0, .rasterEnable 0 8 0, .layerConfig 4 0 0, .layerConfig 0 8 0, .layerFlip 4 0 0,
    .layerFlip 0 8 0, .layerEnable 4 0 0, .layerEnable 0 8 0, .layerMatrix 4 0 0, .layerMatrix 0 8 0, .tableLoad 4 0 0,
    .tableLoad 0 8 0, .tableActivateC 4 0 0, .tableActivateC 0 8 0, .tableActivateS 4 0 0, .tableActivateS 0 8 0,
    .tableDrop 4 0 0, .tableDrop 0 8 0, .kernelLoad 4 0 0, .kernelLoad 0 8 0, .kernelBind 4 0 0 none, .kernelBind 0 8 0 none,
    .kernelUnload 4 0 0, .kernelUnload 0 8 0, .imageLoadDone 4 0 0 none, .imageLoadDone 0 8 0 none, .holdStage 4 0 0,
    .holdStage 0 8 0, .holdStageDone 4294967296, .holdPlay 4 0 0, .holdPlay 0 8 0, .holdStop 4 0 0, .holdStop 0 8 0,
    .holdPolicy 4 0 0, .holdPolicy 0 8 0, .holdEvict 4 0 0, .holdEvict 0 8 0] : List Instr).all (fun i => !i.wf) = true := by decide

theorem test_ill_formed_3 : ([
    .storeRead 4 0 0, .storeRead 0 8 0, .storeWrite 4 0 0 none, .storeWrite 0 8 0 none, .storeCreate 4 0 0,
    .storeCreate 0 8 0, .storeDelete 4 0 0, .storeDelete 0 8 0, .storeInfo 4 0 0, .storeInfo 0 8 0,
    .nvmeCompletion 65536 0 [], .storeLost 2, .codecJob 4 0 0, .codecJob 0 8 0, .codecOutBuf 4 0 0, .codecOutBuf 0 8 0,
    .codecCancel 4 0 0, .codecCancel 0 8 0, .codecBlockDone 8 none, .checkRect 4 0 0, .checkRect 0 8 0, .checkExpect 4 0 0,
    .checkExpect 0 8 0, .checkFrameComputed 48, .ctrProgram 4 0 ⟨0, 0⟩, .ctrProgram 0 8 ⟨0, 0⟩, .ctrSnapshot 4 0 0,
    .ctrSnapshot 0 8 0, .ctrFreeze 4 0 0, .ctrFreeze 0 8 0, .bwMonitor 4 0 0, .bwMonitor 0 8 0, .bwWindowEnd 10 0 0,
    .tagConfig 4 0 0, .tagConfig 0 8 0, .powerReq 4 0 0, .powerReq 0 8 0, .opLimit 4 0 0, .opLimit 0 8 0, .laneTrain 4 0 0,
    .laneTrain 0 8 0, .laneBitSlip 4 0 0, .laneBitSlip 0 8 0, .laneEyeScan 4 0 0] : List Instr).all (fun i => !i.wf) = true := by decide

theorem test_ill_formed_4 : ([
    .laneEyeScan 0 8 0, .lanePrbs 4 0 0, .lanePrbs 0 8 0, .timeLock 4 0 0, .timeLock 0 8 0, .timePhase 4 0 0,
    .timePhase 0 8 0, .timeStamp 4 0 0, .timeStamp 0 8 0, .timeSet 4 0 0, .timeSet 0 8 0, .secAttest 4 0 0, .secAttest 0 8 0,
    .secChallenge 4 0 0, .secChallenge 0 8 0, .secEnrol 4 0 0 none, .secEnrol 0 8 0 none, .secRevoke 4 0 0, .secRevoke 0 8 0,
    .secFwUpdate 4 0 0 none, .secFwUpdate 0 8 0 none, .secRollback 4 0 0, .secRollback 0 8 0, .secCert 4 0 0, .secCert 0 8 0,
    .diagFieldRecord 4 0 0, .diagFieldRecord 0 8 0, .diagUnitEnable 4 0 0, .diagUnitEnable 0 8 0, .diagUnitFence 4 0 0,
    .diagUnitFence 0 8 0, .diagLogRead 4 0 0, .diagLogRead 0 8 0, .bmcUnitTable 256, .bmcFieldRead 256,
    .laneCfgWrite 4 0 0 0, .laneCfgWrite 0 0 32 0, .laneCfgWrite 0 1 128 0, .laneCfgWrite 0 2 0 0, .laneSlipWrite 4 0 0 0,
    .laneSlipWrite 0 0 32 0, .laneSlipWrite 0 1 128 0, .laneSlipWrite 0 2 0 0, .laneEyeStartWrite 4 0 0 0] : List Instr).all (fun i => !i.wf) = true := by decide

theorem test_ill_formed_5 : ([
    .laneEyeStartWrite 0 0 32 0, .laneEyeStartWrite 0 1 128 0, .laneEyeStartWrite 0 2 0 0, .prbsCtrlWrite 4 0 0 0,
    .prbsCtrlWrite 0 0 32 0, .prbsCtrlWrite 0 1 128 0, .prbsCtrlWrite 0 2 0 0, .prbsInjectWrite 4 0 0 0 0 0,
    .prbsInjectWrite 0 0 32 0 0 0, .prbsInjectWrite 0 1 128 0 0 0, .prbsInjectWrite 0 2 0 0 0 0, .prbsBitsLoRead 4 0 0 0 0,
    .prbsBitsLoRead 0 0 32 0 0, .prbsBitsLoRead 0 1 128 0 0, .prbsBitsLoRead 0 2 0 0 0, .rastSfnLoRead 4, .rastCfnLoRead 4,
    .hfnOffsetLoRead 4, .rastTimeNsRead 4, .bklStatsSfnLoRead 4, .chkFrameLoRead 4 0, .chkFrameLoRead 0 48,
    .laneTrainingDone 0 32 0 0 0, .laneTrainingDone 1 128 0 0 0, .laneTrainingDone 2 0 0 0 0, .laneTrainingTimeout 0 32,
    .laneTrainingTimeout 1 128, .laneTrainingTimeout 2 0, .laneLockLost 0 32 0, .laneLockLost 1 128 0, .laneLockLost 2 0 0,
    .fastRetrainTimeout 0 32, .fastRetrainTimeout 1 128, .fastRetrainTimeout 2 0, .retrainCountReset 0 32,
    .retrainCountReset 1 128, .retrainCountReset 2 0, .fomWindow 32 0 [], .ctleTrial 32, .idleFreeze 0 32, .idleFreeze 1 128,
    .idleFreeze 2 0, .recentreDone ⟨32, []⟩, .eyeScanDone 0 32 [] [] [] [] 0 false] : List Instr).all (fun i => !i.wf) = true := by decide

theorem test_ill_formed_6 : ([
    .eyeScanDone 1 128 [] [] [] [] 0 false, .eyeScanDone 2 0 [] [] [] [] 0 false, .hwlLinePacket 32 [],
    .frameStart 32 0 0 0 false, .frameEnd 32 0 0 0, .hwlSleepBlock ⟨32, 0⟩, .hwlWakeBlock ⟨32, 0⟩, .hwlTrainBlock ⟨32, 0⟩,
    .hwlIdleBlock ⟨32, 0⟩, .hwlUnknownBlock 32 0, .lineDeadline 2 0, .liveFetchDone 16 0 0 false none,
    .liveFetchDone 0 3 0 false none, .snapshotFetchDone 4 0 0 none, .snapshotFetchDone 0 8 0 none,
    .tileDispatch 0 32 0 false 0, .tileDispatch 1 0 540 false 0, .tileDispatch 3 0 0 false 0, .tileComplete 0 32 0,
    .tileComplete 1 0 540, .tileComplete 3 0 0, .tileRetire 0 32 0, .tileRetire 1 0 540, .tileRetire 3 0 0,
    .tileDeadline 0 32 0 false, .tileDeadline 1 0 540 false, .tileDeadline 3 0 0 false, .deadlineWarning 0 32 0,
    .deadlineWarning 1 0 540, .deadlineWarning 3 0 0, .maxCyclesExpiry 256, .moverRequestDone 32, .moverStarve 32 0 0,
    .patrolVisit 32 false 0 0 [] [], .patrolVisit 0 false 0 64 [] [], .handlerEntry 256, .barrierRelease 256,
    .waitRelease 256, .stageEnd 256, .instructionUndefined 256, .rsvScrubRead 0 0 3, .bklStrobe 0 36 0, .bklStrobe 0 0 36,
    .bklStrobe 4 0 0] : List Instr).all (fun i => !i.wf) = true := by decide

theorem test_ill_formed_7 : ([
    .zoneData 4 0 0 false, .zoneData 0 36 0 false, .bklStatus 4 0 0, .slkLinePacket 128 0 ⟨0, 0⟩ false false,
    .cfgWrite ⟨128, 0⟩, .slkDcfgGo 4 0, .roll 8 [], .roll 0 (List.replicate 17 none), .statusPoll 128, .bcReply 8 [],
    .bcReply 0 (List.replicate 17 0), .bcReplyTimeout 8 false, .bcAlertPulse 8 0 0, .relock 128 [],
    .relock 0 (List.replicate 17 0), .hostLinkWake 4, .pllLockLoss 256, .mgmtMemoryError 256, .unitStateUpdate 256,
    .hwlSignalDetect 32, .cdrLock 32, .blockLock ⟨32, 0, 0⟩, .invalidSyncHeader 32 0, .prbsCheckerLocked ⟨32, 0, 0⟩,
    .prbsCheckerUnlock 32 0 0, .hostLinkUp 4, .counterWrap 64, .dataPathAcknowledge 256, .diagUnitEnableTimeout 256] : List Instr).all (fun i => !i.wf) = true := by decide

/-! ### Words and numbers of the spec -/

/-- Words laid out bit by bit from R381 and R383, and the two that R394's example gives. -/
theorem test_eddy_words :
    eddyDecode 5 0b0000001_000_00011_00010_00001_0000001 = some (.sub 5 1 2 3) ∧
    eddyDecode 5 0b0010000_000_11101_11110_11111_0000001 = some (.mulhu 5 31 30 29) ∧
    eddyDecode 5 0b111111111111111_00010_00001_0000010 = some (.addi 5 1 2 0x7FFF) ∧
    eddyDecode 5 0b000000000011111_00010_00001_0001000 = some (.srai 5 1 2 31) ∧
    eddyDecode 5 0b10000000000000000001_00001_0001011 = some (.lui 5 1 0x80001) ∧
    eddyDecode 5 0b11111111111111111111_00000_0001100 = some (.jal 5 0 0xFFFFF) ∧
    eddyDecode 5 0b100000000001_101_00011_00010_0001110 = some (.br 5 5 2 3 0x801) ∧
    eddyDecode 5 0b100000000001_000_00010_00001_0010000 = some (.lw 5 1 2 0x801) ∧
    eddyDecode 5 0b000000100000_111_00010_00001_0011001 = some (.vst 5 7 1 2 0x020) ∧
    eddyDecode 5 0b0000011_000_00011_00010_00001_0011011 = some (.aaddsW 5 1 2 3) := by decide

theorem test_eddy_vector_words :
    eddyDecode 5 0b0010100_110_00011_00010_00001_0100000 = some (.vabsdu 5 6 1 2 3) ∧
    eddyDecode 5 0b0000011_110_10000_00010_00001_0100001 = some (.vaddi 5 6 1 2 0x10) ∧
    eddyDecode 5 0b0000011_110_00000_00010_00001_0100010 = some (.vrsqrt 5 6 1 2) ∧
    eddyDecode 5 0b0000101_110_00011_00010_00100_0100100 = some (.vcmp 5 6 4 5 2 3) ∧
    eddyDecode 5 0b0000011_000_00011_00010_00001_0100101 = some (.pandn 5 1 2 3) ∧
    eddyDecode 5 0b0001101_110_00011_00010_00010_0101000 = some (.vmac 5 6 2 2 3 13) ∧
    eddyDecode 5 0b0000001_110_00101_00010_00011_0101010 = some (.aset 5 6 3 2 5 true) ∧
    eddyDecode 5 0b0000001_110_00101_00010_00001_0101011 = some (.vrnd 5 6 2 1 5 1) ∧
    eddyDecode 5 0b000000000001111_00000_00000_0111001 = some (.bar 5 15) ∧
    eddyDecode 5 0b000000000000101_00000_00001_0111011 = some (.csrr 5 1 5) ∧
    eddyDecode 5 0x02441_2B1 = some (.lut2 5 0 5 1 2 9 false) ∧
    eddyDecode 5 0x4286_3331 = some (.lut2 5 0 6 3 3 10 true) := by decide

/-- R382, R383: the all-zero word, an op the map does not list, fields that must be 0, and wait with mask 0. -/
theorem test_eddy_undefined :
    eddyDecode 5 0 = none ∧ eddyDecode 5 0x7F = none ∧ eddyDecode 5 0x0040_0001 = none ∧ eddyDecode 5 0x2200_0001 = none ∧
    eddyDecode 5 0x3A = none ∧ eddyDecode 5 0x0040_0006 = none ∧ eddyDecode 5 0x80000031 = none := by decide

/-- R487 and R466 give both checksums of the digits 1 to 9. -/
theorem test_checksums :
    crc32c [49, 50, 51, 52, 53, 54, 55, 56, 57] = 0xE3069283 ∧ crc16 [49, 50, 51, 52, 53, 54, 55, 56, 57] = 0x29B1 := by
  decide +kernel

/-- R244's example at 120,000 / 1,001 Hz: 10,010,000 ticks. -/
theorem test_frame_period : framePeriod { width := 3840, height := 2160, rateNum := 120000, rateDen := 1001, cells := 2, depth := 12 } =
    10010000 * 65536 := by decide

/-- R308's example: the front values over L = 33,100, with Q[10] = 32,451 and Q[11] = 32,420. -/
theorem test_split_front : ([16384, 9000, 2000].map (fun c => (frontChannel splitQ c 33100).1)) = [32439, 17819, 3960] := by
  decide +kernel

/-- R317's example. -/
theorem test_zone_filter : zoneFilter 0x1400 0x1000 0 30000 60000 = 58594 ∧ zoneFilter 0x1400 0x1000 0 56000 58594 = 65535 := by
  decide

/-- R345's example: linearisation, history and expansion of the green subpixel. -/
theorem test_drive : linearise (fun i => if i = 1113 then 38410 else 38436) 17819 = 38428 ∧ hist10 40225 = 629 ∧
    expand10 520 = 33312 ∧ riffle riffleSection 1 12 2 7201 4500 41135 = 2571 ∧ riffleM riffleSection 2 4 1 = 143 := by
  decide +kernel

/-- R394's example, two lookups. -/
theorem test_bilerp :
    bilerp (fun i j => if i = 19 then (if j = 16 then 40100 else 39500) else (if j = 16 then 42300 else 41700)) 40225 33312 11 = 41351 ∧
    bilerp (fun i j => if i = 8 then (if j = 8 then 12 else -20) else (if j = 8 then 40 else 8)) 33312 33312 12 = 12 := by
  decide

/-- R285's example: gain 2.0 on 65,535 over a knee of 0xC000. -/
theorem test_soft_clip : softClip 0xC000 131070 = 62805 := by decide

/-- R452's example: twelve words make one coded block of 24 bytes, with these codes. -/
theorem test_meander :
    let d := encodeBlock 1 ((List.range 12).map (· + 0x1000)) []
    d.1.length = 24 ∧ d.1.take 4 = [2, 1, 9, 0] ∧ (d.1.drop 8).take 9 = [0x80, 0x80, 0x08, 0x20, 0x58, 0xD0, 0xA0, 0x80, 0x80] ∧
      CdcDict.next d.2.1 = 264 := by decide +kernel

theorem test_meander_raw :
    let d := encodeBlock 1 [0x1000] []
    d.1.take 4 = [1, 1, 2, 0] ∧ d.1.drop 8 = [0, 0x10, 0, 0, 0, 0, 0, 0] ∧ d.2.1 = [] := by decide +kernel

/-- R560's example addresses. -/
theorem test_addresses : Reg.GTO_W2_E2 7 = 0x127C4 ∧ Reg.LANE_EQ 1 100 = 0x41014 := by decide

/-- R564's example of what m_config measures, HP2 holding mask 0x4309. -/
theorem test_config_measured :
    let s := wr (Reg.TOP_HOST_PERMm 2) 0x4309 State.reset
    ([0x1014, 0x15008, 0x18000, 0x18004].map (fun k => leBytes 4 (rd s k).toNat)).flatten ++
      ([0, 1, 2, 3].map (fun m => leBytes 2 (permMask s m))).flatten =
      ([0x60, 0xEA, 0, 0, 0xE8, 3, 0, 0, 0xF0, 5, 0, 8, 0, 0x20, 0, 2, 0xFF, 0x7F, 0, 0, 9, 0x43, 0, 0] : List Byte) := by
  decide +kernel

/-- R92 names SHAKE256; FIPS 202 gives it for the empty string (log entry on SHAKE256). -/
theorem test_shake256 : shake256 [] 8 = [0x46, 0xB9, 0xDD, 0x2B, 0x0B, 0xA8, 0x8D, 0x13] := by decide +kernel

/-- R184's polynomial: a lone 1 comes again 39 and 58 bits later, and the descrambler takes it out. -/
theorem test_scramble : (scramble 0 1).1 = BitVec.ofNat 64 (1 + 2 ^ 39 + 2 ^ 58) ∧ (descramble 0 (scramble 0 1).1).1 = 1 := by
  decide +kernel

/-! ### The hypotheses of the statements are met -/

theorem witness_StepRunsFront : ∃ (s : State) (c : Instr) (q : List Instr), s.pending = c :: q ∧ State.reset.pending = [] :=
  ⟨{ State.reset with pending := [.relock 127 [1]] }, .relock 127 [1], [], rfl, rfl⟩

theorem witness_ResetState : ∃ l a : Nat, l < 2 ∧ a < (if l = 0 then 32 else 128) ∧ l = 1 ∧ a = 127 := ⟨1, 127, by decide⟩

theorem witness_RegsStayCanonical : ∃ s t : State, RegsCanonical s ∧ step s = .next t ∧ s.pending ≠ [] := by
  refine ⟨{ State.reset with pending := [.relock 127 [1]] }, _, ?_, rfl, by decide⟩
  simp only [RegsCanonical]
  decide +kernel

theorem witness_FusesOnlyGrow : ∃ s t : State, FusesOnly s ∧ step s = .next t ∧ s.pending ≠ [] ∧
    s.sec.fuse = some (.revoke 3, 0, 0, 0) := by
  refine ⟨{ State.reset with
    pending := [.fuseProgrammingDone], fuses := { State.reset.fuses with slots := [(3, { state := 1 })] },
    sec := { State.reset.sec with fuse := some (.revoke 3, 0, 0, 0) } }, _, ⟨by decide +kernel, ?_⟩, rfl, by decide, rfl⟩
  intro _
  rfl

theorem witness_RegisterFile :
    (∃ (s : State) (k j : Nat), RegsCanonical s ∧ j ≠ k) ∧
    (∃ (s : State) (lo n lo' n' : _), RegsCanonical s ∧ lo + n ≤ 32 ∧ (lo' + n' ≤ lo ∨ lo + n ≤ lo')) ∧
    (∃ (v : Engine) (i j : BitVec 5), keysAbove 0 v.s = true ∧ i ≠ 0 ∧ j ≠ i) ∧
    (∃ (v : Engine) (i j : BitVec 3), keysAbove 0 v.p = true ∧ i ≠ 0 ∧ j ≠ i) ∧
    (∃ (v : Engine) (i j : BitVec 5), keysAbove 0 v.v = true ∧ j ≠ i) :=
  ⟨⟨State.reset, 0, 1, by simp only [RegsCanonical]; decide +kernel⟩,
    ⟨State.reset, 0, 4, 4, 0, by simp only [RegsCanonical]; decide +kernel⟩,
    ⟨(({} : Engine)), 1, 2, by decide +kernel⟩,
    ⟨(({} : Engine)), 1, 2, by decide +kernel⟩,
    ⟨(({} : Engine)), 1, 2, by decide +kernel⟩⟩

theorem witness_CounterWraps :
    (∃ (s : State) (n v : Nat), keysAbove 0 s.perf.ctrs = true ∧ (ctr s n).value < 2 ^ 48 ∧ (ctr s (n + 1)).value < 2 ^ 48 ∧
      v < 2 ^ 48 ∧ ctrChained s n = false ∧ (ctr s n).value + v < 2 ^ 48) ∧
    (∃ (s : State) (n v : Nat), keysAbove 0 s.perf.ctrs = true ∧ (ctr s n).value < 2 ^ 48 ∧ (ctr s (n + 1)).value < 2 ^ 48 ∧
      v < 2 ^ 48 ∧ ctrChained s n = false ∧ 2 ^ 48 ≤ (ctr s n).value + v ∧ RegsCanonical s) ∧
    (∃ (s : State) (n v : Nat), keysAbove 0 s.perf.ctrs = true ∧ (ctr s n).value < 2 ^ 48 ∧ (ctr s (n + 1)).value < 2 ^ 48 ∧
      v < 2 ^ 48 ∧ n % 2 = 0 ∧ ctrChained s n = true ∧ RegsCanonical s ∧
      rdB s (Reg.PERF_CTRn_CFG (n + 1)) Fld.PERF_CTRn_CFG_enable = true) ∧
    (∃ (s : State) (n v : Nat), keysAbove 0 s.perf.ctrs = true ∧ (ctr s n).value < 2 ^ 48 ∧ (ctr s (n + 1)).value < 2 ^ 48 ∧
      v < 2 ^ 48 ∧ n % 2 = 0 ∧ ctrChained s n = true ∧ RegsCanonical s ∧
      rdB s (Reg.PERF_CTRn_CFG (n + 1)) Fld.PERF_CTRn_CFG_enable = false) :=
  ⟨⟨State.reset, 0, 0, by decide +kernel⟩,
    ⟨(State.reset |> setCtr 63 { value := 2 ^ 48 - 1, ovf := 255 }), 63, 1, by simp only [RegsCanonical]; decide +kernel⟩,
    ⟨(State.reset |> wrF (Reg.PERF_CTRn_CFG (62 + 1)) Fld.PERF_CTRn_CFG_enable 1 |> setCtr 62 { value := 2 ^ 48 - 1 } |>
      setCtr 63 { value := 2 ^ 48 - 1 } |> wrF (Reg.PERF_CTRn_CFG 62) Fld.PERF_CTRn_CFG_chain 1 |>
      wrF (Reg.PERF_CTRn_CFG 63) Fld.PERF_CTRn_CFG_enable 1), 62, 1, by simp only [RegsCanonical]; decide +kernel⟩,
    ⟨(State.reset |> wrF (Reg.PERF_CTRn_CFG (62 + 1)) Fld.PERF_CTRn_CFG_enable 0 |> setCtr 62 { value := 2 ^ 48 - 1 } |>
      wrF (Reg.PERF_CTRn_CFG 62) Fld.PERF_CTRn_CFG_chain 1), 62, 1, by simp only [RegsCanonical]; decide +kernel⟩⟩

theorem witness_DescriptorLife :
    (∃ (s : State) (p n : Nat), 0 < cqFree s p n ∧ (cqOf s p n).held = []) ∧
    (∃ (s : State) (p n : Nat), cqFree s p n = 0 ∧ (cqOf s p n).stalled = true) ∧
    (∃ (s : State) (d : Dsc) (st f r e : _), e ∈ (complete d st f r s).host.inflight) ∧
    (∃ (s : State) (d : Dsc) (e : _), e ∈ s.host.inflight ∧ e.is d.port d.sq d.seq = false) ∧
    (∃ (s : State) (p q n op : Nat) (d : _), readyDsc s p q n op = some d) ∧
    (∃ (s : State) (p q n op : Nat) (d e : _), readyDsc s p q n op = some d ∧ e ∈ s.host.inflight ∧ e.port = p ∧ e.sq = q ∧
      e.seq < n) ∧
    (∃ (s : State) (p q n op : Nat), readyDsc s p q n op = none) :=
  ⟨⟨(State.reset |> wrF (Reg.CQn_CFG 0 0) (8, 5) 6), 0, 0, by decide +kernel⟩,
    ⟨(State.reset |> setCq 0 0 { stalled := true, unread := [0] }), 0, 0, by decide +kernel⟩,
    ⟨(State.reset |> sent { rawDsc 0 with seq := 1 }), (rawDsc 0), (.ok), 0, 0, ({ rawDsc 0 with seq := 1 }),
      by decide +kernel⟩,
    ⟨(State.reset |> sent { rawDsc 0 with seq := 1 }), (rawDsc 0), ({ rawDsc 0 with seq := 1 }), by decide +kernel⟩,
    ⟨(State.reset |> sent (rawDsc 0x0102) |> sent (rawDsc 0x0102)), 0, 0, 0, (0x0102), (rawDsc 0x0102), by decide +kernel⟩,
    ⟨(State.reset |> sent ({ rawDsc 0x0102 with seq := 1 }) |>
      (fun s => { s with host := { s.host with inflight := [{ rawDsc 0x0102 with phase := .running }, { rawDsc 0x0102 with seq := 1 }] } })),
      0, 0, 1, (0x0102), ({ rawDsc 0x0102 with seq := 1 }), ({ rawDsc 0x0102 with phase := .running }), by decide +kernel⟩,
    ⟨State.reset, 0, 0, 0, 0, by decide +kernel⟩⟩

theorem witness_EventRouting :
    (∃ (s : State) (e : EventRec) (p : _), passes s p e.severity = false) ∧
    (∃ (s : State) (e : EventRec) (p : _), passes s p e.severity = true ∧ (portOf s p).lostSince = 0 ∧ evqFree s p = 0) :=
  ⟨⟨(State.reset |> wrF (Reg.EVQ_FILTER 0) Fld.EVQ_FILTER_min_severity 1),
      ({ code := 0x0CF2, unit := 0x70, severity := 0, sfn := 0, time := {}, data := 0 }), 0, by decide +kernel⟩,
    ⟨State.reset, ({ code := 0x0CF2, unit := 0x70, severity := 0, sfn := 0, time := {}, data := 0 }), 0, by decide +kernel⟩⟩

theorem witness_RailsAndRestarts :
    (∃ (s : State), s.boot.phase = .held) ∧
    (∃ (s : State) (n m : _), n < 7 ∧ ulinear16 m = true ∧ s.boot.phase = .rail n ∧ (n = 0 → s.straps.sampled = true) ∧
      s.boot.board = false ∧ s.power.rails.contains (n + 1) = false) ∧
    (∃ (s : State) (m : _), ulinear16 m = true ∧ s.boot.phase = .rail 0 ∧ s.straps.sampled = false) ∧
    (∃ (s : State) (m : _), ulinear16 m = true ∧ s.boot.phase = .rail 7 ∧ s.boot.board = false) ∧
    (∃ (s : State) (x : Exit) (n r rest m : _), ulinear16 m = true ∧ (∀ k, s.boot.phase ≠ .rail k) ∧
      s.boot.phase ≠ .boardTest ∧ s.power.exit = some x ∧ x.rails = n :: r :: rest ∧ x.waiting = false ∧
      s.power.rails.contains r = false) ∧
    (∃ (s : State) (x : Exit) (n : _), (∀ k, s.boot.phase ≠ .rail k) ∧ s.boot.phase ≠ .boardTest ∧ s.power.exit = some x ∧
      x.rails.head? = some n ∧ x.waiting = false ∧ x.retried = false) ∧
    (∃ (s : State) (n : _), s.boot.phase = .rail n ∧ s.boot.retried = false) ∧
    (∃ (s : State) (n : _), s.boot.phase = .rail n ∧ s.boot.retried = true) ∧
    (∃ (s : State), s.boot.phase = .retryWait ∧ s.boot.retried = true ∧ s.boot.board = false ∧ s.power.rails = []) ∧
    (∃ (s : State) (a c : _), a < 4 ∧ c < 4 ∧ s.boot.phase = .straps ∧ s.straps.sampled = false ∧ s.boot.board = false ∧
      s.power.rails.contains 1 = false) ∧
    (∃ (s : State), s.boot.phase = .aonOff) ∧
    (∃ (s : State), s.boot.phase ≠ .aonOff) ∧
    (∃ (s : State), s.power.state = .off ∧ s.boot.phase ≠ .retryWait) ∧
    (∃ (s : State), s.power.state = .off) ∧
    (∃ (s : State), s.power.state = .run ∧ s.power.rails.contains 0 = true ∧ s.raster.driven = false) ∧
    (∃ (s : State), s.power.state = .run ∧ s.power.rails.contains 0 = true ∧ s.raster.driven = true) ∧
    (∃ (r : RailReport), ulinear16 r.voutMode = false) :=
  ⟨⟨(State.reset |> (fun s => { s with boot := { s.boot with phase := .held } })), by decide +kernel⟩,
    ⟨(State.reset |> (fun s => { s with boot := { s.boot with phase := .rail 6 } }) |>
      (fun s => { s with boot := { s.boot with board := false } })), 6, 0, by decide +kernel⟩,
    ⟨(State.reset |> (fun s => { s with boot := { s.boot with phase := .rail 0 } }) |>
      (fun s => { s with straps := { s.straps with sampled := false } })), 0, by decide +kernel⟩,
    ⟨(State.reset |> (fun s => { s with boot := { s.boot with phase := .rail 7 } }) |>
      (fun s => { s with boot := { s.boot with board := false } })), 0, by decide +kernel⟩,
    ⟨(State.reset |>
      (fun s => { s with power := { s.power with exit := some { from_ := .deep, wake := { source := 1 }, cause := 2, rails := [5, 6] } } })),
      ({ from_ := .deep, wake := { source := 1 }, cause := 2, rails := [5, 6] }), 5, 6, ([]), 31, by decide +kernel, nofun,
      by decide +kernel, by decide +kernel, by decide +kernel, by decide +kernel, by decide +kernel⟩,
    ⟨(State.reset |>
      (fun s => { s with power := { s.power with exit := some { from_ := .deep, wake := { source := 1 }, cause := 2, rails := [5, 6] } } })),
      ({ from_ := .deep, wake := { source := 1 }, cause := 2, rails := [5, 6] }), 5, nofun, by decide +kernel,
      by decide +kernel, by decide +kernel, by decide +kernel, by decide +kernel⟩,
    ⟨(State.reset |> (fun s => { s with boot := { s.boot with phase := .rail 0 } }) |>
      (fun s => { s with boot := { s.boot with retried := false } })), 0, by decide +kernel⟩,
    ⟨(State.reset |> (fun s => { s with boot := { s.boot with phase := .rail 0 } }) |>
      (fun s => { s with boot := { s.boot with retried := true } })), 0, by decide +kernel⟩,
    ⟨(State.reset |> (fun s => { s with boot := { s.boot with phase := .retryWait } }) |>
      (fun s => { s with boot := { s.boot with retried := true } }) |>
      (fun s => { s with boot := { s.boot with board := false } }) |>
      (fun s => { s with power := { s.power with rails := [] } })), by decide +kernel⟩,
    ⟨(State.reset |> (fun s => { s with boot := { s.boot with phase := .straps } }) |>
      (fun s => { s with straps := { s.straps with sampled := false } }) |>
      (fun s => { s with boot := { s.boot with board := false } })), 0, 0, by decide +kernel⟩,
    ⟨(State.reset |> (fun s => { s with boot := { s.boot with phase := .aonOff } })), by decide +kernel⟩,
    ⟨State.reset, by decide +kernel⟩,
    ⟨(State.reset |> (fun s => { s with power := { s.power with state := .off } })), by decide +kernel⟩,
    ⟨(State.reset |> (fun s => { s with power := { s.power with state := .off } }) |>
      (fun s => { s with power := { s.power with rails := [0] } })), by decide +kernel⟩,
    ⟨(State.reset |> (fun s => { s with power := { s.power with state := .run } }) |>
      (fun s => { s with raster := { s.raster with driven := false } }) |>
      (fun s => { s with power := { s.power with rails := [0] } })), by decide +kernel⟩,
    ⟨(State.reset |> (fun s => { s with power := { s.power with state := .run } }) |>
      (fun s => { s with raster := { s.raster with driven := true } }) |>
      (fun s => { s with power := { s.power with rails := [0] } })), by decide +kernel⟩,
    ⟨(⟨7, 64⟩), by decide +kernel⟩⟩

theorem witness_BootStages :
    (∃ (s : State), s.boot.phase = .rom) ∧
    (∃ (s : State) (r : _), s.boot.phase = .clear r) ∧
    (∃ (s : State), RegsCanonical s ∧ s.boot.phase = .rsvTrain false) ∧
    (∃ (s : State), s.boot.phase = .rsvTrain true) ∧
    (∃ (s : State), s.boot.phase = .lanes ∧ s.fault.recovering = none ∧ s.store.mounted = false ∧
      rdF s Reg.STP_STAT Fld.STP_STAT_reason = 0) ∧
    (∃ (s : State), s.boot.perstN = some false) ∧
    (∃ (s : State), s.boot.phase = .load ∧ s.boot.loadsDone = true ∧ rdB s Reg.BOOT_CTRL Fld.BOOT_CTRL_hold = false) ∧
    (∃ (s : State), s.boot.phase = .load ∧ s.boot.loadsDone = true ∧ rdB s Reg.BOOT_CTRL Fld.BOOT_CTRL_hold = true) ∧
    (∃ (s : State), s.boot.phase = .hold ∧ rd s Reg.BOOT_HOLD_LIMIT ≠ 0) ∧
    (∃ (s : State) (p : _), bootWrites s p = true ∧ s.boot.phase = .hold) ∧
    (∃ (s : State) (p : _) (v : Word) (el : _), bootWrites s p = true ∧ ready s = false ∧ el < v.toNat) :=
  ⟨⟨(State.reset |> (fun s => { s with boot := { s.boot with phase := .rom } })), by decide +kernel⟩,
    ⟨(State.reset |> (fun s => { s with boot := { s.boot with phase := .clear false } })), false, by decide +kernel⟩,
    ⟨(State.reset |> (fun s => { s with boot := { s.boot with phase := .rsvTrain false } })),
      by simp only [RegsCanonical]; decide +kernel⟩,
    ⟨(State.reset |> (fun s => { s with boot := { s.boot with phase := .rsvTrain true } })), by decide +kernel⟩,
    ⟨(State.reset |> (fun s => { s with boot := { s.boot with phase := .lanes } }) |>
      (fun s => { s with fault := { s.fault with recovering := none } }) |>
      (fun s => { s with store := { s.store with mounted := false } }) |> wrF Reg.STP_STAT Fld.STP_STAT_reason 0),
      by decide +kernel⟩,
    ⟨(State.reset |> (fun s => { s with boot := { s.boot with perstN := some false } })), by decide +kernel⟩,
    ⟨(State.reset |> (fun s => { s with boot := { s.boot with phase := .load } }) |>
      (fun s => { s with boot := { s.boot with loadsDone := true } }) |> wrF Reg.BOOT_CTRL Fld.BOOT_CTRL_hold 0),
      by decide +kernel⟩,
    ⟨(State.reset |> (fun s => { s with boot := { s.boot with phase := .load } }) |>
      (fun s => { s with boot := { s.boot with loadsDone := true } }) |> wrF Reg.BOOT_CTRL Fld.BOOT_CTRL_hold 1),
      by decide +kernel⟩,
    ⟨(State.reset |> (fun s => { s with boot := { s.boot with phase := .hold } })), by decide +kernel⟩,
    ⟨(State.reset |> linkUp |> (fun s => { s with boot := { s.boot with phase := .hold } }) |>
      (fun s => { s with boot := { s.boot with phase := .hold } })), 0, by decide +kernel⟩,
    ⟨(State.reset |> linkUp), 0, 1, 0, by decide +kernel⟩⟩

theorem witness_RecoveryStaging :
    (∃ (s : State) (p off : _), mayStage s p = true ∧ off % 4 = 0 ∧ off + 4 ≤ 2048 ∧
      rdF s Reg.BOOT_XFER_OFFSET Fld.BOOT_XFER_OFFSET_offset = 0) ∧
    (∃ (s : State) (p : _), RegsCanonical s ∧ mayStage s p = true) ∧
    (∃ (s : State), RegsCanonical s ∧ s.boot.phase = .recoveryWait ∧ rdB s Reg.BOOT_XFER_CTRL Fld.BOOT_XFER_CTRL_busy = true) ∧
    (∃ (s : State), s.boot.phase = .recoveryWait ∧ rdB s Reg.BOOT_XFER_CTRL Fld.BOOT_XFER_CTRL_busy = true ∧
      verifyImage s (stagedImage s) 1 slotRoom = .reject) ∧
    (∃ (s : State), s.boot.phase = .recoveryWait ∧ rdB s Reg.BOOT_XFER_CTRL Fld.BOOT_XFER_CTRL_busy = true ∧
      formatOk (stagedImage s) 1 = false) ∧
    (∃ (s : State) (p k : _), ownerWrites s p = true ∧ k % 65536 = 0x5A5A ∧ s.power.state ≠ .sleep) :=
  ⟨⟨(State.reset |> wrF Reg.BOOT_XFER_OFFSET Fld.BOOT_XFER_OFFSET_offset 0 |> linkUp |>
      (fun s => { s with boot := { s.boot with phase := .recoveryWait } })), 0, 2044, by decide +kernel⟩,
    ⟨(State.reset |> linkUp |> (fun s => { s with boot := { s.boot with phase := .recoveryWait } })), 0,
      by simp only [RegsCanonical]; decide +kernel⟩,
    ⟨(State.reset |> (fun s => { s with boot := { s.boot with phase := .recoveryWait } }) |>
      wrF Reg.BOOT_XFER_CTRL Fld.BOOT_XFER_CTRL_busy 1), by simp only [RegsCanonical]; decide +kernel⟩,
    ⟨(State.reset |> (fun s => { s with boot := { s.boot with phase := .recoveryWait } }) |>
      wrF Reg.BOOT_XFER_CTRL Fld.BOOT_XFER_CTRL_busy 1), by decide +kernel⟩,
    ⟨(State.reset |> (fun s => { s with boot := { s.boot with phase := .recoveryWait } }) |>
      wrF Reg.BOOT_XFER_CTRL Fld.BOOT_XFER_CTRL_busy 1), by decide +kernel⟩,
    ⟨(State.reset |> linkUp), 0, (0x5A5A), by decide +kernel⟩⟩

theorem witness_PowerStates :
    (∃ (s : State) (p q n d : _), readyDsc s p q n 0x0A01 = some d ∧ PState.ofCode (d.u8 16) ≠ .run) ∧
    (∃ (s : State) (k : _), bmcServed s = true ∧ (k = 2 ∨ k = 4)) ∧
    (∃ (s : State), ready s = true ∧ policyRuns s = true ∧ rdB s Reg.PWR_POLICY Fld.PWR_POLICY_idle_en = true ∧
      s.power.state = .run ∧ min 1000 (max 1 (rdF s Reg.PWR_POLICY Fld.PWR_POLICY_idle_frames)) ≤ s.power.static) ∧
    (∃ (s : State), ready s = true ∧ policyRuns s = true ∧ rdB s Reg.PWR_POLICY Fld.PWR_POLICY_sleep_en = true ∧
      rdB s Reg.HWL_STAT Fld.HWL_STAT_sleeping = true ∧ s.hold.play = none ∧ s.power.state = .run) ∧
    (∃ (s : State) (e : Entry) (u : _), s.power.entry = some e ∧ nextUnit s e = some u ∧ unitRefuses s e u = true) ∧
    (∃ (s : State) (e : Entry) (u : _), s.power.entry = some e ∧ nextUnit s e = some u ∧ unitRefuses s e u = false ∧
      unitStopped s u = true) ∧
    (∃ (s : State) (e : Entry), s.power.entry = some e ∧ nextUnit s e = some 0x14 ∧ s.store.shutting = true) ∧
    (∃ (s : State) (x : _), s.power.exit = some x ∧ x.rails = [] ∧ s.power.resetAtRun = false) ∧
    (∃ (s : State) (x : _), s.power.exit = some x ∧ x.rails = [] ∧ s.power.resetAtRun = true) :=
  ⟨⟨(State.reset |> sent (rawDsc 0x100000000000000000000000000000a01)), 0, 0, 0,
      (rawDsc 0x100000000000000000000000000000a01), by decide +kernel⟩,
    ⟨(State.reset |> (fun s => { s with boot := { s.boot with phase := .ready } })), 2, by decide +kernel⟩,
    ⟨(State.reset |> wrF Reg.BOOT_STATUS Fld.BOOT_STATUS_ready 1 |> wrF Reg.PWR_POLICY Fld.PWR_POLICY_idle_en 1 |>
      (fun s => { s with power := { s.power with state := .run } }) |>
      (fun s => { s with power := { s.power with static := 240 } })), by decide +kernel⟩,
    ⟨(State.reset |> wrF Reg.BOOT_STATUS Fld.BOOT_STATUS_ready 1 |> wrF Reg.PWR_POLICY Fld.PWR_POLICY_sleep_en 1 |>
      wrF Reg.HWL_STAT Fld.HWL_STAT_sleeping 1 |> (fun s => { s with hold := { s.hold with play := none } }) |>
      (fun s => { s with power := { s.power with state := .run } })), by decide +kernel⟩,
    ⟨(State.reset |>
      (fun s => { s with power := { s.power with entry := some ({ req := { target := .sleep, who := .mgmt }, from_ := .run, agreed := [] }) } }) |>
      (fun s => { s with tables := { s.tables with loads := [{ port := 0, sq := 0, seq := 0, opcode := 0x0301 }] } })),
      ({ req := { target := .sleep, who := .mgmt }, from_ := .run, agreed := [] }), (0x01), by decide +kernel⟩,
    ⟨(State.reset |>
      (fun s => { s with power := { s.power with entry := some ({ req := { target := .idle, who := .mgmt }, from_ := .run, agreed := [] }) } })),
      ({ req := { target := .idle, who := .mgmt }, from_ := .run, agreed := [] }), (0x30), by decide +kernel⟩,
    ⟨(State.reset |>
      (fun s => { s with power := { s.power with entry := some ({ req := { target := .sleep, who := .mgmt }, from_ := .run, agreed := (List.range 256).filter (fun u => u != 0x14) }) } }) |>
      (fun s => { s with store := { s.store with shutting := true } }) |>
      (fun s => { s with store := { s.store with mounted := true } })),
      ({ req := { target := .sleep, who := .mgmt }, from_ := .run, agreed := (List.range 256).filter (fun u => u != 0x14) }),
      by decide +kernel⟩,
    ⟨(State.reset |>
      (fun s => { s with power := { s.power with exit := some ({ from_ := .sleep, wake := { source := 1 }, cause := 2 }) } }) |>
      (fun s => { s with power := { s.power with resetAtRun := false } })),
      ({ from_ := .sleep, wake := { source := 1 }, cause := 2 }), by decide +kernel⟩,
    ⟨(State.reset |>
      (fun s => { s with power := { s.power with exit := some ({ from_ := .sleep, wake := { source := 1 }, cause := 2 }) } }) |>
      (fun s => { s with power := { s.power with resetAtRun := true } })),
      ({ from_ := .sleep, wake := { source := 1 }, cause := 2 }), by decide +kernel⟩⟩

theorem witness_WakesRecognised :
    (∃ (s : State), s.power.state = .idle ∧ s.power.entry = none ∧ s.power.exit = none) ∧
    (∃ (s : State), s.power.state = .sleep ∧ s.power.entry = none ∧ s.power.exit = none ∧
      rdB s Reg.PWR_WAKE_CFG Fld.PWR_WAKE_CFG_sense_en = true) ∧
    (∃ (s : State) (p : _), s.power.state = .sleep ∧ s.power.entry = none ∧ s.power.exit = none ∧ portExists s p = true ∧
      bitAt (rdF s Reg.PWR_WAKE_CFG Fld.PWR_WAKE_CFG_link_en) p = true) ∧
    (∃ (s : State) (e : _), RegsCanonical s ∧ s.power.state = .run ∧ s.power.entry = some e ∧ e.wake = none) :=
  ⟨⟨(State.reset |> (fun s => { s with power := { s.power with state := .idle } }) |>
      (fun s => { s with power := { s.power with entry := none } }) |>
      (fun s => { s with power := { s.power with exit := none } })), by decide +kernel⟩,
    ⟨(State.reset |> (fun s => { s with power := { s.power with state := .sleep } }) |>
      (fun s => { s with power := { s.power with entry := none } }) |>
      (fun s => { s with power := { s.power with exit := none } }) |> wrF Reg.PWR_WAKE_CFG Fld.PWR_WAKE_CFG_sense_en 1),
      by decide +kernel⟩,
    ⟨(State.reset |> (fun s => { s with power := { s.power with state := .sleep } }) |>
      (fun s => { s with power := { s.power with entry := none } }) |>
      (fun s => { s with power := { s.power with exit := none } })), 0, by decide +kernel⟩,
    ⟨(State.reset |> (fun s => { s with power := { s.power with state := .run } }) |>
      (fun s => { s with power := { s.power with entry := some ({ req := { target := .idle, who := .mgmt }, from_ := .run, agreed := [] }) } })),
      ({ req := { target := .idle, who := .mgmt }, from_ := .run, agreed := [] }),
      by simp only [RegsCanonical]; decide +kernel⟩⟩

theorem witness_PowerUpkeep :
    (∃ (s : State) (p q n d : _), readyDsc s p q n 0x0A02 = some d ∧ d.u8 16 < 4 ∧ d.u8 17 ≤ d.u8 18) ∧
    (∃ (s : State) (c : OpChange), s.power.change = some c ∧ s.power.entry = none ∧ c.domain = 4 ∧ c.target ≤ opOf s 4) ∧
    (∃ (s : State) (c : OpChange), s.power.change = some c ∧ s.power.entry = none ∧ c.domain < 4 ∧
      c.target ≤ opOf s c.domain) ∧
    (∃ (s : State) (c : OpChange), s.power.change = some c ∧ rdB s Reg.PWR_OP_CFG Fld.PWR_OP_CFG_vgood_mode = true ∧
      opOf s c.domain < c.target) ∧
    (∃ (s : State) (n v i : _), RegsCanonical s ∧ panelPowered s = true ∧ s.power.rails = [n] ∧ n < 8 ∧ v < 4096 ∧ i < 4096) ∧
    (∃ (s : State) (n w : _), s.power.rails = [n] ∧ n < 8 ∧ w ≠ 0 ∧ bitAt w 6 = false) ∧
    (∃ (s : State) (n w : _), s.power.rails = [n] ∧ n < 8 ∧ bitAt w 6 = true) ∧
    (∃ (s : State), RegsCanonical s ∧ mgmtRuns s = true ∧ rdF s Reg.FAULT_CTRL Fld.FAULT_CTRL_warn = 0 ∧
      rdB s Reg.FAULT_STAT Fld.FAULT_STAT_thermal_capped = false) :=
  ⟨⟨(State.reset |> sent (rawDsc 0x5020300000000000000000000000000000a02)), 0, 0, 0,
      (rawDsc 0x5020300000000000000000000000000000a02), by decide +kernel⟩,
    ⟨(State.reset |> (fun s => { s with power := { s.power with change := some ({ domain := 4, target := 3 }) } }) |>
      (fun s => { s with power := { s.power with entry := none } }) |>
      (fun s => { s with power := { s.power with op := [(4, 3)] } })), ({ domain := 4, target := 3 }), by decide +kernel⟩,
    ⟨(State.reset |> (fun s => { s with power := { s.power with change := some ({ domain := 3, target := 3 }) } }) |>
      (fun s => { s with power := { s.power with entry := none } }) |>
      (fun s => { s with power := { s.power with op := [(3, 4)] } })), ({ domain := 3, target := 3 }), by decide +kernel⟩,
    ⟨(State.reset |> (fun s => { s with power := { s.power with change := some ({ domain := 0, target := 3 }) } }) |>
      wrF Reg.PWR_OP_CFG Fld.PWR_OP_CFG_vgood_mode 1), ({ domain := 0, target := 3 }), by decide +kernel⟩,
    ⟨(State.reset |> (fun s => { s with power := { s.power with rails := [7] } })), 7, 4095, 4095,
      by simp only [RegsCanonical]; decide +kernel⟩,
    ⟨(State.reset |> (fun s => { s with power := { s.power with rails := [7] } })), 7, 1, by decide +kernel⟩,
    ⟨(State.reset |> (fun s => { s with power := { s.power with rails := [7] } })), 7, 64, by decide +kernel⟩,
    ⟨(State.reset |> (fun s => { s with boot := { s.boot with phase := .load } }) |>
      wrF Reg.FAULT_CTRL Fld.FAULT_CTRL_warn 0 |> wrF Reg.FAULT_STAT Fld.FAULT_STAT_thermal_capped 0),
      by simp only [RegsCanonical]; decide +kernel⟩⟩

theorem witness_FatalFaults :
    (∃ (s : State), s.power.rails ≠ []) ∧
    (∃ (s : State) (u : _), mgmtRuns s = true ∧ u ∈ [0x01, 0x30, 0x50, 0x60, 0x70, 0x20]) ∧
    (∃ (s : State) (u : _), mgmtRuns s = true ∧ (u = 1 ∨ u = 2)) ∧
    (∃ (s : State), s.power.rails ≠ [] ∧ s.power.state ≠ .off) ∧
    (∃ (s : State), s.boot.phase ≠ .stopped ∧ (∀ n, n < 8 → s.power.rails.contains n = true)) ∧
    (∃ (s : State), s.boot.phase = .stopped) ∧
    (∃ (s : State) (c u x : Nat), RegsCanonical s ∧ c < 256 ∧ u < 256 ∧ x < 65536 ∧ s.boot.phase ≠ .stopped) :=
  ⟨⟨(State.reset |> (fun s => { s with power := { s.power with rails := [0] } })), by decide +kernel⟩,
    ⟨(State.reset |> (fun s => { s with boot := { s.boot with phase := .load } })), (0x20), by decide +kernel⟩,
    ⟨(State.reset |> (fun s => { s with boot := { s.boot with phase := .load } })), 2, by decide +kernel⟩,
    ⟨(State.reset |> (fun s => { s with power := { s.power with rails := [0] } })), by decide +kernel⟩,
    ⟨(State.reset |> (fun s => { s with power := { s.power with rails := [7, 6, 5, 4, 3, 2, 1, 0] } })), by decide +kernel⟩,
    ⟨(State.reset |> (fun s => { s with boot := { s.boot with phase := .stopped } })), by decide +kernel⟩,
    ⟨State.reset, 0, 0, 0, by simp only [RegsCanonical]; decide +kernel⟩⟩

theorem witness_PortLinks :
    (∃ (s : State) (p : Nat) (u c : _), portExists s p = true ∧ inputsLive s = true ∧ (p = owner s ∧
      u = abortPort p none s ∨ p ≠ owner s ∧ u = s) ∧ c < 3) ∧
    (∃ (s : State) (p : Nat), portExists s p = true ∧ inputsLive s = false) ∧
    (∃ (s : State) (p : Nat), portExists s p = true ∧ s.boot.phase = .load ∧ s.power.state = .run ∧ (portOf s p).up = false) :=
  ⟨⟨(State.reset |> (fun s => { s with power := { s.power with rails := [0] } })), 3, _, 2, by decide +kernel,
      by decide +kernel, Or.inr ⟨by decide +kernel, rfl⟩, by decide +kernel⟩,
    ⟨State.reset, 0, by decide +kernel⟩,
    ⟨(State.reset |> (fun s => { s with boot := { s.boot with phase := .load } }) |>
      (fun s => { s with power := { s.power with state := .run } })), 0, by decide +kernel⟩⟩

theorem witness_DoorbellFetch :
    (∃ (s : State) (p : Nat), portWrites s p = true ∧ ready s = true ∧ (portOf s p).fetchBusy = true) ∧
    (∃ (s : State) (p : Nat), rdF s (Reg.PORT_POLL p) Fld.PORT_POLL_period_us ≠ 0 ∧ portWrites s p = true ∧ ready s = true ∧
      (portOf s p).fetchBusy = false) ∧
    (∃ (s : State) (p : Nat) (ws : List Word), ws.length = 18 ∧ (portOf s p).fetchBusy = true) ∧
    (∃ (s : State) (p : Nat) (n : _), mayFetch s p n = true) ∧
    (∃ (s : State) (p : Nat), hasWork s p (portOf s p).turn = true ∧ (portOf s p).inTurn < 16) ∧
    (∃ (s : State) (p : Nat) (i : _), 1 ≤ i ∧ i ≤ 8 ∧ (hasWork s p (portOf s p).turn = true → 16 ≤ (portOf s p).inTurn) ∧
      hasWork s p (((portOf s p).turn + i) % 8) = true ∧ (∀ j, 1 ≤ j → j < i →
      hasWork s p (((portOf s p).turn + j) % 8) = false)) :=
  ⟨⟨(State.reset |> linkUp |> wrF Reg.BOOT_STATUS Fld.BOOT_STATUS_ready 1 |> setPort 0 { up := true, fetchBusy := true }),
      0, by decide +kernel⟩,
    ⟨(State.reset |> wrF (Reg.PORT_POLL 0) Fld.PORT_POLL_period_us 1 |> linkUp |>
      wrF Reg.BOOT_STATUS Fld.BOOT_STATUS_ready 1), 0, by decide +kernel⟩,
    ⟨(State.reset |> setPort 0 { up := true, fetchBusy := true }), 0, (List.replicate 18 0), by decide +kernel⟩,
    ⟨(State.reset |> wrF Reg.BOOT_STATUS Fld.BOOT_STATUS_ready 1 |> linkUp |> wrF (Reg.SQn_CFG 0 7) (0, 1) 1 |>
      setSq 0 7 { waiting := 1 }), 0, 7, by decide +kernel⟩,
    ⟨(State.reset |> wrF Reg.BOOT_STATUS Fld.BOOT_STATUS_ready 1 |> linkUp |> wrF (Reg.SQn_CFG 0 7) (0, 1) 1 |>
      setSq 0 7 { waiting := 1 } |> setPort 0 { up := true, turn := 7, inTurn := 15 }), 0, by decide +kernel⟩,
    ⟨(State.reset |> wrF Reg.BOOT_STATUS Fld.BOOT_STATUS_ready 1 |> linkUp |> wrF (Reg.SQn_CFG 0 7) (0, 1) 1 |>
      setSq 0 7 { waiting := 1 } |> setPort 0 { up := true, turn := 7, inTurn := 16 }), 0, 8, by decide +kernel⟩⟩

theorem witness_TailWords :
    (∃ (s : State) (p n t : Nat), ringOn s (Reg.SQn_CFG p n) = true ∧ (sqOf s p n).tail < ringSize s (Reg.SQn_CFG p n) ∧
      ringSize s (Reg.SQn_CFG p n) ≤ 65536 ∧ (sqOf s p n).gen < 65536 ∧ tabWf (fun _ => ({} : SqState)) s.host.sq = true ∧
      (sqOf s p n).tail < t ∧ t < ringSize s (Reg.SQn_CFG p n) ∧ t - (sqOf s p n).tail ≤ sqFree s p n) ∧
    (∃ (s : State) (p n t : Nat), ringOn s (Reg.SQn_CFG p n) = true ∧ (sqOf s p n).tail < ringSize s (Reg.SQn_CFG p n) ∧
      ringSize s (Reg.SQn_CFG p n) ≤ 65536 ∧ (sqOf s p n).gen < 65536 ∧ tabWf (fun _ => ({} : SqState)) s.host.sq = true ∧
      t < (sqOf s p n).tail ∧ t + ringSize s (Reg.SQn_CFG p n) - (sqOf s p n).tail ≤ sqFree s p n) ∧
    (∃ (s : State) (p n t : Nat), ringOn s (Reg.SQn_CFG p n) = true ∧ (sqOf s p n).tail < ringSize s (Reg.SQn_CFG p n) ∧
      ringSize s (Reg.SQn_CFG p n) ≤ 65536 ∧ (sqOf s p n).gen < 65536 ∧ tabWf (fun _ => ({} : SqState)) s.host.sq = true ∧
      (sqOf s p n).tail < t ∧ t < 65536 ∧ (ringSize s (Reg.SQn_CFG p n) ≤ t ∨ sqFree s p n < t - (sqOf s p n).tail)) :=
  ⟨⟨(State.reset |> wrF (Reg.SQn_CFG 0 0) (8, 5) 6 |> wrF (Reg.SQn_CFG 0 0) (0, 1) 1 |>
      setSq 0 0 { tail := 0, gen := 65535, outstanding := 1 }), 0, 0, 63, by decide +kernel⟩,
    ⟨(State.reset |> wrF (Reg.SQn_CFG 0 0) (8, 5) 6 |> wrF (Reg.SQn_CFG 0 0) (0, 1) 1 |>
      setSq 0 0 { tail := 63, gen := 65535, outstanding := 63 }), 0, 0, 0, by decide +kernel⟩,
    ⟨(State.reset |> wrF (Reg.SQn_CFG 0 0) (8, 5) 6 |> wrF (Reg.SQn_CFG 0 0) (0, 1) 1 |>
      setSq 0 0 { tail := 6, gen := 1, outstanding := 6 }), 0, 0, 65, by decide +kernel⟩⟩

theorem witness_RingSetup :
    (∃ (s : State) (p n : Nat) (v : Word), portWrites s p = true ∧ n < 8 ∧ ringOn s (Reg.SQn_CFG p n) = false ∧
      field v 0 1 = 1 ∧ 6 ≤ field v 8 5 ∧ field v 8 5 ≤ 16 ∧ field v 1 3 < 8 ∧ RegsCanonical s ∧
      ringOn s (Reg.CQn_CFG p (field v 1 3)) = true) ∧
    (∃ (s : State) (p n : Nat) (v : Word), portWrites s p = true ∧ n < 8 ∧ ringOn s (Reg.SQn_CFG p n) = true ∧
      field v 0 1 = 0) ∧
    (∃ (s : State) (p n : Nat) (v : Word), portWrites s p = true ∧ n < 8 ∧ ringOn s (Reg.SQn_CFG p n) = true ∧
      field v 0 1 = 0 ∧ s.host.inflight = [] ∧ s.host.groups = [] ∧ (∀ c, (cqOf s p c).held = []) ∧ RegsCanonical s ∧
      tabWf (fun _ => ({} : SqState)) s.host.sq = true) ∧
    (∃ (s : State) (p n : Nat) (v : Word), portWrites s p = true ∧ n < 8 ∧ ringOn s (Reg.CQn_CFG p n) = false ∧
      field v 0 1 = 1 ∧ 6 ≤ field v 8 5 ∧ field v 8 5 ≤ 16 ∧ RegsCanonical s) ∧
    (∃ (s : State) (p n : Nat) (v : Word), portWrites s p = true ∧ n < 8 ∧ ringOn s (Reg.CQn_CFG p n) = true ∧
      field v 0 1 = 0 ∧ cqNamed s p n = true ∧ RegsCanonical s) ∧
    (∃ (s : State) (p n : Nat) (v : Word), portWrites s p = true ∧ n < 8 ∧ ringOn s (Reg.EVQ_CFG p) = true ∧ field v 0 1 = 0) ∧
    (∃ (s : State) (p n : Nat), portWrites s p = true ∧ n < 8 ∧ rdF s (Reg.CQn_COALESCE p n) Fld.CQn_COALESCE_time_us ≠ 0 ∧
      (cqOf s p n).unsignalled ≠ 0 ∧ ringOn s (Reg.CQn_CFG p n) = true ∧ rdB s (Reg.CQn_CFG p n) Fld.CQn_CFG_irq_en = true) ∧
    (∃ (s : State) (p n : Nat), portWrites s p = true ∧ n < 8 ∧ rdF s (Reg.EVQ_COALESCE p) Fld.CQn_COALESCE_time_us ≠ 0 ∧
      (evqOf s p).unsignalled ≠ 0 ∧ ringOn s (Reg.EVQ_CFG p) = true ∧ rdB s (Reg.EVQ_CFG p) Fld.CQn_CFG_irq_en = true) :=
  ⟨⟨(State.reset |> linkUp |> wrF (Reg.CQn_CFG 0 7) (0, 1) 1), 0, 7, (0x60F), by simp only [RegsCanonical]; decide +kernel⟩,
    ⟨(State.reset |> linkUp |> wrF (Reg.SQn_CFG 0 0) (0, 1) 1), 0, 0, 0, by decide +kernel⟩,
    ⟨(State.reset |> linkUp |> wrF (Reg.SQn_CFG 0 7) (0, 1) 1), 0, 7, 0, by decide +kernel, by decide +kernel,
      by decide +kernel, by decide +kernel, rfl, rfl, fun _ => rfl, by simp only [RegsCanonical]; decide +kernel,
      by decide +kernel⟩,
    ⟨(State.reset |> linkUp), 0, 7, (0x1001), by simp only [RegsCanonical]; decide +kernel⟩,
    ⟨(State.reset |> linkUp |> wrF (Reg.CQn_CFG 0 0) (0, 1) 1 |> wrF (Reg.SQn_CFG 0 0) (0, 1) 1), 0, 0, 0,
      by simp only [RegsCanonical]; decide +kernel⟩,
    ⟨(State.reset |> linkUp |> wrF (Reg.EVQ_CFG 0) (0, 1) 1), 0, 0, 0, by decide +kernel⟩,
    ⟨(State.reset |> linkUp |> wrF (Reg.CQn_COALESCE 0 0) Fld.CQn_COALESCE_time_us 1 |>
      wrF (Reg.CQn_CFG 0 0) Fld.CQn_CFG_irq_en 1 |> wrF (Reg.CQn_CFG 0 0) (0, 1) 1 |> setCq 0 0 { unsignalled := 1 }), 0, 0,
      by decide +kernel⟩,
    ⟨(State.reset |> linkUp |> wrF (Reg.EVQ_COALESCE 0) Fld.CQn_COALESCE_time_us 1 |>
      wrF (Reg.EVQ_CFG 0) Fld.CQn_CFG_irq_en 1 |> wrF (Reg.EVQ_CFG 0) (0, 1) 1 |> setEvq 0 { unsignalled := 1 }), 0, 0,
      by decide +kernel⟩⟩

theorem witness_DirectWrites :
    (∃ (s : State) (p : Nat) (off : _), ownerWrites s p = false ∧ 0x11000 ≤ off ∧ off + 4 < 0x20000) ∧
    (∃ (s : State) (p : Nat) (v : Word), ownerWrites s p = true ∧ field v 0 2 = 1 ∧ field v 2 30 = 0) ∧
    (∃ (s : State) (p : Nat) (m : _) (v : Word), ownerWrites s p = true ∧ portExists s m = true ∧ m ≠ owner s ∧
      RegsCanonical s ∧ m < 4 ∧ rdF s (Reg.TOP_HOST_PERMm m) (0, 15) ≠ field v 0 15) ∧
    (∃ (s : State) (p : Nat) (m : _) (v : Word), ownerWrites s p = true ∧ portExists s m = true ∧ m ≠ owner s ∧
      RegsCanonical s ∧ m < 4 ∧ rdF s (Reg.TOP_HOST_PERMm m) (0, 15) = field v 0 15) ∧
    (∃ (s : State) (p : Nat) (v : Word) (pn : _), ownerWrites s p = true ∧ s.raster.panel = some pn ∧ s.raster.phase = .off ∧
      pn.height + rearLead s + 8 ≤ field v 0 14 ∧ field v 16 14 < field v 0 14 ∧
      min 400 (framePeriod pn / panelVtotal pn.height / 65536) ≤ framePeriod pn / field v 0 14 / 65536) ∧
    (∃ (s : State) (p : Nat), ownerWrites s p = true ∧ s.raster.panel = none) ∧
    (∃ (s : State) (p : Nat) (v : Word), ownerWrites s p = true ∧ field v 16 7 = rearLead s ∧ minLag s ≤ field v 0 11 ∧
      field v 0 11 ≤ 1024 ∧ RegsCanonical s ∧ s.power.entry = none ∧ s.power.state = .run) ∧
    (∃ (s : State) (p : Nat) (v : Word), ownerWrites s p = true ∧ timelineOk s (field v 1 1) (lagNow s) = false) ∧
    (∃ (s : State) (p : Nat) (v : Word), ownerWrites s p = true ∧ timelineOk s (field v 1 1) (lagNow s) = true ∧
      rasterOn s = false ∧ scanning s = false) ∧
    (∃ (s : State) (p : Nat) (v : Word), ownerWrites s p = true ∧ timelineOk s (field v 1 1) (lagNow s) = true ∧
      (rasterOn s = true ∨ scanning s = true) ∧ s.power.entry = none ∧ s.power.state = .run) ∧
    (∃ (s : State) (p : Nat) (v : Word) (pn : _), ownerWrites s p = true ∧ s.raster.panel = some pn ∧ s.raster.phase = .off ∧
      pn.width / 32 ≤ field v 16 9 ∧ field v 16 9 ≤ 480 ∧ pn.width % field v 16 9 = 0) ∧
    (∃ (s : State) (p : Nat), ownerWrites s p = true ∧ (∀ n, n < 128 → laneIs s 1 n Lane.off = true)) ∧
    (∃ (s : State) (p : Nat) (v : Word), ownerWrites s p = true ∧ s.raster.phase = .off ∧ field v 0 4 ≠ 15 ∧
      (field v 0 4 = 0 → (cellsNow s).contains 1 = false)) ∧
    (∃ (s : State) (p : Nat) (v : Word), ownerWrites s p = true ∧
      (s.raster.phase ≠ .off ∨ field v 0 4 = 15 ∨ field v 0 4 = 0 ∧ (cellsNow s).contains 1 = true)) ∧
    (∃ (s : State) (p : Nat), ownerWrites s p = true ∧ s.raster.phase ≠ .off) ∧
    (∃ (s : State) (p : Nat) (v : Word) (pn : _), ownerWrites s p = true ∧ s.raster.panel = some pn ∧ s.raster.phase = .off ∧
      ¬ (pn.height + rearLead s + 8 ≤ field v 0 14 ∧ field v 16 14 < field v 0 14 ∧
      min 400 (framePeriod pn / panelVtotal pn.height / 65536) ≤ framePeriod pn / field v 0 14 / 65536)) ∧
    (∃ (s : State) (p : Nat) (v : Word) (a b : _), ownerWrites s p = true ∧ a = writeRearLead (field v 16 7) s ∧
      b = (if minLag a ≤ field v 0 11 ∧ field v 0 11 ≤ 1024 then wrF Reg.RAST_LAG Fld.RAST_LAG_lag (field v 0 11) a else a)) ∧
    (∃ (s : State) (p : Nat), ownerWrites s p = true ∧ (s.raster.panel = none ∨ s.raster.phase ≠ .off)) ∧
    (∃ (s : State) (p : Nat) (v : Word) (pn : _), ownerWrites s p = true ∧ s.raster.panel = some pn ∧ s.raster.phase = .off ∧
      ¬ (pn.width / 32 ≤ field v 16 9 ∧ field v 16 9 ≤ 480 ∧ pn.width % field v 16 9 = 0)) ∧
    (∃ (off : Nat), off % 4 = 0) ∧
    (∃ (off : Nat), off % 8 = 0) ∧
    (∃ (off size : Nat), ¬ (size = 4 ∧ off % 4 = 0) ∧ ¬ (size = 8 ∧ off % 8 = 0)) ∧
    (∃ (s : State) (p off : Nat), portWrites s p = true ∧ off ≠ Reg.AON_STATUS ∧ windowKey p off ≠ off) ∧
    (∃ (s : State) (p off : Nat), portWrites s p = false ∧ (off = Reg.AON_STATUS ∨ windowKey p off ≠ off)) ∧
    (∃ (s : State) (p off : Nat) (v : Word), ownerWrites s p = true ∧ off ≠ Reg.AON_STATUS ∧ windowKey p off = off ∧
      (off / 0x1000 = 0x12 ∨ off / 0x1000 = 0x15 ∨ off / 0x1000 = 0x16 ∨ off / 0x1000 = 0x1F) ∧ v.toNat &&& w1cBits off ≠ 0) ∧
    (∃ (s : State) (p off : Nat) (v : Word), ownerWrites s p = true ∧ off ≠ Reg.AON_STATUS ∧ windowKey p off = off ∧
      (off / 0x1000 ≠ 0x12 ∧ off / 0x1000 ≠ 0x15 ∧ off / 0x1000 ≠ 0x16 ∧ off / 0x1000 ≠ 0x1F ∨ v.toNat &&& w1cBits off = 0)) ∧
    (∃ (s : State) (p off : Nat), ownerWrites s p = false ∧ off ≠ Reg.AON_STATUS ∧ windowKey p off = off) ∧
    (∃ (s : State) (p m : Nat), (ownerWrites s p = false ∨ portExists s m = false ∨ m = owner s)) :=
  ⟨⟨State.reset, 1, (0x1FFF8), by decide +kernel⟩,
    ⟨(State.reset |> linkUp), 0, 1, by decide +kernel⟩,
    ⟨(State.reset |> linkUp), 0, 3, 1, by simp only [RegsCanonical]; decide +kernel⟩,
    ⟨(State.reset |> linkUp), 0, 3, 0, by simp only [RegsCanonical]; decide +kernel⟩,
    ⟨(State.reset |> linkUp |>
      (fun s => { s with raster := { s.raster with panel := some ({ width := 3840, height := 2160, rateNum := 60, rateDen := 1, cells := 2, depth := 12 }) } }) |>
      (fun s => { s with raster := { s.raster with phase := .off } })), 0, (BitVec.ofNat 32 (2200 + 65536 * 2199)),
      ({ width := 3840, height := 2160, rateNum := 60, rateDen := 1, cells := 2, depth := 12 }), by decide +kernel⟩,
    ⟨(State.reset |> linkUp |> (fun s => { s with raster := { s.raster with panel := none } })), 0, by decide +kernel⟩,
    ⟨(State.reset |> linkUp |> (fun s => { s with power := { s.power with entry := none } }) |>
      (fun s => { s with power := { s.power with state := .run } })), 0, 1024, by simp only [RegsCanonical]; decide +kernel⟩,
    ⟨(State.reset |> linkUp |> wrF Reg.RAST_LAG Fld.RAST_LAG_lag 1025), 0, 0, by decide +kernel⟩,
    ⟨(State.reset |> linkUp), 0, 0, by decide +kernel⟩,
    ⟨(State.reset |> linkUp |> (fun s => { s with power := { s.power with entry := none } }) |>
      (fun s => { s with power := { s.power with state := .run } }) |> wrF Reg.RAST_LAG Fld.RAST_LAG_lag 48 |>
      wrF Reg.RAST_CTRL Fld.RAST_CTRL_enable 1), 0, 0, by decide +kernel⟩,
    ⟨(State.reset |> linkUp |>
      (fun s => { s with raster := { s.raster with panel := some ({ width := 3840, height := 2160, rateNum := 60, rateDen := 1, cells := 2, depth := 12 }) } }) |>
      (fun s => { s with raster := { s.raster with phase := .off } })), 0, (BitVec.ofNat 32 (480 * 65536)),
      ({ width := 3840, height := 2160, rateNum := 60, rateDen := 1, cells := 2, depth := 12 }), by decide +kernel⟩,
    ⟨(State.reset |> linkUp), 0, by decide +kernel⟩,
    ⟨(State.reset |> linkUp |> (fun s => { s with raster := { s.raster with phase := .off } })), 0, 1, by decide +kernel⟩,
    ⟨(State.reset |> linkUp), 0, 0, by decide +kernel⟩,
    ⟨(State.reset |> linkUp |> (fun s => { s with raster := { s.raster with phase := .running } })), 0, by decide +kernel⟩,
    ⟨(State.reset |> linkUp |>
      (fun s => { s with raster := { s.raster with panel := some ({ width := 3840, height := 2160, rateNum := 60, rateDen := 1, cells := 2, depth := 12 }) } }) |>
      (fun s => { s with raster := { s.raster with phase := .off } }) |>
      (fun s => { s with raster := { s.raster with panel := some { width := 3840, height := 2160, rateNum := 60, rateDen := 1, cells := 2, depth := 12 } } })),
      0, (BitVec.ofNat 32 (2167 + 65536 * 100)),
      ({ width := 3840, height := 2160, rateNum := 60, rateDen := 1, cells := 2, depth := 12 }), by decide +kernel⟩,
    ⟨(State.reset |> linkUp), 0, 0, _, _, by decide +kernel, rfl, rfl⟩,
    ⟨(State.reset |> linkUp), 0, by decide +kernel⟩,
    ⟨(State.reset |> linkUp |>
      (fun s => { s with raster := { s.raster with panel := some ({ width := 3840, height := 2160, rateNum := 60, rateDen := 1, cells := 2, depth := 12 }) } }) |>
      (fun s => { s with raster := { s.raster with phase := .off } }) |>
      (fun s => { s with raster := { s.raster with panel := some { width := 3840, height := 2160, rateNum := 60, rateDen := 1, cells := 2, depth := 12 } } })),
      0, (BitVec.ofNat 32 (481 * 65536)),
      ({ width := 3840, height := 2160, rateNum := 60, rateDen := 1, cells := 2, depth := 12 }), by decide +kernel⟩,
    ⟨0, by decide +kernel⟩,
    ⟨0, by decide +kernel⟩,
    ⟨0, 0, by decide +kernel⟩,
    ⟨(State.reset |> linkUp), 0, 0, by decide +kernel⟩,
    ⟨State.reset, 0, 0, by decide +kernel⟩,
    ⟨(State.reset |> linkUp), 0, (Reg.RAST_FLAGS), 1, by decide +kernel⟩,
    ⟨(State.reset |> linkUp), 0, (0x1F000), 0, by decide +kernel⟩,
    ⟨State.reset, 1, (0x1F000), by decide +kernel⟩,
    ⟨State.reset, 0, 0, by decide +kernel⟩⟩

theorem witness_CapturedReads :
    ∃ (s : State) (p : Nat) (r f : _), portWrites s p = true ∧ s.boot.lanesDone = true ∧ r < 48 ∧
      (rectOf s r).window.head? = some f :=
  ⟨(State.reset |> linkUp |> (fun s => { s with boot := { s.boot with lanesDone := true } }) |>
    setRect 47 { window := [(5, 6)] }), 0, 47, ((5, 6)), by decide +kernel⟩

theorem witness_BmcCommands :
    (∃ (s : State), bmcAnswers s = true) ∧
    (∃ (s : State) (f : _), f < 256 ∧ mgmtRuns s = true) ∧
    (∃ (s : State), mgmtRuns s = true ∧ s.store.mounted = false) ∧
    (∃ (s : State) (k : _), k < 256 ∧ mgmtRuns s = true ∧ s.fault.captured = true) ∧
    (∃ (s : State), s.bmc.smbus = false ∧ s.bmc.dynamic = none) ∧
    (∃ (s : State), s.bmc.smbus = true ∧ s.bmc.dynamic = none) :=
  ⟨⟨(State.reset |> (fun s => { s with boot := { s.boot with phase := .load } })), by decide +kernel⟩,
    ⟨(State.reset |> (fun s => { s with boot := { s.boot with phase := .load } })), 255, by decide +kernel⟩,
    ⟨(State.reset |> (fun s => { s with boot := { s.boot with phase := .load } }) |>
      (fun s => { s with store := { s.store with mounted := false } })), by decide +kernel⟩,
    ⟨(State.reset |> (fun s => { s with boot := { s.boot with phase := .load } }) |>
      (fun s => { s with fault := { s.fault with captured := true } })), 255, by decide +kernel⟩,
    ⟨(State.reset |> (fun s => { s with bmc := { s.bmc with smbus := false } }) |>
      (fun s => { s with bmc := { s.bmc with dynamic := none } })), by decide +kernel⟩,
    ⟨(State.reset |> (fun s => { s with bmc := { s.bmc with smbus := true } }) |>
      (fun s => { s with bmc := { s.bmc with dynamic := none } })), by decide +kernel⟩⟩

theorem witness_UnitStates :
    (∃ (s : State) (u n : _), tabGet (fun _ => 0) s.fault.dataPath u = n + 1) ∧
    (∃ (s : State) (p q n d : _), readyDsc s p q n 0x0E03 = some d ∧ fenceable (d.u8 16) = true ∧
      lastOfRole s (d.u8 16) = false) ∧
    (∃ (s : State) (p q n d : _), readyDsc s p q n 0x0E03 = some d ∧ fenceable (d.u8 16) = true ∧
      lastOfRole s (d.u8 16) = true) ∧
    (∃ (s : State) (p q n d : _), readyDsc s p q n 0x0E02 = some d ∧ 0xC0 ≤ d.u8 16 ∧ fenceable (d.u8 16) = true ∧
      dataPathState s (d.u8 16) ≠ 4) ∧
    (∃ (s : State) (u w : _), u < 0xC0 ∧ s.fault.awaiting = [(u, true, w)]) ∧
    (∃ (s : State) (u w : _), s.fault.awaiting = [(u, false, w)]) ∧
    (∃ (s : State) (p q n d : _), readyDsc s p q n 0x0E01 = some d) :=
  ⟨⟨(State.reset |> (fun s => { s with fault := { s.fault with dataPath := [(0xDF, 3)] } })), (0xDF), 2, by decide +kernel⟩,
    ⟨(State.reset |> sent (rawDsc 0x4000000000000000000000000000000e03)), 0, 0, 0,
      (rawDsc 0x4000000000000000000000000000000e03), by decide +kernel⟩,
    ⟨(State.reset |> sent (rawDsc 0x4300000000000000000000000000000e03) |>
      (fun s => { s with raster := { s.raster with panel := some { width := 3840, height := 2160, rateNum := 60, rateDen := 1, cells := 2, depth := 12 } } }) |>
      wrF Reg.ENG_CTRL Fld.ENG_CTRL_rear_role 8), 0, 0, 0, (rawDsc 0x4300000000000000000000000000000e03), by decide +kernel⟩,
    ⟨(State.reset |> sent (rawDsc 0xdf00000000000000000000000000000e02)), 0, 0, 0,
      (rawDsc 0xdf00000000000000000000000000000e02), by decide +kernel⟩,
    ⟨(State.reset |> (fun s => { s with fault := { s.fault with awaiting := [(0x43, true, ((0, 0, 0)))] } }) |>
      (fun s => { s with fault := { s.fault with awaiting := [(0x43, true, 0, 0, 0)] } })), (0x43), ((0, 0, 0)),
      by decide +kernel⟩,
    ⟨(State.reset |> (fun s => { s with fault := { s.fault with awaiting := [(0x43, false, ((0, 0, 0)))] } }) |>
      (fun s => { s with fault := { s.fault with awaiting := [(0x43, false, 0, 0, 0)] } })), (0x43), ((0, 0, 0)),
      by decide +kernel⟩,
    ⟨(State.reset |> sent (rawDsc 0xe01)), 0, 0, 0, (rawDsc 0xe01), by decide +kernel⟩⟩

theorem witness_ScanOpcodes :
    (∃ (s u : State) (p q n : Nat) (d e : Dsc),
      e = { d with phase := .waiting, order := s.host.nextOrder, at_ := b2n (scanning s && decide (linesNow s ≤ s.raster.line)) } ∧
      u = idleTrigger (setDsc e { s with host := { s.host with nextOrder := s.host.nextOrder + 1 } }) ∧ rasterOn u = true ∧
      readyDsc s p q n 0x0102 = some d) ∧
    (∃ (s u : State) (p q n : Nat) (d e : Dsc),
      e = { d with phase := .waiting, order := s.host.nextOrder, at_ := b2n (scanning s && decide (linesNow s ≤ s.raster.line)) } ∧
      u = idleTrigger (setDsc e { s with host := { s.host with nextOrder := s.host.nextOrder + 1 } }) ∧ rasterOn u = true ∧
      readyDsc s p q n 0x0303 = some d) ∧
    (∃ (s u : State) (p q n : Nat) (d e : Dsc),
      e = { d with phase := .waiting, order := s.host.nextOrder, at_ := b2n (scanning s && decide (linesNow s ≤ s.raster.line)) } ∧
      u = idleTrigger (setDsc e { s with host := { s.host with nextOrder := s.host.nextOrder + 1 } }) ∧ rasterOn u = true ∧
      readyDsc s p q n 0x0502 = some d ∧ itemResident s (d.u32 16) = true ∧ rasterOn s = true) ∧
    (∃ (s u : State) (p q n : Nat) (d e : Dsc),
      e = { d with phase := .waiting, order := s.host.nextOrder, at_ := b2n (scanning s && decide (linesNow s ≤ s.raster.line)) } ∧
      u = idleTrigger (setDsc e { s with host := { s.host with nextOrder := s.host.nextOrder + 1 } }) ∧ rasterOn u = true ∧
      readyDsc s p q n 0x0503 = some d) ∧
    (∃ (s u : State) (p q n : Nat) (d e : Dsc),
      e = { d with phase := .waiting, order := s.host.nextOrder, at_ := b2n (scanning s && decide (linesNow s ≤ s.raster.line)) } ∧
      u = idleTrigger (setDsc e { s with host := { s.host with nextOrder := s.host.nextOrder + 1 } }) ∧ rasterOn u = true ∧
      readyDsc s p q n 0x0C01 = some d) ∧
    (∃ (s u : State) (p q n : Nat) (d e : Dsc),
      e = { d with phase := .waiting, order := s.host.nextOrder, at_ := b2n (scanning s && decide (linesNow s ≤ s.raster.line)) } ∧
      u = idleTrigger (setDsc e { s with host := { s.host with nextOrder := s.host.nextOrder + 1 } }) ∧ rasterOn u = true ∧
      readyDsc s p q n 0x0C02 = some d) ∧
    (∃ (s u : State) (p q n : Nat) (d e : Dsc),
      e = { d with phase := .waiting, order := s.host.nextOrder, at_ := b2n (scanning s && decide (linesNow s ≤ s.raster.line)) } ∧
      u = idleTrigger (setDsc e { s with host := { s.host with nextOrder := s.host.nextOrder + 1 } }) ∧ rasterOn u = true ∧
      readyDsc s p q n 0x0402 = some d ∧ d.u32 20 = 0) ∧
    (∃ (s u : State) (p q n : Nat) (d e : Dsc) (st : _),
      e = { d with phase := .waiting, order := s.host.nextOrder, at_ := b2n (scanning s && decide (linesNow s ≤ s.raster.line)) } ∧
      u = idleTrigger (setDsc e { s with host := { s.host with nextOrder := s.host.nextOrder + 1 } }) ∧ rasterOn u = false ∧
      u.raster.request = none ∧ s.host.inflight = [d] ∧ inputReady u e = true ∧ sFailure u e = none ∧ st = (if d.target ≠ 0 ∧
      d.target < sfn u then Status.late else Status.ok) ∧ readyDsc s p q n 0x0102 = some d) ∧
    (∃ (s u : State) (p q n : Nat) (d e : Dsc) (st : _),
      e = { d with phase := .waiting, order := s.host.nextOrder, at_ := b2n (scanning s && decide (linesNow s ≤ s.raster.line)) } ∧
      u = idleTrigger (setDsc e { s with host := { s.host with nextOrder := s.host.nextOrder + 1 } }) ∧ rasterOn u = false ∧
      u.raster.request = none ∧ s.host.inflight = [d] ∧ inputReady u e = true ∧ sFailure u e = none ∧ st = (if d.target ≠ 0 ∧
      d.target < sfn u then Status.late else Status.ok) ∧ readyDsc s p q n 0x0303 = some d) ∧
    (∃ (s u : State) (p q n : Nat) (d e : Dsc) (st : _),
      e = { d with phase := .waiting, order := s.host.nextOrder, at_ := b2n (scanning s && decide (linesNow s ≤ s.raster.line)) } ∧
      u = idleTrigger (setDsc e { s with host := { s.host with nextOrder := s.host.nextOrder + 1 } }) ∧ rasterOn u = false ∧
      u.raster.request = none ∧ s.host.inflight = [d] ∧ inputReady u e = true ∧ sFailure u e = none ∧ st = (if d.target ≠ 0 ∧
      d.target < sfn u then Status.late else Status.ok) ∧ readyDsc s p q n 0x0503 = some d) ∧
    (∃ (s u : State) (p q n : Nat) (d e : Dsc) (st : _),
      e = { d with phase := .waiting, order := s.host.nextOrder, at_ := b2n (scanning s && decide (linesNow s ≤ s.raster.line)) } ∧
      u = idleTrigger (setDsc e { s with host := { s.host with nextOrder := s.host.nextOrder + 1 } }) ∧ rasterOn u = false ∧
      u.raster.request = none ∧ s.host.inflight = [d] ∧ inputReady u e = true ∧ sFailure u e = none ∧ st = (if d.target ≠ 0 ∧
      d.target < sfn u then Status.late else Status.ok) ∧ readyDsc s p q n 0x0C01 = some d) ∧
    (∃ (s u : State) (p q n : Nat) (d e : Dsc) (st : _),
      e = { d with phase := .waiting, order := s.host.nextOrder, at_ := b2n (scanning s && decide (linesNow s ≤ s.raster.line)) } ∧
      u = idleTrigger (setDsc e { s with host := { s.host with nextOrder := s.host.nextOrder + 1 } }) ∧ rasterOn u = false ∧
      u.raster.request = none ∧ s.host.inflight = [d] ∧ inputReady u e = true ∧ sFailure u e = none ∧ st = (if d.target ≠ 0 ∧
      d.target < sfn u then Status.late else Status.ok) ∧ readyDsc s p q n 0x0C02 = some d ∧ lockState u ≠ 1 ∧
      RegsCanonical u) ∧
    (∃ (s u : State) (p q n : Nat) (d e : Dsc) (st : _),
      e = { d with phase := .waiting, order := s.host.nextOrder, at_ := b2n (scanning s && decide (linesNow s ≤ s.raster.line)) } ∧
      u = idleTrigger (setDsc e { s with host := { s.host with nextOrder := s.host.nextOrder + 1 } }) ∧ rasterOn u = false ∧
      u.raster.request = none ∧ s.host.inflight = [d] ∧ inputReady u e = true ∧ sFailure u e = none ∧ st = (if d.target ≠ 0 ∧
      d.target < sfn u then Status.late else Status.ok) ∧ readyDsc s p q n 0x0402 = some d ∧ d.u32 20 = 0) ∧
    (∃ (s u : State) (p q n : Nat) (d e : Dsc),
      e = { d with phase := .waiting, order := s.host.nextOrder, at_ := b2n (scanning s && decide (linesNow s ≤ s.raster.line)) } ∧
      u = idleTrigger (setDsc e { s with host := { s.host with nextOrder := s.host.nextOrder + 1 } }) ∧
      readyDsc s p q n 0x0502 = some d ∧ itemResident s (d.u32 16) = false) ∧
    (∃ (s u : State) (p q n : Nat) (d e : Dsc),
      e = { d with phase := .waiting, order := s.host.nextOrder, at_ := b2n (scanning s && decide (linesNow s ≤ s.raster.line)) } ∧
      u = idleTrigger (setDsc e { s with host := { s.host with nextOrder := s.host.nextOrder + 1 } }) ∧
      readyDsc s p q n 0x0402 = some d ∧ d.u32 20 ≠ 0) ∧
    (∃ (s u : State) (p q n : Nat) (d e : Dsc) (t : _),
      e = { d with phase := .waiting, order := s.host.nextOrder, at_ := b2n (scanning s && decide (linesNow s ≤ s.raster.line)) } ∧
      u = idleTrigger (setDsc e { s with host := { s.host with nextOrder := s.host.nextOrder + 1 } }) ∧
      readyDsc s p q n 0x0402 = some d ∧ d.u32 20 ≠ 0 ∧ allocTwice (bindTag s.host.nextOrder) (d.u32 20) s = some t) ∧
    (∃ (s : State) (d : Dsc), sFailure s d = none ∧ d.opcode = 0x0102 ∧ d.target = 0) ∧
    (∃ (s : State) (k : Nat) (d : Dsc), sFailure s d = none ∧ d.opcode = 0x0502 ∧ d.target ≠ 0 ∧ d.target < k) ∧
    (∃ (s : State) (d : Dsc), sFailure s d = none ∧ d.opcode = 0x0503 ∧ d.target = 0) ∧
    (∃ (s : State) (d : Dsc), sFailure s d = none ∧ d.opcode = 0x0C02 ∧ d.target = 0 ∧ lockState s ≠ 1 ∧ RegsCanonical s) ∧
    (∃ (s : State) (d : Dsc), sFailure s d = none ∧ d.opcode = 0x0C01 ∧ d.target = 0) :=
  ⟨⟨(State.reset |> sent (rawDsc 0x102) |> wrF Reg.RAST_CTRL Fld.RAST_CTRL_enable 1), _, 0, 0, 0, rawDsc 0x102, _, rfl, rfl,
      by decide +kernel, by decide +kernel⟩,
    ⟨(State.reset |> sent (rawDsc 0x303) |> wrF Reg.RAST_CTRL Fld.RAST_CTRL_enable 1), _, 0, 0, 0, rawDsc 0x303, _, rfl, rfl,
      by decide +kernel, by decide +kernel⟩,
    ⟨(State.reset |> sent (rawDsc 0x1000100000000000000000000000000000502) |> wrF Reg.RAST_CTRL Fld.RAST_CTRL_enable 1 |>
      (fun s => { s with hold := { s.hold with items := [(0x10001, some { width := 2, height := 2, rep := 1, frames := [[]] })] } })),
      _, 0, 0, 0, rawDsc 0x1000100000000000000000000000000000502, _, rfl, rfl, by decide +kernel, by decide +kernel,
      by decide +kernel, by decide +kernel⟩,
    ⟨(State.reset |> sent (rawDsc 0x503) |> wrF Reg.RAST_CTRL Fld.RAST_CTRL_enable 1), _, 0, 0, 0, rawDsc 0x503, _, rfl, rfl,
      by decide +kernel, by decide +kernel⟩,
    ⟨(State.reset |> sent (rawDsc 0xc01) |> wrF Reg.RAST_CTRL Fld.RAST_CTRL_enable 1), _, 0, 0, 0, rawDsc 0xc01, _, rfl, rfl,
      by decide +kernel, by decide +kernel⟩,
    ⟨(State.reset |> sent (rawDsc 0xc02) |> wrF Reg.RAST_CTRL Fld.RAST_CTRL_enable 1), _, 0, 0, 0, rawDsc 0xc02, _, rfl, rfl,
      by decide +kernel, by decide +kernel⟩,
    ⟨(State.reset |> sent (rawDsc 0x402) |> wrF Reg.RAST_CTRL Fld.RAST_CTRL_enable 1), _, 0, 0, 0, rawDsc 0x402, _, rfl, rfl,
      by decide +kernel, by decide +kernel, by decide +kernel⟩,
    ⟨(State.reset |> sent (rawDsc 0x30000000000000000000000000000000000102) |>
      (fun s => { s with host := { s.host with inflight := [(rawDsc 0x30000000000000000000000000000000000102)] } })), _, 0,
      0, 0, (rawDsc 0x30000000000000000000000000000000000102), _, _, rfl, rfl, by decide +kernel, by decide +kernel,
      by decide +kernel, by decide +kernel, by decide +kernel, rfl, by decide +kernel⟩,
    ⟨(State.reset |> sent (rawDsc 0x10f0000000000000000000000000000000000303) |>
      (fun s => { s with host := { s.host with inflight := [(rawDsc 0x10f0000000000000000000000000000000000303)] } }) |>
      (fun s => { s with tables := { s.tables with staged := [(0x10F00000, [1])] } })), _, 0, 0, 0,
      (rawDsc 0x10f0000000000000000000000000000000000303), _, _, rfl, rfl, by decide +kernel, by decide +kernel,
      by decide +kernel, by decide +kernel, by decide +kernel, rfl, by decide +kernel⟩,
    ⟨(State.reset |> sent (rawDsc 0x503) |> (fun s => { s with host := { s.host with inflight := [(rawDsc 0x503)] } })), _,
      0, 0, 0, (rawDsc 0x503), _, _, rfl, rfl, by decide +kernel, by decide +kernel, by decide +kernel, by decide +kernel,
      by decide +kernel, rfl, by decide +kernel⟩,
    ⟨(State.reset |> sent (rawDsc 0xc01) |> (fun s => { s with host := { s.host with inflight := [(rawDsc 0xc01)] } })), _,
      0, 0, 0, (rawDsc 0xc01), _, _, rfl, rfl, by decide +kernel, by decide +kernel, by decide +kernel, by decide +kernel,
      by decide +kernel, rfl, by decide +kernel⟩,
    ⟨(State.reset |> sent (rawDsc 0xc02) |> (fun s => { s with host := { s.host with inflight := [(rawDsc 0xc02)] } })), _,
      0, 0, 0, (rawDsc 0xc02), _, _, rfl, rfl, by decide +kernel, by decide +kernel, by decide +kernel, by decide +kernel,
      by decide +kernel, rfl, by decide +kernel, by decide +kernel, by simp only [RegsCanonical]; decide +kernel⟩,
    ⟨(State.reset |> sent (rawDsc 0x100000000000000000000000000000402) |>
      (fun s => { s with host := { s.host with inflight := [(rawDsc 0x100000000000000000000000000000402)] } })), _, 0, 0, 0,
      (rawDsc 0x100000000000000000000000000000402), _, _, rfl, rfl, by decide +kernel, by decide +kernel, by decide +kernel,
      by decide +kernel, by decide +kernel, rfl, by decide +kernel, by decide +kernel⟩,
    ⟨(State.reset |> sent (rawDsc 0x502)), _, 0, 0, 0, (rawDsc 0x502), _, rfl, rfl, by decide +kernel, by decide +kernel⟩,
    ⟨(State.reset |> sent (rawDsc 0x400000000000000000000000000000000000000402)), _, 0, 0, 0,
      (rawDsc 0x400000000000000000000000000000000000000402), _, rfl, rfl, by decide +kernel, by decide +kernel⟩,
    ⟨(State.reset |> sent (rawDsc 0x400000000000000000000000000000000000000402)), _, 0, 0, 0,
      (rawDsc 0x400000000000000000000000000000000000000402), _, _, rfl, rfl, by decide +kernel, by decide +kernel,
      (Option.some_get (by decide +kernel)).symm⟩,
    ⟨State.reset, (rawDsc (0x0102 + 48 * 2 ^ 144)), by decide +kernel⟩,
    ⟨(State.reset |>
      (fun s => { s with hold := { s.hold with items := [(0x10001, some { width := 2, height := 2, rep := 1, frames := [[]] })] } }) |>
      wrF Reg.RAST_CTRL Fld.RAST_CTRL_enable 1), 6, (rawDsc (0x0502 + 0x10001 * 2 ^ 128 + 5 * 2 ^ 64)), by decide +kernel⟩,
    ⟨State.reset, (rawDsc 0x503), by decide +kernel⟩,
    ⟨State.reset, (rawDsc 0xc02), by simp only [RegsCanonical]; decide +kernel⟩,
    ⟨State.reset, (rawDsc 0xc01), by decide +kernel⟩⟩

theorem witness_RasterSequence :
    (∃ (s : State) (p q n : Nat) (d : Dsc), readyDsc s p q n 0x0101 = some d ∧ s.raster.phase = .off ∧
      formatOkPanel (d.u16 16) (d.u16 18) (d.u32 20) (d.u32 24) = true) ∧
    (∃ (s : State) (p q n : Nat) (d : Dsc), readyDsc s p q n 0x0101 = some d ∧ s.raster.phase ≠ .off) ∧
    (∃ (s : State) (p q n : Nat) (d : Dsc), readyDsc s p q n 0x0105 = some d ∧ s.raster.phase = .running ∧
      rasterStopped s = false ∧ d.u8 16 = 0) ∧
    (∃ (s : State) (p q n : Nat) (d : Dsc), readyDsc s p q n 0x0105 = some d ∧ s.raster.phase = .off ∧
      rasterStopped s = false ∧ d.u8 16 = 1 ∧ rdB s Reg.BOOT_STATUS Fld.BOOT_STATUS_panel_blocked = false ∧
      rdB (checkRates s) Reg.SLK_STAT Fld.SLK_STAT_rate_ok = true) ∧
    (∃ (s : State) (p q n : Nat) (d : Dsc), readyDsc s p q n 0x0105 = some d ∧ s.raster.phase = .off ∧
      rasterStopped s = false ∧ d.u8 16 = 1 ∧ rdB s Reg.BOOT_STATUS Fld.BOOT_STATUS_panel_blocked = true) ∧
    (∃ (s : State) (k : _), s.raster.phase = .rising k ∧ k < 4 ∧ enableUsed s k = true) ∧
    (∃ (s : State), s.raster.phase = .rising 4) ∧
    (∃ (s : State) (k : _), s.raster.phase = .falling (k + 1) ∧ k < 3 ∧ s.raster.powered = [k + 1, k]) ∧
    (∃ (s : State) (p q n : Nat) (d : Dsc), readyDsc s p q n 0x0103 = some d ∧ d.u16 18 + d.u16 20 ≤ kindSize (d.u8 16) ∧
      portExists s (d.u8 17) = true ∧ (∀ k, k < d.u16 20 → resourceBusy s (d.u8 16) (k + d.u16 18) = false)) ∧
    (∃ (s : State) (p q n : Nat) (d : Dsc), readyDsc s p q n 0x0103 = some d ∧ kindSize (d.u8 16) < d.u16 18 + d.u16 20) :=
  ⟨⟨(State.reset |> sent (rawDsc 0xc02000000010000003c08700f0000000000000000000000000000000101) |>
      (fun s => { s with raster := { s.raster with phase := .off } })), 0, 0, 0,
      (rawDsc 0xc02000000010000003c08700f0000000000000000000000000000000101), by decide +kernel⟩,
    ⟨(State.reset |> sent (rawDsc 0x101) |> (fun s => { s with raster := { s.raster with phase := .running } })), 0, 0, 0,
      (rawDsc 0x101), by decide +kernel⟩,
    ⟨(State.reset |> sent (rawDsc 0x105) |> (fun s => { s with raster := { s.raster with phase := .running } })), 0, 0, 0,
      (rawDsc 0x105), by decide +kernel⟩,
    ⟨(State.reset |> sent (rawDsc 0x100000000000000000000000000000105) |>
      (fun s => { s with raster := { s.raster with phase := .off } }) |>
      wrF Reg.BOOT_STATUS Fld.BOOT_STATUS_panel_blocked 0), 0, 0, 0, (rawDsc 0x100000000000000000000000000000105),
      by decide +kernel⟩,
    ⟨(State.reset |> sent (rawDsc 0x100000000000000000000000000000105) |>
      (fun s => { s with raster := { s.raster with phase := .off } }) |>
      wrF Reg.BOOT_STATUS Fld.BOOT_STATUS_panel_blocked 1), 0, 0, 0, (rawDsc 0x100000000000000000000000000000105),
      by decide +kernel⟩,
    ⟨(State.reset |> (fun s => { s with raster := { s.raster with phase := .rising 3 } }) |>
      wrF (Reg.PNL_PWR_SEQk 3) Fld.PNL_PWR_SEQk_en 1), 3, by decide +kernel⟩,
    ⟨(State.reset |> (fun s => { s with raster := { s.raster with phase := .rising 4 } })), by decide +kernel⟩,
    ⟨(State.reset |> (fun s => { s with raster := { s.raster with phase := .falling (2 + 1) } }) |>
      (fun s => { s with raster := { s.raster with powered := [2 + 1, 2] } })), 2, by decide +kernel⟩,
    ⟨(State.reset |> sent (rawDsc 0x1002f000300000000000000000000000000000103)), 0, 0, 0,
      (rawDsc 0x1002f000300000000000000000000000000000103), by decide +kernel⟩,
    ⟨(State.reset |> sent (rawDsc 0x2ffff000000000000000000000000000000000103)), 0, 0, 0,
      (rawDsc 0x2ffff000000000000000000000000000000000103), by decide +kernel⟩⟩

theorem witness_GroupMembersArrive :
    (∃ (s : State) (p q n : Nat) (d : Dsc), readyDsc s p q n 0x0104 = some d) ∧
    (∃ (s : State) (p q n : Nat) (d : Dsc), readyDsc s p q n 0x0201 = some d ∧ d.u8 29 ≠ 4) ∧
    (∃ (s : State) (p q n : Nat) (d : Dsc) (t : _), readyDsc s p q n 0x0201 = some d ∧
      activeTable s (0x02F00000 + d.u8 16) = some t) ∧
    (∃ (s : State) (p q n : Nat) (d : Dsc), readyDsc s p q n 0x0201 = some d ∧ d.u8 29 = 4 ∧
      activeTable s (0x02F00000 + d.u8 16) = none) ∧
    (∃ (s : State) (p q n : Nat) (d : Dsc), readyDsc s p q n 0x0203 = some d ∧ d.u8 17 = 0) ∧
    (∃ (s : State) (p q n : Nat) (d : Dsc), readyDsc s p q n 0x0203 = some d ∧ (viewNow s).configured (d.u8 16) = true) ∧
    (∃ (s : State) (p q n : Nat) (d : Dsc), readyDsc s p q n 0x0203 = some d ∧ d.u8 17 = 1 ∧
      (viewNow s).configured (d.u8 16) = false ∧ pendingConfig s (d.u8 16) (memberCfn s d) = none) ∧
    (∃ (s : State) (p q n : Nat) (d : Dsc), readyDsc s p q n 0x0204 = some d) ∧
    (∃ (s : State) (p q n : Nat) (d : Dsc) (t : _), readyDsc s p q n 0x0302 = some d ∧ stagedTable s (d.u32 16) = some t) ∧
    (∃ (s : State) (p q n : Nat) (d : Dsc) (f w h : _), readyDsc s p q n 0x0202 = some d ∧
      flipSettings s (d.u8 16) (memberCfn s d) = some (2, f, w, h) ∧ flipBreach d f w h = none) ∧
    (∃ (s : State) (p q n : Nat) (d : Dsc) (k f w h o st : _), readyDsc s p q n 0x0202 = some d ∧
      flipSettings s (d.u8 16) (memberCfn s d) = some (k, f, w, h) ∧ flipBreach d f w h = some (o, st)) ∧
    (∃ (s : State) (p q n : Nat) (d : Dsc) (f w h t : _), readyDsc s p q n 0x0202 = some d ∧
      flipSettings s (d.u8 16) (memberCfn s d) = some (1, f, w, h) ∧ flipBreach d f w h = none ∧
      (layerOf (sweepFetches s) (d.u8 16)).fetching = none ∧
      alloc .layer (layerTag (d.u8 16) true) (versionBytes f w h) (sweepFetches s) = some t) ∧
    (∃ (s : State) (d : Dsc) (g : Group), dscOf s d.port d.sq d.seq = some d ∧ groupOf s d.group = some g ∧ g.closed = true ∧
      g.order = 0 ∧ g.port = d.port ∧ g.sq = d.sq ∧ g.members = [d.seq] ∧ g.target ≤ naturalCfn s) ∧
    (∃ (s : State) (d : Dsc) (g e m : _), groupOf s d.group = some g ∧ m ∈ g.members ∧ dscOf s g.port g.sq m = some e ∧
      e.is d.port d.sq d.seq = false ∧ e.phase ≠ .arrived) :=
  ⟨⟨(State.reset |> sent (rawDsc 0x104)), 0, 0, 0, (rawDsc 0x104), by decide +kernel⟩,
    ⟨(State.reset |> sent (rawDsc 0x201)), 0, 0, 0, (rawDsc 0x201), by decide +kernel⟩,
    ⟨(State.reset |> sent (rawDsc 0xf00000000000000000000000000000201) |>
      (fun s => { s with tables := { s.tables with active := [(0x02F0000F, [1])] } })), 0, 0, 0,
      (rawDsc 0xf00000000000000000000000000000201), ([1]), by decide +kernel, by decide +kernel⟩,
    ⟨(State.reset |> sent (rawDsc 0x40000000000000000000000000000000000000000000000000000000201)), 0, 0, 0,
      (rawDsc 0x40000000000000000000000000000000000000000000000000000000201), by decide +kernel⟩,
    ⟨(State.reset |> sent (rawDsc 0x203)), 0, 0, 0, (rawDsc 0x203), by decide +kernel⟩,
    ⟨(State.reset |> sent (rawDsc 0xf00000000000000000000000000000203) |> wrF (Reg.COMP_Ln_CFG 15) Fld.COMP_Ln_CFG_kind 1),
      0, 0, 0, (rawDsc 0xf00000000000000000000000000000203), by decide +kernel⟩,
    ⟨(State.reset |> sent (rawDsc 0x10000000000000000000000000000000203)), 0, 0, 0,
      (rawDsc 0x10000000000000000000000000000000203), by decide +kernel⟩,
    ⟨(State.reset |> sent (rawDsc 0x204)), 0, 0, 0, (rawDsc 0x204), by decide +kernel⟩,
    ⟨(State.reset |> sent (rawDsc 0x10f0000000000000000000000000000000000302) |>
      (fun s => { s with tables := { s.tables with staged := [(0x10F00000, [1])] } })), 0, 0, 0,
      (rawDsc 0x10f0000000000000000000000000000000000302), ([1]), by decide +kernel⟩,
    ⟨(State.reset |> sent (rawDsc 0x1000000010f00000000000000000000000000000202) |>
      wrF (Reg.COMP_Ln_CFG 15) Fld.COMP_Ln_CFG_format 64 |> wrF (Reg.COMP_Ln_CFG 15) Fld.COMP_Ln_CFG_kind 2 |>
      wrF (Reg.COMP_Ln_SIZE 15) Fld.COMP_Ln_SIZE_width 64 |> wrF (Reg.COMP_Ln_SIZE 15) Fld.COMP_Ln_SIZE_height 4), 0, 0, 0,
      (rawDsc 0x1000000010f00000000000000000000000000000202), 64, 64, 4, by decide +kernel⟩,
    ⟨(State.reset |> sent (rawDsc 0x40000010f00000000000000000000000000000202) |>
      wrF (Reg.COMP_Ln_CFG 15) Fld.COMP_Ln_CFG_format 64 |> wrF (Reg.COMP_Ln_CFG 15) Fld.COMP_Ln_CFG_kind 1 |>
      wrF (Reg.COMP_Ln_SIZE 15) Fld.COMP_Ln_SIZE_width 64 |> wrF (Reg.COMP_Ln_SIZE 15) Fld.COMP_Ln_SIZE_height 4), 0, 0, 0,
      (rawDsc 0x40000010f00000000000000000000000000000202), 1, 64, 64, 4, 20, (.badDescriptor), by decide +kernel⟩,
    ⟨(State.reset |> (fun _ => atFlip)), 0, 0, 0, (rawDsc (0x0202 + 15 * 2 ^ 128 + 1 * 2 ^ 136 + 256 * 2 ^ 160)), 64, 64, 4,
      ((alloc .layer (layerTag 15 true) (versionBytes 64 64 4) atFlip).getD State.reset), by decide +kernel⟩,
    ⟨(State.reset |> sent ({ rawDsc 0x0204 with group := 5 }) |>
      (fun s => { s with host := { s.host with groups := [{ id := 5, port := 0, sq := 0, target := 0, members := [0], closed := true }] } }) |>
      sent ({ rawDsc 0x0204 with group := 5 })), ({ rawDsc 0x0204 with group := 5 }),
      ({ id := 5, port := 0, sq := 0, target := 0, members := [0], closed := true }), by decide +kernel, by decide +kernel,
      by decide +kernel, by decide +kernel, by decide +kernel, by decide +kernel, by decide +kernel, by decide +kernel⟩,
    ⟨(State.reset |> sent ({ rawDsc 0x0204 with group := 5 }) |>
      (fun s => { s with host := { s.host with groups := [{ id := 5, port := 0, sq := 0, target := 0, members := [0, 1], closed := true }] } }) |>
      (fun s => { s with host := { s.host with inflight := [{ rawDsc 0x0204 with group := 5 }, { rawDsc 0x0204 with group := 5, seq := 1 }] } })),
      ({ rawDsc 0x0204 with group := 5 }), ({ id := 5, port := 0, sq := 0, target := 0, members := [0, 1], closed := true }),
      ({ rawDsc 0x0204 with group := 5, seq := 1 }), 1, by decide +kernel, by decide +kernel, by decide +kernel,
      by decide +kernel, by decide +kernel⟩⟩

theorem witness_TablesAndKernels :
    (∃ (s : State) (p q n : Nat) (d : Dsc), readyDsc s p q n 0x0301 = some d ∧ d.u8 16 = 0) ∧
    (∃ (s : State) (p q n : Nat) (d : Dsc), readyDsc s p q n 0x0401 = some d ∧ d.u8 16 = 0) ∧
    (∃ (s : State) (p q n : Nat) (d : Dsc), readyDsc s p q n 0x0401 = some d ∧ d.u8 16 ≠ 0 ∧ s.store.mounted = false) ∧
    (∃ (s : State) (p q n : Nat) (d : Dsc) (t : _), readyDsc s p q n 0x0304 = some d ∧ stagedTable s (d.u32 16) = some t ∧
      activationPending s (d.u32 16) = false) ∧
    (∃ (s : State) (p q n : Nat) (d : Dsc) (k : _), readyDsc s p q n 0x0403 = some d ∧ kernelOf s (d.u16 16) = some k ∧
      kernelUsed s (d.u16 16) = false) ∧
    (∃ (s : State) (p q n : Nat) (d : Dsc) (k : _), readyDsc s p q n 0x0403 = some d ∧ kernelOf s (d.u16 16) = some k ∧
      kernelUsed s (d.u16 16) = true) ∧
    (∃ (s : State) (p q n : Nat) (d : Dsc) (l : _) (bs : List Byte), loadOf s (p, q, n) = some l ∧ dscOf s p q n = some d ∧
      d.opcode ≠ 0x0402 ∧ d.u8 16 = 0 ∧ bs.length = d.u32 20) ∧
    (∃ (s : State) (p q n : Nat) (d : Dsc) (l : _), loadOf s (p, q, n) = some l ∧ dscOf s p q n = some d ∧
      d.opcode ≠ 0x0402 ∧ d.u8 16 = 0) :=
  ⟨⟨(State.reset |> sent (rawDsc 0x301)), 0, 0, 0, (rawDsc 0x301), by decide +kernel⟩,
    ⟨(State.reset |> sent (rawDsc 0x401)), 0, 0, 0, (rawDsc 0x401), by decide +kernel⟩,
    ⟨(State.reset |> sent (rawDsc 0x100000000000000000000000000000401) |>
      (fun s => { s with store := { s.store with mounted := false } })), 0, 0, 0,
      (rawDsc 0x100000000000000000000000000000401), by decide +kernel⟩,
    ⟨(State.reset |> sent (rawDsc 0x10f0000000000000000000000000000000000304) |>
      (fun s => { s with tables := { s.tables with staged := [(0x10F00000, [1])] } })), 0, 0, 0,
      (rawDsc 0x10f0000000000000000000000000000000000304), ([1]), by decide +kernel⟩,
    ⟨(State.reset |> sent (rawDsc 0x100000000000000000000000000000403) |>
      (fun s => { s with tables := { s.tables with kernels := [(1, some (kernel []))] } })), 0, 0, 0,
      (rawDsc 0x100000000000000000000000000000403), (kernel []), by decide +kernel⟩,
    ⟨(State.reset |> sent (rawDsc 0x100000000000000000000000000000403) |>
      (fun s => { s with tables := { s.tables with kernels := [(1, some (kernel []))] } }) |>
      (fun s => { s with tables := { s.tables with binds := [(1, { handle := 1 })] } })), 0, 0, 0,
      (rawDsc 0x100000000000000000000000000000403), (kernel []), by decide +kernel⟩,
    ⟨(State.reset |> sent (rawDsc (0x0301 + 2 * 2 ^ 160)) |>
      (fun s => { s with tables := { s.tables with loads := [{ port := 0, sq := 0, seq := 0, opcode := 0x0301 }] } })), 0, 0,
      0, (rawDsc (0x0301 + 2 * 2 ^ 160)), ({ port := 0, sq := 0, seq := 0, opcode := 0x0301 }), ([0, 0]), by decide +kernel⟩,
    ⟨(State.reset |> sent (rawDsc (0x0301 + 2 * 2 ^ 160)) |>
      (fun s => { s with tables := { s.tables with loads := [{ port := 0, sq := 0, seq := 0, opcode := 0x0301 }] } })), 0, 0,
      0, (rawDsc (0x0301 + 2 * 2 ^ 160)), ({ port := 0, sq := 0, seq := 0, opcode := 0x0301 }), by decide +kernel⟩⟩

theorem witness_HoldLibrary :
    (∃ (s : State) (p q n : Nat) (d : Dsc), readyDsc s p q n 0x0501 = some d ∧ itemResident s (d.u32 16) = true) ∧
    (∃ (s : State) (p q n : Nat) (d : Dsc), readyDsc s p q n 0x0501 = some d ∧ itemResident s (d.u32 16) = false ∧
      s.store.mounted = true ∧ stagingOf s (d.u32 16) = none ∧ itemNamed s (d.u32 16) = true) ∧
    (∃ (s : State) (p q n : Nat) (d : Dsc), readyDsc s p q n 0x0505 = some d ∧ itemPlays s (d.u32 16) = false ∧
      policyItem s ≠ d.u32 16) ∧
    (∃ (s : State) (p q n : Nat) (d : Dsc), readyDsc s p q n 0x0505 = some d ∧ itemPlays s (d.u32 16) = true) ∧
    (∃ (s : State) (p q n : Nat) (d : Dsc), readyDsc s p q n 0x0504 = some d ∧ d.u32 24 = 0) ∧
    (∃ (s : State) (i who : _), tabGet (fun _ => ([] : List Byte)) s.hold.read i ≠ [] ∧ stagingOf s i = some who ∧
      itemHeaderOk (tabGet (fun _ => ([] : List Byte)) s.hold.read i) = false) ∧
    (∃ (s : State) (i who : _) (b : List Byte) (fs : List (List Byte)) (t : _), tabGet (fun _ => ([] :
      List Byte)) s.hold.read i = b ∧ b ≠ [] ∧ stagingOf s i = some who ∧ itemHeaderOk b = true ∧
      alloc .hold (holdTag i) (6 * leAt b 6 2 * leAt b 8 2 * leAt b 12 4) s = some t ∧
      itemFrames b (leAt b 12 4) [] = some fs) :=
  ⟨⟨(State.reset |> sent (rawDsc 0x1000100000000000000000000000000000501) |>
      (fun s => { s with hold := { s.hold with items := [(0x10001, some { width := 2, height := 2, rep := 1, frames := [[]] })] } })),
      0, 0, 0, (rawDsc 0x1000100000000000000000000000000000501), by decide +kernel⟩,
    ⟨(State.reset |> sent (rawDsc 0x1000100000000000000000000000000000501) |>
      (fun s => { s with store := { s.store with mounted := true } }) |>
      (fun s => { s with store := { s.store with dir := [(1, { kind := 2, first := 64, count := 8, created := {} })] } })),
      0, 0, 0, (rawDsc 0x1000100000000000000000000000000000501), by decide +kernel⟩,
    ⟨(State.reset |> sent (rawDsc 0x1000100000000000000000000000000000505)), 0, 0, 0,
      (rawDsc 0x1000100000000000000000000000000000505), by decide +kernel⟩,
    ⟨(State.reset |> sent (rawDsc 0x1000100000000000000000000000000000505) |>
      (fun s => { s with hold := { s.hold with play := some { item := 0x10001, loop := true, x := 0, y := 0 } } })), 0, 0, 0,
      (rawDsc 0x1000100000000000000000000000000000505), by decide +kernel⟩,
    ⟨(State.reset |> sent (rawDsc 0x504)), 0, 0, 0, (rawDsc 0x504), by decide +kernel⟩,
    ⟨(State.reset |> (fun s => { s with hold := { s.hold with read := [(1, [0])] } }) |>
      (fun s => { s with hold := { s.hold with staging := [(1, [])] } })), 1, ([]), by decide +kernel⟩,
    ⟨itemRead, 1, [], item, [List.replicate 192 9], _, rfl, by decide +kernel, by decide +kernel, by decide +kernel,
      (Option.some_get itemRead_allocates).symm, by decide +kernel⟩⟩

theorem witness_StoreCommands :
    (∃ (s : State) (p q n : Nat) (d : Dsc), readyDsc s p q n 0x0601 = some d ∧ s.store.mounted = true ∧
      rangeIn s (d.u16 16) (d.u64 24) (d.u32 20) = true) ∧
    (∃ (s : State) (p q n : Nat) (d : Dsc), readyDsc s p q n 0x0601 = some d ∧ s.store.mounted = false) ∧
    (∃ (s : State) (p q n : Nat) (d : Dsc) (bs : List Byte), readyDsc s p q n 0x0602 = some d ∧ s.store.mounted = true ∧
      rangeIn s (d.u16 16) (d.u64 24) (d.u32 20) = true ∧ d.u16 16 ≠ 1 ∧ d.u16 16 ≠ 2 ∧ bs.length = d.u32 20 * 4096) ∧
    (∃ (s : State) (p q n : Nat) (d : Dsc), readyDsc s p q n 0x0602 = some d ∧ s.store.mounted = true ∧
      rangeIn s (d.u16 16) (d.u64 24) (d.u32 20) = true ∧ d.u16 16 = 1) ∧
    (∃ (s : State) (p q n : Nat) (d : Dsc), readyDsc s p q n 0x0603 = some d ∧ s.store.mounted = true ∧ d.u64 24 ≠ 0 ∧
      s.store.queued = []) ∧
    (∃ (s : State) (p q n : Nat) (d : Dsc), readyDsc s p q n 0x0604 = some d ∧ s.store.mounted = true ∧ s.store.queued = []) ∧
    (∃ (s : State) (p q n : Nat) (d : Dsc), readyDsc s p q n 0x0605 = some d ∧ s.store.mounted = true) ∧
    (∃ (s : State) (p q n : Nat) (d : Dsc), readyDsc s p q n 0x0E04 = some d ∧ s.store.mounted = true ∧ d.u16 28 ≠ 0 ∧
      logName s (d.u32 24) < logFirst s ∧
      logName s (d.u32 24) % logRecords + min (d.u16 28) (logFirst s - logName s (d.u32 24)) ≤ logRecords) ∧
    (∃ (s : State), s.store.mounted = true ∧ s.store.shutting = false ∧ s.store.logBuf ≠ [] ∧ s.store.nvme = []) :=
  ⟨⟨(State.reset |> sent (rawDsc 0x7000000010000000300000000000000000000000000000601) |>
      (fun s => { s with store := { s.store with mounted := true } }) |>
      (fun s => { s with store := { s.store with dir := [(3, { kind := 5, first := 64, count := 8, created := {} })] } })),
      0, 0, 0, (rawDsc 0x7000000010000000300000000000000000000000000000601), by decide +kernel⟩,
    ⟨(State.reset |> sent (rawDsc 0x601) |> (fun s => { s with store := { s.store with mounted := false } })), 0, 0, 0,
      (rawDsc 0x601), by decide +kernel⟩,
    ⟨(State.reset |> sent (rawDsc 0x7000000010000000300000000000000000000000000000602) |>
      (fun s => { s with store := { s.store with mounted := true } }) |>
      (fun s => { s with store := { s.store with dir := [(3, { kind := 5, first := 64, count := 8, created := {} })] } })),
      0, 0, 0, (rawDsc 0x7000000010000000300000000000000000000000000000602), (List.replicate 4096 0), by decide +kernel⟩,
    ⟨(State.reset |> sent (rawDsc 0x7000000010000000100000000000000000000000000000602) |>
      (fun s => { s with store := { s.store with mounted := true } }) |>
      (fun s => { s with store := { s.store with dir := [(1, { kind := 5, first := 64, count := 8, created := {} })] } })),
      0, 0, 0, (rawDsc 0x7000000010000000100000000000000000000000000000602), by decide +kernel⟩,
    ⟨(State.reset |> sent (rawDsc 0x1000000000000000000000000000000000000000000000603) |>
      (fun s => { s with store := { s.store with mounted := true } }) |>
      (fun s => { s with store := { s.store with queued := [] } })), 0, 0, 0,
      (rawDsc 0x1000000000000000000000000000000000000000000000603), by decide +kernel⟩,
    ⟨(State.reset |> sent (rawDsc 0x604) |> (fun s => { s with store := { s.store with mounted := true } }) |>
      (fun s => { s with store := { s.store with queued := [] } })), 0, 0, 0, (rawDsc 0x604), by decide +kernel⟩,
    ⟨(State.reset |> sent (rawDsc 0x605) |> (fun s => { s with store := { s.store with mounted := true } })), 0, 0, 0,
      (rawDsc 0x605), by decide +kernel⟩,
    ⟨(State.reset |> sent (rawDsc 0x100000000000000000000000000000000000000000000000000000e04) |>
      (fun s => { s with store := { s.store with mounted := true } }) |>
      (fun s => { s with store := { s.store with logNext := some 9 } })), 0, 0, 0,
      (rawDsc 0x100000000000000000000000000000000000000000000000000000e04), by decide +kernel⟩,
    ⟨(State.reset |> (fun s => { s with store := { s.store with mounted := true } }) |>
      (fun s => { s with store := { s.store with shutting := false } }) |>
      (fun s => { s with store := { s.store with nvme := [] } }) |>
      (fun s => { s with store := { s.store with logBuf := [{ code := 0x0CF2, unit := 0x70, severity := 0, sfn := 0, time := {}, data := 0 }] } })),
      by decide +kernel⟩⟩

theorem witness_StoreService :
    (∃ (s : State) (v w : _), s.boot.perstN = some true ∧ rdB s Reg.STP_STAT Fld.STP_STAT_link_up = false ∧ RegsCanonical s ∧
      v < 16 ∧ w < 16) ∧
    (∃ (s : State), mayMount s = true ∧ s.store.controller = false) ∧
    (∃ (s : State), s.boot.perstN = some true ∧ s.store.controller = false ∧ ready s = true ∧
      rdB s Reg.STP_STAT Fld.STP_STAT_link_up = false) ∧
    (∃ (s : State), mayMount s = true) ∧
    (∃ (s : State), rdB s Reg.STP_STAT Fld.STP_STAT_link_up = true ∧ s.store.mounted = true ∧ s.store.nvme = [] ∧
      s.store.queued = [] ∧ s.tables.loads = [] ∧ s.hold.staging = [] ∧ (∀ n, n < 8 → (cdcOf s n).job = none) ∧
      s.boot.phase = .ready) ∧
    (∃ (s : State) (i : _) (c : NvCmd) (bs : List Byte), cmdOf s i = some c ∧
      (c.queue = 0 ∨ c.op ≠ 2 ∨ bs.length = 4096 * c.lbas)) ∧
    (∃ (s : State) (i : _) (c : NvCmd) (st : _), cmdOf s i = some c ∧ st ≠ 0 ∧ c.tries < 2) ∧
    (∃ (s : State) (i : _) (c : NvCmd) (st : _), cmdOf s i = some c ∧ st ≠ 0 ∧ 2 ≤ c.tries) ∧
    (∃ (s : State) (i : _) (c : NvCmd), cmdOf s i = some c ∧ c.use ≠ .event) ∧
    (∃ (s : State) (i : _) (c : NvCmd), cmdOf s i = some c ∧ c.use = .event) ∧
    (∃ (s : State), s.store.shutting = true ∧ s.store.flushed = true ∧ s.store.shn = false ∧ s.store.nvme = []) :=
  ⟨⟨(State.reset |> (fun s => { s with boot := { s.boot with perstN := some true } }) |>
      wrF Reg.STP_STAT Fld.STP_STAT_link_up 0), 15, 15, by simp only [RegsCanonical]; decide +kernel⟩,
    ⟨(State.reset |> (fun s => { s with store := { s.store with controller := false } }) |>
      wrF Reg.STP_STAT Fld.STP_STAT_link_up 1), by decide +kernel⟩,
    ⟨(State.reset |> (fun s => { s with boot := { s.boot with perstN := some true } }) |>
      (fun s => { s with store := { s.store with controller := false } }) |> wrF Reg.BOOT_STATUS Fld.BOOT_STATUS_ready 1 |>
      wrF Reg.STP_STAT Fld.STP_STAT_link_up 0), by decide +kernel⟩,
    ⟨(State.reset |> wrF Reg.STP_STAT Fld.STP_STAT_link_up 1), by decide +kernel⟩,
    ⟨(State.reset |> wrF Reg.STP_STAT Fld.STP_STAT_link_up 1 |>
      (fun s => { s with store := { s.store with mounted := true } }) |>
      (fun s => { s with store := { s.store with nvme := [] } }) |>
      (fun s => { s with store := { s.store with queued := [] } }) |>
      (fun s => { s with tables := { s.tables with loads := [] } }) |>
      (fun s => { s with hold := { s.hold with staging := [] } }) |>
      (fun s => { s with boot := { s.boot with phase := .ready } })), by decide +kernel⟩,
    ⟨(State.reset |>
      (fun s => { s with store := { s.store with nvme := [{ cid := 9, queue := 1, op := 2, lba := 64, lbas := 1, data := [], tries := 0, use := .smart }] } })),
      9, ({ cid := 9, queue := 1, op := 2, lba := 64, lbas := 1, data := [], tries := 0, use := .smart }),
      (List.replicate 4096 0), by decide +kernel⟩,
    ⟨(State.reset |>
      (fun s => { s with store := { s.store with nvme := [{ cid := 9, queue := 1, op := 2, lba := 64, lbas := 1, data := [], tries := 1, use := .smart }] } })),
      9, ({ cid := 9, queue := 1, op := 2, lba := 64, lbas := 1, data := [], tries := 1, use := .smart }), 1,
      by decide +kernel⟩,
    ⟨(State.reset |>
      (fun s => { s with store := { s.store with nvme := [{ cid := 9, queue := 1, op := 2, lba := 64, lbas := 1, data := [], tries := 2, use := .smart }] } })),
      9, ({ cid := 9, queue := 1, op := 2, lba := 64, lbas := 1, data := [], tries := 2, use := .smart }), 1,
      by decide +kernel⟩,
    ⟨(State.reset |>
      (fun s => { s with store := { s.store with nvme := [{ cid := 9, queue := 1, op := 2, lba := 64, lbas := 1, data := [], tries := 2, use := .smart }] } })),
      9, ({ cid := 9, queue := 1, op := 2, lba := 64, lbas := 1, data := [], tries := 2, use := .smart }), by decide +kernel⟩,
    ⟨(State.reset |>
      (fun s => { s with store := { s.store with nvme := [{ cid := 9, queue := 0, op := 12, lba := 64, lbas := 0, data := [], tries := 0, use := .event }] } })),
      9, ({ cid := 9, queue := 0, op := 12, lba := 64, lbas := 0, data := [], tries := 0, use := .event }),
      by decide +kernel⟩,
    ⟨(State.reset |> (fun s => { s with store := { s.store with shutting := true } }) |>
      (fun s => { s with store := { s.store with flushed := true } }) |>
      (fun s => { s with store := { s.store with shn := false } }) |>
      (fun s => { s with store := { s.store with nvme := [] } })), by decide +kernel⟩⟩

theorem witness_CodecLanes :
    (∃ (s : State) (p q n : Nat) (d : Dsc), readyDsc s p q n 0x0701 = some d ∧ (cdcOf s (d.u8 16)).job = none ∧ d.u8 18 = 0) ∧
    (∃ (s : State) (p q n : Nat) (d : Dsc) (j : _), readyDsc s p q n 0x0701 = some d ∧ (cdcOf s (d.u8 16)).job = some j) ∧
    (∃ (s : State) (p q n : Nat) (d : Dsc), readyDsc s p q n 0x0702 = some d ∧ (cdcOf s (d.u8 16)).job = none) ∧
    (∃ (s : State) (p q n : Nat) (d : Dsc), readyDsc s p q n 0x0703 = some d) ∧
    (∃ (s : State) (l j : _) (bs : List Byte), (cdcOf s l).job = some j ∧ j.waiting = none ∧ j.store = false ∧
      j.decode = false ∧ bs.length = min 8192 (j.inLen - j.pos)) ∧
    (∃ (s : State) (l j : _) (bs : List Byte), (cdcOf s l).job = some j ∧ j.waiting = none ∧ j.store = false ∧
      j.decode = true ∧ bs.length = min 8200 (j.inLen - j.pos)) :=
  ⟨⟨(State.reset |> sent (rawDsc 0x701)), 0, 0, 0, (rawDsc 0x701), by decide +kernel⟩,
    ⟨(State.reset |> sent (rawDsc 0x700000000000000000000000000000701) |>
      (fun s => { s with cdc := [(7, { job := some { port := 0, sq := 0, seq := 0, decode := false, strict := false, store := false, inLen := 2, addr := 0, stride := 2 } })] })),
      0, 0, 0, (rawDsc 0x700000000000000000000000000000701),
      ({ port := 0, sq := 0, seq := 0, decode := false, strict := false, store := false, inLen := 2, addr := 0, stride := 2 }),
      by decide +kernel⟩,
    ⟨(State.reset |> sent (rawDsc 0x702)), 0, 0, 0, (rawDsc 0x702), by decide +kernel⟩,
    ⟨(State.reset |> sent (rawDsc 0x703)), 0, 0, 0, (rawDsc 0x703), by decide +kernel⟩,
    ⟨(State.reset |>
      (fun s => { s with cdc := [(7, { job := some { port := 0, sq := 0, seq := 0, decode := false, strict := false, store := false, inLen := 2, addr := 0, stride := 2 } })] })),
      7,
      ({ port := 0, sq := 0, seq := 0, decode := false, strict := false, store := false, inLen := 2, addr := 0, stride := 2 }),
      ([1, 2]), by decide +kernel⟩,
    ⟨(State.reset |>
      (fun s => { s with cdc := [(7, { job := some { port := 0, sq := 0, seq := 0, decode := true, strict := false, store := false, inLen := 2, addr := 0, stride := 2 } })] })),
      7,
      ({ port := 0, sq := 0, seq := 0, decode := true, strict := false, store := false, inLen := 2, addr := 0, stride := 2 }),
      ([1, 2]), by decide +kernel⟩⟩

theorem witness_ConfidenceRectangles :
    (∃ (s : State) (p q n : Nat) (d : Dsc), readyDsc s p q n 0x0801 = some d ∧
      rectValid s (d.u8 16 / 16) (d.u8 17) (d.u16 20) (d.u16 22) (d.u16 24) (d.u16 26) = true) ∧
    (∃ (s : State) (p q n : Nat) (d : Dsc), readyDsc s p q n 0x0801 = some d ∧
      rectValid s (d.u8 16 / 16) (d.u8 17) (d.u16 20) (d.u16 22) (d.u16 24) (d.u16 26) = false) ∧
    (∃ (s : State) (p q n : Nat) (d : Dsc), readyDsc s p q n 0x0802 = some d ∧ d.u8 17 = 1) ∧
    (∃ (s : State) (p q n : Nat) (d : Dsc), readyDsc s p q n 0x0802 = some d ∧ d.u8 17 = 0 ∧ d.target = 0 ∧
      (rectOf s (d.u8 16)).waiting.length < 16) ∧
    (∃ (s : State) (p q n : Nat) (d : Dsc), readyDsc s p q n 0x0802 = some d ∧ d.u8 17 = 0 ∧ d.target = 0 ∧
      16 ≤ (rectOf s (d.u8 16)).waiting.length) ∧
    (∃ (s : State) (r : _), r < 32 ∧ rectOn s r = true) ∧
    (∃ (s : State) (r : _), 32 ≤ r ∧ r < 48 ∧ rectOn s r = true) :=
  ⟨⟨(State.reset |> sent (rawDsc 0x10001086f0eff0000002f00000000000000000000000000000801) |>
      (fun s => { s with raster := { s.raster with panel := some { width := 3840, height := 2160, rateNum := 60, rateDen := 1, cells := 2, depth := 12 } } })),
      0, 0, 0, (rawDsc 0x10001086f0eff0000002f00000000000000000000000000000801), by decide +kernel⟩,
    ⟨(State.reset |> sent (rawDsc 0x10002086f0eff0000002f00000000000000000000000000000801) |>
      (fun s => { s with raster := { s.raster with panel := some { width := 3840, height := 2160, rateNum := 60, rateDen := 1, cells := 2, depth := 12 } } })),
      0, 0, 0, (rawDsc 0x10002086f0eff0000002f00000000000000000000000000000801), by decide +kernel⟩,
    ⟨(State.reset |> sent (rawDsc 0x10000000000000000000000000000000802)), 0, 0, 0,
      (rawDsc 0x10000000000000000000000000000000802), by decide +kernel⟩,
    ⟨(State.reset |> sent (rawDsc 0x2f00000000000000000000000000000802) |>
      setRect 47 { waiting := List.replicate 15 { port := 0, sq := 0, seq := 0, frame := 0, crc := 0 } }), 0, 0, 0,
      (rawDsc 0x2f00000000000000000000000000000802), by decide +kernel⟩,
    ⟨(State.reset |> sent (rawDsc 0x2f00000000000000000000000000000802) |>
      setRect 47 { waiting := List.replicate 16 { port := 0, sq := 0, seq := 0, frame := 0, crc := 0 } }), 0, 0, 0,
      (rawDsc 0x2f00000000000000000000000000000802), by decide +kernel⟩,
    ⟨(State.reset |> wrF (Reg.CHK_Rr_CFG 31) Fld.CHK_Rr_CFG_enable 1), 31, by decide +kernel⟩,
    ⟨(State.reset |> wrF (Reg.CHK_Rr_CFG 32) Fld.CHK_Rr_CFG_enable 1), 32, by decide +kernel⟩⟩

theorem witness_CounterCommands :
    (∃ (s : State) (p q n : Nat) (d : Dsc) (k : _), readyDsc s p q n 0x0901 = some d ∧ bitAt (d.u8 17) 1 = false ∧
      ctrNow s (d.u8 16) + k < 2 ^ 48) ∧
    (∃ (s : State) (p q n : Nat) (d : Dsc) (k : _), readyDsc s p q n 0x0901 = some d ∧ bitAt (d.u8 17) 1 = false ∧
      ctrChained s (d.u8 16) = false ∧ rdB s (Reg.PERF_CTRn_CFG (d.u8 16)) Fld.PERF_CTRn_CFG_enable = true ∧
      rdB s (Reg.PERF_CTRn_CFG (d.u8 16)) Fld.PERF_CTRn_CFG_level = false ∧
      rdB s Reg.PERF_STAT Fld.PERF_STAT_frozen = false ∧ 2 ^ 48 ≤ ctrNow s (d.u8 16) + k) ∧
    (∃ (s : State) (p q n : Nat) (d : Dsc), readyDsc s p q n 0x0901 = some d ∧ bitAt (d.u8 17) 1 = true ∧ d.u8 16 % 2 = 1) ∧
    (∃ (s : State) (p q n : Nat) (d : Dsc), readyDsc s p q n 0x0902 = some d) ∧
    (∃ (s : State) (p q n : Nat) (d : Dsc), readyDsc s p q n 0x0903 = some d ∧ d.u8 16 = 0) ∧
    (∃ (s : State) (p q n : Nat) (d : Dsc), readyDsc s p q n 0x0903 = some d ∧ d.u8 16 = 1 ∧
      rdB s Reg.PERF_STAT Fld.PERF_STAT_frozen = true) ∧
    (∃ (s : State) (p q n : Nat) (d : Dsc) (u : _), readyDsc s p q n 0x0903 = some d ∧ d.u8 16 = 1 ∧
      rdB s Reg.PERF_STAT Fld.PERF_STAT_frozen = false ∧ (List.range 64).foldl holdCtr s = u) ∧
    (∃ (s : State) (p q n : Nat) (d : Dsc), readyDsc s p q n 0x0904 = some d) ∧
    (∃ (s : State) (m : _), m < 10 ∧ m ≠ 5 ∧ m ≠ 6 ∧ rdF s (Reg.PERF_BWm_CFG m) Fld.PERF_BWm_CFG_window_us ≠ 0) ∧
    (∃ (s : State) (m : _), (m = 64 ∨ m = 65) ∧ rdB s Reg.PERF_STAT Fld.PERF_STAT_frozen = false) ∧
    (∃ (s : State) (m : _), m < 64 ∧ rdF s (Reg.PERF_CTRn_CFG m) Fld.PERF_CTRn_CFG_event = 1 ∧
      rdB s (Reg.PERF_CTRn_CFG m) Fld.PERF_CTRn_CFG_level = true ∧ ctrOddHalf s m = false ∧
      rdB s Reg.PERF_STAT Fld.PERF_STAT_frozen = false ∧ rdB s (Reg.PERF_CTRn_CFG m) Fld.PERF_CTRn_CFG_enable = true) ∧
    (∃ (s : State) (p q n : Nat) (d : Dsc), readyDsc s p q n 0x0905 = some d ∧ d.u8 17 = 1) ∧
    (∃ (s : State) (m lo hi w : _), (m = 5 ∨ m = 6) ∧ w = rdF s (Reg.PERF_BWm_CFG m) Fld.PERF_BWm_CFG_window_us ∧ 2 ≤ w ∧
      lo % 64 = 0 ∧ hi % 64 = 0 ∧ lo ≤ hi) :=
  ⟨⟨(State.reset |> sent (rawDsc 0x901)), 0, 0, 0, (rawDsc 0x901), 0, by decide +kernel⟩,
    ⟨(State.reset |> sent (rawDsc 0x3f00000000000000000000000000000901) |>
      wrF (Reg.PERF_CTRn_CFG ((rawDsc 0x3f00000000000000000000000000000901).u8 16)) Fld.PERF_CTRn_CFG_enable 1 |>
      wrF (Reg.PERF_CTRn_CFG ((rawDsc 0x3f00000000000000000000000000000901).u8 16)) Fld.PERF_CTRn_CFG_level 0 |>
      wrF Reg.PERF_STAT Fld.PERF_STAT_frozen 0 |> setCtr 63 { value := 2 ^ 48 - 1 }), 0, 0, 0,
      (rawDsc 0x3f00000000000000000000000000000901), 1, by decide +kernel⟩,
    ⟨(State.reset |> sent (rawDsc 0x23f00000000000000000000000000000901)), 0, 0, 0,
      (rawDsc 0x23f00000000000000000000000000000901), by decide +kernel⟩,
    ⟨(State.reset |> sent (rawDsc 0x902)), 0, 0, 0, (rawDsc 0x902), by decide +kernel⟩,
    ⟨(State.reset |> sent (rawDsc 0x903)), 0, 0, 0, (rawDsc 0x903), by decide +kernel⟩,
    ⟨(State.reset |> sent (rawDsc 0x100000000000000000000000000000903) |> wrF Reg.PERF_STAT Fld.PERF_STAT_frozen 1), 0, 0, 0,
      (rawDsc 0x100000000000000000000000000000903), by decide +kernel⟩,
    ⟨(State.reset |> sent (rawDsc 0x100000000000000000000000000000903) |> wrF Reg.PERF_STAT Fld.PERF_STAT_frozen 0), 0, 0, 0,
      (rawDsc 0x100000000000000000000000000000903), _, by decide +kernel, by decide +kernel, by decide +kernel, rfl⟩,
    ⟨(State.reset |> sent (rawDsc 0x904)), 0, 0, 0, (rawDsc 0x904), by decide +kernel⟩,
    ⟨(State.reset |> wrF (Reg.PERF_BWm_CFG 9) Fld.PERF_BWm_CFG_window_us 1), 9, by decide +kernel⟩,
    ⟨(State.reset |> wrF Reg.PERF_STAT Fld.PERF_STAT_frozen 0), 64, by decide +kernel⟩,
    ⟨(State.reset |> wrF (Reg.PERF_CTRn_CFG 63) Fld.PERF_CTRn_CFG_event 1 |>
      wrF (Reg.PERF_CTRn_CFG 63) Fld.PERF_CTRn_CFG_level 1 |> wrF Reg.PERF_STAT Fld.PERF_STAT_frozen 0 |>
      wrF (Reg.PERF_CTRn_CFG 63) Fld.PERF_CTRn_CFG_enable 1), 63, by decide +kernel⟩,
    ⟨(State.reset |> sent (rawDsc 0x10000000000000000000000000000000905)), 0, 0, 0,
      (rawDsc 0x10000000000000000000000000000000905), by decide +kernel⟩,
    ⟨(State.reset |> wrF (Reg.PERF_BWm_CFG 5) Fld.PERF_BWm_CFG_window_us 2), 5, 64, 128, 2, by decide +kernel⟩⟩

theorem witness_SecurityCommands :
    (∃ (s : State) (p q n : Nat) (d : Dsc), readyDsc s p q n 0x0D01 = some d) ∧
    (∃ (s : State) (p q n : Nat) (d : Dsc), readyDsc s p q n 0x0D07 = some d) ∧
    (∃ (s : State) (p q n : Nat) (d : Dsc), readyDsc s p q n 0x0D02 = some d ∧ s.sec.challenge = none) ∧
    (∃ (s : State) (c : _), s.sec.challenge = some c) ∧
    (∃ (s : State) (p q n : Nat) (d : Dsc) (c : _), readyDsc s p q n 0x0D03 = some d ∧ s.sec.fuse = none ∧
      s.sec.challenge = some (d.port, c) ∧ 1 ≤ d.u8 16 ∧ slotState s (d.u8 16) = 0) ∧
    (∃ (s : State) (p q n : Nat) (d : Dsc), readyDsc s p q n 0x0D03 = some d ∧ s.sec.fuse = none ∧ s.sec.challenge = none) ∧
    (∃ (s : State) (p q n : Nat) (d : Dsc), readyDsc s p q n 0x0D04 = some d ∧ s.sec.fuse = none ∧ slotState s (d.u8 16) = 1) ∧
    (∃ (s : State) (p q n : Nat) (d : Dsc), readyDsc s p q n 0x0D04 = some d ∧ s.sec.fuse = none ∧ slotState s (d.u8 16) ≠ 1) ∧
    (∃ (s : State) (p q n : Nat) (d : Dsc), readyDsc s p q n 0x0D06 = some d ∧ s.sec.fuse = none ∧
      s.boot.running.advance = true ∧ s.fuses.minVersion < min s.boot.running.securityVersion 64) ∧
    (∃ (s : State) (p q n : Nat) (d : Dsc) (img : List Byte), readyDsc s p q n 0x0D05 = some d ∧ s.sec.flash = none ∧
      formatOk (img.take (d.u32 20)) 1 = false) ∧
    (∃ (s : State) (op w : _), s.sec.fuse = some (op, w)) ∧
    (∃ (s : State) (k i w : _), s.sec.flash = some (k, i, w)) ∧
    (∃ (s : State), mgmtRuns s = true ∧ s.sec.testMode = false) :=
  ⟨⟨(State.reset |> sent (rawDsc 0xd01)), 0, 0, 0, (rawDsc 0xd01), by decide +kernel⟩,
    ⟨(State.reset |> sent (rawDsc 0xd07)), 0, 0, 0, (rawDsc 0xd07), by decide +kernel⟩,
    ⟨(State.reset |> sent (rawDsc 0xd02) |> (fun s => { s with sec := { s.sec with challenge := none } })), 0, 0, 0,
      (rawDsc 0xd02), by decide +kernel⟩,
    ⟨(State.reset |> (fun s => { s with sec := { s.sec with challenge := some ((0, 0)) } })), ((0, 0)), by decide +kernel⟩,
    ⟨(State.reset |> sent (rawDsc 0x300000000000000000000000000000d03) |>
      (fun s => { s with sec := { s.sec with fuse := none } }) |>
      (fun s => { s with sec := { s.sec with challenge := some ((rawDsc 0x300000000000000000000000000000d03).port, 0) } }) |>
      (fun s => { s with sec := { s.sec with challenge := some (0, 0) } })), 0, 0, 0,
      (rawDsc 0x300000000000000000000000000000d03), 0, by decide +kernel⟩,
    ⟨(State.reset |> sent (rawDsc 0xd03) |> (fun s => { s with sec := { s.sec with fuse := none } }) |>
      (fun s => { s with sec := { s.sec with challenge := none } })), 0, 0, 0, (rawDsc 0xd03), by decide +kernel⟩,
    ⟨(State.reset |> sent (rawDsc 0x300000000000000000000000000000d04) |>
      (fun s => { s with sec := { s.sec with fuse := none } }) |>
      (fun s => { s with fuses := { s.fuses with slots := [(3, { state := 1 })] } })), 0, 0, 0,
      (rawDsc 0x300000000000000000000000000000d04), by decide +kernel⟩,
    ⟨(State.reset |> sent (rawDsc 0x300000000000000000000000000000d04) |>
      (fun s => { s with sec := { s.sec with fuse := none } })), 0, 0, 0, (rawDsc 0x300000000000000000000000000000d04),
      by decide +kernel⟩,
    ⟨(State.reset |> sent (rawDsc 0xd06) |> (fun s => { s with sec := { s.sec with fuse := none } }) |>
      (fun s => { s with boot := { s.boot with running := { s.boot.running with advance := true } } }) |>
      (fun s => { s with boot := { s.boot with running := { advance := true, securityVersion := 64 } } }) |>
      (fun s => { s with fuses := { s.fuses with minVersion := 63 } })), 0, 0, 0, (rawDsc 0xd06), by decide +kernel⟩,
    ⟨(State.reset |> sent (rawDsc 0xd05) |> (fun s => { s with sec := { s.sec with flash := none } })), 0, 0, 0,
      (rawDsc 0xd05), ([0]), by decide +kernel⟩,
    ⟨(State.reset |> (fun s => { s with sec := { s.sec with fuse := some ((.minimum 1), ((0, 0, 0))) } }) |>
      (fun s => { s with sec := { s.sec with fuse := some (.minimum 1, 0, 0, 0) } })), (.minimum 1), ((0, 0, 0)),
      by decide +kernel⟩,
    ⟨(State.reset |> (fun s => { s with sec := { s.sec with flash := some (1, ({}), ((0, 0, 0))) } }) |>
      (fun s => { s with sec := { s.sec with flash := some (1, {}, 0, 0, 0) } })), 1, ({}), ((0, 0, 0)), by decide +kernel⟩,
    ⟨(State.reset |> (fun s => { s with boot := { s.boot with phase := .load } }) |>
      (fun s => { s with sec := { s.sec with testMode := false } })), by decide +kernel⟩⟩

theorem witness_LaneCommands :
    (∃ (s : State) (p q n : Nat) (d : Dsc), readyDsc s p q n 0x0B01 = some d ∧ d.u8 16 = 0 ∧ d.u8 17 = 0 ∧
      trainMask d = [0] ∧ laneIs s 0 0 Lane.active = true ∧ (laneOf s 0 0).packet = none) ∧
    (∃ (s : State) (p q n : Nat) (d : Dsc), readyDsc s p q n 0x0B02 = some d ∧ activeVideo s (d.u8 16) (d.u8 17) = false ∧
      d.u8 16 = 0) ∧
    (∃ (s : State) (p q n : Nat) (d : Dsc), readyDsc s p q n 0x0B02 = some d ∧ activeVideo s (d.u8 16) (d.u8 17) = true) ∧
    (∃ (s : State) (p q n : Nat) (d : Dsc), readyDsc s p q n 0x0B03 = some d ∧
      resultBusy s (Reg.LANE_EYE_RESULT (d.u8 16) (d.u8 17)) = false) ∧
    (∃ (s : State) (p q n : Nat) (d : Dsc), readyDsc s p q n 0x0B03 = some d ∧
      resultBusy s (Reg.LANE_EYE_RESULT (d.u8 16) (d.u8 17)) = true) ∧
    (∃ (s : State) (p q n : Nat) (d : Dsc), readyDsc s p q n 0x0B04 = some d ∧ activeVideo s (d.u8 16) (d.u8 17) = false ∧
      d.u8 20 = 0) ∧
    (∃ (s : State) (p : Nat) (l a : _) (v : Word), ownerWrites s p = true ∧ laneEnabled s l a = true ∧
      laneEnabled (writeRw (Reg.LANE_CFG l a) v s) l a = false) ∧
    (∃ (s : State) (p : Nat) (l a : _) (v : Word) (u : _), ownerWrites s p = true ∧ laneEnabled s l a = false ∧
      laneEnabled (writeRw (Reg.LANE_CFG l a) v s) l a = true ∧ s.lanes.begun = true ∧
      wrF (Reg.LANE_ALIGN l a) Fld.LANE_ALIGN_position 0 (writeRw (Reg.LANE_CFG l a) v s) = u ∧ rateOk u l a = true) ∧
    (∃ (s : State) (p : Nat) (a : _) (v : Word), ownerWrites s p = true ∧ 1 ≤ field v 0 7 ∧ field v 0 7 ≤ 66 ∧
      activeVideo s 0 a = false) ∧
    (∃ (s : State) (p : Nat) (l a : _) (v : Word), ownerWrites s p = true ∧ field v 0 1 = 1 ∧
      resultBusy s (Reg.LANE_EYE_RESULT l a) = false) ∧
    (∃ (s : State) (p : Nat) (l a b k : _) (v : Word) (u : _), ownerWrites s p = true ∧ field v 0 2 = 1 ∧
      prbsAdvance l a b k s = u ∧ ownerWrites u p = true ∧ (laneOf u l a).inject = 0) ∧
    (∃ (s : State) (p : Nat) (l a b k : _) (v : Word) (u : _), ownerWrites s p = true ∧ field v 0 2 = 1 ∧
      prbsAdvance l a b k s = u ∧ ownerWrites u p = true ∧ (laneOf u l a).inject ≠ 0) ∧
    (∃ (s : State) (p : Nat) (l a b k u : _), prbsAdvance l a b k s = u ∧ portWrites u p = true ∧ u.boot.lanesDone = true) ∧
    (∃ (s : State) (a b g : _), laneIs s 1 a Lane.prbs = true ∧ b ≠ 0 ∧ s.raster.driven = true ∧
      generateBits (prbsPat s 1 a) b (laneOf s 1 a) = g) :=
  ⟨⟨(State.reset |> sent (rawDsc 0x1000000000000000000000000000000000000000000000b01) |>
      wrF (Reg.LANE_STAT 0 0) Fld.LANE_STAT_state Lane.active), 0, 0, 0,
      (rawDsc 0x1000000000000000000000000000000000000000000000b01), by decide +kernel⟩,
    ⟨(State.reset |> sent (rawDsc 0xb02)), 0, 0, 0, (rawDsc 0xb02), by decide +kernel⟩,
    ⟨(State.reset |> sent (rawDsc 0x7f0100000000000000000000000000000b02) |>
      wrF (Reg.LANE_STAT 1 127) Fld.LANE_STAT_state 5 |> wrF Reg.RAST_CTRL Fld.RAST_CTRL_enable 1), 0, 0, 0,
      (rawDsc 0x7f0100000000000000000000000000000b02), by decide +kernel⟩,
    ⟨(State.reset |> sent (rawDsc 0xb03)), 0, 0, 0, (rawDsc 0xb03), by decide +kernel⟩,
    ⟨(State.reset |> sent (rawDsc 0x7f0100000000000000000000000000000b03) |> wrF (Reg.LANE_EYE_RESULT 1 127) (9, 1) 1), 0, 0,
      0, (rawDsc 0x7f0100000000000000000000000000000b03), by decide +kernel⟩,
    ⟨(State.reset |> sent (rawDsc 0xb04)), 0, 0, 0, (rawDsc 0xb04), by decide +kernel⟩,
    ⟨(State.reset |> linkUp |> wrF (Reg.LANE_CFG 1 127) Fld.LANE_CFG_enable 1), 0, 1, 127, 0, by decide +kernel⟩,
    ⟨(State.reset |> linkUp |> (fun s => { s with lanes := { s.lanes with begun := true } })), 0, 1, 127, (128 * 65536 + 1),
      _, by decide +kernel, by decide +kernel, by decide +kernel, by decide +kernel, rfl, by decide +kernel⟩,
    ⟨(State.reset |> linkUp), 0, 31, 66, by decide +kernel⟩,
    ⟨(State.reset |> linkUp), 0, 0, 0, 1, by decide +kernel⟩,
    ⟨(State.reset |> linkUp |> wrF (Reg.LANE_STAT 0 31) Fld.LANE_STAT_state Lane.prbs), 0, 0, 31, 8, 255, 1, _,
      by decide +kernel, by decide +kernel, rfl, by decide +kernel, by decide +kernel⟩,
    ⟨(State.reset |> linkUp |> wrF (Reg.LANE_STAT 0 31) Fld.LANE_STAT_state Lane.prbs |> setLane 0 31 { inject := 9 }), 0, 0,
      31, 8, 255, 1, _, by decide +kernel, by decide +kernel, rfl, by decide +kernel, by decide +kernel⟩,
    ⟨(State.reset |> linkUp |> wrF (Reg.LANE_STAT 0 31) Fld.LANE_STAT_state Lane.prbs), 0, 0, 31, 8, 255, _, rfl,
      by decide +kernel, by decide +kernel⟩,
    ⟨(State.reset |> wrF (Reg.LANE_STAT 1 127) Fld.LANE_STAT_state Lane.prbs |>
      (fun s => { s with raster := { s.raster with driven := true } }) |>
      wrF (Reg.LANE_STAT 1 127) Fld.LANE_STAT_state Lane.prbs), 127, 8, _, by decide +kernel, by decide +kernel,
      by decide +kernel, rfl⟩⟩

theorem witness_LaneTraining :
    (∃ (s : State) (a : Nat), laneIs s 0 a Lane.detect = true ∧ (laneOf s 0 a).asleep = false ∧ RegsCanonical s) ∧
    (∃ (s : State) (a : Nat), laneIs s 0 a Lane.cdr = true) ∧
    (∃ (s : State) (a : Nat) (b : BitVec 66) (u v w : _), (headerOf b = 1 ∨ headerOf b = 2) ∧
      laneIs s 0 a Lane.align = true ∧ rdB s (Reg.LANE_CFG 0 a) Fld.LANE_CFG_polarity = false ∧
      setLane 0 a { laneOf s 0 a with scr := (descramble (laneOf s 0 a).scr (payloadOf b)).2 } s = w ∧
      (laneOf w 0 a).valid = 63 ∧
      setLane 0 a { laneOf w 0 a with invalid := ((laneOf w 0 a).invalid.map (· + 1)).filter (· < 64), valid := 64 } w = u ∧
      setLane 0 a { laneOf u 0 a with win := 0, sweep := [], good := 0, foms := [] } u = v) ∧
    (∃ (s : State) (a : Nat) (n bits t u : _), laneIs s 0 a Lane.fast = true ∧ t < n ∧ (∀ k, k < 64 →
      headerAt n bits (t + 66 * k) = true) ∧ (∀ t', t' < t → ∃ k, k < 64 ∧ headerAt n bits (t' + 66 * k) = false) ∧
      seedScrambler a (blocksAt n bits t) (setStat 0 a Fld.LANE_STAT_block_lock 1 (slip 0 a (t % 66) s)) = u) ∧
    (∃ (s : State) (a : Nat), laneIs s 0 a Lane.adapt = true ∧ statB s 0 a Fld.LANE_STAT_block_lock = true ∧
      4 ≤ (laneOf s 0 a).good) ∧
    (∃ (s : State) (a : Nat), laneIs s 0 a Lane.fast = true ∧ statB s 0 a Fld.LANE_STAT_block_lock = true ∧
      4 ≤ (laneOf s 0 a).good) ∧
    (∃ (s : State) (a : Nat) (st f c : _), laneIs s 1 a Lane.adapt = true ∧ 20 ≤ (laneOf s 1 a).sweep.length ∧
      crc8 [BitVec.ofNat 8 st, BitVec.ofNat 8 f] = c ∧ rdF s (Reg.LANE_ADAPT 1 a) Fld.LANE_ADAPT_fom_min ≤ f % 256) ∧
    (∃ (s : State) (a : Nat) (l : _), laneIs s l a Lane.detect = true) ∧
    (∃ (s : State) (a : Nat), laneIs s 0 a Lane.align = true ∧ rdB s (Reg.LANE_CFG 0 a) Fld.LANE_CFG_align_manual = false ∧
      (laneOf s 0 a).tried + 1 < 66) ∧
    (∃ (s : State) (a : Nat) (b : BitVec 66) (u w : _), (headerOf b = 0 ∨ headerOf b = 3) ∧
      notIdle a (abandonPacket a 3 s) = u ∧ rdB u (Reg.LANE_CFG 0 a) Fld.LANE_CFG_polarity = false ∧
      setLane 0 a { laneOf u 0 a with scr := (descramble (laneOf u 0 a).scr (payloadOf b)).2 } u = w ∧
      (laneOf w 0 a).invalid.length < 15) ∧
    (∃ (s : State) (a : Nat) (n bits c : _), laneIs s 0 a Lane.prbs = true ∧ n ≠ 0 ∧
      checkBits (prbsPat s 0 a) (prbsUser s 0 a) n (polarBits s 0 a n bits) { lane := laneOf s 0 a } = c ∧ c.drops = 0) ∧
    (∃ (s : State) (a : Nat) (n bits c : _), laneIs s 0 a Lane.prbs = true ∧ n ≠ 0 ∧
      rdB s (Reg.PRBS_STAT 0 a) Fld.PRBS_STAT_locked = true ∧
      checkBits (prbsPat s 0 a) (prbsUser s 0 a) n (polarBits s 0 a n bits) { lane := laneOf s 0 a } = c ∧ c.drops = 1) ∧
    (∃ (pat b : _) (c : Checked), c.lane.inject = 0 ∧ c.lane.prbsSeen = 128 ∧ b = prbsNext pat c.lane.prbsSeq) ∧
    (∃ (pat b : _) (c : Checked), c.lane.inject = 0 ∧ c.lane.prbsSeen = 128 ∧ b ≠ prbsNext pat c.lane.prbsSeq ∧
      c.lane.prbsErrs.length < 100) ∧
    (∃ (c : Checked), c.lane.inject = 0 ∧ c.lane.prbsSeen < 63) ∧
    (∃ (s : State) (a : Nat) (st f c : _), laneIs s 1 a Lane.adapt = true ∧ crc8 [BitVec.ofNat 8 st, BitVec.ofNat 8 f] ≠ c) ∧
    (∃ (s : State) (a : Nat), laneIs s 0 a Lane.detect = true ∧ (laneOf s 0 a).asleep = true ∧
      laneIs (startTraining 0 a 3 s) 0 a Lane.detect = true) :=
  ⟨⟨(State.reset |> wrF (Reg.LANE_STAT 0 0) Fld.LANE_STAT_state Lane.detect), 0,
      by simp only [RegsCanonical]; decide +kernel⟩,
    ⟨(State.reset |> wrF (Reg.LANE_STAT 0 0) Fld.LANE_STAT_state Lane.cdr), 0, by decide +kernel⟩,
    ⟨(State.reset |> wrF (Reg.LANE_STAT 0 31) Fld.LANE_STAT_state Lane.align |>
      wrF (Reg.LANE_CFG 0 31) Fld.LANE_CFG_polarity 0 |> wrF (Reg.LANE_STAT 0 31) Fld.LANE_STAT_state Lane.align |>
      setLane 0 31 { valid := 63 }), 31, 2, _, _, _, by decide +kernel, by decide +kernel, by decide +kernel, rfl,
      by decide +kernel, rfl, rfl⟩,
    ⟨(State.reset |> wrF (Reg.LANE_STAT 0 31) Fld.LANE_STAT_state Lane.fast |>
      wrF (Reg.LANE_STAT 0 31) Fld.LANE_STAT_state Lane.fast), 31, (66 * 64 + 2),
      (1 + ((List.range 64).map (fun k => 2 ^ (1 + 66 * k))).foldl (· + ·) 0), 1, _, by decide +kernel, by decide +kernel,
      by decide +kernel, by decide +kernel, rfl⟩,
    ⟨(State.reset |> wrF (Reg.LANE_STAT 0 31) Fld.LANE_STAT_state Lane.adapt |>
      wrF (Reg.LANE_STAT 0 31) Fld.LANE_STAT_block_lock 1 |> setLane 0 31 { good := 4 }), 31, by decide +kernel⟩,
    ⟨(State.reset |> wrF (Reg.LANE_STAT 0 31) Fld.LANE_STAT_state Lane.fast |>
      wrF (Reg.LANE_STAT 0 31) Fld.LANE_STAT_block_lock 1 |> setLane 0 31 { good := 4 }), 31, by decide +kernel⟩,
    ⟨(State.reset |> wrF (Reg.LANE_STAT 1 31) Fld.LANE_STAT_state Lane.adapt |>
      setLane 1 31 { sweep := List.replicate 20 0 }), 31, 3, 255, (crc8 [3, 255]), by decide +kernel⟩,
    ⟨(State.reset |> wrF (Reg.LANE_STAT 0 0) Fld.LANE_STAT_state Lane.detect), 0, 0, by decide +kernel⟩,
    ⟨(State.reset |> wrF (Reg.LANE_STAT 0 31) Fld.LANE_STAT_state Lane.align |>
      wrF (Reg.LANE_CFG 0 31) Fld.LANE_CFG_align_manual 0 |> setLane 0 31 { tried := 64 }), 31, by decide +kernel⟩,
    ⟨(State.reset |> setLane 0 31 { invalid := List.replicate 14 0 }), 31, 3, _, _, by decide +kernel, rfl,
      by decide +kernel, rfl, by decide +kernel⟩,
    ⟨(State.reset |> wrF (Reg.LANE_STAT 0 31) Fld.LANE_STAT_state Lane.prbs |>
      wrF (Reg.LANE_STAT 0 31) Fld.LANE_STAT_state Lane.prbs |> setLane 0 31 { prbsSeen := 128 }), 31, 1, 1, _,
      by decide +kernel, by decide +kernel, rfl, by decide +kernel⟩,
    ⟨(State.reset |> wrF (Reg.LANE_STAT 0 31) Fld.LANE_STAT_state Lane.prbs |>
      wrF (Reg.PRBS_STAT 0 31) Fld.PRBS_STAT_locked 1 |> wrF (Reg.LANE_STAT 0 31) Fld.LANE_STAT_state Lane.prbs |>
      setLane 0 31 { prbsSeen := 128, prbsErrs := List.replicate 100 0 }), 31, 1, 1, _, by decide +kernel, by decide +kernel,
      by decide +kernel, rfl, by decide +kernel⟩,
    ⟨4, false, ({ lane := { prbsSeen := 128, prbsErrs := List.replicate 99 0 } }), by decide +kernel⟩,
    ⟨4, true, ({ lane := { prbsSeen := 128, prbsErrs := List.replicate 99 0 } }), by decide +kernel⟩,
    ⟨({ lane := { prbsSeen := 62 } }), by decide +kernel⟩,
    ⟨(State.reset |> wrF (Reg.LANE_STAT 1 31) Fld.LANE_STAT_state Lane.adapt |>
      wrF (Reg.LANE_STAT 1 31) Fld.LANE_STAT_state Lane.adapt), 31, 3, 255, 0, by decide +kernel⟩,
    ⟨(State.reset |> wrF (Reg.LANE_STAT 0 31) Fld.LANE_STAT_state Lane.detect |>
      wrF (Reg.LANE_CFG 0 31) Fld.LANE_CFG_enable 1 |> wrF (Reg.LANE_CFG 0 31) Fld.LANE_CFG_rate_code 200 |>
      wrF (Reg.LANE_STAT 0 31) Fld.LANE_STAT_state Lane.detect |> setLane 0 31 { asleep := true }), 31, by decide +kernel⟩⟩

theorem witness_LaneUpkeep :
    (∃ (s : State) (l a : Nat), laneIs s l a Lane.active = true) ∧
    (∃ (s : State) (l a : Nat), laneIs s l a Lane.fast = true ∧ (laneOf s l a).failures < 2) ∧
    (∃ (s : State) (l a : Nat), laneIs s l a Lane.fast = true ∧ 2 ≤ (laneOf s l a).failures) ∧
    (∃ (s : State) (a : Nat), laneIs s 0 a Lane.fast = true ∧ statB s 0 a Fld.LANE_STAT_block_lock = false ∧ RegsCanonical s) ∧
    (∃ (s : State) (a : Nat), adapting s a = true ∧ (laneOf s 0 a).trial = none ∧ (laneOf s 0 a).foms.length = 8 ∧
      rdF s (Reg.LANE_EQ 0 a) Fld.LANE_EQ_H_ctle < 15) ∧
    (∃ (s : State) (a : Nat), laneIs s 1 a Lane.active = true ∧ statB s 1 a Fld.LANE_STAT_frozen = false) ∧
    (∃ (s : State) (a : Nat), laneIs s 0 a Lane.active = true ∧ statB s 0 a Fld.LANE_STAT_frozen = false ∧
      (laneOf s 0 a).idle < 4097) ∧
    (∃ (s : State) (a : Nat), statB s 0 a Fld.LANE_STAT_recentring = true ∧ (laneOf s 0 a).thaw = false ∧
      (laneOf s 0 a).eyeWaits = false ∧ tabWf (fun _ => ({} : LaneState)) s.lanes.lane = true) ∧
    (∃ (pre : List Nat) (n : _) (post : List Nat), (∀ e ∈ pre ++ post, e ≠ 0) ∧ pre.length + (n + 1) + post.length = 64) ∧
    (∃ (s : State) (l a : Nat), resultBusy s (Reg.LANE_EYE_RESULT l a) = true ∧ (laneOf s l a).eyeWaits = false) ∧
    (∃ (counts : List Nat) (k : _), (∀ i, i < k → counts.getD i 0 ≤ 1) ∧ k < counts.length ∧ 1 < counts.getD k 0) :=
  ⟨⟨(State.reset |> wrF (Reg.LANE_STAT 0 0) Fld.LANE_STAT_state Lane.active), 0, 0, by decide +kernel⟩,
    ⟨(State.reset |> wrF (Reg.LANE_STAT 1 127) Fld.LANE_STAT_state Lane.fast |> setLane 1 127 { failures := 1 }), 1, 127,
      by decide +kernel⟩,
    ⟨(State.reset |> wrF (Reg.LANE_STAT 1 127) Fld.LANE_STAT_state Lane.fast |> setLane 1 127 { failures := 2 }), 1, 127,
      by decide +kernel⟩,
    ⟨(State.reset |> wrF (Reg.LANE_STAT 0 0) Fld.LANE_STAT_state Lane.fast), 0, by simp only [RegsCanonical]; decide +kernel⟩,
    ⟨(State.reset |> wrF (Reg.LANE_STAT 0 31) Fld.LANE_STAT_state 5 |> wrF (Reg.LANE_CFG 0 31) Fld.LANE_CFG_adapt_en 1 |>
      setLane 0 31 { foms := [1, 2, 3, 4, 5, 6, 7, 8] } |> wrF (Reg.LANE_EQ 0 31) Fld.LANE_EQ_H_ctle 14), 31,
      by decide +kernel⟩,
    ⟨(State.reset |> wrF (Reg.LANE_STAT 1 0) Fld.LANE_STAT_state Lane.active), 0, by decide +kernel⟩,
    ⟨(State.reset |> wrF (Reg.LANE_STAT 0 31) Fld.LANE_STAT_state Lane.active |> setLane 0 31 { idle := 4096 }), 31,
      by decide +kernel⟩,
    ⟨(State.reset |> wrF (Reg.LANE_STAT 0 0) Fld.LANE_STAT_recentring 1), 0, by decide +kernel⟩,
    ⟨([1]), 62, ([]), by decide +kernel⟩,
    ⟨(State.reset |> wrF (Reg.LANE_EYE_RESULT 1 127) (9, 1) 1), 1, 127, by decide +kernel⟩,
    ⟨([1, 2]), 1, by decide +kernel⟩⟩

theorem witness_HeadwaterBlocks :
    (∃ (s : State) (a : Nat) (h x : _) (b : BitVec 66), h < 4 ∧ onWire s a [(h, x)] = [b]) ∧
    (∃ (c : _) (p x : BitVec 64), scramble c p = (x, (scramble c p).2)) ∧
    (∃ (s : State) (a : Nat) (b k p t : _), hwlReceives s a = true ∧ takeBlock a b s = (.control k p, t) ∧
      knownType k = false) ∧
    (∃ (s : State) (a : Nat) (b p t : _), hwlReceives s a = true ∧ takeBlock a b s = (.data p, t) ∧
      (laneOf (dataArrives a (notIdle a t)) 0 a).packet = none) ∧
    (∃ (s : State) (a : Nat) (b p t : _), a < 32 ∧ takeBlock a b s = (.control 0x2D p, t)) ∧
    (∃ (s : State) (a : Nat) (b p t : _), takeBlock a b s = (.control 0x1E p, t) ∧ (laneOf t 0 a).packet = none ∧
      laneIs t 0 a Lane.active = false) ∧
    (∃ (s : State) (a : Nat) (b p t u : _), hwlReceives s a = true ∧ takeBlock a b s = (.control 0x55 p, t) ∧
      notIdle a (abandonPacket a 3 t) = u ∧ rdB u Reg.HWL_STAT Fld.HWL_STAT_sleeping = true) ∧
    (∃ (s : State) (a : Nat) (b p t u : _), hwlReceives s a = true ∧ takeBlock a b s = (.control 0x55 p, t) ∧
      notIdle a (abandonPacket a 3 t) = u ∧ rdB u Reg.HWL_STAT Fld.HWL_STAT_sleeping = false ∧
      rdB u Reg.RAST_STAT Fld.RAST_STAT_timeline = false ∧ u.comp.cur = none ∧ u.hwl.frame = none ∧ RegsCanonical u) ∧
    (∃ (s : State) (a : Nat) (b p t u : _), hwlReceives s a = true ∧ takeBlock a b s = (.control 0x66 p, t) ∧
      notIdle a (abandonPacket a 3 t) = u ∧ u.power.state = .run ∧ u.power.entry = none ∧
      rdB u Reg.HWL_STAT Fld.HWL_STAT_sleeping = true ∧ RegsCanonical u) ∧
    (∃ (s : State), planeOn s 0 = true ∧ s.hwl.checking = true ∧ rdB s Reg.HWL_STAT Fld.HWL_STAT_sleeping = false ∧
      RegsCanonical s ∧ rdB s Reg.HWL_STAT Fld.HWL_STAT_silent = true) ∧
    (∃ (s : State), rdB s Reg.HWL_STAT Fld.HWL_STAT_silent = true ∧ rdB s Reg.HWL_STAT Fld.HWL_STAT_frozen = false ∧
      min 600 (max 1 (rdF s Reg.HWL_HOLD_TIMEOUT Fld.HWL_HOLD_TIMEOUT_frames)) ≤ s.hwl.missed) ∧
    (∃ (s : State), rdB s Reg.HWL_STAT Fld.HWL_STAT_frozen = true ∧ rdB s Reg.HWL_STAT Fld.HWL_STAT_holding = false ∧
      s.hold.due = false ∧ rdF s Reg.HWL_FREEZE_TIMEOUT Fld.HWL_FREEZE_TIMEOUT_ms ≠ 0 ∧ policyItem s ≠ 0 ∧
      itemResident s (policyItem s) = true) ∧
    (∃ (s : State), rdB s Reg.HWL_STAT Fld.HWL_STAT_frozen = true ∧ rdB s Reg.HWL_STAT Fld.HWL_STAT_holding = false ∧
      s.hold.due = false ∧ rdF s Reg.HWL_FREEZE_TIMEOUT Fld.HWL_FREEZE_TIMEOUT_ms ≠ 0 ∧ policyItem s ≠ 0 ∧
      itemResident s (policyItem s) = false) :=
  ⟨⟨State.reset, 0, 0, 0, 0, by decide +kernel⟩,
    ⟨0, 0, 0, by decide +kernel⟩,
    ⟨(State.reset |> receiving), 31, (heard 2 (payloadOfBytes [0x99, 0x1, 0x2, 0x3, 0x4, 0x5, 0x6, 0x7])), (0x99),
      (payloadOfBytes [0x99, 0x1, 0x2, 0x3, 0x4, 0x5, 0x6, 0x7]), ((takeBlock 31 (heard 2 (payloadOfBytes [0x99, 0x1, 0x2,
      0x3, 0x4, 0x5, 0x6, 0x7])) (State.reset |> receiving)).2), by decide +kernel, by decide +kernel, by decide +kernel⟩,
    ⟨(State.reset |> receiving), 31, (heard 1 (payloadOfBytes [0x1, 0x2, 0x3, 0x4, 0x5, 0x6, 0x7, 0x8])),
      (payloadOfBytes [0x1, 0x2, 0x3, 0x4, 0x5, 0x6, 0x7, 0x8]), ((takeBlock 31 (heard 1 (payloadOfBytes [0x1, 0x2, 0x3, 0x4,
      0x5, 0x6, 0x7, 0x8])) (State.reset |> receiving)).2), by decide +kernel, by decide +kernel, by decide +kernel⟩,
    ⟨State.reset, 31, (heard 2 (payloadOfBytes [0x2d, 0x0, 0x0, 0x0, 0x0, 0x0, 0x0, 0x0])), (payloadOfBytes [0x2d, 0x0, 0x0,
      0x0, 0x0, 0x0, 0x0, 0x0]), ((takeBlock 31 (heard 2 (payloadOfBytes [0x2d, 0x0, 0x0, 0x0, 0x0, 0x0, 0x0,
      0x0])) State.reset).2), by decide +kernel, by decide +kernel⟩,
    ⟨State.reset, 31, (heard 2 (payloadOfBytes [0x1e, 0x0, 0x0, 0x0, 0x0, 0x0, 0x0, 0x0])), (payloadOfBytes [0x1e, 0x0, 0x0,
      0x0, 0x0, 0x0, 0x0, 0x0]), ((takeBlock 31 (heard 2 (payloadOfBytes [0x1e, 0x0, 0x0, 0x0, 0x0, 0x0, 0x0,
      0x0])) State.reset).2), by decide +kernel, by decide +kernel, by decide +kernel⟩,
    ⟨(State.reset |> receiving |> wrF Reg.HWL_STAT Fld.HWL_STAT_sleeping 1), 31, (heard 2 (payloadOfBytes [0x55, 0x0, 0x0,
      0x0, 0x0, 0x0, 0x0, 0x0])), (payloadOfBytes [0x55, 0x0, 0x0, 0x0, 0x0, 0x0, 0x0, 0x0]),
      ((takeBlock 31 (heard 2 (payloadOfBytes [0x55, 0x0, 0x0, 0x0, 0x0, 0x0, 0x0, 0x0])) (State.reset |> receiving |>
      wrF Reg.HWL_STAT Fld.HWL_STAT_sleeping 1)).2), _, by decide +kernel, by decide +kernel, rfl, by decide +kernel⟩,
    ⟨(State.reset |> receiving), 31, (heard 2 (payloadOfBytes [0x55, 0x0, 0x0, 0x0, 0x0, 0x0, 0x0, 0x0])),
      (payloadOfBytes [0x55, 0x0, 0x0, 0x0, 0x0, 0x0, 0x0, 0x0]), ((takeBlock 31 (heard 2 (payloadOfBytes [0x55, 0x0, 0x0,
      0x0, 0x0, 0x0, 0x0, 0x0])) (State.reset |> receiving)).2), _, by decide +kernel, by decide +kernel, rfl,
      by decide +kernel, by decide +kernel, by decide +kernel, by decide +kernel,
      by simp only [RegsCanonical]; decide +kernel⟩,
    ⟨(State.reset |> receiving |> wrF Reg.HWL_STAT Fld.HWL_STAT_sleeping 1), 31, (heard 2 (payloadOfBytes [0x66, 0x0, 0x0,
      0x0, 0x0, 0x0, 0x0, 0x0])), (payloadOfBytes [0x66, 0x0, 0x0, 0x0, 0x0, 0x0, 0x0, 0x0]),
      ((takeBlock 31 (heard 2 (payloadOfBytes [0x66, 0x0, 0x0, 0x0, 0x0, 0x0, 0x0, 0x0])) (State.reset |> receiving |>
      wrF Reg.HWL_STAT Fld.HWL_STAT_sleeping 1)).2), _, by decide +kernel, by decide +kernel, rfl, by decide +kernel,
      by decide +kernel, by decide +kernel, by simp only [RegsCanonical]; decide +kernel⟩,
    ⟨(State.reset |> (fun s => { s with hwl := { s.hwl with checking := true } }) |>
      wrF Reg.HWL_STAT Fld.HWL_STAT_sleeping 0 |> wrF Reg.HWL_STAT Fld.HWL_STAT_silent 1 |>
      wrF (Reg.COMP_Ln_CFG 16) Fld.COMP_Ln_CFG_enable 1), by simp only [RegsCanonical]; decide +kernel⟩,
    ⟨(State.reset |> wrF Reg.HWL_STAT Fld.HWL_STAT_silent 1 |> wrF Reg.HWL_STAT Fld.HWL_STAT_frozen 0 |>
      (fun s => { s with hwl := { s.hwl with missed := 2 } })), by decide +kernel⟩,
    ⟨(State.reset |> wrF Reg.HWL_STAT Fld.HWL_STAT_frozen 1 |> wrF Reg.HWL_STAT Fld.HWL_STAT_holding 0 |>
      (fun s => { s with hold := { s.hold with due := false } }) |> wrF Reg.HWL_FREEZE_TIMEOUT Fld.HWL_FREEZE_TIMEOUT_ms 1 |>
      wrF Reg.HWL_HOLD_ITEM Fld.HWL_HOLD_ITEM_item 0x10001 |>
      (fun s => { s with hold := { s.hold with items := [(0x10001, some { width := 2, height := 2, rep := 1, frames := [[]] })] } })),
      by decide +kernel⟩,
    ⟨(State.reset |> wrF Reg.HWL_STAT Fld.HWL_STAT_frozen 1 |> wrF Reg.HWL_STAT Fld.HWL_STAT_holding 0 |>
      (fun s => { s with hold := { s.hold with due := false } }) |> wrF Reg.HWL_FREEZE_TIMEOUT Fld.HWL_FREEZE_TIMEOUT_ms 1 |>
      wrF Reg.HWL_HOLD_ITEM Fld.HWL_HOLD_ITEM_item 0x10001), by decide +kernel⟩⟩

theorem witness_HeadwaterFrames :
    (∃ (s : State) (a : Nat) (b p t u : _), hwlReceives s a = true ∧ takeBlock a b s = (.control 0x78 p, t) ∧
      notIdle a (abandonPacket a 3 t) = u) ∧
    (∃ (s : State) (a : Nat) (b p t u st data : _), hwlReceives s a = true ∧ takeBlock a b s = (.data p, t) ∧
      dataArrives a (notIdle a t) = u ∧ (laneOf u 0 a).packet = some (st, data)) ∧
    (∃ (s : State) (a : Nat) (b p t u st data k w : _), hwlReceives s a = true ∧ takeBlock a b s = (.control 0x87 p, t) ∧
      notIdle a t = u ∧ (laneOf u 0 a).packet = some (st, data) ∧ packetOf st data ((payloadBytes p).drop 1) = k ∧
      data.length = 8 * k.dataBlocks ∧ setLane 0 a { laneOf u 0 a with packet := none } u = w ∧ k.fits w.hwl.planes = false) ∧
    (∃ (s : State) (a : Nat) (b p t u st data k w : _), hwlReceives s a = true ∧ takeBlock a b s = (.control 0x87 p, t) ∧
      notIdle a t = u ∧ (laneOf u 0 a).packet = some (st, data) ∧ packetOf st data ((payloadBytes p).drop 1) = k ∧
      data.length = 8 * k.dataBlocks ∧ setLane 0 a { laneOf u 0 a with packet := none } u = w ∧ k.fits w.hwl.planes = true ∧
      (hwView w).enabled (16 + k.plane) = false) ∧
    (∃ (s : State) (a : Nat) (b p t u st data k w : _), hwlReceives s a = true ∧ takeBlock a b s = (.control 0x87 p, t) ∧
      notIdle a t = u ∧ (laneOf u 0 a).packet = some (st, data) ∧ packetOf st data ((payloadBytes p).drop 1) = k ∧
      data.length = 8 * k.dataBlocks ∧ setLane 0 a { laneOf u 0 a with packet := none } u = w ∧ k.fits w.hwl.planes = true ∧
      (hwView w).enabled (16 + k.plane) = true ∧ w.hwl.frame = none) ∧
    (∃ (s : State) (a : Nat) (b p t u st data k w x f : _), hwlReceives s a = true ∧ takeBlock a b s = (.control 0x87 p, t) ∧
      notIdle a t = u ∧ (laneOf u 0 a).packet = some (st, data) ∧ packetOf st data ((payloadBytes p).drop 1) = k ∧
      data.length = 8 * k.dataBlocks ∧ setLane 0 a { laneOf u 0 a with packet := none } u = w ∧ k.fits w.hwl.planes = true ∧
      (hwView w).enabled (16 + k.plane) = true ∧ w.hwl.frame = some f ∧ f.open_ = true ∧
      { w with hwl := { w.hwl with frame := some (brought a k.plane k.line f) } } = x ∧ k.frameLo ≠ f.lo) ∧
    (∃ (s : State) (a : Nat) (b p t u st data k w x f : _), hwlReceives s a = true ∧ takeBlock a b s = (.control 0x87 p, t) ∧
      notIdle a t = u ∧ (laneOf u 0 a).packet = some (st, data) ∧ packetOf st data ((payloadBytes p).drop 1) = k ∧
      data.length = 8 * k.dataBlocks ∧ setLane 0 a { laneOf u 0 a with packet := none } u = w ∧ k.fits w.hwl.planes = true ∧
      (hwView w).enabled (16 + k.plane) = true ∧ w.hwl.frame = some f ∧ f.open_ = true ∧
      { w with hwl := { w.hwl with frame := some (brought a k.plane k.line f) } } = x ∧ k.frameLo = f.lo ∧
      deadlinePassed x (brought a k.plane k.line f) k.plane k.line = true) ∧
    (∃ (s : State) (a : Nat) (b p t u st data k w x f : _), hwlReceives s a = true ∧ takeBlock a b s = (.control 0x87 p, t) ∧
      notIdle a t = u ∧ (laneOf u 0 a).packet = some (st, data) ∧ packetOf st data ((payloadBytes p).drop 1) = k ∧
      data.length = 8 * k.dataBlocks ∧ setLane 0 a { laneOf u 0 a with packet := none } u = w ∧ k.fits w.hwl.planes = true ∧
      (hwView w).enabled (16 + k.plane) = true ∧ w.hwl.frame = some f ∧ f.open_ = true ∧
      { w with hwl := { w.hwl with frame := some (brought a k.plane k.line f) } } = x ∧ k.frameLo = f.lo ∧
      deadlinePassed x (brought a k.plane k.line f) k.plane k.line = false ∧ crc32c (k.startBytes ++ k.data) ≠ k.crc) ∧
    (∃ (s : State) (a : Nat) (b p t u st data k w x f : _), hwlReceives s a = true ∧ takeBlock a b s = (.control 0x87 p, t) ∧
      notIdle a t = u ∧ (laneOf u 0 a).packet = some (st, data) ∧ packetOf st data ((payloadBytes p).drop 1) = k ∧
      data.length = 8 * k.dataBlocks ∧ setLane 0 a { laneOf u 0 a with packet := none } u = w ∧ k.fits w.hwl.planes = true ∧
      (hwView w).enabled (16 + k.plane) = true ∧ w.hwl.frame = some f ∧ f.open_ = true ∧
      { w with hwl := { w.hwl with frame := some (brought a k.plane k.line f) } } = x ∧ k.frameLo = f.lo ∧
      deadlinePassed x (brought a k.plane k.line f) k.plane k.line = false ∧ crc32c (k.startBytes ++ k.data) = k.crc ∧
      f.has k.plane k.line = true) ∧
    (∃ (s : State) (a : Nat) (b p t u st data k w x f : _), hwlReceives s a = true ∧ takeBlock a b s = (.control 0x87 p, t) ∧
      notIdle a t = u ∧ (laneOf u 0 a).packet = some (st, data) ∧ packetOf st data ((payloadBytes p).drop 1) = k ∧
      data.length = 8 * k.dataBlocks ∧ setLane 0 a { laneOf u 0 a with packet := none } u = w ∧ k.fits w.hwl.planes = true ∧
      (hwView w).enabled (16 + k.plane) = true ∧ w.hwl.frame = some f ∧ f.open_ = true ∧
      { w with hwl := { w.hwl with frame := some (brought a k.plane k.line f) } } = x ∧ k.frameLo = f.lo ∧
      deadlinePassed x (brought a k.plane k.line f) k.plane k.line = false ∧ crc32c (k.startBytes ++ k.data) = k.crc ∧
      f.has k.plane k.line = false) ∧
    (∃ (s : State) (a : Nat) (h lo hi b p t u f : _), hwlReceives s a = true ∧ wireOf h lo hi = b ∧
      takeBlock a b s = (.control 0x33 p, t) ∧ notIdle a (abandonPacket a 3 t) = u ∧ u.hwl.frame = some f ∧ f.open_ = true ∧
      f.lo = payloadByte p 2 ∧ inSet f.mask a = true ∧ f.starts.contains a = false) ∧
    (∃ (s : State) (a : Nat) (h lo hi b p t u : _), hwlReceives s a = true ∧ wireOf h lo hi = b ∧
      takeBlock a b s = (.control 0x33 p, t) ∧ notIdle a (abandonPacket a 3 t) = u ∧
      joinsFrame u a (payloadByte p 2) = false ∧ inSet (hwlMask u) a = true) ∧
    (∃ (s : State) (a : Nat) (h lo hi b p t u : _), hwlReceives s a = true ∧ wireOf h lo hi = b ∧
      takeBlock a b s = (.control 0x4B p, t) ∧ notIdle a (abandonPacket a 3 t) = u ∧ u.hwl.frame = none) ∧
    (∃ (s : State) (a : Nat) (h lo hi b p t u f : _), hwlReceives s a = true ∧ wireOf h lo hi = b ∧
      takeBlock a b s = (.control 0x4B p, t) ∧ notIdle a (abandonPacket a 3 t) = u ∧ u.hwl.frame = some f ∧ f.open_ = true ∧
      f.lo = payloadByte p 2 ∧ f.ended = [] ∧ lanesOf f.mask = [a]) ∧
    (∃ (s : State) (pl y c : _), s.comp.cur = some c ∧ pl ≤ 1 ∧ y ∈ linesOf s pl ∧ y + (viewOf s).planeY pl < panelH s ∧
      y + (viewOf s).planeY pl ≤ c.next) :=
  ⟨⟨(State.reset |> receiving), 31, (heard 2 (payloadOfBytes [0x78, 0x0, 0xff, 0x3, 0x0, 0x0, 0x10, 0x0])),
      (payloadOfBytes [0x78, 0x0, 0xff, 0x3, 0x0, 0x0, 0x10, 0x0]), ((takeBlock 31 (heard 2 (payloadOfBytes [0x78, 0x0, 0xff,
      0x3, 0x0, 0x0, 0x10, 0x0])) (State.reset |> receiving)).2), _, by decide +kernel, by decide +kernel, rfl⟩,
    ⟨(State.reset |> receiving |> setLane 0 31 { packet := some (lineStart, List.replicate 64 7) }), 31,
      (heard 1 (payloadOfBytes [0x1, 0x2, 0x3, 0x4, 0x5, 0x6, 0x7, 0x8])), (payloadOfBytes [0x1, 0x2, 0x3, 0x4, 0x5, 0x6,
      0x7, 0x8]), ((takeBlock 31 (heard 1 (payloadOfBytes [0x1, 0x2, 0x3, 0x4, 0x5, 0x6, 0x7, 0x8])) (State.reset |>
      receiving |> setLane 0 31 { packet := some (lineStart, List.replicate 64 7) })).2), _, (lineStart),
      (List.replicate 64 7), by decide +kernel, by decide +kernel, rfl, by decide +kernel⟩,
    ⟨(State.reset |> receiving |> setLane 0 31 { packet := some (lineStart, List.replicate 64 7) }), 31, (heard 2 (lineEnd)),
      (lineEnd), ((takeBlock 31 (heard 2 (lineEnd)) (State.reset |> receiving |>
      setLane 0 31 { packet := some (lineStart, List.replicate 64 7) })).2), _, (lineStart), (List.replicate 64 7), _, _,
      by decide +kernel, by decide +kernel, rfl, by decide +kernel, rfl, by decide +kernel, rfl, by decide +kernel⟩,
    ⟨(State.reset |> receiving |> setLane 0 31 { packet := some (lineStart, List.replicate 64 7) } |>
      (fun s => { s with hwl := { s.hwl with planes := [16 + 4 * 2 ^ 14, 0] } })), 31, (heard 2 (lineEnd)), (lineEnd),
      ((takeBlock 31 (heard 2 (lineEnd)) (State.reset |> receiving |>
      setLane 0 31 { packet := some (lineStart, List.replicate 64 7) } |>
      (fun s => { s with hwl := { s.hwl with planes := [16 + 4 * 2 ^ 14, 0] } }))).2), _, (lineStart), (List.replicate 64 7),
      _, _, by decide +kernel, by decide +kernel, rfl, by decide +kernel, rfl, by decide +kernel, rfl, by decide +kernel,
      by decide +kernel⟩,
    ⟨(State.reset |> receiving |> setLane 0 31 { packet := some (lineStart, List.replicate 64 7) } |>
      (fun s => { s with hwl := { s.hwl with planes := [16 + 4 * 2 ^ 14, 0] } }) |>
      wrF (Reg.COMP_Ln_CFG 16) Fld.COMP_Ln_CFG_enable 1), 31, (heard 2 (lineEnd)), (lineEnd),
      ((takeBlock 31 (heard 2 (lineEnd)) (State.reset |> receiving |>
      setLane 0 31 { packet := some (lineStart, List.replicate 64 7) } |>
      (fun s => { s with hwl := { s.hwl with planes := [16 + 4 * 2 ^ 14, 0] } }) |>
      wrF (Reg.COMP_Ln_CFG 16) Fld.COMP_Ln_CFG_enable 1)).2), _, (lineStart), (List.replicate 64 7), _, _, by decide +kernel,
      by decide +kernel, rfl, by decide +kernel, rfl, by decide +kernel, rfl, by decide +kernel, by decide +kernel,
      by decide +kernel⟩,
    ⟨(State.reset |> receiving |> setLane 0 31 { packet := some (lineStart, List.replicate 64 7) } |>
      (fun s => { s with hwl := { s.hwl with planes := [16 + 4 * 2 ^ 14, 0] } }) |>
      wrF (Reg.COMP_Ln_CFG 16) Fld.COMP_Ln_CFG_enable 1 |>
      (fun s => { s with hwl := { s.hwl with frame := some { hwFrame with lo := 254 } } })), 31, (heard 2 (lineEnd)),
      (lineEnd), ((takeBlock 31 (heard 2 (lineEnd)) (State.reset |> receiving |>
      setLane 0 31 { packet := some (lineStart, List.replicate 64 7) } |>
      (fun s => { s with hwl := { s.hwl with planes := [16 + 4 * 2 ^ 14, 0] } }) |>
      wrF (Reg.COMP_Ln_CFG 16) Fld.COMP_Ln_CFG_enable 1 |>
      (fun s => { s with hwl := { s.hwl with frame := some { hwFrame with lo := 254 } } }))).2), _, (lineStart),
      (List.replicate 64 7), _, _, _, ({ hwFrame with lo := 254 }), by decide +kernel, by decide +kernel, rfl,
      by decide +kernel, rfl, by decide +kernel, rfl, by decide +kernel, by decide +kernel, by decide +kernel,
      by decide +kernel, rfl, by decide +kernel⟩,
    ⟨(State.reset |> receiving |> setLane 0 31 { packet := some (lineStart, List.replicate 64 7) } |>
      (fun s => { s with hwl := { s.hwl with planes := [16 + 4 * 2 ^ 14, 0] } }) |>
      wrF (Reg.COMP_Ln_CFG 16) Fld.COMP_Ln_CFG_enable 1 |>
      (fun s => { s with hwl := { s.hwl with frame := some hwFrame } }) |>
      (fun s => { s with raster := { s.raster with panel := some { width := 3840, height := 2160, rateNum := 60, rateDen := 1, cells := 2, depth := 12 } } }) |>
      (fun s => { s with comp := { s.comp with cur := some { cfn := 1, next := 2000, latchLine := 4 } } })), 31,
      (heard 2 (lineEnd)), (lineEnd), ((takeBlock 31 (heard 2 (lineEnd)) (State.reset |> receiving |>
      setLane 0 31 { packet := some (lineStart, List.replicate 64 7) } |>
      (fun s => { s with hwl := { s.hwl with planes := [16 + 4 * 2 ^ 14, 0] } }) |>
      wrF (Reg.COMP_Ln_CFG 16) Fld.COMP_Ln_CFG_enable 1 |>
      (fun s => { s with hwl := { s.hwl with frame := some hwFrame } }) |>
      (fun s => { s with raster := { s.raster with panel := some { width := 3840, height := 2160, rateNum := 60, rateDen := 1, cells := 2, depth := 12 } } }) |>
      (fun s => { s with comp := { s.comp with cur := some { cfn := 1, next := 2000, latchLine := 4 } } }))).2), _,
      (lineStart), (List.replicate 64 7), _, _, _, hwFrame, by decide +kernel, by decide +kernel, rfl, by decide +kernel,
      rfl, by decide +kernel, rfl, by decide +kernel, by decide +kernel, by decide +kernel, by decide +kernel, rfl,
      by decide +kernel, by decide +kernel⟩,
    ⟨(State.reset |> receiving |> setLane 0 31 { packet := some (lineStart, List.replicate 63 7 ++ [8]) } |>
      (fun s => { s with hwl := { s.hwl with planes := [16 + 4 * 2 ^ 14, 0] } }) |>
      wrF (Reg.COMP_Ln_CFG 16) Fld.COMP_Ln_CFG_enable 1 |>
      (fun s => { s with hwl := { s.hwl with frame := some hwFrame } }) |>
      (fun s => { s with raster := { s.raster with panel := some { width := 3840, height := 2160, rateNum := 60, rateDen := 1, cells := 2, depth := 12 } } }) |>
      (fun s => { s with comp := { s.comp with cur := some { cfn := 1, next := 0, latchLine := 4 } } })), 31,
      (heard 2 (lineEnd)), (lineEnd), ((takeBlock 31 (heard 2 (lineEnd)) (State.reset |> receiving |>
      setLane 0 31 { packet := some (lineStart, List.replicate 63 7 ++ [8]) } |>
      (fun s => { s with hwl := { s.hwl with planes := [16 + 4 * 2 ^ 14, 0] } }) |>
      wrF (Reg.COMP_Ln_CFG 16) Fld.COMP_Ln_CFG_enable 1 |>
      (fun s => { s with hwl := { s.hwl with frame := some hwFrame } }) |>
      (fun s => { s with raster := { s.raster with panel := some { width := 3840, height := 2160, rateNum := 60, rateDen := 1, cells := 2, depth := 12 } } }) |>
      (fun s => { s with comp := { s.comp with cur := some { cfn := 1, next := 0, latchLine := 4 } } }))).2), _, (lineStart),
      (List.replicate 63 7 ++ [8]), _, _, _, hwFrame, by decide +kernel, by decide +kernel, rfl, by decide +kernel, rfl,
      by decide +kernel, rfl, by decide +kernel, by decide +kernel, by decide +kernel, by decide +kernel, rfl,
      by decide +kernel, by decide +kernel, by decide +kernel⟩,
    ⟨(State.reset |> receiving |> setLane 0 31 { packet := some (lineStart, List.replicate 64 7) } |>
      (fun s => { s with hwl := { s.hwl with planes := [16 + 4 * 2 ^ 14, 0] } }) |>
      wrF (Reg.COMP_Ln_CFG 16) Fld.COMP_Ln_CFG_enable 1 |>
      (fun s => { s with hwl := { s.hwl with frame := some { hwFrame with lines := [(3, [])] } } }) |>
      (fun s => { s with raster := { s.raster with panel := some { width := 3840, height := 2160, rateNum := 60, rateDen := 1, cells := 2, depth := 12 } } }) |>
      (fun s => { s with comp := { s.comp with cur := some { cfn := 1, next := 0, latchLine := 4 } } })), 31,
      (heard 2 (lineEnd)), (lineEnd), ((takeBlock 31 (heard 2 (lineEnd)) (State.reset |> receiving |>
      setLane 0 31 { packet := some (lineStart, List.replicate 64 7) } |>
      (fun s => { s with hwl := { s.hwl with planes := [16 + 4 * 2 ^ 14, 0] } }) |>
      wrF (Reg.COMP_Ln_CFG 16) Fld.COMP_Ln_CFG_enable 1 |>
      (fun s => { s with hwl := { s.hwl with frame := some { hwFrame with lines := [(3, [])] } } }) |>
      (fun s => { s with raster := { s.raster with panel := some { width := 3840, height := 2160, rateNum := 60, rateDen := 1, cells := 2, depth := 12 } } }) |>
      (fun s => { s with comp := { s.comp with cur := some { cfn := 1, next := 0, latchLine := 4 } } }))).2), _, (lineStart),
      (List.replicate 64 7), _, _, _, ({ hwFrame with lines := [(3, [])] }), by decide +kernel, by decide +kernel, rfl,
      by decide +kernel, rfl, by decide +kernel, rfl, by decide +kernel, by decide +kernel, by decide +kernel,
      by decide +kernel, rfl, by decide +kernel, by decide +kernel, by decide +kernel, by decide +kernel⟩,
    ⟨(State.reset |> receiving |> setLane 0 31 { packet := some (lineStart, List.replicate 64 7) } |>
      (fun s => { s with hwl := { s.hwl with planes := [16 + 4 * 2 ^ 14, 0] } }) |>
      wrF (Reg.COMP_Ln_CFG 16) Fld.COMP_Ln_CFG_enable 1 |>
      (fun s => { s with hwl := { s.hwl with frame := some hwFrame } }) |>
      (fun s => { s with raster := { s.raster with panel := some { width := 3840, height := 2160, rateNum := 60, rateDen := 1, cells := 2, depth := 12 } } }) |>
      (fun s => { s with comp := { s.comp with cur := some { cfn := 1, next := 0, latchLine := 4 } } })), 31,
      (heard 2 (lineEnd)), (lineEnd), ((takeBlock 31 (heard 2 (lineEnd)) (State.reset |> receiving |>
      setLane 0 31 { packet := some (lineStart, List.replicate 64 7) } |>
      (fun s => { s with hwl := { s.hwl with planes := [16 + 4 * 2 ^ 14, 0] } }) |>
      wrF (Reg.COMP_Ln_CFG 16) Fld.COMP_Ln_CFG_enable 1 |>
      (fun s => { s with hwl := { s.hwl with frame := some hwFrame } }) |>
      (fun s => { s with raster := { s.raster with panel := some { width := 3840, height := 2160, rateNum := 60, rateDen := 1, cells := 2, depth := 12 } } }) |>
      (fun s => { s with comp := { s.comp with cur := some { cfn := 1, next := 0, latchLine := 4 } } }))).2), _, (lineStart),
      (List.replicate 64 7), _, _, _, hwFrame, by decide +kernel, by decide +kernel, rfl, by decide +kernel, rfl,
      by decide +kernel, rfl, by decide +kernel, by decide +kernel, by decide +kernel, by decide +kernel, rfl,
      by decide +kernel, by decide +kernel, by decide +kernel, by decide +kernel⟩,
    ⟨(State.reset |> receiving |> (fun s => { s with hwl := { s.hwl with frame := some { hwFrame with mask := 2 ^ 31 } } })),
      31, (headerOf (heard 2 (payloadOfBytes [0x33, 0x0, 0xff, 0x0, 0x0, 0x0, 0x0, 0x0]))),
      (BitVec.ofNat 32 ((heard 2 (payloadOfBytes [0x33, 0x0, 0xff, 0x0, 0x0, 0x0, 0x0, 0x0])).toNat / 4)),
      (BitVec.ofNat 32 ((heard 2 (payloadOfBytes [0x33, 0x0, 0xff, 0x0, 0x0, 0x0, 0x0, 0x0])).toNat / 2 ^ 34)),
      (heard 2 (payloadOfBytes [0x33, 0x0, 0xff, 0x0, 0x0, 0x0, 0x0, 0x0])), (payloadOfBytes [0x33, 0x0, 0xff, 0x0, 0x0, 0x0,
      0x0, 0x0]), ((takeBlock 31 (heard 2 (payloadOfBytes [0x33, 0x0, 0xff, 0x0, 0x0, 0x0, 0x0, 0x0])) (State.reset |>
      receiving |> (fun s => { s with hwl := { s.hwl with frame := some { hwFrame with mask := 2 ^ 31 } } }))).2), _,
      ({ hwFrame with mask := 2 ^ 31 }), by decide +kernel, by decide +kernel, by decide +kernel, rfl, by decide +kernel,
      by decide +kernel, by decide +kernel, by decide +kernel, by decide +kernel⟩,
    ⟨(State.reset |> receiving |> wr Reg.HWL_STRIPE (2 ^ 31)), 31, (headerOf (heard 2 (payloadOfBytes [0x33, 0x0, 0xff, 0x0,
      0x0, 0x0, 0x0, 0x0]))), (BitVec.ofNat 32 ((heard 2 (payloadOfBytes [0x33, 0x0, 0xff, 0x0, 0x0, 0x0, 0x0,
      0x0])).toNat / 4)), (BitVec.ofNat 32 ((heard 2 (payloadOfBytes [0x33, 0x0, 0xff, 0x0, 0x0, 0x0, 0x0,
      0x0])).toNat / 2 ^ 34)), (heard 2 (payloadOfBytes [0x33, 0x0, 0xff, 0x0, 0x0, 0x0, 0x0, 0x0])), (payloadOfBytes [0x33,
      0x0, 0xff, 0x0, 0x0, 0x0, 0x0, 0x0]), ((takeBlock 31 (heard 2 (payloadOfBytes [0x33, 0x0, 0xff, 0x0, 0x0, 0x0, 0x0,
      0x0])) (State.reset |> receiving |> wr Reg.HWL_STRIPE (2 ^ 31))).2), _, by decide +kernel, by decide +kernel,
      by decide +kernel, rfl, by decide +kernel, by decide +kernel⟩,
    ⟨(State.reset |> receiving), 31, (headerOf (heard 2 (payloadOfBytes [0x4b, 0x0, 0xff, 0x0, 0x0, 0x0, 0x0, 0x0]))),
      (BitVec.ofNat 32 ((heard 2 (payloadOfBytes [0x4b, 0x0, 0xff, 0x0, 0x0, 0x0, 0x0, 0x0])).toNat / 4)),
      (BitVec.ofNat 32 ((heard 2 (payloadOfBytes [0x4b, 0x0, 0xff, 0x0, 0x0, 0x0, 0x0, 0x0])).toNat / 2 ^ 34)),
      (heard 2 (payloadOfBytes [0x4b, 0x0, 0xff, 0x0, 0x0, 0x0, 0x0, 0x0])), (payloadOfBytes [0x4b, 0x0, 0xff, 0x0, 0x0, 0x0,
      0x0, 0x0]), ((takeBlock 31 (heard 2 (payloadOfBytes [0x4b, 0x0, 0xff, 0x0, 0x0, 0x0, 0x0, 0x0])) (State.reset |>
      receiving)).2), _, by decide +kernel, by decide +kernel, by decide +kernel, rfl, by decide +kernel⟩,
    ⟨(State.reset |> receiving |> (fun s => { s with hwl := { s.hwl with frame := some { hwFrame with mask := 2 ^ 31 } } })),
      31, (headerOf (heard 2 (payloadOfBytes [0x4b, 0x0, 0xff, 0x0, 0x0, 0x0, 0x0, 0x0]))),
      (BitVec.ofNat 32 ((heard 2 (payloadOfBytes [0x4b, 0x0, 0xff, 0x0, 0x0, 0x0, 0x0, 0x0])).toNat / 4)),
      (BitVec.ofNat 32 ((heard 2 (payloadOfBytes [0x4b, 0x0, 0xff, 0x0, 0x0, 0x0, 0x0, 0x0])).toNat / 2 ^ 34)),
      (heard 2 (payloadOfBytes [0x4b, 0x0, 0xff, 0x0, 0x0, 0x0, 0x0, 0x0])), (payloadOfBytes [0x4b, 0x0, 0xff, 0x0, 0x0, 0x0,
      0x0, 0x0]), ((takeBlock 31 (heard 2 (payloadOfBytes [0x4b, 0x0, 0xff, 0x0, 0x0, 0x0, 0x0, 0x0])) (State.reset |>
      receiving |> (fun s => { s with hwl := { s.hwl with frame := some { hwFrame with mask := 2 ^ 31 } } }))).2), _,
      ({ hwFrame with mask := 2 ^ 31 }), by decide +kernel, by decide +kernel, by decide +kernel, rfl, by decide +kernel,
      by decide +kernel, by decide +kernel, by decide +kernel, by decide +kernel⟩,
    ⟨(State.reset |> (fun s => { s with comp := { s.comp with cur := some ({ cfn := 1, next := 5, latchLine := 4 }) } }) |>
      wrF (Reg.COMP_Ln_CFG 16) Fld.COMP_Ln_CFG_enable 1 |>
      (fun s => { s with hwl := { s.hwl with frame := some hwFrame } }) |>
      (fun s => { s with raster := { s.raster with panel := some { width := 3840, height := 2160, rateNum := 60, rateDen := 1, cells := 2, depth := 12 } } })),
      0, 3, ({ cfn := 1, next := 5, latchLine := 4 }), by decide +kernel⟩⟩

theorem witness_TimeAndReference :
    (∃ (s : State), inputsLive s = true ∧ refPeriod s ≠ 0 ∧ s.raster.lock.lost = false ∧ s.raster.lock.sinceEdge = none) ∧
    (∃ (s : State), inputsLive s = false) ∧
    (∃ (s : State), inputsLive s = true ∧ s.raster.lock.lost = false ∧ s.raster.lock.sinceEdge.isSome = true ∧
      refPeriod s ≠ 0) ∧
    (∃ (s : State), inputsLive s = true ∧ 2 ≤ lockMode s ∧ s.raster.lock.lost10m = false ∧ RegsCanonical s) ∧
    (∃ (s : State), inputsLive s = true ∧ rdB s Reg.RAST_STAT Fld.RAST_STAT_ref10m_present = true ∧ lockMode s < 2 ∧
      RegsCanonical s) ∧
    (∃ (s : State) (m ms : _), inputsLive s = true ∧ m.length = 24 ∧ leAt m 0 2 = 0x5AA5 ∧ todFault m ms = none) ∧
    (∃ (s : State) (m ms r : _), inputsLive s = true ∧ m.length = 24 ∧ leAt m 0 2 = 0x5AA5 ∧ todFault m ms = some r) ∧
    (∃ (s : State), inputsLive s = true ∧ s.raster.lock.tod = none) ∧
    (∃ (s : State) (x : _), inputsLive s = true ∧ s.raster.lock.tod = some x) ∧
    (∃ (s : State), inputsLive s = true ∧ rdB s Reg.RAST_STAT Fld.RAST_STAT_pps_present = true) ∧
    (∃ (s : State) (p q n : Nat) (d : Dsc) (t : FrameStamp), readyDsc s p q n 0x0C03 = some d ∧ d.u64 24 = 0 ∧
      s.raster.stamps.head? = some t ∧ d.u8 16 = 0) ∧
    (∃ (s : State) (p q n : Nat) (d : Dsc), readyDsc s p q n 0x0C03 = some d ∧ s.raster.stamps = []) ∧
    (∃ (s : State) (p q n : Nat) (d : Dsc), readyDsc s p q n 0x0C04 = some d ∧
      rdB s Reg.RAST_STAT Fld.RAST_STAT_tod_valid = false) ∧
    (∃ (s : State) (p q n : Nat) (d : Dsc), readyDsc s p q n 0x0C04 = some d ∧
      rdB s Reg.RAST_STAT Fld.RAST_STAT_tod_valid = true) :=
  ⟨⟨(State.reset |> (fun s => { s with raster := { s.raster with lock := { s.raster.lock with lost := false } } }) |>
      (fun s => { s with raster := { s.raster with lock := { s.raster.lock with sinceEdge := none } } }) |>
      (fun s => { s with power := { s.power with rails := [0] } }) |>
      (fun s => { s with raster := { s.raster with panel := some { width := 3840, height := 2160, rateNum := 60, rateDen := 1, cells := 2, depth := 12 } } })),
      by decide +kernel⟩,
    ⟨State.reset, by decide +kernel⟩,
    ⟨(State.reset |> (fun s => { s with raster := { s.raster with lock := { s.raster.lock with lost := false } } }) |>
      (fun s => { s with raster := { s.raster with panel := some { width := 3840, height := 2160, rateNum := 60, rateDen := 1, cells := 2, depth := 12 } } }) |>
      (fun s => { s with raster := { s.raster with lock := { s.raster.lock with sinceEdge := some 0 } } }) |>
      (fun s => { s with power := { s.power with rails := [0] } })), by decide +kernel⟩,
    ⟨(State.reset |> (fun s => { s with raster := { s.raster with lock := { s.raster.lock with lost10m := false } } }) |>
      (fun s => { s with power := { s.power with rails := [0] } }) |> wrF Reg.RAST_LOCK Fld.RAST_LOCK_mode 2),
      by simp only [RegsCanonical]; decide +kernel⟩,
    ⟨(State.reset |> wrF Reg.RAST_STAT Fld.RAST_STAT_ref10m_present 1 |>
      (fun s => { s with power := { s.power with rails := [0] } }) |> wrF Reg.RAST_LOCK Fld.RAST_LOCK_mode 1),
      by simp only [RegsCanonical]; decide +kernel⟩,
    ⟨(State.reset |> (fun s => { s with power := { s.power with rails := [0] } })), (todBody ++ leBytes 4 (crc32c todBody)),
      100, by decide +kernel⟩,
    ⟨(State.reset |> (fun s => { s with power := { s.power with rails := [0] } })), (todBody ++ leBytes 4 (crc32c todBody)),
      99, 3, by decide +kernel⟩,
    ⟨(State.reset |> (fun s => { s with raster := { s.raster with lock := { s.raster.lock with tod := none } } }) |>
      (fun s => { s with power := { s.power with rails := [0] } })), by decide +kernel⟩,
    ⟨(State.reset |>
      (fun s => { s with raster := { s.raster with lock := { s.raster.lock with tod := some (2 ^ 48 - 1) } } }) |>
      (fun s => { s with power := { s.power with rails := [0] } })), (2 ^ 48 - 1), by decide +kernel⟩,
    ⟨(State.reset |> wrF Reg.RAST_STAT Fld.RAST_STAT_pps_present 1 |>
      (fun s => { s with power := { s.power with rails := [0] } })), by decide +kernel⟩,
    ⟨(State.reset |> sent (rawDsc 0xc03) |>
      (fun s => { s with raster := { s.raster with stamps := [{ sfn := 7, flip := {}, photon := {} }] } })), 0, 0, 0,
      (rawDsc 0xc03), ({ sfn := 7, flip := {}, photon := {} }), by decide +kernel⟩,
    ⟨(State.reset |> sent (rawDsc 0xc03) |> (fun s => { s with raster := { s.raster with stamps := [] } })), 0, 0, 0,
      (rawDsc 0xc03), by decide +kernel⟩,
    ⟨(State.reset |> sent (rawDsc 0xc04) |> wrF Reg.RAST_STAT Fld.RAST_STAT_tod_valid 0), 0, 0, 0, (rawDsc 0xc04),
      by decide +kernel⟩,
    ⟨(State.reset |> sent (rawDsc 0xc04) |> wrF Reg.RAST_STAT Fld.RAST_STAT_tod_valid 1), 0, 0, 0, (rawDsc 0xc04),
      by decide +kernel⟩⟩

theorem witness_Timelines :
    (∃ (s : State) (u : _), planeOn s 0 = false ∧ compClocked s = true ∧ s.raster.phase = .running ∧
      endFrame (applyWaiting s) = u ∧ u.comp.h1Waiting = false ∧ u.comp.waiting = []) ∧
    (∃ (s : State) (k f u : _), planeOn s 0 = false ∧ compClocked s = true ∧ s.raster.phase = .running ∧
      endFrame (applyWaiting s) = u ∧ u.comp.h1Waiting = true ∧ u.comp.waiting = [] ∧ u.hwl.frame = some f ∧ f.lead ≤ k) ∧
    (∃ (s : State) (k f u : _), planeOn s 0 = false ∧ compClocked s = true ∧ s.raster.phase = .running ∧
      endFrame (applyWaiting s) = u ∧ u.comp.h1Waiting = true ∧ u.comp.waiting = [] ∧ u.hwl.frame = some f ∧ k < f.lead) ∧
    (∃ (s : State) (c : CompFrame), s.comp.cur = some c ∧ compClocked s = true ∧ panelH s < c.next) ∧
    (∃ (s : State) (c : _), s.comp.cur = some c ∧ c.latchLine < c.next) ∧
    (∃ (s : State) (i pl y f c : _), i < 16 ∧ pl < 3 ∧ (viewOf s).kind i = 2 ∧ (frameLayer s i).current = some f ∧
      s.comp.cur = some c ∧
      servedLine (viewOf s) i pl y + (viewOf s).field (Reg.COMP_Ln_POS i) Fld.COMP_Ln_POS_y ≤ c.next + 255) ∧
    (∃ (s : State) (i pl y c : _), s.comp.cur = some c ∧
      c.next + 255 < servedLine (viewOf s) i pl y + (viewOf s).field (Reg.COMP_Ln_POS i) Fld.COMP_Ln_POS_y) ∧
    (∃ (s : State) (p q n d : _), dscOf s p q n = some d ∧ (layerOf s (d.u8 16)).fetching = some (p, q, n) ∧
      d.phase = .running ∧ fetchTurn s p (d.u8 16) = true) ∧
    (∃ (s : State), s.raster.phase = .training ∧ sluiceTrains s = false ∧ leadIn s ≤ s.raster.line) ∧
    (∃ (s : State), s.raster.phase = .running ∧ s.raster.irregular = false ∧ vtotal s ≤ s.raster.line) ∧
    (∃ (s : State), s.raster.phase = .toBlack ∧ s.raster.irregular = false ∧ vtotal s ≤ s.raster.line) ∧
    (∃ (s : State), s.raster.phase = .running ∧ s.raster.line < linesNow s) ∧
    (∃ (s : State) (k m f g u : _), planeOn s 0 = false ∧ compClocked s = true ∧ s.raster.phase = .running ∧
      endFrame (applyWaiting s) = u ∧ u.comp.h1Waiting = false ∧ u.comp.waiting = [f, g] ∧ k < f.lead ∧ g.lead ≤ m) ∧
    (∃ (s : State), compClocked s = false) ∧
    (∃ (s : State) (n : _), RegsCanonical s ∧ (rd s Reg.RSV_CORRECTED).toNat + n < 2 ^ 32) :=
  ⟨⟨(State.reset |> (fun s => { s with raster := { s.raster with phase := .running } })), _, by decide +kernel,
      by decide +kernel, by decide +kernel, rfl, by decide +kernel, by decide +kernel⟩,
    ⟨(State.reset |> (fun s => { s with raster := { s.raster with phase := .running } }) |>
      (fun s => { s with comp := { s.comp with h1Waiting := true } }) |>
      (fun s => { s with hwl := { s.hwl with frame := some hwFrame } })), 32, hwFrame, _, by decide +kernel,
      by decide +kernel, by decide +kernel, rfl, by decide +kernel, by decide +kernel, by decide +kernel, by decide +kernel⟩,
    ⟨(State.reset |> (fun s => { s with raster := { s.raster with phase := .running } }) |>
      (fun s => { s with comp := { s.comp with h1Waiting := true } }) |>
      (fun s => { s with hwl := { s.hwl with frame := some hwFrame } })), 31, hwFrame, _, by decide +kernel,
      by decide +kernel, by decide +kernel, rfl, by decide +kernel, by decide +kernel, by decide +kernel, by decide +kernel⟩,
    ⟨(State.reset |> (fun s => { s with comp := { s.comp with cur := some ({ cfn := 1, next := 5, latchLine := 4 }) } })),
      ({ cfn := 1, next := 5, latchLine := 4 }), by decide +kernel⟩,
    ⟨(State.reset |> (fun s => { s with comp := { s.comp with cur := some ({ cfn := 1, next := 5, latchLine := 4 }) } })),
      ({ cfn := 1, next := 5, latchLine := 4 }), by decide +kernel⟩,
    ⟨(State.reset |> (fun s => { s with comp := { s.comp with cur := some ({ cfn := 1, next := 5, latchLine := 4 }) } }) |>
      wrF (Reg.COMP_Ln_CFG 15) Fld.COMP_Ln_CFG_kind 2 |>
      setLayer 15 { current := some { port := 0, sq := 0, seq := 0, live := true, cfn := 1 } }), 15, 2, 0,
      ({ port := 0, sq := 0, seq := 0, live := true, cfn := 1 }), ({ cfn := 1, next := 5, latchLine := 4 }),
      by decide +kernel⟩,
    ⟨(State.reset |> (fun s => { s with comp := { s.comp with cur := some ({ cfn := 1, next := 5, latchLine := 4 }) } }) |>
      (fun s => { s with comp := { s.comp with cur := some { cfn := 1, next := 5, latchLine := 4 } } })), 15, 0, 261,
      ({ cfn := 1, next := 5, latchLine := 4 }), by decide +kernel⟩,
    ⟨(State.reset |> sent ({ rawDsc (0x0202 + 15 * 2 ^ 128) with phase := .running }) |>
      setLayer 15 { fetching := some (0, 0, 0) }), 0, 0, 0, ({ rawDsc (0x0202 + 15 * 2 ^ 128) with phase := .running }),
      by decide +kernel⟩,
    ⟨(State.reset |> (fun s => { s with raster := { s.raster with phase := .training } })), by decide +kernel⟩,
    ⟨(State.reset |> (fun s => { s with raster := { s.raster with phase := .running } }) |>
      (fun s => { s with raster := { s.raster with irregular := false } }) |> wrF Reg.RAST_GEOM Fld.RAST_GEOM_vtotal 4 |>
      (fun s => { s with raster := { s.raster with line := 4 } })), by decide +kernel⟩,
    ⟨(State.reset |> (fun s => { s with raster := { s.raster with phase := .toBlack } }) |>
      (fun s => { s with raster := { s.raster with irregular := false } }) |> wrF Reg.RAST_GEOM Fld.RAST_GEOM_vtotal 4 |>
      (fun s => { s with raster := { s.raster with line := 4 } })), by decide +kernel⟩,
    ⟨(State.reset |> (fun s => { s with raster := { s.raster with phase := .running } }) |>
      wrF Reg.RAST_GEOM Fld.RAST_GEOM_vtotal 4 |> (fun s => { s with raster := { s.raster with line := 3 } })),
      by decide +kernel⟩,
    ⟨(State.reset |> (fun s => { s with raster := { s.raster with phase := .running } }) |>
      (fun s => { s with comp := { s.comp with waiting := [hwFrame, { hwFrame with lead := 16 }] } })), 31, 16, hwFrame,
      ({ hwFrame with lead := 16 }), _, by decide +kernel, by decide +kernel, by decide +kernel, rfl, by decide +kernel,
      by decide +kernel, by decide +kernel, by decide +kernel⟩,
    ⟨(State.reset |> (fun s => { s with power := { s.power with state := .idle } })), by decide +kernel⟩,
    ⟨State.reset, 0, by simp only [RegsCanonical]; decide +kernel⟩⟩

theorem witness_TileCommands :
    (∃ (s : State) (c x y : Nat) (nx : Bool) (f : _) (sh : Shown), scanning s = true ∧ c ≠ 2 ∧ s.pipe.reruns = [] ∧
      (nx = false ∧ sh = s.raster.shown ∨ nx = true ∧ s.hold.play = none ∧ predicted s f = true ∧ sh = .composed f) ∧
      tileCould s c x y nx sh = true ∧ tileWaits s c x y nx sh = false ∧ (nx = true → frameFirst s c y = false) ∧
      rdF s Reg.PERF_STAT Fld.PERF_STAT_tag_k = 0) ∧
    (∃ (s : State) (c x y : Nat) (nx : Bool) (f : _) (sh : Shown), scanning s = true ∧ c ≠ 2 ∧ s.pipe.reruns = [] ∧
      (nx = false ∧ sh = s.raster.shown ∨ nx = true ∧ s.hold.play = none ∧ predicted s f = true ∧ sh = .composed f) ∧
      (tileCould s c x y nx sh && !tileWaits s c x y nx sh && !(nx && frameFirst s c y)) = false) ∧
    (∃ (s : State) (c x y : Nat) (j : Job), runningJob s c x y = some j ∧ (chainSteps c).length ≤ j.at_ ∧ c ≠ 2 ∧
      referenceReads s j = []) ∧
    (∃ (s : State) (c x y : Nat) (j : Job), s.pipe.jobs = [j] ∧ j.cell = c ∧ j.tc = x ∧ j.tr = y ∧ j.sfn = sfn s ∧
      j.completed = true ∧ scanning s = true ∧ windowClosed s c = false ∧ keyHolds s j = true) ∧
    (∃ (s : State) (c x y : Nat) (j : Job), s.pipe.jobs = [j] ∧ j.cell = c ∧ j.tc = x ∧ j.tr = y ∧ j.sfn = sfn s ∧
      j.completed = true ∧ scanning s = true ∧ windowClosed s c = false ∧ keyHolds s j = false) ∧
    (∃ (s : State) (c x y : Nat) (j : Job), scanning s = true ∧ tileExists s c x y = true ∧ tileDone s c x y = false ∧
      s.pipe.jobs = [j] ∧ j.cell = c ∧ j.tc = x ∧ j.tr = y ∧ j.sfn = sfn s ∧ j.completed = false) ∧
    (∃ (s : State) (c x y : Nat) (j : Job), runningJob s c x y = some j ∧ rdF s Reg.ENG_DEADLINE Fld.ENG_DEADLINE_warn ≠ 0 ∧
      j.group = [] ∧ (engineOf s j.engine).running = true ∧ (engineOf s j.engine).dwarn = false) ∧
    (∃ (s : State), scanning s = true ∧ s.pipe.nextZones = none ∧ s.pipe.jobs = [] ∧ s.pipe.reruns = []) ∧
    (∃ (s : State) (c : Nat), windowClosed s c = true) ∧
    (∃ (s : State) (c x y : Nat) (j : Job), scanning s = true ∧ tileExists s c x y = true ∧ tileDone s c x y = false ∧
      s.pipe.jobs = [] ∧ s.pipe.reruns = [j] ∧ j.cell = c ∧ j.tc = x ∧ j.tr = y ∧ j.sfn = sfn s) ∧
    (∃ (s : State) (c x y : Nat), scanning s = true ∧ tileExists s c x y = true ∧ tileDone s c x y = false ∧
      s.pipe.jobs = [] ∧ s.pipe.reruns = []) ∧
    (∃ (s : State) (c x y : Nat) (j : Job) (w : Nat × Nat) (ws : List (Nat × Nat)), runningJob s c x y = some j ∧
      (chainSteps c).length ≤ j.at_ ∧ referenceReads s j = w :: ws) :=
  ⟨⟨(State.reset |> (fun s => { s with raster := { s.raster with phase := .running } }) |>
      (fun s => { s with pipe := { s.pipe with reruns := [] } }) |> wrF Reg.PERF_STAT Fld.PERF_STAT_tag_k 0 |>
      (fun s => { s with raster := { s.raster with panel := some { width := 3840, height := 2160, rateNum := 60, rateDen := 1, cells := 1, depth := 12 }, shown := .hold 1 0 } }) |>
      (fun s => { s with power := { s.power with state := .run } })), 0, 0, 0, false, 0, (.hold 1 0), by decide +kernel⟩,
    ⟨(State.reset |> (fun s => { s with raster := { s.raster with phase := .running } }) |>
      (fun s => { s with pipe := { s.pipe with reruns := [] } })), 0, 0, 0, false, 0, (.nothing), by decide +kernel⟩,
    ⟨(State.reset |> atWork ({ job with at_ := 20 })), 0, 0, 0, ({ job with at_ := 20 }), by decide +kernel⟩,
    ⟨(State.reset |> (fun s => { s with pipe := { s.pipe with jobs := [({ job with completed := true })] } }) |>
      (fun s => { s with raster := { s.raster with phase := .running } })), 0, 0, 0, ({ job with completed := true }),
      by decide +kernel⟩,
    ⟨(State.reset |>
      (fun s => { s with pipe := { s.pipe with jobs := [({ job with completed := true, key := { job.key with zones := some [(1, 1)] } })] } }) |>
      (fun s => { s with raster := { s.raster with phase := .running } })), 0, 0, 0,
      ({ job with completed := true, key := { job.key with zones := some [(1, 1)] } }), by decide +kernel⟩,
    ⟨(State.reset |> (fun s => { s with raster := { s.raster with phase := .running } }) |>
      (fun s => { s with pipe := { s.pipe with jobs := [job] } }) |>
      (fun s => { s with raster := { s.raster with panel := some { width := 3840, height := 2160, rateNum := 60, rateDen := 1, cells := 2, depth := 12 } } })),
      0, 0, 0, job, by decide +kernel⟩,
    ⟨(State.reset |> wrF Reg.ENG_DEADLINE Fld.ENG_DEADLINE_warn 1 |> atWork job |> running [] {} |>
      wrF Reg.ENG_DEADLINE Fld.ENG_DEADLINE_warn 1), 0, 0, 0, job, by decide +kernel⟩,
    ⟨(State.reset |> (fun s => { s with raster := { s.raster with phase := .running } }) |>
      (fun s => { s with pipe := { s.pipe with nextZones := none } }) |>
      (fun s => { s with pipe := { s.pipe with jobs := [] } }) |>
      (fun s => { s with pipe := { s.pipe with reruns := [] } })), by decide +kernel⟩,
    ⟨(State.reset |>
      (fun s => { s with raster := { s.raster with panel := some { width := 3840, height := 2160, rateNum := 60, rateDen := 1, cells := 2, depth := 12 } } }) |>
      wrF Reg.RAST_STAT Fld.RAST_STAT_timeline 1 |> wrF Reg.RAST_LAG Fld.RAST_LAG_lag 0), 0, by decide +kernel⟩,
    ⟨(State.reset |> (fun s => { s with raster := { s.raster with phase := .running } }) |>
      (fun s => { s with pipe := { s.pipe with jobs := [] } }) |>
      (fun s => { s with pipe := { s.pipe with reruns := [job] } }) |>
      (fun s => { s with raster := { s.raster with panel := some { width := 3840, height := 2160, rateNum := 60, rateDen := 1, cells := 2, depth := 12 } } })),
      0, 0, 0, job, by decide +kernel⟩,
    ⟨(State.reset |> (fun s => { s with raster := { s.raster with phase := .running } }) |>
      (fun s => { s with pipe := { s.pipe with jobs := [] } }) |>
      (fun s => { s with pipe := { s.pipe with reruns := [] } }) |>
      (fun s => { s with raster := { s.raster with panel := some { width := 3840, height := 2160, rateNum := 60, rateDen := 1, cells := 2, depth := 12 } } })),
      0, 0, 0, by decide +kernel⟩,
    ⟨(State.reset |> atWork ({ job with at_ := 20, size := 64 }) |> setCluster 0 { flips := [(0, 2)] }), 0, 0, 0,
      ({ job with at_ := 20, size := 64 }), ((8, 0)), ([]), by decide +kernel⟩⟩

theorem witness_EngineEvents :
    (∃ (s : State) (e : Nat), (engineOf s e).running = true) ∧
    (∃ (s : State) (e : Nat) (r : MoveReq) (q : _), e < 32 ∧ compClocked s = true ∧ (clusterOf s e).queue = r :: q ∧
      r.input = false ∧ r.window ≠ 4) ∧
    (∃ (s : State) (e : Nat) (r : MoveReq) (q : _), e < 32 ∧ compClocked s = true ∧ (clusterOf s e).queue = r :: q ∧
      r.input = false ∧ r.window = 4 ∧ (∀ x ∈ r.words, wrongBits s (r.engine / 8) x = 0)) ∧
    (∃ (s : State) (e i : Nat) (r : MoveReq) (n : _), (clusterOf s e).queue[i]? = some r ∧ r.starved = false ∧
      max 1 (rdF s Reg.ENG_MOVER Fld.ENG_MOVER_starve) ≤ n) ∧
    (∃ (s : State) (e : Nat) (k entry : _), (engineOf s e).running = true ∧ (engineOf s e).stall = .free ∧
      compClocked s = true ∧ runningKernel s e = some k ∧ handlerDue k (engineOf s e) = some (entry, true)) ∧
    (∃ (s : State) (e : Nat) (k entry m : _), (engineOf s e).running = true ∧ (engineOf s e).stall = .waiting m ∧
      compClocked s = true ∧ runningKernel s e = some k ∧ handlerDue k (engineOf s e) = some (entry, false)) ∧
    (∃ (s : State) (e : Nat) (id : _), (engineOf s e).stall = .barrier id ∧ barrierGroup s e = [e]) ∧
    (∃ (s : State) (e : Nat) (m : _), (engineOf s e).stall = .waiting m ∧ waitHolds (engineOf s e) m = true) ∧
    (∃ (s : State) (e : Nat) (j t : _), (engineOf s e).running = true ∧ (engineOf s e).stall = .halting ∧
      (engineOf s e).tags = 0 ∧ jobOf s e = some j ∧ j.group = [] ∧ j.engine = e ∧ tabWf (fun _ => ({} :
      Engine)) s.array.engines = true ∧ setEngine e { engineOf s e with running := false } s = t ∧ (∀ x ∈ outputWords t j,
      wrongBits t (e / 8) x = 0)) ∧
    (∃ (s : State) (e : Nat) (w : _), nextWord s e = some (some w) ∧ eddyDecode e w = none) ∧
    (∃ (s : State) (e : Nat), nextWord s e = some none) ∧
    (∃ (s : State) (e : Nat), e < 32 ∧ compClocked s = true ∧ rdB s Reg.ENG_CTRL Fld.ENG_CTRL_patrol_en = true ∧
      (clusterOf s e).aborted = [] ∧ (clusterOf s e).region < 1535 ∧ tabWf (fun _ => ({} : Cluster)) s.array.clusters = true) ∧
    (∃ (s : State) (e : Nat) (x : _), wrongBits s (e / 8) x = 1 ∧ patrolOn s (e / 8) = false) ∧
    (∃ (s : State) (e : Nat) (x : _), 2 ≤ wrongBits s (e / 8) x ∧ patrolOn s (e / 8) = false ∧ hasCopy s e x = false) ∧
    (∃ (s : State) (e : Nat) (bs : List (Nat × Byte)), 4 ≤ e % 8 ∧ clashes (clusterOf s (e / 8)).portA bs = []) ∧
    (∃ (s : State) (e : Nat) (bs : List (Nat × Byte)) (lost : List Nat), 4 ≤ e % 8 ∧
      clashes (clusterOf s (e / 8)).portA bs = lost ∧ lost ≠ []) ∧
    (∃ (s : State) (e : Nat) (r : MoveReq) (q : List MoveReq), e < 32 ∧ compClocked s = true ∧ (clusterOf s e).queue = r ::
      q ∧ r.input = true) ∧
    (∃ (s : State) (e : Nat), e < 32 ∧ patrolOn s e = false) :=
  ⟨⟨(State.reset |> running [] {}), 0, by decide +kernel⟩,
    ⟨(State.reset |>
      setCluster 31 { queue := [{ engine := 0, tag := 0, window := 0, plane := 0, lines := 1, x := 0, y := 0, width := 1, pitch := 1, addr := 0 }] } |>
      running [] {}), 31,
      ({ engine := 0, tag := 0, window := 0, plane := 0, lines := 1, x := 0, y := 0, width := 1, pitch := 1, addr := 0 }),
      ([]), by decide +kernel⟩,
    ⟨(State.reset |>
      setCluster 31 { queue := [{ engine := 0, tag := 0, window := 4, plane := 0, lines := 1, x := 0, y := 0, width := 1, pitch := 1, addr := 0 }] }),
      31,
      ({ engine := 0, tag := 0, window := 4, plane := 0, lines := 1, x := 0, y := 0, width := 1, pitch := 1, addr := 0 }),
      ([]), by decide +kernel⟩,
    ⟨(State.reset |>
      setCluster 31 { queue := [{ engine := 0, tag := 0, window := 0, plane := 0, lines := 1, x := 0, y := 0, width := 1, pitch := 1, addr := 0 }] }),
      31, 0,
      ({ engine := 0, tag := 0, window := 0, plane := 0, lines := 1, x := 0, y := 0, width := 1, pitch := 1, addr := 0 }),
      65535, by decide +kernel⟩,
    ⟨(State.reset |> running [] { dwarnPend := true, mdonePend := true } |>
      (fun s => { s with tables := { s.tables with kernels := [(1, some ({ kernel [] with entryWarn := 8, entryMover := 4 }))] } })),
      0, ({ kernel [] with entryWarn := 8, entryMover := 4 }), 8, by decide +kernel⟩,
    ⟨(State.reset |> running [] { stall := .waiting 2, mdonePend := true } |>
      (fun s => { s with tables := { s.tables with kernels := [(1, some ({ kernel [] with entryWarn := 8, entryMover := 4 }))] } })),
      0, ({ kernel [] with entryWarn := 8, entryMover := 4 }), 4, 2, by decide +kernel⟩,
    ⟨(State.reset |> running [] { stall := .barrier 3 } |> atWork job), 0, 3, by decide +kernel⟩,
    ⟨(State.reset |> running [] { stall := .waiting 1 }), 0, 1, by decide +kernel⟩,
    ⟨(State.reset |> running [] { stall := .halting } |> atWork job), 0, job, _, by decide +kernel, by decide +kernel,
      by decide +kernel, by decide +kernel, by decide +kernel, by decide +kernel, by decide +kernel, rfl, by decide +kernel⟩,
    ⟨(State.reset |> running [0x7F, 0, 0, 0] {}), 0, (0x7F), by decide +kernel⟩,
    ⟨(State.reset |> running [] { pc := 4 }), 0, by decide +kernel⟩,
    ⟨(State.reset |> wrF Reg.ENG_CTRL Fld.ENG_CTRL_patrol_en 1 |> running [] {} |>
      wrF Reg.ENG_CTRL Fld.ENG_CTRL_patrol_en 1 |> setCluster 31 { region := 1534 }), 31, by decide +kernel⟩,
    ⟨(State.reset |> setCluster 31 { flips := [(4095, 1)] } |> wrF Reg.ENG_CTRL Fld.ENG_CTRL_patrol_en 0), 255, ((8, 4095)),
      by decide +kernel⟩,
    ⟨(State.reset |> setCluster 31 { flips := [(4095, 2)] } |> wrF Reg.ENG_CTRL Fld.ENG_CTRL_patrol_en 0), 255, ((8, 4095)),
      by decide +kernel⟩,
    ⟨State.reset, 255, ([(7, 1)]), by decide +kernel⟩,
    ⟨(State.reset |> setCluster 31 { portA := [(7, 2)] }), 255, ([(7, 1)]), ([0]), by decide +kernel⟩,
    ⟨(State.reset |>
      setCluster 31 { queue := [{ engine := 0, tag := 0, window := 0, plane := 0, lines := 1, x := 0, y := 0, width := 1, pitch := 1, addr := 0, input := true }] } |>
      (fun s => { s with power := { s.power with state := .run } })), 31,
      ({ engine := 0, tag := 0, window := 0, plane := 0, lines := 1, x := 0, y := 0, width := 1, pitch := 1, addr := 0, input := true }),
      ([]), by decide +kernel⟩,
    ⟨(State.reset |> wrF Reg.ENG_CTRL Fld.ENG_CTRL_patrol_en 0), 31, by decide +kernel⟩⟩

theorem witness_ReservoirUpkeep :
    (∃ (s : State), rdB s Reg.RSV_STAT Fld.RSV_STAT_scrubbing = true ∧ panelPowered s = true ∧
      s.rsv.scrubbed + 1 < 268435456) ∧
    (∃ (s : State) (r : _), rdB s Reg.RSV_STAT Fld.RSV_STAT_scrubbing = true ∧ panelPowered s = true ∧ r ≤ 5) ∧
    (∃ (s : State) (p : _) (v : Word), ownerWrites s p = true ∧ ready s = false ∧
      128 ≤ rdF (writeRwl Reg.RSV_ALLOC1 v s) Reg.RSV_ALLOC1 Fld.RSV_ALLOC1_tables ∧
      rdF (writeRwl Reg.RSV_ALLOC1 v s) Reg.RSV_ALLOC0 Fld.RSV_ALLOC0_demura + rdF (writeRwl Reg.RSV_ALLOC1 v s) Reg.RSV_ALLOC0 Fld.RSV_ALLOC0_layer + rdF (writeRwl Reg.RSV_ALLOC1 v s) Reg.RSV_ALLOC1 Fld.RSV_ALLOC1_hold + rdF (writeRwl Reg.RSV_ALLOC1 v s) Reg.RSV_ALLOC1 Fld.RSV_ALLOC1_tables ≤ 12840) ∧
    (∃ (s : State) (p : _) (v : Word), ownerWrites s p = true ∧ ready s = false ∧
      rdF (writeRwl Reg.RSV_ALLOC1 v s) Reg.RSV_ALLOC1 Fld.RSV_ALLOC1_tables < 128) ∧
    (∃ (s : State) (p : _) (v : Word), ownerWrites s p = true ∧ ready s = false ∧
      128 ≤ rdF (writeRwl Reg.RSV_ALLOC0 v s) Reg.RSV_ALLOC1 Fld.RSV_ALLOC1_tables ∧
      rdF (writeRwl Reg.RSV_ALLOC0 v s) Reg.RSV_ALLOC0 Fld.RSV_ALLOC0_demura + rdF (writeRwl Reg.RSV_ALLOC0 v s) Reg.RSV_ALLOC0 Fld.RSV_ALLOC0_layer + rdF (writeRwl Reg.RSV_ALLOC0 v s) Reg.RSV_ALLOC1 Fld.RSV_ALLOC1_hold + rdF (writeRwl Reg.RSV_ALLOC0 v s) Reg.RSV_ALLOC1 Fld.RSV_ALLOC1_tables ≤ 12840) :=
  ⟨⟨(State.reset |> wrF Reg.RSV_STAT Fld.RSV_STAT_scrubbing 1), by decide +kernel⟩,
    ⟨(State.reset |> wrF Reg.RSV_STAT Fld.RSV_STAT_scrubbing 1), 0, by decide +kernel⟩,
    ⟨(State.reset |> linkUp), 0, (0x00800000), by decide +kernel⟩,
    ⟨(State.reset |> linkUp), 0, (0x10000), by decide +kernel⟩,
    ⟨(State.reset |> linkUp), 0, 0, by decide +kernel⟩⟩

theorem witness_SluiceLink :
    (∃ (s : State) (a : Nat) (y o vs : _), laneIs s 1 a Lane.active = true ∧ carriesSegment s a = true ∧ scanning s = true ∧
      a ≤ 127 ∧ y < panelH s ∧ packetLine s (laneCell a) y false = some vs ∧ offsetFits s a o = true) ∧
    (∃ (s : State) (a : Nat) (ad v r out : _), (laneOf s 1 a).cfgQueue = (ad, v) :: r ∧ 16 ≤ ad ∧
      laneIs s 1 a Lane.active = true ∧ s.raster.phase = .off ∧ s.raster.driven = true ∧ s.slk.dcfg = [] ∧
      (leBytes 1 ad ++ leBytes 4 v ++ leBytes 1 ((laneOf s 1 a).cfgSeq % 256)) ++ [BitVec.ofNat 8 (crc8 (BitVec.ofNat 8 0x99 ::
      leBytes 1 ad ++ leBytes 4 v ++ leBytes 1 ((laneOf s 1 a).cfgSeq % 256)))] = out) ∧
    (∃ (s : State) (p : _) (v : Word), ownerWrites s p = true ∧ field v 0 1 = 1 ∧ resultBusy s Reg.SLK_DCFG_RESULT = false ∧
      rdB s Reg.SLK_DCFG_ADDR Fld.SLK_DCFG_ADDR_read = false ∧ rdF s Reg.SLK_DCFG_ADDR Fld.SLK_DCFG_ADDR_address = 0) ∧
    (∃ (s : State) (p : _) (v : Word), ownerWrites s p = true ∧ field v 0 1 = 1 ∧ resultBusy s Reg.SLK_DCFG_RESULT = false ∧
      16 ≤ rdF s Reg.SLK_DCFG_ADDR Fld.SLK_DCFG_ADDR_address ∧ dcfgMask s = []) ∧
    (∃ (s : State) (a : Nat) (p : _) (v : Word), ownerWrites s p = true ∧ field v 0 1 = 1 ∧
      resultBusy s Reg.SLK_DCFG_RESULT = false ∧ rdB s Reg.SLK_DCFG_ADDR Fld.SLK_DCFG_ADDR_read = false ∧
      16 ≤ rdF s Reg.SLK_DCFG_ADDR Fld.SLK_DCFG_ADDR_address ∧ dcfgMask s = [a] ∧ laneIs s 1 a Lane.active = true ∧
      RegsCanonical s) ∧
    (∃ (s : State) (a : Nat) (p : _) (v : Word), ownerWrites s p = true ∧ field v 0 1 = 1 ∧
      resultBusy s Reg.SLK_DCFG_RESULT = false ∧ rdB s Reg.SLK_DCFG_ADDR Fld.SLK_DCFG_ADDR_read = true ∧ dcfgMask s = [a] ∧
      laneIs s 1 a Lane.active = true) ∧
    (∃ (s : State) (b : _), b ≤ 7 ∧ bcFree s b = true ∧ laneIs s 1 (16 * b) Lane.prbs = true) ∧
    (∃ (s : State) (a : Nat), a ≤ 127 ∧ bcFree s (a / 16) = true ∧ laneIs s 1 a Lane.active = true) ∧
    (∃ (s : State) (b : _) (q : BcReq) (bs : List Byte), oldestBc s b = some q ∧ q.held = false ∧
      bs.length = replyLength q.cmd) ∧
    (∃ (s : State) (b : _) (q : BcReq), oldestBc s b = some q ∧ q.held = false ∧ q.again = true) ∧
    (∃ (s : State) (b : _) (q : BcReq), oldestBc s b = some q ∧ q.held = false ∧ q.again = false) ∧
    (∃ (b n : _), b ≤ 7 ∧ 1 ≤ n ∧ n ≤ 16) ∧
    (∃ (s : State) (a : Nat) (f : _), a ≤ 127 ∧ f < 256 ∧ laneIs s 1 a Lane.fast = true) ∧
    (∃ (s : State) (b : _) (q : BcReq) (fr : List Byte), oldestBc s b = some q ∧ q.held = false ∧
      fr ≠ replyFrame q ((fr.drop 1).take (replyLength q.cmd))) ∧
    (∃ (s : State) (b : _) (q : BcReq), oldestBc s b = some q ∧ q.held = true ∧ bcFree s b = true) ∧
    (∃ (s : State) (b : _), bcFree s b = false) ∧
    (∃ (a : Nat) (fr : List Byte), fr ≠ relockFrame a (leAt fr 1 1)) ∧
    (∃ (s : State) (a : Nat), laneIs s 1 a Lane.off = false ∧ (laneOf s 1 a).rollAgain = true) ∧
    (∃ (s : State) (a : Nat), laneIs s 1 a Lane.off = false ∧ (laneOf s 1 a).rollAgain = false) :=
  ⟨⟨(State.reset |> wrF (Reg.LANE_STAT 1 103) Fld.LANE_STAT_state Lane.active |>
      (fun s => { s with raster := { s.raster with phase := .running } }) |>
      wrF (Reg.LANE_STAT 1 103) Fld.LANE_STAT_state 5 |>
      (fun s => { s with raster := { s.raster with panel := some { width := 3840, height := 2160, rateNum := 60, rateDen := 1, cells := 2, depth := 12 } } }) |>
      wrF Reg.PIPE_FMT Fld.PIPE_FMT_seg_width 480 |> (fun s => { s with raster := { s.raster with shown := .black } })), 103,
      0, 0, (driveLine (State.reset |>
      (fun s => { s with raster := { s.raster with panel := some { width := 3840, height := 2160, rateNum := 60, rateDen := 1, cells := 2, depth := 12 } } }) |>
      (fun s => { s with raster := { s.raster with shown := .black } })) 1 0), by decide +kernel⟩,
    ⟨(State.reset |> wrF (Reg.LANE_STAT 1 127) Fld.LANE_STAT_state Lane.active |>
      (fun s => { s with raster := { s.raster with phase := .off } }) |>
      (fun s => { s with raster := { s.raster with driven := true } }) |>
      (fun s => { s with slk := { s.slk with dcfg := [] } }) |> wrF (Reg.LANE_STAT 1 127) Fld.LANE_STAT_state 5 |>
      setLane 1 127 { cfgQueue := [(16, 7)] }), 127, 16, 7, ([]), _, by decide +kernel, by decide +kernel, by decide +kernel,
      by decide +kernel, by decide +kernel, by decide +kernel, rfl⟩,
    ⟨(State.reset |> linkUp |> wrF Reg.SLK_DCFG_ADDR Fld.SLK_DCFG_ADDR_read 0 |>
      wrF Reg.SLK_DCFG_ADDR Fld.SLK_DCFG_ADDR_address 0), 0, 1, by decide +kernel⟩,
    ⟨(State.reset |> linkUp |> wrF Reg.SLK_DCFG_ADDR Fld.SLK_DCFG_ADDR_address 16), 0, 1, by decide +kernel⟩,
    ⟨(State.reset |> linkUp |> wrF Reg.SLK_DCFG_ADDR Fld.SLK_DCFG_ADDR_read 0 |>
      wrF (Reg.LANE_STAT 1 127) Fld.LANE_STAT_state Lane.active |> wr (Reg.SLK_DCFG_MASKi 3) (2 ^ 31) |>
      wrF (Reg.LANE_STAT 1 127) Fld.LANE_STAT_state 5 |> wrF Reg.SLK_DCFG_ADDR Fld.SLK_DCFG_ADDR_address 16), 127, 0, 1,
      by simp only [RegsCanonical]; decide +kernel⟩,
    ⟨(State.reset |> linkUp |> wrF Reg.SLK_DCFG_ADDR Fld.SLK_DCFG_ADDR_read 1 |>
      wrF (Reg.LANE_STAT 1 127) Fld.LANE_STAT_state Lane.active |> wr (Reg.SLK_DCFG_MASKi 3) (2 ^ 31) |>
      wrF (Reg.LANE_STAT 1 127) Fld.LANE_STAT_state 5), 127, 0, 1, by decide +kernel⟩,
    ⟨(State.reset |> wrF (Reg.LANE_STAT 1 (16 * 7)) Fld.LANE_STAT_state Lane.prbs), 7, by decide +kernel⟩,
    ⟨(State.reset |> wrF (Reg.LANE_STAT 1 127) Fld.LANE_STAT_state Lane.active), 127, by decide +kernel⟩,
    ⟨(State.reset |> (fun s => { s with slk := { s.slk with bc := [{ lane := 16, cmd := 3, args := [] }] } })), 1,
      ({ lane := 16, cmd := 3, args := [] }), ([0]), by decide +kernel⟩,
    ⟨(State.reset |>
      (fun s => { s with slk := { s.slk with bc := [{ lane := 16, cmd := 3, args := [], again := true }] } })), 1,
      ({ lane := 16, cmd := 3, args := [], again := true }), by decide +kernel⟩,
    ⟨(State.reset |> (fun s => { s with slk := { s.slk with bc := [{ lane := 16, cmd := 3, args := [] }] } })), 1,
      ({ lane := 16, cmd := 3, args := [] }), by decide +kernel⟩,
    ⟨7, 16, by decide +kernel⟩,
    ⟨(State.reset |> wrF (Reg.LANE_STAT 1 127) Fld.LANE_STAT_state Lane.fast), 127, 0, by decide +kernel⟩,
    ⟨(State.reset |> (fun s => { s with slk := { s.slk with bc := [{ lane := 16, cmd := 3, args := [] }] } })), 1,
      ({ lane := 16, cmd := 3, args := [] }), ([0x30, 1, 2]), by decide +kernel⟩,
    ⟨(State.reset |> (fun s => { s with slk := { s.slk with bc := [{ lane := 16, cmd := 3, args := [], held := true }] } })),
      1, ({ lane := 16, cmd := 3, args := [], held := true }), by decide +kernel⟩,
    ⟨(State.reset |> wrF (Reg.LANE_STAT 1 127) Fld.LANE_STAT_state 6), 7, by decide +kernel⟩,
    ⟨0, ([0xE0, 1, 2]), by decide +kernel⟩,
    ⟨(State.reset |> wrF (Reg.LANE_STAT 1 127) Fld.LANE_STAT_state 5 |> setLane 1 127 { rollAgain := true }), 127,
      by decide +kernel⟩,
    ⟨(State.reset |> wrF (Reg.LANE_STAT 1 127) Fld.LANE_STAT_state 5), 127, by decide +kernel⟩⟩

theorem witness_BacklightLink :
    (∃ (s : State) (k : Nat) (a b : _), controllerOn s k = true ∧ a < 36 ∧ b < 36 ∧ scanningMode s = true) ∧
    (∃ (s : State) (k : Nat) (a : _), controllerOn s k = true ∧ a < 36) ∧
    (∃ (s : State) (k : Nat) (r f b u : _), linkOn s k = true ∧ r < 36 ∧ zonesOf s f = some b ∧ dataTurn s k r f = true ∧
      { s with pipe := { s.pipe with dataFor := tabSet (fun _ => 0) s.pipe.dataFor (64 * k + r) f } } = u) ∧
    (∃ (s : State) (k : Nat) (st c : _), linkOn s k = true ∧ dataWaits s k = false ∧ s.pipe.statusSent.contains k = false ∧
      crc8 [BitVec.ofNat 8 (st % 256), 0] ≠ c) ∧
    (∃ (s : State) (k : Nat), linkOn s k = true ∧ dataWaits s k = false ∧ s.pipe.statusSent.contains k = false) ∧
    (∃ (s : State), s.power.state = .run ∧ rdF s Reg.PIPE_TEMP_CFG Fld.PIPE_TEMP_CFG_sensor_en = 0 ∧ s.pipe.temp = none ∧
      (∀ n, n < 8 → sensorValid s n = false)) ∧
    (∃ (s : State), RegsCanonical s ∧ s.power.state = .run ∧ rdF s Reg.PIPE_TEMP_CFG Fld.PIPE_TEMP_CFG_sensor_en = 1) :=
  ⟨⟨(State.reset |> (fun s => { s with raster := { s.raster with phase := .running } }) |>
      (fun s => { s with pipe := { s.pipe with ctrls := 8 } }) |>
      (fun s => { s with pipe := { s.pipe with lit := true } }) |> wrF Reg.RAST_FLASH_CTRL Fld.RAST_FLASH_CTRL_mode 1), 3,
      35, 35, by decide +kernel⟩,
    ⟨(State.reset |> (fun s => { s with raster := { s.raster with phase := .running } }) |>
      (fun s => { s with pipe := { s.pipe with ctrls := 8 } }) |> (fun s => { s with pipe := { s.pipe with lit := true } })),
      3, 35, by decide +kernel⟩,
    ⟨(State.reset |> (fun s => { s with raster := { s.raster with phase := .running } }) |>
      (fun s => { s with pipe := { s.pipe with ctrls := 8 } }) |> (fun s => { s with sfn := 5 }) |>
      (fun s => { s with pipe := { s.pipe with firstFrame := 5 } })), 3, 35, 5, ([]), _, by decide +kernel,
      by decide +kernel, by decide +kernel, by decide +kernel, rfl⟩,
    ⟨(State.reset |> (fun s => { s with raster := { s.raster with phase := .running } }) |>
      (fun s => { s with pipe := { s.pipe with ctrls := 8 } }) |> (fun s => { s with pipe := { s.pipe with lit := true } })),
      3, 0, 1, by decide +kernel⟩,
    ⟨(State.reset |> (fun s => { s with raster := { s.raster with phase := .running } }) |>
      (fun s => { s with pipe := { s.pipe with ctrls := 8 } }) |> (fun s => { s with pipe := { s.pipe with lit := true } })),
      3, by decide +kernel⟩,
    ⟨(State.reset |> (fun s => { s with power := { s.power with state := .run } }) |>
      wrF Reg.PIPE_TEMP_CFG Fld.PIPE_TEMP_CFG_sensor_en 0 |> (fun s => { s with pipe := { s.pipe with temp := none } })),
      by decide +kernel⟩,
    ⟨(State.reset |> (fun s => { s with power := { s.power with state := .run } }) |>
      wrF Reg.PIPE_TEMP_CFG Fld.PIPE_TEMP_CFG_sensor_en 1), by simp only [RegsCanonical]; decide +kernel⟩⟩

/-! ### Eddy instructions -/

/-- Engine 0 is about to run an instruction, with those registers; patrol is at the last region of its cluster. -/
def before (i : Instr) (v : Engine) : State :=
  setCluster 0 { region := 1535 } (running (leBytes 4 ((eddyWord i).getD 0).toNat) v State.reset)

/-- What Undisturbed asks, as a Bool. -/
def clean (s : State) (e : Nat) (words : List (Nat × Nat)) : Bool :=
  words.all (fun x => decide (wrongBits s (e / 8) x = 0)) &&
    (!patrolOn s (e / 8) || words.all (fun x => decide (patrolRegion x ≠ dueRegion (clusterOf s (e / 8)))))

theorem clean_of {s : State} {e : Nat} {words : List (Nat × Nat)} (h : clean s e words = true) : Undisturbed s e words := by
  simp only [clean, Bool.and_eq_true, List.all_eq_true, decide_eq_true_eq, Bool.or_eq_true, Bool.not_eq_true'] at h
  refine ⟨h.1, fun hp => ?_⟩
  rcases h.2 with h | h
  · rw [hp] at h; cases h
  · exact h

theorem reaches_of {s : State} {e ea n : Nat} (h : (eaOk s e ea n && clean s e (wordsAt s e ea n)) = true) : Reaches s e ea n := by
  simp only [Bool.and_eq_true] at h
  exact ⟨h.1, clean_of h.2⟩

theorem reachesPad_of {s : State} {e ea n : Nat} (h : (inPad ea n && clean s e (wordsAt s e ea n)) = true) :
    ReachesPad s e ea n := by
  simp only [Bool.and_eq_true] at h
  exact ⟨h.1, clean_of h.2⟩

/-- What Issues asks, as a Bool. -/
def fetched (s : State) (i : Instr) : Bool :=
  match eddyWord i with
  | some w => decide (nextWord s (eddyEngine i) = some (some w)) && clean s (eddyEngine i) [codeWord s (eddyEngine i)] &&
      decide ((clusterOf s (eddyEngine i / 8)).portA = [])
  | none => false

theorem issues_of {s : State} {i : Instr} (h : fetched s i = true) : Issues s i := by
  unfold fetched at h
  split at h
  · rename_i w hw
    simp only [Bool.and_eq_true, decide_eq_true_eq] at h
    exact ⟨⟨w, hw, h.1.1⟩, clean_of h.1.2, h.2⟩
  · cases h

theorem issues_each {l : List Instr} {v : Engine} (h : l.all (fun i => fetched (before i v) i) = true) :
    ∀ i ∈ l, Issues (before i v) i := fun i hi => issues_of (List.all_eq_true.mp h i hi)

theorem issues_all {l : List Instr} (h : l.all (fun i => fetched (before i {}) i) = true) :
    ∀ i ∈ l, ∃ s, Issues s i := fun i hi => ⟨_, issues_of (List.all_eq_true.mp h i hi)⟩

/-- Whether an outcome is a next state. -/
def isNext (o : Host.Outcome State Fault Refusal) : Bool := match o with | .next _ => true | _ => false

theorem next_of {o : Host.Outcome State Fault Refusal} (h : isNext o = true) : ∃ t, o = .next t := by
  cases o with
  | next t => exact ⟨t, rfl⟩
  | fault _ => cases h
  | refused _ => cases h

theorem witness_EddyScalars : ∀ i ∈ ([.add 0 31 30 29, .sub 0 31 30 29, .and 0 31 30 29, .or 0 31 30 29, .xor 0 31 30 29,
    .shl 0 31 30 29, .shr 0 31 30 29, .sra 0 31 30 29, .slt 0 31 30 29, .sltu 0 31 30 29, .min 0 31 30 29,
    .minu 0 31 30 29, .max 0 31 30 29, .maxu 0 31 30 29, .mul 0 31 30 29, .mulh 0 31 30 29, .mulhu 0 31 30 29] : List Instr),
    ∃ s, Issues s i := issues_all (by decide +kernel)

theorem witness_EddyScalars_immediate : ∀ i ∈ ([.addi 0 31 30 0x7FFF, .andi 0 31 30 0x7FFF, .ori 0 31 30 0x7FFF, .xori 0 31 30 0x7FFF,
    .slti 0 31 30 0x4000, .sltiu 0 31 30 0x4000, .shli 0 31 30 31, .shri 0 31 30 31, .srai 0 31 30 31, .lui 0 31 0xFFFFF,
    .jal 0 31 0x80000, .jalr 0 31 30 0x4000, .br 0 0 31 30 0x800, .br 0 1 31 30 0x800, .br 0 2 31 30 0x800,
    .br 0 3 31 30 0x800, .br 0 4 31 30 0x800, .br 0 5 31 30 0x7FF, .br 0 6 31 30 0, .br 0 7 31 30 0] : List Instr),
    ∃ s, Issues s i := issues_all (by decide +kernel)

theorem witness_EddyScalars_branch : ∃ (x y : BitVec 32),
    (true = true ↔ x.toInt < y.toInt) ∧ ¬ (x.toNat < y.toNat) ∧ x ≠ y := ⟨0xFFFFFFFF, 0, by decide⟩

theorem witness_EddyScalars_target : ∃ k, eddyWord (.halt 0) ≠ none ∧ canIssue (before (.halt 0) { pc := 4 }) 0 = some k ∧
    k.codeBytes < (engineOf (before (.halt 0) { pc := 4 }) 0).pc / 4 * 4 + 4 :=
  ⟨kernel (leBytes 4 0x3E), by decide, by decide +kernel, by decide +kernel⟩

theorem reachable {l : List Instr} {v : Engine} {ea n : Nat} (h : l.all (fun i => fetched (before i v) i &&
    (eaOk (before i v) 0 ea n && clean (before i v) 0 (wordsAt (before i v) 0 ea n))) = true) :
    ∀ i ∈ l, Issues (before i v) i ∧ Reaches (before i v) 0 ea n := by
  intro i hi
  have hi := List.all_eq_true.mp h i hi
  rw [Bool.and_eq_true] at hi
  exact ⟨issues_of hi.1, reaches_of hi.2⟩

theorem witness_EddyMemory : ∃ v : Engine, (v.sreg 2 + (0xFFC : BitVec 12).signExtend 32).toNat = 60 ∧
    (∀ i ∈ ([.lw 0 1 2 0xFFC, .sw 0 1 2 0xFFC] : List Instr), Issues (before i v) i ∧ Reaches (before i v) 0 (60 / 4 * 4) 4) ∧
    (∀ i ∈ ([.lh 0 1 2 0xFFC, .lhu 0 1 2 0xFFC, .sh 0 1 2 0xFFC] : List Instr),
      Issues (before i v) i ∧ Reaches (before i v) 0 (60 / 2 * 2) 2) ∧
    (∀ i ∈ ([.lb 0 1 2 0xFFC, .lbu 0 1 2 0xFFC, .sb 0 1 2 0xFFC] : List Instr),
      Issues (before i v) i ∧ Reaches (before i v) 0 60 1) :=
  ⟨{ s := [(2, 64)] }, by decide +kernel, reachable (by decide +kernel), reachable (by decide +kernel), reachable (by decide +kernel)⟩

theorem witness_EddyMemory_vector : ∃ v : Engine, (v.sreg 2 + (0 : BitVec 12).signExtend 32).toNat = 32 ∧
    (∀ i ∈ ([.vld 0 7 1 2 0, .vst 0 7 1 2 0] : List Instr), Issues (before i v) i ∧ Reaches (before i v) 0 (32 / 2 * 2) 32) ∧
    (∀ i ∈ ([.vldb 0 7 1 2 0] : List Instr), Issues (before i v) i ∧ Reaches (before i v) 0 (32 / 2 * 2) 2) :=
  ⟨{ s := [(2, 32)] }, by decide +kernel, reachable (by decide +kernel), reachable (by decide +kernel)⟩

theorem witness_EddyMemory_outside : ∃ v : Engine, (v.sreg 2 + (0 : BitVec 12).signExtend 32).toNat = 64 ∧
    Issues (before (.lw 0 1 2 0) v) (.lw 0 1 2 0) ∧ eaOk (before (.lw 0 1 2 0) v) 0 (64 / 4 * 4) 4 = false :=
  ⟨{ s := [(2, 64)] }, by decide +kernel, issues_of (by decide +kernel), by decide +kernel⟩

theorem witness_StoreFrame : ∀ x ∈ ([60, 0xFFFFC] : List (BitVec 32)), ∃ (v : Engine) (t : State),
    (v.sreg 2 + (0 : BitVec 12).signExtend 32).toNat / 4 * 4 = x.toNat ∧
    Issues (before (.sw 0 1 2 0) v) (.sw 0 1 2 0) ∧ eaOk (before (.sw 0 1 2 0) v) 0 x.toNat 4 = true ∧
    tabWf (fun _ => ({} : Engine)) (before (.sw 0 1 2 0) v).array.engines = true ∧
    tabWf (fun _ => ({} : Cluster)) (before (.sw 0 1 2 0) v).array.clusters = true ∧ keysAbove 0 v.data = true ∧
    keysAbove 0 (clusterOf (before (.sw 0 1 2 0) v) (0 / 8)).pad = true ∧
    exec (.sw 0 1 2 0) (before (.sw 0 1 2 0) v) = .next t := by
  intro x hx
  rcases List.mem_cons.mp hx with rfl | hx
  · obtain ⟨t, ht⟩ := next_of (o := exec (.sw 0 1 2 0) (before (.sw 0 1 2 0) { s := [(2, 60)] })) (by decide +kernel)
    exact ⟨{ s := [(2, 60)] }, t, by decide +kernel, issues_of (by decide +kernel), by decide +kernel, by decide +kernel,
      by decide +kernel, by decide +kernel, by decide +kernel, ht⟩
  · obtain rfl := List.mem_singleton.mp hx
    obtain ⟨t, ht⟩ := next_of (o := exec (.sw 0 1 2 0) (before (.sw 0 1 2 0) { s := [(2, 0xFFFFC)] })) (by decide +kernel)
    exact ⟨{ s := [(2, 0xFFFFC)] }, t, by decide +kernel, issues_of (by decide +kernel), by decide +kernel, by decide +kernel,
      by decide +kernel, by decide +kernel, by decide +kernel, ht⟩

theorem witness_EddyAtomics : ∃ v : Engine, (v.sreg 2).toNat / 2 * 2 = 0xFFFFE ∧ (v.sreg 2).toNat / 4 * 4 = 0xFFFFC ∧
    ∀ i ∈ ([.aaddH 0 1 2 3, .aaddW 0 1 2 3, .aaddsH 0 1 2 3, .aaddsW 0 1 2 3, .aswpH 0 1 2 3, .aswpW 0 1 2 3] : List Instr),
      Issues (before i v) i ∧ ReachesPad (before i v) 0 0xFFFFE 2 ∧ ReachesPad (before i v) 0 0xFFFFC 4 := by
  refine ⟨{ s := [(2, 0xFFFFF)] }, by decide +kernel, by decide +kernel, fun i hi => ?_⟩
  have h : ([.aaddH 0 1 2 3, .aaddW 0 1 2 3, .aaddsH 0 1 2 3, .aaddsW 0 1 2 3, .aswpH 0 1 2 3, .aswpW 0 1 2 3] :
      List Instr).all (fun i => let s := before i { s := [(2, 0xFFFFF)] }
        fetched s i && ((inPad 0xFFFFE 2 && clean s 0 (wordsAt s 0 0xFFFFE 2)) &&
          (inPad 0xFFFFC 4 && clean s 0 (wordsAt s 0 0xFFFFC 4)))) = true := by decide +kernel
  have h := List.all_eq_true.mp h i hi
  simp only [Bool.and_eq_true] at h
  exact ⟨issues_of h.1, ⟨h.2.1.1, clean_of h.2.1.2⟩, ⟨h.2.2.1, clean_of h.2.2.2⟩⟩

theorem witness_EddyAtomics_end : ∃ (s : State) (e : Nat) (rd : BitVec 5) (ea n : Nat), inPad ea n = true ∧ ea + n = 0x100000 ∧
    rd ≠ 0 ∧ tabWf (fun _ => ({} : Engine)) s.array.engines = true ∧ tabWf (fun _ => ({} : Cluster)) s.array.clusters = true ∧
    keysAbove 0 (engineOf s e).s = true ∧ keysAbove 0 (clusterOf s (e / 8)).pad = true :=
  ⟨before (.aaddH 255 1 2 3) { s := [(2, 0xFFFFF)] }, 255, 31, 0xFFFFC, 4, by decide +kernel⟩

theorem witness_EddyAtomics_outside : inPad 0 2 = false ∧ inPad 0 4 = false ∧ ∀ i ∈ ([.aaddH 0 1 2 3, .aaddW 0 1 2 3,
    .aaddsH 0 1 2 3, .aaddsW 0 1 2 3, .aswpH 0 1 2 3, .aswpW 0 1 2 3] : List Instr), ∃ s, Issues s i :=
  ⟨by decide, by decide, issues_all (by decide +kernel)⟩

theorem witness_EddyVectors : ∀ i ∈ ([.vadd 0 7 31 30 29, .vsub 0 7 31 30 29, .vadds 0 7 31 30 29, .vsubs 0 7 31 30 29,
    .vaddus 0 7 31 30 29, .vsubus 0 7 31 30 29, .vaddsu 0 7 31 30 29, .vmin 0 7 31 30 29, .vmax 0 7 31 30 29,
    .vminu 0 7 31 30 29, .vmaxu 0 7 31 30 29, .vabsdu 0 7 31 30 29, .vavgu 0 7 31 30 29, .vand 0 7 31 30 29,
    .vor 0 7 31 30 29, .vxor 0 7 31 30 29, .vshl 0 7 31 30 29, .vshr 0 7 31 30 29, .vsra 0 7 31 30 29, .vmul 0 7 31 30 29,
    .vmulh 0 7 31 30 29, .vmulhu 0 7 31 30 29, .vsel 0 7 31 30 29, .vshli 0 7 31 30 31, .vshri 0 7 31 30 31,
    .vsrai 0 7 31 30 31, .vaddi 0 7 31 30 31] : List Instr), ∃ s, Issues s i := issues_all (by decide +kernel)

theorem witness_EddyUnaryAndPredicates : ∀ i ∈ ([.vmov 0 7 31 30, .vclz 0 7 31 30, .vrcp 0 7 31 30, .vrsqrt 0 7 31 30,
    .vlane 0 7 31 30, .vmvs 0 7 31 30, .vcmp 0 7 6 0 31 30, .vcmp 0 7 6 1 31 30, .vcmp 0 7 6 2 31 30, .vcmp 0 7 6 3 31 30,
    .vcmp 0 7 6 4 31 30, .vcmp 0 7 6 5 31 30, .vcmp 0 7 6 6 31 30, .vcmp 0 7 6 7 31 30, .pand 0 7 6 5, .por 0 7 6 5,
    .pxor 0 7 6 5, .pandn 0 7 6 5, .pset 0 7 31 6, .pget 0 31 7 6] : List Instr), ∃ s, Issues s i :=
  issues_all (by decide +kernel)

theorem witness_EddyAccumulators : ∀ i ∈ ([.vmac 0 7 3 31 30 1, .vmac 0 7 3 31 30 15, .aclr 0 7 3, .aset 0 7 3 31 31 true,
    .aset 0 7 3 31 31 false, .vrnd 0 7 3 31 31 0, .vrnd 0 7 3 31 31 1, .vrnd 0 7 3 31 31 2, .vrnd 0 7 3 31 31 3] : List Instr),
    ∃ s, Issues s i := issues_all (by decide +kernel)

/-- The entries that a lookup reads may be read and are clean. -/
def lookupClean (s : State) (pg : BitVec 3) (sd : BitVec 5) (two : Bool) (a b : Nat → Nat) : Bool :=
  let v := engineOf s 0
  let d := lutDesc (v.sreg sd)
  (activeLanes (v.preg pg)).all (fun i => (lutIndices d two (a i) (b i)).all (fun n => eaOk s 0 (d.base + 2 * n) 2)) &&
    clean s 0 ((activeLanes (v.preg pg)).flatMap (fun i => (lutIndices d two (a i) (b i)).flatMap (fun n => wordsAt s 0 (d.base + 2 * n) 2)))

theorem lookup_of {s : State} {pg : BitVec 3} {sd : BitVec 5} {two : Bool} {a b : Nat → Nat}
    (h : lookupClean s pg sd two a b = true) : LookupReaches s 0 pg sd two a b := by
  simp only [lookupClean, Bool.and_eq_true, List.all_eq_true] at h
  exact ⟨h.1, clean_of h.2⟩

theorem witness_EddyAccumulators_lut1 : ∃ v : Engine, Issues (before (.lut1 0 0 1 2 3 true) v) (.lut1 0 0 1 2 3 true) ∧
    (lutDesc (v.sreg 3)).sh = 15 ∧
    LookupReaches (before (.lut1 0 0 1 2 3 true) v) 0 0 3 false (fun i => vlane (v.vreg 2) i) (fun _ => 0) :=
  ⟨{ s := [(3, 0x00F00000)] }, issues_of (by decide +kernel), by decide +kernel, lookup_of (by decide +kernel)⟩

theorem witness_EddyAccumulators_lut2 : ∃ v : Engine, Issues (before (.lut2 0 0 1 2 4 3 true) v) (.lut2 0 0 1 2 4 3 true) ∧
    LookupReaches (before (.lut2 0 0 1 2 4 3 true) v) 0 0 3 true (fun i => vlane (v.vreg 2) i) (fun i => vlane (v.vreg 4) i) :=
  ⟨{ s := [(3, 0x02F00000)] }, issues_of (by decide +kernel), lookup_of (by decide +kernel)⟩

/-- A mover request for one line of the composed tile, into the last bytes of the scratchpad. -/
def request : Tab Byte :=
  [(65536, 4), (65538, 1), (65544, 1), (65546, 2), (65548, 0xFE), (65549, 0xFF), (65550, 0x0F)]

/-- Engine 0 is about to run mvq in stage 1 of a job. -/
def beforeRequest : State :=
  { atWork job (before (.mvq 0 1 2) { stage := 1, data := request }) with raster := { State.reset.raster with
      panel := some { width := 3840, height := 2160, rateNum := 60, rateDen := 1, cells := 2, depth := 12 } } }

theorem witness_EddyControl_mvq : Issues beforeRequest (.mvq 0 1 2) ∧
    RequestFits beforeRequest 0 (((engineOf beforeRequest 0).sreg 2).toNat / 16 * 16) :=
  ⟨issues_of (by decide +kernel), ⟨_, rfl, by decide +kernel⟩, clean_of (by decide +kernel), by decide +kernel, by decide +kernel⟩

theorem witness_EddyControl : ∀ i ∈ ([.bar 0 15, .wait 0 7, .wait 0 0, .csrr 0 31 5, .csrw 0 31 4, .csrw 0 31 1, .csrw 0 31 0,
    .csrw 0 31 3, .eret 0, .halt 0] : List Instr), ∃ s, Issues s i := issues_all (by decide +kernel)

theorem witness_EddyControl_frameJob :
    Issues (before (.bar 0 15) { frameJob := true }) (.bar 0 15) ∧
    (engineOf (before (.bar 0 15) { frameJob := true }) 0).frameJob = true :=
  ⟨issues_of (by decide +kernel), by decide +kernel⟩

theorem witness_EddyControl_wait :
    (Issues (before (.wait 0 1) {}) (.wait 0 1) ∧ waitHolds (engineOf (before (.wait 0 1) {}) 0) 1 = true) ∧
    (Issues (before (.wait 0 2) {}) (.wait 0 2) ∧ waitHolds (engineOf (before (.wait 0 2) {}) 0) 2 = false) :=
  ⟨⟨issues_of (by decide +kernel), by decide +kernel⟩, ⟨issues_of (by decide +kernel), by decide +kernel⟩⟩

theorem witness_EddyControl_eret :
    Issues (before (.eret 0) { inh := true }) (.eret 0) ∧ (engineOf (before (.eret 0) { inh := true }) 0).inh = true ∧
    (engineOf (before (.eret 0) {}) 0).inh = false :=
  ⟨issues_of (by decide +kernel), by decide +kernel, by decide +kernel⟩

/-- One instruction for each condition that Legal names, and one for which it names none. -/
theorem witness_EddyCompletes : ∃ v : Engine, tabWf (fun _ => ({} : Engine)) (before (.halt 0) v).array.engines = true ∧
    v.inh = true ∧
    (∀ i ∈ ([.add 0 31 30 29, .br 0 5 31 30 0, .vcmp 0 7 6 5 31 30, .vrnd 0 7 3 31 31 2, .wait 0 7, .csrr 0 31 5, .csrw 0 31 0,
      .eret 0, .halt 0] : List Instr), Issues (before i v) i) ∧
    Legal (before (.br 0 5 31 30 0) v) (.br 0 5 31 30 0) ∧ Legal (before (.vcmp 0 7 6 5 31 30) v) (.vcmp 0 7 6 5 31 30) ∧
    Legal (before (.vrnd 0 7 3 31 31 2) v) (.vrnd 0 7 3 31 31 2) ∧ Legal (before (.wait 0 7) v) (.wait 0 7) ∧
    Legal (before (.csrr 0 31 5) v) (.csrr 0 31 5) ∧ Legal (before (.csrw 0 31 0) v) (.csrw 0 31 0) ∧
    Legal (before (.eret 0) v) (.eret 0) ∧ Legal (before (.add 0 31 30 29) v) (.add 0 31 30 29) := by
  refine ⟨{ inh := true }, by decide +kernel, rfl, issues_each (by decide +kernel), ?_⟩
  simp only [Legal]
  decide +kernel

theorem witness_EddyCompletes_memory : ∃ v : Engine,
    (∀ i ∈ ([.lw 0 1 2 0, .vld 0 7 1 2 0, .aaddW 0 1 2 3, .lut1 0 0 1 4 3 true] : List Instr), Issues (before i v) i) ∧
    Legal (before (.lw 0 1 2 0) v) (.lw 0 1 2 0) ∧ Legal (before (.vld 0 7 1 2 0) v) (.vld 0 7 1 2 0) ∧
    Legal (before (.aaddW 0 1 2 3) v) (.aaddW 0 1 2 3) ∧ Legal (before (.lut1 0 0 1 4 3 true) v) (.lut1 0 0 1 4 3 true) ∧
    Legal beforeRequest (.mvq 0 1 2) := by
  refine ⟨{ s := [(2, 0x80000), (3, 0x00F00000)] }, issues_each (by decide +kernel), reaches_of (by decide +kernel),
    reaches_of (by decide +kernel), reachesPad_of (by decide +kernel), lookup_of (by decide +kernel), witness_EddyControl_mvq.2⟩

theorem witness_EddyVectors_lanes : ∃ (v : Engine) (j vd : BitVec 5) (i : Nat), keysAbove 0 v.v = true ∧ i < 16 ∧ j ≠ vd :=
  ⟨{ v := [(31, 9)] }, 30, 31, 15, by decide +kernel⟩

theorem witness_RegisterFrame : ∃ t : State, (Instr.add 0 31 30 29).registersOnly = true ∧
    Issues (before (.add 0 31 30 29) {}) (.add 0 31 30 29) ∧ exec (.add 0 31 30 29) (before (.add 0 31 30 29) {}) = .next t ∧
    tabWf (fun _ => ({} : Engine)) (before (.add 0 31 30 29) {}).array.engines = true ∧
    RegsCanonical (before (.add 0 31 30 29) {}) := by
  obtain ⟨t, ht⟩ := next_of (o := exec (.add 0 31 30 29) (before (.add 0 31 30 29) {})) (by decide +kernel)
  refine ⟨t, by decide, issues_of (by decide +kernel), ht, by decide +kernel, ?_⟩
  simp only [RegsCanonical]
  decide +kernel

theorem witness_KernelsAreIsolated : ∃ t : State, eddyWord (.csrw 0 31 0) ≠ none ∧
    exec (.csrw 0 31 0) (before (.csrw 0 31 0) {}) = .next t := by
  obtain ⟨t, ht⟩ := next_of (o := exec (.csrw 0 31 0) (before (.csrw 0 31 0) {})) (by decide +kernel)
  exact ⟨t, by decide, ht⟩

theorem witness_FetchFaults :
    (eddyWord (.halt 0) ≠ none ∧ nextWord (before (.halt 0) { pc := 4 }) 0 = some none) ∧
    (nextWord (before (.eret 0) {}) 0 = some (some 0x3D) ∧ eddyWord (.halt 0) ≠ some 0x3D) ∧
    nextWord State.reset 0 = none := by decide +kernel

theorem witness_EddyRoundTrip : (Instr.lut2 255 7 31 30 29 28 true).wf = true ∧
    eddyWord (.lut2 255 7 31 30 29 28 true) ≠ none := by decide

end Sys2Proof.Tests
end

section
/-! The register file and an engine's registers: what each reads after a write (R10, R138, R379). -/

namespace Sys2Proof.Machine

/-- A direct write of the RW bits reaches one register alone. -/
theorem rd_writeRw_other {s : State} (h : RegsCanonical s) {k j : Nat} (v : Word) (hj : j ≠ k) :
    rd (writeRw k v s) j = rd s j := by
  unfold writeRw
  split
  · exact rd_wr_other h _ hj
  · rfl

theorem Engine.sreg_setS {v : Engine} (h : keysAbove 0 v.s = true) {i : BitVec 5} (hi : i ≠ 0) (x : BitVec 32) (j : BitVec 5) :
    (v.setS i x).sreg j = if j = i then x else v.sreg j := by
  by_cases hj : j = 0
  · rw [hj, if_neg (Ne.symm hi)]
    rfl
  · simp only [Engine.sreg, Engine.setS, if_neg hi, if_neg hj, tabGet_set _ h, BitVec.toNat_inj]

theorem Engine.preg_setP {v : Engine} (h : keysAbove 0 v.p = true) {i : BitVec 3} (hi : i ≠ 0) (y : BitVec 16) (j : BitVec 3) :
    (v.setP i y).preg j = if j = i then y else v.preg j := by
  by_cases hj : j = 0
  · rw [hj, if_neg (Ne.symm hi)]
    rfl
  · simp only [Engine.preg, Engine.setP, if_neg hi, if_neg hj, tabGet_set _ h, BitVec.toNat_inj]

theorem Engine.vreg_setV {v : Engine} (h : keysAbove 0 v.v = true) (i : BitVec 5) (z : BitVec 256) (j : BitVec 5) :
    (v.setV i z).vreg j = if j = i then z else v.vreg j := by
  simp [Engine.vreg, Engine.setV, tabGet_set _ h, BitVec.toNat_inj]

/-- Settles O6: each clause is the law of one write, of the register file or of an engine's tables. -/
theorem registerFile : Obligations.RegisterFile := by
  refine ⟨fun s k j w h => ⟨rd_wr_same h k w, rd_wr_other h w, canonical_wr h k w, ?fields, fun v => rd_writeRw_other h v⟩,
    fun v x y z => ⟨rfl, rfl, rfl, rfl, ?scalar, ?predicate, ?vector⟩⟩
  case fields =>
    intro lo n x hlo
    exact ⟨rdF_wrF_same h k x hlo, fun lo' n' hb => rdF_wrF_field h k x hlo hb⟩
  case scalar =>
    intro h i j hi
    exact ⟨by rw [Engine.sreg_setS h hi, if_pos rfl], fun hj => by rw [Engine.sreg_setS h hi, if_neg hj]⟩
  case predicate =>
    intro h i j hi
    exact ⟨by rw [Engine.preg_setP h hi, if_pos rfl], fun hj => by rw [Engine.preg_setP h hi, if_neg hj]⟩
  case vector =>
    intro h i j
    exact ⟨by rw [Engine.vreg_setV h, if_pos rfl], fun hj => by rw [Engine.vreg_setV h, if_neg hj]⟩

end Sys2Proof.Machine
end

section
/-! Direct register writes: what ownership, the idle trigger and the shared writes do, an equation for each outcome of a
command, and the obligation put together from them (R10 to R13, R23, R110, R138, R243, R257, R263, R345, R349, R515). -/

namespace Sys2Proof.Machine

/-! ### The commands' meanings -/

theorem exec_registerWrite (p off size : Nat) (x : BitVec 64) (s : State) :
    exec (.registerWrite p off size x) s = execRegisterWrite p off size x s := by rfl

theorem exec_flagClear (p off : Nat) (v : Word) (s : State) : exec (.flagClear p off v) s = execFlagClear p off v s := by rfl

theorem exec_topHostPermWrite (p m : Nat) (v : Word) (s : State) :
    exec (.topHostPermWrite p m v) s = execTopHostPermWrite p m v s := by rfl

theorem exec_rastGeomWrite (p : Nat) (v : Word) (s : State) : exec (.rastGeomWrite p v) s = execRastGeomWrite p v s := by rfl

theorem exec_rastLagWrite (p : Nat) (v : Word) (s : State) : exec (.rastLagWrite p v) s = execRastLagWrite p v s := by rfl

theorem exec_rastCtrlTimelineWrite (p : Nat) (v : Word) (s : State) :
    exec (.rastCtrlTimelineWrite p v) s = execRastCtrlTimelineWrite p v s := by rfl

theorem exec_pipeFmtWrite (p : Nat) (v : Word) (s : State) : exec (.pipeFmtWrite p v) s = execPipeFmtWrite p v s := by rfl

theorem exec_engCtrlRearRoleWrite (p : Nat) (v : Word) (s : State) :
    exec (.engCtrlRearRoleWrite p v) s = execEngCtrlRearRoleWrite p v s := by rfl

/-! ### Shared operations -/

@[simp] theorem monitorAdd_regs (m n : Nat) (s : State) : (monitorAdd m n s).regs = s.regs := by
  unfold monitorAdd
  dsimp only
  split <;> rfl

@[simp] theorem rd_monitorAdd (m n : Nat) (s : State) (k : Nat) : rd (monitorAdd m n s) k = rd s k := by simp [rd]

@[simp] theorem ownerWrites_monitorAdd (m n : Nat) (s : State) (p : Nat) :
    ownerWrites (monitorAdd m n s) p = ownerWrites s p := by
  unfold monitorAdd
  dsimp only
  split <;> rfl

/-- With no entry on its way and the device in RUN, an IDLE trigger only starts the static count again. -/
theorem idleTrigger_in_run {s : State} (he : s.power.entry = none) (hr : s.power.state = .run) :
    idleTrigger s = setPower { s.power with static := 0 } s := by
  simp [idleTrigger, setPower, he, hr]

/-- A field whose bits a mask covers is taken from the word written under that mask. -/
theorem field_merge (old val mask : Word) {lo n : Nat} (h : ∀ i < n, mask.getLsbD (lo + i) = true) :
    field ((old &&& ~~~mask) ||| (val &&& mask)) lo n = field val lo n := by
  unfold field bitsAt
  apply Nat.eq_of_testBit_eq
  intro i
  simp only [Nat.testBit_mod_two_pow, Nat.testBit_div_two_pow, BitVec.testBit_toNat]
  by_cases hi : i < n
  · simp [show mask.getLsbD (i + lo) = true from Nat.add_comm lo i ▸ h i hi]
  · simp [hi]

/-! ### REGISTER_WRITE -/

/-- Beyond the port page and the MSI-X structures an offset is its register's key. -/
theorem windowKey_global (p : Nat) {o : Nat} (h : 0x4000 ≤ o) : windowKey p o = o := if_neg (by omega)

/-- A participant's word to a global register changes nothing (R13). -/
theorem writeWord_not_owner {s : State} {p o : Nat} (ho : ownerWrites s p = false) (h : 0x10000 ≤ o) (v : Word) :
    writeWord p o v s = s := by
  simp [writeWord, windowKey_global p (show 0x4000 ≤ o by omega), ho, show ¬ o < 0x10000 by omega]

/-- FAULT_CTRL's RW bits take the word written, the others stay (R10, R11), and nothing follows. -/
theorem writeWord_faultCtrl {s : State} {p : Nat} (ho : ownerWrites s p = true) (v : Word) :
    writeWord p Reg.FAULT_CTRL v s =
      wr Reg.FAULT_CTRL ((rd s Reg.FAULT_CTRL &&& ~~~0xFF1F#32) ||| (v &&& 0xFF1F#32)) s := by
  have global : writeWord p Reg.FAULT_CTRL v s = writeGlobal Reg.FAULT_CTRL v s := by
    unfold writeWord
    rw [windowKey_global p (by decide), if_neg (by decide)]
    simp [ho, Reg.FAULT_CTRL]
  rw [global]
  rfl

/-! ### FLAG_CLEAR -/

/-- Writing 1 to `overflow` alone clears it with its count. -/
theorem clearFlags_perf {v : Word} (h0 : field v 0 2 = 1) (h1 : field v 2 30 = 0) (s : State) :
    clearFlags Reg.PERF_FLAGS v s = wrF Reg.PERF_FLAG_CNT (0, 8) 0 (wrF Reg.PERF_FLAGS (0, 1) 0 s) := by
  have hv : v = 1#32 := by
    have := v.isLt
    simp only [field, bitsAt] at h0 h1
    exact BitVec.eq_of_toNat_eq (by simp; omega)
  rw [hv]
  rfl

/-- The owner's write to a global flag register, in the blocks of R515 an IDLE trigger if it names a flag. -/
theorem flagClear_owner {s : State} {p off : Nat} (ho : ownerWrites s p = true) (hoff : off ≠ Reg.AON_STATUS)
    (hk : windowKey p off = off) (v : Word) :
    exec (.flagClear p off v) s = .next (
      if (off / 0x1000 = 0x12 ∨ off / 0x1000 = 0x15 ∨ off / 0x1000 = 0x16 ∨ off / 0x1000 = 0x1F) ∧ v.toNat &&& w1cBits off ≠ 0
      then idleTrigger (clearFlags off v s) else clearFlags off v s) := by
  simp [exec_flagClear, execFlagClear, ho, hoff, hk]

/-! ### TOP_HOST_PERM -/

theorem regAt_topHostPerm {m : Nat} (hm : m < 4) : regAt (Reg.TOP_HOST_PERMm m) = some (regRow 0x10040 4 4 0 0x7FFF 0 0 .glob) := by
  interval_cases m <;> rfl

theorem permMask_participant {s : State} {m : Nat} (he : portExists s m = true) (hm : m ≠ owner s) :
    permMask s m = rdF s (Reg.TOP_HOST_PERMm m) (0, 15) := by
  simp [permMask, he, hm]

/-- The mask of a participant is the one written (R112). -/
theorem permMask_written {s : State} {m : Nat} (he : portExists s m = true) (hm : m ≠ owner s) (hc : RegsCanonical s)
    (hlt : m < 4) (v : Word) : permMask (writeRw (Reg.TOP_HOST_PERMm m) v s) m = field v 0 15 := by
  rw [permMask_participant (by simpa [portExists] using he) (by simpa [owner] using hm)]
  simp only [writeRw, regAt_topHostPerm hlt, rdF, rd_wr_same hc]
  exact field_merge _ _ _ (by decide)

/-- A write of a participant's mask: a change is told to its port (R113). -/
theorem topHostPermWrite_participant {s : State} {p m : Nat} (ho : ownerWrites s p = true) (he : portExists s m = true)
    (hm : m ≠ owner s) (hc : RegsCanonical s) (hlt : m < 4) (v : Word) :
    exec (.topHostPermWrite p m v) s = .next (
      if field v 0 15 = rdF s (Reg.TOP_HOST_PERMm m) (0, 15) then writeRw (Reg.TOP_HOST_PERMm m) v s
      else postEvent (.port m) 0x01F4 (0x10 + m) 0 (dataAt 24 (field v 0 15)) (writeRw (Reg.TOP_HOST_PERMm m) v s)) := by
  simp only [exec_topHostPermWrite, execTopHostPermWrite, permMask_written he hm hc hlt, permMask_participant he hm]
  simp only [ho, he, hm, decide_false, Bool.not_true, Bool.or_false, Bool.false_eq_true, if_false]
  split <;> rfl

/-! ### RAST_GEOM and PIPE_FMT -/

/-- The geometry of a RAST_GEOM write is one that R243 allows. -/
def GeometryAllowed (s : State) (v : Word) : Prop :=
  ∃ pn, s.raster.panel = some pn ∧ s.raster.phase = .off ∧ pn.height + rearLead s + 8 ≤ field v 0 14 ∧
    field v 16 14 < field v 0 14 ∧ min 400 (framePeriod pn / panelVtotal pn.height / 65536) ≤ framePeriod pn / field v 0 14 / 65536

theorem rastGeomWrite_allowed {s : State} {p : Nat} {v : Word} (ho : ownerWrites s p = true) (h : GeometryAllowed s v) :
    exec (.rastGeomWrite p v) s = .next (idleTrigger (followGeometry (writeRw Reg.RAST_GEOM v s))) := by
  obtain ⟨pn, hp, hoff, hfit⟩ := h
  simp [exec_rastGeomWrite, execRastGeomWrite, ho, hp, rasterBusy, hoff, hfit]

theorem rastGeomWrite_breach {s : State} {p : Nat} {v : Word} (ho : ownerWrites s p = true) (h : ¬ GeometryAllowed s v) :
    exec (.rastGeomWrite p v) s = .next (idleTrigger (setFlag Flag.RAST_cfg_err s)) := by
  simp only [exec_rastGeomWrite, execRastGeomWrite, ho, rasterBusy, Bool.not_true, Bool.false_eq_true, if_false]
  cases hp : s.raster.panel with
  | none => simp only [Bool.false_eq_true, if_false]
  | some pn =>
    refine congrArg (fun t => Host.Outcome.next (idleTrigger t)) (if_neg fun hfit => h ⟨pn, hp, ?_⟩)
    simpa using hfit

/-- The segment width of a PIPE_FMT write is one that R345 allows. -/
def SegmentsAllowed (s : State) (v : Word) : Prop :=
  ∃ pn, s.raster.panel = some pn ∧ s.raster.phase = .off ∧ pn.width / 32 ≤ field v 16 9 ∧ field v 16 9 ≤ 480 ∧
    pn.width % field v 16 9 = 0

theorem pipeFmtWrite_allowed {s : State} {p : Nat} {v : Word} (ho : ownerWrites s p = true) (h : SegmentsAllowed s v) :
    exec (.pipeFmtWrite p v) s =
      .next (idleTrigger (offSegments (wrF Reg.PIPE_FMT Fld.PIPE_FMT_seg_width (field v 16 9) s))) := by
  obtain ⟨pn, hp, hoff, hfit⟩ := h
  simp [exec_pipeFmtWrite, execPipeFmtWrite, ho, hp, rasterBusy, hoff, hfit]

theorem pipeFmtWrite_breach {s : State} {p : Nat} {v : Word} (ho : ownerWrites s p = true) (h : ¬ SegmentsAllowed s v) :
    exec (.pipeFmtWrite p v) s = .next (idleTrigger (setFlag Flag.PIPE_cfg_err s)) := by
  simp only [exec_pipeFmtWrite, execPipeFmtWrite, ho, rasterBusy, Bool.not_true, Bool.false_eq_true, if_false]
  cases hp : s.raster.panel with
  | none => simp only [Bool.false_eq_true, if_false]
  | some pn =>
    refine congrArg (fun t => Host.Outcome.next (idleTrigger t)) (if_neg fun hfit => h ⟨pn, hp, ?_⟩)
    simpa using hfit

theorem foldl_fixed_of_mem {α β : Type} {f : β → α → β} {b : β} {l : List α} (h : ∀ a ∈ l, f b a = b) : l.foldl f b = b :=
  List.foldlRecOn (motive := (· = b)) l f rfl fun _ hc a ha => hc.symm ▸ h a ha

/-- With every lane OFF there is none to turn off (R38, R463). -/
theorem offSegments_of_off {s : State} (h : ∀ n, n < 128 → laneIs s 1 n Lane.off = true) : offSegments s = s := by
  unfold offSegments
  exact foldl_fixed_of_mem fun n hn => by rw [h n (List.mem_range.1 hn), Bool.or_true, if_pos rfl]

/-! ### RAST_LAG and RAST_CTRL -/

@[simp] theorem followWindow_frame (s : State) :
    (followWindow s).raster = s.raster ∧ (followWindow s).power = s.power ∧ (followWindow s).boot = s.boot := by
  simp [followWindow]

theorem rd_followWindow {s : State} (h : RegsCanonical s) {k : Nat} (hk : k ≠ Reg.ENG_WINDOW) : rd (followWindow s) k = rd s k := by
  unfold followWindow
  rw [rd_wrF_other (canonical_wrF h ..) _ _ hk, rd_wrF_other h _ _ hk]

/-- The window shown is no part of RAST_LAG. -/
theorem lagNow_followWindow {s : State} (h : RegsCanonical s) : lagNow (followWindow s) = lagNow s := by
  rw [lagNow, lagNow, rdF, rdF, rd_followWindow h (by decide)]

theorem rearLead_followWindow {s : State} (h : RegsCanonical s) : rearLead (followWindow s) = rearLead s := by
  rw [rearLead, rearLead, rdF, rdF, rd_followWindow h (by decide)]

theorem rd_setPower (x : PowerState) (s : State) (k : Nat) : rd (setPower x s) k = rd s k := rfl

theorem lagNow_setPower (x : PowerState) (s : State) : lagNow (setPower x s) = lagNow s := rfl

theorem rearLead_setPower (x : PowerState) (s : State) : rearLead (setPower x s) = rearLead s := rfl

theorem lagNow_wrF {s : State} (h : RegsCanonical s) {n : Nat} (hn : n ≤ 1024) :
    lagNow (wrF Reg.RAST_LAG Fld.RAST_LAG_lag n s) = n := by
  rw [lagNow, rdF_wrF_same h _ _ (by decide)]
  exact Nat.mod_eq_of_lt (by simp [Fld.RAST_LAG_lag]; omega)

theorem rearLead_wrF_lag {s : State} (h : RegsCanonical s) (n : Nat) :
    rearLead (wrF Reg.RAST_LAG Fld.RAST_LAG_lag n s) = rearLead s :=
  rdF_wrF_field h _ _ (by decide) (by decide)

theorem minLag_wrF_lag {s : State} (h : RegsCanonical s) (n : Nat) :
    minLag (wrF Reg.RAST_LAG Fld.RAST_LAG_lag n s) = minLag s := by
  have hl := rearLead_wrF_lag h n
  unfold rearLead at hl
  simp [minLag, hl]

/-- A RAST_LAG write, whatever it holds: rear_lead, then an allowed LAG, then the raise to the minimum (R23, R263). -/
theorem rastLagWrite_eq {s : State} {p : Nat} {v : Word} (ho : ownerWrites s p = true) {a b : State}
    (ha : a = writeRearLead (field v 16 7) s)
    (hb : b = if minLag a ≤ field v 0 11 ∧ field v 0 11 ≤ 1024 then wrF Reg.RAST_LAG Fld.RAST_LAG_lag (field v 0 11) a else a) :
    exec (.rastLagWrite p v) s =
      .next (idleTrigger (followWindow (wrF Reg.RAST_LAG Fld.RAST_LAG_lag (max (lagNow b) (minLag b)) b))) := by
  subst hb ha
  simp only [exec_rastLagWrite, execRastLagWrite, ho, Bool.not_true, Bool.false_eq_true, if_false]

/-- An allowed LAG under an unchanged rear_lead is the LAG, and RAST_LAG and ENG_WINDOW alone change (R23, R263). -/
theorem rastLagWrite_lag {s : State} {p : Nat} {v : Word} (ho : ownerWrites s p = true) (hlead : field v 16 7 = rearLead s)
    (hmin : minLag s ≤ field v 0 11) (hmax : field v 0 11 ≤ 1024) (hc : RegsCanonical s) (he : s.power.entry = none)
    (hr : s.power.state = .run) :
    ∃ t, exec (.rastLagWrite p v) s = .next t ∧ lagNow t = field v 0 11 ∧ rearLead t = rearLead s ∧ t.boot = s.boot ∧
      t.raster = s.raster ∧ ∀ k, k ≠ Reg.RAST_LAG → k ≠ Reg.ENG_WINDOW → rd t k = rd s k := by
  have hb := canonical_wrF hc Reg.RAST_LAG Fld.RAST_LAG_lag (field v 0 11)
  have hcc := canonical_wrF hb Reg.RAST_LAG Fld.RAST_LAG_lag (field v 0 11)
  refine ⟨_, rastLagWrite_eq ho (if_pos hlead).symm (if_pos ⟨hmin, hmax⟩).symm, ?_⟩
  rw [lagNow_wrF hc hmax, minLag_wrF_lag hc, Nat.max_eq_left hmin, idleTrigger_in_run (by simpa using he) (by simpa using hr)]
  refine ⟨?_, ?_, by simp, by simp, fun k hk hw => ?_⟩
  · rw [lagNow_setPower, lagNow_followWindow hcc, lagNow_wrF hb hmax]
  · rw [rearLead_setPower, rearLead_followWindow hcc, rearLead_wrF_lag hb, rearLead_wrF_lag hc]
  · rw [rd_setPower, rd_followWindow hcc hw, rd_wrF_other hb _ _ hk, rd_wrF_other hc _ _ hk]

/-- With the raster enabled or scanning, a timeline write is a request, and RAST_CTRL alone changes (R257). -/
theorem rastCtrlTimelineWrite_request {s : State} {p : Nat} {v : Word} (ho : ownerWrites s p = true)
    (hok : timelineOk s (field v 1 1) (lagNow s) = true) (hon : rasterOn s = true ∨ scanning s = true)
    (he : s.power.entry = none) (hr : s.power.state = .run) :
    ∃ t, exec (.rastCtrlTimelineWrite p v) s = .next t ∧ t.raster.request = some (decide (field v 1 1 = 1)) ∧
      (RegsCanonical s → rdF t Reg.RAST_CTRL Fld.RAST_CTRL_timeline = field v 1 1 ∧
        rdF t Reg.RAST_CTRL Fld.RAST_CTRL_auto_return = field v 2 1 ∧ ∀ k, k ≠ Reg.RAST_CTRL → rd t k = rd s k) := by
  have hon' : (rasterOn s || scanning s) = true := by simpa using hon
  simp only [exec_rastCtrlTimelineWrite, execRastCtrlTimelineWrite, ho, hok, hon', Bool.not_true, Bool.false_eq_true, if_false,
    if_true]
  rw [idleTrigger_in_run (by simpa using he) (by simpa using hr)]
  refine ⟨_, rfl, rfl, fun hc => ?_⟩
  have hb := canonical_wrF hc Reg.RAST_CTRL Fld.RAST_CTRL_timeline (field v 1 1)
  have one : ∀ lo, field v lo 1 % 2 ^ 1 = field v lo 1 := fun lo => Nat.mod_mod ..
  refine ⟨?_, ?_, fun k hk => ?_⟩
  · exact (rdF_wrF_field hb _ _ (by decide) (by decide)).trans ((rdF_wrF_same hc _ _ (by decide)).trans (one 1))
  · exact (rdF_wrF_same hb _ _ (by decide)).trans (one 2)
  · exact (rd_wrF_other hb _ _ hk).trans (rd_wrF_other hc _ _ hk)

/-- A request that fails its checks sets the configuration error flag alone (R257). -/
theorem rastCtrlTimelineWrite_breach {s : State} {p : Nat} {v : Word} (ho : ownerWrites s p = true)
    (hno : timelineOk s (field v 1 1) (lagNow s) = false) :
    exec (.rastCtrlTimelineWrite p v) s = .next (idleTrigger (setFlag Flag.RAST_cfg_err s)) := by
  simp only [exec_rastCtrlTimelineWrite, execRastCtrlTimelineWrite, ho, hno, Bool.not_true, Bool.not_false,
    Bool.false_eq_true, if_false, if_true]

/-- With the raster off the choice takes effect at once (R257). -/
theorem rastCtrlTimelineWrite_atOnce {s : State} {p : Nat} {v : Word} (ho : ownerWrites s p = true)
    (hok : timelineOk s (field v 1 1) (lagNow s) = true) (hoff : rasterOn s = false) (hscan : scanning s = false) :
    exec (.rastCtrlTimelineWrite p v) s =
      .next (idleTrigger (setTimeline (field v 1 1) (field v 2 1) (lagNow s) s)) := by
  simp only [exec_rastCtrlTimelineWrite, execRastCtrlTimelineWrite, ho, hok, hoff, hscan, Bool.not_true, Bool.or_self,
    Bool.false_eq_true, if_false]

/-! ### ENG_CTRL -/

/-- A REAR_ROLE write that R349 ignores. -/
def RolesRefused (s : State) (v : Word) : Prop :=
  s.raster.phase ≠ .off ∨ field v 0 4 = 15 ∨ field v 0 4 = 0 ∧ (cellsNow s).contains 1 = true

theorem engCtrlRearRoleWrite_allowed {s : State} {p : Nat} {v : Word} (ho : ownerWrites s p = true) (h : ¬ RolesRefused s v) :
    exec (.engCtrlRearRoleWrite p v) s = .next (followGovernor (setRoles (field v 0 4)
      (wrF Reg.ENG_CTRL Fld.ENG_CTRL_gov_en (field v 10 1) (wrF Reg.ENG_CTRL Fld.ENG_CTRL_patrol_en (field v 8 1) s)))) := by
  simp only [exec_engCtrlRearRoleWrite, execEngCtrlRearRoleWrite, ho, rasterBusy, decide_eq_true_eq, Bool.not_true,
    Bool.false_eq_true, if_false]
  exact if_neg h

theorem engCtrlRearRoleWrite_refused {s : State} {p : Nat} {v : Word} (ho : ownerWrites s p = true) (h : RolesRefused s v) :
    exec (.engCtrlRearRoleWrite p v) s = .next (setFlag (Flag.ENG_cfg_err 0x40) s) := by
  simp only [exec_engCtrlRearRoleWrite, execEngCtrlRearRoleWrite, ho, rasterBusy, decide_eq_true_eq, Bool.not_true,
    Bool.false_eq_true, if_false]
  exact if_pos h

/-! ### A participant's writes, and completion -/

/-- Without the owner's right none of the five set-up writes does anything (R13). -/
theorem setupWrites_not_owner {s : State} {p : Nat} (ho : ownerWrites s p = false) (v : Word) :
    exec (.rastGeomWrite p v) s = .next s ∧ exec (.rastLagWrite p v) s = .next s ∧
      exec (.rastCtrlTimelineWrite p v) s = .next s ∧ exec (.pipeFmtWrite p v) s = .next s ∧
      exec (.engCtrlRearRoleWrite p v) s = .next s := by
  simp only [exec_rastGeomWrite, execRastGeomWrite, exec_rastLagWrite, execRastLagWrite, exec_rastCtrlTimelineWrite,
    execRastCtrlTimelineWrite, exec_pipeFmtWrite, execPipeFmtWrite, exec_engCtrlRearRoleWrite, execEngCtrlRearRoleWrite, ho,
    Bool.not_false, if_true, and_self]

theorem topHostPermWrite_ignored {s : State} {p m : Nat} (h : ownerWrites s p = false ∨ portExists s m = false ∨ m = owner s)
    (v : Word) : exec (.topHostPermWrite p m v) s = .next s := by
  have hc : (!ownerWrites s p || !portExists s m || decide (m = owner s)) = true := by simpa [or_assoc] using h
  rw [exec_topHostPermWrite, execTopHostPermWrite, if_pos hc]

theorem completes_ite {c : Prop} [Decidable c] {a b : Host.Outcome State Fault Refusal} (ha : ∃ t, a = .next t)
    (hb : ∃ t, b = .next t) : ∃ t, (if c then a else b) = .next t := by
  split
  · exact ha
  · exact hb

/-- Each direct write completes: every branch of its meaning answers a next state. -/
theorem directWrites_complete (s : State) (p m off size : Nat) (v : Word) (x : BitVec 64) :
    (∃ t, exec (.registerWrite p off size x) s = .next t) ∧ (∃ t, exec (.flagClear p off v) s = .next t) ∧
      (∃ t, exec (.topHostPermWrite p m v) s = .next t) ∧ (∃ t, exec (.rastGeomWrite p v) s = .next t) ∧
      (∃ t, exec (.rastLagWrite p v) s = .next t) ∧ (∃ t, exec (.rastCtrlTimelineWrite p v) s = .next t) ∧
      (∃ t, exec (.pipeFmtWrite p v) s = .next t) ∧ (∃ t, exec (.engCtrlRearRoleWrite p v) s = .next t) := by
  have done (t : State) : ∃ u, (.next t : Host.Outcome State Fault Refusal) = .next u := ⟨t, rfl⟩
  have two {c : Prop} [Decidable c] (t u : State) := completes_ite (c := c) (done t) (done u)
  refine ⟨?registerWrite, ?flagClear, ?hostPerm, two _ _, two _ _, ?timeline, two _ _, ?roles⟩
  case registerWrite => exact completes_ite (done _) (two _ _)
  case flagClear => exact completes_ite (two _ _) (completes_ite (two _ _) (two _ _))
  case hostPerm => exact completes_ite (done _) (two _ _)
  case timeline => exact completes_ite (done _) (completes_ite (done _) (two _ _))
  case roles => exact completes_ite (done _) (two _ _)

/-- Settles O21: the outcomes of each command, clause by clause. -/
theorem directWrites : Obligations.DirectWrites := by
  refine ⟨fun s p => ⟨?faultCtrl, ?participant, ?perfFlag, ?permTold, ?permKept⟩,
    fun s p v ho => ⟨?geomFits, ?geomNoPanel, rastLagWrite_lag ho, rastCtrlTimelineWrite_breach ho,
      rastCtrlTimelineWrite_atOnce ho, rastCtrlTimelineWrite_request ho, ?segFits, offSegments_of_off, ?rolesFit,
      engCtrlRearRoleWrite_refused ho, ?geomRunning, ?geomMisfit, fun a b => rastLagWrite_eq ho, ?segNoPanel, ?segMisfit⟩,
    fun s p m off size v x => ⟨?word, ?pair, ?unaligned, ?aon, ?page, ?pageRefused, ?flagIdle, ?flagPlain, ?flagRefused,
      fun h => topHostPermWrite_ignored h v, fun h => setupWrites_not_owner h v⟩,
    directWrites_complete⟩
  case faultCtrl =>
    intro v ho
    have low : BitVec.ofNat 32 (v.toNat % 2 ^ 32) = BitVec.ofNat 32 v.toNat := BitVec.eq_of_toNat_eq (by simp)
    rw [exec_registerWrite, execRegisterWrite, if_pos (by decide), writeWord_faultCtrl (by simpa using ho), rd_monitorAdd, low]
  case participant =>
    intro off size v ho hlo hhi
    have ignored (k : Nat) (w : Word) (hk : off ≤ k) : writeWord p k w (monitorAdd p size s) = monitorAdd p size s :=
      writeWord_not_owner (by simpa using ho) (by omega) w
    simp only [exec_registerWrite, execRegisterWrite, ignored off _ (by omega), ignored (off + 4) _ (by omega), ite_self]
  case perfFlag =>
    intro v ho h0 h1
    rw [flagClear_owner ho (by decide) (windowKey_global p (by decide)), if_neg (fun h => absurd h.1 (by decide)),
      clearFlags_perf h0 h1]
  case permTold =>
    intro m v ho he hm hc hlt hne
    rw [topHostPermWrite_participant ho he hm hc hlt, if_neg (Ne.symm hne)]
  case permKept =>
    intro m v ho he hm hc hlt heq
    rw [topHostPermWrite_participant ho he hm hc hlt, if_pos heq.symm]
  case geomFits =>
    intro pn hp hoff hheight hlatch hrate
    exact rastGeomWrite_allowed ho ⟨pn, hp, hoff, hheight, hlatch, hrate⟩
  case geomNoPanel =>
    intro hp
    exact rastGeomWrite_breach ho fun ⟨pn, hpn, _⟩ => by simp [hp] at hpn
  case geomRunning =>
    intro hon
    exact rastGeomWrite_breach ho fun ⟨_, _, hoff, _⟩ => hon hoff
  case geomMisfit =>
    intro pn hp _ hno
    exact rastGeomWrite_breach ho fun ⟨pn', hp', _, hfit⟩ => hno (Option.some.inj (hp.symm.trans hp') ▸ hfit)
  case segFits =>
    intro pn hp hoff hleast hmost hdiv
    exact pipeFmtWrite_allowed ho ⟨pn, hp, hoff, hleast, hmost, hdiv⟩
  case segNoPanel =>
    rintro (hp | hon)
    · exact pipeFmtWrite_breach ho fun ⟨pn, hpn, _⟩ => by simp [hp] at hpn
    · exact pipeFmtWrite_breach ho fun ⟨_, _, hoff, _⟩ => hon hoff
  case segMisfit =>
    intro pn hp _ hno
    exact pipeFmtWrite_breach ho fun ⟨pn', hp', _, hfit⟩ => hno (Option.some.inj (hp.symm.trans hp') ▸ hfit)
  case rolesFit =>
    intro hoff hall hrear
    refine engCtrlRearRoleWrite_allowed ho ?_
    rintro (hon | h15 | ⟨h0, hcell⟩)
    · exact hon hoff
    · exact hall h15
    · exact Bool.false_ne_true ((hrear h0).symm.trans hcell)
  case word =>
    intro h4
    rw [exec_registerWrite, execRegisterWrite, if_pos ⟨rfl, h4⟩]
  case pair =>
    intro h8
    rw [exec_registerWrite, execRegisterWrite, if_neg (by omega), if_pos ⟨rfl, h8⟩]
  case unaligned =>
    intro h4 h8
    rw [exec_registerWrite, execRegisterWrite, if_neg h4, if_neg h8]
  case aon =>
    intro hw
    rw [exec_flagClear, execFlagClear, if_pos rfl, if_pos hw]
  case page =>
    intro hw hoff hk
    simp only [exec_flagClear, execFlagClear, if_neg hoff, if_pos hk, if_pos hw]
  case pageRefused =>
    rintro hw (hoff | hk)
    · simp [exec_flagClear, execFlagClear, hoff, hw]
    · simp [exec_flagClear, execFlagClear, hk, hw]
  case flagIdle =>
    intro ho hoff hk hblock hbits
    rw [flagClear_owner ho hoff hk, if_pos ⟨hblock, hbits⟩]
  case flagPlain =>
    intro ho hoff hk hplain
    rw [flagClear_owner ho hoff hk, if_neg (by omega)]
  case flagRefused =>
    intro ho hoff hk
    simp [exec_flagClear, execFlagClear, hk, ho, hoff]

end Sys2Proof.Machine
end

section
/-! The panel commands: what a dispatched descriptor's command does, an equation for each outcome of SET_PANEL,
RASTER_ENABLE, PANEL_POWER_STEP and ASSIGN, and the obligation put together from them (R36, R151, R152, R266, R267). -/

namespace Sys2Proof.Machine

/-! ### Commands that name a dispatched descriptor (R134) -/

/-- The descriptor that a command names is ready: its effect is the command's. -/
theorem withReady_of_ready {s : State} {p q n op : Nat} {d : Dsc} (h : readyDsc s p q n op = some d)
    (f : Dsc → State → State) : withReady p q n op f s = .next (f d s) := by
  simp [withReady, h]

/-! ### SET_PANEL (R36, R151) -/

/-- The panel that the payload of a SET_PANEL describes. -/
def Dsc.panel (d : Dsc) : Panel :=
  { width := d.u16 16, height := d.u16 18, rateNum := d.u32 20, rateDen := d.u32 24, cells := d.u8 28, depth := d.u8 29 }

theorem rasterBusy_iff {s : State} : rasterBusy s = true ↔ s.raster.phase ≠ .off := decide_eq_true_iff

theorem exec_setPanel (p q n : Nat) (s : State) : exec (.setPanel p q n) s = execSetPanel p q n s := by rfl

theorem exec_setPanel_of_ready {s : State} {p q n : Nat} {d : Dsc} (h : readyDsc s p q n 0x0101 = some d) :
    exec (.setPanel p q n) s = .next (
      if rasterBusy s then complete d .busy 0 0 s
      else if !formatOkPanel (d.u16 16) (d.u16 18) (d.u32 20) (d.u32 24) then refuseWith d .refused 0x70 s
      else applyPanel d.panel s |> completeI d .ok 0 |> recordMissing) := by
  rw [exec_setPanel, execSetPanel, withReady_of_ready h, Dsc.panel]

theorem setPanel_takesEffect {s : State} {p q n : Nat} {d : Dsc} (h : readyDsc s p q n 0x0101 = some d)
    (hoff : s.raster.phase = .off) (hok : formatOkPanel (d.u16 16) (d.u16 18) (d.u32 20) (d.u32 24) = true) :
    exec (.setPanel p q n) s = .next (recordMissing (completeI d .ok 0 (applyPanel d.panel s))) := by
  have hidle : ¬ rasterBusy s = true := fun hb => rasterBusy_iff.mp hb hoff
  rw [exec_setPanel_of_ready h, if_neg hidle, if_neg (by simp [hok])]

theorem setPanel_busy {s : State} {p q n : Nat} {d : Dsc} (h : readyDsc s p q n 0x0101 = some d)
    (hon : s.raster.phase ≠ .off) : exec (.setPanel p q n) s = .next (complete d .busy 0 0 s) := by
  rw [exec_setPanel_of_ready h, if_pos (rasterBusy_iff.mpr hon)]

/-! ### RASTER_ENABLE (R151, R266, R267) -/

theorem exec_rasterEnable (p q n : Nat) (s : State) : exec (.rasterEnable p q n) s = execRasterEnable p q n s := by rfl

/-- While no sequence runs and no power entry has stopped RAST, a RASTER_ENABLE is served at once. -/
theorem rasterEnable_served {s : State} {p q n : Nat} {d : Dsc} (h : readyDsc s p q n 0x0105 = some d)
    (hphase : s.raster.phase = .off ∨ s.raster.phase = .running) (hstop : rasterStopped s = false) :
    exec (.rasterEnable p q n) s = .next (serveRaster d s) := by
  rw [exec_rasterEnable, execRasterEnable, withReady_of_ready h, if_pos ⟨hphase, hstop⟩]

theorem serveRaster_disable {s : State} {d : Dsc} (hrun : s.raster.phase = .running) (h0 : d.u8 16 = 0) :
    serveRaster d s = beginReverse (some (d.port, d.sq, d.seq)) (setRunning d s) := by
  simp [serveRaster, hrun, h0]

theorem serveRaster_blocked {s : State} {d : Dsc} (hoff : s.raster.phase = .off) (h1 : d.u8 16 = 1)
    (hblocked : rdB s Reg.BOOT_STATUS Fld.BOOT_STATUS_panel_blocked = true) :
    serveRaster d s = complete d .notReady 0 0 s := by
  simp [serveRaster, hoff, h1, hblocked]

theorem serveRaster_enable {s : State} {d : Dsc} (hoff : s.raster.phase = .off) (h1 : d.u8 16 = 1)
    (hfree : rdB s Reg.BOOT_STATUS Fld.BOOT_STATUS_panel_blocked = false)
    (hrate : rdB (checkRates s) Reg.SLK_STAT Fld.SLK_STAT_rate_ok = true) :
    serveRaster d s = beginEnable (some (d.port, d.sq, d.seq)) (setRunning d (checkRates s)) := by
  simp [serveRaster, hoff, h1, hfree, hrate]

/-! ### PANEL_POWER_STEP (R266, R267) -/

theorem exec_panelPowerStep (s : State) : exec .panelPowerStep s = execPanelPowerStep s := by rfl

/-- An enable that takes part is the first one left when its own number is reached. -/
theorem find_enable {s : State} {k : Nat} (hk : k < 4) (hused : enableUsed s k = true) :
    [0, 1, 2, 3].find? (fun i => decide (k ≤ i) && enableUsed s i) = some k := by
  have hcases : k = 0 ∨ k = 1 ∨ k = 2 ∨ k = 3 := by omega
  rcases hcases with rfl | rfl | rfl | rfl <;> simp [hused]

theorem panelPowerStep_rises {s : State} {k : Nat} (hphase : s.raster.phase = .rising k) (hk : k < 4)
    (hused : enableUsed s k = true) : exec .panelPowerStep s =
      .next (setRaster { s.raster with phase := .rising (k + 1), powered := k :: s.raster.powered } s) := by
  simp only [exec_panelPowerStep, execPanelPowerStep, hphase, find_enable hk hused]

theorem panelPowerStep_trains {s : State} (hphase : s.raster.phase = .rising 4) : exec .panelPowerStep s =
    .next (trainForRaster 1 (setRaster { s.raster with phase := .training } s)) := by
  have hnone : [0, 1, 2, 3].find? (fun i => decide (4 ≤ i) && enableUsed s i) = none := by simp
  simp only [exec_panelPowerStep, execPanelPowerStep, hphase, hnone]

/-- Below the enable that the falling sequence stands at, the one enable still high is the next to fall. -/
theorem nextFalling_of_pair {s : State} {k : Nat} (hk : k < 3) (hpow : s.raster.powered = [k + 1, k]) :
    nextFalling s (k + 1) = some k := by
  have hcases : k = 0 ∨ k = 1 ∨ k = 2 := by omega
  rcases hcases with rfl | rfl | rfl <;> simp [nextFalling, hpow]

theorem panelPowerStep_falls {s : State} {k : Nat} (hphase : s.raster.phase = .falling (k + 1)) (hk : k < 3)
    (hpow : s.raster.powered = [k + 1, k]) : exec .panelPowerStep s =
      .next (finishFalling (setRaster { s.raster with phase := .falling k, powered := [k + 1] } s)) := by
  have hleft : s.raster.powered.filter (fun j => decide (j ≠ k)) = [k + 1] := by simp [hpow]
  simp only [exec_panelPowerStep, execPanelPowerStep, hphase, nextFalling_of_pair hk hpow, hleft]

/-! ### ASSIGN (R152) -/

/-- The resources that an ASSIGN names. -/
def Dsc.assigned (d : Dsc) : List Nat := (List.range (d.u16 20)).map (· + d.u16 18)

theorem exec_assign (p q n : Nat) (s : State) : exec (.assign p q n) s = execAssign p q n s := by rfl

theorem exec_assign_of_ready {s : State} {p q n : Nat} {d : Dsc} (h : readyDsc s p q n 0x0103 = some d) :
    exec (.assign p q n) s = .next (
      if kindSize (d.u8 16) < d.u16 18 + d.u16 20 ∨ portExists s (d.u8 17) = false then refuseWith d .refused 0x30 s
      else if d.assigned.any (resourceBusy s (d.u8 16)) then complete d .busy 0 0 s
      else d.assigned.foldl (assignOne (d.u8 16) (d.u8 17)) s |> completeI d .ok 0) := by
  rw [exec_assign, execAssign, withReady_of_ready h, Dsc.assigned]

theorem assign_moves {s : State} {p q n : Nat} {d : Dsc} (h : readyDsc s p q n 0x0103 = some d)
    (hfits : d.u16 18 + d.u16 20 ≤ kindSize (d.u8 16)) (hhost : portExists s (d.u8 17) = true)
    (hfree : ∀ k, k < d.u16 20 → resourceBusy s (d.u8 16) (k + d.u16 18) = false) :
    exec (.assign p q n) s = .next (completeI d .ok 0 (d.assigned.foldl (assignOne (d.u8 16) (d.u8 17)) s)) := by
  have hnone : ¬ d.assigned.any (resourceBusy s (d.u8 16)) = true := by simpa [Dsc.assigned] using hfree
  rw [exec_assign_of_ready h, if_neg (by simp [hhost, hfits]), if_neg hnone]

theorem assign_outside {s : State} {p q n : Nat} {d : Dsc} (h : readyDsc s p q n 0x0103 = some d)
    (hout : kindSize (d.u8 16) < d.u16 18 + d.u16 20) :
    exec (.assign p q n) s = .next (complete d .refused 0 (resAt 16 0x30) s) := by
  rw [exec_assign_of_ready h, if_pos (.inl hout), refuseWith]

/-- Settles O26: the outcome of each command, clause by clause. -/
theorem rasterSequence : Obligations.RasterSequence := by
  intro s p q n d
  refine ⟨setPanel_takesEffect, setPanel_busy, ?disable, ?enable, ?blocked, fun k => panelPowerStep_rises,
    panelPowerStep_trains, fun k => panelPowerStep_falls, assign_moves, assign_outside⟩
  case disable =>
    intro h hrun hstop h0
    rw [rasterEnable_served h (.inr hrun) hstop, serveRaster_disable hrun h0]
  case enable =>
    intro h hoff hstop h1 hfree hrate
    rw [rasterEnable_served h (.inl hoff) hstop, serveRaster_enable hoff h1 hfree hrate]
  case blocked =>
    intro h hoff hstop h1 hblocked
    rw [rasterEnable_served h (.inl hoff) hstop, serveRaster_blocked hoff h1 hblocked]

end Sys2Proof.Machine
end

section
/-! Rails, starts and pins: what a start, a rail's power-good or its timeout, the straps, loss of supply and a wake from OFF leave,
an equation for each outcome of a command, and the obligation put together from them (R45, R46, R50, R54 to R57, R69, R522, R526). -/

namespace Sys2Proof.Machine

/-! ### The commands' meanings -/

theorem exec_powerOn (b : Bool) (s : State) : exec (.powerOn b) s = execPowerOn b s := by rfl

theorem exec_railPowerGood (r : RailReport) (s : State) : exec (.railPowerGood r) s = execRailPowerGood r s := by rfl

theorem exec_railPowerGoodTimeout (n : Nat) (s : State) :
    exec (.railPowerGoodTimeout n) s = execRailPowerGoodTimeout n s := by rfl

theorem exec_railRetryWait (s : State) : exec .railRetryWait s = execRailRetryWait s := by rfl

theorem exec_strapSample (a : Nat) (m n : Bool) (c : Nat) (s : State) :
    exec (.strapSample a m n c) s = execStrapSample a m n c s := by rfl

theorem exec_vddAonPowerUp (s : State) : exec .vddAonPowerUp s = execVddAonPowerUp s := by rfl

theorem exec_vddAonLoss (s : State) : exec .vddAonLoss s = execVddAonLoss s := by rfl

theorem exec_resetNLow (s : State) : exec .resetNLow s = execResetNLow s := by rfl

theorem exec_wakeFromOff (s : State) : exec .wakeFromOff s = execWakeFromOff s := by rfl

theorem exec_wakeN (s : State) : exec .wakeN s = execWakeN s := by rfl

/-! ### Rails commanded on and off (R54) -/

@[simp] theorem setPower_power (v : PowerState) (s : State) : (setPower v s).power = v := rfl

@[simp] theorem setBoot_boot (v : BootState) (s : State) : (setBoot v s).boot = v := rfl

/-- A rail that is off is commanded on: ON_OFF_CONFIG, VOUT_MODE is read, OPERATION (R54). -/
theorem railOn_of_off {n : Nat} {s : State} (h : s.power.rails.contains n = false) :
    railOn n s = { s with
      power := { s.power with rails := n :: s.power.rails }
      out := s.out ++ [.pmbus n 0x02 Config.onOffConfig.toNat (pmbusBytes n 0x02 Config.onOffConfig.toNat), .pmbusRead n 0x20,
        .pmbus n 1 0x80 (pmbusBytes n 1 0x80)] } := by
  rw [railOn, if_neg (by simpa using h)]
  simp [pmbus, emit, setPower]

@[simp] theorem railOn_frame (n : Nat) (s : State) :
    (railOn n s).regs = s.regs ∧ (railOn n s).boot = s.boot ∧ (railOn n s).straps = s.straps ∧
      (railOn n s).power.exit = s.power.exit := by
  unfold railOn
  split <;> simp [pmbus]

@[simp] theorem railOff_frame (n : Nat) (s : State) :
    (railOff n s).regs = s.regs ∧ (railOff n s).boot = s.boot ∧ (railOff n s).straps = s.straps ∧
      (railOff n s).power.exit = s.power.exit := by
  unfold railOff
  split <;> simp [pmbus]

/-- Rails turned off one after another leave the start as it was. -/
theorem foldl_railOff_boot (l : List Nat) (s : State) : (l.foldl (fun s r => railOff r s) s).boot = s.boot :=
  List.foldlRecOn (motive := fun t : State => t.boot = s.boot) l _ rfl fun _ h r _ => by simpa using h

/-! ### Starts (R46, R55, R69) -/

@[simp] theorem setReason_frame (bits : List Nat) (s : State) :
    (setReason bits s).boot = s.boot ∧ (setReason bits s).power = s.power ∧ (setReason bits s).straps = s.straps := by
  simp [setReason]

@[simp] theorem setStage_frame (n : Nat) (ph : StartPhase) (s : State) :
    (setStage n ph s).power = s.power ∧ (setStage n ph s).straps = s.straps ∧ (setStage n ph s).boot = { s.boot with phase := ph } := by
  simp [setStage]

/-- A start begins with every rail off and the straps unsampled. -/
@[simp] theorem restart_full_frame (s : State) :
    (restart true s).power.rails = [] ∧ (restart true s).straps = {} := by
  simp [restart]

@[simp] theorem noSource_frame (s : State) :
    (noSource s).boot = s.boot ∧ (noSource s).power = s.power ∧ (noSource s).straps = s.straps := by
  simp [noSource]

/-- A fuse operation on its way is finished first; without one the fuses stay (R568). -/
theorem restart_fuses {s : State} (h : s.sec.fuse = none) (full : Bool) : (restart full s).fuses = s.fuses := by
  simp [restart, h]

/-- A start leaves VDDIO alone commanded on, its power-good awaited, and the straps not yet sampled. -/
theorem powerStart_leaves (s : State) :
    (powerStart s).boot.phase = .rail 0 ∧ (powerStart s).power.rails = [0] ∧ (powerStart s).straps = {} := by
  simp [powerStart, railOn_of_off]

/-! ### Registers across a start (R563) -/

/-- Keeping some keys keeps what they read. -/
theorem tabGet_keep {α : Type} (d : Nat → α) {p : Nat → Bool} {k : Nat} (hk : p k = true) :
    ∀ {t : Tab α} {b : Nat}, keysAbove b t = true → tabGet d (tabKeep p t) k = tabGet d t k
  | [], _, _ => rfl
  | (j, v) :: t, b, ht => by
    simp only [keysAbove, Bool.and_eq_true, decide_eq_true_eq] at ht
    obtain ⟨-, ht⟩ := ht
    have ih := tabGet_keep d hk ht
    cases hj : p j with
    | true =>
      have hkeep : tabKeep p ((j, v) :: t) = (j, v) :: tabKeep p t := List.filter_cons_of_pos hj
      rw [hkeep, tabGet, tabGet, ih]
    | false =>
      have hkeep : tabKeep p ((j, v) :: t) = tabKeep p t := List.filter_cons_of_neg (by simp [hj])
      have hjk : j ≠ k := fun h => by simp [h, hk] at hj
      rw [hkeep, ih, tabGet, if_neg hjk]
      split
      · exact tabGet_below d (by omega) ht
      · rfl

/-- A start keeps the registers of the AON domain. -/
theorem rd_restart_aon {s : State} (h : RegsCanonical s) (full : Bool) {k : Nat} (hk : regScope k = .aon) :
    rd (restart full s) k = rd s k :=
  tabGet_keep regReset (by simp [keepsAcross, hk]) ((tabWf_iff ..).1 h).1

theorem canonical_restart {s : State} (h : RegsCanonical s) (full : Bool) : RegsCanonical (restart full s) :=
  tabWf_keep regReset (keepsAcross full) h

/-- The reason bits are AON_STATUS's alone. -/
theorem setReason_keeps {s : State} (h : RegsCanonical s) (bits : List Nat) :
    RegsCanonical (setReason bits s) ∧ ∀ k, k ≠ Reg.AON_STATUS → rd (setReason bits s) k = rd s k :=
  List.foldlRecOn (motive := fun t : State => RegsCanonical t ∧ ∀ k, k ≠ Reg.AON_STATUS → rd t k = rd s k) _ _
    ⟨h, fun _ _ => rfl⟩ fun _ ⟨hc, hr⟩ _ _ => ⟨canonical_wrF hc .., fun k hk => (rd_wrF_other hc _ _ hk).trans (hr k hk)⟩

/-- A start keeps each AON register but the one of its reason bits. -/
theorem rd_powerStart_aon {s : State} (h : RegsCanonical s) {k : Nat} (hk : regScope k = .aon) (hreason : k ≠ Reg.AON_STATUS) :
    rd (powerStart s) k = rd s k := by
  have hboot : k ≠ Reg.BOOT_STATUS := by rintro rfl; exact absurd hk (by decide)
  have hrestart := canonical_restart h true
  obtain ⟨hcanon, hkept⟩ := setReason_keeps (canonical_wrF hrestart Reg.BOOT_STATUS Fld.BOOT_STATUS_fw_source 3)
    (if s.boot.thermalStop then [5] else [])
  calc rd (powerStart s) k
      = rd (wrF Reg.BOOT_STATUS Fld.BOOT_STATUS_stage 1 (setReason (if s.boot.thermalStop then [5] else [])
          (noSource (restart true s)))) k := by
        simp [powerStart, rd, setStage]
    _ = rd (noSource (restart true s)) k := (rd_wrF_other hcanon _ _ hboot).trans (hkept k hreason)
    _ = rd s k := (rd_wrF_other hrestart _ _ hboot).trans (rd_restart_aon h true hk)

/-! ### POWER_ON (R52, R55) -/

/-- RESET_N rises: the device starts, and with BSCAN_EN high it starts in board-test mode. -/
theorem powerOn_of_held {s t : State} {b : Bool} (h : s.boot.phase = .held)
    (ht : t = powerStart (setBoot { s.boot with bscan := b } s)) :
    exec (.powerOn b) s = .next (if b then setBoot { t.boot with phase := .boardTest, board := true } t else t) := by
  subst ht
  exact (exec_powerOn b s).trans (if_pos h)

theorem powerOn_starts {s : State} (b : Bool) (h : s.boot.phase = .held) :
    ∃ t, exec (.powerOn b) s = .next t ∧ t.power.rails = [0] ∧ t.straps = {} ∧
      t.boot.phase = (if b then .boardTest else .rail 0) := by
  obtain ⟨hphase, hrails, hstraps⟩ := powerStart_leaves (setBoot { s.boot with bscan := b } s)
  refine ⟨_, powerOn_of_held h rfl, ?_⟩
  cases b with
  | false => exact ⟨hrails, hstraps, hphase⟩
  | true => simp [hrails, hstraps]

/-! ### What follows a rail at power-good (R50, R55) -/

theorem afterRail_unsampled {s : State} (h : s.straps.sampled = false) :
    afterRail 0 s = setBoot { s.boot with phase := .straps } s := by
  simp [afterRail, h]

theorem afterRail_next {n : Nat} {s : State} (hn : n < 7) (hstraps : n = 0 → s.straps.sampled = true)
    (hboard : s.boot.board = false) :
    afterRail n s = setBoot { (railOn (n + 1) s).boot with phase := .rail (n + 1) } (railOn (n + 1) s) := by
  have hsampled : ¬ (n = 0 ∧ ¬ s.straps.sampled = true) := fun ⟨h0, hno⟩ => hno (hstraps h0)
  rw [afterRail, if_neg hsampled, if_neg (by simp [hboard])]
  exact if_pos hn

theorem afterRail_last {s : State} (hboard : s.boot.board = false) : afterRail 7 s = railsGood s := by
  simp [afterRail, hboard]

theorem railsGood_phase (s : State) : (railsGood s).boot.phase = .rom := by
  simp [railsGood]

/-! ### RAIL_POWER_GOOD (R55, R526) -/

/-- The rail that a start waits for is at power-good. -/
theorem railPowerGood_of_start {s : State} {n m : Nat} (hm : ulinear16 m = true) (hphase : s.boot.phase = .rail n) :
    exec (.railPowerGood ⟨n, m⟩) s = .next (afterRail n (emit (.pmbusRead n 0x79) s)) := by
  simp [exec_railPowerGood, execRailPowerGood, hm, hphase]

/-- The rail that an exit waits for is at power-good. -/
theorem railPowerGood_of_exit {s : State} {x : Exit} {n m : Nat} (hm : ulinear16 m = true)
    (hrail : ∀ k, s.boot.phase ≠ .rail k) (htest : s.boot.phase ≠ .boardTest) (hexit : s.power.exit = some x)
    (hhead : x.rails.head? = some n) (hwait : x.waiting = false) :
    exec (.railPowerGood ⟨n, m⟩) s = .next (nextExitRail x (emit (.pmbusRead n 0x79) s)) := by
  rw [exec_railPowerGood, execRailPowerGood, if_neg (by simp [hm])]
  split
  · exact absurd ‹_› (hrail _)
  · exact absurd ‹_› htest
  · simp [hexit, hhead, hwait]

/-- A regulator of another format than ULINEAR16 has failed its power-good. -/
theorem railPowerGood_of_format {r : RailReport} (h : ulinear16 r.voutMode = false) (s : State) :
    exec (.railPowerGood r) s = exec (.railPowerGoodTimeout r.rail) s := by
  rw [exec_railPowerGood, execRailPowerGood, if_pos (by simp [h]), exec_railPowerGoodTimeout]

theorem nextExitRail_of_more {x : Exit} {n r : Nat} {rest : List Nat} (h : x.rails = n :: r :: rest) (s : State) :
    nextExitRail x s =
      railOn r (setPower { s.power with exit := some { x with rails := r :: rest, raised := r :: x.raised } } s) := by
  rw [nextExitRail, h]

/-- A start goes from one rail to the next, which it commands on. -/
theorem railPowerGood_next {s : State} {n m : Nat} (hn : n < 7) (hm : ulinear16 m = true) (hphase : s.boot.phase = .rail n)
    (hstraps : n = 0 → s.straps.sampled = true) (hboard : s.boot.board = false)
    (hoff : s.power.rails.contains (n + 1) = false) :
    ∃ t, exec (.railPowerGood ⟨n, m⟩) s = .next t ∧ t.power.rails = (n + 1) :: s.power.rails ∧
      t.boot.phase = .rail (n + 1) ∧ t.regs = s.regs ∧
      t.out = s.out ++ [.pmbusRead n 0x79, .pmbus (n + 1) 0x02 Config.onOffConfig.toNat
        (pmbusBytes (n + 1) 0x02 Config.onOffConfig.toNat), .pmbusRead (n + 1) 0x20,
        .pmbus (n + 1) 1 0x80 (pmbusBytes (n + 1) 1 0x80)] := by
  refine ⟨_, railPowerGood_of_start hm hphase, ?_⟩
  rw [afterRail_next hn (by simpa using hstraps) (by simpa using hboard), railOn_of_off (by simpa using hoff)]
  exact ⟨rfl, rfl, rfl, List.append_assoc ..⟩

theorem railPowerGood_straps {s : State} {m : Nat} (hm : ulinear16 m = true) (hphase : s.boot.phase = .rail 0)
    (hstraps : s.straps.sampled = false) :
    ∃ t, exec (.railPowerGood ⟨0, m⟩) s = .next t ∧ t.boot.phase = .straps ∧ t.power.rails = s.power.rails ∧
      t.regs = s.regs := by
  refine ⟨_, railPowerGood_of_start hm hphase, ?_⟩
  rw [afterRail_unsampled (by simpa using hstraps)]
  exact ⟨rfl, rfl, rfl⟩

theorem railPowerGood_last {s : State} {m : Nat} (hm : ulinear16 m = true) (hphase : s.boot.phase = .rail 7)
    (hboard : s.boot.board = false) : ∃ t, exec (.railPowerGood ⟨7, m⟩) s = .next t ∧ t.boot.phase = .rom := by
  refine ⟨_, railPowerGood_of_start hm hphase, ?_⟩
  rw [afterRail_last (by simpa using hboard), railsGood_phase]

/-- An exit from SLEEP or DEEP goes from one rail to the next. -/
theorem railPowerGood_exitNext {s : State} {x : Exit} {n r : Nat} {rest : List Nat} {m : Nat} (hm : ulinear16 m = true)
    (hrail : ∀ k, s.boot.phase ≠ .rail k) (htest : s.boot.phase ≠ .boardTest) (hexit : s.power.exit = some x)
    (hmore : x.rails = n :: r :: rest) (hwait : x.waiting = false) (hoff : s.power.rails.contains r = false) :
    ∃ t, exec (.railPowerGood ⟨n, m⟩) s = .next t ∧ t.power.rails = r :: s.power.rails ∧
      t.power.exit = some { x with rails := r :: rest, raised := r :: x.raised } := by
  refine ⟨_, railPowerGood_of_exit hm hrail htest hexit (by simp [hmore]) hwait, ?_⟩
  rw [nextExitRail_of_more hmore, railOn_of_off (by simpa using hoff)]
  exact ⟨rfl, rfl⟩

/-! ### RAIL_POWER_GOOD_TIMEOUT and the retry wait (R56) -/

theorem railPowerGoodTimeout_of_start {s : State} {n : Nat} (hphase : s.boot.phase = .rail n) :
    exec (.railPowerGoodTimeout n) s = .next (railMissed n s) := by
  simp [exec_railPowerGoodTimeout, execRailPowerGoodTimeout, hphase]

theorem railPowerGoodTimeout_of_exit {s : State} {x : Exit} {n : Nat} (hrail : ∀ k, s.boot.phase ≠ .rail k)
    (htest : s.boot.phase ≠ .boardTest) (hexit : s.power.exit = some x) (hhead : x.rails.head? = some n)
    (hwait : x.waiting = false) : exec (.railPowerGoodTimeout n) s = .next (exitRailMissed x n s) := by
  rw [exec_railPowerGoodTimeout, execRailPowerGoodTimeout]
  split
  · exact absurd ‹_› (hrail _)
  · exact absurd ‹_› htest
  · simp [hexit, hhead, hwait]

/-- The first miss of an exit: its rails go off, and the sequence waits to be repeated. -/
theorem railPowerGoodTimeout_exitFirst {s : State} {x : Exit} {n : Nat} (hrail : ∀ k, s.boot.phase ≠ .rail k)
    (htest : s.boot.phase ≠ .boardTest) (hexit : s.power.exit = some x) (hhead : x.rails.head? = some n)
    (hwait : x.waiting = false) (hfirst : x.retried = false) :
    ∃ t, exec (.railPowerGoodTimeout n) s = .next t ∧ t.boot = s.boot ∧ t.power.exit =
      some { x with rails := x.raised.reverse ++ x.rails.drop 1, raised := [], retried := true, waiting := true } := by
  refine ⟨_, railPowerGoodTimeout_of_exit hrail htest hexit hhead hwait, ?_⟩
  rw [exitRailMissed, if_neg (by simp [hfirst])]
  exact ⟨foldl_railOff_boot x.raised s, rfl⟩

/-- The first miss of a start: every rail goes off, and the sequence waits to be repeated. -/
theorem railPowerGoodTimeout_first {s : State} {n : Nat} (hphase : s.boot.phase = .rail n) (hfirst : s.boot.retried = false) :
    ∃ t, exec (.railPowerGoodTimeout n) s = .next t ∧ t.boot.phase = .retryWait ∧ t.boot.retried = true ∧
      t.power.rails = [] := by
  refine ⟨_, railPowerGoodTimeout_of_start hphase, ?_⟩
  rw [railMissed, if_neg (by simp [hfirst])]
  exact ⟨rfl, rfl, rfl⟩

/-- The second miss of a start: only VDD_AON stays on. -/
theorem railPowerGoodTimeout_second {s : State} {n : Nat} (hphase : s.boot.phase = .rail n) (hsecond : s.boot.retried = true) :
    ∃ t, exec (.railPowerGoodTimeout n) s = .next t ∧ t.boot.phase = .railsOff ∧ t.power.rails = [] ∧
      t.power.state = .off := by
  refine ⟨_, railPowerGoodTimeout_of_start hphase, ?_⟩
  rw [railMissed, if_pos hsecond]
  exact ⟨rfl, rfl, rfl⟩

/-- After the wait of a missed power-good the sequence begins again with VDDIO. -/
theorem railRetryWait_again {s : State} (hphase : s.boot.phase = .retryWait) (hretried : s.boot.retried = true)
    (hboard : s.boot.board = false) (hoff : s.power.rails = []) :
    ∃ t, exec .railRetryWait s = .next t ∧ t.boot.phase = .rail 0 ∧ t.power.rails = [0] := by
  refine ⟨_, by rw [exec_railRetryWait, execRailRetryWait, if_neg (by simp [hphase]), if_pos hretried], ?_⟩
  rw [railOn_of_off (by simp [hoff])]
  simp [hboard, hoff]

/-! ### STRAP_SAMPLE (R50, R55) -/

theorem strapSample_takes {s : State} {a : Nat} {m n : Bool} {c : Nat} (ha : a < 4) (hc : c < 4)
    (hphase : s.boot.phase = .straps) (hstraps : s.straps.sampled = false) (hboard : s.boot.board = false)
    (hoff : s.power.rails.contains 1 = false) :
    ∃ t, exec (.strapSample a m n c) s = .next t ∧
      t.straps = { ownerSel := a, merge01 := m, merge23 := n, bmcAddr := c, sampled := true } ∧
      t.boot.phase = .rail 1 ∧ t.power.rails = 1 :: s.power.rails := by
  refine ⟨_, (exec_strapSample ..).trans (if_pos ⟨hphase, hstraps⟩), ?_⟩
  rw [afterRail_next (by decide) (by simp) (by simpa using hboard), railOn_of_off (by simpa using hoff), Nat.mod_eq_of_lt ha,
    Nat.mod_eq_of_lt hc]
  exact ⟨rfl, rfl, rfl⟩

/-! ### VDD_AON and RESET_N (R46, R55, R57) -/

theorem vddAonPowerUp_holds {s : State} (h : s.boot.phase = .aonOff) :
    ∃ t, exec .vddAonPowerUp s = .next t ∧ t.boot.phase = .held ∧ t.regs = s.regs :=
  ⟨_, (exec_vddAonPowerUp s).trans (if_pos h), rfl, rfl⟩

/-- Loss of VDD_AON: the fuses alone outlast it. -/
theorem vddAonLoss_loses (s : State) :
    ∃ t, exec .vddAonLoss s = .next t ∧ t.regs = [] ∧ t.boot.phase = .aonOff ∧ t.host = {} ∧ t.power.rails = [] ∧
      t.pending = s.pending ∧ (s.sec.fuse = none → t.fuses = s.fuses) :=
  ⟨_, exec_vddAonLoss s, rfl, rfl, rfl, rfl, rfl, fun h => restart_fuses h true⟩

/-- RESET_N low: the device restarts, and the AON registers and the fuses stay. -/
theorem resetNLow_holds {s : State} (h : s.boot.phase ≠ .aonOff) :
    ∃ t, exec .resetNLow s = .next t ∧ t.boot.phase = .held ∧ t.host = {} ∧ t.power.rails = [] ∧
      (RegsCanonical s → ∀ k, regScope k = .aon → rd t k = rd s k) ∧ (s.sec.fuse = none → t.fuses = s.fuses) :=
  ⟨_, (exec_resetNLow s).trans (if_neg h), rfl, rfl, rfl, fun hc _ hk => rd_restart_aon hc true hk,
    fun hf => restart_fuses hf true⟩

/-! ### Wakes from OFF (R69, R522, R541) -/

theorem isOff_iff {s : State} : isOff s = true ↔ s.power.state = .off ∧ s.boot.phase ≠ .retryWait := by
  simp [isOff]

/-- A recorded wake is what PWR_WAKE_STAT shows, and the register file stays canonical. -/
theorem recordWake_shows {s : State} (h : RegsCanonical s) {w : Wake} (hw : w.source < 8) :
    RegsCanonical (recordWake w s) ∧ rdF (recordWake w s) Reg.PWR_WAKE_STAT Fld.PWR_WAKE_STAT_source = w.source := by
  have hsource := canonical_wrF h Reg.PWR_WAKE_STAT Fld.PWR_WAKE_STAT_source w.source
  refine ⟨canonical_wrF hsource .., ?_⟩
  rw [recordWake, rdF_wrF_field hsource _ _ (by decide) (by decide), rdF_wrF_same h _ _ (by decide)]
  exact Nat.mod_eq_of_lt hw

theorem wakeFromOff_starts {s : State} (hoff : s.power.state = .off) (hphase : s.boot.phase ≠ .retryWait) :
    ∃ t, exec .wakeFromOff s = .next t ∧ t.boot.phase = .rail 0 ∧ t.power.rails = [0] ∧
      (RegsCanonical s → rdF t Reg.PWR_WAKE_STAT Fld.PWR_WAKE_STAT_source = 1) := by
  obtain ⟨hrail, hrails, -⟩ := powerStart_leaves (recordWake { source := 1 } s)
  refine ⟨startFromOff s, by rw [exec_wakeFromOff, execWakeFromOff, if_pos (isOff_iff.2 ⟨hoff, hphase⟩)], hrail, hrails,
    fun hc => ?_⟩
  obtain ⟨hcanon, hshown⟩ := recordWake_shows hc (w := { source := 1 }) (by decide)
  rw [rdF, startFromOff, rd_powerStart_aon hcanon (by decide) (by decide)]
  exact hshown

theorem wakeN_of_off {s : State} (hoff : s.power.state = .off) (hphase : s.boot.phase ≠ .retryWait) :
    exec .wakeN s = exec .wakeFromOff s := by
  have h := isOff_iff.2 ⟨hoff, hphase⟩
  rw [exec_wakeN, execWakeN, exec_wakeFromOff, execWakeFromOff, if_pos h, if_pos h]

theorem wakeFromOff_in_retryWait {s : State} (h : s.boot.phase = .retryWait) : exec .wakeFromOff s = .next s := by
  rw [exec_wakeFromOff, execWakeFromOff, if_neg fun hoff => (isOff_iff.1 hoff).2 h]

/-! ### Pins (R45, R46) -/

theorem awake_of_off {s : State} (h : s.power.state = .off) : awake s = false := by simp [awake, h]

theorem awake_of_run {s : State} (h : s.power.state = .run) (hio : s.power.rails.contains 0 = true) : awake s = true := by
  rw [awake, h, hio]
  rfl

/-- In OFF the panel's pins are Hi-Z, and FAULT_N is released. -/
theorem pins_off {s : State} (h : s.power.state = .off) (n : Nat) :
    pinState s (.sluiceTx n) = .hiZ ∧ pinState s (.gateOut n) = .hiZ ∧ pinState s (.panelPower n) = .hiZ ∧
      pinState s .storePerst = .hiZ ∧ pinState s .fault = .released := by
  have hfault : faultPin s = false := by simp [faultPin, inputsLive, h]
  have hperst : pinState s .storePerst = .hiZ := by
    simp only [pinState, awake_of_off h]
    split <;> rfl
  exact ⟨by simp [pinState, sluiceDriven, awake_of_off h], by simp [pinState, awake_of_off h], by simp [pinState, awake_of_off h],
    hperst, by simp [pinState, hfault]⟩

/-- Before the first enable the panel's pins are Hi-Z, while the Headwater inputs are terminated. -/
theorem pins_undriven {s : State} (h : s.power.state = .run) (hio : s.power.rails.contains 0 = true)
    (hdriven : s.raster.driven = false) (n : Nat) :
    pinState s (.sluiceTx n) = .hiZ ∧ pinState s (.gateOut n) = .hiZ ∧ pinState s (.panelPower n) = .hiZ ∧
      pinState s (.headwaterRx n) = .terminated := by
  simp [pinState, sluiceDriven, awake_of_run h hio, hdriven]

theorem pins_driven {s : State} (h : s.power.state = .run) (hio : s.power.rails.contains 0 = true)
    (hdriven : s.raster.driven = true) (n : Nat) :
    pinState s (.gateOut n) = (if bitAt s.raster.gto n then .high else .low) ∧
      pinState s (.panelPower n) = (if s.raster.powered.contains n then .high else .low) := by
  simp [pinState, awake_of_run h hio, hdriven, level]

/-- Settles O10: the outcome of each command, and the pins, clause by clause. -/
theorem railsAndRestarts : Obligations.RailsAndRestarts := by
  intro s
  exact ⟨powerOn_starts, fun _ _ => railPowerGood_next, fun _ => railPowerGood_straps, fun _ => railPowerGood_last,
    fun _ _ _ _ _ => railPowerGood_exitNext, fun _ _ => railPowerGoodTimeout_exitFirst, fun _ => railPowerGoodTimeout_first,
    fun _ => railPowerGoodTimeout_second, railRetryWait_again, fun _ _ _ _ => strapSample_takes, vddAonPowerUp_holds,
    vddAonLoss_loses s, resetNLow_holds, wakeFromOff_starts, wakeN_of_off, pins_off, pins_undriven, pins_driven,
    fun _ h => railPowerGood_of_format h s, wakeFromOff_in_retryWait⟩

end Sys2Proof.Machine
end

section
/-! Port resets and links that come up: an equation for each outcome of PORT_RESET and HOST_LINK_UP, and the obligation put
together from them (R49, R69, R72, R74, R108, R552). -/

namespace Sys2Proof.Machine

theorem exec_portReset (p c : Nat) (s : State) : exec (.portReset p c) s = execPortReset p c s := by rfl

theorem exec_hostLinkUp (p : Nat) (s : State) : exec (.hostLinkUp p) s = execHostLinkUp p s := by rfl

/-! ### PORT_RESET (R69, R72, R108, R552) -/

/-- The state that a reset drops the port from: the owner's descriptors have completed with ABORTED (R72). -/
theorem abortedAtReset_eq {s u : State} {p : Nat} (h : p = owner s ∧ u = abortPort p none s ∨ p ≠ owner s ∧ u = s) :
    (if p = owner s then abortPort p none s else s) = u := by
  rcases h with ⟨howner, rfl⟩ | ⟨hother, rfl⟩
  · rw [if_pos howner]
  · rw [if_neg hother]

/-- Each cause of R552 drops the port; every one but the function level reset (3) takes its link down as well. -/
theorem portReset_of_live {s u : State} {p c : Nat} (hexists : portExists s p = true) (hlive : inputsLive s = true)
    (hc : c ≤ 3) (hu : p = owner s ∧ u = abortPort p none s ∨ p ≠ owner s ∧ u = s) :
    exec (.portReset p c) s = .next (postEvent .device 0x01F5 (0x10 + p) 2 (dataAt 24 p ||| dataAt 25 c)
      (setFlag Flag.FAULT_port_down (if c = 3 then dropPort p u else
        askUnit (0x10 + p) 2 (setPort p { portOf (dropPort p u) p with up := false } (dropPort p u))))) := by
  have hserved : ¬ (!portExists s p || decide (3 < c) || !inputsLive s) = true := by simp [hexists, hlive, hc]
  rw [exec_portReset, execPortReset, if_neg hserved, abortedAtReset_eq hu]

theorem portReset_function {s u : State} {p : Nat} (hexists : portExists s p = true) (hlive : inputsLive s = true)
    (hu : p = owner s ∧ u = abortPort p none s ∨ p ≠ owner s ∧ u = s) :
    exec (.portReset p 3) s = .next (postEvent .device 0x01F5 (0x10 + p) 2 (dataAt 24 p ||| dataAt 25 3)
      (setFlag Flag.FAULT_port_down (dropPort p u))) := by
  rw [portReset_of_live hexists hlive le_rfl hu, if_pos rfl]

theorem portReset_link {s u : State} {p c : Nat} (hexists : portExists s p = true) (hlive : inputsLive s = true)
    (hc : c < 3) (hu : p = owner s ∧ u = abortPort p none s ∨ p ≠ owner s ∧ u = s) :
    exec (.portReset p c) s = .next (postEvent .device 0x01F5 (0x10 + p) 2 (dataAt 24 p ||| dataAt 25 c)
      (setFlag Flag.FAULT_port_down (askUnit (0x10 + p) 2
        (setPort p { portOf (dropPort p u) p with up := false } (dropPort p u))))) := by
  rw [portReset_of_live hexists hlive hc.le hu, if_neg hc.ne]

/-- In DEEP and OFF a port's inputs are ignored (R49). -/
theorem portReset_ignored {s : State} (p c : Nat) (hdead : inputsLive s = false) : exec (.portReset p c) s = .next s := by
  rw [exec_portReset, execPortReset, if_pos (by simp [hdead])]

/-! ### HOST_LINK_UP (R74) -/

theorem hostLinkUp_comesUp {s : State} {p : Nat} (hexists : portExists s p = true) (hphase : s.boot.phase = .load)
    (hrun : s.power.state = .run) (hdown : (portOf s p).up = false) :
    exec (.hostLinkUp p) s = .next (askUnit (0x10 + p) 1 (setPort p { portOf s p with up := true } s)) := by
  simp [exec_hostLinkUp, execHostLinkUp, hexists, hphase, hrun, hdown]

/-- Settles O17: a function level reset, the other causes, the ignored input, and a link that comes up. -/
theorem portLinks : Obligations.PortLinks := by
  intro s p hexists
  exact ⟨fun _ hlive hu => ⟨portReset_function hexists hlive hu, fun _ hc => portReset_link hexists hlive hc hu⟩,
    fun c => portReset_ignored p c, hostLinkUp_comesUp hexists⟩

end Sys2Proof.Machine
end

section

/-! ## Isolation: no instruction of a kernel reaches the fuses, the keys, the store or the links (R101)

Each function that an instruction of an engine calls keeps the parts of the state that KernelIsolated names. The lemmas
follow the model's order, from the helpers to the instructions; O58 is the case split over the instructions. -/

namespace Sys2Proof.Machine

/-- KernelIsolated spelt out for simp: a lemma about it rewrites each of the fields. -/
@[simp] abbrev Isolated (s t : State) : Prop :=
  t.fuses = s.fuses ∧ t.sec = s.sec ∧ t.boot = s.boot ∧ t.straps = s.straps ∧ t.assign = s.assign ∧
    t.store.dir = s.store.dir ∧ t.store.nvme = s.store.nvme ∧ t.store.mounted = s.store.mounted ∧ t.hold = s.hold ∧
    t.rsv = s.rsv ∧ t.slk = s.slk ∧ t.lanes = s.lanes ∧ t.hwl = s.hwl

theorem kernelIsolated_iff {s t : State} : KernelIsolated s t ↔ Isolated s t := Iff.rfl

theorem Isolated.trans {s t u : State} (h : Isolated s t) (k : Isolated t u) : Isolated s u := by simp_all

/-- A conditional update is read field by field. -/
@[simp] theorem ite_fields (c : Prop) [Decidable c] (s t : State) :
    (if c then s else t).fuses = (if c then s.fuses else t.fuses) ∧ (if c then s else t).sec = (if c then s.sec else t.sec) ∧
      (if c then s else t).boot = (if c then s.boot else t.boot) ∧
      (if c then s else t).straps = (if c then s.straps else t.straps) ∧
      (if c then s else t).assign = (if c then s.assign else t.assign) ∧
      (if c then s else t).store.dir = (if c then s.store.dir else t.store.dir) ∧
      (if c then s else t).store.nvme = (if c then s.store.nvme else t.store.nvme) ∧
      (if c then s else t).store.mounted = (if c then s.store.mounted else t.store.mounted) ∧
      (if c then s else t).hold = (if c then s.hold else t.hold) ∧ (if c then s else t).rsv = (if c then s.rsv else t.rsv) ∧
      (if c then s else t).slk = (if c then s.slk else t.slk) ∧ (if c then s else t).lanes = (if c then s.lanes else t.lanes) ∧
      (if c then s else t).hwl = (if c then s.hwl else t.hwl) := by
  split_ifs <;> simp

@[simp] theorem foldl_isolated {α : Type} (f : State → α → State) (h : ∀ s a, Isolated s (f s a)) :
    ∀ (l : List α) (s : State), Isolated s (l.foldl f s)
  | [], _ => by simp
  | a :: l, s => (h s a).trans (foldl_isolated f h l (f s a))

/-! ### Tables, tags and the pipeline's state -/

@[simp] theorem setDegraded_isolated (d s) : Isolated s (setDegraded d s) := by simp [setDegraded]
@[simp] theorem degrade_isolated (cell stage s) : Isolated s (degrade cell stage s) := by simp [degrade]
@[simp] theorem writeTag_isolated (t s) : Isolated s (writeTag t s) := by simp [writeTag]
@[simp] theorem setPipe_isolated (p s) : Isolated s (setPipe p s) := by simp [setPipe]
@[simp] theorem putDrive_isolated (cell t drive s) : Isolated s (putDrive cell t drive s) := by simp [putDrive]
@[simp] theorem putHistory_isolated (cell t h s) : Isolated s (putHistory cell t h s) := by simp [putHistory]
@[simp] theorem askUnit_isolated (u st s) : Isolated s (askUnit u st s) := by simp [askUnit]

/-! ### Jobs and fallback (R361, R365) -/

@[simp] theorem followEngines_isolated (c s) : Isolated s (followEngines c s) := by simp [followEngines]
@[simp] theorem followFences_isolated (s) : Isolated s (followFences s) := by simp [followFences]
@[simp] theorem setJob_isolated (j s) : Isolated s (setJob j s) := by simp [setJob]
@[simp] theorem clearEngine_isolated (e s) : Isolated s (clearEngine e s) := by simp [clearEngine]

@[simp] theorem enqueueFetch_isolated (j n s) : Isolated s (enqueueFetch j n s) := by
  induction n generalizing s with
  | zero => simp [enqueueFetch]
  | succ n ih =>
    unfold enqueueFetch
    dsimp only
    split <;> simp [ih]
@[simp] theorem enqueueFetches_isolated (c s) : Isolated s (enqueueFetches c s) := by simp [enqueueFetches]

@[simp] theorem dropJob_isolated (j s) : Isolated s (dropJob j s) := by simp [dropJob]
@[simp] theorem publishStats_isolated (s) : Isolated s (publishStats s) := by simp [publishStats]
@[simp] theorem keepTag_isolated (cell g s) : Isolated s (keepTag cell g s) := by simp [keepTag]

@[simp] theorem fallTile_isolated (cell tc tr cause engine s) : Isolated s (fallTile cell tc tr cause engine s) := by
  simp [fallTile]

@[simp] theorem fallBack_isolated (next cell tc tr cause engine s) : Isolated s (fallBack next cell tc tr cause engine s) := by
  simp [fallBack]

@[simp] theorem fallJob_isolated (j cause e s) : Isolated s (fallJob j cause e s) := by simp [fallJob]
@[simp] theorem engineLeaves_isolated (e j s) : Isolated s (engineLeaves e j s) := by simp [engineLeaves]
@[simp] theorem fallEngine_isolated (e cause s) : Isolated s (fallEngine e cause s) := by simp [fallEngine]

/-! ### Fences, stops and kernel faults (R362 to R364) -/

@[simp] theorem tellFence_isolated (c engine cause s) : Isolated s (tellFence c engine cause s) := by simp [tellFence]
@[simp] theorem fenceCluster_isolated (c cause s) : Isolated s (fenceCluster c cause s) := by simp [fenceCluster]
@[simp] theorem fenceEngine_isolated (e cause s) : Isolated s (fenceEngine e cause s) := by simp [fenceEngine]
@[simp] theorem stopEngine_isolated (e cause s) : Isolated s (stopEngine e cause s) := by simp [stopEngine]
@[simp] theorem setBind_isolated (cell stage b s) : Isolated s (setBind cell stage b s) := by simp [setBind]
@[simp] theorem noteKernelFault_isolated (cell stage s) : Isolated s (noteKernelFault cell stage s) := by simp [noteKernelFault]
@[simp] theorem kernelFault_isolated (e cause s) : Isolated s (kernelFault e cause s) := by simp [kernelFault]

/-! ### Dispatch (R357 to R359) -/

@[simp] theorem padWrite_isolated (c a bs s) : Isolated s (padWrite c a bs s) := by simp [padWrite]

@[simp] theorem advanceJob_isolated (n j s) : Isolated s (advanceJob n j s) := by
  induction n generalizing j s with
  | zero => simp [advanceJob]
  | succ n ih =>
    unfold advanceJob
    split
    · simp
    · dsimp only
      split
      · simp [ih]
      · simp [placeStage]

@[simp] theorem placeJob_isolated (c es base j s) : Isolated s (placeJob c es base j s) := by simp [placeJob]

@[simp] theorem serveReruns_isolated (s) : Isolated s (serveReruns s) := by
  refine foldl_isolated _ (fun s j => ?_) _ _
  dsimp only
  split <;> simp

/-! ### Error correction and patrol (R370 to R373) -/

@[simp] theorem takeRegion_isolated (c s) : Isolated s (takeRegion c s).2.2 := by
  unfold takeRegion
  dsimp only
  split <;> simp

@[simp] theorem abortVisit_isolated (c s) : Isolated s (abortVisit c s) := by simp [abortVisit]
@[simp] theorem touchVisit_isolated (e words s) : Isolated s (touchVisit e words s) := by simp [touchVisit]
@[simp] theorem setWrong_isolated (c x n s) : Isolated s (setWrong c x n s) := by simp [setWrong]
@[simp] theorem correctWord_isolated (c s x) : Isolated s (correctWord c s x) := by simp [correctWord]

@[simp] theorem meetDouble_isolated (who c s x) : Isolated s (meetDouble who c s x) := by
  unfold meetDouble
  dsimp only
  split_ifs <;> simp

@[simp] theorem abandonJob_isolated (e s) : Isolated s (abandonJob e s) := by
  unfold abandonJob
  split <;> simp

@[simp] theorem meetErrors_isolated (who e words s) : Isolated s (meetErrors who e words s).2 := by
  unfold meetErrors
  dsimp only
  split_ifs <;> simp [rewriteRegion]

/-- A read of words goes on with an effect, or ends a job: where the effect is isolated, so is the whole. -/
@[simp] theorem eccAccess_isolated (e ws) {f : State → State} (hf : ∀ s, Isolated s (f s)) (s) :
    Isolated s (eccAccess e ws f s) := by
  simp [eccAccess, hf]

/-! ### Memory of an engine (R368, R369, R386) -/

@[simp] theorem touchQueue_isolated (c a s) : Isolated s (touchQueue c a s) := by simp [touchQueue]
@[simp] theorem eaPut_isolated (e ea b s) : Isolated s (eaPut e ea b s) := by simp [eaPut]
@[simp] theorem freshWords_isolated (e eas s) : Isolated s (freshWords e eas s) := by simp [freshWords]
@[simp] theorem eaStore_isolated (e bytes s) : Isolated s (eaStore e bytes s) := by simp [eaStore]
@[simp] theorem eaWrite_isolated (e bytes s) : Isolated s (eaWrite e bytes s) := by simp [eaWrite, openPort, loseWrites]
@[simp] theorem closePort_isolated (e s) : Isolated s (closePort e s) := by simp [closePort]

theorem inCycle_isolated (e) {f : State → State} (hf : ∀ s, Isolated s (f s)) (s) : Isolated s (inCycle e f s) := by
  simp [inCycle, hf]

/-! ### Instructions (R382 to R405) -/

/-- What an instruction does once it is issued decides alone: a fetch that fails, or that meets an error, is isolated. -/
theorem issue_isolated {e i s t} {f : State → State} (hf : ∀ s, Isolated s (f s)) (h : issue e i f s = .next t) :
    Isolated s t := by
  unfold issue at h
  split at h
  · rw [← Host.Outcome.next.inj h]
    simp
  · rw [← Host.Outcome.next.inj h]
    exact kernelFault_isolated ..
  · split_ifs at h
    · rw [← Host.Outcome.next.inj h]
      exact inCycle_isolated _ (eccAccess_isolated _ _ hf) _
    · rw [← Host.Outcome.next.inj h]
      simp

@[simp] theorem goTo_isolated (e pc v s) : Isolated s (goTo e pc v s) := by simp [goTo]
@[simp] theorem advance_isolated (e f s) : Isolated s (advance e f s) := by simp [advance]
@[simp] theorem spend_isolated (s) : Isolated s (spend s) := by simp [spend]
@[simp] theorem scalarOp_isolated (e rd ra rb f s) : Isolated s (scalarOp e rd ra rb f s) := by simp [scalarOp]
@[simp] theorem scalarImm_isolated (e rd ra f s) : Isolated s (scalarImm e rd ra f s) := by simp [scalarImm]
@[simp] theorem jumpTo_isolated (e rd pc s) : Isolated s (jumpTo e rd pc s) := by simp [jumpTo]

@[simp] theorem branch_isolated (e cond ra rb off s) : Isolated s (branch e cond ra rb off s) := by
  unfold branch
  dsimp only
  split <;> simp

@[simp] theorem loadS_isolated (e rd ra off n ext s) : Isolated s (loadS e rd ra off n ext s) := by simp [loadS]
@[simp] theorem storeS_isolated (e rd ra off n s) : Isolated s (storeS e rd ra off n s) := by simp [storeS]
@[simp] theorem vectorLoad_isolated (e pg vd ra off s) : Isolated s (vectorLoad e pg vd ra off s) := by simp [vectorLoad]

@[simp] theorem vectorBroadcast_isolated (e pg vd ra off s) : Isolated s (vectorBroadcast e pg vd ra off s) := by
  simp [vectorBroadcast]

@[simp] theorem atomic_isolated (e rd ra rb n f s) : Isolated s (atomic e rd ra rb n f s) := by simp [atomic]
@[simp] theorem queueRequest_isolated (e rd ea s) : Isolated s (queueRequest e rd ea s) := by simp [queueRequest]
@[simp] theorem moveQueue_isolated (e rd ra s) : Isolated s (moveQueue e rd ra s) := by simp [moveQueue]
@[simp] theorem stallAt_isolated (e w s) : Isolated s (stallAt e w s) := by simp [stallAt]
@[simp] theorem laneOp_isolated (e pg vd va vb f s) : Isolated s (laneOp e pg vd va vb f s) := by simp [laneOp]
@[simp] theorem laneUn_isolated (e pg vd va f s) : Isolated s (laneUn e pg vd va f s) := by simp [laneUn]
@[simp] theorem laneRecip_isolated (e pg vd va f s) : Isolated s (laneRecip e pg vd va f s) := by simp [laneRecip]
@[simp] theorem predOp_isolated (e pd pa pb f s) : Isolated s (predOp e pd pa pb f s) := by simp [predOp]

@[simp] theorem lookup_isolated (e two pg vd vx vy sd sgn s) : Isolated s (lookup e two pg vd vx vy sd sgn s) := by
  unfold lookup
  dsimp only
  split <;> simp

@[simp] theorem vectorStore_isolated (e pg vs ra off s) : Isolated s (vectorStore e pg vs ra off s) := by simp [vectorStore]
@[simp] theorem compareLanes_isolated (e pg pd cond va vb s) : Isolated s (compareLanes e pg pd cond va vb s) := by
  simp [compareLanes]
@[simp] theorem waitFor_isolated (e mask s) : Isolated s (waitFor e mask s) := by simp [waitFor]
@[simp] theorem handlerReturn_isolated (e s) : Isolated s (handlerReturn e s) := by simp [handlerReturn]

/-- Settles O58: what an instruction does once issued, for each group of instructions that share it. -/
theorem kernelsAreIsolated : Obligations.KernelsAreIsolated := by
  intro s t i hi h
  rw [kernelIsolated_iff]
  cases i with
  | add | sub | and | or | xor | shl | shr | sra | slt | sltu | min | minu | max | maxu | mul | mulh | mulhu =>
    exact issue_isolated (fun _ => scalarOp_isolated ..) h
  | addi | andi | ori | xori | shli | shri | srai | slti | sltiu => exact issue_isolated (fun _ => scalarImm_isolated ..) h
  | lui | vsel | vmvs | pset | pget | vmac | aclr | aset => exact issue_isolated (fun _ => advance_isolated ..) h
  | jal | jalr => exact issue_isolated (fun _ => jumpTo_isolated ..) h
  | br => exact issue_isolated (fun _ => branch_isolated ..) h
  | lw | lh | lhu | lb | lbu => exact issue_isolated (fun _ => loadS_isolated ..) h
  | sw | sh | sb => exact issue_isolated (fun _ => storeS_isolated ..) h
  | vld => exact issue_isolated (fun _ => vectorLoad_isolated ..) h
  | vst => exact issue_isolated (fun _ => vectorStore_isolated ..) h
  | vldb => exact issue_isolated (fun _ => vectorBroadcast_isolated ..) h
  | aaddH | aaddW | aaddsH | aaddsW | aswpH | aswpW => exact issue_isolated (fun _ => atomic_isolated ..) h
  | vadd | vsub | vadds | vsubs | vaddus | vsubus | vaddsu | vmin | vmax | vminu | vmaxu | vand | vor | vxor | vshl | vshr |
    vsra | vmul | vmulh | vmulhu | vabsdu | vavgu => exact issue_isolated (fun _ => laneOp_isolated ..) h
  | vshli | vshri | vsrai | vaddi | vmov | vclz | vlane => exact issue_isolated (fun _ => laneUn_isolated ..) h
  | vrcp | vrsqrt => exact issue_isolated (fun _ => laneRecip_isolated ..) h
  | vcmp => exact issue_isolated (fun _ => compareLanes_isolated ..) h
  | pand | por | pxor | pandn => exact issue_isolated (fun _ => predOp_isolated ..) h
  | vrnd | csrr | csrw => exact issue_isolated (fun _ => by simp) h
  | lut1 | lut2 => exact issue_isolated (fun _ => lookup_isolated ..) h
  | mvq => exact issue_isolated (fun _ => moveQueue_isolated ..) h
  | bar =>
    refine issue_isolated (fun _ => ?_) h
    split_ifs <;> simp
  | wait => exact issue_isolated (fun _ => waitFor_isolated ..) h
  | eret => exact issue_isolated (fun _ => handlerReturn_isolated ..) h
  | halt => exact issue_isolated (fun _ => stallAt_isolated ..) h
  | _ => exact absurd rfl hi

end Sys2Proof.Machine
end

section

/-! ## The boot stages (R73, R75 to R77, R84, R88)

What each boot command does in the stage it belongs to; O11 puts the clauses together. -/

namespace Sys2Proof.Machine

/-! ### The commands' meanings -/

theorem exec_bootImageVerified (i a b s) : exec (.bootImageVerified i a b) s = execBootImageVerified i a b s := rfl
theorem exec_bootClearDone (ok s) : exec (.bootClearDone ok) s = execBootClearDone ok s := rfl
theorem exec_rsvTrainDone (ok s) : exec (.rsvTrainDone ok) s = execRsvTrainDone ok s := rfl
theorem exec_laneCalibrationDone (s) : exec .laneCalibrationDone s = execLaneCalibrationDone s := rfl
theorem exec_stpPerstRelease (s) : exec .stpPerstRelease s = execStpPerstRelease s := rfl
theorem exec_ready (ms s) : exec (.ready ms) s = execReady ms s := rfl
theorem exec_bootHoldLimitExpiry (ms s) : exec (.bootHoldLimitExpiry ms) s = execBootHoldLimitExpiry ms s := rfl
theorem exec_bootCtrlHold (p v s) : exec (.bootCtrlHold p v) s = execBootCtrlHold p v s := rfl
theorem exec_bootCtrlRelease (p ms s) : exec (.bootCtrlRelease p ms) s = execBootCtrlRelease p ms s := rfl
theorem exec_bootHoldLimitWrite (p v el ms s) : exec (.bootHoldLimitWrite p v el ms) s = execBootHoldLimitWrite p v el ms s := rfl

/-! ### The firmware image (R73 step 2, R77, R88) -/

@[simp] theorem logEvent_frame (e : EventRec) (s : State) :
    (logEvent e s).boot = s.boot ∧ (logEvent e s).sec = s.sec := by
  unfold logEvent
  split
  · simp
  · exact ⟨rfl, rfl⟩

/-- Recording a start-up failure leaves the stage of boot (R77, R78). -/
@[simp] theorem bootFailure_phase (c slot detail : Nat) (s : State) :
    (bootFailure c slot detail s).boot.phase = s.boot.phase := by
  rw [bootFailure, apply_ite State.boot, apply_ite BootState.phase]
  simp

@[simp] theorem toRecovery_phase (s : State) : (toRecovery s).boot.phase = .clear true := by simp [toRecovery]

@[simp] theorem runFirmware_phase (source : Nat) (recovery : Bool) (img d : List Byte) (s : State) :
    (runFirmware source recovery img d s).boot.phase = .clear false := rfl

/-- The slots are tried until one is accepted; either way the memories are cleared next (R73 step 3). -/
theorem trySlots_phase : ∀ (first : Option Nat) (slots : List (Nat × List Byte)) (s : State),
    (trySlots first slots s).boot.phase = .clear true ∨ (trySlots first slots s).boot.phase = .clear false
  | _, [], _ => .inl (toRecovery_phase _)
  | first, (slot, img) :: rest, s => by
    unfold trySlots
    split
    · exact .inr (runFirmware_phase ..)
    · exact trySlots_phase _ rest _

theorem bootImageVerified_clears {s : State} (i : Bool) (a b : List Byte) (h : s.boot.phase = .rom) :
    ∃ t, exec (.bootImageVerified i a b) s = .next t ∧ (t.boot.phase = .clear true ∨ t.boot.phase = .clear false) ∧
      ((i = false ∨ bootOrder a b = []) → t.boot.phase = .clear true) := by
  rw [exec_bootImageVerified, execBootImageVerified, if_neg (not_not_intro h)]
  dsimp only
  split_ifs with hid hslots
  · exact ⟨_, rfl, .inl (toRecovery_phase _), fun _ => toRecovery_phase _⟩
  · exact ⟨_, rfl, .inl (toRecovery_phase _), fun _ => toRecovery_phase _⟩
  · refine ⟨_, rfl, trySlots_phase .., fun hnone => absurd hnone ?_⟩
    simp_all

/-! ### Clear, training and lanes (R73 steps 3 to 6) -/

theorem bootClearDone_trains {s : State} (r : Bool) (h : s.boot.phase = .clear r) :
    exec (.bootClearDone true) s = .next (setStage 5 (.rsvTrain r) s) := by
  simp [exec_bootClearDone, execBootClearDone, h]

/-- The stage is written in BOOT_STATUS alone. -/
theorem rdF_setStage {s : State} (h : RegsCanonical s) (n : Nat) (ph : StartPhase) {k : Nat} (f : Nat × Nat)
    (hk : k ≠ Reg.BOOT_STATUS) : rdF (setStage n ph s) k f = rdF s k f := rdF_wrF_other h _ _ _ hk

theorem rsvTrainDone_trains {s : State} {r : Bool} (h : s.boot.phase = .rsvTrain r) : exec (.rsvTrainDone true) s =
    .next (setStage (if r then 0xE else 6) (if r then .recoveryWait else .lanes)
      (wrF Reg.RSV_STAT Fld.RSV_STAT_scrubbing 1 (wrF Reg.RSV_STAT Fld.RSV_STAT_trained 1 s))) := by
  cases r <;> simp [exec_rsvTrainDone, execRsvTrainDone, h]

/-- A trained Reservoir is in service and its scrubber runs (R417). -/
theorem rsvTrainDone_lanes {s : State} (hc : RegsCanonical s) (h : s.boot.phase = .rsvTrain false) :
    ∃ t, exec (.rsvTrainDone true) s = .next t ∧ t.boot.phase = .lanes ∧
      rdB t Reg.RSV_STAT Fld.RSV_STAT_trained = true ∧ rdB t Reg.RSV_STAT Fld.RSV_STAT_scrubbing = true := by
  have htrained := canonical_wrF hc Reg.RSV_STAT Fld.RSV_STAT_trained 1
  have hscrubbing := canonical_wrF htrained Reg.RSV_STAT Fld.RSV_STAT_scrubbing 1
  refine ⟨_, rsvTrainDone_trains h, by simp, ?_, ?_⟩
  · rw [rdB, rdF_setStage hscrubbing _ _ _ (by decide), rdF_wrF_field htrained _ _ (by decide) (by decide),
      rdF_wrF_same hc _ _ (by decide)]
    rfl
  · rw [rdB, rdF_setStage hscrubbing _ _ _ (by decide), rdF_wrF_same htrained _ _ (by decide)]
    rfl

theorem rsvTrainDone_recovery {s : State} (h : s.boot.phase = .rsvTrain true) :
    ∃ t, exec (.rsvTrainDone true) s = .next t ∧ t.boot.phase = .recoveryWait := ⟨_, rsvTrainDone_trains h, by simp⟩

/-- Without a mounted store no load begins: the stage is LOAD at once. -/
theorem laneCalibrationDone_loads {s : State} (h : s.boot.phase = .lanes) (hrec : s.fault.recovering = none)
    (hmount : s.store.mounted = false) : ∃ t, exec .laneCalibrationDone s = .next t ∧
      t.boot.phase = .load ∧ t.boot.lanesDone = true := by
  simp only [exec_laneCalibrationDone, execLaneCalibrationDone, setBoot, setStage, wrF, wr, loadsEnd, h, hrec, hmount, ne_eq,
    not_true_eq_false, Option.isSome_none, Bool.false_eq_true, false_and, if_false]
  split <;> exact ⟨_, rfl, rfl, rfl⟩

/-! ### READY and HOLD (R73 step 9, R76, R84) -/

theorem ready_load {s : State} (ms : Nat) (h : s.boot.phase = .load) (hdone : s.boot.loadsDone = true) :
    exec (.ready ms) s =
      .next (if rdB s Reg.BOOT_CTRL Fld.BOOT_CTRL_hold then setStage 8 .hold s else setReady ms s) :=
  if_pos ⟨h, hdone⟩

theorem bootHoldLimitExpiry_ends {s : State} (ms : Nat) (h : s.boot.phase = .hold) (hlimit : rd s Reg.BOOT_HOLD_LIMIT ≠ 0) :
    exec (.bootHoldLimitExpiry ms) s = .next (bootFailure 0x41 0xFF 0 s |> setReady ms) := if_pos ⟨h, hlimit⟩

theorem bootCtrlHold_writes {s : State} (p : Nat) (v : Word) (h : bootWrites s p = true) (hr : ready s = false) :
    exec (.bootCtrlHold p v) s = .next (writeRw Reg.BOOT_CTRL v s) := if_pos (by simp [h, hr])

theorem bootCtrlRelease_ready {s : State} (p ms : Nat) (h : bootWrites s p = true) (hold : s.boot.phase = .hold) :
    exec (.bootCtrlRelease p ms) s = .next (setReady ms s) := if_pos (by simp [h, hold])

/-- A limit that has not elapsed is taken and ends nothing. -/
theorem bootHoldLimitWrite_takes {s : State} (p : Nat) (v : Word) (el ms : Nat) (h : bootWrites s p = true)
    (hr : ready s = false) (hel : el < v.toNat) :
    exec (.bootHoldLimitWrite p v el ms) s = .next (wr Reg.BOOT_HOLD_LIMIT v s) := by
  rw [exec_bootHoldLimitWrite, execBootHoldLimitWrite, if_neg (by simp [h, hr])]
  exact if_neg fun ⟨_, _, hpast⟩ => absurd hpast hel.not_ge

/-- Settles O11: the stages in the order of boot, then READY, HOLD and the owner's writes. -/
theorem bootStages : Obligations.BootStages := by
  refine ⟨fun s => ⟨bootImageVerified_clears, bootClearDone_trains, rsvTrainDone_lanes, rsvTrainDone_recovery,
    fun h hrec hmount _ => laneCalibrationDone_loads h hrec hmount, fun h => if_pos h⟩,
    fun s ms => ⟨fun h hdone hhold => ?_, fun h hdone hhold => ?_,
    bootHoldLimitExpiry_ends ms, bootCtrlHold_writes, fun p => bootCtrlRelease_ready p ms,
    fun p v el => bootHoldLimitWrite_takes p v el ms⟩⟩
  · simp [ready_load ms h hdone, hhold]
  · simp [ready_load ms h hdone, hhold]

end Sys2Proof.Machine
end

section

/-! ## Recovery staging and TOP_RESET (R84, R85, R89, R568)

An event and a start-up failure leave the registers of boot alone, so that what RECOVERY_VERIFY_DONE wrote can be read after
them; then the staging commands and O12. -/

namespace Sys2Proof.Machine

/-! ### Events leave the registers below the store's (R142, R549) -/

/-- The register file stays canonical, and every register below the store's page but BOOT_STATUS keeps its value. -/
structure KeepsLow (s t : State) : Prop where
  canonical : RegsCanonical s → RegsCanonical t
  low : RegsCanonical s → ∀ k < Reg.STP_STAT, k ≠ Reg.BOOT_STATUS → rd t k = rd s k

theorem KeepsLow.trans {s t u : State} (h : KeepsLow s t) (k : KeepsLow t u) : KeepsLow s u :=
  ⟨fun hs => k.canonical (h.canonical hs), fun hs r hr hb => (k.low (h.canonical hs) r hr hb).trans (h.low hs r hr hb)⟩

theorem KeepsLow.of_regs {s t : State} (h : t.regs = s.regs) : KeepsLow s t :=
  ⟨fun hs => canonical_of_regs hs h, fun _ _ _ _ => by simp only [rd, h]⟩

theorem KeepsLow.refl (s : State) : KeepsLow s s := .of_regs rfl

theorem foldl_keepsLow {α : Type} {f : State → α → State} (h : ∀ s a, KeepsLow s (f s a)) :
    ∀ (l : List α) (s : State), KeepsLow s (l.foldl f s)
  | [], s => .refl s
  | a :: l, s => (h s a).trans (foldl_keepsLow h l (f s a))

theorem wrF_keepsLow {k : Nat} (f : Nat × Nat) (v : Nat) (s : State) (hk : k = Reg.BOOT_STATUS ∨ Reg.STP_STAT ≤ k) :
    KeepsLow s (wrF k f v s) := by
  refine ⟨fun hs => canonical_wrF hs _ _ _, fun hs r hr hb => rd_wrF_other hs _ _ ?_⟩
  obtain rfl | hk := hk
  · exact hb
  · exact (hr.trans_le hk).ne

theorem bumpSat_keepsLow {k : Nat} (f : Nat × Nat) (n : Nat) (s : State) (hk : Reg.STP_STAT ≤ k) :
    KeepsLow s (bumpSat k f n s) := wrF_keepsLow _ _ _ (.inr hk)

/-- The registers of a port lie above those of the units. -/
theorem portKey_high (p o : Nat) : Reg.STP_STAT ≤ portKey p o := by
  unfold portKey Reg.STP_STAT
  omega

theorem flagOverflow_keepsLow (s : State) : KeepsLow s (flagOverflow s) :=
  (wrF_keepsLow _ _ _ (by decide)).trans (bumpSat_keepsLow _ _ _ (by decide))

theorem ctrAddOne_keepsLow (n v : Nat) (s : State) : KeepsLow s (ctrAddOne n v s) := by
  unfold ctrAddOne
  dsimp only
  split
  · exact .of_regs rfl
  · exact KeepsLow.trans (t := setCtr ..) (.of_regs rfl) (flagOverflow_keepsLow _)

theorem ctrAdd_keepsLow (n v : Nat) (s : State) : KeepsLow s (ctrAdd n v s) := by
  have hset : ∀ (m : Nat) (c : Ctr), KeepsLow s (setCtr m c s) := fun _ _ => .of_regs rfl
  unfold ctrAdd ctrCarry
  dsimp only
  split_ifs
  · exact hset _ _
  · exact (hset _ _).trans ((flagOverflow_keepsLow _).trans (ctrAddOne_keepsLow ..))
  · exact (hset _ _).trans (flagOverflow_keepsLow _)
  · exact ctrAddOne_keepsLow ..

theorem countEvent_keepsLow (u ev v : Nat) (s : State) : KeepsLow s (countEvent u ev v s) := by
  unfold countEvent
  split
  · exact .refl s
  · refine foldl_keepsLow (fun s n => ?_) _ s
    split
    · exact ctrAdd_keepsLow ..
    · exact .refl s

theorem setFlag_keepsLow {f : Flag} (s : State) (hreg : Reg.STP_STAT ≤ f.reg) (hcnt : Reg.STP_STAT ≤ f.cnt) :
    KeepsLow s (setFlag f s) :=
  ((wrF_keepsLow _ _ _ (.inr hreg)).trans (bumpSat_keepsLow _ _ _ hcnt)).trans (countEvent_keepsLow ..)

theorem fixedAdd_keepsLow (k v : Nat) (s : State) : KeepsLow s (fixedAdd k v s) := by
  have hperf : ∀ v : PerfState, KeepsLow s { s with perf := v } := fun _ => .of_regs rfl
  unfold fixedAdd
  dsimp only
  split_ifs
  · exact .refl s
  · exact .of_regs rfl
  · exact (hperf _).trans (flagOverflow_keepsLow _)

theorem monitorAdd_keepsLow (m v : Nat) (s : State) : KeepsLow s (monitorAdd m v s) := by
  unfold monitorAdd
  dsimp only
  split <;> exact .of_regs rfl

theorem sendMsix_keepsLow (p v : Nat) (s : State) : KeepsLow s (sendMsix p v s) := by
  unfold sendMsix
  split
  · exact wrF_keepsLow _ _ _ (.inr (portKey_high ..))
  · exact KeepsLow.trans (t := emit ..) (.of_regs rfl) (monitorAdd_keepsLow ..)

theorem signalEvq_keepsLow (p : Nat) (s : State) : KeepsLow s (signalEvq p s) := by
  unfold signalEvq sendEvq
  split_ifs
  · exact KeepsLow.trans (t := setEvq ..) (.of_regs rfl) (sendMsix_keepsLow ..)
  · exact .refl s
  · exact .refl s

theorem writeEvent_keepsLow (p : Nat) (e : EventRec) (s : State) : KeepsLow s (writeEvent p e s) :=
  KeepsLow.trans (t := emit _ (setEvq ..)) (.of_regs rfl)
    ((countEvent_keepsLow ..).trans ((monitorAdd_keepsLow ..).trans (signalEvq_keepsLow ..)))

theorem logEvent_keepsLow (e : EventRec) (s : State) : KeepsLow s (logEvent e s) := by
  unfold logEvent
  split
  · exact setFlag_keepsLow _ (by decide) (by decide)
  · exact .of_regs rfl

theorem reportLost_keepsLow (p : Nat) (s : State) : KeepsLow s (reportLost p s) := by
  have hlog : KeepsLow s (logEvent (eventsLost s p) (fixedAdd 7 1 (setPort p { portOf s p with lostSince := 0 } s))) :=
    KeepsLow.trans (t := setPort ..) (.of_regs rfl) ((fixedAdd_keepsLow ..).trans (logEvent_keepsLow ..))
  unfold reportLost
  dsimp only
  split_ifs
  · exact hlog.trans (writeEvent_keepsLow ..)
  · exact hlog
  · exact .refl s

theorem postToPort_keepsLow (e : EventRec) (s : State) (p : Nat) : KeepsLow s (postToPort e s p) := by
  have hlost := reportLost_keepsLow p s
  unfold postToPort
  dsimp only
  split_ifs
  · exact .refl s
  · exact hlost.trans (writeEvent_keepsLow ..)
  · exact (hlost.trans (KeepsLow.of_regs (t := setPort ..) rfl)).trans ((bumpSat_keepsLow _ _ _ (portKey_high ..)).trans
      (setFlag_keepsLow _ (portKey_high ..) (portKey_high ..)))

theorem postEvent_keepsLow (r : Route) (c u v : Nat) (x : BitVec 64) (s : State) : KeepsLow s (postEvent r c u v x s) := by
  have hports := fun e l => KeepsLow.trans (s := s) (t := tick s) (.of_regs rfl) ((fixedAdd_keepsLow 7 1 _).trans
    (foldl_keepsLow (postToPort_keepsLow e) l _))
  unfold postEvent
  dsimp only
  split_ifs
  · exact ((hports ..).trans (logEvent_keepsLow ..)).trans (.of_regs rfl)
  · exact (hports ..).trans (.of_regs rfl)
  · exact (hports ..).trans (logEvent_keepsLow ..)
  · exact hports ..

theorem bootFailure_keepsLow (c slot detail : Nat) (s : State) : KeepsLow s (bootFailure c slot detail s) := by
  have hcode : KeepsLow s (if rdF s Reg.BOOT_STATUS Fld.BOOT_STATUS_fail_code = 0 then
      wrF Reg.BOOT_STATUS Fld.BOOT_STATUS_fail_code c s else s) := by
    split
    · exact wrF_keepsLow _ _ _ (.inl rfl)
    · exact .refl s
  unfold bootFailure
  dsimp only
  generalize (if rdF s Reg.BOOT_STATUS Fld.BOOT_STATUS_fail_code = 0 then
      wrF Reg.BOOT_STATUS Fld.BOOT_STATUS_fail_code c s else s) = u at hcode ⊢
  have hlog := fun e => hcode.trans (KeepsLow.trans (t := tick u) (.of_regs rfl)
    ((fixedAdd_keepsLow 7 1 _).trans (logEvent_keepsLow e _)))
  split
  · exact hcode.trans (postEvent_keepsLow ..)
  · split <;> exact (hlog _).trans (.of_regs rfl)

theorem slotFails_keepsLow (slot : Nat) (img : List Byte) (v : Verdict) (s : State) : KeepsLow s (slotFails slot img v s) := by
  have hflag := setFlag_keepsLow (f := Flag.SEC_sig_fail) s (by decide) (by decide)
  unfold slotFails
  dsimp only
  split
  · exact hflag.trans (bootFailure_keepsLow ..)
  · exact hflag

@[simp] theorem slotFails_phase (slot : Nat) (img : List Byte) (v : Verdict) (s : State) :
    (slotFails slot img v s).boot.phase = s.boot.phase := by
  unfold slotFails
  dsimp only
  split <;> simp

/-! ### Staging (R85, R89) -/

theorem exec_bootXferOpen (p s) : exec (.bootXferOpen p) s = execBootXferOpen p s := rfl
theorem exec_bootXferDataWrite (p off bs s) : exec (.bootXferDataWrite p off bs) s = execBootXferDataWrite p off bs s := rfl
theorem exec_bootCtrlRecoveryGo (p s) : exec (.bootCtrlRecoveryGo p) s = execBootCtrlRecoveryGo p s := rfl
theorem exec_recoveryVerifyDone (s) : exec .recoveryVerifyDone s = execRecoveryVerifyDone s := rfl
theorem exec_topReset (p k s) : exec (.topReset p k) s = execTopReset p k s := rfl

theorem bootXferOpen_empties {s : State} (p : Nat) (h : mayStage s p = true) :
    exec (.bootXferOpen p) s = .next { s with boot := { s.boot with staging := [], stagedLen := 0 } } := if_pos h

/-- A word of the data window is staged at its offset. -/
theorem bootXferDataWrite_stages {s : State} {p off : Nat} {b0 b1 b2 b3 : Byte} (h : mayStage s p = true) (halign : off % 4 = 0)
    (hwindow : off + 4 ≤ 2048) (hofs : rdF s Reg.BOOT_XFER_OFFSET Fld.BOOT_XFER_OFFSET_offset = 0) :
    exec (.bootXferDataWrite p off [b0, b1, b2, b3]) s =
      .next (setBoot { s.boot with staging := stageBytes off [b0, b1, b2, b3] s.boot.staging,
                                   stagedLen := max s.boot.stagedLen (off + 4) } s) := by
  simp [exec_bootXferDataWrite, execBootXferDataWrite, h, halign, hwindow, hofs]

theorem stageBytes_four (o : Nat) (b0 b1 b2 b3 : Byte) (t : Tab Byte) : stageBytes o [b0, b1, b2, b3] t =
    tabSet (fun _ => 0) (tabSet (fun _ => 0) (tabSet (fun _ => 0) (tabSet (fun _ => 0) t o b0) (o + 1) b1) (o + 2) b2)
      (o + 3) b3 := rfl

theorem stageBytes_word (o : Nat) (b0 b1 b2 b3 : Byte) :
    tabGet (fun _ => 0) (stageBytes o [b0, b1, b2, b3] []) o = b0 ∧
      tabGet (fun _ => 0) (stageBytes o [b0, b1, b2, b3] []) (o + 3) = b3 := by
  have hset : ∀ {t : Tab Byte} (k : Nat) (b : Byte), tabWf (fun _ => 0) t = true →
      tabWf (fun _ => 0) (tabSet (fun _ => 0) t k b) = true := fun k b ht => tabWf_set _ ht k b
  have hget : ∀ {t : Tab Byte} (k j : Nat) (b : Byte), tabWf (fun _ => 0) t = true →
      tabGet (fun _ => 0) (tabSet (fun _ => 0) t k b) j = if j = k then b else tabGet (fun _ => 0) t j :=
    fun k j b ht => tabGet_set _ ((tabWf_iff ..).1 ht).1 k j b
  have h0 : tabWf (fun _ => (0 : Byte)) [] = true := rfl
  have h1 := hset o b0 h0
  have h2 := hset (o + 1) b1 h1
  have h3 := hset (o + 2) b2 h2
  exact ⟨by rw [stageBytes_four, hget _ _ _ h3, if_neg (by omega), hget _ _ _ h2, if_neg (by omega), hget _ _ _ h1,
    if_neg (by omega), hget _ _ _ h0, if_pos rfl], by rw [stageBytes_four, hget _ _ _ h3, if_pos rfl]⟩

/-- The verification of the staged image begins, and no earlier result stands. -/
theorem bootCtrlRecoveryGo_begins {s : State} (p : Nat) (hc : RegsCanonical s) (h : mayStage s p = true) :
    ∃ t, exec (.bootCtrlRecoveryGo p) s = .next t ∧ rdB t Reg.BOOT_XFER_CTRL Fld.BOOT_XFER_CTRL_busy = true ∧
      rdB t Reg.BOOT_XFER_CTRL Fld.BOOT_XFER_CTRL_result_valid = false ∧ t.boot = s.boot := by
  have hbusy := canonical_wrF hc Reg.BOOT_XFER_CTRL Fld.BOOT_XFER_CTRL_busy 1
  have hvalid := canonical_wrF hbusy Reg.BOOT_XFER_CTRL Fld.BOOT_XFER_CTRL_result_valid 0
  refine ⟨_, if_pos h, ?_, ?_, rfl⟩
  · rw [rdB, rdF_wrF_field hvalid _ _ (by decide) (by decide), rdF_wrF_field hbusy _ _ (by decide) (by decide),
      rdF_wrF_same hc _ _ (by decide)]
    rfl
  · rw [rdB, rdF_wrF_field hvalid _ _ (by decide) (by decide), rdF_wrF_same hbusy _ _ (by decide)]
    rfl

/-! ### The result of the verification (R77, R89, R92) -/

/-- BOOT_XFER_CTRL as the end of a verification leaves it. -/
def verified (s : State) : State :=
  wrF Reg.BOOT_XFER_CTRL Fld.BOOT_XFER_CTRL_result_valid 1 (wrF Reg.BOOT_XFER_CTRL Fld.BOOT_XFER_CTRL_busy 0 s)

theorem canonical_verified {s : State} (hc : RegsCanonical s) : RegsCanonical (verified s) :=
  canonical_wrF (canonical_wrF hc _ _ _) _ _ _

theorem rdF_verified {s : State} (hc : RegsCanonical s) :
    rdF (verified s) Reg.BOOT_XFER_CTRL Fld.BOOT_XFER_CTRL_busy = 0 ∧
      rdF (verified s) Reg.BOOT_XFER_CTRL Fld.BOOT_XFER_CTRL_result_valid = 1 := by
  have hbusy := canonical_wrF hc Reg.BOOT_XFER_CTRL Fld.BOOT_XFER_CTRL_busy 0
  exact ⟨(rdF_wrF_field hbusy _ _ (by decide) (by decide)).trans (rdF_wrF_same hc _ _ (by decide)),
    rdF_wrF_same hbusy _ _ (by decide)⟩

/-- The verdict is on the staged image and the fuses, which the result bits leave. -/
theorem recoveryVerifyDone_verdict {s : State} (h : s.boot.phase = .recoveryWait)
    (hb : rdB s Reg.BOOT_XFER_CTRL Fld.BOOT_XFER_CTRL_busy = true) : exec .recoveryVerifyDone s =
      match verifyImage s (stagedImage s) 1 slotRoom with
      | .accept d => .next (wrF Reg.BOOT_XFER_CTRL Fld.BOOT_XFER_CTRL_result_ok 1 (verified s) |>
          runFirmware 2 true (stagedImage s) d)
      | v => .next (slotFails 2 (stagedImage s) v (verified s) |> bootFailure 0x40 2 0) :=
  if_neg (by simp [h, hb])

theorem setStage_rdF_active {s : State} (hc : RegsCanonical s) (n : Nat) (ph : StartPhase) :
    rdF (setStage n ph s) Reg.BOOT_STATUS Fld.BOOT_STATUS_recovery_active =
      rdF s Reg.BOOT_STATUS Fld.BOOT_STATUS_recovery_active :=
  rdF_wrF_field hc _ _ (by decide) (by decide)

/-- The registers that a firmware image's start writes are BOOT_STATUS and BOOT_FW_VERSION. -/
def firmwareRegs (source active version build : Nat) (s : State) : State :=
  wrF Reg.BOOT_STATUS Fld.BOOT_STATUS_fw_source source s |> wrF Reg.BOOT_STATUS Fld.BOOT_STATUS_recovery_active active
    |> wrF Reg.BOOT_FW_VERSION (0, 16) version |> wrF Reg.BOOT_FW_VERSION (16, 16) build |> setStage 4 (.clear false)

theorem rdF_firmwareRegs_other {s : State} (hc : RegsCanonical s) (source active version build : Nat) {k : Nat} (f : Nat × Nat)
    (hstatus : k ≠ Reg.BOOT_STATUS) (hfw : k ≠ Reg.BOOT_FW_VERSION) :
    rdF (firmwareRegs source active version build s) k f = rdF s k f := by
  have hsource := canonical_wrF hc Reg.BOOT_STATUS Fld.BOOT_STATUS_fw_source source
  have hactive := canonical_wrF hsource Reg.BOOT_STATUS Fld.BOOT_STATUS_recovery_active active
  have hversion := canonical_wrF hactive Reg.BOOT_FW_VERSION (0, 16) version
  rw [firmwareRegs, rdF_setStage (canonical_wrF hversion ..) _ _ _ hstatus, rdF_wrF_other hversion _ _ _ hfw,
    rdF_wrF_other hactive _ _ _ hfw, rdF_wrF_other hsource _ _ _ hstatus, rdF_wrF_other hc _ _ _ hstatus]

theorem rdF_firmwareRegs_active {s : State} (hc : RegsCanonical s) (source active version build : Nat) :
    rdF (firmwareRegs source active version build s) Reg.BOOT_STATUS Fld.BOOT_STATUS_recovery_active = active % 2 := by
  have hsource := canonical_wrF hc Reg.BOOT_STATUS Fld.BOOT_STATUS_fw_source source
  have hactive := canonical_wrF hsource Reg.BOOT_STATUS Fld.BOOT_STATUS_recovery_active active
  have hversion := canonical_wrF hactive Reg.BOOT_FW_VERSION (0, 16) version
  rw [firmwareRegs, setStage_rdF_active (canonical_wrF hversion ..), rdF_wrF_other hversion _ _ _ (by decide),
    rdF_wrF_other hactive _ _ _ (by decide), rdF_wrF_same hsource _ _ (by decide)]
  rfl

theorem freeBelow_rdF (bound : Nat) (s : State) (k : Nat) (f : Nat × Nat) : rdF (freeBelow bound s).2 k f = rdF s k f := rfl

theorem runFirmware_regs (source : Nat) (recovery : Bool) (img d : List Byte) (s : State) :
    ∃ version build, (runFirmware source recovery img d s).regs =
      (firmwareRegs source (b2n recovery) version build (freeBelow 65536 s).2).regs := by
  refine ⟨(fwInfo img d (freeBelow 65536 s).1).securityVersion, (fwInfo img d (freeBelow 65536 s).1).build, ?_⟩
  simp only [runFirmware, firmwareRegs, setBoot]

theorem recoveryVerifyDone_accepts {s : State} {d : List Byte} (hc : RegsCanonical s) (h : s.boot.phase = .recoveryWait)
    (hb : rdB s Reg.BOOT_XFER_CTRL Fld.BOOT_XFER_CTRL_busy = true)
    (hv : verifyImage s (stagedImage s) 1 slotRoom = .accept d) :
    ∃ t, exec .recoveryVerifyDone s = .next t ∧ rdB t Reg.BOOT_XFER_CTRL Fld.BOOT_XFER_CTRL_busy = false ∧
      rdB t Reg.BOOT_XFER_CTRL Fld.BOOT_XFER_CTRL_result_valid = true ∧ t.boot.phase = .clear false ∧
      t.boot.perstN = some false ∧ rdB t Reg.BOOT_XFER_CTRL Fld.BOOT_XFER_CTRL_result_ok = true ∧
      rdB t Reg.BOOT_STATUS Fld.BOOT_STATUS_recovery_active = true := by
  have hverified := canonical_verified hc
  have hok := canonical_wrF hverified Reg.BOOT_XFER_CTRL Fld.BOOT_XFER_CTRL_result_ok 1
  obtain ⟨hbusy, hvalid⟩ := rdF_verified hc
  have hfree : RegsCanonical (freeBelow 65536 (wrF Reg.BOOT_XFER_CTRL Fld.BOOT_XFER_CTRL_result_ok 1 (verified s))).2 :=
    canonical_of_regs hok rfl
  obtain ⟨version, build, hregs⟩ := runFirmware_regs 2 true (stagedImage s) d _
  have hread : ∀ k f, rdF (runFirmware 2 true (stagedImage s) d
      (wrF Reg.BOOT_XFER_CTRL Fld.BOOT_XFER_CTRL_result_ok 1 (verified s))) k f = rdF (firmwareRegs 2 1 version build _) k f :=
    fun k f => by rw [rdF, rd, hregs]; rfl
  have hxfer := fun f => (hread Reg.BOOT_XFER_CTRL f).trans (rdF_firmwareRegs_other hfree _ _ _ _ _ (by decide) (by decide))
  refine ⟨_, by rw [recoveryVerifyDone_verdict h hb, hv], ?_, ?_, rfl, rfl, ?_, ?_⟩
  · rw [rdB, hxfer, freeBelow_rdF, rdF_wrF_field hverified _ _ (by decide) (by decide), hbusy]
    rfl
  · rw [rdB, hxfer, freeBelow_rdF, rdF_wrF_field hverified _ _ (by decide) (by decide), hvalid]
    rfl
  · rw [rdB, hxfer, freeBelow_rdF, rdF_wrF_same hverified _ _ (by decide)]
    rfl
  · rw [rdB, hread, rdF_firmwareRegs_active hfree]
    rfl

/-- A verdict that is no acceptance fails, and the recovery goes on waiting. -/
theorem recoveryVerifyDone_fails {s : State} (h : s.boot.phase = .recoveryWait)
    (hb : rdB s Reg.BOOT_XFER_CTRL Fld.BOOT_XFER_CTRL_busy = true)
    (hv : ∀ d, verifyImage s (stagedImage s) 1 slotRoom ≠ .accept d) :
    exec .recoveryVerifyDone s = .next (bootFailure 0x40 2 0
      (slotFails 2 (stagedImage s) (verifyImage s (stagedImage s) 1 slotRoom) (verified s))) := by
  rw [recoveryVerifyDone_verdict h hb]
  split
  · next d hd => exact absurd hd (hv d)
  · rfl

theorem rdF_failed {s : State} (hc : RegsCanonical s) (img : List Byte) (v : Verdict) (f : Nat × Nat) :
    rdF (bootFailure 0x40 2 0 (slotFails 2 img v (verified s))) Reg.BOOT_XFER_CTRL f =
      rdF (verified s) Reg.BOOT_XFER_CTRL f :=
  congrArg (field · f.1 f.2) (((slotFails_keepsLow ..).trans (bootFailure_keepsLow ..)).low (canonical_verified hc) _
    (by decide) (by decide))

/-- Settles O12: staging, then the verdict's three outcomes and the format check that fails first. -/
theorem recoveryStaging : Obligations.RecoveryStaging := by
  intro s
  refine ⟨bootXferOpen_empties, fun p off b0 b1 b2 b3 h halign hwindow hofs => ?stage, bootCtrlRecoveryGo_begins,
    fun hc h hb => ?verdict, fun h hb hv => ?reject, fun _ _ hf => if_pos (by simp [hf]), fun p k h hk hsleep => ?reset⟩
  case stage =>
    refine ⟨_, bootXferDataWrite_stages h halign hwindow hofs, rfl, rfl, fun hempty => ?_⟩
    simp only [setBoot, hempty]
    exact stageBytes_word ..
  case verdict =>
    by_cases hv : ∃ d, verifyImage s (stagedImage s) 1 slotRoom = .accept d
    · obtain ⟨d, hd⟩ := hv
      obtain ⟨t, ht, hbusy, hvalid, hphase, hperst, hok, hactive⟩ := recoveryVerifyDone_accepts hc h hb hd
      exact ⟨t, ht, hbusy, hvalid, iff_of_true hphase ⟨d, hd⟩, .inr ⟨hphase, hperst, hok, hactive⟩⟩
    · have hphase : (bootFailure 0x40 2 0 (slotFails 2 (stagedImage s) (verifyImage s (stagedImage s) 1 slotRoom)
          (verified s))).boot.phase = .recoveryWait := by simp [verified, h]
      obtain ⟨hbusy, hvalid⟩ := rdF_verified hc
      refine ⟨_, recoveryVerifyDone_fails h hb (not_exists.1 hv), ?_, ?_,
        iff_of_false (by rw [hphase]; exact nofun) hv, .inl hphase⟩
      · rw [rdB, rdF_failed hc, hbusy]
        rfl
      · rw [rdB, rdF_failed hc, hvalid]
        rfl
  case reject => rw [recoveryVerifyDone_verdict h hb, hv]; rfl
  case reset =>
    rw [exec_topReset, execTopReset, if_neg (by simp [h, hk]), if_neg fun hs => hsleep hs.1]

end Sys2Proof.Machine
end

section

/-! ## Fuses only grow (R93 to R96, R103)

Three relations between the state before and after, each weaker than the one before it: an update keeps the fuses and the
fuse operation in progress (KeepsFuses); it keeps them or ends the operation (EndsFuse), as a start or a reset does; the
fuses only grow and the invariant holds again (FusesAdvance). KeepsFuses is proved of every function that the commands
call, in the model's order; the other two of the few that need them; O5 is the case split over the commands. -/

namespace Sys2Proof.Machine

/-- The fuses and the fuse operation in progress stay as they are; the descriptor that waits for it may be gone (R108). -/
@[simp] abbrev KeepsFuses (s t : State) : Prop :=
  t.fuses = s.fuses ∧ t.sec.fuse.map Prod.fst = s.sec.fuse.map Prod.fst

theorem KeepsFuses.trans {s t u : State} (h : KeepsFuses s t) (k : KeepsFuses t u) : KeepsFuses s u :=
  ⟨k.1.trans h.1, k.2.trans h.2⟩

@[simp] theorem foldl_keepsFuses {α : Type} (f : State → α → State) (h : ∀ s a, KeepsFuses s (f s a)) :
    ∀ (l : List α) (s : State), KeepsFuses s (l.foldl f s)
  | [], _ => ⟨rfl, rfl⟩
  | a :: l, s => (h s a).trans (foldl_keepsFuses f h l (f s a))

/-- A conditional change of the security core that spares the operation in progress. -/
@[simp] theorem ite_fuseOp (c : Prop) [Decidable c] (v w : SecState) : (if c then v else w).fuse.map Prod.fst =
    if c then v.fuse.map Prod.fst else w.fuse.map Prod.fst :=
  apply_ite (fun v : SecState => v.fuse.map Prod.fst) c v w

/-- A command keeps the fuses and the operation in progress. -/
def NextKeepsFuses (s : State) (o : Host.Outcome State Fault Refusal) : Prop := ∀ t, o = .next t → KeepsFuses s t

@[simp] theorem nextKeepsFuses_next {s t : State} : NextKeepsFuses s (.next t) ↔ KeepsFuses s t := by
  simp [NextKeepsFuses]

@[simp] theorem nextKeepsFuses_ite {s : State} (c : Prop) [Decidable c] (a b : Host.Outcome State Fault Refusal) :
    NextKeepsFuses s (if c then a else b) ↔ (c → NextKeepsFuses s a) ∧ (¬ c → NextKeepsFuses s b) := by
  split_ifs with h <;> simp [h]

@[simp] theorem withReady_keepsFuses {p q n op : Nat} {f : Dsc → State → State} {s : State}
    (h : ∀ d, KeepsFuses s (f d s)) : NextKeepsFuses s (withReady p q n op f s) := by
  unfold withReady
  split <;> simp [h]

@[simp] theorem setSec_sec (v : SecState) (s : State) : (setSec v s).sec = v := rfl

/-! ### The named operations over registers, flags, counters, time, events and completions that every command is written over -/

@[simp] theorem bumpWrap_keepsFuses (k n s) : KeepsFuses s (bumpWrap k n s) := by simp [bumpWrap]
@[simp] theorem resetRegs_keepsFuses (p s) : KeepsFuses s (resetRegs p s) := by simp [resetRegs]
@[simp] theorem freeBelow_keepsFuses (bound s) : KeepsFuses s (freeBelow bound s).2 := by simp [freeBelow]
@[simp] theorem ctrAddOne_keepsFuses (n v s) : KeepsFuses s (ctrAddOne n v s) := by simp [ctrAddOne]
@[simp] theorem ctrCarry_keepsFuses (n v s) : KeepsFuses s (ctrCarry n v s) := by simp [ctrCarry]

@[simp] theorem writeRwl_keepsFuses (k val s) : KeepsFuses s (writeRwl k val s) := by
  unfold writeRwl
  split <;> simp

@[simp] theorem sendMsix_keepsFuses (p v s) : KeepsFuses s (sendMsix p v s) := by simp [sendMsix]
@[simp] theorem sendEvq_keepsFuses (p s) : KeepsFuses s (sendEvq p s) := by simp [sendEvq]
@[simp] theorem signalEvq_keepsFuses (p s) : KeepsFuses s (signalEvq p s) := by simp [signalEvq]
@[simp] theorem writeEvent_keepsFuses (p e s) : KeepsFuses s (writeEvent p e s) := by simp [writeEvent]
@[simp] theorem logEvent_keepsFuses (e s) : KeepsFuses s (logEvent e s) := by simp [logEvent]
@[simp] theorem reportLost_keepsFuses (p s) : KeepsFuses s (reportLost p s) := by simp [reportLost]
@[simp] theorem postToPort_keepsFuses (e s p) : KeepsFuses s (postToPort e s p) := by simp [postToPort]
@[simp] theorem sendCq_keepsFuses (p n s) : KeepsFuses s (sendCq p n s) := by simp [sendCq]
@[simp] theorem signalCq_keepsFuses (p n s) : KeepsFuses s (signalCq p n s) := by simp [signalCq]

@[simp] theorem writeCompletion_keepsFuses (p n c s) : KeepsFuses s (writeCompletion p n c s) := by
  simp [writeCompletion]

@[simp] theorem drainSq_keepsFuses (p n s) : KeepsFuses s (drainSq p n s) := by simp [drainSq]
@[simp] theorem refuseWith_keepsFuses (d st unit s) : KeepsFuses s (refuseWith d st unit s) := by simp [refuseWith]
@[simp] theorem badWith_keepsFuses (d st off s) : KeepsFuses s (badWith d st off s) := by simp [badWith]

/-! ### The command catalogue -/

@[simp] theorem setHost_keepsFuses (kind idx h s) : KeepsFuses s (setHost kind idx h s) := by simp [setHost]

/-! ### Host port commands -/

@[simp] theorem triggerFetch_keepsFuses (p s) : KeepsFuses s (triggerFetch p s) := by simp [triggerFetch]
@[simp] theorem execPortKick_keepsFuses (port _val s) : NextKeepsFuses s (execPortKick port _val s) := by simp [execPortKick]

@[simp] theorem execPollTimerExpiry_keepsFuses (port s) : NextKeepsFuses s (execPollTimerExpiry port s) := by
  simp [execPollTimerExpiry]

@[simp] theorem doorbellBad_keepsFuses (p ring w seen s) : KeepsFuses s (doorbellBad p ring w seen s) := by simp [doorbellBad]

@[simp] theorem sqWord_keepsFuses (p n w s) : KeepsFuses s (sqWord p n w s) := by
  unfold sqWord
  dsimp only
  (repeat' split) <;> simp

@[simp] theorem freeSlot_keepsFuses (p s e) : KeepsFuses s (freeSlot p s e) := by simp [freeSlot]

@[simp] theorem releaseHeld_keepsFuses (p n fuel s) : KeepsFuses s (releaseHeld p n fuel s) := by
  induction fuel generalizing s with
  | zero => simp [releaseHeld]
  | succ fuel ih =>
    unfold releaseHeld
    split
    · simp
    · split <;> simp [ih]

@[simp] theorem cqWord_keepsFuses (p n w s) : KeepsFuses s (cqWord p n w s) := by
  unfold cqWord
  dsimp only
  split
  · simp
  · split <;> simp

@[simp] theorem evqWord_keepsFuses (p w s) : KeepsFuses s (evqWord p w s) := by
  unfold evqWord
  dsimp only
  (repeat' split) <;> simp

@[simp] theorem fetchEnds_keepsFuses (p s) : KeepsFuses s (fetchEnds p s) := by simp [fetchEnds]
@[simp] theorem acceptBlock_keepsFuses (p ws s) : KeepsFuses s (acceptBlock p ws s) := by simp [acceptBlock]
@[simp] theorem blockReadFailed_keepsFuses (p s) : KeepsFuses s (blockReadFailed p s) := by simp [blockReadFailed]

@[simp] theorem execDoorbellFetchDone_keepsFuses (port words s) : NextKeepsFuses s (execDoorbellFetchDone port words s) := by
  unfold execDoorbellFetchDone
  (repeat' split) <;> simp

@[simp] theorem setGroup_keepsFuses (g s) : KeepsFuses s (setGroup g s) := by simp [setGroup]
@[simp] theorem dropGroup_keepsFuses (g s) : KeepsFuses s (dropGroup g s) := by simp [dropGroup]

@[simp] theorem failGroup_keepsFuses (g st off s) : KeepsFuses s (failGroup g st off s) := by
  refine KeepsFuses.trans (t := dropGroup g.id s) (by simp) (foldl_keepsFuses _ (fun s n => ?_) _ _)
  (repeat' split) <;> simp

@[simp] theorem abortGroup_keepsFuses (g s) : KeepsFuses s (abortGroup g s) := by
  refine KeepsFuses.trans (t := dropGroup g.id s) (by simp) (foldl_keepsFuses _ (fun s n => ?_) _ _)
  (repeat' split) <;> simp

@[simp] theorem failMember_keepsFuses (d st v s) : KeepsFuses s (failMember d st v s) := by
  unfold failMember
  split <;> simp

@[simp] theorem closeGroup_keepsFuses (g s) : KeepsFuses s (closeGroup g s) := by simp [closeGroup]
@[simp] theorem setOpen_keepsFuses (p n g s) : KeepsFuses s (setOpen p n g s) := by simp [setOpen]
@[simp] theorem joinGroup_keepsFuses (g d bad s) : KeepsFuses s (joinGroup g d bad s) := by simp [joinGroup]

@[simp] theorem parseDsc_keepsFuses (d s) : KeepsFuses s (parseDsc d s) := by
  unfold parseDsc
  dsimp only
  (repeat' split) <;> simp [addDsc]

@[simp] theorem execDescriptorFetchDone_keepsFuses (port sq raw s) :
    NextKeepsFuses s (execDescriptorFetchDone port sq raw s) := by
  unfold execDescriptorFetchDone
  (repeat' split) <;> simp [takeTurn]

@[simp] theorem nextOrder_keepsFuses (s) : KeepsFuses s (nextOrder s).2 := by simp [nextOrder]

@[simp] theorem dropOpen_keepsFuses (p n s) : KeepsFuses s (dropOpen p n s) := by
  unfold dropOpen
  split <;> simp

@[simp] theorem execSqCfgWrite_keepsFuses (port n val s) : NextKeepsFuses s (execSqCfgWrite port n val s) := by
  simp [execSqCfgWrite]

@[simp] theorem cfgCommon_keepsFuses (k val s) : KeepsFuses s (cfgCommon k val s) := by simp [cfgCommon]

@[simp] theorem execCqCfgWrite_keepsFuses (port n val s) : NextKeepsFuses s (execCqCfgWrite port n val s) := by
  simp [execCqCfgWrite]

@[simp] theorem tellFailures_keepsFuses (p s) : KeepsFuses s (tellFailures p s) := by simp [tellFailures]

@[simp] theorem execEvqCfgWrite_keepsFuses (port val s) : NextKeepsFuses s (execEvqCfgWrite port val s) := by
  simp [execEvqCfgWrite]

@[simp] theorem execCoalesceTimerExpiry_keepsFuses (port ring s) : NextKeepsFuses s (execCoalesceTimerExpiry port ring s) := by
  simp [execCoalesceTimerExpiry]

/-! ### What every block needs of the power sequencer -/

@[simp] theorem resultBegin_keepsFuses (k data s) : KeepsFuses s (resultBegin k data s) := by simp [resultBegin]
@[simp] theorem resultEnd_keepsFuses (k st s) : KeepsFuses s (resultEnd k st s) := by simp [resultEnd]
@[simp] theorem pmbus_keepsFuses (n cmd val s) : KeepsFuses s (pmbus n cmd val s) := by simp [pmbus]
@[simp] theorem railOn_keepsFuses (n s) : KeepsFuses s (railOn n s) := by simp [railOn]
@[simp] theorem railOff_keepsFuses (n s) : KeepsFuses s (railOff n s) := by simp [railOff]
@[simp] theorem commandRail_keepsFuses (rail mv s) : KeepsFuses s (commandRail rail mv s) := by simp [commandRail]
@[simp] theorem recordWake_keepsFuses (w s) : KeepsFuses s (recordWake w s) := by simp [recordWake]

@[simp] theorem beginExit_keepsFuses (e s) : KeepsFuses s (beginExit e s) := by
  unfold beginExit
  split <;> simp

@[simp] theorem wakeUp_keepsFuses (w cause s) : KeepsFuses s (wakeUp w cause s) := by
  unfold wakeUp
  split <;> simp

@[simp] theorem idleTrigger_keepsFuses (s) : KeepsFuses s (idleTrigger s) := by simp [idleTrigger]
@[simp] theorem setOp_keepsFuses (d n s) : KeepsFuses s (setOp d n s) := by simp [setOp]

@[simp] theorem serveOps_keepsFuses (fuel s) : KeepsFuses s (serveOps fuel s) := by
  induction fuel generalizing s with
  | zero => simp [serveOps]
  | succ fuel ih =>
    unfold serveOps
    split
    · simp
    · split
      · simp
      · simp [ih]

@[simp] theorem wantOp_keepsFuses (d n cause s) : KeepsFuses s (wantOp d n cause s) := by
  simp [wantOp]

@[simp] theorem followCompOp_keepsFuses (s) : KeepsFuses s (followCompOp s) := by simp [followCompOp]

/-! ### The resets of R69 and R563, start-up failures -/

@[simp] theorem setReason_keepsFuses (bits s) : KeepsFuses s (setReason bits s) := by simp [setReason]
@[simp] theorem setStage_keepsFuses (stage ph s) : KeepsFuses s (setStage stage ph s) := by simp [setStage]
@[simp] theorem noSource_keepsFuses (s) : KeepsFuses s (noSource s) := by simp [noSource]
@[simp] theorem enterStopped_keepsFuses (s) : KeepsFuses s (enterStopped s) := by simp [enterStopped]

@[simp] theorem bootFailure_keepsFuses (code slot detail s) : KeepsFuses s (bootFailure code slot detail s) := by
  simp [bootFailure]

@[simp] theorem fatalRecord_keepsFuses (cls unit detail status s) : KeepsFuses s (fatalRecord cls unit detail status s) := by
  simp [fatalRecord]

@[simp] theorem fatalToPort_keepsFuses (e s p) : KeepsFuses s (fatalToPort e s p) := by simp [fatalToPort]
@[simp] theorem railsOff_keepsFuses (s) : KeepsFuses s (railsOff s) := by simp [railsOff]

/-! ### Reservoir allocation -/

/-- An allocation keeps the fuses. A proof about a caller names the allocator first: evaluated, its search is too large. -/
theorem alloc_keepsFuses {r tag n s t} (h : alloc r tag n s = some t) : KeepsFuses s t := by
  unfold alloc at h
  dsimp only at h
  split at h
  · simp [← Option.some.inj h]
  · split at h
    · simp [← Option.some.inj h]
    · cases h

theorem allocTwice_keepsFuses {tag n s t} (h : allocTwice tag n s = some t) : KeepsFuses s t := by
  obtain ⟨u, hu, ht⟩ := Option.bind_eq_some_iff.1 h
  exact (alloc_keepsFuses hu).trans (alloc_keepsFuses ht)

@[simp] theorem allocTwice_getD_keepsFuses (tag n s) : KeepsFuses s ((allocTwice tag n s).getD s) := by
  cases h : allocTwice tag n s with
  | none => simp
  | some t => simp [allocTwice_keepsFuses h]

@[simp] theorem freeTag_keepsFuses (r tag s) : KeepsFuses s (freeTag r tag s) := by simp [freeTag]
@[simp] theorem retag_keepsFuses (r old new s) : KeepsFuses s (retag r old new s) := by simp [retag]
@[simp] theorem followBlocked_keepsFuses (s) : KeepsFuses s (followBlocked s) := by simp [followBlocked]

@[simp] theorem recordMissing_keepsFuses (s) : KeepsFuses s (recordMissing s) := by
  unfold recordMissing
  (repeat' split) <;> simp

@[simp] theorem showActive_keepsFuses (s) : KeepsFuses s (showActive s) := by simp [showActive]
@[simp] theorem loseTable_keepsFuses (id s) : KeepsFuses s (loseTable id s) := by simp [loseTable]
@[simp] theorem activate_keepsFuses (id s) : KeepsFuses s (activate id s) := by simp [activate]
@[simp] theorem dropStaged_keepsFuses (id s) : KeepsFuses s (dropStaged id s) := by simp [dropStaged]

/-! ### Confidence rectangles -/

@[simp] theorem setRect_keepsFuses (r v s) : KeepsFuses s (setRect r v s) := by simp [setRect]
@[simp] theorem followWaiting_keepsFuses (r s) : KeepsFuses s (followWaiting r s) := by simp [followWaiting]

@[simp] theorem endCheck_keepsFuses (port sq seq st frame res s) : KeepsFuses s (endCheck port sq seq st frame res s) := by
  unfold endCheck
  split <;> simp

@[simp] theorem clearRect_keepsFuses (r s) : KeepsFuses s (clearRect r s) := by
  unfold clearRect
  dsimp only
  split <;> simp

@[simp] theorem followChkActive_keepsFuses (r s) : KeepsFuses s (followChkActive r s) := by simp [followChkActive]
@[simp] theorem disableRect_keepsFuses (r s) : KeepsFuses s (disableRect r s) := by simp [disableRect]
@[simp] theorem recheckRects_keepsFuses (s) : KeepsFuses s (recheckRects s) := by simp [recheckRects]

@[simp] theorem logMismatch_keepsFuses (r flags frame computed expected s) :
    KeepsFuses s (logMismatch r flags frame computed expected s) := by
  simp [logMismatch]

@[simp] theorem mismatch_keepsFuses (r flags frame computed expected told s) :
    KeepsFuses s (mismatch r flags frame computed expected told s) := by
  simp [mismatch]

@[simp] theorem setLastMatch_keepsFuses (r ok s) : KeepsFuses s (setLastMatch r ok s) := by simp [setLastMatch]

@[simp] theorem comparePerFrame_keepsFuses (r flags frame computed s e) :
    KeepsFuses s (comparePerFrame r flags frame computed s e) := by
  simp [comparePerFrame]

@[simp] theorem compareSticky_keepsFuses (r flags frame computed s) :
    KeepsFuses s (compareSticky r flags frame computed s) := by
  simp [compareSticky]

/-- The waiting values that came too late: by induction, since `foldl_keepsFuses` has the kernel evaluate the step's counts. -/
theorem foldl_late_keepsFuses (s : State) (gone : List Expect) : KeepsFuses s
    (gone.foldl (fun s e => setFlag Flag.CHK_late s |> endCheck e.port e.sq e.seq .late e.frame 0) s) := by
  induction gone generalizing s with
  | nil => simp
  | cons e gone ih =>
    rw [List.foldl_cons]
    exact KeepsFuses.trans (t := setFlag Flag.CHK_late s) (by simp) ((endCheck_keepsFuses ..).trans (ih _))

@[simp] theorem rectComputed_keepsFuses (r frame crc dropped s) : KeepsFuses s (rectComputed r frame crc dropped s) := by
  unfold rectComputed
  extract_lets v flags rest counted defined mine gone compared late
  have hcounted : KeepsFuses s counted := by simp [counted]
  have hdefined : KeepsFuses counted defined := by
    unfold defined
    split <;> simp
  have hcompared : KeepsFuses defined compared := by simp [compared]
  have hlate : KeepsFuses compared late := foldl_late_keepsFuses compared gone
  refine (hcounted.trans hdefined).trans ((hcompared.trans hlate).trans ?_)
  split <;> simp

/-! ### The serial lanes of both links -/

@[simp] theorem setStat_keepsFuses (link lane f v s) : KeepsFuses s (setStat link lane f v s) := by simp [setStat]
@[simp] theorem followActive_keepsFuses (s) : KeepsFuses s (followActive s) := by simp [followActive]
@[simp] theorem followDcfg_keepsFuses (s) : KeepsFuses s (followDcfg s) := by simp [followDcfg]

@[simp] theorem pumpBc_keepsFuses (bc s) : KeepsFuses s (pumpBc bc s) := by
  unfold pumpBc
  split <;> simp [sendBc]

@[simp] theorem askDriver_keepsFuses (q s) : KeepsFuses s (askDriver q s) := by simp [askDriver]
@[simp] theorem eyeRuns_keepsFuses (link lane s) : KeepsFuses s (eyeRuns link lane s) := by simp [eyeRuns]
@[simp] theorem showLock_keepsFuses (lane st s) : KeepsFuses s (showLock lane st s) := by simp [showLock]
@[simp] theorem sendBlocks_keepsFuses (lane idle bs s) : KeepsFuses s (sendBlocks lane idle bs s) := by simp [sendBlocks]
@[simp] theorem sendTraining_keepsFuses (lane phase s) : KeepsFuses s (sendTraining lane phase s) := by simp [sendTraining]
@[simp] theorem trainSignal_keepsFuses (lane st s) : KeepsFuses s (trainSignal lane st s) := by simp [trainSignal]
@[simp] theorem goLane_keepsFuses (link lane st s) : KeepsFuses s (goLane link lane st s) := by simp [goLane]

@[simp] theorem laneEvent_keepsFuses (link lane code sev v s) : KeepsFuses s (laneEvent link lane code sev v s) := by
  simp [laneEvent]

@[simp] theorem trainResult_keepsFuses (j s) : KeepsFuses s (trainResult j s) := by
  unfold trainResult
  split
  · simp
  · split <;> simp

@[simp] theorem endJobs_keepsFuses (s) : KeepsFuses s (endJobs s) := by simp [endJobs]
@[simp] theorem jobLaneEnds_keepsFuses (link lane ok s) : KeepsFuses s (jobLaneEnds link lane ok s) := by simp [jobLaneEnds]
@[simp] theorem jobLaneGone_keepsFuses (link lane s) : KeepsFuses s (jobLaneGone link lane s) := by simp [jobLaneGone]
@[simp] theorem countRetrain_keepsFuses (f link lane s) : KeepsFuses s (countRetrain f link lane s) := by simp [countRetrain]

@[simp] theorem beginSteps_keepsFuses (link lane s) : KeepsFuses s (beginSteps link lane s) := by
  simp [beginSteps, startSettings]

@[simp] theorem noteHeld_keepsFuses (lane row s) : KeepsFuses s (noteHeld lane row s) := by simp [noteHeld]

@[simp] theorem startTraining_keepsFuses (link lane cause s) : KeepsFuses s (startTraining link lane cause s) := by
  simp [startTraining]

@[simp] theorem startFast_keepsFuses (link lane s) : KeepsFuses s (startFast link lane s) := by simp [startFast]
@[simp] theorem takeWaiting_keepsFuses (link lane s) : KeepsFuses s (takeWaiting link lane s) := by simp [takeWaiting]

@[simp] theorem failTraining_keepsFuses (link lane step s) : KeepsFuses s (failTraining link lane step s) := by
  simp [failTraining]

@[simp] theorem markBack_keepsFuses (lane s) : KeepsFuses s (markBack lane s) := by simp [markBack]
@[simp] theorem becomeActive_keepsFuses (link lane s) : KeepsFuses s (becomeActive link lane s) := by simp [becomeActive]

@[simp] theorem noteFailure_keepsFuses (p line c s) : KeepsFuses s (noteFailure p line c s) := by
  unfold noteFailure
  split <;> simp

@[simp] theorem abandonPacket_keepsFuses (lane cause s) : KeepsFuses s (abandonPacket lane cause s) := by
  unfold abandonPacket
  split <;> simp

@[simp] theorem notIdle_keepsFuses (lane s) : KeepsFuses s (notIdle lane s) := by simp [notIdle]
@[simp] theorem dataArrives_keepsFuses (lane s) : KeepsFuses s (dataArrives lane s) := by simp [dataArrives]

@[simp] theorem endTrial_keepsFuses (link lane s) : KeepsFuses s (endTrial link lane s) := by
  unfold endTrial
  split <;> simp

@[simp] theorem markLoss_keepsFuses (lane s) : KeepsFuses s (markLoss lane s) := by
  unfold markLoss
  dsimp only
  split <;> simp

@[simp] theorem loseLock_keepsFuses (link lane cause s) : KeepsFuses s (loseLock link lane cause s) := by simp [loseLock]
@[simp] theorem dropLock_keepsFuses (lane cause s) : KeepsFuses s (dropLock lane cause s) := by simp [dropLock]

@[simp] theorem execLaneLockLost_keepsFuses (link lane cause s) : NextKeepsFuses s (execLaneLockLost link lane cause s) := by
  simp [execLaneLockLost]

@[simp] theorem fastDone_keepsFuses (link lane s) : KeepsFuses s (fastDone link lane s) := by simp [fastDone]

@[simp] theorem execFastRetrainTimeout_keepsFuses (link lane s) : NextKeepsFuses s (execFastRetrainTimeout link lane s) := by
  simp [execFastRetrainTimeout]

@[simp] theorem execRetrainCountReset_keepsFuses (link lane s) : NextKeepsFuses s (execRetrainCountReset link lane s) := by
  simp [execRetrainCountReset]

@[simp] theorem execHwlSignalDetect_keepsFuses (lane s) : NextKeepsFuses s (execHwlSignalDetect lane s) := by
  simp [execHwlSignalDetect]

@[simp] theorem execCdrLock_keepsFuses (lane s) : NextKeepsFuses s (execCdrLock lane s) := by simp [execCdrLock]
@[simp] theorem slip_keepsFuses (link lane n s) : KeepsFuses s (slip link lane n s) := by simp [slip]
@[simp] theorem nextBoundary_keepsFuses (lane s) : KeepsFuses s (nextBoundary lane s) := by simp [nextBoundary]
@[simp] theorem gainLock_keepsFuses (lane s) : KeepsFuses s (gainLock lane s) := by simp [gainLock]
@[simp] theorem receiveHeader_keepsFuses (lane h s) : KeepsFuses s (receiveHeader lane h s) := by simp [receiveHeader]

@[simp] theorem takeBlock_keepsFuses (lane b s) : KeepsFuses s (takeBlock lane b s).2 := by simp [takeBlock]

theorem takeBlock_eq_keepsFuses {lane b s a t} (h : takeBlock lane b s = (a, t)) : KeepsFuses s t := by
  simpa [h] using takeBlock_keepsFuses lane b s

@[simp] theorem hearBlock_keepsFuses (lane b s) : KeepsFuses s (hearBlock lane b s) := by simp [hearBlock]

@[simp] theorem receiveBlocks_keepsFuses (lane at_ bs s) : KeepsFuses s (receiveBlocks lane at_ bs s) := by
  induction bs generalizing s with
  | nil => simp [receiveBlocks]
  | cons b bs ih =>
    unfold receiveBlocks
    dsimp only
    split <;> simp [ih]

@[simp] theorem seedScrambler_keepsFuses (lane bs s) : KeepsFuses s (seedScrambler lane bs s) := by simp [seedScrambler]

@[simp] theorem execBlockLock_keepsFuses (r s) : NextKeepsFuses s (execBlockLock r s) := by
  unfold execBlockLock
  dsimp only
  split
  · split <;> simp
  · simp

@[simp] theorem execLaneTrainingTimeout_keepsFuses (link lane s) : NextKeepsFuses s (execLaneTrainingTimeout link lane s) := by
  simp [execLaneTrainingTimeout]

@[simp] theorem driverLocks_keepsFuses (lane status s) : KeepsFuses s (driverLocks lane status s) := by simp [driverLocks]

@[simp] theorem execLaneTrainingDone_keepsFuses (link lane status fom crc s) :
    NextKeepsFuses s (execLaneTrainingDone link lane status fom crc s) := by
  simp [execLaneTrainingDone]

@[simp] theorem execInvalidSyncHeader_keepsFuses (lane block s) : NextKeepsFuses s (execInvalidSyncHeader lane block s) := by
  unfold execInvalidSyncHeader
  split
  · next t h => simp [takeBlock_eq_keepsFuses h]
  · simp

@[simp] theorem execLaneTrain_keepsFuses (port sq seq s) : NextKeepsFuses s (execLaneTrain port sq seq s) := by
  simp [execLaneTrain]

@[simp] theorem execLaneBitSlip_keepsFuses (port sq seq s) : NextKeepsFuses s (execLaneBitSlip port sq seq s) := by
  simp [execLaneBitSlip]

@[simp] theorem execLaneSlipWrite_keepsFuses (port link lane val s) :
    NextKeepsFuses s (execLaneSlipWrite port link lane val s) := by
  simp [execLaneSlipWrite]

@[simp] theorem execLaneCfgWrite_keepsFuses (port link lane val s) :
    NextKeepsFuses s (execLaneCfgWrite port link lane val s) := by
  simp [execLaneCfgWrite]

@[simp] theorem stepTaps_keepsFuses (lane steps s) : KeepsFuses s (stepTaps lane steps s) := by simp [stepTaps]
@[simp] theorem tryCtle_keepsFuses (lane t s) : KeepsFuses s (tryCtle lane t s) := by simp [tryCtle]

@[simp] theorem trialWindow_keepsFuses (lane fom s) : KeepsFuses s (trialWindow lane fom s) := by
  unfold trialWindow
  split <;> simp

@[simp] theorem execCtleTrial_keepsFuses (lane s) : NextKeepsFuses s (execCtleTrial lane s) := by simp [execCtleTrial]
@[simp] theorem eyeStart_keepsFuses (link lane dsc s) : KeepsFuses s (eyeStart link lane dsc s) := by simp [eyeStart]

@[simp] theorem eyeEnd_keepsFuses (link lane st s) : KeepsFuses s (eyeEnd link lane st s) := by
  unfold eyeEnd
  dsimp only
  split <;> simp

@[simp] theorem execLaneEyeScan_keepsFuses (port sq seq s) : NextKeepsFuses s (execLaneEyeScan port sq seq s) := by
  simp [execLaneEyeScan]

@[simp] theorem execLaneEyeStartWrite_keepsFuses (port link lane val s) :
    NextKeepsFuses s (execLaneEyeStartWrite port link lane val s) := by
  simp [execLaneEyeStartWrite]

@[simp] theorem eyeData_keepsFuses (link lane fom r s) : KeepsFuses s (eyeData link lane fom r s) := by simp [eyeData]

@[simp] theorem execEyeScanDone_keepsFuses (link lane left right top bottom centre answered s) :
    NextKeepsFuses s (execEyeScanDone link lane left right top bottom centre answered s) := by
  simp [execEyeScanDone]

@[simp] theorem countGood_keepsFuses (lane fom s) : KeepsFuses s (countGood lane fom s) := by simp [countGood]
@[simp] theorem adaptWindow_keepsFuses (lane fom s) : KeepsFuses s (adaptWindow lane fom s) := by simp [adaptWindow]

@[simp] theorem execFomWindow_keepsFuses (lane disagree steps s) : NextKeepsFuses s (execFomWindow lane disagree steps s) := by
  unfold execFomWindow
  dsimp only
  split_ifs <;> simp [recentreDue]

@[simp] theorem freezeLane_keepsFuses (link lane s) : KeepsFuses s (freezeLane link lane s) := by simp [freezeLane]

@[simp] theorem execIdleFreeze_keepsFuses (link lane s) : NextKeepsFuses s (execIdleFreeze link lane s) := by
  simp [execIdleFreeze]

@[simp] theorem idleArrives_keepsFuses (lane s) : KeepsFuses s (idleArrives lane s) := by simp [idleArrives]

@[simp] theorem execHwlIdleBlock_keepsFuses (b s) : NextKeepsFuses s (execHwlIdleBlock b s) := by
  unfold execHwlIdleBlock
  split
  · next t h => simp [takeBlock_eq_keepsFuses h]
  · simp

@[simp] theorem execRecentreDone_keepsFuses (scan s) : NextKeepsFuses s (execRecentreDone scan s) := by simp [execRecentreDone]

@[simp] theorem prbsAdvance_keepsFuses (link lane n bits s) : KeepsFuses s (prbsAdvance link lane n bits s) := by
  simp [prbsAdvance]

@[simp] theorem prbsPattern_keepsFuses (link lane pat user s) : KeepsFuses s (prbsPattern link lane pat user s) := by
  simp [prbsPattern]

@[simp] theorem prbsInject_keepsFuses (link lane n s) : KeepsFuses s (prbsInject link lane n s) := by simp [prbsInject]

@[simp] theorem execLanePrbs_keepsFuses (port sq seq s) : NextKeepsFuses s (execLanePrbs port sq seq s) := by
  simp [execLanePrbs]

@[simp] theorem execPrbsCtrlWrite_keepsFuses (port link lane val s) :
    NextKeepsFuses s (execPrbsCtrlWrite port link lane val s) := by
  simp [execPrbsCtrlWrite]

@[simp] theorem execPrbsInjectWrite_keepsFuses (port link lane n bits val s) :
    NextKeepsFuses s (execPrbsInjectWrite port link lane n bits val s) := by
  simp [execPrbsInjectWrite]

@[simp] theorem execPrbsBitsLoRead_keepsFuses (port link lane n bits s) :
    NextKeepsFuses s (execPrbsBitsLoRead port link lane n bits s) := by
  simp [execPrbsBitsLoRead]

@[simp] theorem execPrbsCheckerLocked_keepsFuses (r s) : NextKeepsFuses s (execPrbsCheckerLocked r s) := by
  simp [execPrbsCheckerLocked]

@[simp] theorem execPrbsCheckerUnlock_keepsFuses (lane n bits s) : NextKeepsFuses s (execPrbsCheckerUnlock lane n bits s) := by
  simp [execPrbsCheckerUnlock]

/-! ### Confluence -/

@[simp] theorem followLayers_keepsFuses (s) : KeepsFuses s (followLayers s) := by simp [followLayers]

@[simp] theorem setHwRead_keepsFuses (f s) : KeepsFuses s (setHwRead f s) := by
  unfold setHwRead
  (repeat' split) <;> simp

@[simp] theorem setFrameLayer_keepsFuses (n l s) : KeepsFuses s (setFrameLayer n l s) := by
  unfold setFrameLayer
  (repeat' split) <;> simp

@[simp] theorem countPatch_keepsFuses (s) : KeepsFuses s (countPatch s) := by simp [countPatch]

@[simp] theorem patchLine_keepsFuses (p other s line) : KeepsFuses s (patchLine p other s line) := by
  unfold patchLine
  split <;> simp

@[simp] theorem patchReceived_keepsFuses (p other s line) : KeepsFuses s (patchReceived p other s line) := by
  unfold patchReceived
  split <;> simp

@[simp] theorem patchMissing_keepsFuses (s) : KeepsFuses s (patchMissing s) := by simp [patchMissing]

@[simp] theorem patchReceiving_keepsFuses (s) : KeepsFuses s (patchReceiving s) := by
  unfold patchReceiving
  split <;> simp

@[simp] theorem followResume_keepsFuses (s) : KeepsFuses s (followResume s) := by simp [followResume]
@[simp] theorem setFrameOpen_keepsFuses (b s) : KeepsFuses s (setFrameOpen b s) := by simp [setFrameOpen]
@[simp] theorem closeFrame_keepsFuses (s) : KeepsFuses s (closeFrame s) := by simp [closeFrame]

@[simp] theorem postPatches_keepsFuses (f s) : KeepsFuses s (postPatches f s) := by
  unfold postPatches
  refine foldl_keepsFuses _ (fun s p => foldl_keepsFuses _ (fun s a => foldl_keepsFuses _ (fun s c => ?_) _ _) _ _) _ _
  exact foldl_keepsFuses _ (fun s r => by simp) _ _

@[simp] theorem completeFlip_keepsFuses (f st frame res s) : KeepsFuses s (completeFlip f st frame res s) := by
  unfold completeFlip
  split <;> simp

@[simp] theorem freeVersion_keepsFuses (layer used s) : KeepsFuses s (freeVersion layer used s) := by
  unfold freeVersion
  split <;> simp

@[simp] theorem freeOld_keepsFuses (n s) : KeepsFuses s (freeOld n s) := by simp [freeOld]

@[simp] theorem retireCurrent_keepsFuses (layer n s) : KeepsFuses s (retireCurrent layer n s) := by
  unfold retireCurrent
  dsimp only
  split <;> simp

@[simp] theorem retireFlips_keepsFuses (n s) : KeepsFuses s (retireFlips n s) := by
  unfold retireFlips
  exact foldl_keepsFuses _ (fun s layer => by simp) _ _

@[simp] theorem applySettings_keepsFuses (n s d) : KeepsFuses s (applySettings n s d) := by
  unfold applySettings
  split <;> simp

@[simp] theorem applyFlip_keepsFuses (n late d s) : KeepsFuses s (applyFlip n late d s) := by simp [applyFlip]
@[simp] theorem groupArrives_keepsFuses (g s) : KeepsFuses s (groupArrives g s) := by simp [groupArrives]

@[simp] theorem followGroup_keepsFuses (id s) : KeepsFuses s (followGroup id s) := by
  unfold followGroup
  split <;> simp

@[simp] theorem arrive_keepsFuses (d s) : KeepsFuses s (arrive d s) := by simp [arrive]

@[simp] theorem leaveGroup_keepsFuses (d st res s) : KeepsFuses s (leaveGroup d st res s) := by
  unfold leaveGroup
  split <;> simp

@[simp] theorem sweepFetch_keepsFuses (s n) : KeepsFuses s (sweepFetch s n) := by
  unfold sweepFetch
  split <;> simp

@[simp] theorem sweepFetches_keepsFuses (s) : KeepsFuses s (sweepFetches s) := by simp [sweepFetches]

@[simp] theorem dropFetch_keepsFuses (n s) : KeepsFuses s (dropFetch n s) := by
  unfold dropFetch
  dsimp only
  (repeat' split) <;> simp

@[simp] theorem flipReaches_keepsFuses (d s) : KeepsFuses s (flipReaches d s) := by
  obtain ⟨alloc', halloc⟩ : ∃ f, f = alloc := ⟨_, rfl⟩
  unfold flipReaches
  rw [← halloc]
  dsimp only
  split
  · simp
  · split
    · simp
    · split
      · simp
      · split
        · simp
        · next t h => exact KeepsFuses.trans (by simp) ((alloc_keepsFuses (halloc ▸ h)).trans (by simp))

@[simp] theorem waitForFetch_keepsFuses (g flips s) : KeepsFuses s (waitForFetch g flips s) := by
  refine KeepsFuses.trans (t := setGroup { g with order := 0 } s) (by simp) (foldl_keepsFuses _ (fun s d => ?_) _ _)
  split <;> simp

@[simp] theorem finishMember_keepsFuses (n ms s e) : KeepsFuses s (finishMember n ms s e) := by
  unfold finishMember
  dsimp only
  split <;> simp

@[simp] theorem completeSnapshots_keepsFuses (n s) : KeepsFuses s (completeSnapshots n s) := by
  unfold completeSnapshots
  refine foldl_keepsFuses _ (fun s layer => ?_) _ _
  split
  · split <;> simp
  · simp

@[simp] theorem checkAhead_keepsFuses (s) : KeepsFuses s (checkAhead s) := by simp [checkAhead]
@[simp] theorem applyGroup_keepsFuses (n ms s g) : KeepsFuses s (applyGroup n ms s g) := by simp [applyGroup]

theorem tryGroup_keepsFuses (n : Nat) (t : Tried) (g : Group) : KeepsFuses t.now (tryGroup n t g).now := by
  unfold tryGroup
  dsimp only
  split
  · simp
  · split
    · simp
    · split <;> simp

theorem tryGroups_keepsFuses (n : Nat) : ∀ (l : List Group) (t : Tried), KeepsFuses t.now (l.foldl (tryGroup n) t).now
  | [], _ => ⟨rfl, rfl⟩
  | g :: l, t => (tryGroup_keepsFuses n t g).trans (tryGroups_keepsFuses n l _)

@[simp] theorem applyGroups_keepsFuses (n s) : KeepsFuses s (applyGroups n s) := by
  refine (tryGroups_keepsFuses n (dueGroups s n) { now := s, after := s }).trans ?_
  unfold applyGroups
  simp

@[simp] theorem latch_keepsFuses (s) : KeepsFuses s (latch s) := by
  unfold latch
  split
  · simp
  · split
    · simp
    · extract_lets view keep s1 comp s2
      have h1 : KeepsFuses s s1 :=
        foldl_keepsFuses _ (fun s p => foldl_keepsFuses _ (fun s l => by split <;> simp) _ _) _ _
      have h2 : KeepsFuses s1 s2 := by
        unfold s2
        split <;> exact ⟨rfl, rfl⟩
      exact h1.trans (h2.trans (by simp))

@[simp] theorem openSlot_keepsFuses (s) : KeepsFuses s (openSlot s) := by simp [openSlot]
@[simp] theorem freshRow_keepsFuses (slot y s) : KeepsFuses s (freshRow slot y s) := by simp [freshRow]

@[simp] theorem frameWhole_keepsFuses (s) : KeepsFuses s (frameWhole s) := by
  unfold frameWhole
  split <;> simp

@[simp] theorem putLine_keepsFuses (y copied px s) : KeepsFuses s (putLine y copied px s) := by
  unfold putLine
  split <;> simp

@[simp] theorem notePatched_keepsFuses (s) : KeepsFuses s (notePatched s) := by
  unfold notePatched
  split <;> simp

@[simp] theorem patchedLine_keepsFuses (planesOut y s) : KeepsFuses s (patchedLine planesOut y s) := by
  unfold patchedLine
  split <;> simp

@[simp] theorem computeRect_keepsFuses (s r) : KeepsFuses s (computeRect s r) := by
  unfold computeRect
  split <;> simp

@[simp] theorem computeRects_keepsFuses (s) : KeepsFuses s (computeRects s) := by simp [computeRects]

@[simp] theorem endLayer_keepsFuses (cfn s n) : KeepsFuses s (endLayer cfn s n) := by
  unfold endLayer
  dsimp only
  (repeat' split) <;> simp

@[simp] theorem countLine_keepsFuses (s) : KeepsFuses s (countLine s) := by simp [countLine]

@[simp] theorem endFrame_keepsFuses (s) : KeepsFuses s (endFrame s) := by
  unfold endFrame
  split
  · simp
  · next c _ =>
    extract_lets s1 lines s2 s3 s4 s5 s6
    have h1 : KeepsFuses s s1 := by simp [s1]
    have h2 : KeepsFuses s1 s2 := by
      unfold s2
      split
      · simp
      · exact KeepsFuses.trans (t := lines) (foldl_keepsFuses _ (fun s y => by simp) _ _) (by simp)
    have h3 : KeepsFuses s2 s3 := by simp [s3]
    have h4 : KeepsFuses s3 s4 := by
      unfold s4
      split
      · split <;> simp
      · simp
    have h5 : KeepsFuses s4 s5 := by
      unfold s5
      exact foldl_keepsFuses _ (fun s l => by simp) _ _
    have h6 : KeepsFuses s5 s6 := by simp [s6]
    exact h1.trans (h2.trans (h3.trans (h4.trans (h5.trans (h6.trans (by simp))))))

@[simp] theorem applyWaiting_keepsFuses (s) : KeepsFuses s (applyWaiting s) := by simp [applyWaiting]
@[simp] theorem takeAhead_keepsFuses (s k) : KeepsFuses s (takeAhead s k) := by simp [takeAhead]
@[simp] theorem frameFetches_keepsFuses (s) : KeepsFuses s (frameFetches s) := by simp [frameFetches]

@[simp] theorem startFrame_keepsFuses (fromHwl own lag s) : KeepsFuses s (startFrame fromHwl own lag s) := by
  unfold startFrame
  extract_lets s1 n c comp raster s2
  have h1 : KeepsFuses s s1 := by simp [s1]
  have h2 : KeepsFuses s s2 := h1
  have h3 : KeepsFuses s2 (layerNumbers.foldl takeAhead s2) := foldl_keepsFuses _ (fun s l => by simp) _ _
  exact h2.trans (h3.trans (by simp))

/-! ### The check and counter commands -/

@[simp] theorem defineRect_keepsFuses (d s) : KeepsFuses s (defineRect d s) := by simp [defineRect]

@[simp] theorem execCheckRect_keepsFuses (port sq seq s) : NextKeepsFuses s (execCheckRect port sq seq s) := by
  simp [execCheckRect]

@[simp] theorem installSticky_keepsFuses (d s) : KeepsFuses s (installSticky d s) := by simp [installSticky]

@[simp] theorem expectFrame_keepsFuses (d s) : KeepsFuses s (expectFrame d s) := by
  unfold expectFrame
  dsimp only
  split <;> simp

@[simp] theorem execCheckExpect_keepsFuses (port sq seq s) : NextKeepsFuses s (execCheckExpect port sq seq s) := by
  simp [execCheckExpect]

@[simp] theorem ctrConfig_keepsFuses (n mode unit ev s) : KeepsFuses s (ctrConfig n mode unit ev s) := by simp [ctrConfig]
@[simp] theorem ctrPreset_keepsFuses (n preset counts s) : KeepsFuses s (ctrPreset n preset counts s) := by simp [ctrPreset]

@[simp] theorem execCtrProgram_keepsFuses (port sq seq s) : NextKeepsFuses s (execCtrProgram port sq seq s) := by
  simp [execCtrProgram]

@[simp] theorem takeSnapshot_keepsFuses (s) : KeepsFuses s (takeSnapshot s) := by simp [takeSnapshot]

@[simp] theorem execCtrSnapshot_keepsFuses (port sq seq s) : NextKeepsFuses s (execCtrSnapshot port sq seq s) := by
  simp [execCtrSnapshot]

@[simp] theorem execCtrFreeze_keepsFuses (port sq seq s) : NextKeepsFuses s (execCtrFreeze port sq seq s) := by
  simp [execCtrFreeze, holdCtr]

@[simp] theorem execCounterWrap_keepsFuses (n s) : NextKeepsFuses s (execCounterWrap n s) := by simp [execCounterWrap]

@[simp] theorem execBwMonitor_keepsFuses (port sq seq s) : NextKeepsFuses s (execBwMonitor port sq seq s) := by
  simp [execBwMonitor]

@[simp] theorem execBwWindowEnd_keepsFuses (monitor lo hi s) : NextKeepsFuses s (execBwWindowEnd monitor lo hi s) := by
  simp [execBwWindowEnd]

@[simp] theorem execTagConfig_keepsFuses (port sq seq s) : NextKeepsFuses s (execTagConfig port sq seq s) := by
  simp [execTagConfig]

@[simp] theorem tagStep_keepsFuses (s) : KeepsFuses s (tagStep s).2 := by
  unfold tagStep
  dsimp only
  split_ifs <;> simp

/-! ### The Headwater link -/

@[simp] theorem controlBlock_keepsFuses (lane s) : KeepsFuses s (controlBlock lane s) := by simp [controlBlock]
@[simp] theorem acceptLine_keepsFuses (lane k f s) : KeepsFuses s (acceptLine lane k f s) := by simp [acceptLine]

@[simp] theorem checkPacket_keepsFuses (lane k s) : KeepsFuses s (checkPacket lane k s) := by
  unfold checkPacket
  (repeat' split) <;> simp [discardLine]

@[simp] theorem endPacket_keepsFuses (lane en s) : KeepsFuses s (endPacket lane en s) := by
  unfold endPacket
  split <;> simp

@[simp] theorem dataBlock_keepsFuses (lane p s) : KeepsFuses s (dataBlock lane p s) := by
  unfold dataBlock
  dsimp only
  split <;> simp

@[simp] theorem otherBlock_keepsFuses (lane b s) : KeepsFuses s (otherBlock lane b s) := by
  unfold otherBlock
  split
  · simp
  · split
    · next t h => simp [takeBlock_eq_keepsFuses h]
    · next t h => split <;> simp [takeBlock_eq_keepsFuses h]
    · simp

@[simp] theorem lineBlock_keepsFuses (lane s b) : KeepsFuses s (lineBlock lane s b) := by
  unfold lineBlock
  split
  · simp
  · split
    · next t h => simp [takeBlock_eq_keepsFuses h]
    · next t h => simp [takeBlock_eq_keepsFuses h]
    · next t h => simp [takeBlock_eq_keepsFuses h]
    · simp

@[simp] theorem execHwlLinePacket_keepsFuses (lane blocks s) : NextKeepsFuses s (execHwlLinePacket lane blocks s) := by
  simp [execHwlLinePacket]

@[simp] theorem execHwlUnknownBlock_keepsFuses (lane block s) : NextKeepsFuses s (execHwlUnknownBlock lane block s) := by
  simp [execHwlUnknownBlock]

@[simp] theorem onControl_keepsFuses (lane kind b) {act : BitVec 64 → State → State} (hact : ∀ p s, KeepsFuses s (act p s))
    (s) : KeepsFuses s (onControl lane kind b act s) := by
  unfold onControl
  split
  · simp
  · split
    · next t h => split <;> simp [takeBlock_eq_keepsFuses h, hact]
    · simp

@[simp] theorem execHwlTrainBlock_keepsFuses (b s) : NextKeepsFuses s (execHwlTrainBlock b s) := by
  unfold execHwlTrainBlock
  split
  · next t h => split <;> simp [takeBlock_eq_keepsFuses h]
  · simp

@[simp] theorem wakeSource_keepsFuses (s) : KeepsFuses s (wakeSource s) := by simp [wakeSource]

@[simp] theorem endHwFrame_keepsFuses (s) : KeepsFuses s (endHwFrame s) := by
  unfold endHwFrame
  split <;> simp

@[simp] theorem checkSequence_keepsFuses (lo s) : KeepsFuses s (checkSequence lo s) := by simp [checkSequence]

@[simp] theorem openFrame_keepsFuses (lane lo mask s) : KeepsFuses s (openFrame lane lo mask s) := by
  simp [openFrame, keepWaiting]

@[simp] theorem frameStarts_keepsFuses (lane lo mask late s) : KeepsFuses s (frameStarts lane lo mask late s) := by
  simp [frameStarts]

@[simp] theorem execFrameStart_keepsFuses (lane header low high late s) :
    NextKeepsFuses s (execFrameStart lane header low high late s) := by
  simp [execFrameStart]

@[simp] theorem frameEnds_keepsFuses (lane lo s) : KeepsFuses s (frameEnds lane lo s) := by
  unfold frameEnds
  split <;> simp

@[simp] theorem execFrameEnd_keepsFuses (lane header low high s) : NextKeepsFuses s (execFrameEnd lane header low high s) := by
  simp [execFrameEnd]

@[simp] theorem execLineDeadline_keepsFuses (plane line s) : NextKeepsFuses s (execLineDeadline plane line s) := by
  unfold execLineDeadline
  split <;> simp

@[simp] theorem toBuffered_keepsFuses (cause s) : KeepsFuses s (toBuffered cause s) := by simp [toBuffered]
@[simp] theorem sourceSleeps_keepsFuses (s) : KeepsFuses s (sourceSleeps s) := by simp [sourceSleeps]

@[simp] theorem execHwlSleepBlock_keepsFuses (b s) : NextKeepsFuses s (execHwlSleepBlock b s) := by
  simp [execHwlSleepBlock]

@[simp] theorem execHwlWakeBlock_keepsFuses (b s) : NextKeepsFuses s (execHwlWakeBlock b s) := by
  simp [execHwlWakeBlock]

@[simp] theorem freezeIfDue_keepsFuses (s) : KeepsFuses s (freezeIfDue s) := by simp [freezeIfDue]
@[simp] theorem execSilenceCheck_keepsFuses (s) : NextKeepsFuses s (execSilenceCheck s) := by simp [execSilenceCheck]
@[simp] theorem execFreeze_keepsFuses (s) : NextKeepsFuses s (execFreeze s) := by simp [execFreeze]
@[simp] theorem execFreezeTimeout_keepsFuses (s) : NextKeepsFuses s (execFreezeTimeout s) := by simp [execFreezeTimeout]

/-! ### Commands of the compositor -/

@[simp] theorem execSetBackground_keepsFuses (port sq seq s) : NextKeepsFuses s (execSetBackground port sq seq s) := by
  simp [execSetBackground]

@[simp] theorem execLayerConfig_keepsFuses (port sq seq s) : NextKeepsFuses s (execLayerConfig port sq seq s) := by
  simp [execLayerConfig]

@[simp] theorem execLayerFlip_keepsFuses (port sq seq s) : NextKeepsFuses s (execLayerFlip port sq seq s) := by
  simp [execLayerFlip]

@[simp] theorem execLayerEnable_keepsFuses (port sq seq s) : NextKeepsFuses s (execLayerEnable port sq seq s) := by
  simp [execLayerEnable]

@[simp] theorem execLayerMatrix_keepsFuses (port sq seq s) : NextKeepsFuses s (execLayerMatrix port sq seq s) := by
  simp [execLayerMatrix]

@[simp] theorem execTableActivateC_keepsFuses (port sq seq s) : NextKeepsFuses s (execTableActivateC port sq seq s) := by
  simp [execTableActivateC]

@[simp] theorem execSnapshotFetchDone_keepsFuses (port sq seq data s) :
    NextKeepsFuses s (execSnapshotFetchDone port sq seq data s) := by
  unfold execSnapshotFetchDone
  (repeat' split) <;> simp

@[simp] theorem execLiveFetchDone_keepsFuses (layer plane line forNext bytes s) :
    NextKeepsFuses s (execLiveFetchDone layer plane line forNext bytes s) := by
  unfold execLiveFetchDone
  dsimp only
  (repeat' split) <;> simp

@[simp] theorem judgeUnderruns_keepsFuses (y s) : KeepsFuses s (judgeUnderruns y s) := by simp [judgeUnderruns]

@[simp] theorem timelineEvent_keepsFuses (mode cause d s) : KeepsFuses s (timelineEvent mode cause d s) := by
  simp [timelineEvent]

@[simp] theorem runLine_keepsFuses (y s) : KeepsFuses s (runLine y s) := by simp [runLine]

@[simp] theorem supplyH1_keepsFuses (distances s) : KeepsFuses s (supplyH1 distances s).2 := by
  unfold supplyH1
  dsimp only
  (repeat' split) <;> simp

@[simp] theorem execCompositionFrameStart_keepsFuses (distances s) :
    NextKeepsFuses s (execCompositionFrameStart distances s) := by
  unfold execCompositionFrameStart
  split <;> simp

@[simp] theorem execLatchInstant_keepsFuses (s) : NextKeepsFuses s (execLatchInstant s) := by
  unfold execLatchInstant
  split
  · split <;> simp
  · simp

/-! ### Raster geometry and windows -/

@[simp] theorem followGeometry_keepsFuses (s) : KeepsFuses s (followGeometry s) := by simp [followGeometry]
@[simp] theorem setLock_keepsFuses (l s) : KeepsFuses s (setLock l s) := by simp [setLock]

@[simp] theorem setHouseOffset_keepsFuses (j s) : KeepsFuses s (setHouseOffset j s) := by
  unfold setHouseOffset
  split <;> simp

@[simp] theorem goLock_keepsFuses (new e j s) : KeepsFuses s (goLock new e j s) := by simp [goLock]
@[simp] theorem judgeCrash_keepsFuses (e s) : KeepsFuses s (judgeCrash e s) := by simp [judgeCrash]
@[simp] theorem loopStep_keepsFuses (e s) : KeepsFuses s (loopStep e s) := by simp [loopStep]
@[simp] theorem holdCorrection_keepsFuses (ns s) : KeepsFuses s (holdCorrection ns s) := by simp [holdCorrection]
@[simp] theorem reportPhase_keepsFuses (e j s) : KeepsFuses s (reportPhase e j s) := by simp [reportPhase]
@[simp] theorem acceptEdge_keepsFuses (since step s) : KeepsFuses s (acceptEdge since step s) := by simp [acceptEdge]
@[simp] theorem refEvent_keepsFuses (code input s) : KeepsFuses s (refEvent code input s) := by simp [refEvent]

@[simp] theorem execRefFrameEdge_keepsFuses (gap since s) : NextKeepsFuses s (execRefFrameEdge gap since s) := by
  unfold execRefFrameEdge
  dsimp only
  (repeat' split) <;> simp [recordGap]

@[simp] theorem execRefFrameLost_keepsFuses (s) : NextKeepsFuses s (execRefFrameLost s) := by simp [execRefFrameLost]
@[simp] theorem execRef10mPresent_keepsFuses (s) : NextKeepsFuses s (execRef10mPresent s) := by simp [execRef10mPresent]
@[simp] theorem execRef10mLost_keepsFuses (s) : NextKeepsFuses s (execRef10mLost s) := by simp [execRef10mLost]

@[simp] theorem execRefTodMessage_keepsFuses (msg afterMs s) : NextKeepsFuses s (execRefTodMessage msg afterMs s) := by
  unfold execRefTodMessage
  (repeat' split) <;> simp

@[simp] theorem execRefPpsEdge_keepsFuses (s) : NextKeepsFuses s (execRefPpsEdge s) := by
  unfold execRefPpsEdge
  dsimp only
  (repeat' split) <;> simp

@[simp] theorem execRefPpsLost_keepsFuses (s) : NextKeepsFuses s (execRefPpsLost s) := by simp [execRefPpsLost]
@[simp] theorem restartLock_keepsFuses (old s) : KeepsFuses s (restartLock old s) := by simp [restartLock]
@[simp] theorem effectTimeLock_keepsFuses (d s) : KeepsFuses s (effectTimeLock d s) := by simp [effectTimeLock]

@[simp] theorem execTimeStamp_keepsFuses (port sq seq s) : NextKeepsFuses s (execTimeStamp port sq seq s) := by
  refine withReady_keepsFuses (fun d => ?_)
  dsimp only
  split <;> simp

@[simp] theorem execTimeSet_keepsFuses (port sq seq s) : NextKeepsFuses s (execTimeSet port sq seq s) := by simp [execTimeSet]
@[simp] theorem answerRead_keepsFuses (port off v s) : KeepsFuses s (answerRead port off v s) := by simp [answerRead]
@[simp] theorem captureRead_keepsFuses (port lo hi v s) : NextKeepsFuses s (captureRead port lo hi v s) := by simp [captureRead]

@[simp] theorem execRastSfnLoRead_keepsFuses (port s) : NextKeepsFuses s (execRastSfnLoRead port s) := by
  simp [execRastSfnLoRead]

@[simp] theorem execRastCfnLoRead_keepsFuses (port s) : NextKeepsFuses s (execRastCfnLoRead port s) := by
  simp [execRastCfnLoRead]

@[simp] theorem execHfnOffsetLoRead_keepsFuses (port s) : NextKeepsFuses s (execHfnOffsetLoRead port s) := by
  simp [execHfnOffsetLoRead]

@[simp] theorem execRastTimeNsRead_keepsFuses (port s) : NextKeepsFuses s (execRastTimeNsRead port s) := by
  simp [execRastTimeNsRead]

/-! ### The raster -/

@[simp] theorem followWindow_keepsFuses (s) : KeepsFuses s (followWindow s) := by simp [followWindow]
@[simp] theorem loadRoles_keepsFuses (old mask s) : KeepsFuses s (loadRoles old mask s) := by simp [loadRoles]
@[simp] theorem setRoles_keepsFuses (mask s) : KeepsFuses s (setRoles mask s) := by simp [setRoles]
@[simp] theorem changeMode_keepsFuses (mode cause s) : KeepsFuses s (changeMode mode cause s) := by simp [changeMode]
@[simp] theorem offSegments_keepsFuses (s) : KeepsFuses s (offSegments s) := by simp [offSegments]
@[simp] theorem applyPanel_keepsFuses (p s) : KeepsFuses s (applyPanel p s) := by simp [applyPanel, setFloor]

@[simp] theorem execSetPanel_keepsFuses (port sq seq s) : NextKeepsFuses s (execSetPanel port sq seq s) := by
  simp [execSetPanel]

@[simp] theorem setTimeline_keepsFuses (mode auto lag s) : KeepsFuses s (setTimeline mode auto lag s) := by simp [setTimeline]

@[simp] theorem execRastCtrlTimelineWrite_keepsFuses (port val s) :
    NextKeepsFuses s (execRastCtrlTimelineWrite port val s) := by
  simp [execRastCtrlTimelineWrite]

@[simp] theorem execRastGeomWrite_keepsFuses (port val s) : NextKeepsFuses s (execRastGeomWrite port val s) := by
  simp [execRastGeomWrite]

@[simp] theorem execRastLagWrite_keepsFuses (port val s) : NextKeepsFuses s (execRastLagWrite port val s) := by
  unfold execRastLagWrite
  dsimp only
  split_ifs <;> simp [writeRearLead]

@[simp] theorem execPipeFmtWrite_keepsFuses (port val s) : NextKeepsFuses s (execPipeFmtWrite port val s) := by
  simp [execPipeFmtWrite]

@[simp] theorem followGovernor_keepsFuses (s) : KeepsFuses s (followGovernor s) := by simp [followGovernor]

@[simp] theorem execEngCtrlRearRoleWrite_keepsFuses (port val s) : NextKeepsFuses s (execEngCtrlRearRoleWrite port val s) := by
  simp [execEngCtrlRearRoleWrite]

@[simp] theorem setRaster_keepsFuses (r s) : KeepsFuses s (setRaster r s) := by simp [setRaster]
@[simp] theorem trainForRaster_keepsFuses (link s) : KeepsFuses s (trainForRaster link s) := by simp [trainForRaster]
@[simp] theorem beginEnable_keepsFuses (who s) : KeepsFuses s (beginEnable who s) := by simp [beginEnable]
@[simp] theorem backlightOff_keepsFuses (s) : KeepsFuses s (backlightOff s) := by simp [backlightOff]
@[simp] theorem beginReverse_keepsFuses (who s) : KeepsFuses s (beginReverse who s) := by simp [beginReverse]
@[simp] theorem serveRaster_keepsFuses (d s) : KeepsFuses s (serveRaster d s) := by simp [serveRaster, checkRates, beginReverse]

@[simp] theorem serveQueue_keepsFuses (fuel s) : KeepsFuses s (serveQueue fuel s) := by
  induction fuel generalizing s with
  | zero => simp [serveQueue]
  | succ fuel ih =>
    unfold serveQueue
    split
    · simp
    · split
      · simp
      · split
        · simp
        · dsimp only
          split <;> simp [ih]

@[simp] theorem endSequence_keepsFuses (s) : KeepsFuses s (endSequence s) := by
  unfold endSequence
  dsimp only
  split <;> simp

@[simp] theorem execRasterEnable_keepsFuses (port sq seq s) : NextKeepsFuses s (execRasterEnable port sq seq s) := by
  simp [execRasterEnable]

@[simp] theorem finishFalling_keepsFuses (s) : KeepsFuses s (finishFalling s) := by
  unfold finishFalling
  split <;> simp

@[simp] theorem endBlack_keepsFuses (s) : KeepsFuses s (endBlack s) := by simp [endBlack]

@[simp] theorem execPanelPowerStep_keepsFuses (s) : NextKeepsFuses s (execPanelPowerStep s) := by
  unfold execPanelPowerStep
  (repeat' split) <;> simp

@[simp] theorem gtoRun_keepsFuses (l k len s n) : KeepsFuses s (gtoRun l k len s n) := by simp [gtoRun]

@[simp] theorem syncPulse_keepsFuses (y len s) : KeepsFuses s (syncPulse y len s) := by
  unfold syncPulse
  split <;> simp

@[simp] theorem execScanLineStart_keepsFuses (s) : NextKeepsFuses s (execScanLineStart s) := by simp [execScanLineStart]

/-! ### The panel pipeline of a tile -/

@[simp] theorem storeIdleFrame_keepsFuses (s) : KeepsFuses s (storeIdleFrame s) := by simp [storeIdleFrame]

@[simp] theorem takeIdleHistory_keepsFuses (s) : KeepsFuses s (takeIdleHistory s) := by
  unfold takeIdleHistory
  split <;> simp

/-! ### Rectangles of check point DRIVE, and the end of a rectangle's computation -/

@[simp] theorem computeDrive_keepsFuses (n s r) : KeepsFuses s (computeDrive n s r) := by simp [computeDrive]
@[simp] theorem idleDrives_keepsFuses (n s) : KeepsFuses s (idleDrives n s) := by simp [idleDrives]

@[simp] theorem execCheckFrameComputed_keepsFuses (rect s) : NextKeepsFuses s (execCheckFrameComputed rect s) := by
  simp [execCheckFrameComputed]

/-! ### The unit state table -/

@[simp] theorem writeUnit_keepsFuses (u st s) : KeepsFuses s (writeUnit u st s) := by simp [writeUnit]

@[simp] theorem execUnitStateUpdate_keepsFuses (unit s) : NextKeepsFuses s (execUnitStateUpdate unit s) := by
  unfold execUnitStateUpdate
  split <;> simp

/-! ### The Eddy array around its engines -/

@[simp] theorem tellFallen_keepsFuses (s) : KeepsFuses s (tellFallen s) := by simp [tellFallen]

@[simp] theorem refuseEnables_keepsFuses (u s) : KeepsFuses s (refuseEnables u s) := by
  unfold refuseEnables
  refine foldl_keepsFuses _ (fun s a => ?_) _ _
  split <;> simp

@[simp] theorem fenceClocks_keepsFuses (q s) : KeepsFuses s (fenceClocks q s) := by simp [fenceClocks]
@[simp] theorem fenceQuadrant_keepsFuses (q cause s) : KeepsFuses s (fenceQuadrant q cause s) := by simp [fenceQuadrant]

@[simp] theorem startJob_keepsFuses (role j n s) : KeepsFuses s (startJob role j n s) := by
  unfold startJob
  dsimp only
  split <;> simp

@[simp] theorem dispatchTile_keepsFuses (cell tc tr next shown s) : KeepsFuses s (dispatchTile cell tc tr next shown s) := by
  unfold dispatchTile
  dsimp only
  split_ifs <;> simp

@[simp] theorem execTileDispatch_keepsFuses (cell tc tr next cfn s) :
    NextKeepsFuses s (execTileDispatch cell tc tr next cfn s) := by
  simp [execTileDispatch, dispatchFrame]

@[simp] theorem discardJob_keepsFuses (j s) : KeepsFuses s (discardJob j s) := by simp [discardJob]

@[simp] theorem retireJob_keepsFuses (j s) : KeepsFuses s (retireJob j s) := by
  unfold retireJob
  dsimp only
  split <;> simp

@[simp] theorem execTileRetire_keepsFuses (cell tc tr s) : NextKeepsFuses s (execTileRetire cell tc tr s) := by
  unfold execTileRetire
  split
  · simp
  · split_ifs <;> simp

@[simp] theorem execTileDeadline_keepsFuses (cell tc tr next s) : NextKeepsFuses s (execTileDeadline cell tc tr next s) := by
  unfold execTileDeadline
  dsimp only
  (repeat' split) <;> simp

@[simp] theorem execStage6Deadline_keepsFuses (s) : NextKeepsFuses s (execStage6Deadline s) := by
  unfold execStage6Deadline
  (repeat' split) <;> simp

@[simp] theorem execDeadlineWarning_keepsFuses (cell tc tr s) : NextKeepsFuses s (execDeadlineWarning cell tc tr s) := by
  unfold execDeadlineWarning
  split <;> simp

@[simp] theorem execMaxCyclesExpiry_keepsFuses (engine s) : NextKeepsFuses s (execMaxCyclesExpiry engine s) := by
  simp [execMaxCyclesExpiry]

@[simp] theorem enableCluster_keepsFuses (c s) : KeepsFuses s (enableCluster c s) := by simp [enableCluster]
@[simp] theorem spoilWords_keepsFuses (c flips s) : KeepsFuses s (spoilWords c flips s) := by simp [spoilWords]

@[simp] theorem execPatrolVisit_keepsFuses (c aborted bits word spad priv s) :
    NextKeepsFuses s (execPatrolVisit c aborted bits word spad priv s) := by
  simp [execPatrolVisit, failPass]

/-! ### The backlight link -/

@[simp] theorem noteStrobe_keepsFuses (k onRow offRow s) : KeepsFuses s (noteStrobe k onRow offRow s) := by simp [noteStrobe]
@[simp] theorem spiFrame_keepsFuses (k bytes s) : KeepsFuses s (spiFrame k bytes s) := by simp [spiFrame]

@[simp] theorem execBklStrobe_keepsFuses (controller onRow offRow s) :
    NextKeepsFuses s (execBklStrobe controller onRow offRow s) := by
  simp [execBklStrobe]

@[simp] theorem execZoneData_keepsFuses (controller row frame fits s) :
    NextKeepsFuses s (execZoneData controller row frame fits s) := by
  unfold execZoneData
  split <;> simp

@[simp] theorem execBklStatus_keepsFuses (controller status crc s) :
    NextKeepsFuses s (execBklStatus controller status crc s) := by
  simp [execBklStatus]

@[simp] theorem execBklStatsSfnLoRead_keepsFuses (port s) : NextKeepsFuses s (execBklStatsSfnLoRead port s) := by
  simp [execBklStatsSfnLoRead]

@[simp] theorem readSensor_keepsFuses (n r s) : KeepsFuses s (readSensor n r s) := by
  unfold readSensor
  split <;> simp [setSensorValid]

@[simp] theorem followTemp_keepsFuses (s) : KeepsFuses s (followTemp s) := by
  unfold followTemp
  split <;> simp

@[simp] theorem execPanelTempPoll_keepsFuses (reads s) : NextKeepsFuses s (execPanelTempPoll reads s) := by
  simp [execPanelTempPoll]

/-! ### Error correction of the scratchpads and the memories of the engines -/

@[simp] theorem completeJob_keepsFuses (j s) : KeepsFuses s (completeJob j s) := by simp [completeJob, noteSlack]

@[simp] theorem execTileComplete_keepsFuses (cell tc tr s) : NextKeepsFuses s (execTileComplete cell tc tr s) := by
  unfold execTileComplete
  (repeat' split) <;> simp

@[simp] theorem scrubEngine_keepsFuses (s e) : KeepsFuses s (scrubEngine s e) := by simp [scrubEngine]

@[simp] theorem scrubPrivate_keepsFuses (s) : KeepsFuses s (scrubPrivate s) := by
  simp [scrubPrivate]

/-! ### The Eddy engine -/

@[simp] theorem finishRequest_keepsFuses (c r s) : KeepsFuses s (finishRequest c r s) := by simp [finishRequest]
@[simp] theorem moverWrites_keepsFuses (c r s) : KeepsFuses s (moverWrites c r s) := by simp [moverWrites]

@[simp] theorem startFetched_keepsFuses (e s) : KeepsFuses s (startFetched e s) := by
  unfold startFetched
  split
  · split <;> simp
  · simp

@[simp] theorem execMoverRequestDone_keepsFuses (cluster s) : NextKeepsFuses s (execMoverRequestDone cluster s) := by
  unfold execMoverRequestDone
  split <;> simp [finishFetch]

@[simp] theorem execMoverStarve_keepsFuses (cluster i cycles s) : NextKeepsFuses s (execMoverStarve cluster i cycles s) := by
  unfold execMoverStarve
  dsimp only
  split <;> simp

@[simp] theorem execHandlerEntry_keepsFuses (engine s) : NextKeepsFuses s (execHandlerEntry engine s) := by
  unfold execHandlerEntry
  dsimp only
  (repeat' split) <;> simp

@[simp] theorem execBarrierRelease_keepsFuses (engine s) : NextKeepsFuses s (execBarrierRelease engine s) := by
  unfold execBarrierRelease
  split <;> simp

@[simp] theorem execWaitRelease_keepsFuses (engine s) : NextKeepsFuses s (execWaitRelease engine s) := by
  unfold execWaitRelease
  dsimp only
  split <;> simp

@[simp] theorem endJobStage_keepsFuses (j s) : KeepsFuses s (endJobStage j s) := by
  unfold endJobStage
  split <;> simp

@[simp] theorem execStageEnd_keepsFuses (engine s) : NextKeepsFuses s (execStageEnd engine s) := by
  unfold execStageEnd
  split <;> simp

@[simp] theorem execInstructionUndefined_keepsFuses (engine s) : NextKeepsFuses s (execInstructionUndefined engine s) := by
  unfold execInstructionUndefined
  split
  · simp
  · simp
  · split <;> simp

/-! ### What every store operation shares -/

@[simp] theorem setStore_keepsFuses (v s) : KeepsFuses s (setStore v s) := by simp [setStore]

@[simp] theorem sendNvme_keepsFuses (queue op lba lbas data use s) : KeepsFuses s (sendNvme queue op lba lbas data use s) := by
  simp [sendNvme]

@[simp] theorem sendHeld_keepsFuses (done cmds s) : KeepsFuses s (sendHeld done cmds s) := by
  induction cmds generalizing done s with
  | nil => simp [sendHeld]
  | cons c cmds ih =>
    unfold sendHeld
    split <;> simp [ih]

@[simp] theorem sendAdmin_keepsFuses (op arg s) : KeepsFuses s (sendAdmin op arg s) := by simp [sendAdmin]
@[simp] theorem nvRead_keepsFuses (queue lba lbas use s) : KeepsFuses s (nvRead queue lba lbas use s) := by simp [nvRead]
@[simp] theorem nvWrite_keepsFuses (lba data use s) : KeepsFuses s (nvWrite lba data use s) := by simp [nvWrite]
@[simp] theorem nvFlush_keepsFuses (use s) : KeepsFuses s (nvFlush use s) := by simp [nvFlush]
@[simp] theorem followStore_keepsFuses (s) : KeepsFuses s (followStore s) := by simp [followStore]

@[simp] theorem endDsc_keepsFuses (w st res s) : KeepsFuses s (endDsc w st res s) := by
  unfold endDsc
  split <;> simp

@[simp] theorem nvFailEnd_keepsFuses (f w s) : KeepsFuses s (NvFail.end_ f w s) := by
  unfold NvFail.end_
  split <;> simp

/-! ### The codec lanes -/

@[simp] theorem setCdc_keepsFuses (n l s) : KeepsFuses s (setCdc n l s) := by simp [setCdc]
@[simp] theorem endBuf_keepsFuses (s e) : KeepsFuses s (endBuf s e) := by simp [endBuf]

@[simp] theorem closeBuf_keepsFuses (n b st s) : KeepsFuses s (closeBuf n b st s) := by
  unfold closeBuf
  dsimp only
  split
  · split <;> simp
  · simp

@[simp] theorem followJob_keepsFuses (n s) : KeepsFuses s (followJob n s) := by
  unfold followJob
  split <;> simp

@[simp] theorem endJob_keepsFuses (n abort st res s) : KeepsFuses s (endJob n abort st res s) := by
  unfold endJob
  dsimp only
  split <;> simp

@[simp] theorem followEnd_keepsFuses (n s) : KeepsFuses s (followEnd n s) := by
  unfold followEnd
  split <;> simp

@[simp] theorem pauseJob_keepsFuses (n bytes s) : KeepsFuses s (pauseJob n bytes s) := by
  simp [pauseJob]

@[simp] theorem placeBlock_keepsFuses (n bytes fuel s) : KeepsFuses s (placeBlock n bytes fuel s) := by
  induction fuel generalizing s with
  | zero => simp [placeBlock]
  | succ fuel ih =>
    unfold placeBlock
    dsimp only
    split
    · simp
    · simp
    · split <;> simp [ih]

@[simp] theorem fetchInput_keepsFuses (n s) : KeepsFuses s (fetchInput n s) := by
  unfold fetchInput
  split <;> simp

@[simp] theorem giveBlock_keepsFuses (n bytes s) : KeepsFuses s (giveBlock n bytes s) := by
  simp [giveBlock]

@[simp] theorem beginJob_keepsFuses (n d s) : KeepsFuses s (beginJob n d s) := by simp [beginJob]

@[simp] theorem execCodecJob_keepsFuses (port sq seq s) : NextKeepsFuses s (execCodecJob port sq seq s) := by
  simp [execCodecJob, startAt]

@[simp] theorem execCodecOutBuf_keepsFuses (port sq seq s) : NextKeepsFuses s (execCodecOutBuf port sq seq s) := by
  refine withReady_keepsFuses (fun d => ?_)
  dsimp only
  split <;> simp

@[simp] theorem cancelLane_keepsFuses (n s) : KeepsFuses s (cancelLane n s) := by
  unfold cancelLane
  dsimp only
  split <;> simp

@[simp] theorem execCodecCancel_keepsFuses (port sq seq s) : NextKeepsFuses s (execCodecCancel port sq seq s) := by
  simp [execCodecCancel]

@[simp] theorem inputRead_keepsFuses (n k j s) : KeepsFuses s (inputRead n k j s) := by simp [inputRead]

@[simp] theorem produced_keepsFuses (n used j bytes coded d short s) :
    KeepsFuses s (produced n used j bytes coded d short s) := by
  simp [produced]

@[simp] theorem compressBlock_keepsFuses (n j input s) : KeepsFuses s (compressBlock n j input s) := by simp [compressBlock]

@[simp] theorem decompressBlock_keepsFuses (n j input s) : KeepsFuses s (decompressBlock n j input s) := by
  unfold decompressBlock
  split
  · simp
  · split <;> simp

@[simp] theorem execCodecBlockDone_keepsFuses (lane bytes s) : NextKeepsFuses s (execCodecBlockDone lane bytes s) := by
  unfold execCodecBlockDone
  (repeat' split) <;> simp

@[simp] theorem failCodec_keepsFuses (n f s) : KeepsFuses s (failCodec n f s) := by
  unfold failCodec
  split <;> simp

/-! ### What a composition line start measures -/

@[simp] theorem redoTiles_keepsFuses (l s) : KeepsFuses s (redoTiles l s) := by simp [redoTiles]
@[simp] theorem leaveLocked_keepsFuses (d s) : KeepsFuses s (leaveLocked d s) := by simp [leaveLocked, discardAll]
@[simp] theorem measure_keepsFuses (judged broken d s) : KeepsFuses s (measure judged broken d s) := by simp [measure]
@[simp] theorem noteRow_keepsFuses (y s) : KeepsFuses s (noteRow y s) := by simp [noteRow]

/-! ### Tables and kernels -/

theorem allocTables_keepsFuses {ts s t} (h : allocTables ts s = some t) : KeepsFuses s t := by
  induction ts generalizing s with
  | nil => simp [← Option.some.inj h]
  | cons e ts ih =>
    obtain ⟨u, hu, ht⟩ := Option.bind_eq_some_iff.1 h
    refine KeepsFuses.trans ?_ (ih ht)
    split at hu
    · exact alloc_keepsFuses hu
    · exact allocTwice_keepsFuses hu

@[simp] theorem stageTable_keepsFuses (s e) : KeepsFuses s (stageTable s e) := by
  simp [stageTable]

@[simp] theorem measureTables_keepsFuses (d s) : KeepsFuses s (measureTables d s) := by
  simp [measureTables]

@[simp] theorem measureKernels_keepsFuses (d s) : KeepsFuses s (measureKernels d s) := by
  simp [measureKernels]

@[simp] theorem newHandle_keepsFuses (s) : KeepsFuses s (newHandle s).2 := by simp [newHandle]
@[simp] theorem dropLoad_keepsFuses (w s) : KeepsFuses s (dropLoad w s) := by simp [dropLoad]
@[simp] theorem beginLoad_keepsFuses (d s) : KeepsFuses s (beginLoad d s) := by simp [beginLoad]

@[simp] theorem execTableLoad_keepsFuses (port sq seq s) : NextKeepsFuses s (execTableLoad port sq seq s) := by
  simp [execTableLoad]

@[simp] theorem execKernelLoad_keepsFuses (port sq seq s) : NextKeepsFuses s (execKernelLoad port sq seq s) := by
  simp [execKernelLoad]

@[simp] theorem execTableDrop_keepsFuses (port sq seq s) : NextKeepsFuses s (execTableDrop port sq seq s) := by
  simp [execTableDrop]

@[simp] theorem execKernelUnload_keepsFuses (port sq seq s) : NextKeepsFuses s (execKernelUnload port sq seq s) := by
  simp [execKernelUnload]

@[simp] theorem followDefects_keepsFuses (s) : KeepsFuses s (followDefects s) := by simp [followDefects]

@[simp] theorem activateDefault_keepsFuses (id t s) : KeepsFuses s (activateDefault id t s) := by
  unfold activateDefault
  dsimp only
  split <;> simp

@[simp] theorem activateS_keepsFuses (id s) : KeepsFuses s (activateS id s) := by simp [activateS]
@[simp] theorem clearAreas_keepsFuses (cell stage s) : KeepsFuses s (clearAreas cell stage s) := by simp [clearAreas]
@[simp] theorem setArea_keepsFuses (cell stage a s) : KeepsFuses s (setArea cell stage a s) := by simp [setArea]

theorem foldl_fst_keepsFuses {α β : Type} (f : State × β → α → State × β) (h : ∀ e a, KeepsFuses e.1 (f e a).1) :
    ∀ (l : List α) (e : State × β), KeepsFuses e.1 (l.foldl f e).1
  | [], _ => ⟨rfl, rfl⟩
  | a :: l, e => (h e a).trans (foldl_fst_keepsFuses f h l (f e a))

@[simp] theorem repack_keepsFuses (cell s) : KeepsFuses s (repack cell s) :=
  foldl_fst_keepsFuses _ (fun _ _ => by simp) _ (s, 0, 0)

@[simp] theorem placeKernel_keepsFuses (cell stage s) : KeepsFuses s (placeKernel cell stage s) := by simp [placeKernel]

@[simp] theorem bindKernel_keepsFuses (cell stage handle param s) : KeepsFuses s (bindKernel cell stage handle param s) := by
  simp [bindKernel, undegrade]

@[simp] theorem bindReference_keepsFuses (s e) : KeepsFuses s (bindReference s e) := by simp [bindReference]

/-! ### The hold library -/

@[simp] theorem setHold_keepsFuses (v s) : KeepsFuses s (setHold v s) := by simp [setHold]
@[simp] theorem followHold_keepsFuses (s) : KeepsFuses s (followHold s) := by simp [followHold]
@[simp] theorem itemMissing_keepsFuses (item s) : KeepsFuses s (itemMissing item s) := by simp [itemMissing]

@[simp] theorem beginStage_keepsFuses (item who s) : KeepsFuses s (beginStage item who s) := by
  unfold beginStage
  split <;> simp

@[simp] theorem endStage_keepsFuses (item ok) {f : Nat × Nat × Nat → State → State} (hf : ∀ w s, KeepsFuses s (f w s)) (s) :
    KeepsFuses s (endStage item ok f s) := by
  simp [endStage, hf]

@[simp] theorem refuseStage_keepsFuses (item s) : KeepsFuses s (refuseStage item s) := by
  simp [refuseStage]

@[simp] theorem execHoldStage_keepsFuses (port sq seq s) : NextKeepsFuses s (execHoldStage port sq seq s) := by
  simp [execHoldStage]

@[simp] theorem holdTableRead_keepsFuses (item bs s) : KeepsFuses s (holdTableRead item bs s) := by simp [holdTableRead]
@[simp] theorem holdItemRead_keepsFuses (item lba bs s) : KeepsFuses s (holdItemRead item lba bs s) := by simp [holdItemRead]

@[simp] theorem execHoldStageDone_keepsFuses (item s) : NextKeepsFuses s (execHoldStageDone item s) := by
  obtain ⟨alloc', halloc⟩ : ∃ f, f = alloc := ⟨_, rfl⟩
  unfold execHoldStageDone
  rw [← halloc]
  dsimp only
  split
  · simp
  · split
    · simp
    · split
      · simp
      · next t h =>
        split
        · simp
        · exact nextKeepsFuses_next.2 ((alloc_keepsFuses (halloc ▸ h)).trans (by simp))

@[simp] theorem execHoldPolicy_keepsFuses (port sq seq s) : NextKeepsFuses s (execHoldPolicy port sq seq s) := by
  simp [execHoldPolicy, beginBackground]

@[simp] theorem execHoldEvict_keepsFuses (port sq seq s) : NextKeepsFuses s (execHoldEvict port sq seq s) := by
  simp [execHoldEvict]

/-! ### Port resets -/

@[simp] theorem loseLayer_keepsFuses (p s n) : KeepsFuses s (loseLayer p s n) := by simp [loseLayer]

@[simp] theorem loseFetch_keepsFuses (p s n) : KeepsFuses s (loseFetch p s n) := by
  unfold loseFetch
  split <;> simp

@[simp] theorem loseChecks_keepsFuses (p s r) : KeepsFuses s (loseChecks p s r) := by simp [loseChecks]
@[simp] theorem loseBinds_keepsFuses (p s) : KeepsFuses s (loseBinds p s) := by simp [loseBinds]

@[simp] theorem secGone_keepsFuse (v : SecState) (p : Nat) : (v.gone p).fuse.map Prod.fst = v.fuse.map Prod.fst := by
  cases h : v.fuse <;> simp [SecState.gone, h]

@[simp] theorem dropPort_keepsFuses (p s) : KeepsFuses s (dropPort p s) := by
  simp [dropPort]

@[simp] theorem abortPort_keepsFuses (p keep s) : KeepsFuses s (abortPort p keep s) := by simp [abortPort]

@[simp] theorem execPortReset_keepsFuses (port cause s) : NextKeepsFuses s (execPortReset port cause s) := by
  simp [execPortReset]

@[simp] theorem execHostLinkUp_keepsFuses (port s) : NextKeepsFuses s (execHostLinkUp port s) := by simp [execHostLinkUp]

/-! ### The power sequencer -/

@[simp] theorem writeLog_keepsFuses (s) : KeepsFuses s (writeLog s) := by simp [writeLog]
@[simp] theorem mergeLog_keepsFuses (count bs s) : KeepsFuses s (mergeLog count bs s) := by simp [mergeLog]

@[simp] theorem endTransition_keepsFuses (target reached unit st replayed s) :
    KeepsFuses s (endTransition target reached unit st replayed s) := by
  simp [endTransition]

@[simp] theorem postState_keepsFuses (old new cause who s) : KeepsFuses s (postState old new cause who s) := by simp [postState]

@[simp] theorem endRequest_keepsFuses (d st res s) : KeepsFuses s (endRequest d st res s) := by
  unfold endRequest
  split <;> simp

@[simp] theorem goOnShutting_keepsFuses (s) : KeepsFuses s (goOnShutting s) := by simp [goOnShutting]

@[simp] theorem beginShutdown_keepsFuses (s) : KeepsFuses s (beginShutdown s) := by
  simp [beginShutdown]

@[simp] theorem askForEntry_keepsFuses (u s) : KeepsFuses s (askForEntry u s) := by
  simp [askForEntry]

@[simp] theorem stopHeadwater_keepsFuses (s) : KeepsFuses s (stopHeadwater s) := by simp [stopHeadwater]
@[simp] theorem stopSluice_keepsFuses (s) : KeepsFuses s (stopSluice s) := by simp [stopSluice]
@[simp] theorem stopQuadrant_keepsFuses (q s) : KeepsFuses s (stopQuadrant q s) := by simp [stopQuadrant]
@[simp] theorem storeShut_keepsFuses (s) : KeepsFuses s (storeShut s) := by simp [storeShut]

@[simp] theorem stopComposition_keepsFuses (s) : KeepsFuses s (stopComposition s) := by
  unfold stopComposition
  split <;> simp

@[simp] theorem quiesce_keepsFuses (e u s) : KeepsFuses s (quiesce e u s) := by simp [quiesce]

@[simp] theorem railsFor_keepsFuses (st s) : KeepsFuses s (railsFor st s) := by
  unfold railsFor
  split <;> simp

@[simp] theorem dropPorts_keepsFuses (s) : KeepsFuses s (dropPorts s) := by
  simp [dropPorts]

@[simp] theorem showIdle_keepsFuses (s) : KeepsFuses s (showIdle s) := by
  simp [showIdle]

@[simp] theorem askNext_keepsFuses (fuel s) : KeepsFuses s (askNext fuel s) := by
  induction fuel generalizing s with
  | zero => simp [askNext]
  | succ fuel ih =>
    unfold askNext
    split
    · simp
    · split
      · simp
      · split <;> simp [ih]

@[simp] theorem beginEntry_keepsFuses (r s) : KeepsFuses s (beginEntry r s) := by
  simp [beginEntry]

@[simp] theorem supersede_keepsFuses (r s) : KeepsFuses s (supersede r s) := by
  unfold supersede
  dsimp only
  split <;> simp

@[simp] theorem bringUpHeadwater_keepsFuses (s) : KeepsFuses s (bringUpHeadwater s) := by simp [bringUpHeadwater]
@[simp] theorem bringUpSluice_keepsFuses (s) : KeepsFuses s (bringUpSluice s) := by simp [bringUpSluice]
@[simp] theorem resumeSilence_keepsFuses (s) : KeepsFuses s (resumeSilence s) := by simp [resumeSilence]
@[simp] theorem remount_keepsFuses (s) : KeepsFuses s (remount s) := by simp [remount]
@[simp] theorem restartUnit_keepsFuses (s u) : KeepsFuses s (restartUnit s u) := by simp [restartUnit]

/-- What resuming does first, and then, as the raster was on or off. The record's change is proved of any state: of this one the
kernel would evaluate what went before. -/
theorem resume_branches (s : State) : ∃ t, KeepsFuses s t ∧ resume s =
    if t.power.rasterOn then beginEnable none t else serveQueue (t.raster.queue.length + 1) (bringUpSluice t) := by
  have hrecord : ∀ u : State, KeepsFuses u
      { u with boot := { u.boot with perstN := some false }, pipe := { u.pipe with histAge := 0 } } := fun _ => ⟨rfl, rfl⟩
  refine ⟨_, KeepsFuses.trans ?_ (hrecord _), rfl⟩
  simp

@[simp] theorem resume_keepsFuses (s) : KeepsFuses s (resume s) := by
  obtain ⟨t, ht, hresume⟩ := resume_branches s
  rw [hresume]
  refine ht.trans ?_
  split <;> simp
/-! ### S opcodes -/

@[simp] theorem startPlay_keepsFuses (p s) : KeepsFuses s (startPlay p s) := by simp [startPlay]

@[simp] theorem noteLast_keepsFuses (s) : KeepsFuses s (noteLast s) := by
  unfold noteLast
  split <;> simp

@[simp] theorem dropBind_keepsFuses (d s) : KeepsFuses s (dropBind d s) := by simp [dropBind]
@[simp] theorem effectBind_keepsFuses (d s) : KeepsFuses s (effectBind d s) := by simp [effectBind]

@[simp] theorem sEffect_keepsFuses (d s) : KeepsFuses s (sEffect d s).2 := by
  unfold sEffect
  split <;> simp [effectPlay, effectStop, setPhaseOffset]

@[simp] theorem applyS_keepsFuses (k d s) : KeepsFuses s (applyS k d s) := by
  unfold applyS
  split <;> simp

@[simp] theorem supersedeS_keepsFuses (k d s) : KeepsFuses s (supersedeS k d s) := by
  simp [supersedeS]

@[simp] theorem applyDue_keepsFuses (k ds s) : KeepsFuses s (applyDue k ds s) := by
  induction ds generalizing s with
  | nil => simp [applyDue]
  | cons d ds ih =>
    unfold applyDue
    split <;> simp [ih]

@[simp] theorem frameOpcodes_keepsFuses (k s) : KeepsFuses s (frameOpcodes k s) := by
  simp [frameOpcodes]

@[simp] theorem takeRequest_keepsFuses (s) : KeepsFuses s (takeRequest s) := by
  unfold takeRequest
  split <;> simp

@[simp] theorem idleOpcodes_keepsFuses (s) : KeepsFuses s (idleOpcodes s) := by simp [idleOpcodes]
@[simp] theorem reachUnit_keepsFuses (d s) : KeepsFuses s (reachUnit d s) := by simp [reachUnit]

@[simp] theorem execSetTimeline_keepsFuses (port sq seq s) : NextKeepsFuses s (execSetTimeline port sq seq s) := by
  simp [execSetTimeline]

@[simp] theorem execTableActivateS_keepsFuses (port sq seq s) : NextKeepsFuses s (execTableActivateS port sq seq s) := by
  simp [execTableActivateS]

@[simp] theorem execHoldPlay_keepsFuses (port sq seq s) : NextKeepsFuses s (execHoldPlay port sq seq s) := by
  simp [execHoldPlay]

@[simp] theorem execHoldStop_keepsFuses (port sq seq s) : NextKeepsFuses s (execHoldStop port sq seq s) := by
  simp [execHoldStop]

@[simp] theorem execTimeLock_keepsFuses (port sq seq s) : NextKeepsFuses s (execTimeLock port sq seq s) := by
  simp [execTimeLock]

@[simp] theorem execTimePhase_keepsFuses (port sq seq s) : NextKeepsFuses s (execTimePhase port sq seq s) := by
  simp [execTimePhase]

@[simp] theorem execKernelBind_keepsFuses (port sq seq param s) : NextKeepsFuses s (execKernelBind port sq seq param s) := by
  obtain ⟨alloc', halloc⟩ : ∃ f, f = allocTwice := ⟨_, rfl⟩
  unfold execKernelBind
  rw [← halloc]
  refine withReady_keepsFuses (fun d => ?_)
  dsimp only
  split
  · simp
  · split
    · simp
    · split
      · simp
      · next t h => exact (allocTwice_keepsFuses (halloc ▸ h)).trans (by simp)

/-! ### The start of a scan frame -/

@[simp] theorem tellBad_keepsFuses (region outcome line s) : KeepsFuses s (tellBad region outcome line s) := by simp [tellBad]
@[simp] theorem loseTag_keepsFuses (s tag) : KeepsFuses s (loseTag s tag) := by simp [loseTag]
@[simp] theorem loseTables_keepsFuses (s) : KeepsFuses s (loseTables s) := by simp [loseTables]

@[simp] theorem readBad_keepsFuses (s b) : KeepsFuses s (readBad s b) := by
  unfold readBad
  dsimp only
  (repeat' split) <;> simp

@[simp] theorem readBadLines_keepsFuses (s) : KeepsFuses s (readBadLines s) := by
  simp [readBadLines]

@[simp] theorem runGovernor_keepsFuses (s) : KeepsFuses s (runGovernor s) := by simp [runGovernor]

@[simp] theorem endScanFrame_keepsFuses (s) : KeepsFuses s (endScanFrame s) := by
  unfold endScanFrame
  dsimp only
  split_ifs <;> simp [flushTags, computeDrives]

@[simp] theorem makeCrash_keepsFuses (s) : KeepsFuses s (makeCrash s) := by
  unfold makeCrash
  dsimp only
  split <;> simp

@[simp] theorem frameMode_keepsFuses (s) : KeepsFuses s (frameMode s) := by
  unfold frameMode
  dsimp only
  split <;> simp

@[simp] theorem framePlay_keepsFuses (fresh s) : KeepsFuses s (framePlay fresh s) := by
  unfold framePlay
  (repeat' split) <;> simp

@[simp] theorem writeHistory_keepsFuses (flags cfn s) : KeepsFuses s (writeHistory flags cfn s) := by simp [writeHistory]
@[simp] theorem frameOd_keepsFuses (t s cell) : KeepsFuses s (frameOd t s cell) := by simp [frameOd]
@[simp] theorem frameLight_keepsFuses (s) : KeepsFuses s (frameLight s) := by simp [frameLight]

@[simp] theorem replaceKernels_keepsFuses (s) : KeepsFuses s (replaceKernels s) := by
  simp [replaceKernels]

@[simp] theorem moveRoles_keepsFuses (s) : KeepsFuses s (moveRoles s) := by simp [moveRoles]

@[simp] theorem resumeJobs_keepsFuses (s) : KeepsFuses s (resumeJobs s) := by
  simp [resumeJobs]

@[simp] theorem frameJobs_keepsFuses (s) : KeepsFuses s (frameJobs s) := by simp [frameJobs]
@[simp] theorem framePipe_keepsFuses (wasIdle s) : KeepsFuses s (framePipe wasIdle s) := by simp [framePipe]
@[simp] theorem frameSelect_keepsFuses (old s) : KeepsFuses s (frameSelect old s) := by simp [frameSelect]
@[simp] theorem startBlack_keepsFuses (s) : KeepsFuses s (startBlack s) := by simp [startBlack]

/-! ### Power requests, policies and wakes -/

@[simp] theorem execWakeSense_keepsFuses (s) : NextKeepsFuses s (execWakeSense s) := by simp [execWakeSense]
@[simp] theorem execHostLinkWake_keepsFuses (port s) : NextKeepsFuses s (execHostLinkWake port s) := by simp [execHostLinkWake]
@[simp] theorem followQuad_keepsFuses (q s) : KeepsFuses s (followQuad q s) := by simp [followQuad]
@[simp] theorem execOpLimit_keepsFuses (port sq seq s) : NextKeepsFuses s (execOpLimit port sq seq s) := by simp [execOpLimit]

@[simp] theorem switchOp_keepsFuses (c s) : KeepsFuses s (switchOp c s) := by
  simp [switchOp]

@[simp] theorem execOpSwitch_keepsFuses (s) : NextKeepsFuses s (execOpSwitch s) := by
  unfold execOpSwitch
  split <;> simp

@[simp] theorem execOpPllTimeout_keepsFuses (s) : NextKeepsFuses s (execOpPllTimeout s) := by
  unfold execOpPllTimeout
  split <;> simp

@[simp] theorem execVoltageFail_keepsFuses (vout s) : NextKeepsFuses s (execVoltageFail vout s) := by
  unfold execVoltageFail
  split <;> simp

@[simp] theorem execRailTelemetry_keepsFuses (readings s) : NextKeepsFuses s (execRailTelemetry readings s) := by
  unfold execRailTelemetry
  split
  · simp
  · refine nextKeepsFuses_next.2 (foldl_keepsFuses _ (fun s n => ?_) _ _)
    dsimp only
    split <;> simp

@[simp] theorem execReadTemperaturePoll_keepsFuses (temps s) : NextKeepsFuses s (execReadTemperaturePoll temps s) := by
  simp [execReadTemperaturePoll]

@[simp] theorem capChange_keepsFuses (s) : KeepsFuses s (capChange s) := by
  unfold capChange
  split <;> simp

@[simp] theorem setCap_keepsFuses (on hot s) : KeepsFuses s (setCap on hot s) := by
  simp [setCap]

@[simp] theorem judgeHeat_keepsFuses (hot s) : KeepsFuses s (judgeHeat hot s) := by
  unfold judgeHeat
  split <;> simp

@[simp] theorem execSensorRefresh_keepsFuses (values s) : NextKeepsFuses s (execSensorRefresh values s) := by
  unfold execSensorRefresh
  split
  · simp
  · dsimp only
    split <;> simp (disch := intros; split <;> simp)

/-! ### The store -/

@[simp] theorem execStoreRead_keepsFuses (port sq seq s) : NextKeepsFuses s (execStoreRead port sq seq s) := by
  simp [execStoreRead]

@[simp] theorem execStoreWrite_keepsFuses (port sq seq data s) : NextKeepsFuses s (execStoreWrite port sq seq data s) := by
  refine withReady_keepsFuses (fun d => ?_)
  split_ifs
  · simp
  · simp
  · simp
  · split
    · simp
    · split <;> simp

@[simp] theorem execStoreInfo_keepsFuses (port sq seq s) : NextKeepsFuses s (execStoreInfo port sq seq s) := by
  simp [execStoreInfo]

@[simp] theorem writeDir_keepsFuses (c s) : KeepsFuses s (writeDir c s) := by simp [writeDir]

@[simp] theorem beginCreate_keepsFuses (d s) : KeepsFuses s (beginCreate d s) := by
  unfold beginCreate
  dsimp only
  split <;> simp

@[simp] theorem beginDelete_keepsFuses (d s) : KeepsFuses s (beginDelete d s) := by
  simp [beginDelete]

@[simp] theorem beginChange_keepsFuses (d s) : KeepsFuses s (beginChange d s) := by
  simp [beginChange]

@[simp] theorem serveChanges_keepsFuses (ws s) : KeepsFuses s (serveChanges ws s) := by
  induction ws generalizing s with
  | nil => simp [serveChanges]
  | cons w ws ih =>
    unfold serveChanges
    split
    · simp
    · split <;> simp [ih]

@[simp] theorem askChange_keepsFuses (d s) : KeepsFuses s (askChange d s) := by
  simp [askChange]

@[simp] theorem execStoreCreate_keepsFuses (port sq seq s) : NextKeepsFuses s (execStoreCreate port sq seq s) := by
  simp [execStoreCreate]

@[simp] theorem execStoreDelete_keepsFuses (port sq seq s) : NextKeepsFuses s (execStoreDelete port sq seq s) := by
  simp [execStoreDelete]

@[simp] theorem endChange_keepsFuses (c s) : KeepsFuses s (endChange c s) := by
  simp [endChange]

@[simp] theorem askLog_keepsFuses (d done total s) : KeepsFuses s (askLog d done total s) := by simp [askLog]

@[simp] theorem execDiagLogRead_keepsFuses (port sq seq s) : NextKeepsFuses s (execDiagLogRead port sq seq s) := by
  simp [execDiagLogRead]

@[simp] theorem logEntriesRead_keepsFuses (w done total bs s) : KeepsFuses s (logEntriesRead w done total bs s) := by
  unfold logEntriesRead
  split <;> simp

@[simp] theorem execEventLogFlush_keepsFuses (s) : NextKeepsFuses s (execEventLogFlush s) := by simp [execEventLogFlush]
@[simp] theorem execSmartPoll_keepsFuses (s) : NextKeepsFuses s (execSmartPoll s) := by simp [execSmartPoll]
@[simp] theorem loadFails_keepsFuses (e img s) : KeepsFuses s (loadFails e img s) := by simp [loadFails]
@[simp] theorem loadsEnd_keepsFuses (s) : KeepsFuses s (loadsEnd s) := by simp [loadsEnd]

@[simp] theorem nextLoad_keepsFuses (es s) : KeepsFuses s (nextLoad es s) := by
  induction es generalizing s with
  | nil => simp [nextLoad]
  | cons e es ih =>
    unfold nextLoad
    split <;> simp [ih]

@[simp] theorem nextDemura_keepsFuses (es s) : KeepsFuses s (nextDemura es s) := by
  induction es generalizing s with
  | nil => simp [nextDemura]
  | cons e es ih =>
    unfold nextDemura
    split <;> simp [ih]

@[simp] theorem beginLoads_keepsFuses (s) : KeepsFuses s (beginLoads s) := by simp [beginLoads]

@[simp] theorem manifestRead_keepsFuses (bs s) : KeepsFuses s (manifestRead bs s) := by
  unfold manifestRead
  split <;> simp

@[simp] theorem noteVerify_keepsFuses (img ty room s) : KeepsFuses s (noteVerify img ty room s) := by
  unfold noteVerify
  split <;> simp

theorem loadTables_keepsFuses {img room s res t} (h : loadTables img room s = .done res t) : KeepsFuses s t := by
  unfold loadTables at h
  dsimp only at h
  split at h
  · split at h
    · cases h
    · split at h
      · cases h
      · split at h
        · cases h
        · split at h
          · cases h
          · next u hu =>
            obtain ⟨-, rfl⟩ := LoadEnd.done.inj h
            simp [allocTables_keepsFuses hu]
  · cases h

theorem loadKernel_keepsFuses {img room s res t} (h : loadKernel img room s = .done res t) : KeepsFuses s t := by
  obtain ⟨alloc', halloc⟩ : ∃ f, f = allocTwice := ⟨_, rfl⟩
  unfold loadKernel at h
  rw [← halloc] at h
  split at h
  · have hnew := newHandle_keepsFuses s
    split at h
    · cases h
    · next hs =>
      rw [hs] at hnew
      split at h
      · cases h
      · next u hu =>
        rw [← (LoadEnd.done.inj h).2]
        exact hnew.trans ((allocTwice_keepsFuses (halloc ▸ hu)).trans (by simp))
  · cases h

@[simp] theorem takeImage_keepsFuses (e img s) : KeepsFuses s (takeImage e img s) := by
  unfold takeImage
  dsimp only
  split
  · split
    · next res t h => simp [loadTables_keepsFuses h]
    · simp
  · split
    · split
      · next res t h => split <;> simp [loadKernel_keepsFuses h]
      · simp
    · simp

@[simp] theorem bootImageRead_keepsFuses (i img s) : KeepsFuses s (bootImageRead i img s) := by
  unfold bootImageRead
  split
  · split
    · simp
    · split <;> simp
  · split <;> simp

@[simp] theorem bootImageFails_keepsFuses (i s) : KeepsFuses s (bootImageFails i s) := by
  unfold bootImageFails
  split <;> split <;> simp

@[simp] theorem execStoreLinkUp_keepsFuses (speed width s) : NextKeepsFuses s (execStoreLinkUp speed width s) := by
  simp [execStoreLinkUp]

@[simp] theorem mountFails_keepsFuses (reason s) : KeepsFuses s (mountFails reason s) := by simp [mountFails]

@[simp] theorem execStoreAbsentTimeout_keepsFuses (s) : NextKeepsFuses s (execStoreAbsentTimeout s) := by
  simp [execStoreAbsentTimeout]

@[simp] theorem execStoreMountRetry_keepsFuses (s) : NextKeepsFuses s (execStoreMountRetry s) := by simp [execStoreMountRetry]

@[simp] theorem execStoreControllerReady_keepsFuses (formatOk nsze s) :
    NextKeepsFuses s (execStoreControllerReady formatOk nsze s) := by
  simp [execStoreControllerReady]

@[simp] theorem mounted_keepsFuses (formatted next s) : KeepsFuses s (mounted formatted next s) := by simp [mounted]
@[simp] theorem useSuper_keepsFuses (meta_ b which s) : KeepsFuses s (useSuper meta_ b which s) := by simp [useSuper]
@[simp] theorem beginFormat_keepsFuses (s) : KeepsFuses s (beginFormat s) := by simp [beginFormat]

@[simp] theorem formatStep_keepsFuses (step s) : KeepsFuses s (formatStep step s) := by
  unfold formatStep
  split
  · exact nvWrite_keepsFuses ..
  · exact nvWrite_keepsFuses ..
  · simp
  · exact nvWrite_keepsFuses ..
  · simp
  · simp

@[simp] theorem metadataRead_keepsFuses (m s) : KeepsFuses s (metadataRead m s) := by simp [metadataRead]

@[simp] theorem endLoad_keepsFuses (d img s) : KeepsFuses s (endLoad d img s) := by
  unfold endLoad
  extract_lets n u r v
  have hu : KeepsFuses s u := by simp [u]
  suffices hv : KeepsFuses u v from hu.trans (hv.trans (by simp))
  unfold v
  rcases h : r with ⟨res, t⟩ | ⟨st, res⟩
  · refine KeepsFuses.trans (t := t) ?_ (by simp)
    unfold r at h
    split at h
    · exact loadTables_keepsFuses h
    · exact loadKernel_keepsFuses h
  · simp

@[simp] theorem execImageLoadDone_keepsFuses (port sq seq data s) : NextKeepsFuses s (execImageLoadDone port sq seq data s) := by
  unfold execImageLoadDone
  split
  · split
    · simp
    · split
      · split <;> simp
      · split
        · simp
        · split <;> simp
  · simp

/-! ### The scrubber and uncorrectable Reservoir lines -/

@[simp] theorem nextScrub_keepsFuses (s) : KeepsFuses s (nextScrub s) := by simp [nextScrub]
@[simp] theorem zeroDemura_keepsFuses (tag rel s) : KeepsFuses s (zeroDemura tag rel s) := by simp [zeroDemura]

@[simp] theorem spoilLayer_keepsFuses (n rel s) : KeepsFuses s (spoilLayer n rel s) := by
  unfold spoilLayer
  dsimp only
  split <;> simp

@[simp] theorem spoilHistory_keepsFuses (slot rel s) : KeepsFuses s (spoilHistory slot rel s) := by simp [spoilHistory]

@[simp] theorem spoil_keepsFuses (region line s) : KeepsFuses s (spoil region line s) := by
  unfold spoil
  (repeat' split) <;> simp

@[simp] theorem corrected_keepsFuses (n s) : KeepsFuses s (corrected n s) := by simp [corrected]

@[simp] theorem execRsvScrubRead_keepsFuses (region line result s) :
    NextKeepsFuses s (execRsvScrubRead region line result s) := by
  simp [execRsvScrubRead]

@[simp] theorem execRsvAllocWrite_keepsFuses (port reg val s) : NextKeepsFuses s (execRsvAllocWrite port reg val s) := by
  simp [execRsvAllocWrite]

/-! ### COMPOSITION_LINE_START -/

@[simp] theorem foundBad_keepsFuses (lines s) : KeepsFuses s (foundBad lines s) := by simp [foundBad]

@[simp] theorem execCompositionLineStart_keepsFuses (reads s) : NextKeepsFuses s (execCompositionLineStart reads s) := by
  unfold execCompositionLineStart
  split <;> simp

/-! ### Sluice -/

@[simp] theorem issueTags_keepsFuses (lane line s) : KeepsFuses s (issueTags lane line s) := by simp [issueTags]
@[simp] theorem issueAhead_keepsFuses (lane line s) : KeepsFuses s (issueAhead lane line s) := by simp [issueAhead]

/-- Stated of every flag: of one that is written out, the kernel would evaluate the counts. -/
theorem foldl_setFlag_keepsFuses {α : Type} (f : Flag) (l : List α) (s : State) :
    KeepsFuses s (l.foldl (fun s _ => setFlag f s) s) :=
  foldl_keepsFuses _ (fun s _ => by simp) l s

@[simp] theorem tellHeld_keepsFuses (lane i s) : KeepsFuses s (tellHeld lane i s) := by
  unfold tellHeld
  extract_lets l s1
  split
  · extract_lets n s2
    have h1 : KeepsFuses s s1 := by simp [s1]
    have h2 : KeepsFuses s1 s2 := foldl_setFlag_keepsFuses ..
    refine h1.trans (h2.trans ?_)
    split <;> simp
  · simp

@[simp] theorem execSlkLinePacket_keepsFuses (lane line at_ next repair s) :
    NextKeepsFuses s (execSlkLinePacket lane line at_ next repair s) := by
  unfold execSlkLinePacket
  dsimp only
  (repeat' split) <;> simp

@[simp] theorem cfgData_keepsFuses (s lane addr data) : KeepsFuses s (cfgData s lane addr data).2 := by
  unfold cfgData
  dsimp only
  split_ifs <;> simp

@[simp] theorem execCfgWrite_keepsFuses (w s) : NextKeepsFuses s (execCfgWrite w s) := by
  unfold execCfgWrite
  dsimp only
  split <;> simp

@[simp] theorem execSlkDcfgGo_keepsFuses (port val s) : NextKeepsFuses s (execSlkDcfgGo port val s) := by simp [execSlkDcfgGo]

@[simp] theorem deemphStep_keepsFuses (lane fom s) : KeepsFuses s (deemphStep lane fom s) := by
  unfold deemphStep
  dsimp only
  split <;> simp

@[simp] theorem sweepReport_keepsFuses (lane fom s) : KeepsFuses s (sweepReport lane fom s) := by simp [sweepReport]
@[simp] theorem setBcOk_keepsFuses (lane ok s) : KeepsFuses s (setBcOk lane ok s) := by simp [setBcOk]
@[simp] theorem rollReport_keepsFuses (lane status fom s) : KeepsFuses s (rollReport lane status fom s) := by simp [rollReport]
@[simp] theorem bcError_keepsFuses (lane crc s) : KeepsFuses s (bcError lane crc s) := by simp [bcError]
@[simp] theorem slotMissed_keepsFuses (lane crc s) : KeepsFuses s (slotMissed lane crc s) := by simp [slotMissed]

@[simp] theorem execRoll_keepsFuses (bc replies s) : NextKeepsFuses s (execRoll bc replies s) := by
  unfold execRoll
  dsimp only
  split
  · simp
  · refine nextKeepsFuses_next.2 (KeepsFuses.trans (t := emit _ s) ⟨rfl, rfl⟩ (foldl_keepsFuses _ (fun s n => ?_) _ _))
    split
    · split <;> simp
    · simp

@[simp] theorem execStatusPoll_keepsFuses (lane s) : NextKeepsFuses s (execStatusPoll lane s) := by simp [execStatusPoll]
@[simp] theorem driverLoses_keepsFuses (lane row s) : KeepsFuses s (driverLoses lane row s) := by simp [driverLoses]
@[simp] theorem statusReply_keepsFuses (lane bs s) : KeepsFuses s (statusReply lane bs s) := by simp [statusReply]

@[simp] theorem execBcAlertPulse_keepsFuses (bc width row s) : NextKeepsFuses s (execBcAlertPulse bc width row s) := by
  simp [execBcAlertPulse]

@[simp] theorem execRelock_keepsFuses (lane frame s) : NextKeepsFuses s (execRelock lane frame s) := by simp [execRelock]
@[simp] theorem dropBc_keepsFuses (q s) : KeepsFuses s (dropBc q s) := by simp [dropBc]
@[simp] theorem eyeReply_keepsFuses (lane bs s) : KeepsFuses s (eyeReply lane bs s) := by simp [eyeReply]
@[simp] theorem prbsReply_keepsFuses (lane bs s) : KeepsFuses s (prbsReply lane bs s) := by simp [prbsReply]

@[simp] theorem takeReply_keepsFuses (q bs s) : KeepsFuses s (takeReply q bs s) := by
  unfold takeReply
  (repeat' split) <;> simp

@[simp] theorem failRequest_keepsFuses (q crc s) : KeepsFuses s (failRequest q crc s) := by
  unfold failRequest
  (repeat' split) <;> simp

@[simp] theorem replyMissed_keepsFuses (q crc s) : KeepsFuses s (replyMissed q crc s) := by simp [replyMissed]

@[simp] theorem execBcReply_keepsFuses (bc frame s) : NextKeepsFuses s (execBcReply bc frame s) := by
  unfold execBcReply
  split <;> simp

@[simp] theorem execBcReplyTimeout_keepsFuses (bc crc s) : NextKeepsFuses s (execBcReplyTimeout bc crc s) := by
  unfold execBcReplyTimeout
  split <;> simp

/-! ### The field record -/

@[simp] theorem capture_keepsFuses (cause s) : KeepsFuses s (capture cause s) := by simp [capture]

@[simp] theorem execDiagFieldRecord_keepsFuses (port sq seq s) : NextKeepsFuses s (execDiagFieldRecord port sq seq s) := by
  simp [execDiagFieldRecord]

@[simp] theorem bmcReply_keepsFuses (asked bytes s) : KeepsFuses s (bmcReply asked bytes s) := by simp [bmcReply]
@[simp] theorem execBmcFieldCapture_keepsFuses (s) : NextKeepsFuses s (execBmcFieldCapture s) := by simp [execBmcFieldCapture]

@[simp] theorem execBmcFieldRead_keepsFuses (page s) : NextKeepsFuses s (execBmcFieldRead page s) := by
  unfold execBmcFieldRead bmcReply
  split
  · exact nextKeepsFuses_next.2 ⟨rfl, rfl⟩
  · simp

@[simp] theorem fatalRecovered_keepsFuses (s) : KeepsFuses s (fatalRecovered s) := by
  unfold fatalRecovered
  split
  · split
    · obtain ⟨at', hat⟩ : ∃ x, x = ((rd s Reg.FAULT_FATAL_NEXT).toNat + 2 ^ 32 - 1) % 2 ^ 32 := ⟨_, rfl⟩
      refine KeepsFuses.trans (t := { s with fault := { s.fault with recovering := none } }) ⟨rfl, rfl⟩ ?_
      rw [← hat]
      simp
    · simp
  · simp

/-! ### What the end of an NVMe command does -/

@[simp] theorem dropChange_keepsFuses (w f s) : KeepsFuses s (dropChange w f s) := by
  simp [dropChange]

@[simp] theorem endFlush_keepsFuses (s) : KeepsFuses s (endFlush s) := by simp [endFlush]
@[simp] theorem stopController_keepsFuses (s) : KeepsFuses s (stopController s) := by simp [stopController]
@[simp] theorem logFails_keepsFuses (s) : KeepsFuses s (logFails s) := by simp [logFails]
@[simp] theorem askEvent_keepsFuses (s) : KeepsFuses s (askEvent s) := by simp [askEvent]
@[simp] theorem holdLost_keepsFuses (line s) : KeepsFuses s (holdLost line s) := by simp [holdLost]

@[simp] theorem holdRepaired_keepsFuses (item line frame bs s) : KeepsFuses s (holdRepaired item line frame bs s) := by
  unfold holdRepaired
  dsimp only
  (repeat' split) <;> simp

@[simp] theorem failUse_keepsFuses (u f s) : KeepsFuses s (failUse u f s) := by
  unfold failUse
  split <;> simp

@[simp] theorem hostReadDone_keepsFuses (w bs s) : KeepsFuses s (hostReadDone w bs s) := by
  unfold hostReadDone
  split <;> simp

@[simp] theorem dirStep_keepsFuses (k c s) : KeepsFuses s (dirStep k c s) := by
  unfold dirStep
  split <;> simp [writeSuper]

@[simp] theorem codecRead_keepsFuses (lane w bs s) : KeepsFuses s (codecRead lane w bs s) := by
  unfold codecRead
  split <;> simp

@[simp] theorem doneUse_keepsFuses (c bs s) : KeepsFuses s (doneUse c bs s) := by
  unfold doneUse
  (repeat' split) <;> simp [writeHead, imageRead, smartRead]

@[simp] theorem dropCmd_keepsFuses (cid s) : KeepsFuses s (dropCmd cid s) := by
  simp [dropCmd]

@[simp] theorem countIo_keepsFuses (c s) : KeepsFuses s (countIo c s) := by simp [countIo]
@[simp] theorem storeError_keepsFuses (c status s) : KeepsFuses s (storeError c status s) := by simp [storeError]

@[simp] theorem execNvmeCompletion_keepsFuses (cid status data s) : NextKeepsFuses s (execNvmeCompletion cid status data s) := by
  unfold execNvmeCompletion
  split <;> simp

@[simp] theorem execNvmeCommandTimeout_keepsFuses (cid s) : NextKeepsFuses s (execNvmeCommandTimeout cid s) := by
  unfold execNvmeCommandTimeout
  split
  · simp
  · split <;> simp

@[simp] theorem failAll_keepsFuses (cmds waiting s) : KeepsFuses s (failAll cmds waiting s) := by
  unfold failAll
  refine KeepsFuses.trans (foldl_keepsFuses _ (fun s c => ?_) cmds s) (foldl_keepsFuses _ (fun s w => ?_) waiting _)
  · split <;> simp
  · simp

@[simp] theorem dropRead_keepsFuses (s) : KeepsFuses s (dropRead s) := by
  unfold dropRead
  simp (disch := intros; (repeat' split) <;> simp)

@[simp] theorem storeGone_keepsFuses (s) : KeepsFuses s (storeGone s) := by simp [storeGone]
@[simp] theorem execStoreLost_keepsFuses (reason s) : NextKeepsFuses s (execStoreLost reason s) := by simp [execStoreLost]

/-! ### Power-up, straps, the boot sequence, HOLD, recovery and TOP_RESET -/

@[simp] theorem execVddAonPowerUp_keepsFuses (s) : NextKeepsFuses s (execVddAonPowerUp s) := by simp [execVddAonPowerUp]

@[simp] theorem afterRail_keepsFuses (n s) : KeepsFuses s (afterRail n s) := by
  unfold afterRail
  (repeat' split) <;> simp [railsGood]

@[simp] theorem nextExitRail_keepsFuses (x s) : KeepsFuses s (nextExitRail x s) := by
  unfold nextExitRail
  split <;> simp

@[simp] theorem execStrapSample_keepsFuses (ownerSel merge01 merge23 bmcAddr s) :
    NextKeepsFuses s (execStrapSample ownerSel merge01 merge23 bmcAddr s) := by
  simp [execStrapSample]

@[simp] theorem runFirmware_keepsFuses (source recovery img d s) : KeepsFuses s (runFirmware source recovery img d s) := by
  simp [runFirmware]

@[simp] theorem toRecovery_keepsFuses (s) : KeepsFuses s (toRecovery s) := by simp [toRecovery]

@[simp] theorem slotFails_keepsFuses (slot img v s) : KeepsFuses s (slotFails slot img v s) := by
  unfold slotFails
  split <;> simp

@[simp] theorem trySlots_keepsFuses (first slots s) : KeepsFuses s (trySlots first slots s) := by
  induction slots generalizing first s with
  | nil => simp [trySlots]
  | cons x slots ih =>
    unfold trySlots
    dsimp only
    split
    · split <;> simp
    · simp [ih]

@[simp] theorem execBootImageVerified_keepsFuses (identified slotA slotB s) :
    NextKeepsFuses s (execBootImageVerified identified slotA slotB s) := by
  simp [execBootImageVerified]

@[simp] theorem execBootClearDone_keepsFuses (ok s) : NextKeepsFuses s (execBootClearDone ok s) := by
  unfold execBootClearDone
  split <;> simp

@[simp] theorem execRsvTrainDone_keepsFuses (ok s) : NextKeepsFuses s (execRsvTrainDone ok s) := by
  unfold execRsvTrainDone
  split <;> simp

@[simp] theorem execLaneCalibrationDone_keepsFuses (s) : NextKeepsFuses s (execLaneCalibrationDone s) := by
  simp [execLaneCalibrationDone]

@[simp] theorem execStpPerstRelease_keepsFuses (s) : NextKeepsFuses s (execStpPerstRelease s) := by simp [execStpPerstRelease]

/-- The start's failures are told between what READY records and what it activates. -/
theorem setReady_tells (ms : Nat) (s : State) : ∃ t, KeepsFuses s t ∧ ∃ u,
    u = [0, 1, 2, 3].foldl (fun s p => tellFailures p s) t ∧ setReady ms s =
      (u |> activateDefault 0x10F00000 splitSection |> activateDefault 0x12F00000 filterSection
        |> activateDefault 0x24F00000 riffleSection |> followWindow
        |> nextDemura u.store.deferred |> recordMissing |> fatalRecovered) := by
  refine ⟨_, ?_, _, rfl, rfl⟩
  simp

@[simp] theorem setReady_keepsFuses (ms s) : KeepsFuses s (setReady ms s) := by
  obtain ⟨t, ht, u, hu, hready⟩ := setReady_tells ms s
  have htu : KeepsFuses t u := by simp [hu]
  rw [hready]
  exact ht.trans (htu.trans (by simp))
@[simp] theorem execReady_keepsFuses (ms s) : NextKeepsFuses s (execReady ms s) := by simp [execReady]
@[simp] theorem holdLimit_keepsFuses (ms s) : KeepsFuses s (holdLimit ms s) := by simp [holdLimit]

@[simp] theorem execBootHoldLimitExpiry_keepsFuses (ms s) : NextKeepsFuses s (execBootHoldLimitExpiry ms s) := by
  simp [execBootHoldLimitExpiry]

@[simp] theorem execBootCtrlHold_keepsFuses (port val s) : NextKeepsFuses s (execBootCtrlHold port val s) := by
  simp [execBootCtrlHold]

@[simp] theorem execBootCtrlRelease_keepsFuses (port ms s) : NextKeepsFuses s (execBootCtrlRelease port ms s) := by
  simp [execBootCtrlRelease]

@[simp] theorem execBootHoldLimitWrite_keepsFuses (port val elapsed ms s) :
    NextKeepsFuses s (execBootHoldLimitWrite port val elapsed ms s) := by
  simp [execBootHoldLimitWrite]

@[simp] theorem execBootXferOpen_keepsFuses (port s) : NextKeepsFuses s (execBootXferOpen port s) := by simp [execBootXferOpen]

@[simp] theorem execBootXferDataWrite_keepsFuses (port off data s) :
    NextKeepsFuses s (execBootXferDataWrite port off data s) := by
  simp [execBootXferDataWrite]

@[simp] theorem execBootCtrlRecoveryGo_keepsFuses (port s) : NextKeepsFuses s (execBootCtrlRecoveryGo port s) := by
  simp [execBootCtrlRecoveryGo]

@[simp] theorem execRecoveryVerifyDone_keepsFuses (s) : NextKeepsFuses s (execRecoveryVerifyDone s) := by
  unfold execRecoveryVerifyDone
  dsimp only
  (repeat' split) <;> simp

/-! ### The security core -/

@[simp] theorem execSecAttest_keepsFuses (port sq seq s) : NextKeepsFuses s (execSecAttest port sq seq s) := by
  simp [execSecAttest]

@[simp] theorem execSecCert_keepsFuses (port sq seq s) : NextKeepsFuses s (execSecCert port sq seq s) := by simp [execSecCert]

@[simp] theorem lapse_keepsFuses (s) : KeepsFuses s (lapse s) := by
  unfold lapse
  split <;> simp

@[simp] theorem execSecChallenge_keepsFuses (port sq seq s) : NextKeepsFuses s (execSecChallenge port sq seq s) := by
  simp [execSecChallenge]

@[simp] theorem execChallengeExpiry_keepsFuses (s) : NextKeepsFuses s (execChallengeExpiry s) := by simp [execChallengeExpiry]

@[simp] theorem tellRevoked_keepsFuses (op s) : KeepsFuses s (tellRevoked op s) := by
  unfold tellRevoked
  split <;> simp

@[simp] theorem execSecFwUpdate_keepsFuses (port sq seq data s) : NextKeepsFuses s (execSecFwUpdate port sq seq data s) := by
  refine withReady_keepsFuses (fun d => ?_)
  dsimp only
  (repeat' split) <;> simp

@[simp] theorem execFwFlashWriteDone_keepsFuses (ok s) : NextKeepsFuses s (execFwFlashWriteDone ok s) := by
  unfold execFwFlashWriteDone
  split <;> simp

@[simp] theorem clearMemories_keepsFuses (s) : KeepsFuses s (clearMemories s) := by simp [clearMemories]

/-! ### DIAG_UNIT_ENABLE and DIAG_UNIT_FENCE with their acknowledgement -/

@[simp] theorem fenceUnit_keepsFuses (u s) : KeepsFuses s (fenceUnit u s) := by simp [fenceUnit]
@[simp] theorem awaitUnit_keepsFuses (u enable d s) : KeepsFuses s (awaitUnit u enable d s) := by simp [awaitUnit]

@[simp] theorem execDiagUnitFence_keepsFuses (port sq seq s) : NextKeepsFuses s (execDiagUnitFence port sq seq s) := by
  simp [execDiagUnitFence]

@[simp] theorem execDiagUnitEnable_keepsFuses (port sq seq s) : NextKeepsFuses s (execDiagUnitEnable port sq seq s) := by
  simp [execDiagUnitEnable]

@[simp] theorem enableQuadrant_keepsFuses (q s) : KeepsFuses s (enableQuadrant q s) := by simp [enableQuadrant]
@[simp] theorem takeAwaiting_keepsFuses (p s) : KeepsFuses s (takeAwaiting p s).2 := by simp [takeAwaiting]

@[simp] theorem execDataPathAcknowledge_keepsFuses (unit s) : NextKeepsFuses s (execDataPathAcknowledge unit s) := by
  simp [execDataPathAcknowledge, enableUnit]

@[simp] theorem execDiagUnitEnableTimeout_keepsFuses (unit s) : NextKeepsFuses s (execDiagUnitEnableTimeout unit s) := by
  simp [execDiagUnitEnableTimeout]

@[simp] theorem execBmcStatus_keepsFuses (s) : NextKeepsFuses s (execBmcStatus s) := by simp [execBmcStatus]

@[simp] theorem execBmcUnitTable_keepsFuses (first s) : NextKeepsFuses s (execBmcUnitTable first s) := by
  simp [execBmcUnitTable]

@[simp] theorem execBmcPowerResult_keepsFuses (s) : NextKeepsFuses s (execBmcPowerResult s) := by simp [execBmcPowerResult]

/-! ### Direct register writes without a row of their own -/

@[simp] theorem clearFlags_keepsFuses (k val s) : KeepsFuses s (clearFlags k val s) := by
  unfold clearFlags
  split <;> simp [clearBit, clearFlag]

@[simp] theorem clearAon_keepsFuses (val s) : KeepsFuses s (clearAon val s) := by simp [clearAon]

@[simp] theorem execFlagClear_keepsFuses (port off val s) : NextKeepsFuses s (execFlagClear port off val s) := by
  simp [execFlagClear]

@[simp] theorem unmask_keepsFuses (p v s) : KeepsFuses s (unmask p v s) := by simp [unmask]
@[simp] theorem writePort_keepsFuses (p o val s) : KeepsFuses s (writePort p o val s) := by simp [writePort]

@[simp] theorem writeHeldRegs_keepsFuses (k val s) : KeepsFuses s (writeHeldRegs k val s) := by
  unfold writeHeldRegs
  (repeat' split) <;> simp

@[simp] theorem afterWrite_keepsFuses (k val oldMode s) : KeepsFuses s (afterWrite k val oldMode s) := by
  simp [afterWrite, followRot]

@[simp] theorem writeGlobal_keepsFuses (k val s) : KeepsFuses s (writeGlobal k val s) := by simp [writeGlobal, endTrialAt]
@[simp] theorem writeWord_keepsFuses (p o val s) : KeepsFuses s (writeWord p o val s) := by simp [writeWord]

@[simp] theorem execRegisterWrite_keepsFuses (port off size val s) :
    NextKeepsFuses s (execRegisterWrite port off size val s) := by
  simp [execRegisterWrite]

@[simp] theorem execTopHostPermWrite_keepsFuses (port m val s) : NextKeepsFuses s (execTopHostPermWrite port m val s) := by
  simp [execTopHostPermWrite]

@[simp] theorem assignOne_keepsFuses (kind host s i) : KeepsFuses s (assignOne kind host s i) := by simp [assignOne]
@[simp] theorem execAssign_keepsFuses (port sq seq s) : NextKeepsFuses s (execAssign port sq seq s) := by simp [execAssign]

@[simp] theorem execChkFrameLoRead_keepsFuses (port rect s) : NextKeepsFuses s (execChkFrameLoRead port rect s) := by
  simp [execChkFrameLoRead]

/-! ### Starts and resets end a fuse operation in progress (R69, R572) -/

theorem Isolated.keepsFuses {s t : State} (h : Isolated s t) : KeepsFuses s t := by simp_all

/-- The fuses once the operation in progress has ended. -/
def State.burnt (s : State) : Fuses :=
  match s.sec.fuse.map Prod.fst with
  | some op => burnFuse op s.fuses
  | none => s.fuses

/-- Either the fuses and the operation in progress stay, or the operation has ended, by a start or a reset. -/
def EndsFuse (s t : State) : Prop := KeepsFuses s t ∨ t.sec.fuse = none ∧ t.fuses = s.burnt

theorem KeepsFuses.ends {s t : State} (h : KeepsFuses s t) : EndsFuse s t := .inl h

theorem KeepsFuses.burnt_eq {s t : State} (h : KeepsFuses s t) : t.burnt = s.burnt := by
  rw [State.burnt, State.burnt, h.1, h.2]

theorem burnt_of_none {s : State} (h : s.sec.fuse = none) : s.burnt = s.fuses := by simp [State.burnt, h]

theorem EndsFuse.trans {s t u : State} (h : EndsFuse s t) (k : EndsFuse t u) : EndsFuse s u := by
  obtain h | ⟨hnone, hfuses⟩ := h
  · obtain k | ⟨knone, kfuses⟩ := k
    · exact .inl (h.trans k)
    · exact .inr ⟨knone, kfuses.trans h.burnt_eq⟩
  · obtain k | ⟨knone, kfuses⟩ := k
    · exact .inr ⟨by simpa [hnone] using k.2, k.1.trans hfuses⟩
    · exact .inr ⟨knone, kfuses.trans ((burnt_of_none hnone).trans hfuses)⟩

/-- A start or a reset after an update that keeps the fuses. -/
theorem EndsFuse.after {s t u : State} (k : EndsFuse t u) (h : KeepsFuses s t) : EndsFuse s u := h.ends.trans k

/-- An update that keeps the fuses after a start or a reset. -/
theorem EndsFuse.then {s t u : State} (h : EndsFuse s t) (k : KeepsFuses t u) : EndsFuse s u := h.trans k.ends

theorem restart_ends (full : Bool) (s : State) : EndsFuse s (restart full s) := by
  refine .inr ⟨rfl, ?_⟩
  unfold restart State.burnt
  cases h : s.sec.fuse <;> simp

theorem deviceReset_ends (s : State) : EndsFuse s (deviceReset s) := by
  refine (restart_ends false s).then ?_
  unfold deviceReset
  dsimp only
  split <;> simp [restoreVolts]

theorem ownerReset_ends (s : State) : EndsFuse s (ownerReset s) := (deviceReset_ends s).then (by simp [ownerReset])

theorem fatalReset_ends (cls unit detail : Nat) (s : State) : EndsFuse s (fatalReset cls unit detail s) := by
  unfold fatalReset
  extract_lets seq s1 e s2 fault s3 s4
  have h2 : KeepsFuses s s2 := KeepsFuses.trans (t := s1) (by simp [s1]) (by simp [s2])
  split
  · exact KeepsFuses.ends (h2.trans (by simp))
  · have h3 : KeepsFuses s s3 := h2
    have h4 : EndsFuse s3 s4 := (deviceReset_ends s3).then (by simp [s4])
    exact (h4.after h3).then (by simp)

theorem powerStart_ends (s : State) : EndsFuse s (powerStart s) := (restart_ends true s).then (by simp [powerStart])

theorem loseRails_ends (ph : StartPhase) (s : State) : EndsFuse s (loseRails ph s) :=
  ((restart_ends true (railsOff s)).after (by simp)).then (by simp [loseRails])

theorem goOff_ends (s : State) : EndsFuse s (goOff s) :=
  ((restart_ends true (railsOff s)).after (by simp)).then (by simp [goOff])

/-! ### Power states (R511 to R520) -/

theorem enterState_ends (e : Entry) (s : State) : EndsFuse s (enterState e s) := by
  unfold enterState
  extract_lets new replay cause reached power s1 s2 s3 s4 power' s5
  have h1 : KeepsFuses s s1 := by simp [s1]
  have h2 : KeepsFuses s1 s2 := by simp [s2]
  have h3 : KeepsFuses s2 s3 := by simp [s3]
  have h4 : KeepsFuses s3 s4 := by simp [s4]
  have h5 : KeepsFuses s4 s5 := by simp [s5]
  refine EndsFuse.after ?_ (h1.trans (h2.trans (h3.trans (h4.trans h5))))
  split
  · exact goOff_ends _
  · exact (goOff_ends _).trans (powerStart_ends _)
  · exact KeepsFuses.ends (by simp)
  · exact KeepsFuses.ends (by simp)

theorem startRequest_ends (r : PwrReq) (s : State) : EndsFuse s (startRequest r s) := by
  unfold startRequest
  extract_lets st reaching
  split_ifs
  · exact KeepsFuses.ends (by simp)
  · exact KeepsFuses.ends (by simp)
  · exact KeepsFuses.ends (by simp)
  · exact (enterState_ends ..).after (by simp)
  · exact KeepsFuses.ends (by simp)
  · exact KeepsFuses.ends (by simp)

theorem serveSlot_ends (s : State) : EndsFuse s (serveSlot s) := by
  unfold serveSlot
  split
  · split
    · exact KeepsFuses.ends (by simp)
    · exact (startRequest_ends ..).after (by simp)
  · exact KeepsFuses.ends (by simp)

theorem finishExit_ends (x : Exit) (s : State) : EndsFuse s (finishExit x s) := by
  unfold finishExit
  extract_lets old power s1 s2 s3
  have h1 : KeepsFuses s s1 := by simp [s1]
  have h2 : KeepsFuses s1 s2 := by simp [s2]
  have h3 : KeepsFuses s2 s3 := by simp [s3]
  refine EndsFuse.after ?_ (h1.trans (h2.trans h3))
  split
  · exact startRequest_ends ..
  · exact serveSlot_ends ..

theorem abortEntry_ends (e : Entry) (u : Nat) (s : State) : EndsFuse s (abortEntry e u s) := by
  unfold abortEntry
  extract_lets power s1 s2 s3 c route s4
  have h1 : KeepsFuses s s1 := by simp [s1]
  have h2 : KeepsFuses s1 s2 := by simp [s2]
  have h3 : KeepsFuses s2 s3 := by simp [s3]
  have h4 : KeepsFuses s3 s4 := by simp [s4]
  exact (serveSlot_ends _).after (h1.trans (h2.trans (h3.trans (h4.trans (by simp)))))

theorem finishEntry_ends (s : State) : EndsFuse s (finishEntry s) := by
  unfold finishEntry
  split
  · exact (enterState_ends ..).trans (serveSlot_ends _)
  · exact KeepsFuses.ends (by simp)

theorem settleEntry_ends (s : State) : EndsFuse s (settleEntry s) := by
  unfold settleEntry
  split
  · split
    · exact finishEntry_ends _
    · exact KeepsFuses.ends (by simp)
  · exact KeepsFuses.ends (by simp)

theorem answerEntry_ends (e : Entry) (u : Nat) (s : State) : EndsFuse s (answerEntry e u s) := by
  unfold answerEntry
  split_ifs
  · exact abortEntry_ends ..
  · exact KeepsFuses.ends (by simp)
  · exact (settleEntry_ends _).after (by simp)

theorem requestPower_ends (r : PwrReq) (s : State) : EndsFuse s (requestPower r s) := by
  unfold requestPower
  split
  · exact startRequest_ends ..
  · refine KeepsFuses.ends ?_
    split
    · simp
    · split <;> simp

theorem startFromOff_ends (s : State) : EndsFuse s (startFromOff s) := (powerStart_ends _).after (by simp)

theorem startScanFrame_ends (s : State) : EndsFuse s (startScanFrame s) := by
  unfold startScanFrame
  extract_lets old wasIdle s1 raster s2 s3 s4 play s5 s6 s7 s8
  have h2 : KeepsFuses s s2 := by simp [s2, s1]
  have h3 : EndsFuse s2 s3 := by
    unfold s3
    split
    · exact finishEntry_ends _
    · exact KeepsFuses.ends (by simp)
  have h4 : KeepsFuses s3 s4 := by simp [s4]
  have h5 : KeepsFuses s4 s5 := by simp [s5]
  have h6 : KeepsFuses s5 s6 := by simp [s6]
  have h7 : KeepsFuses s6 s7 := by simp [s7]
  exact (h3.after h2).then (h4.trans (h5.trans (h6.trans (h7.trans (by simp [s8])))))

/-! ### Rails that fail (R56, R542) -/

theorem railFault_ends (rail word : Nat) (s : State) : EndsFuse s (railFault rail word s) := by
  unfold railFault
  extract_lets recent power s1
  have h1 : KeepsFuses s s1 := by simp [s1]
  split
  · exact ((loseRails_ends .railsOff s1).after h1).then (by simp)
  · exact (loseRails_ends _ _).after h1

theorem railMissed_ends (n : Nat) (s : State) : EndsFuse s (railMissed n s) := by
  unfold railMissed
  split
  · exact (loseRails_ends .railsOff s).then (by simp)
  · exact KeepsFuses.ends (by simp)

theorem exitRailMissed_ends (x : Exit) (n : Nat) (s : State) : EndsFuse s (exitRailMissed x n s) := by
  unfold exitRailMissed
  split
  · exact (loseRails_ends .railsOff s).then (by simp)
  · exact KeepsFuses.ends (by simp)

/-! ### The commands that start or reset the device -/

/-- A command keeps the fuses, or ends the operation in progress. -/
structure NextEndsFuse (s : State) (o : Host.Outcome State Fault Refusal) : Prop where
  ends : ∀ t, o = .next t → EndsFuse s t

theorem EndsFuse.next {s t : State} (h : EndsFuse s t) : NextEndsFuse s (.next t) := ⟨fun _ ht => Host.Outcome.next.inj ht ▸ h⟩

theorem NextKeepsFuses.ends {s : State} {o} (h : NextKeepsFuses s o) : NextEndsFuse s o := ⟨fun t ht => (h t ht).ends⟩

theorem keepsFuses_refl (s : State) : KeepsFuses s s := ⟨rfl, rfl⟩

theorem execResetNLow_ends (s : State) : NextEndsFuse s (execResetNLow s) := by
  unfold execResetNLow
  split
  · exact (keepsFuses_refl s).ends.next
  · exact ((restart_ends true s).then (by simp)).next

theorem execVddAonLoss_ends (s : State) : NextEndsFuse s (execVddAonLoss s) := by
  unfold execVddAonLoss
  extract_lets r
  have hr : EndsFuse s r := restart_ends true s
  exact EndsFuse.next (hr.then ⟨rfl, rfl⟩)

theorem execPowerOn_ends (b : Bool) (s : State) : NextEndsFuse s (execPowerOn b s) := by
  unfold execPowerOn
  split
  · extract_lets boot u
    have hu : EndsFuse s u := (powerStart_ends _).after (by simp)
    refine (hu.then ?_).next
    split <;> simp
  · exact (keepsFuses_refl s).ends.next

theorem execRailRetryWait_ends (s : State) : NextEndsFuse s (execRailRetryWait s) := by
  unfold execRailRetryWait
  split
  · refine NextKeepsFuses.ends ?_
    split
    · split
      · dsimp only
        split <;> simp
      · simp
    · simp
  · split
    · exact NextKeepsFuses.ends (by simp)
    · exact ((powerStart_ends s).then (by simp)).next

theorem execThermalTrip_ends (s : State) : NextEndsFuse s (execThermalTrip s) := by
  unfold execThermalTrip
  split
  · exact (keepsFuses_refl s).ends.next
  · extract_lets u
    have hu : EndsFuse s u := (loseRails_ends .railsOff _).after (by simp)
    exact (hu.then (by simp)).next

theorem execPmbusAlert_ends (words : List Nat) (s : State) : NextEndsFuse s (execPmbusAlert words s) := by
  unfold execPmbusAlert
  extract_lets s1 bad s2 s3
  have h1 : KeepsFuses s s1 := by simp [s1]
  have h2 : KeepsFuses s1 s2 := foldl_keepsFuses _ (fun s n => by simp) _ _
  have h3 : KeepsFuses s2 s3 := by simp [s3]
  split
  · exact ((railFault_ends ..).after (h1.trans (h2.trans h3))).next
  · exact (h1.trans (h2.trans h3)).ends.next

theorem execRailPowerGoodTimeout_ends (n : Nat) (s : State) : NextEndsFuse s (execRailPowerGoodTimeout n s) := by
  unfold execRailPowerGoodTimeout
  split
  · split
    · exact (railMissed_ends ..).next
    · exact (keepsFuses_refl s).ends.next
  · split
    · exact (railMissed_ends ..).next
    · exact (keepsFuses_refl s).ends.next
  · split
    · split
      · exact (exitRailMissed_ends ..).next
      · exact (keepsFuses_refl s).ends.next
    · exact (keepsFuses_refl s).ends.next

theorem execRailPowerGood_ends (r : RailReport) (s : State) : NextEndsFuse s (execRailPowerGood r s) := by
  unfold execRailPowerGood
  dsimp only
  split
  · exact execRailPowerGoodTimeout_ends _ _
  · refine NextKeepsFuses.ends ?_
    split
    · simp
    · simp
    · split <;> simp

theorem execPowerExitDone_ends (s : State) : NextEndsFuse s (execPowerExitDone s) := by
  unfold execPowerExitDone
  split
  · split_ifs
    · exact (keepsFuses_refl s).ends.next
    · exact (ownerReset_ends s).next
    · exact (finishExit_ends ..).next
  · exact (keepsFuses_refl s).ends.next

theorem execUnitAgree_ends (s : State) : NextEndsFuse s (execUnitAgree s) := by
  unfold execUnitAgree
  split
  · split
    · exact (answerEntry_ends ..).next
    · exact (settleEntry_ends _).next
  · exact (keepsFuses_refl s).ends.next

theorem execStpShutdownTimeout_ends (s : State) : NextEndsFuse s (execStpShutdownTimeout s) := by
  unfold execStpShutdownTimeout
  split
  · split
    · exact (abortEntry_ends ..).next
    · exact (keepsFuses_refl s).ends.next
  · exact (keepsFuses_refl s).ends.next

theorem execScanFrameStart_ends (s : State) : NextEndsFuse s (execScanFrameStart s) := by
  unfold execScanFrameStart
  split
  · split
    · exact (keepsFuses_refl s).ends.next
    · have hframe : EndsFuse s (startScanFrame (setRaster { s.raster with phase := .running } s)) :=
        (startScanFrame_ends _).after (by simp)
      exact (hframe.then (by simp)).next
  · split
    · exact ((startScanFrame_ends _).after (by simp)).next
    · exact (keepsFuses_refl s).ends.next
  · exact NextKeepsFuses.ends (by simp)
  · exact NextKeepsFuses.ends (by simp)
  · exact (keepsFuses_refl s).ends.next

theorem execPowerReq_ends (p q n : Nat) (s : State) : NextEndsFuse s (execPowerReq p q n s) := by
  unfold execPowerReq withReady
  split
  · exact ((requestPower_ends ..).after (by simp)).next
  · exact (keepsFuses_refl s).ends.next

/-- A command that acts under a condition alone. -/
theorem nextEndsFuse_ite {s t : State} (c : Prop) [Decidable c] (h : EndsFuse s t) :
    NextEndsFuse s (if c then .next t else .next s) := by
  split
  · exact h.next
  · exact (keepsFuses_refl s).ends.next

theorem execWakeN_ends (s : State) : NextEndsFuse s (execWakeN s) := by
  unfold execWakeN
  split
  · exact (startFromOff_ends s).next
  · exact NextKeepsFuses.ends (by simp)

theorem execTopReset_ends (p k : Nat) (s : State) : NextEndsFuse s (execTopReset p k s) := by
  unfold execTopReset
  split_ifs
  · exact (keepsFuses_refl s).ends.next
  · exact NextKeepsFuses.ends (by simp)
  · exact (ownerReset_ends s).next

/-! ### The fuses of the security core (R93 to R96, R103, R572) -/

/-- A fuse operation fits the slot it names (R95, R96). -/
def FuseOp.Fits (f : Fuses) : FuseOp → Prop
  | .enrol k _ => k ≠ 0 → (tabGet (fun _ => ({} : KeySlot)) f.slots k).state = 0
  | .revoke k => k ≠ 0 → (tabGet (fun _ => ({} : KeySlot)) f.slots k).state = 1
  | .minimum _ => True

theorem fusesOnly_iff {s : State} : FusesOnly s ↔ tabWf (fun _ => ({} : KeySlot)) s.fuses.slots = true ∧
    ∀ op, s.sec.fuse.map Prod.fst = some op → op.Fits s.fuses := by
  refine and_congr_right fun _ => ?_
  rcases h : s.sec.fuse with _ | ⟨op, w⟩
  · simp
  · cases op <;> simp [FuseOp.Fits]

theorem slotGrows_refl (a : KeySlot) : SlotGrows a a := .inl rfl

theorem fusesGrow_refl (f : Fuses) : FusesGrow f f := ⟨rfl, rfl, le_rfl, id, fun _ _ => slotGrows_refl _⟩

/-- A slot that is programmed grows where its new contents do; the others stay. -/
theorem slotGrows_set {t : Tab KeySlot} (ht : tabWf (fun _ => ({} : KeySlot)) t = true) {k : Nat} {v : KeySlot}
    (hv : k ≠ 0 → SlotGrows (tabGet (fun _ => ({} : KeySlot)) t k) v) (j : Nat) (hj : j ≠ 0) :
    SlotGrows (tabGet (fun _ => ({} : KeySlot)) t j)
      (tabGet (fun _ => ({} : KeySlot)) (tabSet (fun _ => ({} : KeySlot)) t k v) j) := by
  rw [tabGet_set _ ((tabWf_iff ..).1 ht).1]
  split
  · next h => exact h ▸ hv (h ▸ hj)
  · exact slotGrows_refl _

/-- An operation that fits only lets the fuses grow, and leaves the slots canonical. -/
theorem burnFuse_grows {f : Fuses} (hwf : tabWf (fun _ => ({} : KeySlot)) f.slots = true) {op : FuseOp} (hop : op.Fits f) :
    tabWf (fun _ => ({} : KeySlot)) (burnFuse op f).slots = true ∧ FusesGrow f (burnFuse op f) := by
  cases op with
  | enrol k h =>
    have hset := tabWf_set (fun _ => ({} : KeySlot)) hwf k { state := 1, hash := h }
    have hgrows := slotGrows_set hwf (k := k) (v := { state := 1, hash := h }) fun hk => .inr (.inl ⟨hop hk, rfl⟩)
    exact ⟨hset, rfl, rfl, le_rfl, id, hgrows⟩
  | revoke k =>
    have hset := tabWf_set (fun _ => ({} : KeySlot)) hwf k { tabGet (fun _ => ({} : KeySlot)) f.slots k with state := 3 }
    have hgrows := slotGrows_set hwf (k := k) (v := { tabGet (fun _ => ({} : KeySlot)) f.slots k with state := 3 })
      fun hk => .inr (.inr ⟨hop hk, rfl, rfl⟩)
    exact ⟨hset, rfl, rfl, le_rfl, id, hgrows⟩
  | minimum v => exact ⟨hwf, rfl, rfl, le_max_left .., id, fun _ _ => slotGrows_refl _⟩

/-- The fuse invariant holds again, and the fuses have only grown. -/
structure FusesAdvance (s t : State) : Prop where
  advance : FusesOnly s → FusesOnly t ∧ FusesGrow s.fuses t.fuses

theorem KeepsFuses.advance {s t : State} (h : KeepsFuses s t) : FusesAdvance s t := by
  refine ⟨fun hs => ?_⟩
  obtain ⟨hwf, hfits⟩ := fusesOnly_iff.1 hs
  exact ⟨fusesOnly_iff.2 ⟨h.1 ▸ hwf, fun op hop => h.1 ▸ hfits op (h.2 ▸ hop)⟩, h.1 ▸ fusesGrow_refl _⟩

theorem EndsFuse.advance {s t : State} (h : EndsFuse s t) : FusesAdvance s t := by
  obtain h | ⟨hnone, hfuses⟩ := h
  · exact h.advance
  · refine ⟨fun hs => ?_⟩
    obtain ⟨hwf, hfits⟩ := fusesOnly_iff.1 hs
    have hburnt : tabWf (fun _ => ({} : KeySlot)) s.burnt.slots = true ∧ FusesGrow s.fuses s.burnt := by
      unfold State.burnt
      split
      · next op hop => exact burnFuse_grows hwf (hfits op hop)
      · exact ⟨hwf, fusesGrow_refl _⟩
    rw [fusesOnly_iff, hnone, hfuses]
    exact ⟨⟨hburnt.1, nofun⟩, hburnt.2⟩

/-- A command lets the fuses only grow. -/
structure NextFusesAdvance (s : State) (o : Host.Outcome State Fault Refusal) : Prop where
  advance : ∀ t, o = .next t → FusesAdvance s t

theorem FusesAdvance.next {s t : State} (h : FusesAdvance s t) : NextFusesAdvance s (.next t) :=
  ⟨fun _ ht => Host.Outcome.next.inj ht ▸ h⟩

theorem NextEndsFuse.advance {s : State} {o} (h : NextEndsFuse s o) : NextFusesAdvance s o := ⟨fun t ht => (h.ends t ht).advance⟩
theorem NextKeepsFuses.advance {s : State} {o} (h : NextKeepsFuses s o) : NextFusesAdvance s o := ⟨fun t ht => (h t ht).advance⟩

/-- An operation begins that fits the fuses. -/
theorem beginFuse_advance {s t : State} {op : FuseOp} (d : Dsc) (hf : t.fuses = s.fuses) (hop : op.Fits s.fuses) :
    FusesAdvance s (beginFuse op d t) := by
  refine ⟨fun hs => ?_⟩
  have hfuses : (beginFuse op d t).fuses = s.fuses := hf
  have hsec : (beginFuse op d t).sec.fuse.map Prod.fst = some op := rfl
  rw [fusesOnly_iff, hfuses, hsec]
  exact ⟨⟨(fusesOnly_iff.1 hs).1, fun op' h => Option.some.inj h ▸ hop⟩, fusesGrow_refl _⟩

/-- An operation that a slot's state allows fits it: slot 0 counts as enrolled (R94). -/
theorem fits_enrol {s : State} {k : Nat} (h : slotState s k = 0) (hash : BitVec 256) : (FuseOp.enrol k hash).Fits s.fuses :=
  fun hk => (if_neg hk).symm.trans h

theorem fits_revoke {s : State} {k : Nat} (h : slotState s k = 1) : (FuseOp.revoke k).Fits s.fuses :=
  fun hk => (if_neg hk).symm.trans h

theorem withReady_advance {p q n op : Nat} {f : Dsc → State → State} {s : State} (h : ∀ d, FusesAdvance s (f d s)) :
    NextFusesAdvance s (withReady p q n op f s) := by
  unfold withReady
  split
  · exact (h _).next
  · exact (keepsFuses_refl s).advance.next

theorem execSecEnrol_advance (p q n : Nat) (data : Option (List Byte)) (s : State) :
    NextFusesAdvance s (execSecEnrol p q n data s) := by
  refine withReady_advance fun d => ?_
  split
  · exact (keepsFuses_refl s).advance
  · split
    · exact KeepsFuses.advance (by simp)
    · split
      · exact KeepsFuses.advance (by simp)
      · extract_lets sec u v
        have hu : KeepsFuses s u := ⟨rfl, rfl⟩
        have hv : KeepsFuses u v := by simp [v]
        split
        · exact KeepsFuses.advance (hu.trans (by simp))
        · split
          · exact KeepsFuses.advance (hu.trans (by simp))
          · next hslot =>
            split
            · exact KeepsFuses.advance (hu.trans (by simp))
            · split
              · exact beginFuse_advance d (hu.trans hv).1 (fits_enrol (of_not_not hslot) _)
              · exact KeepsFuses.advance (hu.trans (hv.trans (by simp)))

theorem execSecRevoke_advance (p q n : Nat) (s : State) : NextFusesAdvance s (execSecRevoke p q n s) := by
  refine withReady_advance fun d => ?_
  split
  · exact (keepsFuses_refl s).advance
  · split
    · exact KeepsFuses.advance (by simp)
    · next hslot => exact beginFuse_advance d rfl (fits_revoke (of_not_not hslot))

theorem execSecRollback_advance (p q n : Nat) (s : State) : NextFusesAdvance s (execSecRollback p q n s) := by
  refine withReady_advance fun d => ?_
  dsimp only
  split_ifs
  · exact (keepsFuses_refl s).advance
  · exact KeepsFuses.advance (by simp)
  · exact KeepsFuses.advance (by simp)
  · exact beginFuse_advance d rfl trivial

/-- The operation that ends: what it posts keeps the fuses as they are then. -/
theorem execFuseProgrammingDone_ends (s : State) : NextEndsFuse s (execFuseProgrammingDone s) := by
  unfold execFuseProgrammingDone
  split
  · exact (keepsFuses_refl s).ends.next
  · next op w hop =>
    extract_lets sec u
    have hu : EndsFuse s u := EndsFuse.then (t := setSec { s.sec with fuse := none } { s with fuses := burnFuse op s.fuses })
      (.inr ⟨rfl, by simp [State.burnt, hop, setSec]⟩) (by simp [u])
    refine (hu.then ?_).next
    unfold tellRevoked
    split <;> simp

/-- The test mark is set, and the memories that R75 clears hold no fuse (R103). -/
theorem testMark_advance {s t : State} (h : KeepsFuses { s with fuses := { s.fuses with testMark := true } } t) :
    FusesAdvance s t := by
  refine ⟨fun hs => ?_⟩
  obtain ⟨hwf, hfits⟩ := fusesOnly_iff.1 hs
  have hmark : FusesOnly { s with fuses := { s.fuses with testMark := true } } :=
    fusesOnly_iff.2 ⟨hwf, fun op hop => by cases op <;> exact hfits _ hop⟩
  refine ⟨(h.advance.advance hmark).1, ?_⟩
  rw [h.1]
  exact ⟨rfl, rfl, le_rfl, fun _ => rfl, fun _ _ => slotGrows_refl _⟩

/-- An accepted response marks the fuses and clears the memories; then the test mode is open (R103). -/
theorem execPrivateTestModeOpen_accepts {r : List Byte} {s : State} (hrun : ¬ (!mgmtRuns s || s.sec.testMode) = true)
    (hauth : ¬ (!Config.testAuthority (leBytes 8 s.fuses.serial.toNat ++ leBytes 32 (Config.challenge s.fresh).toNat) r) = true) :
    ∃ u, KeepsFuses { s with fuses := { s.fuses with testMark := true } } u ∧ execPrivateTestModeOpen r s =
      .next (recordMissing (followBlocked (setSec { u.sec with testMode := true } u))) := by
  unfold execPrivateTestModeOpen
  rw [if_neg hrun, if_neg hauth]
  extract_lets _ told fuses cleared cmds waiting lost
  have hcleared : KeepsFuses { s with fuses := { s.fuses with testMark := true } } cleared :=
    KeepsFuses.trans (t := tick { told with fuses := { fuses with testMark := true } }) ⟨rfl, rfl⟩ (by simp [cleared])
  exact ⟨lost, hcleared.trans (by simp [lost]), rfl⟩

theorem execPrivateTestModeOpen_advance (r : List Byte) (s : State) : NextFusesAdvance s (execPrivateTestModeOpen r s) := by
  by_cases hrun : (!mgmtRuns s || s.sec.testMode) = true
  · rw [execPrivateTestModeOpen, if_pos hrun]
    exact (keepsFuses_refl s).advance.next
  by_cases hauth : (!Config.testAuthority
      (leBytes 8 s.fuses.serial.toNat ++ leBytes 32 (Config.challenge s.fresh).toNat) r) = true
  · rw [execPrivateTestModeOpen, if_neg hrun, if_pos hauth]
    exact (KeepsFuses.advance (by simp)).next
  · obtain ⟨u, hu, hopen⟩ := execPrivateTestModeOpen_accepts hrun hauth
    rw [hopen]
    exact (testMark_advance (hu.trans (by simp))).next

/-! ### Every command -/

/-- An instruction of an engine (O58). -/
theorem eddy_advance {i : Instr} {s : State} (h : eddyWord i ≠ none) : NextFusesAdvance s (exec i s) :=
  ⟨fun t ht => (kernelIsolated_iff.1 (kernelsAreIsolated s t i h ht)).keepsFuses.advance⟩

theorem exec_advance (i : Instr) (s : State) : NextFusesAdvance s (exec i s) := by
  cases i with
  | add | sub | and | or | xor | shl | shr | sra | slt | sltu | min | minu | max | maxu | mul | mulh | mulhu | addi
    | andi | ori | xori | shli | shri | srai | slti | sltiu | lui | vsel | vmvs | pset | pget | vmac | aclr | aset
    | jal | jalr | br | lw | lh | lhu | lb | lbu | sw | sh | sb | vld | vst | vldb | aaddH | aaddW | aaddsH | aaddsW
    | aswpH | aswpW | vadd | vsub | vadds | vsubs | vaddus | vsubus | vaddsu | vmin | vmax | vminu | vmaxu | vand
    | vor | vxor | vshl | vshr | vsra | vmul | vmulh | vmulhu | vabsdu | vavgu | vshli | vshri | vsrai | vaddi | vmov
    | vclz | vlane | vrcp | vrsqrt | vcmp | pand | por | pxor | pandn | vrnd | csrr | csrw | lut1 | lut2 | mvq | bar
    | wait | eret | halt => exact eddy_advance nofun
  | secEnrol p q n data => exact execSecEnrol_advance ..
  | secRevoke p q n => exact execSecRevoke_advance ..
  | secRollback p q n => exact execSecRollback_advance ..
  | privateTestModeOpen r => exact execPrivateTestModeOpen_advance ..
  | fuseProgrammingDone => exact (execFuseProgrammingDone_ends _).advance
  | resetNLow => exact (execResetNLow_ends _).advance
  | vddAonLoss => exact (execVddAonLoss_ends _).advance
  | powerOn b => exact (execPowerOn_ends ..).advance
  | railRetryWait => exact (execRailRetryWait_ends _).advance
  | railPowerGood r => exact (execRailPowerGood_ends ..).advance
  | railPowerGoodTimeout n => exact (execRailPowerGoodTimeout_ends ..).advance
  | thermalTrip => exact (execThermalTrip_ends _).advance
  | pmbusAlert words => exact (execPmbusAlert_ends ..).advance
  | powerExitDone => exact (execPowerExitDone_ends _).advance
  | unitAgree => exact (execUnitAgree_ends _).advance
  | stpShutdownTimeout => exact (execStpShutdownTimeout_ends _).advance
  | scanFrameStart => exact (execScanFrameStart_ends _).advance
  | powerReq p q n => exact (execPowerReq_ends ..).advance
  | wakeN => exact (execWakeN_ends _).advance
  | topReset p k => exact (execTopReset_ends ..).advance
  | wakeFromOff => exact (nextEndsFuse_ite _ (startFromOff_ends s)).advance
  | idlePolicy => exact (nextEndsFuse_ite _ ((requestPower_ends ..).after (by simp))).advance
  | sleepPolicy => exact (nextEndsFuse_ite _ (requestPower_ends ..)).advance
  | bmcPowerReq k => exact (nextEndsFuse_ite _ (requestPower_ends ..)).advance
  | rsvInterfaceFailure => exact (nextEndsFuse_ite _ (fatalReset_ends ..)).advance
  | watchdogExpiry => exact (nextEndsFuse_ite _ (fatalReset_ends ..)).advance
  | mgmtMemoryError u => exact (nextEndsFuse_ite _ (fatalReset_ends ..)).advance
  | pllLockLoss u => exact (nextEndsFuse_ite _ (fatalReset_ends ..)).advance
  | _ =>
    refine NextKeepsFuses.advance ?_
    delta exec
    simp

/-- Settles O5: the next command runs on a state that differs in its queue alone. -/
theorem fusesOnlyGrow : Obligations.FusesOnlyGrow := by
  intro s t hs h
  unfold step at h
  split at h
  · exact ((keepsFuses_refl s).advance.next.advance t h).advance hs
  · exact ((exec_advance _ _).advance t h).advance hs

end Sys2Proof.Machine
end

section

/-! ## The security commands (R93 to R98, R103, R176, R177, R572)

Attestation and challenges answer at once; what programs fuses or writes a flash slot begins an operation here and ends it by
its own event. One group per part of the core; O35 assembles their clauses. -/

namespace Sys2Proof.Machine

section Commands

variable {s : State} {p q n : Nat} {d : Dsc}

/-! ### What each command of the security core runs (R176, R177, R572) -/

theorem exec_secAttest (p q n : Nat) (s : State) : exec (.secAttest p q n) s = execSecAttest p q n s := rfl
theorem exec_secCert (p q n : Nat) (s : State) : exec (.secCert p q n) s = execSecCert p q n s := rfl
theorem exec_secChallenge (p q n : Nat) (s : State) : exec (.secChallenge p q n) s = execSecChallenge p q n s := rfl
theorem exec_secRevoke (p q n : Nat) (s : State) : exec (.secRevoke p q n) s = execSecRevoke p q n s := rfl
theorem exec_secRollback (p q n : Nat) (s : State) : exec (.secRollback p q n) s = execSecRollback p q n s := rfl

theorem exec_secEnrol (p q n : Nat) (data : Option (List Byte)) (s : State) :
    exec (.secEnrol p q n data) s = execSecEnrol p q n data s := rfl

theorem exec_secFwUpdate (p q n : Nat) (data : Option (List Byte)) (s : State) :
    exec (.secFwUpdate p q n data) s = execSecFwUpdate p q n data s := rfl

theorem exec_fuseProgrammingDone (s : State) : exec .fuseProgrammingDone s = execFuseProgrammingDone s := rfl
theorem exec_fwFlashWriteDone (ok : Bool) (s : State) : exec (.fwFlashWriteDone ok) s = execFwFlashWriteDone ok s := rfl

/-! ### Attestation and the certificate (R97, R98) -/

theorem secAttest_reports (h : readyDsc s p q n 0x0D01 = some d) : exec (.secAttest p q n) s =
    .next (completeI d .ok 0 (monitorAdd d.port 1616 (emit (.dma d.port (d.u64 16) (reportBody s (leBytes 32 (d.get 24 32)) ++
      leBytes 1280 (Config.falconSign s.fresh (shake256 (reportBody s (leBytes 32 (d.get 24 32))) 64)).toNat))
      { s with fresh := s.fresh + 1 }))) := by
  rw [exec_secAttest, execSecAttest, withReady_of_ready h]
  rfl

theorem secCert_sends (h : readyDsc s p q n 0x0D07 = some d) : exec (.secCert p q n) s =
    .next (completeI d .ok 0 (monitorAdd d.port 3120 (emit (.dma d.port (d.u64 16) (certificate s)) s))) := by
  rw [exec_secCert, execSecCert, withReady_of_ready h]

/-! ### Challenges (R95, R177) -/

theorem lapse_of_none (h : s.sec.challenge = none) : lapse s = s := by simp [lapse, h]

theorem lapse_of_some {c : Nat × BitVec 256} (h : s.sec.challenge = some c) :
    lapse s = setFlag Flag.SEC_challenge_lapsed { s with sec := { s.sec with challenge := none } } := by
  simp [lapse, h, setSec]

theorem exec_secChallenge_of_ready (h : readyDsc s p q n 0x0D02 = some d) : exec (.secChallenge p q n) s =
    .next (completeI d .ok 0 (monitorAdd d.port 32 (emit (.dma d.port (d.u64 16) (leBytes 32 (Config.challenge s.fresh).toNat))
      (setSec { (lapse s).sec with challenge := some (d.port, Config.challenge s.fresh) } (tick (lapse s)))))) := by
  rw [exec_secChallenge, execSecChallenge, withReady_of_ready h]
  rfl

theorem secChallenge_sends (h : readyDsc s p q n 0x0D02 = some d) (hnone : s.sec.challenge = none) :
    exec (.secChallenge p q n) s =
      .next (completeI d .ok 0 (monitorAdd d.port 32 (emit (.dma d.port (d.u64 16) (leBytes 32 (Config.challenge s.fresh).toNat))
        { s with fresh := s.fresh + 1, sec := { s.sec with challenge := some (d.port, Config.challenge s.fresh) } }))) := by
  rw [exec_secChallenge_of_ready h, lapse_of_none hnone]
  rfl

theorem challengeExpiry_lapses {c : Nat × BitVec 256} (h : s.sec.challenge = some c) : exec .challengeExpiry s =
    .next (setFlag Flag.SEC_challenge_lapsed { s with sec := { s.sec with challenge := none } }) :=
  congrArg Host.Outcome.next (lapse_of_some h)

/-! ### Enrolment (R95, R177) -/

theorem enrolSlot_of_named {k : Nat} (h : 1 ≤ k) (s : State) : enrolSlot s k = some k :=
  if_neg (Nat.pos_iff_ne_zero.1 h)

@[simp] theorem slotState_setSec (v : SecState) (s : State) (k : Nat) : slotState (setSec v s) k = slotState s k := rfl

/-- The 3,073 bytes of a key and its signature, checked against the challenge. -/
def enrolVerified (c : BitVec 256) (bs : List Byte) : Bool :=
  Config.falconVerify (bs.take 1793) (leBytes 32 c.toNat) ((bs.drop 1793).take 1280)

/-- With the challenge of its port and an empty named slot, the signature alone decides (R95). -/
theorem secEnrol_checks {c : BitVec 256} (bs : List Byte) (h : readyDsc s p q n 0x0D03 = some d) (hfuse : s.sec.fuse = none)
    (hc : s.sec.challenge = some (d.port, c)) (hslot : 1 ≤ d.u8 16) (hempty : slotState s (d.u8 16) = 0) :
    exec (.secEnrol p q n (some bs)) s = .next (if enrolVerified c bs then
        beginFuse (.enrol (d.u8 16) (BitVec.ofNat 256 (ofLe (shake256 (bs.take 1793) 32)))) d
          (monitorAdd d.port 3073 (setSec { s.sec with challenge := none } s))
      else complete d .signatureFail 0 0 (monitorAdd d.port 3073 (setSec { s.sec with challenge := none } s))) := by
  rw [exec_secEnrol, execSecEnrol, withReady_of_ready h]
  simp [hfuse, hc, enrolSlot_of_named hslot, hempty, enrolVerified]

/-- Every outcome uses up the challenge and keeps the fuses; an accepted key begins its programming. -/
theorem secEnrol_takesEffect {c : BitVec 256} (bs : List Byte) (h : readyDsc s p q n 0x0D03 = some d)
    (hfuse : s.sec.fuse = none) (hc : s.sec.challenge = some (d.port, c)) (hslot : 1 ≤ d.u8 16)
    (hempty : slotState s (d.u8 16) = 0) :
    ∃ t, exec (.secEnrol p q n (some bs)) s = .next t ∧ t.sec.challenge = none ∧ t.fuses = s.fuses ∧
      (enrolVerified c bs = true → t.sec.fuse =
        some (.enrol (d.u8 16) (BitVec.ofNat 256 (ofLe (shake256 (bs.take 1793) 32))), d.port, d.sq, d.seq)) ∧
      (enrolVerified c bs = false → t.sec.fuse = none) := by
  refine ⟨_, secEnrol_checks bs h hfuse hc hslot hempty, ?_⟩
  cases enrolVerified c bs <;> simp [beginFuse, setSec, hfuse]

theorem secEnrol_noChallenge (h : readyDsc s p q n 0x0D03 = some d) (hfuse : s.sec.fuse = none)
    (hc : s.sec.challenge = none) : exec (.secEnrol p q n none) s = .next (complete d .notReady 0 0 s) := by
  simp [exec_secEnrol, execSecEnrol, withReady_of_ready h, hfuse, hc]

/-! ### Revocation and rollback protection (R93, R96, R177) -/

theorem exec_secRevoke_of_ready (h : readyDsc s p q n 0x0D04 = some d) (hfuse : s.sec.fuse = none) :
    exec (.secRevoke p q n) s = .next (if slotState s (d.u8 16) ≠ 1 then refuseWith d .refused 2 s
      else beginFuse (.revoke (d.u8 16)) d s) := by
  rw [exec_secRevoke, execSecRevoke, withReady_of_ready h, if_neg (by simp [hfuse])]

theorem secRevoke_begins (h : readyDsc s p q n 0x0D04 = some d) (hfuse : s.sec.fuse = none)
    (hslot : slotState s (d.u8 16) = 1) : exec (.secRevoke p q n) s =
      .next (setRunning d { s with sec := { s.sec with fuse := some (.revoke (d.u8 16), d.port, d.sq, d.seq) } }) := by
  rw [exec_secRevoke_of_ready h hfuse, if_neg (not_not.2 hslot)]
  rfl

theorem secRevoke_refused (h : readyDsc s p q n 0x0D04 = some d) (hfuse : s.sec.fuse = none)
    (hslot : slotState s (d.u8 16) ≠ 1) : exec (.secRevoke p q n) s = .next (complete d .refused 0 (resAt 16 2) s) := by
  rw [exec_secRevoke_of_ready h hfuse, if_pos hslot]
  rfl

theorem secRollback_begins (h : readyDsc s p q n 0x0D06 = some d) (hfuse : s.sec.fuse = none)
    (hadvance : s.boot.running.advance = true) (hbelow : s.fuses.minVersion < min s.boot.running.securityVersion 64) :
    exec (.secRollback p q n) s = .next (setRunning d { s with sec := { s.sec with
      fuse := some (.minimum (min s.boot.running.securityVersion 64), d.port, d.sq, d.seq) } }) := by
  rw [exec_secRollback, execSecRollback, withReady_of_ready h, if_neg (by simp [hfuse]), if_neg (by simp [hadvance]),
    if_neg hbelow.not_ge]
  rfl

/-! ### The end of a fuse operation (R572) -/

@[simp] theorem endDsc_frame (w : Nat × Nat × Nat) (st : Status) (r : BitVec 96) (s : State) :
    (endDsc w st r s).fuses = s.fuses ∧ (endDsc w st r s).sec = s.sec := by
  unfold endDsc
  split <;> simp

@[simp] theorem tellRevoked_frame (op : FuseOp) (s : State) :
    (tellRevoked op s).fuses = s.fuses ∧ (tellRevoked op s).sec = s.sec := by
  unfold tellRevoked
  split <;> simp

theorem fuseProgrammingDone_burns {op : FuseOp} {w : Nat × Nat × Nat} (h : s.sec.fuse = some (op, w)) :
    ∃ t, exec .fuseProgrammingDone s = .next t ∧ t.fuses = burnFuse op s.fuses ∧ t.sec = { s.sec with fuse := none } := by
  rw [exec_fuseProgrammingDone, execFuseProgrammingDone, h]
  exact ⟨_, rfl, by simp [setSec], by simp [setSec]⟩

/-! ### Firmware updates (R89, R92, R177) -/

theorem slotState_of_fuses {t : State} (h : t.fuses = s.fuses) (k : Nat) : slotState t k = slotState s k := by
  rw [slotState, slotState, keySlot, keySlot, h]

theorem slotHash_of_fuses {t : State} (h : t.fuses = s.fuses) (k : Nat) : slotHash t k = slotHash s k := by
  rw [slotHash, slotHash, keySlot, keySlot, h]

/-- Verification reads nothing but the fuses (R92). -/
theorem verifyImage_of_fuses {t : State} (h : t.fuses = s.fuses) (img : List Byte) (ty room : Nat) :
    verifyImage t img ty room = verifyImage s img ty room := by
  simp only [verifyImage, slotState_of_fuses h, slotHash_of_fuses h, h]

theorem verifyImage_of_badFormat {img : List Byte} {ty : Nat} (h : formatOk img ty = false) (s : State) (room : Nat) :
    verifyImage s img ty room = .reject := if_pos (by simp [h])

theorem updateSlot_monitorAdd (m v : Nat) (s : State) : updateSlot (monitorAdd m v s) = updateSlot s := by
  simp [updateSlot, rdF]

theorem secFwUpdate_fetchFault (h : readyDsc s p q n 0x0D05 = some d) (hflash : s.sec.flash = none) :
    exec (.secFwUpdate p q n none) s = .next (complete d .fetchFault 0 0 s) := by
  rw [exec_secFwUpdate, execSecFwUpdate, withReady_of_ready h, if_neg (by simp [hflash])]

/-- An accepted image is written to its slot when its update sequence is higher than the running one. -/
theorem secFwUpdate_accepted {img dig : List Byte} (h : readyDsc s p q n 0x0D05 = some d) (hflash : s.sec.flash = none)
    (hv : verifyImage s (img.take (d.u32 20)) 1 (d.u32 20) = .accept dig) : exec (.secFwUpdate p q n (some img)) s =
      .next (if imageUpdateSeq img ≤ s.boot.running.updateSeq then refuseWith d .refused 2 (monitorAdd d.port (d.u32 20) s)
        else setRunning d (setSec { s.sec with
            flash := some (updateSlot s, fwInfo img dig 0, d.port, d.sq, d.seq), lastSlot := some (updateSlot s) }
          (monitorAdd d.port (d.u32 20) s))) := by
  rw [exec_secFwUpdate, execSecFwUpdate, withReady_of_ready h, if_neg (by simp [hflash])]
  simp [verifyImage_of_fuses (s := s) (t := monitorAdd ..), updateSlot_monitorAdd, hv]

/-- Any other verdict, a version below the minimum included, is a failed signature check. -/
theorem secFwUpdate_rejected {img : List Byte} (h : readyDsc s p q n 0x0D05 = some d) (hflash : s.sec.flash = none)
    (hv : ∀ dig, verifyImage s (img.take (d.u32 20)) 1 (d.u32 20) ≠ .accept dig) : exec (.secFwUpdate p q n (some img)) s =
      .next (complete d .signatureFail 0 0 (setFlag Flag.SEC_sig_fail (monitorAdd d.port (d.u32 20) s))) := by
  rw [exec_secFwUpdate, execSecFwUpdate, withReady_of_ready h, if_neg (by simp [hflash])]
  cases hverdict : verifyImage s (img.take (d.u32 20)) 1 (d.u32 20) with
  | accept dig => exact absurd hverdict (hv dig)
  | reject | rollback => simp [verifyImage_of_fuses (s := s) (t := monitorAdd ..), hverdict]

theorem secFwUpdate_takesEffect (img : List Byte) (h : readyDsc s p q n 0x0D05 = some d) (hflash : s.sec.flash = none) :
    ∃ t, exec (.secFwUpdate p q n (some img)) s = .next t ∧ t.fuses = s.fuses ∧
      ∀ dig, verifyImage s (img.take (d.u32 20)) 1 (d.u32 20) = .accept dig →
        s.boot.running.updateSeq < imageUpdateSeq img →
          t.sec.flash = some (updateSlot s, fwInfo img dig 0, d.port, d.sq, d.seq) := by
  by_cases hv : ∃ dig, verifyImage s (img.take (d.u32 20)) 1 (d.u32 20) = .accept dig
  · obtain ⟨dig, hdig⟩ := hv
    refine ⟨_, secFwUpdate_accepted h hflash hdig, ?_, fun dig' hdig' hnewer => ?_⟩
    · split <;> simp [refuseWith, setSec]
    · obtain rfl : dig' = dig := Verdict.accept.inj (hdig'.symm.trans hdig)
      simp [hnewer.not_ge, setSec]
  · exact ⟨_, secFwUpdate_rejected h hflash fun dig hdig => hv ⟨dig, hdig⟩, by simp, fun dig hdig => absurd ⟨dig, hdig⟩ hv⟩

theorem secFwUpdate_badFormat (img : List Byte) (h : readyDsc s p q n 0x0D05 = some d) (hflash : s.sec.flash = none)
    (hbad : formatOk (img.take (d.u32 20)) 1 = false) : exec (.secFwUpdate p q n (some img)) s =
      .next (complete d .signatureFail 0 0 (setFlag Flag.SEC_sig_fail (monitorAdd d.port (d.u32 20) s))) :=
  secFwUpdate_rejected h hflash (by simp [verifyImage_of_badFormat hbad])

/-- The slot that was being written is broken after 300 s (R89). -/
theorem fwFlashWriteDone_breaks {k : Nat} {i : FwInfo} {w : Nat × Nat × Nat} (h : s.sec.flash = some (k, i, w)) :
    exec (.fwFlashWriteDone false) s = .next (endDsc w .timeout 0
      { s with sec := { s.sec with flash := none, broken := k :: s.sec.broken.filter (fun b => b != k) } }) := by
  rw [exec_fwFlashWriteDone, execFwFlashWriteDone, h]
  rfl

theorem exec_fwFlashWriteDone_of_flash {k : Nat} {i : FwInfo} {w : Nat × Nat × Nat} (h : s.sec.flash = some (k, i, w)) :
    exec (.fwFlashWriteDone true) s = .next (endDsc w .ok (resAt 16 k) (setFlag Flag.SEC_flash_write
      (wr (if k = 0 then Reg.SEC_SEQ_A else Reg.SEC_SEQ_B) (BitVec.ofNat 32 i.updateSeq)
        (setSec { s.sec with flash := none, broken := s.sec.broken.filter (fun b => b != k) } s)))) := by
  rw [exec_fwFlashWriteDone, execFwFlashWriteDone, h]
  rfl

theorem fwFlashWriteDone_mends {k : Nat} {i : FwInfo} {w : Nat × Nat × Nat} (h : s.sec.flash = some (k, i, w)) :
    ∃ t, exec (.fwFlashWriteDone true) s = .next t ∧ t.sec.flash = none ∧
      t.sec.broken = s.sec.broken.filter (fun b => b != k) ∧ t.fuses = s.fuses :=
  ⟨_, exec_fwFlashWriteDone_of_flash h, by simp [setSec], by simp [setSec], by simp [setSec]⟩

/-! ### Private test modes (R103) -/

@[simp] theorem bootFailure_sec (c slot detail : Nat) (s : State) : (bootFailure c slot detail s).sec = s.sec := by
  rw [bootFailure, apply_ite State.sec]
  simp

@[simp] theorem recordMissing_sec (s : State) : (recordMissing s).sec = s.sec := by
  unfold recordMissing
  split
  · rfl
  · split
    · rfl
    · split
      · rfl
      · simp

theorem privateTestModeOpen_takesEffect {r : List Byte} (hrun : mgmtRuns s = true) (hclosed : s.sec.testMode = false) :
    ∃ t, exec (.privateTestModeOpen r) s = .next t ∧
      (Config.testAuthority (leBytes 8 s.fuses.serial.toNat ++ leBytes 32 (Config.challenge s.fresh).toNat) r = true →
        t.fuses = { s.fuses with testMark := true } ∧ t.sec.testMode = true) ∧
      (Config.testAuthority (leBytes 8 s.fuses.serial.toNat ++ leBytes 32 (Config.challenge s.fresh).toNat) r = false →
        t = { s with fresh := s.fresh + 1, out := s.out ++ [.testChallenge
          (leBytes 8 s.fuses.serial.toNat ++ leBytes 32 (Config.challenge s.fresh).toNat)] }) := by
  have hopens : ¬ (!mgmtRuns s || s.sec.testMode) = true := by simp [hrun, hclosed]
  cases hauth : Config.testAuthority (leBytes 8 s.fuses.serial.toNat ++ leBytes 32 (Config.challenge s.fresh).toNat) r
  case false =>
    exact ⟨_, (if_neg hopens).trans (if_pos (by simp [hauth])), nofun, fun _ => rfl⟩
  case true =>
    obtain ⟨u, hu, hopen⟩ := execPrivateTestModeOpen_accepts (r := r) hopens (by simp [hauth])
    refine ⟨_, hopen, fun _ => ⟨?_, by simp [followBlocked, setSec]⟩, nofun⟩
    exact (hu.trans (by simp)).1

end Commands

/-- Settles O35: each clause is the command's lemma above. -/
theorem securityCommands : Obligations.SecurityCommands := fun _ _ _ _ _ =>
  ⟨secAttest_reports, secCert_sends, secChallenge_sends, fun _ => challengeExpiry_lapses,
    fun _ bs => secEnrol_takesEffect bs, secEnrol_noChallenge, secRevoke_begins, secRevoke_refused, secRollback_begins,
    secFwUpdate_fetchFault, secFwUpdate_takesEffect, secFwUpdate_badFormat, fun _ _ => fuseProgrammingDone_burns,
    fun _ _ _ => fwFlashWriteDone_breaks, fun _ _ _ => fwFlashWriteDone_mends, fun _ => privateTestModeOpen_takesEffect⟩

end Sys2Proof.Machine
end

section

/-! ## Descriptors in flight and their completions (R124, R125, R127, R134)

Posting an event or a completion touches the rings alone, so the descriptors in flight change only by the one that leaves. -/

namespace Sys2Proof.Machine

/-! ### What keeps the descriptors in flight -/

@[simp] theorem sendMsix_host (p v : Nat) (s : State) : (sendMsix p v s).host = s.host := by
  unfold sendMsix
  split <;> simp

@[simp] theorem logEvent_host (e : EventRec) (s : State) : (logEvent e s).host = s.host := by
  unfold logEvent
  split
  · simp
  · rfl

/-- What the posting of events and records leaves of the ports: submission rings, descriptors and groups. -/
def HostState.submitted (h : HostState) : HostState := { h with ports := [], cq := [], evq := [] }

theorem inflight_of_submitted {h k : HostState} (e : h.submitted = k.submitted) : h.inflight = k.inflight :=
  (congrArg HostState.inflight e :)

theorem sq_of_submitted {h k : HostState} (e : h.submitted = k.submitted) : h.sq = k.sq :=
  (congrArg HostState.sq e :)

@[simp] theorem setPort_submitted (p : Nat) (v : PortState) (s : State) :
    (setPort p v s).host.submitted = s.host.submitted := rfl
@[simp] theorem setCq_submitted (p n : Nat) (v : CqState) (s : State) :
    (setCq p n v s).host.submitted = s.host.submitted := rfl
@[simp] theorem setEvq_submitted (p : Nat) (v : CqState) (s : State) :
    (setEvq p v s).host.submitted = s.host.submitted := rfl

@[simp] theorem signalEvq_submitted (p : Nat) (s : State) : (signalEvq p s).host.submitted = s.host.submitted := by
  unfold signalEvq sendEvq
  split_ifs <;> simp

@[simp] theorem signalCq_submitted (p n : Nat) (s : State) : (signalCq p n s).host.submitted = s.host.submitted := by
  unfold signalCq sendCq
  split_ifs <;> simp

@[simp] theorem writeEvent_submitted (p : Nat) (e : EventRec) (s : State) :
    (writeEvent p e s).host.submitted = s.host.submitted := by simp [writeEvent]

@[simp] theorem writeCompletion_submitted (p n : Nat) (c : Completion) (s : State) :
    (writeCompletion p n c s).host.submitted = s.host.submitted := by simp [writeCompletion]

@[simp] theorem reportLost_submitted (p : Nat) (s : State) : (reportLost p s).host.submitted = s.host.submitted := by
  unfold reportLost
  dsimp only
  split_ifs <;> simp

@[simp] theorem postToPort_submitted (e : EventRec) (s : State) (p : Nat) :
    (postToPort e s p).host.submitted = s.host.submitted := by
  unfold postToPort
  dsimp only
  split_ifs <;> simp

@[simp] theorem foldl_postToPort_submitted (e : EventRec) (l : List Nat) (s : State) :
    (l.foldl (postToPort e) s).host.submitted = s.host.submitted :=
  List.foldlRecOn (motive := fun t : State => t.host.submitted = s.host.submitted) l _ rfl
    fun _ ht p _ => (postToPort_submitted e _ p).trans ht

@[simp] theorem postEvent_submitted (r : Route) (c u v : Nat) (x : BitVec 64) (s : State) :
    (postEvent r c u v x s).host.submitted = s.host.submitted := by
  unfold postEvent
  dsimp only
  split_ifs <;> simp

@[simp] theorem postCompletion_submitted (p n : Nat) (c : Completion) (s : State) :
    (postCompletion p n c s).host.submitted = s.host.submitted := by
  unfold postCompletion
  dsimp only
  split_ifs <;> simp

@[simp] theorem drainSq_inflight (p n : Nat) (s : State) : (drainSq p n s).host.inflight = s.host.inflight := by
  unfold drainSq
  split_ifs
  · simp [setSq]
  · rfl

theorem postEvent_inflight (r : Route) (c u v : Nat) (x : BitVec 64) (s : State) :
    (postEvent r c u v x s).host.inflight = s.host.inflight := inflight_of_submitted (postEvent_submitted ..)

theorem postCompletion_inflight (p n : Nat) (c : Completion) (s : State) :
    (postCompletion p n c s).host.inflight = s.host.inflight := inflight_of_submitted (postCompletion_submitted ..)

/-- A descriptor that completes leaves the device, and no other does (R124). -/
theorem complete_inflight (d : Dsc) (st : Status) (f : Nat) (r : BitVec 96) (s : State) :
    (complete d st f r s).host.inflight = s.host.inflight.filter (fun e => !e.is d.port d.sq d.seq) := by
  unfold complete
  dsimp only
  split_ifs <;> simp [dropDsc, postEvent_inflight, postCompletion_inflight]

theorem mem_complete_inflight {d e : Dsc} {st : Status} {f : Nat} {r : BitVec 96} {s : State} :
    e ∈ (complete d st f r s).host.inflight ↔ e ∈ s.host.inflight ∧ e.is d.port d.sq d.seq = false := by
  simp [complete_inflight]

/-! ### Where a completion goes (R127) -/

theorem postCompletion_free {s : State} {p n : Nat} (c : Completion) (hfree : 0 < cqFree s p n)
    (hheld : (cqOf s p n).held = []) :
    postCompletion p n c s = writeCompletion p n c s := if_pos ⟨hfree, hheld⟩

/-- A ring that is full holds the record; its stall has been told before. -/
theorem postCompletion_stalled {s : State} {p n : Nat} (c : Completion) (hfull : cqFree s p n = 0)
    (hstalled : (cqOf s p n).stalled = true) :
    postCompletion p n c s = setCq p n { cqOf s p n with held := (cqOf s p n).held ++ [c], stalled := true } s := by
  rw [postCompletion, if_neg fun h => absurd h.1 (by omega), if_pos hstalled]

/-! ### Which descriptor may start (R134) -/

theorem dscOf_is {s : State} {p q n : Nat} {d : Dsc} (h : dscOf s p q n = some d) : d.is p q n = true :=
  List.find?_some (p := fun d : Dsc => d.is p q n) h

theorem Dsc.is_iff {d : Dsc} {p q n : Nat} : d.is p q n = true ↔ d.port = p ∧ d.sq = q ∧ d.seq = n := decide_eq_true_iff

theorem readyDsc_eq_some {s : State} {p q n op : Nat} {d : Dsc} (h : readyDsc s p q n op = some d) :
    dscOf s p q n = some d ∧ d.opcode = op ∧ d.phase = .ready ∧ mayStart s d = true := by
  unfold readyDsc at h
  split at h
  · next e he =>
    split_ifs at h with hready
    obtain rfl := Option.some.inj h
    obtain ⟨hop, hphase, hstart, -⟩ := hready
    exact ⟨he, hop, hphase, hstart⟩
  · cases h

/-- Every earlier descriptor of its ring has started, and behind a fence none is left. -/
theorem earlier_of_mayStart {s : State} {d : Dsc} (h : mayStart s d = true) :
    ∀ e ∈ s.host.inflight, e.port = d.port → e.sq = d.sq → e.seq < d.seq → d.fence = false ∧ e.phase ≠ .ready := by
  intro e he hport hsq hseq
  have hall := List.all_eq_true.1 (Bool.and_eq_true_iff.1 h).2 e he
  simpa [hport, hsq, hseq] using hall

theorem withReady_of_none {s : State} {p q n op : Nat} (h : readyDsc s p q n op = none) (f : Dsc → State → State) :
    withReady p q n op f s = .next s := by rw [withReady, h]

/-- Settles O8: where a record goes, what stays in flight, and which descriptor may start. -/
theorem descriptorLife : Obligations.DescriptorLife := by
  refine ⟨fun s d c p n => ⟨postCompletion_free c, postCompletion_stalled c, fun _ _ _ _ he => (mem_complete_inflight.1 he).2,
    fun _ _ _ _ he hother => mem_complete_inflight.2 ⟨he, hother⟩⟩,
    fun s p q n op f => ⟨fun d hd => ?starts, (withReady_of_none · f)⟩⟩
  case starts =>
    obtain ⟨hdsc, hop, -, hstart⟩ := readyDsc_eq_some hd
    have hid := dscOf_is hdsc
    obtain ⟨rfl, rfl, rfl⟩ := Dsc.is_iff.1 hid
    exact ⟨hid, hop, earlier_of_mayStart hstart⟩

end Sys2Proof.Machine
end

section

/-! ## Which ports an event reaches (R115, R129) -/

namespace Sys2Proof.Machine

theorem lt_four_of_portExists {s : State} {p : Nat} (h : portExists s p = true) : p < 4 := by
  simp only [portExists, Bool.and_eq_true, decide_eq_true_eq] at h
  exact h.1.1

/-- The four ports are tried in order; one that does not exist takes no event (R51). -/
theorem mem_routePorts_device {s : State} {code p : Nat} :
    p ∈ routePorts s .device code ↔ portExists s p = true ∧ (p = owner s ∨ holdsGroup s p (code / 256) = true) := by
  have hlist : portExists s p = true → p ∈ [0, 1, 2, 3] := fun h => by
    have := lt_four_of_portExists h
    interval_cases p <;> simp
  simp only [routePorts, List.mem_filter, Bool.and_eq_true, Bool.or_eq_true, decide_eq_true_eq]
  exact and_iff_right_of_imp fun h => hlist h.1

theorem postToPort_filtered {s : State} {p : Nat} {e : EventRec} (h : passes s p e.severity = false) :
    postToPort e s p = s := by
  rw [postToPort, if_pos (by simp [h])]

theorem reportLost_of_none {s : State} {p : Nat} (h : (portOf s p).lostSince = 0) : reportLost p s = s :=
  if_neg fun hlost => hlost.1 h

/-- With no free entry the event is lost: the port counts it and flags it (R129). -/
theorem postToPort_lost {s : State} {p : Nat} {e : EventRec} (hpass : passes s p e.severity = true)
    (hnone : (portOf s p).lostSince = 0) (hfull : evqFree s p = 0) :
    postToPort e s p = setFlag (Flag.PORT_ev_lost p) (bumpSat (Reg.PORT_EVQ_LOST p) (0, 32) 1
      (setPort p { portOf s p with lostSince := 1 } s)) := by
  rw [postToPort, if_neg (by simp [hpass])]
  dsimp only
  rw [reportLost_of_none hnone, if_neg (by omega), hnone]

/-- Settles O9: the route of an event of the device, and what a port's filter and a full ring do with it. -/
theorem eventRouting : Obligations.EventRouting := fun _ _ =>
  ⟨fun _ => mem_routePorts_device, fun _ _ => postToPort_filtered, fun _ _ => postToPort_lost⟩

end Sys2Proof.Machine
end

section

/-! ## Tail words (R120) -/

namespace Sys2Proof.Machine

/-! ### The rings' own states -/

theorem sqOf_setSq {s : State} (h : tabWf (fun _ => ({} : SqState)) s.host.sq = true) (p n : Nat) (v : SqState) :
    sqOf (setSq p n v s) p n = v := by
  rw [sqOf, setSq, tabGet_set _ ((tabWf_iff _ _).1 h).1, if_pos rfl]

theorem sqWord_advance {s : State} {p n w a t g : Nat} (hon : ringOn s (Reg.SQn_CFG p n) = true)
    (h : judgeWord w (sqOf s p n).tail (sqOf s p n).gen (ringSize s (Reg.SQn_CFG p n)) (sqFree s p n) = .advance a t g) :
    sqWord p n w s = setSq p n { sqOf s p n with
      tail := t, gen := g, waiting := (sqOf s p n).waiting + a, outstanding := (sqOf s p n).outstanding + a } s := by
  rw [sqWord, if_neg (by simp [hon])]
  dsimp only
  rw [h]

theorem sqWord_bad {s : State} {p n w : Nat} (hon : ringOn s (Reg.SQn_CFG p n) = true)
    (h : judgeWord w (sqOf s p n).tail (sqOf s p n).gen (ringSize s (Reg.SQn_CFG p n)) (sqFree s p n) = .bad) :
    sqWord p n w s = doorbellBad p n w (sqOf s p n).badSeen (setSq p n { sqOf s p n with
      badSeen := if (sqOf s p n).badSeen.contains w then (sqOf s p n).badSeen else w :: (sqOf s p n).badSeen } s) := by
  rw [sqWord, if_neg (by simp [hon])]
  dsimp only
  rw [h]

/-! ### What a word says (R120) -/

/-- A word's halves: the tail below, the generation above. -/
theorem word_halves {t g : Nat} (ht : t < 65536) (hg : g < 65536) :
    (t + 0x10000 * g) % 0x10000 = t ∧ bitsAt (t + 0x10000 * g) 16 16 = g ∧ (t + 0x10000 * g) / 2 ^ 32 = 0 := by
  refine ⟨?_, ?_, ?_⟩
  · omega
  · unfold bitsAt
    omega
  · omega

theorem judgeWord_forward {t t0 g size free : Nat} (hg : g < 65536) (hsize : size ≤ 65536) (hlt : t0 < t) (ht : t < size)
    (hfree : t - t0 ≤ free) : judgeWord (t + 0x10000 * g) t0 g size free = .advance (t - t0) t g := by
  obtain ⟨htail, hgen, hhigh⟩ := word_halves (ht.trans_le hsize) hg
  have hn : (t + size - t0) % size = t - t0 := by
    rw [show t + size - t0 = t - t0 + size by omega, Nat.add_mod_right, Nat.mod_eq_of_lt (by omega)]
  simp only [judgeWord, htail, hgen, hhigh, hn]
  rw [if_neg (by omega), if_pos ⟨trivial, ht, (if_pos hlt.le).symm, hfree⟩]

/-- A word below the accepted tail has wrapped, in the next generation. -/
theorem judgeWord_wrapped {t t0 g size free : Nat} (hsize : size ≤ 65536) (h0 : t0 < size) (hlt : t < t0)
    (hfree : t + size - t0 ≤ free) :
    judgeWord (t + 0x10000 * ((g + 1) % 65536)) t0 g size free = .advance (t + size - t0) t ((g + 1) % 65536) := by
  obtain ⟨htail, hgen, hhigh⟩ := word_halves (t := t) (g := (g + 1) % 65536) (by omega) (Nat.mod_lt _ (by decide))
  have hn : (t + size - t0) % size = t + size - t0 := Nat.mod_eq_of_lt (by omega)
  simp only [judgeWord, htail, hgen, hhigh, hn]
  rw [if_neg (by omega), if_pos ⟨trivial, hlt.trans h0, (if_neg (by omega)).symm, hfree⟩]

/-- A word past the ring, or for more descriptors than there are free slots. -/
theorem judgeWord_bad {t t0 g size free : Nat} (hg : g < 65536) (hlt : t0 < t) (ht : t < 65536)
    (hbad : size ≤ t ∨ free < t - t0) : judgeWord (t + 0x10000 * g) t0 g size free = .bad := by
  obtain ⟨htail, hgen, hhigh⟩ := word_halves ht hg
  simp only [judgeWord, htail, hgen, hhigh]
  rw [if_neg (by omega), if_neg]
  rintro ⟨-, hslot, -, hfree⟩
  rw [show t + size - t0 = t - t0 + size by omega, Nat.add_mod_right, Nat.mod_eq_of_lt (by omega)] at hfree
  omega

/-- A rejected word leaves the submission rings: it is flagged, and told the first time. -/
theorem doorbellBad_sq (p ring w : Nat) (seen : List Nat) (s : State) : (doorbellBad p ring w seen s).host.sq = s.host.sq := by
  refine sq_of_submitted ?_
  unfold doorbellBad
  dsimp only
  split <;> simp

theorem sqOf_sqWord_bad {s : State} {p n w : Nat} (hwf : tabWf (fun _ => ({} : SqState)) s.host.sq = true)
    (hon : ringOn s (Reg.SQn_CFG p n) = true)
    (h : judgeWord w (sqOf s p n).tail (sqOf s p n).gen (ringSize s (Reg.SQn_CFG p n)) (sqFree s p n) = .bad) :
    (sqOf (sqWord p n w s) p n).tail = (sqOf s p n).tail ∧ (sqOf (sqWord p n w s) p n).waiting = (sqOf s p n).waiting := by
  have hkept : ∀ seen u, sqOf (doorbellBad p n w seen u) p n = sqOf u p n := fun seen u => by
    rw [sqOf, sqOf, doorbellBad_sq]
  rw [sqWord_bad hon h, hkept, sqOf_setSq hwf]
  exact ⟨rfl, rfl⟩

/-- Settles O19: what each word says against the accepted tail, and what the ring then holds. -/
theorem tailWords : Obligations.TailWords := by
  intro s p n t hon htail hsize hgen hwf
  refine ⟨fun hlt ht hfree => ?forward, fun hlt hfree => ?wrapped, fun hlt ht hbad => ?refused⟩
  case forward => rw [sqWord_advance hon (judgeWord_forward hgen hsize hlt ht hfree), sqOf_setSq hwf]
  case wrapped => rw [sqWord_advance hon (judgeWord_wrapped hsize htail hlt hfree), sqOf_setSq hwf]
  case refused => exact sqOf_sqWord_bad hwf hon (judgeWord_bad hgen hlt ht hbad)

end Sys2Proof.Machine
end

section

/-! ## Power states: requests, policies, the handshake and exits (R142, R172, R511 to R520, R526 to R529) -/

namespace Sys2Proof.Machine

/-! ### The commands' meanings -/

theorem exec_powerReq (p q n : Nat) (s : State) : exec (.powerReq p q n) s = execPowerReq p q n s := rfl
theorem exec_bmcPowerReq (k : Nat) (s : State) : exec (.bmcPowerReq k) s = execBmcPowerReq k s := rfl
theorem exec_idlePolicy (s : State) : exec .idlePolicy s = execIdlePolicy s := rfl
theorem exec_sleepPolicy (s : State) : exec .sleepPolicy s = execSleepPolicy s := rfl
theorem exec_unitAgree (s : State) : exec .unitAgree s = execUnitAgree s := rfl
theorem exec_stpShutdownTimeout (s : State) : exec .stpShutdownTimeout s = execStpShutdownTimeout s := rfl
theorem exec_powerExitDone (s : State) : exec .powerExitDone s = execPowerExitDone s := rfl

/-! ### Who asks (R142, R172, R511, R514, R516) -/

/-- A request for another state than RUN is no IDLE trigger: it goes to PWR as it is. -/
theorem powerReq_asks {s : State} {p q n : Nat} {d : Dsc} (h : readyDsc s p q n 0x0A01 = some d)
    (hrun : PState.ofCode (d.u8 16) ≠ .run) : exec (.powerReq p q n) s =
      .next (requestPower { target := PState.ofCode (d.u8 16), who := .port d.port, dsc := some (d.port, d.sq, d.seq) }
        (setRunning d s)) := by
  rw [exec_powerReq, execPowerReq, withReady_of_ready h]
  dsimp only
  rw [if_neg hrun]

/-- The BMC asks for SLEEP or OFF alone. -/
theorem bmcPowerReq_asks {s : State} {k : Nat} (hserved : bmcServed s = true) (hk : k = 2 ∨ k = 4) :
    exec (.bmcPowerReq k) s = .next (requestPower { target := if k = 2 then .sleep else .off, who := .bmc } s) := by
  rw [exec_bmcPowerReq, execBmcPowerReq, if_pos ⟨hserved, hk⟩]
  obtain rfl | rfl := hk <;> rfl

theorem idlePolicy_asks {s : State} (hready : ready s = true) (hpolicy : policyRuns s = true)
    (hon : rdB s Reg.PWR_POLICY Fld.PWR_POLICY_idle_en = true) (hrun : s.power.state = .run)
    (hstatic : min 1000 (max 1 (rdF s Reg.PWR_POLICY Fld.PWR_POLICY_idle_frames)) ≤ s.power.static) :
    exec .idlePolicy s =
      .next (requestPower { target := .idle, who := .mgmt } { s with power := { s.power with static := 0 } }) := by
  have hframes : idleFrames s ≤ s.power.static := hstatic
  rw [exec_idlePolicy, execIdlePolicy, if_pos (by simp [hready, hpolicy, hon, hrun, hframes]), setPower]

theorem sleepPolicy_asks {s : State} (hready : ready s = true) (hpolicy : policyRuns s = true)
    (hon : rdB s Reg.PWR_POLICY Fld.PWR_POLICY_sleep_en = true)
    (hsource : rdB s Reg.HWL_STAT Fld.HWL_STAT_sleeping = true) (hplay : s.hold.play = none) (hrun : s.power.state = .run) :
    exec .sleepPolicy s = .next (requestPower { target := .sleep, who := .mgmt } s) := by
  rw [exec_sleepPolicy, execSleepPolicy, if_pos (by simp [hready, hpolicy, hon, hsource, hplay, hrun])]

/-! ### The handshake (R517, R518) -/

theorem unitAgree_of_asked {s : State} {e : Entry} {u : Nat} (hentry : s.power.entry = some e) (hnext : nextUnit s e = some u) :
    exec .unitAgree s = .next (answerEntry e u s) := by
  rw [exec_unitAgree, execUnitAgree, hentry]
  dsimp only
  rw [hnext]

theorem answerEntry_refuses {s : State} {e : Entry} {u : Nat} (h : unitRefuses s e u = true) :
    answerEntry e u s = abortEntry e u s := if_pos h

theorem answerEntry_agrees {s : State} {e : Entry} {u : Nat} (hwilling : unitRefuses s e u = false)
    (hstopped : unitStopped s u = true) : answerEntry e u s =
      settleEntry (askNext 32 (quiesce { e with agreed := u :: e.agreed } u
        (setPower { s.power with entry := some { e with agreed := u :: e.agreed } } s))) := by
  rw [answerEntry, if_neg (by simp [hwilling]), if_neg (by simp [hstopped])]

theorem stpShutdownTimeout_aborts {s : State} {e : Entry} (hentry : s.power.entry = some e)
    (hnext : nextUnit s e = some 0x14) (hshutting : s.store.shutting = true) :
    exec .stpShutdownTimeout s = .next (abortEntry e 0x14 s) := by
  rw [exec_stpShutdownTimeout, execStpShutdownTimeout, hentry]
  exact if_pos ⟨hnext, hshutting⟩

/-! ### Exits (R526, R568) -/

/-- An exit whose rails are all at power-good ends, in the reset that a TOP_RESET has asked for if there is one. -/
theorem powerExitDone_ends {s : State} {x : Exit} (hexit : s.power.exit = some x) (hrails : x.rails = []) :
    exec .powerExitDone s = .next (if s.power.resetAtRun then ownerReset s else finishExit x s) := by
  rw [exec_powerExitDone, execPowerExitDone, hexit]
  dsimp only
  rw [if_neg (not_not_intro hrails), apply_ite Host.Outcome.next]

/-- Settles O13: who asks, what the unit asked next answers, and how an exit ends. -/
theorem powerStates : Obligations.PowerStates := by
  refine ⟨fun s => ⟨fun _ _ _ _ => powerReq_asks, fun _ => bmcPowerReq_asks, idlePolicy_asks, sleepPolicy_asks⟩,
    fun s e => ⟨fun u hentry hnext hrefuses => ?refuses, fun u hentry hnext hwilling hstopped => ?agrees,
      stpShutdownTimeout_aborts, fun x hexit hrails hreset => ?runs, fun x hexit hrails hreset => ?resets⟩⟩
  case refuses => rw [unitAgree_of_asked hentry hnext, answerEntry_refuses hrefuses]
  case agrees => rw [unitAgree_of_asked hentry hnext, answerEntry_agrees hwilling hstopped, setPower]
  case runs => rw [powerExitDone_ends hexit hrails, if_neg (by simp [hreset])]
  case resets => rw [powerExitDone_ends hexit hrails, if_pos hreset]

end Sys2Proof.Machine
end

section

/-! ## Fetches of the doorbell block and of descriptors (R120 to R122) -/

namespace Sys2Proof.Machine

/-! ### The commands' meanings -/

theorem exec_portKick (p : Nat) (v : Word) (s : State) : exec (.portKick p v) s = execPortKick p v s := rfl
theorem exec_pollTimerExpiry (p : Nat) (s : State) : exec (.pollTimerExpiry p) s = execPollTimerExpiry p s := rfl

theorem exec_doorbellFetchDone (p : Nat) (ws : Option (List (BitVec 64))) (s : State) :
    exec (.doorbellFetchDone p ws) s = execDoorbellFetchDone p ws s := rfl

theorem exec_descriptorFetchDone (p n : Nat) (w : Option (BitVec 512)) (s : State) :
    exec (.descriptorFetchDone p n w) s = execDescriptorFetchDone p n w s := rfl

/-! ### Triggers of the block's read (R121) -/

theorem portWrites_iff {s : State} {p : Nat} : portWrites s p = true ↔ portExists s p = true ∧ (portOf s p).up = true :=
  Bool.and_eq_true_iff

/-- A trigger on a port that is up sends the read. -/
theorem triggerFetch_sends {s : State} {p : Nat} (hready : ready s = true) (hup : (portOf s p).up = true)
    (hidle : (portOf s p).fetchBusy = false) : triggerFetch p s =
      { setPort p { portOf s p with fetchBusy := true } s with out := s.out ++ [.doorbellFetch p] } := by
  rw [triggerFetch, if_neg (by simp [hready, hup]), if_neg (by simp [hidle])]
  rfl

/-- While a read is in flight a trigger asks for one more. -/
theorem triggerFetch_pends {s : State} {p : Nat} (hready : ready s = true) (hup : (portOf s p).up = true)
    (hbusy : (portOf s p).fetchBusy = true) : triggerFetch p s = setPort p { portOf s p with fetchPending := true } s := by
  rw [triggerFetch, if_neg (by simp [hready, hup]), if_pos hbusy]

theorem portKick_triggers {s : State} {p : Nat} (h : portWrites s p = true) (v : Word) :
    exec (.portKick p v) s = .next (triggerFetch p s) := by rw [exec_portKick, execPortKick, if_pos h]

theorem pollTimerExpiry_triggers {s : State} {p : Nat} (h : rdF s (Reg.PORT_POLL p) Fld.PORT_POLL_period_us ≠ 0) :
    exec (.pollTimerExpiry p) s = .next (triggerFetch p s) := by rw [exec_pollTimerExpiry, execPollTimerExpiry, if_neg h]

/-! ### The block that returns (R120, R122) -/

theorem portOf_countEvent (u ev v : Nat) (s : State) (p : Nat) : portOf (countEvent u ev v s) p = portOf s p := by
  simp [portOf]

theorem doorbellFetchDone_judges {s : State} {p : Nat} (h : (portOf s p).fetchBusy = true) (ws : List (BitVec 64)) :
    exec (.doorbellFetchDone p (some ws)) s = .next (fetchEnds p (acceptBlock p ws (monitorAdd p 144
      (setPort p { portOf (countEvent (0x10 + p) 0x13 1 s) p with blockFault := false }
        (countEvent (0x10 + p) 0x13 1 s))))) := by
  rw [exec_doorbellFetchDone, execDoorbellFetchDone, if_neg (by simp [h])]

theorem doorbellFetchDone_fails {s : State} {p : Nat} (h : (portOf s p).fetchBusy = true) :
    exec (.doorbellFetchDone p none) s =
      .next (fetchEnds p (blockReadFailed p (countEvent (0x10 + p) 0x13 1 s))) := by
  rw [exec_doorbellFetchDone, execDoorbellFetchDone, if_neg (by simp [h])]

/-! ### Which ring is served (R118, R122, R127) -/

theorem hasWork_ring {s : State} {p n : Nat} (h : hasWork s p n = true) :
    ringOn s (Reg.SQn_CFG p n) = true ∧ 0 < (sqOf s p n).waiting ∧ (sqOf s p n).faulted = false := by
  simp only [hasWork, Bool.and_eq_true, Bool.not_eq_true', decide_eq_true_eq] at h
  obtain ⟨⟨⟨⟨⟨-, hon⟩, -⟩, hfault⟩, -⟩, hwaiting⟩ := h
  exact ⟨hon, hwaiting, hfault⟩

theorem mayFetch_iff {s : State} {p n : Nat} :
    mayFetch s p n = true ↔ servedRing s p = some n ∧ hasWork s p n = true := by simp [mayFetch]

/-- The turn goes on while its ring has work and 16 descriptors have not been fetched in it. -/
theorem servedRing_stays {s : State} {p : Nat} (hwork : hasWork s p (portOf s p).turn = true)
    (hturn : (portOf s p).inTurn < 16) : servedRing s p = some (portOf s p).turn := if_pos (by simp [hwork, hturn])

/-- The first of the eight numbers from 1 on that satisfies a test. -/
theorem find_one_to_eight {f : Nat → Nat} {work : Nat → Bool} {i : Nat} (h1 : 1 ≤ i) (h8 : i ≤ 8) (hwork : work (f i) = true)
    (hnone : ∀ j, 1 ≤ j → j < i → work (f j) = false) : ([1, 2, 3, 4, 5, 6, 7, 8].map f).find? work = some (f i) := by
  have hfind : (List.range' 1 8).find? (work ∘ f) = some i :=
    List.find?_range'_eq_some.2 ⟨hwork, List.mem_range'_1.2 ⟨h1, by omega⟩, fun j hj hlt => by simp [hnone j hj hlt]⟩
  rw [List.find?_map]
  exact congrArg (Option.map f) hfind

/-- A turn that has ended passes to the next ring that has work, in round-robin order. -/
theorem servedRing_passes {s : State} {p i : Nat} (h1 : 1 ≤ i) (h8 : i ≤ 8)
    (hended : hasWork s p (portOf s p).turn = true → 16 ≤ (portOf s p).inTurn)
    (hwork : hasWork s p (((portOf s p).turn + i) % 8) = true)
    (hnone : ∀ j, 1 ≤ j → j < i → hasWork s p (((portOf s p).turn + j) % 8) = false) :
    servedRing s p = some (((portOf s p).turn + i) % 8) := by
  have hstays : ¬ (hasWork s p (portOf s p).turn && decide ((portOf s p).inTurn < 16)) = true := by simpa using hended
  exact (if_neg hstays).trans (find_one_to_eight (f := fun i => ((portOf s p).turn + i) % 8) h1 h8 hwork hnone)

/-! ### A fetched descriptor (R122, R123) -/

theorem descriptorFetchDone_parses {s : State} {p n : Nat} (h : mayFetch s p n = true) (w : BitVec 512) :
    exec (.descriptorFetchDone p n (some w)) s =
      .next (parseDsc { port := p, sq := n, seq := (sqOf s p n).fetched, raw := w }
        (monitorAdd p 64 (countEvent (0x10 + p) 0x10 1
          (setSq p n { sqOf s p n with fetched := (sqOf s p n).fetched + 1, waiting := (sqOf s p n).waiting - 1 }
            (takeTurn p n s))))) := by
  rw [exec_descriptorFetchDone, execDescriptorFetchDone, if_neg (by simp [h])]

theorem descriptorFetchDone_fails {s : State} {p n : Nat} (h : mayFetch s p n = true) :
    exec (.descriptorFetchDone p n none) s = .next (postEvent (.port p) 0x01F3 (0x10 + p) 2 (dataAt 24 n ||| dataAt 26 8)
      (setFlag (Flag.PORT_fetch_fault p) (setSq p n { sqOf s p n with faulted := true } s))) := by
  rw [exec_descriptorFetchDone, execDescriptorFetchDone, if_neg (by simp [h])]

/-- Settles O18: the triggers, the block that returns, the ring served, and the descriptor fetched from it. -/
theorem doorbellFetch : Obligations.DoorbellFetch := by
  refine fun s p => ⟨fun v hport hready hidle => ?kick, fun v hport hready hbusy => ?pending,
    fun hpoll hport hready hidle => ?poll, fun ws _ hbusy => doorbellFetchDone_judges hbusy ws, doorbellFetchDone_fails,
    fun n w hfetch => descriptorFetchDone_parses hfetch w, fun n hfetch => hasWork_ring (mayFetch_iff.1 hfetch).2,
    fun hwork hturn => mayFetch_iff.2 ⟨servedRing_stays hwork hturn, hwork⟩,
    fun i h1 h8 hended hwork hnone => mayFetch_iff.2 ⟨servedRing_passes h1 h8 hended hwork hnone, hwork⟩,
    fun n => descriptorFetchDone_fails⟩
  case kick => rw [portKick_triggers hport, triggerFetch_sends hready (portWrites_iff.1 hport).2 hidle]
  case pending => rw [portKick_triggers hport, triggerFetch_pends hready (portWrites_iff.1 hport).2 hbusy]
  case poll => rw [pollTimerExpiry_triggers hpoll, triggerFetch_sends hready (portWrites_iff.1 hport).2 hidle]

end Sys2Proof.Machine
end

section

/-! ## Ring set-up and the coalescing timer (R116 to R118, R136) -/

namespace Sys2Proof.Machine

/-! ### The commands' meanings -/

theorem exec_sqCfgWrite (p n : Nat) (v : Word) (s : State) : exec (.sqCfgWrite p n v) s = execSqCfgWrite p n v s := rfl
theorem exec_cqCfgWrite (p n : Nat) (v : Word) (s : State) : exec (.cqCfgWrite p n v) s = execCqCfgWrite p n v s := rfl
theorem exec_evqCfgWrite (p : Nat) (v : Word) (s : State) : exec (.evqCfgWrite p v) s = execEvqCfgWrite p v s := rfl

theorem exec_coalesceTimerExpiry (p ring : Nat) (s : State) :
    exec (.coalesceTimerExpiry p ring) s = execCoalesceTimerExpiry p ring s := rfl

/-! ### Configuration registers of the rings (R116) -/

/-- The submission rings' registers lie below the completion rings'. -/
theorem sqCfg_ne_cqCfg (p m : Nat) {n : Nat} (hn : n < 8) : Reg.SQn_CFG p n ≠ Reg.CQn_CFG p m := by
  unfold Reg.SQn_CFG Reg.CQn_CFG portKey
  omega

theorem field_lt (w : Word) (lo n : Nat) : field w lo n < 2 ^ n := Nat.mod_lt _ (Nat.two_pow_pos n)

/-- A field takes a value that it can hold. -/
theorem rdF_wrF_fits {s : State} (h : RegsCanonical s) (k : Nat) {f : Nat × Nat} {v : Nat} (hf : f.1 + f.2 ≤ 32)
    (hv : v < 2 ^ f.2) : rdF (wrF k f v s) k f = v := (rdF_wrF_same h k v hf).trans (Nat.mod_eq_of_lt hv)

theorem sizeOk_iff {v : Word} : sizeOk v = true ↔ 6 ≤ field v 8 5 ∧ field v 8 5 ≤ 16 := decide_eq_true_iff

theorem ringOn_iff {s : State} {k : Nat} : ringOn s k = true ↔ rdF s k (0, 1) = 1 := decide_eq_true_iff

theorem rdF_of_regs {s t : State} (h : t.regs = s.regs) (k : Nat) (f : Nat × Nat) : rdF t k f = rdF s k f := by
  rw [rdF, rd, h, rdF, rd]

theorem ringOn_of_regs {s t : State} (h : t.regs = s.regs) (k : Nat) : ringOn t k = ringOn s k := by
  rw [ringOn, rdB, rdF_of_regs h, ringOn, rdB]

theorem ringOn_wrF_other {s : State} (h : RegsCanonical s) {k j : Nat} (f : Nat × Nat) (v : Nat) (hj : j ≠ k) :
    ringOn (wrF k f v s) j = ringOn s j := by rw [ringOn, rdB, rdF_wrF_other h _ _ _ hj, ringOn, rdB]

theorem ringOn_wrF_enable {s : State} (h : RegsCanonical s) (k : Nat) : ringOn (wrF k (0, 1) 1 s) k = true :=
  ringOn_iff.2 (rdF_wrF_fits h k (f := (0, 1)) (by decide) (by decide))

theorem ringOn_wrF_disable {s : State} (h : RegsCanonical s) (k : Nat) : ringOn (wrF k (0, 1) 0 s) k = false := by
  rw [ringOn, rdB, rdF_wrF_fits h k (f := (0, 1)) (by decide) (by decide)]
  rfl

/-! ### SQ_CFG_WRITE (R117, R118) -/

/-- The register of a submission ring that takes a write while it is off, before its enable bit. -/
def sqConfigured (p n : Nat) (v : Word) (s : State) : State :=
  wrF (Reg.SQn_CFG p n) Fld.SQn_CFG_log2_size (field v 8 5) (wrF (Reg.SQn_CFG p n) Fld.SQn_CFG_cq (field v 1 3) s)

theorem ringOn_sqConfigured {s : State} (hc : RegsCanonical s) {p n k : Nat} (v : Word) (hk : k ≠ Reg.SQn_CFG p n) :
    ringOn (sqConfigured p n v s) k = ringOn s k :=
  (ringOn_wrF_other (canonical_wrF hc ..) _ _ hk).trans (ringOn_wrF_other hc _ _ hk)

theorem sqCfgWrite_enables {s : State} {p n : Nat} {v : Word} (hport : portWrites s p = true) (hn : n < 8)
    (hoff : ringOn s (Reg.SQn_CFG p n) = false) (hen : field v 0 1 = 1) (hsize : sizeOk v = true) (hc : RegsCanonical s)
    (hcq : ringOn s (Reg.CQn_CFG p (field v 1 3)) = true) : ∃ t, exec (.sqCfgWrite p n v) s = .next t ∧
      t.regs = (wrF (Reg.SQn_CFG p n) Fld.SQn_CFG_enable 1 (sqConfigured p n v s)).regs ∧ t.boot = s.boot ∧
      t.fuses = s.fuses := by
  have hcq' := (ringOn_sqConfigured hc v (sqCfg_ne_cqCfg p (field v 1 3) hn).symm).trans hcq
  rw [exec_sqCfgWrite, execSqCfgWrite, if_neg (by simp [hport, hn]), if_neg (by simp [hoff])]
  dsimp only
  rw [← sqConfigured, if_pos ⟨hen, hsize, hcq'⟩]
  exact ⟨_, rfl, by simp, by simp [sqConfigured], by simp [sqConfigured]⟩

/-- The ring that a write has enabled reads as it was written. -/
theorem sqEnabled_reads {s t : State} {p n : Nat} {v : Word} (hc : RegsCanonical s)
    (ht : t.regs = (wrF (Reg.SQn_CFG p n) Fld.SQn_CFG_enable 1 (sqConfigured p n v s)).regs) :
    ringOn t (Reg.SQn_CFG p n) = true ∧ ringSize t (Reg.SQn_CFG p n) = 2 ^ field v 8 5 ∧
      rdF t (Reg.SQn_CFG p n) Fld.SQn_CFG_cq = field v 1 3 := by
  have hcq := canonical_wrF hc (Reg.SQn_CFG p n) Fld.SQn_CFG_cq (field v 1 3)
  have hsize := canonical_wrF hcq (Reg.SQn_CFG p n) Fld.SQn_CFG_log2_size (field v 8 5)
  refine ⟨(ringOn_of_regs ht _).trans (ringOn_wrF_enable hsize _), congrArg (2 ^ ·) ((rdF_of_regs ht _ _).trans ?_),
    (rdF_of_regs ht _ _).trans ?_⟩
  · exact (rdF_wrF_field hsize _ _ (by decide) (by decide)).trans (rdF_wrF_fits hcq _ (by decide) (field_lt v 8 5))
  · exact (rdF_wrF_field hsize _ _ (by decide) (by decide)).trans
      ((rdF_wrF_field hcq _ _ (by decide) (by decide)).trans (rdF_wrF_fits hc _ (by decide) (field_lt v 1 3)))

theorem sqCfgWrite_drains {s : State} {p n : Nat} {v : Word} (hport : portWrites s p = true) (hn : n < 8)
    (hon : ringOn s (Reg.SQn_CFG p n) = true) (hdis : field v 0 1 = 0) : exec (.sqCfgWrite p n v) s =
      .next (drainSq p n (dropOpen p n (setSq p n { sqOf s p n with draining := true, waiting := 0 } s))) := by
  rw [exec_sqCfgWrite, execSqCfgWrite, if_neg (by simp [hport, hn]), if_pos hon, if_neg (by omega)]

theorem dropOpen_of_no_groups {s : State} (h : s.host.groups = []) (p n : Nat) : dropOpen p n s = s := by
  have hnone : ∀ g, groupOf s g = none := fun g => by simp [groupOf, h]
  have hopen : (sqOf s p n).openGroup.bind (groupOf s) = none := Option.bind_eq_none_iff.2 fun g _ => hnone g
  rw [dropOpen, hopen]

/-- A draining ring with nothing in flight and no record held is off (R118). -/
theorem drainSq_ends {s : State} {p n : Nat} (hdraining : (sqOf s p n).draining = true) (hnone : s.host.inflight = [])
    (hheld : ∀ c, (cqOf s p c).held = []) :
    drainSq p n s = setSq p n { epoch := (sqOf s p n).epoch } (wrF (Reg.SQn_CFG p n) Fld.SQn_CFG_enable 0 s) :=
  if_pos ⟨hdraining, by simp [hnone], by simp [heldFor, hheld]⟩

/-- An idle ring is off at once. -/
theorem sqCfgWrite_disables {s : State} {p n : Nat} {v : Word} (hport : portWrites s p = true) (hn : n < 8)
    (hon : ringOn s (Reg.SQn_CFG p n) = true) (hdis : field v 0 1 = 0) (hnone : s.host.inflight = [])
    (hgroups : s.host.groups = []) (hheld : ∀ c, (cqOf s p c).held = []) (hc : RegsCanonical s)
    (hwf : tabWf (fun _ => ({} : SqState)) s.host.sq = true) :
    ∃ t, exec (.sqCfgWrite p n v) s = .next t ∧ ringOn t (Reg.SQn_CFG p n) = false ∧ t.boot = s.boot := by
  rw [sqCfgWrite_drains hport hn hon hdis]
  generalize hu : setSq p n { sqOf s p n with draining := true, waiting := 0 } s = u
  have hdraining : (sqOf u p n).draining = true := by rw [← hu, sqOf_setSq hwf]
  have hcu : RegsCanonical u := hu ▸ canonical_setSq hc _ _ _
  have hboot : u.boot = s.boot := by simp [← hu]
  rw [dropOpen_of_no_groups (hu ▸ hgroups), drainSq_ends hdraining (hu ▸ hnone) (hu ▸ hheld)]
  exact ⟨_, rfl, (ringOn_of_regs rfl _).trans (ringOn_wrF_disable hcu _), by simp [hboot]⟩

/-! ### CQ_CFG_WRITE and EVQ_CFG_WRITE (R117, R118) -/

/-- The vector and the interrupt enable of a ring take every write (R136). -/
def vectorWritten (k : Nat) (v : Word) (s : State) : State :=
  wrF k Fld.CQn_CFG_irq_en (field v 22 1) (wrF k Fld.CQn_CFG_vector (field v 16 6) s)

theorem canonical_vectorWritten {s : State} (hc : RegsCanonical s) (k : Nat) (v : Word) : RegsCanonical (vectorWritten k v s) :=
  canonical_wrF (canonical_wrF hc ..) ..

theorem rdF_vectorWritten_other {s : State} (hc : RegsCanonical s) {k j : Nat} (v : Word) (f : Nat × Nat) (hj : j ≠ k) :
    rdF (vectorWritten k v s) j f = rdF s j f := by
  rw [vectorWritten, rdF_wrF_other (canonical_wrF hc ..) _ _ _ hj, rdF_wrF_other hc _ _ _ hj]

theorem cfgCommon_on {s : State} {k : Nat} (h : ringOn s k = true) (v : Word) : cfgCommon k v s = vectorWritten k v s := if_pos h

theorem cfgCommon_off {s : State} {k : Nat} (h : ringOn s k = false) (v : Word) :
    cfgCommon k v s = wrF k Fld.CQn_CFG_log2_size (field v 8 5) (vectorWritten k v s) := if_neg (by simp [h])

theorem cqCfgWrite_enables {s : State} {p n : Nat} {v : Word} (hport : portWrites s p = true) (hn : n < 8)
    (hoff : ringOn s (Reg.CQn_CFG p n) = false) (hen : field v 0 1 = 1) (hsize : sizeOk v = true) :
    ∃ t, exec (.cqCfgWrite p n v) s = .next t ∧ t.regs = (wrF (Reg.CQn_CFG p n) Fld.CQn_CFG_enable 1
      (wrF (Reg.CQn_CFG p n) Fld.CQn_CFG_log2_size (field v 8 5) (vectorWritten (Reg.CQn_CFG p n) v s))).regs ∧
      t.boot = s.boot := by
  rw [exec_cqCfgWrite, execCqCfgWrite, if_neg (by simp [hport, hn])]
  dsimp only
  rw [if_neg (by simp [hoff]), if_pos ⟨hen, hsize⟩, cfgCommon_off hoff]
  exact ⟨_, rfl, by simp, by simp [vectorWritten]⟩

theorem cqEnabled_reads {s t : State} {k : Nat} {v : Word} (hc : RegsCanonical s)
    (ht : t.regs = (wrF k Fld.CQn_CFG_enable 1 (wrF k Fld.CQn_CFG_log2_size (field v 8 5) (vectorWritten k v s))).regs) :
    ringOn t k = true ∧ ringSize t k = 2 ^ field v 8 5 ∧ rdF t k Fld.CQn_CFG_vector = field v 16 6 := by
  have hvector := canonical_wrF hc k Fld.CQn_CFG_vector (field v 16 6)
  have hwritten := canonical_vectorWritten hc k v
  have hsize := canonical_wrF hwritten k Fld.CQn_CFG_log2_size (field v 8 5)
  refine ⟨(ringOn_of_regs ht _).trans (ringOn_wrF_enable hsize _), congrArg (2 ^ ·) ((rdF_of_regs ht _ _).trans ?_),
    (rdF_of_regs ht _ _).trans ?_⟩
  · exact (rdF_wrF_field hsize _ _ (by decide) (by decide)).trans (rdF_wrF_fits hwritten _ (by decide) (field_lt v 8 5))
  · rw [rdF_wrF_field hsize _ _ (by decide) (by decide), rdF_wrF_field hwritten _ _ (by decide) (by decide), vectorWritten,
      rdF_wrF_field hvector _ _ (by decide) (by decide), rdF_wrF_fits hc _ (by decide) (field_lt v 16 6)]

/-- Which completion rings are named stands in the submission rings' registers alone. -/
theorem cqNamed_vectorWritten {s : State} (hc : RegsCanonical s) (p m n : Nat) (v : Word) :
    cqNamed (vectorWritten (Reg.CQn_CFG p m) v s) p n = cqNamed s p n := by
  have hread : ∀ i < 8, ∀ f, rdF (vectorWritten (Reg.CQn_CFG p m) v s) (Reg.SQn_CFG p i) f = rdF s (Reg.SQn_CFG p i) f :=
    fun i hi f => rdF_vectorWritten_other hc v f (sqCfg_ne_cqCfg p m hi)
  simp [cqNamed, ringOn, rdB, hread]

/-- A named completion ring stays on: the write's vector and interrupt enable alone apply (R118). -/
theorem cqCfgWrite_named {s : State} {p n : Nat} {v : Word} (hport : portWrites s p = true) (hn : n < 8)
    (hon : ringOn s (Reg.CQn_CFG p n) = true) (hnamed : cqNamed s p n = true) (hc : RegsCanonical s) :
    exec (.cqCfgWrite p n v) s = .next (signalCq p n (vectorWritten (Reg.CQn_CFG p n) v s)) := by
  rw [exec_cqCfgWrite, execCqCfgWrite, if_neg (by simp [hport, hn])]
  dsimp only
  rw [if_pos hon, cfgCommon_on hon, cqNamed_vectorWritten hc, if_neg fun h => h.2 hnamed]

theorem evqCfgWrite_disables {s : State} {p : Nat} {v : Word} (hport : portWrites s p = true)
    (hon : ringOn s (Reg.EVQ_CFG p) = true) (hdis : field v 0 1 = 0) : exec (.evqCfgWrite p v) s =
      .next (setEvq p {} (wrF (Reg.EVQ_CFG p) Fld.CQn_CFG_enable 0 (vectorWritten (Reg.EVQ_CFG p) v s))) := by
  rw [exec_evqCfgWrite, execEvqCfgWrite, if_neg (by simp [hport])]
  dsimp only
  rw [if_pos hon, if_pos hdis, cfgCommon_on hon]

/-! ### COALESCE_TIMER_EXPIRY (R136) -/

theorem coalesceTimerExpiry_cq {s : State} {p n : Nat} (hn : n < 8)
    (htime : rdF s (Reg.CQn_COALESCE p n) Fld.CQn_COALESCE_time_us ≠ 0) (hwait : (cqOf s p n).unsignalled ≠ 0)
    (hon : ringOn s (Reg.CQn_CFG p n) = true) (hirq : rdB s (Reg.CQn_CFG p n) Fld.CQn_CFG_irq_en = true) :
    exec (.coalesceTimerExpiry p (0x40 + n)) s = .next (sendMsix p (rdF s (Reg.CQn_CFG p n) Fld.CQn_CFG_vector)
      (setCq p n { cqOf s p n with unsignalled := 0 } s)) := by
  have hring : (0x40 + n = 0x80) = False := eq_false (by omega)
  simp only [exec_coalesceTimerExpiry, execCoalesceTimerExpiry, hring, decide_false, Bool.false_eq_true, if_false,
    Nat.add_sub_cancel_left, htime, hwait, hon, not_true_eq_false, or_self, sendCq, hirq, if_true]

theorem coalesceTimerExpiry_evq {s : State} {p : Nat}
    (htime : rdF s (Reg.EVQ_COALESCE p) Fld.CQn_COALESCE_time_us ≠ 0) (hwait : (evqOf s p).unsignalled ≠ 0)
    (hon : ringOn s (Reg.EVQ_CFG p) = true) (hirq : rdB s (Reg.EVQ_CFG p) Fld.CQn_CFG_irq_en = true) :
    exec (.coalesceTimerExpiry p 0x80) s = .next (sendMsix p (rdF s (Reg.EVQ_CFG p) Fld.CQn_CFG_vector)
      (setEvq p { evqOf s p with unsignalled := 0 } s)) := by
  simp only [exec_coalesceTimerExpiry, execCoalesceTimerExpiry, decide_true, if_true, htime, hwait, hon, not_true_eq_false,
    or_self, if_false, sendEvq, hirq]

/-- Settles O20: what a write enables, drains or disables, and the timer of either kind of ring. -/
theorem ringSetup : Obligations.RingSetup := by
  refine fun s p n v hport hn => ⟨fun hoff hen hlow hhigh _ hc hcq => ?sqOn, sqCfgWrite_drains hport hn,
    sqCfgWrite_disables hport hn, fun hoff hen hlow hhigh hc => ?cqOn, fun hon _ => cqCfgWrite_named hport hn hon,
    evqCfgWrite_disables hport, coalesceTimerExpiry_cq hn, coalesceTimerExpiry_evq⟩
  case sqOn =>
    obtain ⟨t, ht, hregs, hboot, hfuses⟩ := sqCfgWrite_enables hport hn hoff hen (sizeOk_iff.2 ⟨hlow, hhigh⟩) hc hcq
    obtain ⟨hon, hsize, hring⟩ := sqEnabled_reads hc hregs
    exact ⟨t, ht, hon, hsize, hring, hboot, hfuses⟩
  case cqOn =>
    obtain ⟨t, ht, hregs, hboot⟩ := cqCfgWrite_enables hport hn hoff hen (sizeOk_iff.2 ⟨hlow, hhigh⟩)
    obtain ⟨hon, hsize, hvector⟩ := cqEnabled_reads hc hregs
    exact ⟨t, ht, hon, hsize, hvector, hboot⟩

end Sys2Proof.Machine
end

section

/-! ## The BMC's commands (R141, R142, R513) -/

namespace Sys2Proof.Machine

/-! ### The commands' meanings -/

theorem exec_bmcStatus (s : State) : exec .bmcStatus s = execBmcStatus s := rfl
theorem exec_bmcPowerResult (s : State) : exec .bmcPowerResult s = execBmcPowerResult s := rfl
theorem exec_bmcUnitTable (f : Nat) (s : State) : exec (.bmcUnitTable f) s = execBmcUnitTable f s := rfl
theorem exec_bmcFieldCapture (s : State) : exec .bmcFieldCapture s = execBmcFieldCapture s := rfl
theorem exec_bmcFieldRead (k : Nat) (s : State) : exec (.bmcFieldRead k) s = execBmcFieldRead k s := rfl

/-! ### What a reply carries (R50, R141) -/

/-- Until the controller has assigned an address the target answers at the static one. -/
theorem bmcAddress_static {s : State} (h : s.bmc.dynamic = none) : bmcAddress s = 0x58 + s.straps.bmcAddr := by
  rw [bmcAddress, h]
  rfl

theorem bmcReply_i3c {s : State} (asked bytes : List Byte) (hbus : s.bmc.smbus = false) (haddr : s.bmc.dynamic = none) :
    bmcReply asked bytes s = emit (.bmcReply (0x58 + s.straps.bmcAddr) bytes) s := by
  rw [bmcReply, bmcAddress_static haddr]
  rw [if_neg (by simp [hbus])]

/-- In SMBus mode the packet error code follows. -/
theorem bmcReply_smbus {s : State} (asked bytes : List Byte) (hbus : s.bmc.smbus = true) (haddr : s.bmc.dynamic = none) :
    bmcReply asked bytes s = emit (.bmcReply (0x58 + s.straps.bmcAddr)
      (bytes ++ [BitVec.ofNat 8 (crc8 (BitVec.ofNat 8 (2 * (0x58 + s.straps.bmcAddr)) :: asked ++
        BitVec.ofNat 8 (2 * (0x58 + s.straps.bmcAddr) + 1) :: bytes))])) s := by
  rw [bmcReply, bmcAddress_static haddr]
  rw [if_pos hbus]

/-! ### The commands that read (R142, R513) -/

theorem bmcStatus_replies {s : State} (h : bmcAnswers s = true) :
    exec .bmcStatus s = .next (bmcReply [1] (leBytes 4 (regValue s Reg.BOOT_STATUS) ++
      (leBytes 4 (regValue s Reg.AON_STATUS) ++ []) ++ leBytes 1 s.power.state.code ++
      leBytes 1 (rdF s Reg.FAULT_STAT Fld.FAULT_STAT_hottest) ++ leBytes 2 (devicePower s) ++ leBytes 4 0) s) := by
  rw [exec_bmcStatus, execBmcStatus, if_pos h, regBytes, List.flatMap_cons, List.flatMap_cons, List.flatMap_nil]

theorem bmcPowerResult_replies {s : State} (h : bmcAnswers s = true) :
    exec .bmcPowerResult s = .next (bmcReply [6] (leBytes 2 (rdF s Reg.PWR_RESULT (0, 10)) ++
      leBytes 1 (rdF s Reg.PWR_RESULT_DATA (16, 16)) ++ leBytes 1 (rdF s Reg.PWR_RESULT_DATA (8, 8))) s) := by
  rw [exec_bmcPowerResult, execBmcPowerResult, if_pos h]

theorem bmcUnitTable_replies {s : State} {f : Nat} (hf : f < 256) (h : mgmtRuns s = true) : exec (.bmcUnitTable f) s =
    .next (bmcReply [2, BitVec.ofNat 8 f] ((List.range (256 - f)).map (fun i => BitVec.ofNat 8 (unitByte s (f + i)))) s) := by
  rw [exec_bmcUnitTable, execBmcUnitTable, if_pos h, Nat.mod_eq_of_lt hf]

/-! ### The field record (R102, R142) -/

theorem takeSnapshot_frame (s : State) : (takeSnapshot s).regs = s.regs ∧ (takeSnapshot s).store = s.store ∧
    (takeSnapshot s).perf.snapSeq = (s.perf.snapSeq + 1) % 2 ^ 32 := by
  simp [takeSnapshot]

/-- With no store to write it to, a record is only kept (R433). -/
theorem capture_unmounted {s : State} (cause : Nat) (h : s.store.mounted = false) : capture cause s =
    tick { takeSnapshot s with
      fault := { (takeSnapshot s).fault with
        record := fieldRecord (takeSnapshot s) cause (takeSnapshot s).store.recordSeq, captured := true }
      store := { (takeSnapshot s).store with recordSeq := (takeSnapshot s).store.recordSeq + 1 } } := by
  have hmount : ¬ (takeSnapshot s).store.mounted = true := by simp [(takeSnapshot_frame s).2.1, h]
  exact if_neg hmount

theorem bmcFieldCapture_captures {s : State} (hrun : mgmtRuns s = true) (h : s.store.mounted = false) :
    ∃ t, exec .bmcFieldCapture s = .next t ∧ t.fault.captured = true ∧ t.store.recordSeq = s.store.recordSeq + 1 ∧
      t.perf.snapSeq = (s.perf.snapSeq + 1) % 2 ^ 32 ∧ t.regs = s.regs ∧
      t.fault.record = fieldRecord (takeSnapshot s) 1 s.store.recordSeq := by
  obtain ⟨hregs, hstore, hsnap⟩ := takeSnapshot_frame s
  refine ⟨capture 1 s, by rw [exec_bmcFieldCapture, execBmcFieldCapture, if_pos hrun], ?_⟩
  rw [capture_unmounted 1 h, hstore]
  exact ⟨rfl, rfl, hsnap, hregs, rfl⟩

theorem bmcFieldRead_replies {s : State} {k : Nat} (hk : k < 256) (hrun : mgmtRuns s = true)
    (hcaptured : s.fault.captured = true) :
    exec (.bmcFieldRead k) s =
      .next (bmcReply [4, BitVec.ofNat 8 k] ((s.fault.record.drop (256 * k)).take 256) s) := by
  rw [exec_bmcFieldRead, execBmcFieldRead, if_pos hrun, if_pos hcaptured, Nat.mod_eq_of_lt hk]

/-- Settles O23: each command's answer, and what a reply carries on either bus. -/
theorem bmcCommands : Obligations.BmcCommands := fun _ =>
  ⟨bmcStatus_replies, bmcPowerResult_replies, fun _ => bmcUnitTable_replies, bmcFieldCapture_captures,
    fun _ => bmcFieldRead_replies, bmcReply_i3c, bmcReply_smbus⟩

end Sys2Proof.Machine
end

section

/-! ## The groupable opcodes reach the compositor (R132, R149, R151, R153 to R155, R159, R275, R281) -/

namespace Sys2Proof.Machine

/-! ### The commands' meanings -/

theorem exec_setBackground (p q n : Nat) (s : State) : exec (.setBackground p q n) s = execSetBackground p q n s := rfl
theorem exec_layerConfig (p q n : Nat) (s : State) : exec (.layerConfig p q n) s = execLayerConfig p q n s := rfl
theorem exec_layerFlip (p q n : Nat) (s : State) : exec (.layerFlip p q n) s = execLayerFlip p q n s := rfl
theorem exec_layerEnable (p q n : Nat) (s : State) : exec (.layerEnable p q n) s = execLayerEnable p q n s := rfl
theorem exec_layerMatrix (p q n : Nat) (s : State) : exec (.layerMatrix p q n) s = execLayerMatrix p q n s := rfl
theorem exec_tableActivateC (p q n : Nat) (s : State) : exec (.tableActivateC p q n) s = execTableActivateC p q n s := rfl

section Checks

variable {s : State} {p q n : Nat} {d : Dsc}

/-! ### Members without checks (R151, R153) -/

theorem setBackground_arrives (h : readyDsc s p q n 0x0104 = some d) : exec (.setBackground p q n) s = .next (arrive d s) := by
  rw [exec_setBackground, execSetBackground, withReady_of_ready h]

theorem layerMatrix_arrives (h : readyDsc s p q n 0x0204 = some d) : exec (.layerMatrix p q n) s = .next (arrive d s) := by
  rw [exec_layerMatrix, execLayerMatrix, withReady_of_ready h]

/-! ### LAYER_CONFIG and TABLE_ACTIVATE_C (R153, R159, R281) -/

/-- A custom transfer curve needs its table. -/
theorem layerConfig_of_ready (h : readyDsc s p q n 0x0201 = some d) : exec (.layerConfig p q n) s =
    .next (if d.u8 29 = 4 ∧ activeTable s (0x02F00000 + d.u8 16) = none then failMember d .refused 0x30 s else arrive d s) := by
  rw [exec_layerConfig, execLayerConfig, withReady_of_ready h]

theorem tableActivateC_arrives {t : List Byte} (h : readyDsc s p q n 0x0302 = some d)
    (hstaged : stagedTable s (d.u32 16) = some t) :
    exec (.tableActivateC p q n) s = .next (arrive d s) := by
  rw [exec_tableActivateC, execTableActivateC, withReady_of_ready h, if_neg (by simp [hstaged])]

/-! ### LAYER_ENABLE (R154) -/

/-- A layer must have been configured before it is enabled, if only by a configuration that waits. -/
theorem layerEnable_of_ready (h : readyDsc s p q n 0x0203 = some d) : exec (.layerEnable p q n) s =
    .next (if d.u8 17 = 1 ∧ ¬ (viewNow s).configured (d.u8 16) ∧ pendingConfig s (d.u8 16) (memberCfn s d) = none then
      failMember d .notReady 0 s else arrive d s) := by
  rw [exec_layerEnable, execLayerEnable, withReady_of_ready h]

/-! ### LAYER_FLIP (R149, R154, R155, R275, R286) -/

theorem layerFlip_of_ready (h : readyDsc s p q n 0x0202 = some d) : exec (.layerFlip p q n) s = .next (flipReaches d s) := by
  rw [exec_layerFlip, execLayerFlip, withReady_of_ready h]

theorem flipReaches_live {f w l : Nat} (hset : flipSettings s (d.u8 16) (memberCfn s d) = some (2, f, w, l))
    (hok : flipBreach d f w l = none) : flipReaches d s = arrive d s := by
  unfold flipReaches
  extract_lets n
  split
  · next hnone => exact absurd (hset.symm.trans hnone) nofun
  · next hsome =>
    cases hset.symm.trans hsome
    split
    · next hbad => exact absurd (hok.symm.trans hbad) nofun
    · exact if_pos rfl

theorem flipReaches_breach {k f w l o : Nat} {st : Status}
    (hset : flipSettings s (d.u8 16) (memberCfn s d) = some (k, f, w, l)) (hbad : flipBreach d f w l = some (o, st)) :
    flipReaches d s = failMember d st o s := by
  simp only [flipReaches, hset, hbad]

theorem dropFetch_of_none {m : Nat} (h : (layerOf s m).fetching = none) : dropFetch m s = s := by
  rw [dropFetch]
  simp only [h]

/-- A SNAPSHOT flip whose layer fetches nothing begins its fetch in the room it is given. -/
theorem flipReaches_snapshot {f w l : Nat} {t : State} (hset : flipSettings s (d.u8 16) (memberCfn s d) = some (1, f, w, l))
    (hok : flipBreach d f w l = none) (hidle : (layerOf (sweepFetches s) (d.u8 16)).fetching = none)
    (hroom : alloc .layer (layerTag (d.u8 16) true) (versionBytes f w l) (sweepFetches s) = some t) :
    flipReaches d s = setLayer (d.u8 16)
      { layerOf t (d.u8 16) with fetching := some (d.port, d.sq, d.seq), fetchNo := t.host.nextOrder }
      (setRunning d { t with host := { t.host with nextOrder := t.host.nextOrder + 1 } }) := by
  simp only [flipReaches, hset, hok, dropFetch_of_none hidle, hroom]
  rfl

end Checks

/-! ### Descriptors in flight after one has changed -/

theorem setDsc_inflight (d : Dsc) (s : State) :
    (setDsc d s).host.inflight = s.host.inflight.map (fun e => if e.is d.port d.sq d.seq then d else e) := rfl

theorem Dsc.is_self (d : Dsc) : d.is d.port d.sq d.seq = true := Dsc.is_iff.2 ⟨rfl, rfl, rfl⟩

/-- The descriptor of a ring and sequence is found where it was before. -/
theorem dscOf_setDsc (d : Dsc) (s : State) (p q n : Nat) :
    dscOf (setDsc d s) p q n = (dscOf s p q n).map (fun e => if e.is d.port d.sq d.seq then d else e) := by
  have htest : ((fun x : Dsc => x.is p q n) ∘ fun x => if x.is d.port d.sq d.seq then d else x) = fun x => x.is p q n := by
    funext x
    rw [Function.comp_apply]
    split
    · next hx =>
      obtain ⟨hport, hsq, hseq⟩ := Dsc.is_iff.1 hx
      simp only [Dsc.is, hport, hsq, hseq]
    · rfl
  rw [dscOf, setDsc_inflight, List.find?_map, htest, dscOf]

theorem dscOf_setDsc_same {s : State} {d e : Dsc} (h : dscOf s d.port d.sq d.seq = some e) :
    dscOf (setDsc d s) d.port d.sq d.seq = some d := by
  rw [dscOf_setDsc, h, Option.map_some, if_pos (dscOf_is h)]

theorem dscOf_setDsc_other {s : State} {d e : Dsc} {p q n : Nat} (h : dscOf s p q n = some e)
    (hother : e.is d.port d.sq d.seq = false) : dscOf (setDsc d s) p q n = some e := by
  rw [dscOf_setDsc, h, Option.map_some, if_neg (by simp [hother])]

/-! ### Groups that have wholly arrived (R132) -/

/-- The last member has arrived: its group takes its place among those that wait for the latch instant. -/
theorem arrive_completes {s : State} {d : Dsc} {g : Group} (hd : dscOf s d.port d.sq d.seq = some d)
    (hg : groupOf s d.group = some g) (hclosed : g.closed = true) (horder : g.order = 0) (hport : g.port = d.port)
    (hsq : g.sq = d.sq) (hmembers : g.members = [d.seq]) (htarget : g.target ≤ naturalCfn s) :
    arrive d s = idleTrigger (setGroup { g with order := s.host.nextOrder } (setDsc { d with phase := .arrived }
      { s with host := { s.host with nextOrder := s.host.nextOrder + 1 } })) := by
  have hdsc := dscOf_setDsc_same (d := { d with phase := .arrived }) hd
  have hall : allArrived (setDsc { d with phase := .arrived } s) g = true := by
    simp only [allArrived, membersOf, hclosed, hmembers, hport, hsq, List.filterMap_cons, List.filterMap_nil, hdsc]
    rfl
  have hgroup : groupOf (setDsc { d with phase := .arrived } s) d.group = some g := hg
  have hdue : ¬ (naturalCfn (setDsc { d with phase := .arrived } s) < g.target ∧
      64 ≤ waitingGroups (setDsc { d with phase := .arrived } s) g.port) := fun h => absurd h.1 (not_lt.2 htarget)
  simp only [arrive, followGroup, hgroup, horder, hall, decide_true, Bool.and_self, if_true]
  rw [groupArrives, if_neg hdue]
  rfl

/-- A group with a member still to come waits. -/
theorem arrive_waits {s : State} {d e : Dsc} {g : Group} {m : Nat} (hg : groupOf s d.group = some g) (hm : m ∈ g.members)
    (he : dscOf s g.port g.sq m = some e) (hother : e.is d.port d.sq d.seq = false) (hphase : e.phase ≠ .arrived) :
    arrive d s = setDsc { d with phase := .arrived } s := by
  have hgroup : groupOf (setDsc { d with phase := .arrived } s) d.group = some g := hg
  have hmem : e ∈ membersOf (setDsc { d with phase := .arrived } s) g :=
    List.mem_filterMap.2 ⟨m, hm, dscOf_setDsc_other (d := { d with phase := .arrived }) he hother⟩
  have hnot : allArrived (setDsc { d with phase := .arrived } s) g = false := by
    refine Bool.eq_false_iff.2 fun hall => hphase ?_
    exact of_decide_eq_true (List.all_eq_true.1 (Bool.and_eq_true_iff.1 hall).2 e hmem)
  simp only [arrive, followGroup, hgroup, hnot, Bool.and_false, Bool.false_eq_true, if_false]

/-- Settles O27: each opcode's checks, then what the arrival of a member does to its group. -/
theorem groupMembersArrive : Obligations.GroupMembersArrive := by
  refine fun s p q n d => ⟨setBackground_arrives, fun h hcurve => ?curve, fun t h htable => ?table,
    fun h hcurve htable => ?noTable, fun h hoff => ?disable, fun h hconf => ?configured, fun h hon hconf hpend => ?unconfigured,
    layerMatrix_arrives, fun t => tableActivateC_arrives, fun f w l h hset hok => ?live, fun k f w l o st h hset hbad => ?breach,
    fun f w l t h hset hok hidle hroom => ?snapshot, fun g => arrive_completes, fun g e m => arrive_waits⟩
  case curve => rw [layerConfig_of_ready h, if_neg fun hc => hcurve hc.1]
  case table => rw [layerConfig_of_ready h, if_neg (by simp [htable])]
  case noTable => rw [layerConfig_of_ready h, if_pos ⟨hcurve, htable⟩]
  case disable => rw [layerEnable_of_ready h, if_neg (by simp [hoff])]
  case configured => rw [layerEnable_of_ready h, if_neg (by simp [hconf])]
  case unconfigured => rw [layerEnable_of_ready h, if_pos ⟨hon, by simp [hconf], hpend⟩]
  case live => rw [layerFlip_of_ready h, flipReaches_live hset hok]
  case breach => rw [layerFlip_of_ready h, flipReaches_breach hset hbad]
  case snapshot => rw [layerFlip_of_ready h, flipReaches_snapshot hset hok hidle hroom]

end Sys2Proof.Machine
end

section

/-! ## Operating points, PMBus telemetry and alerts, and the die sensors (R172, R530 to R534, R546, R553, R569) -/

namespace Sys2Proof.Machine

/-! ### The commands' meanings -/

theorem exec_opLimit (p q n : Nat) (s : State) : exec (.opLimit p q n) s = execOpLimit p q n s := rfl
theorem exec_opSwitch (s : State) : exec .opSwitch s = execOpSwitch s := rfl
theorem exec_opPllTimeout (s : State) : exec .opPllTimeout s = execOpPllTimeout s := rfl
theorem exec_voltageFail (v : Nat) (s : State) : exec (.voltageFail v) s = execVoltageFail v s := rfl
theorem exec_railTelemetry (r : List (Nat × Nat)) (s : State) : exec (.railTelemetry r) s = execRailTelemetry r s := rfl
theorem exec_readTemperaturePoll (ts : List Nat) (s : State) :
    exec (.readTemperaturePoll ts) s = execReadTemperaturePoll ts s := rfl
theorem exec_pmbusAlert (ws : List Nat) (s : State) : exec (.pmbusAlert ws) s = execPmbusAlert ws s := rfl
theorem exec_sensorRefresh (vs : List (Option Nat)) (s : State) : exec (.sensorRefresh vs) s = execSensorRefresh vs s := rfl

section Points

variable {s : State} {c : OpChange}

/-! ### Operating points (R172, R530 to R533) -/

/-- The limits of a quadrant are written, and its point follows them. -/
theorem opLimit_quadrant {p q n : Nat} {d : Dsc} (h : readyDsc s p q n 0x0A02 = some d) (hquad : d.u8 16 < 4)
    (hle : d.u8 17 ≤ d.u8 18) : exec (.opLimit p q n) s =
      .next (completeI d .ok 0 (followQuad (d.u8 16) (wrF (Reg.PWR_LIMITd (d.u8 16)) Fld.PWR_LIMITd_max_op (d.u8 18)
        (wrF (Reg.PWR_LIMITd (d.u8 16)) Fld.PWR_LIMITd_min_op (d.u8 17) s)))) := by
  rw [exec_opLimit, execOpLimit, withReady_of_ready h, if_neg (by omega)]
  simp only [if_neg (by omega : ¬ d.u8 16 = 4)]

theorem opSwitch_of_change (hc : s.power.change = some c) (hentry : s.power.entry = none) :
    exec .opSwitch s = .next (switchOp c s) := by
  rw [exec_opSwitch, execOpSwitch, hc]
  exact if_neg (by simp [hentry])

/-- A change of the compositor's point that does not raise it lowers its rail. -/
theorem switchOp_compositor (hd : c.domain = 4) (hlow : c.target ≤ opOf s 4) : switchOp c s =
    serveOps 5 (commandRail 2 (askedMv (setOp 4 c.target { s with power := { s.power with change := none } }) 4)
      (setOp 4 c.target { s with power := { s.power with change := none } })) := by
  simp only [switchOp, hd, decide_eq_false (not_lt.2 hlow), Bool.false_and, Bool.false_eq_true, if_false]
  rfl

/-- A change of a quadrant's point that does not raise it is reported and lowers the array's rail. -/
theorem switchOp_quadrant (hd : c.domain < 4) (hlow : c.target ≤ opOf s c.domain) :
    ∃ u, switchOp c s = serveOps 5 (commandRail 5 (askedMv u c.domain) u) ∧
      u = postEvent .device 0x04F8 (0x40 + c.domain) 0 (dataAt 24 (opOf s c.domain) ||| dataAt 25 c.target |||
          dataAt 26 (tabGet (fun _ => 0) s.power.opCause c.domain))
        (wrF Reg.ENG_STAT (3 * c.domain, 3) c.target { s with power := { s.power with
          change := none, op := tabSet (fun _ => 0) s.power.op c.domain c.target } }) := by
  have hrail : railOf c.domain = 5 := if_neg (by omega)
  refine ⟨_, ?_, rfl⟩
  simp only [switchOp, decide_eq_false (not_lt.2 hlow), Bool.false_and, Bool.false_eq_true, if_false, if_pos hd, hrail, setOp]
  rfl

/-- A PLL that does not lock ends the change; a quadrant's is fenced with it. -/
theorem opPllTimeout_of_change (hc : s.power.change = some c) : exec .opPllTimeout s = .next (serveOps 5 (
    if c.domain < 4 then fenceQuadrant c.domain 5 (setFlag Flag.PWR_pll_fail { s with power := { s.power with change := none } })
    else setFlag Flag.PWR_pll_fail { s with power := { s.power with change := none } })) := by
  rw [exec_opPllTimeout, execOpPllTimeout, hc]
  rfl

/-- A voltage that is not reached ends a change that would have raised the point. -/
theorem voltageFail_ends {v : Nat} (hc : s.power.change = some c)
    (hmode : rdB s Reg.PWR_OP_CFG Fld.PWR_OP_CFG_vgood_mode = true) (hraise : opOf s c.domain < c.target) :
    exec (.voltageFail v) s = .next (serveOps 5 (postEvent .device 0x0AF2 0xA0 1
      (dataAt 24 (railOf c.domain) ||| dataAt 25 c.target ||| dataAt 28 (v % 65536))
      (setFlag Flag.PWR_vgood_fail { s with power := { s.power with change := none } }))) := by
  rw [exec_voltageFail, execVoltageFail, hc]
  exact if_pos ⟨hmode, hraise⟩

end Points

section Telemetry

variable {s : State}

/-! ### Telemetry (R534, R546) -/

/-- A rail's reading is its register's two fields. -/
theorem railTelemetry_reads {n v i : Nat} (hregs : RegsCanonical s) (hpanel : panelPowered s = true)
    (hrails : s.power.rails = [n]) (hn : n < 8) (hv : v < 4096) (hi : i < 4096) :
    ∃ t, exec (.railTelemetry (List.replicate 8 (v, i))) s = .next t ∧
      rdF t (Reg.PWR_RAILn n) Fld.PWR_RAILn_vout = v ∧ rdF t (Reg.PWR_RAILn n) Fld.PWR_RAILn_iout = i ∧
      t.power = s.power := by
  have hread : (List.replicate 8 (v, i))[n]? = some (v, i) := List.getElem?_replicate_of_lt hn
  rw [exec_railTelemetry, execRailTelemetry, if_neg (by simp [hpanel])]
  simp only [hrails, List.foldl_cons, List.foldl_nil, hread]
  have hsent := canonical_emit (canonical_emit hregs (.pmbusRead n 0x8B)) (.pmbusRead n 0x8C)
  have hvout := canonical_wrF hsent (Reg.PWR_RAILn n) Fld.PWR_RAILn_vout v
  refine ⟨_, rfl, ?_, ?_, by simp only [wrF_frame, emit_frame]⟩
  · rw [rdF_wrF_field hvout _ _ (by decide) (by decide), rdF_wrF_same hsent _ _ (by decide)]
    exact Nat.mod_eq_of_lt hv
  · rw [rdF_wrF_same hvout _ _ (by decide)]
    exact Nat.mod_eq_of_lt hi

theorem hottestRaw_of_regs {t : State} (h : t.regs = s.regs) : hottestRaw t = hottestRaw s := by
  unfold hottestRaw rdB rdF rd
  rw [h]

/-- What the rails are asked changes nothing but what is sent. -/
theorem foldl_emit_frame (f : Nat → Out) (l : List Nat) (s : State) :
    (l.foldl (fun s n => emit (f n) s) s).regs = s.regs ∧ (l.foldl (fun s n => emit (f n) s) s).power = s.power ∧
      (l.foldl (fun s n => emit (f n) s) s).fault = s.fault :=
  List.foldlRecOn (motive := fun t : State => t.regs = s.regs ∧ t.power = s.power ∧ t.fault = s.fault) l _ ⟨rfl, rfl, rfl⟩
    fun _ h _ _ => h

/-- A poll keeps one more sample of each ring of samples. -/
theorem readTemperaturePoll_samples {ts : List Nat} (hpanel : panelPowered s = true) :
    ∃ t, exec (.readTemperaturePoll ts) s = .next t ∧ t.regs = s.regs ∧
      t.power.samples.length = min 16 (s.power.samples.length + 1) ∧
      t.fault.temps = (hottestRaw s :: s.fault.temps).take 128 := by
  obtain ⟨hregs, hpower, hfault⟩ := foldl_emit_frame (fun n => .pmbusRead n 0x8D) s.power.rails s
  rw [exec_readTemperaturePoll, execReadTemperaturePoll, if_neg (by simp [hpanel])]
  refine ⟨_, rfl, hregs, ?_, ?_⟩
  · simp only [setPower, hpower, List.length_take, List.length_cons]
  · rw [hottestRaw_of_regs (s := s) (by simpa using hregs)]
    simp [hfault]

/-! ### PMBUS_ALERT (R534, R553) -/

/-- A status word other than 0 of the one rail that is on. -/
theorem alerted_only {n w : Nat} (hn : n < 8) (hw : w ≠ 0) :
    (List.range 8).filter (fun m => [n].contains m && decide ((List.replicate 8 w).getD m 0 ≠ 0)) = [n] := by
  have htest : ∀ m ∈ List.range 8, ([n].contains m && decide ((List.replicate 8 w).getD m 0 ≠ 0)) = (m == n) := by
    intro m hm
    rw [List.getD_replicate _ (List.mem_range.1 hm), decide_eq_true hw, Bool.and_true, List.contains_cons, List.contains_nil,
      Bool.or_false]
  rw [List.filter_congr htest, List.filter_beq, List.count_eq_one_of_mem List.nodup_range (List.mem_range.2 hn)]
  rfl

/-- The one rail's word is reported and its faults cleared; its OFF bit is a rail fault. -/
theorem pmbusAlert_one {n w : Nat} (hrails : s.power.rails = [n]) (hn : n < 8) (hw : w ≠ 0) {t : State}
    (ht : t = pmbus n 3 0 (postEvent .device 0x0AF3 0xA0 2 (dataAt 24 n ||| dataAt 28 (w % 65536))
      (setFlag Flag.PWR_pmbus_fault (emit (.pmbusRead n 0x79) s)))) :
    exec (.pmbusAlert (List.replicate 8 w)) s = .next (if bitAt w 6 then railFault n (w % 65536) t else t) := by
  have hword : (List.replicate 8 w).getD n 0 = w := List.getD_replicate _ hn
  rw [exec_pmbusAlert, execPmbusAlert]
  simp only [hrails, List.foldl_cons, List.foldl_nil, emit_frame, alerted_only hn hw, hword, ← ht, List.find?_cons,
    List.find?_nil]
  cases bitAt w 6
  · rfl
  · simp only [if_true, hword]

/-- A rail fault turns every rail off. -/
theorem railFault_off (n w : Nat) (s : State) :
    (railFault n w s).power.rails = [] ∧
      ((railFault n w s).boot.phase = .retryWait ∨ (railFault n w s).boot.phase = .railsOff) := by
  unfold railFault
  dsimp only
  split
  · exact ⟨by simp [loseRails], .inr (by simp [loseRails])⟩
  · exact ⟨by simp [loseRails], .inl (by simp [loseRails])⟩

/-! ### SENSOR_REFRESH (R569) -/

/-- Sensors marked invalid one after another read invalid. -/
theorem foldl_invalid : ∀ (l : List Nat) {s : State}, RegsCanonical s →
    RegsCanonical (l.foldl (fun s i => wrF (Reg.TOP_SENSi i) Fld.TOP_SENSi_valid 0 s) s) ∧
    ∀ i, i ∈ l ∨ rdF s (Reg.TOP_SENSi i) Fld.TOP_SENSi_valid = 0 →
      rdF (l.foldl (fun s i => wrF (Reg.TOP_SENSi i) Fld.TOP_SENSi_valid 0 s) s) (Reg.TOP_SENSi i) Fld.TOP_SENSi_valid = 0
  | [], _, h => ⟨h, fun _ hi => hi.resolve_left List.not_mem_nil⟩
  | j :: l, s, h => by
    obtain ⟨hcanon, hread⟩ := foldl_invalid l (canonical_wrF h (Reg.TOP_SENSi j) Fld.TOP_SENSi_valid 0)
    refine ⟨hcanon, fun i hi => hread i ?_⟩
    by_cases hij : i = j
    · exact .inr (by rw [hij, rdF_wrF_same h _ _ (by decide), Nat.zero_mod])
    · have hkey : Reg.TOP_SENSi i ≠ Reg.TOP_SENSi j := by unfold Reg.TOP_SENSi; omega
      rw [rdF_wrF_other h _ _ _ hkey]
      exact hi.imp_left fun hmem => (List.mem_cons.1 hmem).resolve_left hij

theorem sensorValues_of_invalid (h : ∀ i, i < 20 → rdF s (Reg.TOP_SENSi i) Fld.TOP_SENSi_valid = 0) :
    sensorValues s = [] := by
  refine List.filterMap_eq_nil_iff.2 fun i hi => if_neg ?_
  simp [rdB, h i (List.mem_range.1 hi)]

/-- A refresh without a reading leaves every sensor invalid and no hottest. -/
theorem sensorRefresh_none (hregs : RegsCanonical s) (hruns : mgmtRuns s = true) :
    ∃ t, exec (.sensorRefresh []) s = .next t ∧ (∀ i, i < 20 → rdB t (Reg.TOP_SENSi i) Fld.TOP_SENSi_valid = false) ∧
      rdF t Reg.FAULT_STAT Fld.FAULT_STAT_hottest = 0 := by
  obtain ⟨hcanon, hread⟩ := foldl_invalid (List.range 20) hregs
  rw [exec_sensorRefresh, execSensorRefresh, if_neg (by simp [hruns])]
  -- The refreshed state stands for itself: nothing here runs the twenty writes.
  generalize hu : List.foldl _ s (List.range 20) = u
  have hfold : (List.range 20).foldl (fun s i => wrF (Reg.TOP_SENSi i) Fld.TOP_SENSi_valid 0 s) s = u := hu
  rw [hfold] at hcanon hread
  have hinvalid : ∀ i, i < 20 → rdF u (Reg.TOP_SENSi i) Fld.TOP_SENSi_valid = 0 :=
    fun i hi => hread i (.inl (List.mem_range.2 hi))
  simp only [sensorValues_of_invalid hinvalid]
  refine ⟨_, rfl, fun i hi => ?_, ?_⟩
  · have hkey : Reg.TOP_SENSi i ≠ Reg.FAULT_STAT := by unfold Reg.TOP_SENSi Reg.FAULT_STAT; omega
    rw [rdB, rdF_wrF_other hcanon _ _ _ hkey, hinvalid i hi]
    rfl
  · rw [rdF_wrF_same hcanon _ _ (by decide), Nat.zero_mod]

end Telemetry

/-- Settles O15: limits, switches and failures of a change, then telemetry, alerts and sensors. -/
theorem powerUpkeep : Obligations.PowerUpkeep := by
  refine ⟨fun s c => ⟨fun p q n d => opLimit_quadrant, fun hc hentry hd hlow => ?compositor, fun hc hentry hd hlow => ?quadrant,
    fun hc hd => ?pll, fun hc hd => ?pllFenced, fun v => voltageFail_ends⟩,
    fun s => ⟨fun n v i hregs hpanel hrails hn hv hi => railTelemetry_reads hregs hpanel hrails hn hv hi,
      fun ts => readTemperaturePoll_samples, fun n w hrails hn hw hon => ?alert, fun n w hrails hn hoff => ?fault,
      fun hregs hruns _ _ => sensorRefresh_none hregs hruns⟩⟩
  case compositor => rw [opSwitch_of_change hc hentry, switchOp_compositor hd (hd ▸ hlow)]
  case quadrant =>
    obtain ⟨u, hswitch, hu⟩ := switchOp_quadrant hd hlow
    exact ⟨u, by rw [opSwitch_of_change hc hentry, hswitch], hu⟩
  case pll => rw [opPllTimeout_of_change hc, if_neg (by omega)]
  case pllFenced => rw [opPllTimeout_of_change hc, if_pos hd]
  case alert => rw [pmbusAlert_one hrails hn hw rfl, if_neg (by simp [hon])]
  case fault =>
    have hw : w ≠ 0 := by rintro rfl; exact absurd hoff (by decide)
    exact ⟨_, (pmbusAlert_one hrails hn hw rfl).trans (by rw [if_pos hoff]), railFault_off ..⟩

end Sys2Proof.Machine
end

section

/-! ## Unit states, fences and enables by the owner, and the field record (R178, R548 to R551) -/

namespace Sys2Proof.Machine

/-! ### The commands' meanings -/

theorem exec_unitStateUpdate (u : Nat) (s : State) : exec (.unitStateUpdate u) s = execUnitStateUpdate u s := rfl
theorem exec_diagUnitFence (p q n : Nat) (s : State) : exec (.diagUnitFence p q n) s = execDiagUnitFence p q n s := rfl
theorem exec_diagUnitEnable (p q n : Nat) (s : State) : exec (.diagUnitEnable p q n) s = execDiagUnitEnable p q n s := rfl
theorem exec_dataPathAcknowledge (u : Nat) (s : State) : exec (.dataPathAcknowledge u) s = execDataPathAcknowledge u s := rfl
theorem exec_diagUnitEnableTimeout (u : Nat) (s : State) :
    exec (.diagUnitEnableTimeout u) s = execDiagUnitEnableTimeout u s := rfl
theorem exec_diagFieldRecord (p q n : Nat) (s : State) : exec (.diagFieldRecord p q n) s = execDiagFieldRecord p q n s := rfl

section Units

variable {s : State} {p q n u : Nat} {d : Dsc} {w : Nat × Nat × Nat}

/-! ### UNIT_STATE_UPDATE (R548) -/

/-- A state that the data path has reached is written to the table. -/
theorem unitStateUpdate_writes (h : tabGet (fun _ => 0) s.fault.dataPath u = n + 1) :
    exec (.unitStateUpdate u) s = .next (writeUnit u n s) := by
  rw [exec_unitStateUpdate, execUnitStateUpdate, h]

/-! ### DIAG_UNIT_FENCE and DIAG_UNIT_ENABLE (R178, R550, R551) -/

/-- A unit that may be fenced is fenced unless it is the last of its role. -/
theorem diagUnitFence_of_fenceable (h : readyDsc s p q n 0x0E03 = some d) (hunit : fenceable (d.u8 16) = true) :
    exec (.diagUnitFence p q n) s = .next (
      if lastOfRole s (d.u8 16) then complete d .refused 0 (resAt 16 (0x40 + unitQuadrant (d.u8 16))) s
      else awaitUnit (d.u8 16) false d (fenceUnit (d.u8 16) (refuseEnables (d.u8 16) s))) := by
  rw [exec_diagUnitFence, execDiagUnitFence, withReady_of_ready h, if_neg (by simp [hunit])]
  rfl

/-- A cluster that is enabled passes patrol over all its regions first. -/
theorem diagUnitEnable_cluster (h : readyDsc s p q n 0x0E02 = some d) (hcluster : 0xC0 ≤ d.u8 16)
    (hunit : fenceable (d.u8 16) = true) (hstate : dataPathState s (d.u8 16) ≠ 4) :
    exec (.diagUnitEnable p q n) s = .next (awaitUnit (d.u8 16) true d
      (setCluster (d.u8 16 - 0xC0) { clusterOf s (d.u8 16 - 0xC0) with passLeft := some 1536 } s)) := by
  rw [exec_diagUnitEnable, execDiagUnitEnable, withReady_of_ready h, if_neg (by simp [hunit, hstate]), if_neg (by omega),
    patrolRegions]

/-! ### Descriptors that wait for a unit (R549, R551) -/

/-- The one descriptor that waits is taken if it is the kind asked for. -/
theorem takeAwaiting_only {a : Nat × Bool × Nat × Nat × Nat} {f : Nat × Bool × Nat × Nat × Nat → Bool}
    (h : s.fault.awaiting = [a]) (hf : f a = true) :
    takeAwaiting f s = ([a], { s with fault := { s.fault with awaiting := [] } }) := by
  simp [takeAwaiting, h, hf]

/-- The data path of a quadrant acknowledges its enable. -/
theorem dataPathAcknowledge_enables (hu : u < 0xC0) (h : s.fault.awaiting = [(u, true, w)]) :
    exec (.dataPathAcknowledge u) s =
      .next (endDsc w .ok 0 (enableUnit u { s with fault := { s.fault with awaiting := [] } })) := by
  rw [exec_dataPathAcknowledge, execDataPathAcknowledge, takeAwaiting_only h (by simp [hu])]
  rfl

/-- The data path acknowledges a fence. -/
theorem dataPathAcknowledge_fences (h : s.fault.awaiting = [(u, false, w)]) : exec (.dataPathAcknowledge u) s =
    .next (endDsc w .ok 0 { s with fault := { s.fault with awaiting := [] } }) := by
  rw [exec_dataPathAcknowledge, execDataPathAcknowledge, takeAwaiting_only h (by simp)]
  rfl

/-- An enable of a quadrant that no acknowledge ends. -/
theorem diagUnitEnableTimeout_ends (hu : u < 0xC0) (h : s.fault.awaiting = [(u, true, w)]) :
    exec (.diagUnitEnableTimeout u) s = .next (endDsc w .timeout 0 { s with fault := { s.fault with awaiting := [] } }) := by
  rw [exec_diagUnitEnableTimeout, execDiagUnitEnableTimeout, takeAwaiting_only h (by simp), if_pos (.inl hu)]
  rfl

/-! ### DIAG_FIELD_RECORD (R178) -/

theorem diagFieldRecord_sends (h : readyDsc s p q n 0x0E01 = some d) : exec (.diagFieldRecord p q n) s =
    .next (completeI d .ok (resAt 16 (s.store.recordSeq % 2 ^ 32)) (monitorAdd d.port 65536
      (emit (.dma d.port (d.u64 16) (capture 0 s).fault.record) (capture 0 s)))) := by
  rw [exec_diagFieldRecord, execDiagFieldRecord, withReady_of_ready h]

end Units

/-- Settles O24: the table's update, the owner's fence and enable, what ends them, and the field record. -/
theorem unitStates : Obligations.UnitStates := by
  refine fun s => ⟨fun u n => unitStateUpdate_writes, fun p q n d h hunit hlast => ?fences,
    fun p q n d h hunit hlast => ?last, fun p q n d => diagUnitEnable_cluster, fun u w => dataPathAcknowledge_enables,
    fun u w => dataPathAcknowledge_fences, fun u w => diagUnitEnableTimeout_ends, fun p q n d => diagFieldRecord_sends⟩
  case fences => rw [diagUnitFence_of_fenceable h hunit, if_neg (by simp [hlast])]
  case last => rw [diagUnitFence_of_fenceable h hunit, if_pos hlast]

end Sys2Proof.Machine
end

section

/-! ## S opcodes at their unit (R144 to R147, R151, R159, R161, R163, R175) -/

namespace Sys2Proof.Machine

/-! ### The commands' meanings -/

theorem exec_setTimeline (p q n : Nat) (s : State) : exec (.setTimeline p q n) s = execSetTimeline p q n s := rfl
theorem exec_tableActivateS (p q n : Nat) (s : State) : exec (.tableActivateS p q n) s = execTableActivateS p q n s := rfl
theorem exec_holdPlay (p q n : Nat) (s : State) : exec (.holdPlay p q n) s = execHoldPlay p q n s := rfl
theorem exec_holdStop (p q n : Nat) (s : State) : exec (.holdStop p q n) s = execHoldStop p q n s := rfl
theorem exec_timeLock (p q n : Nat) (s : State) : exec (.timeLock p q n) s = execTimeLock p q n s := rfl
theorem exec_timePhase (p q n : Nat) (s : State) : exec (.timePhase p q n) s = execTimePhase p q n s := rfl
theorem exec_kernelBind (p q n : Nat) (param : Option (List Byte)) (s : State) :
    exec (.kernelBind p q n param) s = execKernelBind p q n param s := rfl

/-! ### The rings' state across an idle trigger (R516) -/

theorem resultBegin_host (k : Nat) (l : List Nat) (s : State) : (resultBegin k l s).host = s.host :=
  List.foldlRecOn (motive := fun t : State => t.host = s.host) l _ (by simp) fun _ h _ _ => h

theorem commandRail_host (r mv : Nat) (s : State) : (commandRail r mv s).host = s.host := by
  unfold commandRail
  split <;> simp [pmbus]

theorem railOn_host (r : Nat) (s : State) : (railOn r s).host = s.host := by
  unfold railOn
  split <;> simp [pmbus]

theorem beginExit_host (x : Exit) (s : State) : (beginExit x s).host = s.host := by
  unfold beginExit
  split <;> simp [railOn_host, commandRail_host, resultBegin_host]

theorem wakeUp_host (w : Wake) (c : Nat) (s : State) : (wakeUp w c s).host = s.host := by
  unfold wakeUp
  split
  · split <;> simp [recordWake]
  · rfl
  · split <;> simp [beginExit_host, recordWake]

theorem idleTrigger_host (s : State) : (idleTrigger s).host = s.host := by
  unfold idleTrigger
  dsimp only
  split_ifs <;> simp [wakeUp_host]

section Unit

variable {s u : State} {p q n : Nat} {d e : Dsc}

/-! ### What an S opcode does where it takes effect (R144 to R147) -/

/-- An S opcode whose conditions hold takes effect; after its target it is LATE. -/
theorem applyS_of_none (k : Nat) (h : sFailure s d = none) : applyS k d s =
    complete d (if d.target ≠ 0 ∧ d.target < k then .late else .ok) k (sEffect d s).1 (sEffect d s).2 := by
  rw [applyS, h]

theorem sEffect_setTimeline (h : d.opcode = 0x0102) : sEffect d s = (0, setTimeline (d.u8 16) (d.u8 17) (d.u16 18) s) := by
  simp only [sEffect, h]

theorem sEffect_tableActivateS (h : d.opcode = 0x0303) :
    sEffect d s = (0, followDefects (followWindow (activate (d.u32 16) s))) := by
  rw [sEffect, h]; rfl

theorem sEffect_kernelBind (h : d.opcode = 0x0402) :
    sEffect d s = (resAt 16 (bindOf s (d.u8 17) (d.u8 16)).handle, effectBind d s) := by
  simp only [sEffect, h]

theorem sEffect_holdPlay (h : d.opcode = 0x0502) : sEffect d s = (0, effectPlay d s) := by
  simp only [sEffect, h]

theorem sEffect_holdStop (h : d.opcode = 0x0503) : sEffect d s =
    (0, wrF Reg.HWL_STAT Fld.HWL_STAT_holding 0 { s with hold := { s.hold with play := none } }) := by
  rw [sEffect, h]; rfl

theorem sEffect_timeLock (h : d.opcode = 0x0C01) : sEffect d s = (0, effectTimeLock d s) := by
  simp only [sEffect, h]

/-- A phase offset that no lock in progress judges is only written. -/
theorem sEffect_timePhase (h : d.opcode = 0x0C02) (hlock : lockState s ≠ 1) (hregs : RegsCanonical s) :
    sEffect d s = (0, wr Reg.RAST_PHASE_OFFSET (BitVec.ofNat 32 (d.u32 16)) s) := by
  have hstate : lockState (wr Reg.RAST_PHASE_OFFSET (BitVec.ofNat 32 (d.u32 16)) s) = lockState s := by
    rw [lockState, rdF, rd_wr_other hregs _ (by decide)]; rfl
  rw [sEffect, h]
  exact congrArg _ (if_neg (by rw [hstate]; exact hlock))

/-! ### Reaching the unit (R144) -/

/-- The opcode takes its place at the unit, and a disabled raster serves what waits there. -/
theorem reachUnit_waits (he : e = { d with
      phase := .waiting, order := s.host.nextOrder, at_ := b2n (scanning s && decide (linesNow s ≤ s.raster.line)) })
    (hu : u = idleTrigger (setDsc e { s with host := { s.host with nextOrder := s.host.nextOrder + 1 } })) :
    reachUnit d s = idleOpcodes u := by
  rw [hu, he]; rfl

theorem idleOpcodes_on (h : rasterOn s = true) : idleOpcodes s = s := if_pos h

/-- With the raster disabled the one opcode that waits takes effect at once. -/
theorem idleOpcodes_one (hoff : rasterOn s = false) (hrequest : s.raster.request = none) (honly : s.host.inflight = [d])
    (hwaits : d.phase = .waiting) (hready : inputReady s d = true) : idleOpcodes s = applyS (sfn s) d s := by
  have htaken : takeRequest s = s := by rw [takeRequest, hrequest]
  have hqueue : waitingS s = [d] := by simp [waitingS, honly, hwaits, insertByOrder]
  rw [idleOpcodes, if_neg (by simp [hoff])]
  simp only [htaken, hqueue, List.foldl_cons, List.foldl_nil, hready, if_true]

/-- The descriptor that waits is the one in flight. -/
theorem inflight_of_reached (hu : u = idleTrigger (setDsc e { s with host := { s.host with nextOrder := s.host.nextOrder + 1 } }))
    (honly : s.host.inflight = [d]) (hsame : d.is e.port e.sq e.seq = true) : u.host.inflight = [e] := by
  rw [hu, idleTrigger_host, setDsc_inflight, honly, List.map_cons, List.map_nil, if_pos hsame]

/-- With the raster disabled an S opcode reaches its unit, takes effect and completes. -/
theorem reachUnit_served {x : BitVec 96 × State} (he : e = { d with
      phase := .waiting, order := s.host.nextOrder, at_ := b2n (scanning s && decide (linesNow s ≤ s.raster.line)) })
    (hu : u = idleTrigger (setDsc e { s with host := { s.host with nextOrder := s.host.nextOrder + 1 } }))
    (hoff : rasterOn u = false) (hrequest : u.raster.request = none) (honly : s.host.inflight = [d])
    (hready : inputReady u e = true) (hok : sFailure u e = none) (hx : sEffect e u = x) :
    reachUnit d s = complete e (if d.target ≠ 0 ∧ d.target < sfn u then .late else .ok) (sfn u) x.1 x.2 := by
  have hsame : d.is e.port e.sq e.seq = true := by rw [he]; exact Dsc.is_self d
  have htarget : e.target = d.target := by rw [he]; rfl
  rw [reachUnit_waits he hu, idleOpcodes_one hoff hrequest (inflight_of_reached hu honly hsame) (by rw [he]) hready,
    applyS_of_none _ hok, hx, htarget]

/-! ### The opcodes (R151, R159, R161, R163, R175) -/

theorem setTimeline_reaches (h : readyDsc s p q n 0x0102 = some d) : exec (.setTimeline p q n) s = .next (reachUnit d s) := by
  rw [exec_setTimeline, execSetTimeline, withReady_of_ready h]

theorem tableActivateS_reaches (h : readyDsc s p q n 0x0303 = some d) :
    exec (.tableActivateS p q n) s = .next (reachUnit d s) := by
  rw [exec_tableActivateS, execTableActivateS, withReady_of_ready h]

/-- An item is played from the Reservoir, by a raster that runs. -/
theorem holdPlay_of_ready (h : readyDsc s p q n 0x0502 = some d) : exec (.holdPlay p q n) s = .next (
    if itemResident s (d.u32 16) && rasterOn s then reachUnit d s else complete d .notReady 0 0 s) := by
  rw [exec_holdPlay, execHoldPlay, withReady_of_ready h]

theorem holdStop_reaches (h : readyDsc s p q n 0x0503 = some d) : exec (.holdStop p q n) s = .next (reachUnit d s) := by
  rw [exec_holdStop, execHoldStop, withReady_of_ready h]

theorem timeLock_reaches (h : readyDsc s p q n 0x0C01 = some d) : exec (.timeLock p q n) s = .next (reachUnit d s) := by
  rw [exec_timeLock, execTimeLock, withReady_of_ready h]

theorem timePhase_reaches (h : readyDsc s p q n 0x0C02 = some d) : exec (.timePhase p q n) s = .next (reachUnit d s) := by
  rw [exec_timePhase, execTimePhase, withReady_of_ready h]

/-- A binding without parameters fetches nothing. -/
theorem kernelBind_noParam (param : Option (List Byte)) (h : readyDsc s p q n 0x0402 = some d) (hnone : d.u32 20 = 0) :
    exec (.kernelBind p q n param) s = .next (reachUnit d s) := by
  rw [exec_kernelBind, execKernelBind, withReady_of_ready h, if_pos hnone]

theorem kernelBind_fetchFault (h : readyDsc s p q n 0x0402 = some d) (hparam : d.u32 20 ≠ 0) :
    exec (.kernelBind p q n none) s = .next (complete d .fetchFault 0 0 s) := by
  rw [exec_kernelBind, execKernelBind, withReady_of_ready h, if_neg hparam]

/-- Parameters that fit are held for the binding. -/
theorem kernelBind_holds {bs : List Byte} {t : State} (h : readyDsc s p q n 0x0402 = some d) (hparam : d.u32 20 ≠ 0)
    (hroom : allocTwice (bindTag s.host.nextOrder) (d.u32 20) s = some t) :
    exec (.kernelBind p q n (some bs)) s = .next (reachUnit d (monitorAdd p (d.u32 20) { t with tables := { t.tables with
      loads := t.tables.loads ++
        [{ port := d.port, sq := d.sq, seq := d.seq, opcode := 0x0402, data := some (bs.take (d.u32 20)) }] } })) := by
  rw [exec_kernelBind, execKernelBind, withReady_of_ready h, if_neg hparam]
  -- The room is given: nothing here runs the allocation.
  generalize allocTwice (bindTag s.host.nextOrder) (d.u32 20) s = room at hroom ⊢
  subst hroom
  rfl

end Unit

/-- Settles O25: what reaches the unit waits there or takes effect, clause by clause; then the effects when due. -/
theorem scanOpcodes : Obligations.ScanOpcodes := by
  refine ⟨fun s u p q n d e he hu => ⟨fun hon => ?waits, fun hoff hrequest honly hready hok st hst => ?served,
    fun h hres => ?notResident, kernelBind_fetchFault, fun bs t => kernelBind_holds⟩, fun s k d hok => ?effects⟩
  case waits =>
    have hreach : reachUnit d s = u := (reachUnit_waits he hu).trans (idleOpcodes_on hon)
    refine ⟨fun h => ?_, fun h => ?_, fun h hres hrast => ?_, fun h => ?_, fun h => ?_, fun h => ?_, fun h hnone => ?_⟩
    · rw [setTimeline_reaches h, hreach]
    · rw [tableActivateS_reaches h, hreach]
    · rw [holdPlay_of_ready h, if_pos (by simp [hres, hrast]), hreach]
    · rw [holdStop_reaches h, hreach]
    · rw [timeLock_reaches h, hreach]
    · rw [timePhase_reaches h, hreach]
    · rw [kernelBind_noParam none h hnone, hreach]
  case served =>
    have hserved {x : BitVec 96 × State} (hx : sEffect e u = x) : reachUnit d s = complete e st (sfn u) x.1 x.2 :=
      (reachUnit_served he hu hoff hrequest honly hready hok hx).trans (by rw [hst])
    have hop {op : Nat} (h : readyDsc s p q n op = some d) : e.opcode = op := by
      obtain ⟨-, hop, -⟩ := readyDsc_eq_some h
      rw [he]; exact hop
    refine ⟨fun h => ?_, fun h => ?_, fun h => ?_, fun h => ?_, fun h hlock hregs => ?_, fun h hnone => ?_⟩
    · rw [setTimeline_reaches h, hserved (sEffect_setTimeline (hop h))]
      rw [he]; rfl
    · rw [tableActivateS_reaches h, hserved (sEffect_tableActivateS (hop h))]
      rw [he]; rfl
    · rw [holdStop_reaches h, hserved (sEffect_holdStop (hop h))]
    · rw [timeLock_reaches h, hserved (sEffect_timeLock (hop h))]
    · rw [timePhase_reaches h, hserved (sEffect_timePhase (hop h) hlock hregs)]
      rw [he]; rfl
    · rw [kernelBind_noParam none h hnone, hserved (sEffect_kernelBind (hop h))]
      rw [he]; rfl
  case notResident => rw [holdPlay_of_ready h, if_neg (by simp [hres])]
  case effects =>
    refine ⟨fun hop htarget => ?_, fun hop htarget hlate => ?_, fun hop htarget => ?_,
      fun hop htarget hlock hregs => ?_, fun hop htarget => ?_⟩
    · rw [applyS_of_none k hok, sEffect_setTimeline hop, if_neg (by simp [htarget])]
    · rw [applyS_of_none k hok, sEffect_holdPlay hop, if_pos ⟨htarget, hlate⟩]
    · rw [applyS_of_none k hok, sEffect_holdStop hop, if_neg (by simp [htarget])]
    · rw [applyS_of_none k hok, sEffect_timePhase hop hlock hregs, if_neg (by simp [htarget])]
    · rw [applyS_of_none k hok, sEffect_timeLock hop, if_neg (by simp [htarget])]

end Sys2Proof.Machine
end

section

/-! ## Table and kernel loads, drops and unloads (R157 to R161) -/

namespace Sys2Proof.Machine

/-! ### The commands' meanings -/

theorem exec_tableLoad (p q n : Nat) (s : State) : exec (.tableLoad p q n) s = execTableLoad p q n s := rfl
theorem exec_kernelLoad (p q n : Nat) (s : State) : exec (.kernelLoad p q n) s = execKernelLoad p q n s := rfl
theorem exec_tableDrop (p q n : Nat) (s : State) : exec (.tableDrop p q n) s = execTableDrop p q n s := rfl
theorem exec_kernelUnload (p q n : Nat) (s : State) : exec (.kernelUnload p q n) s = execKernelUnload p q n s := rfl
theorem exec_imageLoadDone (p q n : Nat) (data : Option (List Byte)) (s : State) :
    exec (.imageLoadDone p q n data) s = execImageLoadDone p q n data s := rfl

section Loads

variable {s : State} {p q n : Nat} {d : Dsc}

/-! ### TABLE_LOAD and KERNEL_LOAD (R157, R160) -/

theorem tableLoad_of_ready (h : readyDsc s p q n 0x0301 = some d) : exec (.tableLoad p q n) s = .next (beginLoad d s) := by
  rw [exec_tableLoad, execTableLoad, withReady_of_ready h]

theorem kernelLoad_of_ready (h : readyDsc s p q n 0x0401 = some d) : exec (.kernelLoad p q n) s = .next (beginLoad d s) := by
  rw [exec_kernelLoad, execKernelLoad, withReady_of_ready h]

/-- A load from the host begins at once. -/
theorem beginLoad_host (hhost : d.u8 16 = 0) : beginLoad d s = setRunning d { s with tables :=
    { s.tables with loads := s.tables.loads ++ [{ port := d.port, sq := d.sq, seq := d.seq, opcode := d.opcode }] } } :=
  if_pos hhost

/-- A load from the store needs the store. -/
theorem beginLoad_storeAbsent (hstore : d.u8 16 ≠ 0) (habsent : s.store.mounted = false) :
    beginLoad d s = complete d .notReady 0 0 s := by
  unfold beginLoad
  exact (if_neg hstore).trans (if_pos (by rw [habsent, Bool.not_false]))

/-! ### TABLE_DROP and KERNEL_UNLOAD (R159, R161) -/

theorem tableDrop_drops {t : List Byte} (h : readyDsc s p q n 0x0304 = some d) (hstaged : stagedTable s (d.u32 16) = some t)
    (hidle : activationPending s (d.u32 16) = false) :
    exec (.tableDrop p q n) s = .next (completeI d .ok 0 (dropStaged (d.u32 16) s)) := by
  rw [exec_tableDrop, execTableDrop, withReady_of_ready h, if_neg (by simp [hstaged]), if_neg (by simp [hidle])]

/-- A kernel that is loaded goes unless something uses it. -/
theorem kernelUnload_of_loaded {k : Kernel} (h : readyDsc s p q n 0x0403 = some d) (hloaded : kernelOf s (d.u16 16) = some k) :
    exec (.kernelUnload p q n) s = .next (if kernelUsed s (d.u16 16) then complete d .busy 0 0 s
      else completeI d .ok 0 (freeTag .tables (kernelTag (d.u16 16))
        { s with tables := { s.tables with kernels := tabSet (fun _ => none) s.tables.kernels (d.u16 16) none } })) := by
  rw [exec_kernelUnload, execKernelUnload, withReady_of_ready h, if_neg (by simp [hloaded])]
  rfl

/-! ### IMAGE_LOAD_DONE (R157, R158, R160) -/

/-- The image of a load from the host arrives whole, or its fetch has failed. -/
theorem imageLoadDone_host {l : Load} (hload : loadOf s (p, q, n) = some l) (hd : dscOf s p q n = some d)
    (hop : d.opcode ≠ 0x0402) (hhost : d.u8 16 = 0) (data : Option (List Byte)) :
    exec (.imageLoadDone p q n data) s = match data with
      | none => .next (idleOpcodes (recordMissing (complete d .fetchFault 0 0 (dropLoad (p, q, n) s))))
      | some bs => if bs.length = d.u32 20 then .next (endLoad d bs (monitorAdd d.port bs.length s)) else .next s := by
  rw [exec_imageLoadDone, execImageLoadDone]
  simp only [hload, hd]
  refine (if_neg hop).trans ((if_neg (by omega)).trans ?_)
  cases data <;> rfl

end Loads

/-- Settles O28: a load begins or finds no store, a drop and an unload find what they name free or in use, and a load ends. -/
theorem tablesAndKernels : Obligations.TablesAndKernels := by
  refine fun s p q n d => ⟨fun h hhost => ?table, fun h hhost => ?kernel, fun h hstore habsent => ?absent,
    fun t => tableDrop_drops, fun k h hloaded hfree => ?unload, fun k h hloaded hused => ?used,
    fun l bs hload hd hop hhost hlen => ?arrives, fun l hload hd hop hhost => ?fails⟩
  case table => rw [tableLoad_of_ready h, beginLoad_host hhost]
  case kernel => rw [kernelLoad_of_ready h, beginLoad_host hhost]
  case absent => rw [kernelLoad_of_ready h, beginLoad_storeAbsent hstore habsent]
  case unload => rw [kernelUnload_of_loaded h hloaded, if_neg (by simp [hfree])]
  case used => rw [kernelUnload_of_loaded h hloaded, if_pos hused]
  case arrives => exact (imageLoadDone_host hload hd hop hhost (some bs)).trans (if_pos hlen)
  case fails => exact imageLoadDone_host hload hd hop hhost none

end Sys2Proof.Machine
end

section

/-! ## The hold library: staging, eviction and policy (R162, R163, R422, R424) -/

namespace Sys2Proof.Machine

/-! ### The commands' meanings -/

theorem exec_holdStage (p q n : Nat) (s : State) : exec (.holdStage p q n) s = execHoldStage p q n s := rfl
theorem exec_holdEvict (p q n : Nat) (s : State) : exec (.holdEvict p q n) s = execHoldEvict p q n s := rfl
theorem exec_holdPolicy (p q n : Nat) (s : State) : exec (.holdPolicy p q n) s = execHoldPolicy p q n s := rfl
theorem exec_holdStageDone (i : Nat) (s : State) : exec (.holdStageDone i) s = execHoldStageDone i s := rfl

section Hold

variable {s : State} {p q n : Nat} {d : Dsc}

/-! ### HOLD_STAGE (R162, R424) -/

/-- An item that is resident is staged already; another needs the store and a region that holds it. -/
theorem holdStage_of_ready (h : readyDsc s p q n 0x0501 = some d) : exec (.holdStage p q n) s = .next (
    if itemResident s (d.u32 16) then completeI d .ok (holdUsed s) s
    else if !s.store.mounted then complete d .notReady 0 0 s
    else if (stagingOf s (d.u32 16)).isNone && !itemNamed s (d.u32 16) then refuseWith d .refused 0x14 s
    else beginStage (d.u32 16) [(d.port, d.sq, d.seq)] (setRunning d s)) := by
  rw [exec_holdStage, execHoldStage, withReady_of_ready h]

/-- The first staging of an item reads its table. -/
theorem beginStage_first {i : Nat} (hnone : stagingOf s i = none) (who : List (Nat × Nat × Nat)) :
    beginStage i who s = nvRead 1 (regionOf s (i / 65536)).first 8 (.holdTable i)
      { s with hold := { s.hold with staging := s.hold.staging ++ [(i, who)] } } := by
  simp only [beginStage, hnone]
  rfl

theorem holdStage_begins (h : readyDsc s p q n 0x0501 = some d) (hres : itemResident s (d.u32 16) = false)
    (hmounted : s.store.mounted = true) (hnone : stagingOf s (d.u32 16) = none) (hnamed : itemNamed s (d.u32 16) = true) :
    exec (.holdStage p q n) s = .next (nvRead 1 (regionOf s (d.u32 16 / 65536)).first 8 (.holdTable (d.u32 16))
      { setRunning d s with hold := { s.hold with staging := s.hold.staging ++ [(d.u32 16, [(d.port, d.sq, d.seq)])] } }) := by
  rw [holdStage_of_ready h, if_neg (by simp [hres]), if_neg (by simp [hmounted]), if_neg (by simp [hnamed]),
    beginStage_first (s := setRunning d s) hnone]
  rfl

/-! ### HOLD_EVICT (R163) -/

/-- An item that plays or that the policy names stays. -/
theorem holdEvict_of_ready (h : readyDsc s p q n 0x0505 = some d) : exec (.holdEvict p q n) s = .next (
    if itemPlays s (d.u32 16) ∨ (d.u32 16 ≠ 0 ∧ policyItem s = d.u32 16) then complete d .busy 0 0 s
    else completeI d .ok 0 (followHold (freeTag .hold (holdTag (d.u32 16))
      { s with hold := { s.hold with items := tabSet (fun _ => none) s.hold.items (d.u32 16) none } }))) := by
  rw [exec_holdEvict, execHoldEvict, withReady_of_ready h]
  rfl

/-! ### HOLD_POLICY (R163, R422) -/

/-- A policy that names no item writes its three fields. -/
theorem holdPolicy_noItem (h : readyDsc s p q n 0x0504 = some d) (hitem : d.u32 24 = 0) :
    exec (.holdPolicy p q n) s = .next (freezeIfDue (completeI d .ok 0
      (wrF Reg.HWL_HOLD_ITEM Fld.HWL_HOLD_ITEM_item 0 (wrF Reg.HWL_FREEZE_TIMEOUT Fld.HWL_FREEZE_TIMEOUT_ms (d.u32 20)
        (wrF Reg.HWL_HOLD_TIMEOUT Fld.HWL_HOLD_TIMEOUT_frames (d.u16 16) s))))) := by
  rw [exec_holdPolicy, execHoldPolicy, withReady_of_ready h]
  simp only [hitem, true_or, if_true]

end Hold

/-! ### HOLD_STAGE_DONE (R424) -/

section StageDone

variable {s : State} {i : Nat} {b : List Byte} {who : List (Nat × Nat × Nat)}

theorem holdStageDone_badHeader (hread : tabGet (fun _ => ([] : List Byte)) s.hold.read i = b) (hb : b ≠ [])
    (hwho : stagingOf s i = some who) (hbad : itemHeaderOk b = false) :
    exec (.holdStageDone i) s = .next (refuseStage i s) := by
  rw [exec_holdStageDone, execHoldStageDone]
  simp only [hread]
  rw [if_neg (by simp [hb, hwho]), if_pos (by simp [hbad])]

/-- An item that fits and whose frames are whole becomes resident. -/
theorem holdStageDone_resident {fs : List (List Byte)} {t : State}
    (hread : tabGet (fun _ => ([] : List Byte)) s.hold.read i = b) (hb : b ≠ []) (hwho : stagingOf s i = some who)
    (hok : itemHeaderOk b = true) (halloc : alloc .hold (holdTag i) (6 * leAt b 6 2 * leAt b 8 2 * leAt b 12 4) s = some t)
    (hframes : itemFrames b (leAt b 12 4) [] = some fs) :
    exec (.holdStageDone i) s = .next (endStage i true (fun e s => endDsc e .ok (holdUsed s) s) (followHold
      { t with hold := { t.hold with items := tabSet (fun _ => none) t.hold.items i (some {
        width := leAt b 6 2, height := leAt b 8 2, rep := leAt b 10 1, frames := fs, lbas := (List.range (leAt b 12 4)).map
          (fun j => tabGet (fun _ => 0) s.hold.readLba i + leAt b (64 + 16 * j) 4),
        stored := (List.range (leAt b 12 4)).map (fun j => leAt b (68 + 16 * j) 4), coded := decide (leAt b 11 1 = 1) }) } })) := by
  rw [exec_holdStageDone, execHoldStageDone]
  simp only [hread]
  rw [if_neg (by simp [hb, hwho]), if_neg (by simp [hok])]
  simp only [halloc, hframes]
  rfl

end StageDone

/-- Settles O29: what staging, eviction and a policy answer, and how the staging of an item ends. -/
theorem holdLibrary : Obligations.HoldLibrary := by
  refine fun s p q n d => ⟨fun h hres => ?resident, holdStage_begins, fun h hplays hpolicy => ?evict, fun h hplays => ?plays,
    holdPolicy_noItem, fun i who hb hwho hbad => holdStageDone_badHeader rfl hb hwho hbad,
    fun i who b fs t hread hb hwho hok halloc hframes => holdStageDone_resident hread hb hwho hok halloc hframes⟩
  case resident => rw [holdStage_of_ready h, if_pos hres, holdUsed]
  case evict => rw [holdEvict_of_ready h, if_neg (by simp [hplays, hpolicy])]
  case plays => rw [holdEvict_of_ready h, if_pos (.inl hplays)]

end Sys2Proof.Machine
end

section

/-! ## The store's opcodes, the event log and the SMART poll (R164, R165, R178, R430 to R433) -/

namespace Sys2Proof.Machine

/-! ### The commands' meanings -/

theorem exec_storeRead (p q n : Nat) (s : State) : exec (.storeRead p q n) s = execStoreRead p q n s := rfl
theorem exec_storeWrite (p q n : Nat) (data : Option (List Byte)) (s : State) :
    exec (.storeWrite p q n data) s = execStoreWrite p q n data s := rfl
theorem exec_storeCreate (p q n : Nat) (s : State) : exec (.storeCreate p q n) s = execStoreCreate p q n s := rfl
theorem exec_storeDelete (p q n : Nat) (s : State) : exec (.storeDelete p q n) s = execStoreDelete p q n s := rfl
theorem exec_storeInfo (p q n : Nat) (s : State) : exec (.storeInfo p q n) s = execStoreInfo p q n s := rfl
theorem exec_diagLogRead (p q n : Nat) (s : State) : exec (.diagLogRead p q n) s = execDiagLogRead p q n s := rfl
theorem exec_eventLogFlush (s : State) : exec .eventLogFlush s = execEventLogFlush s := rfl
theorem exec_smartPoll (s : State) : exec .smartPoll s = execSmartPoll s := rfl

section Store

variable {s : State} {p q n : Nat} {d : Dsc}

/-! ### STORE_READ and STORE_WRITE (R164, R165) -/

theorem storeRead_of_ready (h : readyDsc s p q n 0x0601 = some d) : exec (.storeRead p q n) s = .next (
    if !s.store.mounted then complete d .notReady 0 0 s
    else if !rangeIn s (d.u16 16) (d.u64 24) (d.u32 20) then badWith d .badAddress 24 s
    else nvRead 2 ((regionOf s (d.u16 16)).first + d.u64 24) (d.u32 20) (.hostRead d.port d.sq d.seq) (setRunning d s)) := by
  rw [exec_storeRead, execStoreRead, withReady_of_ready h]

/-- A write inside a region that the host may write goes to the store with its data; the log's regions refuse it. -/
theorem storeWrite_of_range (h : readyDsc s p q n 0x0602 = some d) (hmounted : s.store.mounted = true)
    (hrange : rangeIn s (d.u16 16) (d.u64 24) (d.u32 20) = true) (data : Option (List Byte)) :
    exec (.storeWrite p q n data) s = .next (
      if d.u16 16 = 1 ∨ d.u16 16 = 2 then refuseWith d .refused 0x14 s
      else match data with
        | none => complete d .fetchFault 0 0 s
        | some bs => if bs.length ≠ d.u32 20 * 4096 then s
          else nvWrite ((regionOf s (d.u16 16)).first + d.u64 24) bs (.hostWrite d.port d.sq d.seq)
            (monitorAdd d.port bs.length (setRunning d s))) := by
  rw [exec_storeWrite, execStoreWrite, withReady_of_ready h]
  refine congrArg _ ((if_neg (by simp [hmounted])).trans ((if_neg (by simp [hrange])).trans ?_))
  cases data <;> rfl

theorem storeWrite_goes {bs : List Byte} (h : readyDsc s p q n 0x0602 = some d) (hmounted : s.store.mounted = true)
    (hrange : rangeIn s (d.u16 16) (d.u64 24) (d.u32 20) = true) (hlog : d.u16 16 ≠ 1) (hrecord : d.u16 16 ≠ 2)
    (hlen : bs.length = d.u32 20 * 4096) :
    exec (.storeWrite p q n (some bs)) s = .next (nvWrite ((regionOf s (d.u16 16)).first + d.u64 24) bs
      (.hostWrite d.port d.sq d.seq) (monitorAdd d.port bs.length (setRunning d s))) := by
  rw [storeWrite_of_range h hmounted hrange, if_neg (by simp [hlog, hrecord])]
  exact congrArg _ (if_neg (not_not_intro hlen))

/-! ### STORE_CREATE, STORE_DELETE and STORE_INFO (R165) -/

/-- With no change waiting, a descriptor's change is served at once. -/
theorem askChange_first (hnone : s.store.queued = []) :
    askChange d s = serveChanges [(d.port, d.sq, d.seq)] (setRunning d s) := by
  rw [askChange, hnone, List.nil_append]

theorem storeCreate_asks (h : readyDsc s p q n 0x0603 = some d) (hmounted : s.store.mounted = true) (hcount : d.u64 24 ≠ 0) :
    exec (.storeCreate p q n) s = .next (askChange d s) := by
  rw [exec_storeCreate, execStoreCreate, withReady_of_ready h, if_neg (by simp [hmounted]), if_neg hcount]

theorem storeDelete_asks (h : readyDsc s p q n 0x0604 = some d) (hmounted : s.store.mounted = true) :
    exec (.storeDelete p q n) s = .next (askChange d s) := by
  rw [exec_storeDelete, execStoreDelete, withReady_of_ready h, if_neg (by simp [hmounted])]

theorem storeInfo_reports (h : readyDsc s p q n 0x0605 = some d) (hmounted : s.store.mounted = true) :
    exec (.storeInfo p q n) s = .next (completeI d .ok (resAt 16 (s.store.managed % 2 ^ 32) |||
      resAt 20 (freeLbas s.store.managed s.store.dir % 2 ^ 32) ||| resAt 24 s.store.dir.length) s) := by
  rw [exec_storeInfo, execStoreInfo, withReady_of_ready h, if_neg (by simp [hmounted])]

/-! ### DIAG_LOG_READ (R178, R432) -/

/-- Records that do not pass the end of the log's region are read by one command. -/
theorem askLog_one {m : Nat} (hfit : d.at_ % logRecords + m ≤ logRecords) :
    askLog d 0 m s = nvRead 2 ((regionOf s 1).first + d.at_ % logRecords / 128) (logLbas (d.at_ % logRecords) m)
      (.logRead d.port d.sq d.seq 0 m) s := by
  have hmin : min m (logRecords - d.at_ % logRecords) = m := min_eq_left (by omega)
  simp only [askLog, Nat.add_zero, Nat.sub_zero, hmin]

theorem diagLogRead_reads (h : readyDsc s p q n 0x0E04 = some d) (hmounted : s.store.mounted = true) (hcount : d.u16 28 ≠ 0)
    (hheld : logName s (d.u32 24) < logFirst s)
    (hfit : logName s (d.u32 24) % logRecords + min (d.u16 28) (logFirst s - logName s (d.u32 24)) ≤ logRecords) :
    exec (.diagLogRead p q n) s = .next (nvRead 2 ((regionOf s 1).first + logName s (d.u32 24) % logRecords / 128)
      (logLbas (logName s (d.u32 24) % logRecords) (min (d.u16 28) (logFirst s - logName s (d.u32 24))))
      (.logRead d.port d.sq d.seq 0 (min (d.u16 28) (logFirst s - logName s (d.u32 24))))
      (setDsc { d with phase := .running, at_ := logName s (d.u32 24) } s)) := by
  have hsome : min (d.u16 28) (logFirst s - logName s (d.u32 24)) ≠ 0 := by omega
  rw [exec_diagLogRead, execDiagLogRead, withReady_of_ready h, if_neg (by simp [hmounted]), if_neg hsome]
  exact congrArg _ (askLog_one (d := { d with at_ := logName s (d.u32 24) }) hfit)

/-! ### EVENT_LOG_FLUSH and SMART_POLL (R431 to R433) -/

theorem logBusy_of_idle (hidle : s.store.nvme = []) : logBusy s = false := by rw [logBusy, hidle, List.any_nil]

theorem eventLogFlush_writes (hmounted : s.store.mounted = true) (hup : s.store.shutting = false) (hbuf : s.store.logBuf ≠ [])
    (hidle : s.store.nvme = []) : exec .eventLogFlush s = .next (writeLog s) := by
  rw [exec_eventLogFlush, execEventLogFlush, if_pos (by simp [hmounted, hup, hbuf, logBusy_of_idle hidle])]

theorem smartPoll_asks (hmounted : s.store.mounted = true) (hidle : s.store.nvme = []) :
    exec .smartPoll s = .next (sendNvme 0 2 2 0 [] .smart s) := by
  have hnone : pendingUse s .smart = false := by rw [pendingUse, hidle, List.any_nil]
  rw [exec_smartPoll, execSmartPoll, if_pos (by simp [hmounted, hnone])]

end Store

/-- Settles O30: what each opcode asks of the store, then the log's flush and the SMART poll. -/
theorem storeCommands : Obligations.StoreCommands := by
  refine fun s p q n d => ⟨fun h hmounted hrange => ?read, fun h habsent => ?absent, fun bs => storeWrite_goes,
    fun h hmounted hrange hlog => ?refused, fun h hmounted hcount hnone => ?create, fun h hmounted hnone => ?delete,
    storeInfo_reports, diagLogRead_reads, eventLogFlush_writes, smartPoll_asks⟩
  case read => rw [storeRead_of_ready h, if_neg (by simp [hmounted]), if_neg (by simp [hrange])]
  case absent => rw [storeRead_of_ready h, if_pos (by simp [habsent])]
  case refused => rw [storeWrite_of_range h hmounted hrange, if_pos (.inl hlog), refuseWith]
  case create => rw [storeCreate_asks h hmounted hcount, askChange_first hnone]
  case delete => rw [storeDelete_asks h hmounted, askChange_first hnone]

end Sys2Proof.Machine
end

section

/-! ## Codec jobs, output buffers and blocks (R166 to R168, R453 to R460) -/

namespace Sys2Proof.Machine

/-! ### The commands' meanings -/

theorem exec_codecJob (p q n : Nat) (s : State) : exec (.codecJob p q n) s = execCodecJob p q n s := rfl
theorem exec_codecOutBuf (p q n : Nat) (s : State) : exec (.codecOutBuf p q n) s = execCodecOutBuf p q n s := rfl
theorem exec_codecCancel (p q n : Nat) (s : State) : exec (.codecCancel p q n) s = execCodecCancel p q n s := rfl
theorem exec_codecBlockDone (l : Nat) (bytes : Option (List Byte)) (s : State) :
    exec (.codecBlockDone l bytes) s = execCodecBlockDone l bytes s := rfl

section Codec

variable {s : State} {p q n : Nat} {d : Dsc}

/-! ### CODEC_JOB, CODEC_OUT_BUF and CODEC_CANCEL (R166 to R168) -/

/-- A lane takes one job at a time. -/
theorem codecJob_busy {j : CdcJob} (h : readyDsc s p q n 0x0701 = some d) (hjob : (cdcOf s (d.u8 16)).job = some j) :
    exec (.codecJob p q n) s = .next (complete d .busy 0 0 s) := by
  rw [exec_codecJob, execCodecJob, withReady_of_ready h, if_pos (by simp [hjob])]

/-- A job whose input is in the host's memory begins at once. -/
theorem codecJob_begins (h : readyDsc s p q n 0x0701 = some d) (hfree : (cdcOf s (d.u8 16)).job = none) (hhost : d.u8 18 = 0) :
    exec (.codecJob p q n) s = .next (beginJob (d.u8 16) d s) := by
  rw [exec_codecJob, execCodecJob, withReady_of_ready h, if_neg (by simp [hfree]), if_pos hhost]

/-- A buffer of a lane without a job waits for one. -/
theorem codecOutBuf_waits (h : readyDsc s p q n 0x0702 = some d) (hfree : (cdcOf s (d.u8 16)).job = none) :
    exec (.codecOutBuf p q n) s = .next (setCdc (d.u8 16) { cdcOf s (d.u8 16) with bufs := (cdcOf s (d.u8 16)).bufs ++
      [{ port := d.port, sq := d.sq, seq := d.seq, addr := d.u64 24, len := d.u32 20 }] } (setRunning d s)) := by
  rw [exec_codecOutBuf, execCodecOutBuf, withReady_of_ready h]
  simp only [hfree, Option.bind_none]

theorem codecCancel_cancels (h : readyDsc s p q n 0x0703 = some d) :
    exec (.codecCancel p q n) s = .next (completeI d .ok 0 (cancelLane (d.u8 16) s)) := by
  rw [exec_codecCancel, execCodecCancel, withReady_of_ready h]

/-! ### CODEC_BLOCK_DONE (R453 to R460) -/

/-- The next input of a job that reads the host's memory: a block of it, or a fetch that has failed. -/
theorem codecBlockDone_host {l : Nat} {j : CdcJob} (hjob : (cdcOf s l).job = some j) (hwait : j.waiting = none)
    (hstore : j.store = false) (bytes : Option (List Byte)) :
    exec (.codecBlockDone l bytes) s = match bytes with
      | none => .next (endJob l false .fetchFault 0 s)
      | some bs => if bs.length = nextInput j then
          .next (if j.decode then decompressBlock l j bs s else compressBlock l j bs s) else .next s := by
  rw [exec_codecBlockDone, execCodecBlockDone]
  simp only [hjob, hwait, hstore]
  cases bytes <;> rfl

theorem nextInput_compress {j : CdcJob} (h : j.decode = false) : nextInput j = min 8192 (j.inLen - j.pos) := by
  rw [nextInput, if_neg (by simp [h])]

theorem nextInput_decompress {j : CdcJob} (h : j.decode = true) : nextInput j = min 8200 (j.inLen - j.pos) := by
  rw [nextInput, if_pos h]

end Codec

/-- Settles O32: a lane's opcodes, then the block that its job compresses, decompresses or fails to read. -/
theorem codecLanes : Obligations.CodecLanes := by
  refine fun s p q n d => ⟨codecJob_begins, fun j => codecJob_busy, codecOutBuf_waits, codecCancel_cancels,
    fun l j bs hjob hwait hstore hdir hlen => ?compress, fun l j bs hjob hwait hstore hdir hlen => ?decompress,
    fun l j hjob hwait hstore => codecBlockDone_host hjob hwait hstore none⟩
  case compress =>
    refine (codecBlockDone_host hjob hwait hstore (some bs)).trans ?_
    simp only [nextInput_compress hdir, hlen, hdir, if_true, Bool.false_eq_true, if_false]
  case decompress =>
    refine (codecBlockDone_host hjob hwait hstore (some bs)).trans ?_
    simp only [nextInput_decompress hdir, hlen, hdir, if_true]

end Sys2Proof.Machine
end

section

/-! ## Confidence rectangles (R169, R170, R485 to R490) -/

namespace Sys2Proof.Machine

/-! ### The commands' meanings -/

theorem exec_checkRect (p q n : Nat) (s : State) : exec (.checkRect p q n) s = execCheckRect p q n s := rfl
theorem exec_checkExpect (p q n : Nat) (s : State) : exec (.checkExpect p q n) s = execCheckExpect p q n s := rfl
theorem exec_checkFrameComputed (r : Nat) (s : State) : exec (.checkFrameComputed r) s = execCheckFrameComputed r s := rfl

section Rectangles

variable {s : State} {p q n : Nat} {d : Dsc}

/-! ### CHECK_RECT and CHECK_EXPECT (R169, R170, R485 to R487) -/

/-- A rectangle that its check point can compute is defined. -/
theorem checkRect_of_ready (h : readyDsc s p q n 0x0801 = some d) : exec (.checkRect p q n) s = .next (
    if rectValid s (d.u8 16 / 16) (d.u8 17) (d.u16 20) (d.u16 22) (d.u16 24) (d.u16 26) then defineRect d s
    else complete d .refused 0 (resAt 16 0x88) s) := by
  rw [exec_checkRect, execCheckRect, withReady_of_ready h]
  rfl

theorem checkExpect_of_ready (h : readyDsc s p q n 0x0802 = some d) : exec (.checkExpect p q n) s = .next (
    if d.u8 17 = 1 then installSticky d s else expectFrame d s) := by
  rw [exec_checkExpect, execCheckExpect, withReady_of_ready h]

/-- A value for the next frame computed waits in its rectangle's queue, which holds 16. -/
theorem expectFrame_next (htarget : d.target = 0) : expectFrame d s =
    if 16 ≤ (rectOf s (d.u8 16)).waiting.length then complete d .resource 0 (resAt 16 0x88) s
    else setRunning d (followWaiting (d.u8 16) (setRect (d.u8 16) { rectOf s (d.u8 16) with
      waiting := (rectOf s (d.u8 16)).waiting ++
        [{ port := d.port, sq := d.sq, seq := d.seq, frame := 0, crc := d.u32 20 }] } s)) := by
  simp only [expectFrame, htarget, decide_true]
  cases (rectOf s (d.u8 16)).window.find? (fun e => decide (e.1 = 0)) <;> rfl

/-! ### CHECK_FRAME_COMPUTED (R488 to R490) -/

/-- The check points before DRIVE compute a rectangle with their frame. -/
theorem checkFrameComputed_frame {r : Nat} (hr : r < 32) (hon : rectOn s r = true) :
    exec (.checkFrameComputed r) s = .next (computeRect s r) := by
  have hpoint : checkPoint r ≠ 2 := by unfold checkPoint; omega
  rw [exec_checkFrameComputed, execCheckFrameComputed, if_neg (by simp [hon]; omega), if_neg hpoint]

/-- DRIVE computes a rectangle with the scan frame. -/
theorem checkFrameComputed_drive {r : Nat} (hlow : 32 ≤ r) (hhigh : r < 48) (hon : rectOn s r = true) :
    exec (.checkFrameComputed r) s = .next (computeDrive (sfn s) s r) := by
  have hpoint : checkPoint r = 2 := by unfold checkPoint; omega
  rw [exec_checkFrameComputed, execCheckFrameComputed, if_neg (by simp [hon]; omega), if_pos hpoint]

end Rectangles

/-- Settles O33: a rectangle that is defined or refused, the values expected of it, and the frame that computes it. -/
theorem confidenceRectangles : Obligations.ConfidenceRectangles := by
  refine fun s p q n d => ⟨fun h hvalid => ?defined, fun h hinvalid => ?refused, fun h hsticky => ?sticky,
    fun h hframe htarget hroom => ?waits, fun h hframe htarget hfull => ?full, fun r => checkFrameComputed_frame,
    fun r => checkFrameComputed_drive⟩
  case defined => rw [checkRect_of_ready h, if_pos hvalid]
  case refused => rw [checkRect_of_ready h, if_neg (by simp [hinvalid])]
  case sticky => rw [checkExpect_of_ready h, if_pos hsticky, installSticky]
  case waits => rw [checkExpect_of_ready h, if_neg (by omega), expectFrame_next htarget, if_neg (by omega)]
  case full => rw [checkExpect_of_ready h, if_neg (by omega), expectFrame_next htarget, if_pos hfull]

end Sys2Proof.Machine
end

section

/-! ## Counters, bandwidth monitors and tile tags (R171, R172, R493 to R503) -/

namespace Sys2Proof.Machine

/-! ### The commands' meanings -/

theorem exec_ctrProgram (p q : Nat) (c : SeqCounts) (s : State) : exec (.ctrProgram p q c) s = execCtrProgram p q c s := rfl
theorem exec_ctrSnapshot (p q n : Nat) (s : State) : exec (.ctrSnapshot p q n) s = execCtrSnapshot p q n s := rfl
theorem exec_ctrFreeze (p q n : Nat) (s : State) : exec (.ctrFreeze p q n) s = execCtrFreeze p q n s := rfl
theorem exec_bwMonitor (p q n : Nat) (s : State) : exec (.bwMonitor p q n) s = execBwMonitor p q n s := rfl
theorem exec_bwWindowEnd (m lo hi : Nat) (s : State) : exec (.bwWindowEnd m lo hi) s = execBwWindowEnd m lo hi s := rfl
theorem exec_counterWrap (m : Nat) (s : State) : exec (.counterWrap m) s = execCounterWrap m s := rfl
theorem exec_tagConfig (p q n : Nat) (s : State) : exec (.tagConfig p q n) s = execTagConfig p q n s := rfl

section Counters

variable {s : State} {p q n k : Nat} {d : Dsc}

/-! ### CTR_PROGRAM (R171, R493 to R496) -/

/-- A counter that asks for no chain is set to its preset, then configured. -/
theorem ctrProgram_unchained (h : readyDsc s p q n 0x0901 = some d) (hchain : bitAt (d.u8 17) 1 = false) :
    exec (.ctrProgram p q ⟨n, k⟩) s = .next (completeI d .ok 0
      (ctrConfig (d.u8 16) (d.u8 17) (d.u8 18) (d.u16 20) (ctrPreset (d.u8 16) (d.u64 24) k s))) := by
  rw [exec_ctrProgram, execCtrProgram, withReady_of_ready h, if_neg (by simp [hchain])]

/-- The upper counter of a pair is the lower's partner: it starts no pair of its own. -/
theorem ctrProgram_oddChain (h : readyDsc s p q n 0x0901 = some d) (hchain : bitAt (d.u8 17) 1 = true)
    (hodd : d.u8 16 % 2 = 1) : exec (.ctrProgram p q ⟨n, k⟩) s = .next (complete d .refused 0 (resAt 16 0x90) s) := by
  have hmay : mayChain s (d.u8 16) = false := decide_eq_false fun hpair => by omega
  rw [exec_ctrProgram, execCtrProgram, withReady_of_ready h, if_pos (by simp [hchain, hmay]), refuseWith]

/-- What is counted before the preset stays below a wrap. -/
theorem ctrPreset_noWrap {m preset : Nat} (hlow : ctrNow s m + k < 2 ^ 48) :
    ctrPreset m preset k s = setCtr m { value := preset % 2 ^ 48, ovf := 0 } s := by
  have hwraps : ctrWraps s m k = false := by
    rw [ctrWraps, Bool.and_eq_false_iff]
    refine .inr (decide_eq_false ?_)
    split_ifs <;> omega
  simp only [ctrPreset, hwraps, Bool.false_and, Bool.false_eq_true, if_false]
  rfl

/-- A key that is listed leaves what the other keys read, whatever form the table has. -/
theorem tabGet_insert_other {α : Type} (f : Nat → α) {i j : Nat} (v : α) (hj : j ≠ i) :
    ∀ t : Tab α, tabGet f (tabInsert t i v) j = tabGet f t j
  | [] => by simp only [tabInsert, tabGet, if_neg (Ne.symm hj), ite_self]
  | (a, w) :: t => by
    simp only [tabInsert]
    split_ifs with hsame hbefore
    · simp only [tabGet, if_neg (Ne.symm hj), hsame]
    · simp only [tabGet, if_neg (Ne.symm hj)]
      by_cases hlow : j < i
      · rw [if_pos hlow, if_neg (by omega), if_pos (by omega)]
      · rw [if_neg hlow]
    · simp only [tabGet, tabGet_insert_other f v hj t]

/-- A value other than the reset value leaves the other registers. -/
theorem rd_wr_nonreset {i j : Nat} {v : Word} (hv : v ≠ regReset i) (hj : j ≠ i) : rd (wr i v s) j = rd s j := by
  simp only [rd, wr, tabSet, if_neg hv]
  exact tabGet_insert_other regReset v hj _

/-- A field that holds a value is not zero. -/
theorem withField_ne_zero (w : Word) {lo m v : Nat} (h : lo + m ≤ 32) (hv : v % 2 ^ m ≠ 0) : withField w lo m v ≠ 0 := by
  intro hzero
  have hread := field_withField w v h
  rw [hzero] at hread
  exact hv (hread.symm.trans (by simp [field, bitsAt]))

/-- The overflow flag is raised in its own registers. -/
theorem rd_flagOverflow {j : Nat} (hflags : j ≠ Reg.PERF_FLAGS) (hcount : j ≠ Reg.PERF_FLAG_CNT) :
    rd (flagOverflow s) j = rd s j := by
  have hcnt : ∀ x : Nat, satAdd 8 x 1 % 2 ^ 8 ≠ 0 := fun x => by unfold satAdd; omega
  refine (rd_wr_nonreset (withField_ne_zero _ (by decide) (hcnt _)) hcount).trans ?_
  exact rd_wr_nonreset (withField_ne_zero _ (by decide) (by decide)) hflags

theorem ctrChained_flagOverflow (s : State) (m : Nat) : ctrChained (flagOverflow s) m = ctrChained s m := by
  have hflags : Reg.PERF_CTRn_CFG m ≠ Reg.PERF_FLAGS := by unfold Reg.PERF_CTRn_CFG Reg.PERF_FLAGS; omega
  have hcount : Reg.PERF_CTRn_CFG m ≠ Reg.PERF_FLAG_CNT := by unfold Reg.PERF_CTRn_CFG Reg.PERF_FLAG_CNT; omega
  unfold ctrChained rdB rdF
  rw [rd_flagOverflow hflags hcount]

/-- A single counter that wraps before its preset flags the wrap. -/
theorem ctrPreset_wraps {m preset : Nat} (hsingle : ctrChained s m = false)
    (hon : rdB s (Reg.PERF_CTRn_CFG m) Fld.PERF_CTRn_CFG_enable = true)
    (hedges : rdB s (Reg.PERF_CTRn_CFG m) Fld.PERF_CTRn_CFG_level = false)
    (hruns : rdB s Reg.PERF_STAT Fld.PERF_STAT_frozen = false) (hwrap : 2 ^ 48 ≤ ctrNow s m + k) :
    ctrPreset m preset k s = setCtr m { value := preset % 2 ^ 48, ovf := 1 } (flagOverflow s) := by
  have hwraps : ctrWraps s m k = true := by
    simp only [ctrWraps, hon, hedges, hruns, Bool.false_eq_true, if_false, decide_eq_true hwrap]
    rfl
  simp only [ctrPreset, hwraps, if_true, ctrChained_flagOverflow, hsingle, Bool.and_false, Bool.false_and,
    Bool.false_eq_true, if_false]
  rfl

/-! ### CTR_SNAPSHOT and CTR_FREEZE (R171, R498, R499) -/

theorem ctrSnapshot_takes (h : readyDsc s p q n 0x0902 = some d) : exec (.ctrSnapshot p q n) s =
    .next (completeI d .ok (resAt 16 ((s.perf.snapSeq + 1) % 2 ^ 32)) (takeSnapshot s)) := by
  rw [exec_ctrSnapshot, execCtrSnapshot, withReady_of_ready h]
  rfl

/-- Released counters run on. -/
theorem ctrFreeze_releases (h : readyDsc s p q n 0x0903 = some d) (hoff : d.u8 16 = 0) : exec (.ctrFreeze p q n) s =
    .next (completeI d .ok 0 (wrF Reg.PERF_STAT Fld.PERF_STAT_frozen 0 { s with fresh := s.fresh + 1 })) := by
  rw [exec_ctrFreeze, execCtrFreeze, withReady_of_ready h]
  simp only [hoff]
  rfl

theorem foldl_holdCtr_frozen (hfrozen : rdB s Reg.PERF_STAT Fld.PERF_STAT_frozen = true) (l : List Nat) :
    l.foldl holdCtr s = s := by
  have hheld : ∀ m, holdCtr s m = s := fun m => if_neg (by simp [ctrFree, hfrozen])
  exact List.foldl_fixed' hheld l

/-- Counters that are frozen already hold what they hold. -/
theorem ctrFreeze_again (h : readyDsc s p q n 0x0903 = some d) (hon : d.u8 16 = 1)
    (hfrozen : rdB s Reg.PERF_STAT Fld.PERF_STAT_frozen = true) : exec (.ctrFreeze p q n) s =
    .next (completeI d .ok 0 (wrF Reg.PERF_STAT Fld.PERF_STAT_frozen 1 { s with fresh := s.fresh + 1 })) := by
  rw [exec_ctrFreeze, execCtrFreeze, withReady_of_ready h]
  simp only [hon, hfrozen, decide_true, if_true, foldl_holdCtr_frozen hfrozen]
  rfl

/-- Counters that run are held at what they read, and the two fixed clocks with them. -/
theorem ctrFreeze_holds {u : State} (h : readyDsc s p q n 0x0903 = some d) (hon : d.u8 16 = 1)
    (hruns : rdB s Reg.PERF_STAT Fld.PERF_STAT_frozen = false) (hu : (List.range 64).foldl holdCtr s = u) :
    exec (.ctrFreeze p q n) s = .next (completeI d .ok 0 (wrF Reg.PERF_STAT Fld.PERF_STAT_frozen 1 { u with
      fresh := u.fresh + 1,
      perf := { u.perf with
        fixed := tabSet (fun _ => 0) (tabSet (fun _ => 0) s.perf.fixed 0 (Config.ticksAt s.fresh % 2 ^ 64)) 1
          (Config.compCyclesAt s.fresh % 2 ^ 64) } })) := by
  rw [exec_ctrFreeze, execCtrFreeze, withReady_of_ready h]
  simp only [hon, hruns, hu, decide_true, if_true]
  rfl

/-! ### Bandwidth monitors (R172, R500, R501) -/

theorem bwMonitor_starts (h : readyDsc s p q n 0x0904 = some d) : exec (.bwMonitor p q n) s = .next (completeI d .ok 0
    (wrF (Reg.PERF_BWm_CFG (d.u8 16)) Fld.PERF_BWm_CFG_window_us (d.u32 20) { s with perf := { s.perf with
      monitors := tabSet (fun _ => {}) s.perf.monitors (d.u8 16)
        { tabGet (fun _ => ({} : Monitor)) s.perf.monitors (d.u8 16) with bytes := 0 } } })) := by
  rw [exec_bwMonitor, execBwMonitor, withReady_of_ready h]

/-- What a monitor publishes at the end of a window. -/
def Monitor.published (c : Monitor) (bytes lo hi : Nat) : Monitor :=
  { bytes := 0, pubBytes := bytes % 2 ^ 48, pubMin := lo % 2 ^ 32, pubMax := hi % 2 ^ 32, seq := (c.seq + 1) % 65536 }

section Window

variable {m lo hi : Nat}

/-- A monitor of a byte stream publishes what it has counted. -/
theorem bwWindowEnd_bytes (hm : m < 10) (hread : m ≠ 5) (hwrite : m ≠ 6)
    (hon : rdF s (Reg.PERF_BWm_CFG m) Fld.PERF_BWm_CFG_window_us ≠ 0) :
    exec (.bwWindowEnd m lo hi) s = .next { s with fresh := s.fresh + 1, perf := { s.perf with
      monitors := tabSet (fun _ => {}) s.perf.monitors m ((tabGet (fun _ => ({} : Monitor)) s.perf.monitors m).published
        (tabGet (fun _ => ({} : Monitor)) s.perf.monitors m).bytes lo hi) } } := by
  have hlines : ¬ (m = 5 ∨ m = 6) := fun hor => hor.elim hread hwrite
  rw [exec_bwWindowEnd, execBwWindowEnd, if_neg fun hor => hor.elim (by omega) hon]
  simp only [hlines, decide_false, Bool.false_eq_true, if_false]
  rfl

/-- A monitor of the Reservoir's lines publishes whole lines between the bounds of its cycles. -/
theorem bwWindowEnd_lines (hm : m = 5 ∨ m = 6) (hw : 2 ≤ rdF s (Reg.PERF_BWm_CFG m) Fld.PERF_BWm_CFG_window_us)
    (hlo : lo % 64 = 0) (hhi : hi % 64 = 0) (hle : lo ≤ hi) :
    exec (.bwWindowEnd m lo hi) s = .next { s with fresh := s.fresh + 1, perf := { s.perf with
      monitors := tabSet (fun _ => {}) s.perf.monitors m ((tabGet (fun _ => ({} : Monitor)) s.perf.monitors m).published
        (rsvWindow s (rdF s (Reg.PERF_BWm_CFG m) Fld.PERF_BWm_CFG_window_us) lo hi) lo hi) } } := by
  have hwhole : lo / 64 * 64 = lo ∧ max lo (hi / 64 * 64) = hi := by omega
  rw [exec_bwWindowEnd, execBwWindowEnd, if_neg (by omega)]
  simp only [hm, decide_true, if_true, hwhole, if_neg (by omega : ¬ rdF s (Reg.PERF_BWm_CFG m) Fld.PERF_BWm_CFG_window_us = 1)]
  rfl

end Window

/-- The lines of a window lie between its cycles' bounds and are whole. -/
theorem rsvWindow_bounds {w lo hi : Nat} (hw : 2 ≤ w) (hlo : lo % 64 = 0) (hhi : hi % 64 = 0) (hle : lo ≤ hi) :
    w * lo ≤ rsvWindow s w lo hi ∧ rsvWindow s w lo hi ≤ w * hi ∧ rsvWindow s w lo hi % 64 = 0 := by
  obtain ⟨v, rfl⟩ : ∃ v, w = v + 2 := ⟨w - 2, by omega⟩
  obtain ⟨a, rfl⟩ : ∃ a, lo = 64 * a := ⟨lo / 64, by omega⟩
  obtain ⟨b, rfl⟩ : ∃ b, hi = 64 * (a + b) := ⟨hi / 64 - a, by omega⟩
  have hspan : v * (64 * (a + b) - 64 * a) = 64 * (v * b) := by
    rw [← Nat.mul_sub, Nat.add_sub_cancel_left, Nat.mul_left_comm]
  have hlines : v * (64 * (a + b) - 64 * a) / 64 = v * b := by rw [hspan, Nat.mul_div_cancel_left _ (by decide)]
  have hfree : Config.freeValue s.fresh % (v * b + 1) ≤ v * b := Nat.le_of_lt_succ (Nat.mod_lt _ (Nat.succ_pos _))
  have htotal : rsvWindow s (v + 2) (64 * a) (64 * (a + b)) =
      64 * ((v + 2) * a + b + Config.freeValue s.fresh % (v * b + 1)) := by
    rw [rsvWindow, if_neg (by omega), Nat.add_sub_cancel, hlines]
    ring
  have hhigh : (v + 2) * (64 * (a + b)) = 64 * ((v + 2) * a + v * b + 2 * b) := by ring
  have hlow : (v + 2) * (64 * a) = 64 * ((v + 2) * a) := by ring
  rw [htotal, hlow, hhigh]
  exact ⟨by omega, by omega, Nat.mul_mod_right ..⟩

/-! ### COUNTER_WRAP (R494, R497) -/

/-- A fixed counter that wraps while nothing is frozen flags the wrap. -/
theorem counterWrap_fixed {m : Nat} (hm : m = 64 ∨ m = 65) (hruns : rdB s Reg.PERF_STAT Fld.PERF_STAT_frozen = false) :
    exec (.counterWrap m) s = .next (flagOverflow s) := by
  rw [exec_counterWrap, execCounterWrap, if_pos ⟨hm, by simp [hruns]⟩]

/-- A counter of clock cycles that runs adds what is left to its wrap. -/
theorem counterWrap_cycles {m : Nat} (hm : m < 64)
    (hevent : rdF s (Reg.PERF_CTRn_CFG m) Fld.PERF_CTRn_CFG_event = 1)
    (hlevel : rdB s (Reg.PERF_CTRn_CFG m) Fld.PERF_CTRn_CFG_level = true) (hlower : ctrOddHalf s m = false)
    (hruns : rdB s Reg.PERF_STAT Fld.PERF_STAT_frozen = false)
    (hon : rdB s (Reg.PERF_CTRn_CFG m) Fld.PERF_CTRn_CFG_enable = true) :
    exec (.counterWrap m) s = .next (ctrAdd m (2 ^ 48 - (ctr s m).value) s) := by
  have hfree : ctrFree s m = true := by simp [ctrFree, ctrTimed, hevent, hlevel, hlower, hruns, hon]
  rw [exec_counterWrap, execCounterWrap, if_neg (by omega), if_neg fun hor => hor.elim (by omega) (absurd hfree)]

/-! ### TAG_CONFIG (R503) -/

/-- A configuration that clears the tags starts their ring again. -/
theorem tagConfig_clears (h : readyDsc s p q n 0x0905 = some d) (hclear : d.u8 17 = 1) : exec (.tagConfig p q n) s =
    .next (completeI d .ok 0 (wrF Reg.PERF_STAT Fld.PERF_STAT_tag_k (d.u8 16)
      { s with perf := { s.perf with tagS := 1, tags := [], tagIndex := 0 } })) := by
  rw [exec_tagConfig, execTagConfig, withReady_of_ready h]
  simp only [hclear, decide_true, if_true]

end Counters

/-- Settles O34: what programs, reads and freezes the counters, what a window publishes, what a wrap adds, and the tags. -/
theorem counterCommands : Obligations.CounterCommands := by
  refine fun s p q n d => ⟨fun k h hchain hlow => ?preset, fun k h hchain hsingle hon hedges hruns hwrap => ?wraps,
    fun k => ctrProgram_oddChain, ctrSnapshot_takes, ctrFreeze_releases, ctrFreeze_again, fun u => ctrFreeze_holds,
    bwMonitor_starts, fun m lo hi hm hread hwrite hon => bwWindowEnd_bytes hm hread hwrite hon,
    fun m hm hruns => counterWrap_fixed hm hruns, fun m => counterWrap_cycles, tagConfig_clears,
    fun m lo hi w hm hw htwo hlo hhi hle => ?lines⟩
  case preset => rw [ctrProgram_unchained h hchain, ctrPreset_noWrap hlow]
  case wraps =>
    rw [ctrProgram_unchained h hchain, ctrPreset_wraps hsingle hon hedges hruns hwrap]
    rfl
  case lines =>
    subst hw
    obtain ⟨hlow, hhigh, hwhole⟩ := rsvWindow_bounds (s := s) htwo hlo hhi hle
    exact ⟨_, hlow, hhigh, hwhole, bwWindowEnd_lines hm htwo hlo hhi hle⟩

end Sys2Proof.Machine
end

section

/-! ## The lane opcodes and the owner's direct lane writes (R173, R174, R180, R186, R188, R189, R202 to R206) -/

namespace Sys2Proof.Machine

/-! ### The commands' meanings -/

theorem exec_laneTrain (p q n : Nat) (s : State) : exec (.laneTrain p q n) s = execLaneTrain p q n s := rfl
theorem exec_laneBitSlip (p q n : Nat) (s : State) : exec (.laneBitSlip p q n) s = execLaneBitSlip p q n s := rfl
theorem exec_laneEyeScan (p q n : Nat) (s : State) : exec (.laneEyeScan p q n) s = execLaneEyeScan p q n s := rfl
theorem exec_lanePrbs (p q n : Nat) (s : State) : exec (.lanePrbs p q n) s = execLanePrbs p q n s := rfl
theorem exec_laneCfgWrite (p l a : Nat) (v : Word) (s : State) :
    exec (.laneCfgWrite p l a v) s = execLaneCfgWrite p l a v s := rfl
theorem exec_laneSlipWrite (p l a : Nat) (v : Word) (s : State) :
    exec (.laneSlipWrite p l a v) s = execLaneSlipWrite p l a v s := rfl
theorem exec_laneEyeStartWrite (p l a : Nat) (v : Word) (s : State) :
    exec (.laneEyeStartWrite p l a v) s = execLaneEyeStartWrite p l a v s := rfl
theorem exec_prbsCtrlWrite (p l a : Nat) (v : Word) (s : State) :
    exec (.prbsCtrlWrite p l a v) s = execPrbsCtrlWrite p l a v s := rfl
theorem exec_prbsInjectWrite (p l a b k : Nat) (v : Word) (s : State) :
    exec (.prbsInjectWrite p l a b k v) s = execPrbsInjectWrite p l a b k v s := rfl
theorem exec_prbsBitsLoRead (p l a b k : Nat) (s : State) :
    exec (.prbsBitsLoRead p l a b k) s = execPrbsBitsLoRead p l a b k s := rfl

section Opcodes

variable {s : State} {p q n : Nat} {d : Dsc}

/-! ### LANE_TRAIN (R173, R186, R188) -/

/-- A lane that carries data is in no training. -/
theorem retraining_of_active {l a : Nat} (h : laneIs s l a Lane.active = true) : retraining s l a = false := by
  have hstate : laneState s l a = 5 := of_decide_eq_true h
  simp [retraining, laneIs, hstate, Lane.fast]

theorem abandonPacket_of_none {a c : Nat} (h : (laneOf s 0 a).packet = none) : abandonPacket a c s = s := by
  rw [abandonPacket, h]

theorem startFast_input (a : Nat) (s : State) : startFast 0 a s =
    countRetrain Fld.LANE_RETRAIN_CNT_fast 0 a (goLane 0 a Lane.fast (setLane 0 a
      { laneOf s 0 a with attempts := 1, invalid := [], valid := 0, good := 0, idle := 0, thaw := false } s)) := rfl

/-- A fast training of an input lane that carries data begins at once. -/
theorem laneTrain_fast (h : readyDsc s p q n 0x0B01 = some d) (hlink : d.u8 16 = 0) (hfast : d.u8 17 = 0)
    (hmask : trainMask d = [0]) (hactive : laneIs s 0 0 Lane.active = true) (hpacket : (laneOf s 0 0).packet = none) :
    exec (.laneTrain p q n) s = .next (endJobs (countRetrain Fld.LANE_RETRAIN_CNT_fast 0 0 (goLane 0 0 Lane.fast
      (setLane 0 0 { laneOf s 0 0 with attempts := 1, invalid := [], valid := 0, good := 0, idle := 0, thaw := false }
        { setRunning d s with lanes := { s.lanes with jobs := s.lanes.jobs ++
          [{ port := p, sq := q, seq := n, link := 0, full := false, waiting := [], running := [0] }] } })))) := by
  have hidle := retraining_of_active hactive
  rw [exec_laneTrain, execLaneTrain, withReady_of_ready h]
  simp only [hlink, hfast, hmask, List.filter_cons, List.filter_nil, hidle, Bool.false_eq_true, if_false, Bool.not_false,
    if_true, List.foldl_cons, List.foldl_nil, true_and]
  rw [if_pos (by exact hactive), abandonPacket_of_none (by exact hpacket), startFast_input]
  rfl

/-! ### LANE_BIT_SLIP, LANE_EYE_SCAN and LANE_PRBS (R173, R174, R189, R202 to R205) -/

theorem laneBitSlip_of_ready (h : readyDsc s p q n 0x0B02 = some d) : exec (.laneBitSlip p q n) s = .next (
    if activeVideo s (d.u8 16) (d.u8 17) then complete d .refused 0 (resAt 16 (linkUnit (d.u8 16))) s
    else if d.u8 16 = 0 then completeI d .ok 0 (slip 0 (d.u8 17) (d.u16 18) s)
    else askDriver { lane := d.u8 17, cmd := 3, args := leBytes 1 (d.u16 18), dsc := some (p, q, n) } (setRunning d s)) := by
  rw [exec_laneBitSlip, execLaneBitSlip, withReady_of_ready h]
  rfl

theorem laneEyeScan_of_ready (h : readyDsc s p q n 0x0B03 = some d) : exec (.laneEyeScan p q n) s = .next (
    if resultBusy s (Reg.LANE_EYE_RESULT (d.u8 16) (d.u8 17)) then
      complete d .busy 0 0 (setFlag (Flag.LANE_busy_reject (d.u8 16) (d.u8 17)) s)
    else eyeStart (d.u8 16) (d.u8 17) (some (p, q, n)) (setRunning d s)) := by
  rw [exec_laneEyeScan, execLaneEyeScan, withReady_of_ready h]

/-- A pattern without an injection is written and taken up. -/
theorem lanePrbs_pattern (h : readyDsc s p q n 0x0B04 = some d) (hidle : activeVideo s (d.u8 16) (d.u8 17) = false)
    (hclean : d.u8 20 = 0) :
    exec (.lanePrbs p q n) s = .next (completeI d .ok 0 (prbsPattern (d.u8 16) (d.u8 17) (d.u8 18) (d.u64 24)
      (wr (Reg.PRBS_USER_HI (d.u8 16) (d.u8 17)) (BitVec.ofNat 32 (d.u64 24 / 2 ^ 32))
        (wr (Reg.PRBS_USER_LO (d.u8 16) (d.u8 17)) (BitVec.ofNat 32 (d.u64 24))
          (wrF (Reg.PRBS_CTRL (d.u8 16) (d.u8 17)) Fld.PRBS_CTRL_role (d.u8 19)
            (wrF (Reg.PRBS_CTRL (d.u8 16) (d.u8 17)) Fld.PRBS_CTRL_pattern (d.u8 18) s)))))) := by
  have hnone : injectBits (d.u8 20) (d.u8 21) = 0 := by rw [hclean]; rfl
  rw [exec_lanePrbs, execLanePrbs, withReady_of_ready h, if_neg (by simp [hidle])]
  simp only [hnone, if_true]

end Opcodes

section Writes

variable {s : State} {p l a : Nat} {v : Word}

/-! ### LANE_CFG_WRITE (R180, R186) -/

/-- A lane that is disabled leaves its training, its job and its segment. -/
theorem laneCfgWrite_disables (hp : ownerWrites s p = true) (hwas : laneEnabled s l a = true)
    (hoff : laneEnabled (writeRw (Reg.LANE_CFG l a) v s) l a = false) :
    exec (.laneCfgWrite p l a v) s = .next (jobLaneGone l a (goLane l a Lane.off (endTrial l a
      (setLane l a { laneOf s l a with saved := none } (writeRw (Reg.LANE_CFG l a) v s))))) := by
  have hlane : laneOf (writeRw (Reg.LANE_CFG l a) v s) l a = laneOf s l a := by simp [laneOf]
  rw [exec_laneCfgWrite, execLaneCfgWrite, if_neg (by simp [hp])]
  simp only [hwas, hoff, hlane, Bool.false_and, Bool.false_eq_true, if_false, Bool.not_false, Bool.and_self, if_true]

/-- A lane that is enabled at a rate it can run trains once training has begun. -/
theorem laneCfgWrite_enables {u : State} (hp : ownerWrites s p = true) (hwas : laneEnabled s l a = false)
    (hon : laneEnabled (writeRw (Reg.LANE_CFG l a) v s) l a = true) (hbegun : s.lanes.begun = true)
    (hu : wrF (Reg.LANE_ALIGN l a) Fld.LANE_ALIGN_position 0 (writeRw (Reg.LANE_CFG l a) v s) = u)
    (hrate : rateOk u l a = true) : exec (.laneCfgWrite p l a v) s = .next (startTraining l a 1 u) := by
  have hstill : u.lanes.begun = true := by rw [← hu]; simp [hbegun]
  rw [exec_laneCfgWrite, execLaneCfgWrite, if_neg (by simp [hp])]
  simp only [hwas, hon, hu, hrate, hstill, Bool.not_false, Bool.not_true, Bool.and_self, Bool.false_eq_true, if_false, if_true]

/-! ### LANE_SLIP_WRITE and LANE_EYE_START_WRITE (R189, R202) -/

theorem laneSlipWrite_slips (hp : ownerWrites s p = true) (hlow : 1 ≤ field v 0 7) (hhigh : field v 0 7 ≤ 66)
    (hidle : activeVideo s 0 a = false) : exec (.laneSlipWrite p 0 a v) s = .next (slip 0 a (field v 0 7) s) := by
  have hgo : (!ownerWrites s p || decide (field v 0 7 = 0 ∨ 66 < field v 0 7)) = false := by
    rw [hp, decide_eq_false (by omega)]; rfl
  rw [exec_laneSlipWrite, execLaneSlipWrite]
  simp only [hgo, hidle, Bool.false_eq_true, if_false, if_true]

theorem laneEyeStartWrite_starts (hp : ownerWrites s p = true) (hgo : field v 0 1 = 1)
    (hidle : resultBusy s (Reg.LANE_EYE_RESULT l a) = false) :
    exec (.laneEyeStartWrite p l a v) s = .next (eyeStart l a none s) := by
  rw [exec_laneEyeStartWrite, execLaneEyeStartWrite, if_neg (by simp [hp, hgo]), if_neg (by simp [hidle])]

/-! ### PRBS_CTRL_WRITE (R203, R205) -/

theorem prbsCtrlWrite_writes (hp : ownerWrites s p = true) (hidle : activeVideo s l a = false) :
    exec (.prbsCtrlWrite p l a v) s = .next (if 5 < field v 0 3 then writeRw (Reg.PRBS_CTRL l a) v s
      else prbsPattern l a (field v 0 3) (prbsUser (writeRw (Reg.PRBS_CTRL l a) v s) l a) (writeRw (Reg.PRBS_CTRL l a) v s)) := by
  rw [exec_prbsCtrlWrite, execPrbsCtrlWrite, if_neg (by simp [hp]), if_neg (by simp [hidle])]

/-! ### PRBS_INJECT_WRITE and PRBS_BITS_LO_READ (R204 to R206, R210) -/

variable {b k : Nat} {u : State}

/-- One bit is injected, after the bits that came before the write. -/
theorem prbsInjectWrite_one (hone : field v 0 2 = 1) (hu : prbsAdvance l a b k s = u) (hp : ownerWrites u p = true) :
    exec (.prbsInjectWrite p l a b k v) s = .next (prbsInject l a 1 u) := by
  have hbits : injectBits (field v 0 2) (field v 8 7) = 1 := if_pos hone
  rw [exec_prbsInjectWrite, execPrbsInjectWrite]
  simp only [hu, hbits]
  exact if_neg (by simp [hp])

/-- The low word captures the high word with it. -/
theorem prbsBitsLoRead_captures (hu : prbsAdvance l a b k s = u) (hp : portWrites u p = true) (hdone : u.boot.lanesDone = true) :
    exec (.prbsBitsLoRead p l a b k) s = .next (emit (.readData p (Reg.PRBS_BITS_LO l a) ((laneOf u l a).bits % 2 ^ 32))
      (wr (Reg.PRBS_BITS_HI l a) (BitVec.ofNat 32 ((laneOf u l a).bits / 2 ^ 32)) u)) := by
  rw [exec_prbsBitsLoRead, execPrbsBitsLoRead]
  simp only [hu]
  exact if_neg (by simp [hp, hdone])

/-- A driver lane sends the bits its generator makes. -/
theorem prbsAdvance_sends {g : Nat × LaneState} (hprbs : laneIs s 1 a Lane.prbs = true) (hb : b ≠ 0)
    (hdriven : s.raster.driven = true) (hg : generateBits (prbsPat s 1 a) b (laneOf s 1 a) = g) :
    prbsAdvance 1 a b k s = emit (.prbsBits a b (polarBits s 1 a b g.1)) (setLane 1 a g.2 s) := by
  rw [prbsAdvance, if_neg (by simp [hprbs, hb]), if_neg (by decide), hg]
  exact if_pos hdriven

end Writes

/-- Settles O36: each opcode and write takes effect, or answers what stands in its way. -/
theorem laneCommands : Obligations.LaneCommands := by
  refine fun s p q n d => ⟨laneTrain_fast, fun h hidle hlink => ?slips, fun h hactive => ?active, fun h hidle => ?scans,
    fun h hbusy => ?busy, lanePrbs_pattern, fun l a v => laneCfgWrite_disables, fun l a v u => laneCfgWrite_enables,
    fun a v => laneSlipWrite_slips, fun l a v => laneEyeStartWrite_starts, fun a v => prbsCtrlWrite_writes,
    fun l a b k v u _ hone hu hp hfree => ?injects, fun l a b k v u _ hone hu hp hbusy => ?rejects,
    fun l a b k u => prbsBitsLoRead_captures, fun a b k g => prbsAdvance_sends⟩
  case slips => rw [laneBitSlip_of_ready h, if_neg (by simp [hidle]), if_pos hlink]
  case active => rw [laneBitSlip_of_ready h, if_pos hactive]
  case scans => rw [laneEyeScan_of_ready h, if_neg (by simp [hidle])]
  case busy => rw [laneEyeScan_of_ready h, if_pos hbusy]
  case injects => rw [prbsInjectWrite_one hone hu hp, prbsInject, if_neg (not_not_intro hfree)]
  case rejects => rw [prbsInjectWrite_one hone hu hp, prbsInject, if_pos hbusy]

end Sys2Proof.Machine
end

section

/-! ## The reference inputs, the time of day and the time opcodes (R175, R239 to R242, R260, R268) -/

namespace Sys2Proof.Machine

/-! ### The commands' meanings -/

theorem exec_refFrameEdge (g k : Nat) (s : State) : exec (.refFrameEdge g k) s = execRefFrameEdge g k s := rfl
theorem exec_refFrameLost (s : State) : exec .refFrameLost s = execRefFrameLost s := rfl
theorem exec_ref10mPresent (s : State) : exec .ref10mPresent s = execRef10mPresent s := rfl
theorem exec_ref10mLost (s : State) : exec .ref10mLost s = execRef10mLost s := rfl
theorem exec_refTodMessage (m : List Byte) (ms : Nat) (s : State) : exec (.refTodMessage m ms) s = execRefTodMessage m ms s := rfl
theorem exec_refPpsEdge (s : State) : exec .refPpsEdge s = execRefPpsEdge s := rfl
theorem exec_refPpsLost (s : State) : exec .refPpsLost s = execRefPpsLost s := rfl
theorem exec_timeStamp (p q n : Nat) (s : State) : exec (.timeStamp p q n) s = execTimeStamp p q n s := rfl
theorem exec_timeSet (p q n : Nat) (s : State) : exec (.timeSet p q n) s = execTimeSet p q n s := rfl

section Inputs

variable {s : State}

/-! ### The frame reference (R239, R240, R260) -/

/-- The first edge of a reference is accepted as a step. -/
theorem refFrameEdge_first (g k : Nat) (hlive : inputsLive s = true) (hperiod : refPeriod s ≠ 0)
    (hheld : s.raster.lock.lost = false) (hfirst : s.raster.lock.sinceEdge = none) :
    exec (.refFrameEdge g k) s = .next (acceptEdge k true (recordGap g s)) := by
  have hlost : (recordGap g s).raster.lock.lost = false := hheld
  have hsince : (recordGap g s).raster.lock.sinceEdge = none := hfirst
  rw [exec_refFrameEdge, execRefFrameEdge, if_neg (by simp [hlive, hperiod])]
  simp only [hlost, hsince]

theorem refFrameEdge_dead (g k : Nat) (hdead : inputsLive s = false) : exec (.refFrameEdge g k) s = .next s := by
  rw [exec_refFrameEdge, execRefFrameEdge, if_pos (by simp [hdead])]

theorem refFrameLost_dead (hdead : inputsLive s = false) : exec .refFrameLost s = .next s := by
  rw [exec_refFrameLost, execRefFrameLost, if_pos (by simp [hdead])]

/-- A change of the lock's state says nothing of the input. -/
theorem setHouseOffset_lost (j : Int) (s : State) : (setHouseOffset j s).raster.lock.lost = s.raster.lock.lost := by
  unfold setHouseOffset
  split
  · split <;> rfl
  · rfl

theorem goLock_lost (new : Nat) (e j : Int) (s : State) : (goLock new e j s).raster.lock.lost = s.raster.lock.lost := by
  unfold goLock
  dsimp only
  split_ifs <;> simp [setHouseOffset_lost, setLock]

/-- A reference that stays away is lost. -/
theorem refFrameLost_loses (hlive : inputsLive s = true) (hheld : s.raster.lock.lost = false)
    (hedge : s.raster.lock.sinceEdge.isSome = true) (hperiod : refPeriod s ≠ 0) :
    ∃ t, exec .refFrameLost s = .next t ∧ t.raster.lock.lost = true := by
  have hnone : s.raster.lock.sinceEdge.isNone = false := by rw [← Option.not_isSome, hedge]; rfl
  rw [exec_refFrameLost, execRefFrameLost, if_neg (by simp [hlive, hheld, hnone, hperiod])]
  dsimp only
  split
  · exact ⟨_, rfl, by simp [goLock_lost, setLock, holdCorrection, refEvent]⟩
  · exact ⟨_, rfl, by simp [setLock, holdCorrection, refEvent]⟩

/-! ### The 10 MHz reference (R239, R241) -/

/-- The presence of an input is none of the lock's settings. -/
theorem lockMode_wrF_stat (h : RegsCanonical s) (f : Nat × Nat) (v : Nat) :
    lockMode (wrF Reg.RAST_STAT f v s) = lockMode s := rdF_wrF_other h _ _ _ (by decide)

theorem ref10mPresent_uses (hlive : inputsLive s = true) (hmode : 2 ≤ lockMode s) (hheld : s.raster.lock.lost10m = false)
    (hregs : RegsCanonical s) : exec .ref10mPresent s = .next (setLock { s.raster.lock with lost10m := false }
      (wrF Reg.RAST_STAT Fld.RAST_STAT_on_10m 1 (wrF Reg.RAST_STAT Fld.RAST_STAT_ref10m_present 1 s))) := by
  have huses : uses10m (wrF Reg.RAST_STAT Fld.RAST_STAT_ref10m_present 1 s) = true :=
    decide_eq_true (by rw [lockMode_wrF_stat hregs]; exact hmode)
  rw [exec_ref10mPresent, execRef10mPresent, if_neg (by simp [hlive]), if_pos huses]
  exact congrArg _ (if_neg (by simp [hheld]))

theorem ref10mLost_unused (hlive : inputsLive s = true) (hthere : rdB s Reg.RAST_STAT Fld.RAST_STAT_ref10m_present = true)
    (hmode : lockMode s < 2) (hregs : RegsCanonical s) :
    exec .ref10mLost s = .next (wrF Reg.RAST_STAT Fld.RAST_STAT_ref10m_present 0 s) := by
  have hunused : uses10m (wrF Reg.RAST_STAT Fld.RAST_STAT_ref10m_present 0 s) = false :=
    decide_eq_false (by rw [lockMode_wrF_stat hregs]; omega)
  rw [exec_ref10mLost, execRef10mLost, if_neg (by simp [hlive, hthere]), if_neg (by simp [hunused])]

/-! ### The time of day and the second's edge (R241, R242) -/

/-- A message of the right form, without fault, gives the next second its time. -/
theorem refTodMessage_kept {m : List Byte} {ms : Nat} (hlive : inputsLive s = true) (hlen : m.length = 24)
    (hsync : leAt m 0 2 = 0x5AA5) (hok : todFault m ms = none) :
    exec (.refTodMessage m ms) s = .next (setLock { s.raster.lock with tod := some (leAt m 4 6) } s) := by
  rw [exec_refTodMessage, execRefTodMessage, if_neg (by simp [hlive, hlen, hsync])]
  simp only [hok]

theorem refTodMessage_reported {m : List Byte} {ms r : Nat} (hlive : inputsLive s = true) (hlen : m.length = 24)
    (hsync : leAt m 0 2 = 0x5AA5) (hbad : todFault m ms = some r) : exec (.refTodMessage m ms) s =
      .next (postEvent .device 0x0CF5 0x70 1 (dataAt 24 r) (setFlag Flag.RAST_tod_bad s)) := by
  rw [exec_refTodMessage, execRefTodMessage, if_neg (by simp [hlive, hlen, hsync])]
  simp only [hbad]

/-- A second that no message precedes leaves the time. -/
theorem refPpsEdge_alone (hlive : inputsLive s = true) (hnone : s.raster.lock.tod = none) :
    ∃ t, exec .refPpsEdge s = .next t ∧ t.timeBase = s.timeBase ∧
      (RegsCanonical s → rdB t Reg.RAST_STAT Fld.RAST_STAT_pps_present = true) := by
  rw [exec_refPpsEdge, execRefPpsEdge, if_neg (by simp [hlive])]
  simp only [hnone]
  refine ⟨_, rfl, rfl, fun hregs => decide_eq_true ?_⟩
  have hlock : ∀ l, RegsCanonical (setLock l s) := fun _ => hregs
  rw [rdF_wrF_field (canonical_wrF (hlock _) ..) _ _ (by decide) (by decide), rdF_wrF_same (hlock _) _ _ (by decide)]
  rfl

/-- The second after a message begins at the message's time. -/
theorem refPpsEdge_applies {x : Nat} (hlive : inputsLive s = true) (htod : s.raster.lock.tod = some x) :
    ∃ t, exec .refPpsEdge s = .next t ∧ t.timeBase = { sec := x } ∧ t.raster.lock.tod = none := by
  rw [exec_refPpsEdge, execRefPpsEdge, if_neg (by simp [hlive])]
  simp only [htod]
  split
  · exact ⟨_, rfl, rfl, rfl⟩
  · exact ⟨_, rfl, by simp, by simp [setLock]⟩

theorem refPpsLost_loses (hlive : inputsLive s = true) (hthere : rdB s Reg.RAST_STAT Fld.RAST_STAT_pps_present = true) :
    exec .refPpsLost s = .next (postEvent .device 0x0CF0 0x70 2 (dataAt 24 2)
      (wrF Reg.RAST_STAT Fld.RAST_STAT_hfn_valid 0 (wrF Reg.RAST_STAT Fld.RAST_STAT_pps_present 0 s))) := by
  rw [exec_refPpsLost, execRefPpsLost, if_pos (by simp [hlive, hthere])]
  rfl

theorem refPpsLost_dead (hdead : inputsLive s = false) : exec .refPpsLost s = .next s := by
  rw [exec_refPpsLost, execRefPpsLost, if_neg (by simp [hdead])]

end Inputs

/-! ### TIME_STAMP and TIME_SET (R175, R268) -/

section Time

variable {s : State} {p q n : Nat} {d : Dsc}

/-- The latest stamp of a flip. -/
theorem timeStamp_latest {t : FrameStamp} (h : readyDsc s p q n 0x0C03 = some d) (hlatest : d.u64 24 = 0)
    (hhead : s.raster.stamps.head? = some t) (hflip : d.u8 16 = 0) :
    exec (.timeStamp p q n) s = .next (complete d .ok t.sfn (BitVec.ofNat 96 (ofLe t.flip.bytes)) s) := by
  rw [exec_timeStamp, execTimeStamp, withReady_of_ready h]
  simp only [hlatest, hhead, hflip, if_true]

/-- With no stamp held every frame asked for is too old. -/
theorem timeStamp_none (h : readyDsc s p q n 0x0C03 = some d) (hnone : s.raster.stamps = []) :
    exec (.timeStamp p q n) s = .next (complete d .late (d.u64 24) 0 s) := by
  rw [exec_timeStamp, execTimeStamp, withReady_of_ready h]
  simp only [hnone, List.head?_nil, List.find?_nil, ite_self]

/-- The host sets the time while no time of day does. -/
theorem timeSet_of_ready (h : readyDsc s p q n 0x0C04 = some d) : exec (.timeSet p q n) s = .next (
    if rdB s Reg.RAST_STAT Fld.RAST_STAT_tod_valid then complete d .refused 0 (resAt 16 0x70) s
    else completeI d .ok 0 { s with timeBase := { sec := d.get 16 6, ns := d.u32 24 }, fresh := s.fresh + 1 }) := by
  rw [exec_timeSet, execTimeSet, withReady_of_ready h]
  rfl

end Time

/-- Settles O41: what each input's edge, message or loss does, and what the time opcodes answer. -/
theorem timeAndReference : Obligations.TimeAndReference := by
  refine ⟨fun s => ⟨refFrameEdge_first, refFrameEdge_dead, fun hlive hheld hedge hperiod => ?lost, ref10mPresent_uses,
    ref10mLost_unused, fun m ms => refTodMessage_kept, fun m ms r => refTodMessage_reported, refPpsEdge_alone,
    fun x => refPpsEdge_applies, refPpsLost_loses, fun hdead => ⟨refFrameLost_dead hdead, refPpsLost_dead hdead⟩⟩,
    fun s p q n d => ⟨fun t => timeStamp_latest, timeStamp_none, fun h hfree => ?set, fun h hvalid => ?refused⟩⟩
  case lost =>
    obtain ⟨t, ht, hlost⟩ := refFrameLost_loses hlive hheld hedge hperiod
    obtain ⟨hfuses, -⟩ := execRefFrameLost_keepsFuses s t ht
    exact ⟨t, ht, hlost, hfuses⟩
  case set => rw [timeSet_of_ready h, if_neg (by simp [hfree])]
  case refused => rw [timeSet_of_ready h, if_pos hvalid]

end Sys2Proof.Machine
end

section

/-! ## Registers that answer for a pair (R210, R270, R327, R508) -/

namespace Sys2Proof.Machine

/-! ### The commands' meanings -/

theorem exec_rastSfnLoRead (p : Nat) (s : State) : exec (.rastSfnLoRead p) s = execRastSfnLoRead p s := rfl
theorem exec_rastCfnLoRead (p : Nat) (s : State) : exec (.rastCfnLoRead p) s = execRastCfnLoRead p s := rfl
theorem exec_hfnOffsetLoRead (p : Nat) (s : State) : exec (.hfnOffsetLoRead p) s = execHfnOffsetLoRead p s := rfl
theorem exec_bklStatsSfnLoRead (p : Nat) (s : State) : exec (.bklStatsSfnLoRead p) s = execBklStatsSfnLoRead p s := rfl
theorem exec_rastTimeNsRead (p : Nat) (s : State) : exec (.rastTimeNsRead p) s = execRastTimeNsRead p s := rfl
theorem exec_chkFrameLoRead (p r : Nat) (s : State) : exec (.chkFrameLoRead p r) s = execChkFrameLoRead p r s := rfl

section Captures

variable {s : State} {p : Nat}

/-- The low word answers and the high word of the same number is captured. -/
theorem captureRead_captures (hport : portWrites s p = true) (hdone : s.boot.lanesDone = true) (lo hi v : Nat) :
    captureRead p lo hi v s =
      .next (emit (.readData p lo (v % 2 ^ 32)) (wr hi (BitVec.ofNat 32 (v / 2 ^ 32)) s)) := by
  rw [captureRead, if_pos (by simp [hport, hdone])]
  rfl

/-- The seconds captured are those of the nanoseconds that answer. -/
theorem rastTimeNsRead_captures (hport : portWrites s p = true) (hdone : s.boot.lanesDone = true) :
    ∃ t, exec (.rastTimeNsRead p) s = .next t ∧ t.out = s.out ++ [.readData p Reg.RAST_TIME_NS (now s).ns] ∧
      t.fresh = s.fresh + 1 ∧ (RegsCanonical s → rd t Reg.RAST_TIME_SEC_LO = BitVec.ofNat 32 (now s).sec) := by
  rw [exec_rastTimeNsRead, execRastTimeNsRead, if_pos (by simp [hport, hdone])]
  refine ⟨_, rfl, rfl, rfl, fun hregs => ?_⟩
  have hticked : RegsCanonical (tick s) := hregs
  exact (rd_wrF_other (canonical_wr hticked _ _) _ _ (by decide)).trans (rd_wr_same hticked _ _)

theorem chkFrameLoRead_captures {r : Nat} {f : Nat × Nat} (hport : portWrites s p = true) (hdone : s.boot.lanesDone = true)
    (hr : r < 48) (hf : (rectOf s r).window.head? = some f) : exec (.chkFrameLoRead p r) s =
      .next (emit (.readData p (Reg.CHK_Rr_FRAME_LO r) (f.1 % 2 ^ 32)) (wr (Reg.CHK_Rr_LAST r) (BitVec.ofNat 32 f.2)
        (wr (Reg.CHK_Rr_FRAME_HI r) (BitVec.ofNat 32 (f.1 / 2 ^ 32)) s))) := by
  rw [exec_chkFrameLoRead, execChkFrameLoRead, if_neg (by simp [hport, hdone, hr])]
  simp only [hf, Option.getD_some]
  rfl

end Captures

/-- Settles O22: the five numbers of the device, then a rectangle's frame with its last result. -/
theorem capturedReads : Obligations.CapturedReads := by
  intro s p hport hdone
  have hcapture := captureRead_captures hport hdone
  exact ⟨(exec_rastSfnLoRead p s).trans (hcapture ..), (exec_rastCfnLoRead p s).trans (hcapture ..),
    (exec_hfnOffsetLoRead p s).trans (hcapture ..), (exec_bklStatsSfnLoRead p s).trans (hcapture ..),
    rastTimeNsRead_captures hport hdone, fun r f => chkFrameLoRead_captures hport hdone⟩

end Sys2Proof.Machine
end

section

/-! ## The steps of a training and the PRBS checker (R185, R187, R188, R190, R198, R205, R206) -/

namespace Sys2Proof.Machine

/-! ### The commands' meanings -/

theorem exec_hwlSignalDetect (a : Nat) (s : State) : exec (.hwlSignalDetect a) s = execHwlSignalDetect a s := rfl
theorem exec_cdrLock (a : Nat) (s : State) : exec (.cdrLock a) s = execCdrLock a s := rfl
theorem exec_blockLock (r : LaneBits) (s : State) : exec (.blockLock r) s = execBlockLock r s := rfl
theorem exec_laneTrainingDone (l a st f c : Nat) (s : State) :
    exec (.laneTrainingDone l a st f c) s = execLaneTrainingDone l a st f c s := rfl
theorem exec_laneTrainingTimeout (l a : Nat) (s : State) :
    exec (.laneTrainingTimeout l a) s = execLaneTrainingTimeout l a s := rfl
theorem exec_invalidSyncHeader (a : Nat) (b : BitVec 66) (s : State) :
    exec (.invalidSyncHeader a b) s = execInvalidSyncHeader a b s := rfl
theorem exec_prbsCheckerLocked (r : LaneBits) (s : State) : exec (.prbsCheckerLocked r) s = execPrbsCheckerLocked r s := rfl
theorem exec_prbsCheckerUnlock (a n b : Nat) (s : State) :
    exec (.prbsCheckerUnlock a n b) s = execPrbsCheckerUnlock a n b s := rfl

/-! ### The state that a lane shows (R186) -/

theorem laneState_of_laneIs {s : State} {l a x : Nat} (h : laneIs s l a x = true) : laneState s l a = x := of_decide_eq_true h

/-- A lane is in one state at a time. -/
theorem laneIs_other {s : State} {l a x y : Nat} (h : laneIs s l a x = true) (hxy : x ≠ y) : laneIs s l a y = false :=
  decide_eq_false (by rwa [laneState_of_laneIs h])

/-- The register file stays canonical, and a Headwater lane shows the state that it showed. -/
structure KeepsLaneState (a : Nat) (s t : State) : Prop where
  canonical : RegsCanonical s → RegsCanonical t
  state : RegsCanonical s → laneState t 0 a = laneState s 0 a

theorem KeepsLaneState.trans {a : Nat} {s t u : State} (h : KeepsLaneState a s t) (k : KeepsLaneState a t u) :
    KeepsLaneState a s u :=
  ⟨fun hs => k.canonical (h.canonical hs), fun hs => (k.state (h.canonical hs)).trans (h.state hs)⟩

theorem KeepsLaneState.of_regs {a : Nat} {s t : State} (h : t.regs = s.regs) : KeepsLaneState a s t :=
  ⟨fun hs => canonical_of_regs hs h, fun _ => rdF_of_regs h _ _⟩

/-- The lane pages lie above the pages of the blocks. -/
theorem laneStat_ne {k : Nat} (a : Nat) (hk : k < 0x20000) : Reg.LANE_STAT 0 a ≠ k := by
  unfold Reg.LANE_STAT lanePage
  rw [if_pos rfl]
  omega

theorem wrF_keepsLaneState {a k : Nat} (f : Nat × Nat) (v : Nat) (s : State) (hk : k < 0x20000) :
    KeepsLaneState a s (wrF k f v s) :=
  ⟨fun hs => canonical_wrF hs _ _ _, fun hs => rdF_wrF_other hs _ _ _ (laneStat_ne a hk)⟩

/-- The fields of LANE_STAT above the state leave it. -/
theorem setStat_keepsLaneState (a : Nat) {f : Nat × Nat} (v : Nat) (s : State) (hlow : 4 ≤ f.1) (hhigh : f.1 + f.2 ≤ 32) :
    KeepsLaneState a s (setStat 0 a f v s) :=
  ⟨fun hs => canonical_wrF hs _ _ _, fun hs => rdF_wrF_field hs _ _ hhigh (.inl hlow)⟩

theorem showLock_keepsLaneState (a st : Nat) (s : State) : KeepsLaneState a s (showLock a st s) := by
  have hput : ∀ cdr block : Nat, KeepsLaneState a s
      (setStat 0 a Fld.LANE_STAT_block_lock block (setStat 0 a Fld.LANE_STAT_cdr_lock cdr s)) := fun _ _ =>
    (setStat_keepsLaneState a _ _ (by decide) (by decide)).trans (setStat_keepsLaneState a _ _ (by decide) (by decide))
  unfold showLock
  dsimp only
  split_ifs
  · exact hput _ _
  · exact hput _ _
  · exact setStat_keepsLaneState a _ _ (by decide) (by decide)
  · exact .of_regs rfl
  · exact hput _ _

theorem followActive_keepsLaneState (a : Nat) (s : State) : KeepsLaneState a s (followActive s) := by
  have hshown := wrF_keepsLaneState (a := a) Fld.HWL_STAT_all_active (b2n (allActive s)) s (k := Reg.HWL_STAT) (by decide)
  unfold followActive
  dsimp only
  split
  · exact hshown.trans (.of_regs rfl)
  · exact hshown

theorem followDcfg_keepsLaneState (a : Nat) (s : State) : KeepsLaneState a s (followDcfg s) := by
  have hend : ∀ u : State, u.regs = s.regs → KeepsLaneState a s (resultEnd Reg.SLK_DCFG_RESULT 0 u) := fun u hu =>
    (((KeepsLaneState.of_regs hu).trans (wrF_keepsLaneState _ _ _ (by decide))).trans
      (wrF_keepsLaneState _ _ _ (by decide))).trans (wrF_keepsLaneState _ _ _ (by decide))
  unfold followDcfg
  dsimp only
  split_ifs
  · exact .of_regs rfl
  · exact hend _ rfl
  · exact .of_regs rfl

/-- A Headwater lane that changes state shows the new one. -/
theorem goLane_keepsLaneState (a st : Nat) (s : State) :
    KeepsLaneState a (setStat 0 a Fld.LANE_STAT_state st s) (goLane 0 a st s) := by
  have hlock := showLock_keepsLaneState a st (setStat 0 a Fld.LANE_STAT_state st s)
  have hclear : ∀ u : State, KeepsLaneState a u (followDcfg (setStat 0 a Fld.LANE_STAT_recentring 0
      (setStat 0 a Fld.LANE_STAT_frozen 0 (setLane 0 a { laneOf u 0 a with packet := none } u)))) := fun u =>
    KeepsLaneState.trans (t := setLane ..) (.of_regs rfl) ((setStat_keepsLaneState a _ _ (by decide) (by decide)).trans
      ((setStat_keepsLaneState a _ _ (by decide) (by decide)).trans (followDcfg_keepsLaneState a _)))
  have hscan : ∀ u : State, KeepsLaneState a u (eyeRuns 0 a u) := fun _ => .of_regs rfl
  unfold goLane
  dsimp only
  simp only [if_true]
  split_ifs
  · exact hlock.trans (followActive_keepsLaneState a _)
  · exact ((hlock.trans (hclear _)).trans (hscan _)).trans (followActive_keepsLaneState a _)
  · exact (hlock.trans (hclear _)).trans (followActive_keepsLaneState a _)

theorem laneState_goLane {s : State} (h : RegsCanonical s) (a : Nat) {st : Nat} (hst : st < 16) :
    laneState (goLane 0 a st s) 0 a = st :=
  ((goLane_keepsLaneState a st s).state (canonical_wrF h _ _ _)).trans (rdF_wrF_fits h _ (by decide) hst)

/-- A training starts in DETECT. -/
theorem laneIs_beginSteps {s : State} (h : RegsCanonical s) (a : Nat) : laneIs (beginSteps 0 a s) 0 a Lane.detect = true := by
  have hsettings : RegsCanonical (startSettings 0 a s) := canonical_wr h _ _
  exact decide_eq_true (laneState_goLane (s := setLane 0 a _ (startSettings 0 a s)) hsettings a (by decide))

section Training

variable {s : State} {a : Nat}

/-! ### DETECT and CDR (R187) -/

theorem hwlSignalDetect_awake (hdetect : laneIs s 0 a Lane.detect = true) (hawake : (laneOf s 0 a).asleep = false)
    (hregs : RegsCanonical s) : exec (.hwlSignalDetect a) s = .next (goLane 0 a Lane.cdr (beginSteps 0 a s)) := by
  rw [exec_hwlSignalDetect, execHwlSignalDetect, if_pos hdetect]
  simp only [hawake, Bool.false_eq_true, if_false, laneIs_beginSteps hregs, if_true]

/-- A lane that the source's sleep sent to DETECT starts a full training. -/
theorem hwlSignalDetect_asleep (hdetect : laneIs s 0 a Lane.detect = true) (hasleep : (laneOf s 0 a).asleep = true)
    (hstarts : laneIs (startTraining 0 a 3 s) 0 a Lane.detect = true) :
    exec (.hwlSignalDetect a) s = .next (goLane 0 a Lane.cdr (startTraining 0 a 3 s)) := by
  rw [exec_hwlSignalDetect, execHwlSignalDetect, if_pos hdetect]
  simp only [hasleep, hstarts, if_true]

theorem cdrLock_aligns (hcdr : laneIs s 0 a Lane.cdr = true) : exec (.cdrLock a) s = .next (goLane 0 a Lane.align s) := by
  rw [exec_cdrLock, execCdrLock]
  exact if_pos (laneState_of_laneIs hcdr)

/-! ### Blocks and their headers (R184, R185) -/

/-- A block as it stands on the wire, on a lane whose polarity is not inverted. -/
theorem takeBlock_upright (hupright : rdB s (Reg.LANE_CFG 0 a) Fld.LANE_CFG_polarity = false) (b : BitVec 66) :
    takeBlock a b s = (readBlock (headerOf b) (descramble (laneOf s 0 a).scr (payloadOf b)).1, receiveHeader a (headerOf b)
      (setLane 0 a { laneOf s 0 a with scr := (descramble (laneOf s 0 a).scr (payloadOf b)).2 } s)) := by
  simp only [takeBlock, hupright, Bool.false_eq_true, if_false]

/-- The 64th valid header in a row gains block lock. -/
theorem receiveHeader_locks {h : Nat} (hvalid : headerValid h = true) (hlast : (laneOf s 0 a).valid = 63) :
    receiveHeader a h s = gainLock a (setLane 0 a { laneOf s 0 a with
      invalid := ((laneOf s 0 a).invalid.map (· + 1)).filter (· < 64), valid := 64 } s) := by
  simp only [receiveHeader, hvalid, hlast, if_true]
  rfl

/-- Fewer than 16 invalid headers among the last 64 are only counted. -/
theorem receiveHeader_counts {h : Nat} (hinvalid : headerValid h = false) (hfew : (laneOf s 0 a).invalid.length < 15) :
    receiveHeader a h s = bumpSat (Reg.LANE_HDR_ERR 0 a) Fld.LANE_HDR_ERR_invalid_headers 1 (setLane 0 a { laneOf s 0 a with
      invalid := 0 :: ((laneOf s 0 a).invalid.map (· + 1)).filter (· < 64), valid := 0 } s) := by
  have haged : (((laneOf s 0 a).invalid.map (· + 1)).filter (· < 64)).length + 1 < 16 := by
    have hle := List.length_filter_le (fun x => decide (x < 64)) ((laneOf s 0 a).invalid.map (· + 1))
    rw [List.length_map] at hle
    omega
  simp only [receiveHeader, hinvalid, Bool.false_eq_true, if_false]
  exact if_pos haged

theorem gainLock_adapts (halign : laneIs s 0 a Lane.align = true) :
    gainLock a s = goLane 0 a Lane.adapt (wrF (Reg.LANE_EQ 0 a) Fld.LANE_EQ_H_ctle 0
      (setLane 0 a { laneOf s 0 a with win := 0, sweep := [], good := 0, foms := [] } s)) := by
  rw [gainLock, if_pos halign]

/-! ### BLOCK_LOCK (R185, R188, R198) -/

/-- The 66 bits of a block are that block. -/
theorem blocksAt_block (b : BitVec 66) : blocksAt 66 b.toNat 0 = [b] := by
  have hwhole : bitsAt b.toNat 0 66 = b.toNat := by
    rw [bitsAt, Nat.pow_zero, Nat.div_one, Nat.mod_eq_of_lt b.isLt]
  have hone : List.range ((66 - 0) / 66) = [0] := by decide
  simp only [blocksAt, hone, List.map_cons, List.map_nil, Nat.mul_zero, Nat.add_zero, hwhole, BitVec.ofNat_toNat,
    BitVec.setWidth_eq]

theorem receiveBlocks_single (k : Nat) (b : BitVec 66) : receiveBlocks a k [b] s = (takeBlock a b s).2 := by
  simp only [receiveBlocks, ite_self]

theorem blockLock_aligned (hlane : laneIs s 0 a Lane.align = true) (n bits : Nat) : exec (.blockLock ⟨a, n, bits⟩) s =
    .next (receiveBlocks a (rdF s (Reg.LANE_ALIGN 0 a) Fld.LANE_ALIGN_position) (blocksAt n bits 0) s) := by
  rw [exec_blockLock, execBlockLock]
  simp only [laneIs_other hlane (y := Lane.fast) (by decide), hlane, Bool.true_or, Bool.false_eq_true, if_false, if_true]

/-- The block that completes 64 valid headers ends ALIGN, and ADAPT begins. -/
theorem blockLock_adapts {b : BitVec 66} {u v w : State} (hheader : headerOf b = 1 ∨ headerOf b = 2)
    (halign : laneIs s 0 a Lane.align = true) (hupright : rdB s (Reg.LANE_CFG 0 a) Fld.LANE_CFG_polarity = false)
    (hw : setLane 0 a { laneOf s 0 a with scr := (descramble (laneOf s 0 a).scr (payloadOf b)).2 } s = w)
    (hlast : (laneOf w 0 a).valid = 63)
    (hu : setLane 0 a { laneOf w 0 a with
      invalid := ((laneOf w 0 a).invalid.map (· + 1)).filter (· < 64), valid := 64 } w = u)
    (hv : setLane 0 a { laneOf u 0 a with win := 0, sweep := [], good := 0, foms := [] } u = v) :
    exec (.blockLock ⟨a, 66, b.toNat⟩) s = .next (goLane 0 a Lane.adapt (wrF (Reg.LANE_EQ 0 a) Fld.LANE_EQ_H_ctle 0 v)) := by
  have hstill : laneIs u 0 a Lane.align = true := by rw [← hu, ← hw]; exact halign
  rw [blockLock_aligned halign, blocksAt_block, receiveBlocks_single, takeBlock_upright hupright, hw,
    receiveHeader_locks (decide_eq_true hheader) hlast, hu, gainLock_adapts hstill, hv]

/-- A fast retrain takes the first boundary that has 64 valid headers in a row. -/
theorem blockLock_fast {n bits t : Nat} {u : State} (hfast : laneIs s 0 a Lane.fast = true) (ht : t < n)
    (hall : ∀ k, k < 64 → headerAt n bits (t + 66 * k) = true)
    (hfirst : ∀ t', t' < t → ∃ k, k < 64 ∧ headerAt n bits (t' + 66 * k) = false)
    (hu : seedScrambler a (blocksAt n bits t) (setStat 0 a Fld.LANE_STAT_block_lock 1 (slip 0 a (t % 66) s)) = u) :
    exec (.blockLock ⟨a, n, bits⟩) s = .next (setLane 0 a { laneOf u 0 a with valid := 64 } u) := by
  have hfound : (List.range n).find? (fun t => (List.range 64).all (fun k => headerAt n bits (t + 66 * k))) = some t := by
    refine List.find?_range_eq_some.2 ⟨List.all_eq_true.2 fun k hk => hall k (List.mem_range.1 hk), List.mem_range.2 ht,
      fun t' ht' => ?_⟩
    obtain ⟨k, hk, hbad⟩ := hfirst t' ht'
    rw [Bool.not_eq_true', List.all_eq_false]
    exact ⟨k, List.mem_range.2 hk, by simp [hbad]⟩
  rw [exec_blockLock, execBlockLock]
  simp only [hfast, if_true, hfound, hu]

/-! ### LANE_TRAINING_DONE (R187, R190, R198) -/

variable {st f c : Nat}

theorem laneTrainingDone_active (hadapt : laneIs s 0 a Lane.adapt = true)
    (hlock : statB s 0 a Fld.LANE_STAT_block_lock = true) (hgood : 4 ≤ (laneOf s 0 a).good) :
    exec (.laneTrainingDone 0 a st f c) s = .next (becomeActive 0 a s) := by
  rw [exec_laneTrainingDone, execLaneTrainingDone, if_pos ⟨rfl, hadapt, hlock, decide_eq_true hgood⟩]

theorem laneTrainingDone_fast (hfast : laneIs s 0 a Lane.fast = true)
    (hlock : statB s 0 a Fld.LANE_STAT_block_lock = true) (hgood : 4 ≤ (laneOf s 0 a).good) :
    exec (.laneTrainingDone 0 a st f c) s = .next (fastDone 0 a s) := by
  rw [exec_laneTrainingDone, execLaneTrainingDone, if_neg (by simp [laneIs_other hfast (y := Lane.adapt) (by decide)]),
    if_pos ⟨rfl, hfast, hlock, decide_eq_true hgood⟩]

/-- A driver lane's training ends when the driver reports enough. -/
theorem laneTrainingDone_driver (hadapt : laneIs s 1 a Lane.adapt = true) (hsweep : 20 ≤ (laneOf s 1 a).sweep.length)
    (hcrc : crc8 [BitVec.ofNat 8 st, BitVec.ofNat 8 f] = c)
    (henough : rdF s (Reg.LANE_ADAPT 1 a) Fld.LANE_ADAPT_fom_min ≤ f % 256) : exec (.laneTrainingDone 1 a st f c) s =
      .next (becomeActive 1 a (setStat 1 a Fld.LANE_STAT_fom (f % 256) (driverLocks a st s))) := by
  rw [exec_laneTrainingDone, execLaneTrainingDone, if_neg (by simp), if_neg (by simp),
    if_pos ⟨rfl, hadapt, hsweep, hcrc, henough⟩]

/-- A reply that its CRC-8 does not fit ends nothing. -/
theorem laneTrainingDone_spoilt (hcrc : crc8 [BitVec.ofNat 8 st, BitVec.ofNat 8 f] ≠ c) :
    exec (.laneTrainingDone 1 a st f c) s = .next s := by
  rw [exec_laneTrainingDone, execLaneTrainingDone, if_neg (by simp), if_neg (by simp), if_neg (by simp [hcrc])]

/-! ### LANE_TRAINING_TIMEOUT (R187, R188, R190) -/

theorem laneTrainingTimeout_noSignal {l : Nat} (hdetect : laneIs s l a Lane.detect = true) :
    exec (.laneTrainingTimeout l a) s = .next (failTraining l a 1 s) := by
  rw [exec_laneTrainingTimeout, execLaneTrainingTimeout, if_pos hdetect]

/-- A boundary without lock in time gives way to the next. -/
theorem laneTrainingTimeout_slips (halign : laneIs s 0 a Lane.align = true)
    (hauto : rdB s (Reg.LANE_CFG 0 a) Fld.LANE_CFG_align_manual = false) (hmore : (laneOf s 0 a).tried + 1 < 66) :
    exec (.laneTrainingTimeout 0 a) s =
      .next (slip 0 a 1 (setLane 0 a { laneOf s 0 a with tried := (laneOf s 0 a).tried + 1 } s)) := by
  have hnext : nextBoundary a s = slip 0 a 1 (setLane 0 a { laneOf s 0 a with tried := (laneOf s 0 a).tried + 1 } s) := by
    rw [nextBoundary, if_neg (by simp [hauto])]
    exact if_neg (by omega)
  rw [exec_laneTrainingTimeout, execLaneTrainingTimeout,
    if_neg (by simp [laneIs_other halign (y := Lane.detect) (by decide)]),
    if_neg (by simp [laneIs_other halign (y := Lane.cdr) (by decide)]), if_pos halign, if_pos rfl, hnext]

/-! ### INVALID_SYNC_HEADER (R185, R214) -/

theorem invalidSyncHeader_counts {b : BitVec 66} {u w : State} (hheader : headerOf b = 0 ∨ headerOf b = 3)
    (hu : notIdle a (abandonPacket a 3 s) = u) (hupright : rdB u (Reg.LANE_CFG 0 a) Fld.LANE_CFG_polarity = false)
    (hw : setLane 0 a { laneOf u 0 a with scr := (descramble (laneOf u 0 a).scr (payloadOf b)).2 } u = w)
    (hfew : (laneOf w 0 a).invalid.length < 15) : exec (.invalidSyncHeader a b) s = .next (bumpSat (Reg.LANE_HDR_ERR 0 a)
      Fld.LANE_HDR_ERR_invalid_headers 1 (setLane 0 a { laneOf w 0 a with
        invalid := 0 :: ((laneOf w 0 a).invalid.map (· + 1)).filter (· < 64), valid := 0 } w)) := by
  have hinvalid : headerValid (headerOf b) = false := decide_eq_false (by omega)
  have hsaid : ∀ p, readBlock (headerOf b) p = .invalid := fun p => by
    rw [readBlock, if_neg (by omega), if_neg (by omega)]
  rw [exec_invalidSyncHeader, execInvalidSyncHeader, hu, takeBlock_upright hupright, hw, hsaid,
    receiveHeader_counts hinvalid hfew]

/-! ### The PRBS checker (R205, R206) -/

variable {n bits : Nat} {k : Checked}

/-- A Headwater lane in PRBS checks the bits that go by, and flags each loss of lock. -/
theorem prbsAdvance_checks (hprbs : laneIs s 0 a Lane.prbs = true) (hn : n ≠ 0)
    (hk : checkBits (prbsPat s 0 a) (prbsUser s 0 a) n (polarBits s 0 a n bits) { lane := laneOf s 0 a } = k) :
    prbsAdvance 0 a n bits s = (List.range k.drops).foldl (fun s _ => setFlag (Flag.LANE_prbs_unlock 0 a) s)
      (wrF (Reg.PRBS_STAT 0 a) Fld.PRBS_STAT_locked (b2n (decide (128 ≤ k.lane.prbsSeen)))
        (bumpSat (Reg.PRBS_ERRS 0 a) Fld.PRBS_ERRS_errors k.errs
          (wr (Reg.PRBS_BITS_LO 0 a) (BitVec.ofNat 32 k.lane.bits) (setLane 0 a k.lane s)))) := by
  rw [prbsAdvance, if_neg (by simp [hprbs, hn]), if_pos rfl, hk]

/-- An uninjected bit that a locked checker expects is compared and counted. -/
theorem checkBit_expected {pat : Nat} (user : Nat) {b : Bool} (hclean : k.lane.inject = 0) (hlocked : k.lane.prbsSeen = 128)
    (hb : b = prbsNext pat k.lane.prbsSeq) : checkBit pat user k b = { k with lane := { k.lane with
      prbsSeq := (2 * k.lane.prbsSeq + b2n b) % 2 ^ 64, bits := (k.lane.bits + 1) % 2 ^ 48 } } := by
  simp [checkBit, hclean, hlocked, ← hb, shiftSeq]

/-- An uninjected bit that a locked checker does not expect is an error; 100 of them keep the lock. -/
theorem checkBit_error {pat : Nat} (user : Nat) {b : Bool} (hclean : k.lane.inject = 0) (hlocked : k.lane.prbsSeen = 128)
    (hb : b ≠ prbsNext pat k.lane.prbsSeq) : (checkBit pat user k b).errs = k.errs + 1 ∧
      (k.lane.prbsErrs.length < 100 → (checkBit pat user k b).drops = k.drops) := by
  have hrecent := List.length_filter_le
    (fun t => decide (((k.lane.bits + 1) % 2 ^ 48 + 2 ^ 48 - t) % 2 ^ 48 < 1024)) k.lane.prbsErrs
  simp only [checkBit, hclean, hlocked, if_true, if_neg hb, Nat.reduceLT, if_false, List.length_cons]
  refine ⟨?_, fun hfew => ?_⟩
  · split <;> rfl
  · rw [if_pos (by omega)]

/-- The first bits seed the checker's own sequence and are compared with nothing. -/
theorem checkBit_seeds (pat user : Nat) (b : Bool) (hclean : k.lane.inject = 0) (hseeds : k.lane.prbsSeen < 63) :
    (checkBit pat user k b).lane.prbsSeen = k.lane.prbsSeen + 1 ∧ (checkBit pat user k b).errs = k.errs ∧
      (checkBit pat user k b).lane.bits = k.lane.bits := by
  have hnotLast : ¬ (k.lane.prbsSeen = 63 ∧ pat = 5) := fun h => by omega
  simp only [checkBit, hclean, if_true, if_pos (show k.lane.prbsSeen < 64 by omega), decide_eq_false hnotLast, Bool.false_and,
    Bool.false_eq_true, if_false, and_self]

end Training

/-- Settles O37: what ends each step of a training, then the checker of a test, bit by bit. -/
theorem laneTraining : Obligations.LaneTraining := by
  refine fun s a => ⟨hwlSignalDetect_awake, cdrLock_aligns, fun b u v w => blockLock_adapts, fun n bits t u => blockLock_fast,
    fun st f c => laneTrainingDone_active, fun st f c => laneTrainingDone_fast, fun st f c => laneTrainingDone_driver,
    fun l => laneTrainingTimeout_noSignal, laneTrainingTimeout_slips, fun b u w => invalidSyncHeader_counts,
    fun n bits c hprbs hn hc hdrops => ?locked, fun n bits c hprbs hn hlocked hc hdrops => ?unlocked,
    fun pat user b c => checkBit_expected user, fun pat user b c => checkBit_error user,
    fun pat user b c => checkBit_seeds pat user b, fun st f c _ => laneTrainingDone_spoilt, hwlSignalDetect_asleep⟩
  case locked =>
    have hadvance := prbsAdvance_checks hprbs hn hc
    rw [hdrops] at hadvance
    exact congrArg _ hadvance
  case unlocked =>
    have hadvance := prbsAdvance_checks hprbs hn hc
    rw [hdrops] at hadvance
    rw [exec_prbsCheckerUnlock, execPrbsCheckerUnlock, if_pos hlocked, hadvance]
    rfl

end Sys2Proof.Machine
end

section

/-! ## Lock loss, retrain, adaptation, freeze, re-centring and eye scans (R191 to R200, R202, R203) -/

namespace Sys2Proof.Machine

/-! ### The commands' meanings -/

theorem exec_laneLockLost (l a c : Nat) (s : State) : exec (.laneLockLost l a c) s = execLaneLockLost l a c s := rfl
theorem exec_fastRetrainTimeout (l a : Nat) (s : State) :
    exec (.fastRetrainTimeout l a) s = execFastRetrainTimeout l a s := rfl
theorem exec_retrainCountReset (l a : Nat) (s : State) : exec (.retrainCountReset l a) s = execRetrainCountReset l a s := rfl
theorem exec_fomWindow (a d : Nat) (steps : List Int) (s : State) :
    exec (.fomWindow a d steps) s = execFomWindow a d steps s := rfl
theorem exec_ctleTrial (a : Nat) (s : State) : exec (.ctleTrial a) s = execCtleTrial a s := rfl
theorem exec_idleFreeze (l a : Nat) (s : State) : exec (.idleFreeze l a) s = execIdleFreeze l a s := rfl
theorem exec_recentreDone (e : LaneErrors) (s : State) : exec (.recentreDone e) s = execRecentreDone e s := rfl
theorem exec_eyeScanDone (l a : Nat) (le ri tp bo : List Nat) (ce : Nat) (b : Bool) (s : State) :
    exec (.eyeScanDone l a le ri tp bo ce b) s = execEyeScanDone l a le ri tp bo ce b s := rfl

section Upkeep

variable {s : State} {l a : Nat}

/-! ### Lock loss and retrain (R197 to R200) -/

theorem laneLockLost_active (hactive : laneIs s l a Lane.active = true) (c : Nat) :
    exec (.laneLockLost l a c) s = .next (loseLock l a c s) := by
  rw [exec_laneLockLost, execLaneLockLost]
  exact if_pos (laneState_of_laneIs hactive)

/-- A fast retrain that misses its time is flagged, then tried again or given up. -/
theorem fastRetrainTimeout_of_fast {u : State} (hfast : laneIs s l a Lane.fast = true)
    (hu : setLane l a { laneOf s l a with
      failures := (laneOf s l a).failures + 1, attempts := (laneOf s l a).attempts + 1, good := 0 }
      (setFlag (Flag.LANE_fast_fail l a) s) = u) :
    exec (.fastRetrainTimeout l a) s = .next (
      if 2 ≤ (laneOf s l a).failures then startTraining l a 0 u else countRetrain Fld.LANE_RETRAIN_CNT_fast l a u) := by
  rw [exec_fastRetrainTimeout, execFastRetrainTimeout, if_neg (by simp [hfast])]
  simp only [hu, Nat.reduceLeDiff, apply_ite Host.Outcome.next]

theorem retrainCountReset_active (hactive : laneIs s l a Lane.active = true) :
    exec (.retrainCountReset l a) s = .next (setLane l a { laneOf s l a with failures := 0 } s) := by
  rw [exec_retrainCountReset, execRetrainCountReset, if_pos hactive]

/-! ### Figure of merit and adaptation (R191, R192, R198) -/

/-- In a fast retrain without block lock a window only moves FoM. -/
theorem fomWindow_unlocked (hfast : laneIs s 0 a Lane.fast = true)
    (hnoLock : statB s 0 a Fld.LANE_STAT_block_lock = false) (hregs : RegsCanonical s) (d : Nat) :
    exec (.fomWindow a d []) s = .next (setLane 0 a { laneOf s 0 a with
      foms := (nextFom (laneFom s 0 a) d :: (laneOf s 0 a).foms).take 8 }
      (setStat 0 a Fld.LANE_STAT_fom (nextFom (laneFom s 0 a) d) s)) := by
  have hstate : laneState s 0 a = Lane.fast := laneState_of_laneIs hfast
  have hnotAdapting : ∀ u : State, laneState u 0 a = Lane.fast → adapting u a = false := fun u h => by
    simp [adapting, laneIs, h, Lane.active, Lane.fast]
  have hshown : ∀ v, laneState (setStat 0 a Fld.LANE_STAT_fom v s) 0 a = Lane.fast := fun v =>
    ((setStat_keepsLaneState a v s (by decide) (by decide)).state hregs).trans hstate
  have hlock : ∀ v, statB (setStat 0 a Fld.LANE_STAT_fom v s) 0 a Fld.LANE_STAT_block_lock = false := fun v => by
    rw [statB, rdB, setStat, rdF_wrF_field hregs _ _ (by decide) (by decide)]
    exact hnoLock
  rw [exec_fomWindow, execFomWindow, hstate]
  refine (if_neg (by decide)).trans ((if_neg ?_).trans ((if_neg (by decide)).trans ((if_pos (by decide)).trans ?_)))
  · rw [Bool.not_eq_true]
    exact hnotAdapting _ (hshown _)
  · exact congrArg _ (if_neg (by rw [Bool.not_eq_true]; exact hlock _))

/-- A trial begins one CTLE code up, against the FoM of the last 8 windows. -/
theorem ctleTrial_starts (hadapts : adapting s a = true) (hnone : (laneOf s 0 a).trial = none)
    (hfoms : (laneOf s 0 a).foms.length = 8) (hroom : rdF s (Reg.LANE_EQ 0 a) Fld.LANE_EQ_H_ctle < 15) :
    exec (.ctleTrial a) s = .next (wrF (Reg.LANE_EQ 0 a) Fld.LANE_EQ_H_ctle (rdF s (Reg.LANE_EQ 0 a) Fld.LANE_EQ_H_ctle + 1)
      (setLane 0 a { laneOf s 0 a with trial := some {
        base := rdF s (Reg.LANE_EQ 0 a) Fld.LANE_EQ_H_ctle, ref := (laneOf s 0 a).foms.sum, up := true } } s)) := by
  rw [exec_ctleTrial, execCtleTrial]
  refine (if_pos (by simp [hadapts, hnone, hfoms])).trans (congrArg _ ?_)
  rw [tryCtle, if_pos rfl, if_pos hroom]

/-! ### Freeze (R194, R196) -/

theorem idleFreeze_driver (hactive : laneIs s 1 a Lane.active = true) (hruns : statB s 1 a Fld.LANE_STAT_frozen = false) :
    exec (.idleFreeze 1 a) s = .next (freezeLane 1 a s) := by
  rw [exec_idleFreeze, execIdleFreeze, if_pos (by simp [hactive, hruns])]

/-- Fewer than 4,097 IDLE blocks freeze no Headwater lane. -/
theorem idleFreeze_early (hfew : (laneOf s 0 a).idle < 4097) : exec (.idleFreeze 0 a) s = .next s := by
  rw [exec_idleFreeze, execIdleFreeze, if_neg (by simp [hfew])]

/-! ### Re-centring (R195) -/

/-- A lane reads back what it was set to. -/
theorem laneOf_setLane (htab : tabWf (fun _ => ({} : LaneState)) s.lanes.lane = true) (v : LaneState) :
    laneOf (setLane l a v s) l a = v := by
  rw [laneOf, setLane, tabGet_set _ ((tabWf_iff ..).1 htab).1, if_pos rfl]

/-- A re-centre that no data block and no eye scan waits for moves the sampling phase and is reported. -/
theorem recentreDone_reports (hrecentres : statB s 0 a Fld.LANE_STAT_recentring = true) (hthaw : (laneOf s 0 a).thaw = false)
    (heye : (laneOf s 0 a).eyeWaits = false) (htab : tabWf (fun _ => ({} : LaneState)) s.lanes.lane = true)
    (errors : List Nat) : exec (.recentreDone ⟨a, errors⟩) s = .next (laneEvent 0 a 0x0BF4 0 (laneFom s 0 a)
      (setFlag (Flag.LANE_recentre 0 a) (setStat 0 a Fld.LANE_STAT_fom_ref (laneFom s 0 a)
        (setStat 0 a Fld.LANE_STAT_recentring 0
          (setLane 0 a { laneOf s 0 a with phase := centredPhase (laneOf s 0 a).phase errors } s))))) := by
  have hmoved := laneOf_setLane (l := 0) (a := a) htab
    { laneOf s 0 a with phase := centredPhase (laneOf s 0 a).phase errors }
  have hstays := Bool.eq_false_iff.1 ((congrArg LaneState.thaw hmoved).trans hthaw)
  have hidle := Bool.eq_false_iff.1 ((congrArg LaneState.eyeWaits hmoved).trans heye)
  have hkept : ∀ (f : Flag) (c sev x : Nat) (u : State), laneOf (laneEvent 0 a c sev x (setFlag f u)) 0 a = laneOf u 0 a :=
    fun f c sev x u => by simp [laneOf, laneEvent]
  rw [exec_recentreDone, execRecentreDone]
  refine (if_neg (by simp [hrecentres])).trans ((if_neg ?_).trans (congrArg Host.Outcome.next (if_neg hstays)))
  rw [if_neg hstays, hkept]
  exact hidle

/-! ### The widest run of error-free phases (R195) -/

/-- One more phase: the run in progress, as its start and its length, and the widest so far. -/
def runStep (r : (Nat × Nat) × (Nat × Nat)) (e : Nat × Nat) : (Nat × Nat) × (Nat × Nat) :=
  if e.1 ≠ 0 then ((e.2 + 1, 0), r.2)
  else ((r.1.1, r.1.2 + 1), if r.2.2 < r.1.2 + 1 then (r.1.1, r.1.2 + 1) else r.2)

theorem widestRun_eq_foldl (errors : List Nat) : widestRun errors = (errors.zipIdx.foldl runStep ((0, 0), (0, 0))).2 := rfl

/-- Phases with errors move the start of the next run behind them. -/
theorem foldl_runStep_errors (w : Nat × Nat) : ∀ (es : List Nat) (k : Nat), (∀ e ∈ es, e ≠ 0) →
    (es.zipIdx k).foldl runStep ((k, 0), w) = ((k + es.length, 0), w)
  | [], _, _ => rfl
  | e :: es, k, h => by
    obtain ⟨he, hes⟩ := List.forall_mem_cons.1 h
    have hstep : runStep ((k, 0), w) (e, k) = ((k + 1, 0), w) := if_pos he
    rw [List.zipIdx_cons, List.foldl_cons, hstep, foldl_runStep_errors w es (k + 1) hes, List.length_cons]
    congr 2
    omega

/-- Phases with errors leave the widest run so far. -/
theorem foldl_runStep_errors_widest : ∀ (es : List Nat) (k : Nat) (r : (Nat × Nat) × (Nat × Nat)), (∀ e ∈ es, e ≠ 0) →
    ((es.zipIdx k).foldl runStep r).2 = r.2
  | [], _, _, _ => rfl
  | e :: es, k, r, h => by
    obtain ⟨he, hes⟩ := List.forall_mem_cons.1 h
    have hstep : (runStep r (e, k)).2 = r.2 := by rw [runStep, if_pos he]
    rw [List.zipIdx_cons, List.foldl_cons, foldl_runStep_errors_widest es (k + 1) _ hes, hstep]

/-- An error-free run at least as wide as the widest before it becomes the widest with its next phase. -/
theorem foldl_runStep_clean : ∀ (n k b m : Nat) (w : Nat × Nat), w.2 ≤ m →
    ((List.replicate (n + 1) 0).zipIdx k).foldl runStep ((b, m), w) = ((b, m + (n + 1)), (b, m + (n + 1)))
  | n, k, b, m, w, h => by
    have hstep : runStep ((b, m), w) (0, k) = ((b, m + 1), (b, m + 1)) :=
      (if_neg (not_not_intro rfl)).trans (congrArg _ (if_pos (Nat.lt_succ_of_le h)))
    rw [List.replicate_succ, List.zipIdx_cons, List.foldl_cons, hstep]
    match n with
    | 0 => rfl
    | n + 1 => rw [foldl_runStep_clean n (k + 1) b (m + 1) _ (Nat.le_refl _), Nat.add_assoc, Nat.add_comm 1]

/-- A single error-free run is the widest. -/
theorem widestRun_single {pre post : List Nat} (n : Nat) (hbad : ∀ e ∈ pre ++ post, e ≠ 0) :
    widestRun (pre ++ List.replicate (n + 1) 0 ++ post) = (pre.length, n + 1) := by
  obtain ⟨hpre, hpost⟩ := List.forall_mem_append.1 hbad
  rw [widestRun_eq_foldl, List.zipIdx_append, List.foldl_append, foldl_runStep_errors_widest _ _ _ hpost,
    List.zipIdx_append, List.foldl_append, foldl_runStep_errors _ _ _ hpre, foldl_runStep_clean _ _ _ _ _ (Nat.le_refl 0)]
  simp

theorem centredPhase_single {pre post : List Nat} (phase n : Nat) (hbad : ∀ e ∈ pre ++ post, e ≠ 0)
    (hlen : pre.length + (n + 1) + post.length = 64) :
    centredPhase phase (pre ++ List.replicate (n + 1) 0 ++ post) = (phase + 32 + pre.length + n / 2) % 64 := by
  have hall : (pre ++ List.replicate (n + 1) 0 ++ post).take 64 = pre ++ List.replicate (n + 1) 0 ++ post :=
    List.take_of_length_le (by simp only [List.length_append, List.length_replicate]; omega)
  rw [centredPhase, hall, widestRun_single n hbad]

/-! ### Eye scans (R202, R203) -/

theorem eyeScanDone_measured (hruns : resultBusy s (Reg.LANE_EYE_RESULT l a) = true) (heye : (laneOf s l a).eyeWaits = false)
    (le ri tp bo : List Nat) (ce : Nat) : exec (.eyeScanDone l a le ri tp bo ce true) s = .next (tick (eyeEnd l a 0
      (eyeData l a (laneOf s l a).eyeFom (eyeResult s.fresh le ri tp bo ce) s))) := by
  rw [exec_eyeScanDone, execEyeScanDone, if_neg (by simp [hruns, heye]), if_pos rfl]

/-- A driver that does not answer in time ends the scan with status 2. -/
theorem eyeScanDone_unanswered (hruns : resultBusy s (Reg.LANE_EYE_RESULT l a) = true)
    (heye : (laneOf s l a).eyeWaits = false) (le ri tp bo : List Nat) (ce : Nat) :
    exec (.eyeScanDone l a le ri tp bo ce false) s = .next (eyeEnd l a 2 s) := by
  rw [exec_eyeScanDone, execEyeScanDone, if_neg (by simp [hruns, heye])]
  exact if_neg (by decide)

/-- The edge is the first point that disagrees on more than one bit. -/
theorem eyeEdge_first {counts : List Nat} {k : Nat} (free : Nat) (hinside : ∀ i, i < k → counts.getD i 0 ≤ 1)
    (hk : k < counts.length) (hedge : 1 < counts.getD k 0) : eyeEdge free counts = k := by
  have hread : ∀ i (hi : i < counts.length), counts.getD i 0 = counts[i] := fun i hi => by
    rw [List.getD_eq_getElem?_getD, List.getElem?_eq_getElem hi, Option.getD_some]
  have hfound : counts.findIdx? (fun n => decide (1 < n)) = some k := by
    refine List.findIdx?_eq_some_iff_getElem.2 ⟨hk, decide_eq_true (hread k hk ▸ hedge), fun i hi => ?_⟩
    have hle := hinside i hi
    rw [hread i (hi.trans hk)] at hle
    simpa using hle
  rw [eyeEdge, hfound, Option.getD_some]

end Upkeep

/-- Settles O38: lock loss and retrain, adaptation and freeze, then the re-centre and the eye scan. -/
theorem laneUpkeep : Obligations.LaneUpkeep := by
  refine fun s l a => ⟨fun c hactive => laneLockLost_active hactive c, fun hfast hfew => ?again, fun hfast hmany => ?full,
    retrainCountReset_active, fun d hfast hlock hregs => fomWindow_unlocked hfast hlock hregs d, ctleTrial_starts,
    idleFreeze_driver, fun _ _ => idleFreeze_early, recentreDone_reports,
    fun phase pre n post => centredPhase_single phase n,
    fun le ri tp bo ce hruns heye => eyeScanDone_measured hruns heye le ri tp bo ce, fun free counts k => eyeEdge_first free,
    fun le ri tp bo ce hruns heye => eyeScanDone_unanswered hruns heye le ri tp bo ce⟩
  case again => exact ⟨_, (fastRetrainTimeout_of_fast hfast rfl).trans (congrArg _ (if_neg (by omega))), rfl⟩
  case full => exact (fastRetrainTimeout_of_fast hfast rfl).trans (congrArg _ (if_pos hmany))

end Sys2Proof.Machine
end

section

/-! ## Blocks of the Headwater link, sleep and wake, silence, freeze and hold (R183, R184, R194, R213, R214, R226, R230 to R234) -/

namespace Sys2Proof.Machine

/-! ### The commands' meanings -/

theorem exec_hwlUnknownBlock (a : Nat) (b : BitVec 66) (s : State) :
    exec (.hwlUnknownBlock a b) s = execHwlUnknownBlock a b s := rfl
theorem exec_hwlTrainBlock (b : LaneBlock) (s : State) : exec (.hwlTrainBlock b) s = execHwlTrainBlock b s := rfl
theorem exec_hwlIdleBlock (b : LaneBlock) (s : State) : exec (.hwlIdleBlock b) s = execHwlIdleBlock b s := rfl
theorem exec_hwlSleepBlock (b : LaneBlock) (s : State) : exec (.hwlSleepBlock b) s = execHwlSleepBlock b s := rfl
theorem exec_hwlWakeBlock (b : LaneBlock) (s : State) : exec (.hwlWakeBlock b) s = execHwlWakeBlock b s := rfl
theorem exec_silenceCheck (s : State) : exec .silenceCheck s = execSilenceCheck s := rfl
theorem exec_freeze (s : State) : exec .freeze s = execFreeze s := rfl
theorem exec_freezeTimeout (s : State) : exec .freezeTimeout s = execFreezeTimeout s := rfl

/-! ### Line coding (R183, R184) -/

theorem overBits_succ (f : BitVec 58 → Bool → Bool × BitVec 58) (n : Nat) (c : BitVec 58) (x : Nat) :
    overBits f (n + 1) c x = (b2n (f c (decide (x % 2 = 1))).1 + 2 * (overBits f n (f c (decide (x % 2 = 1))).2 (x / 2)).1,
      (overBits f n (f c (decide (x % 2 = 1))).2 (x / 2)).2) := rfl

theorem b2n_lt_two (b : Bool) : b2n b < 2 := by cases b <;> decide

theorem decide_b2n_odd (b : Bool) (y : Nat) : decide ((b2n b + 2 * y) % 2 = 1) = b := by cases b <;> simp [b2n]

theorem b2n_decide_odd (x : Nat) : b2n (decide (x % 2 = 1)) = x % 2 := by
  obtain h | h := Nat.mod_two_eq_zero_or_one x <;> simp [b2n, h]

theorem overBits_lt (f : BitVec 58 → Bool → Bool × BitVec 58) :
    ∀ (n : Nat) (c : BitVec 58) (x : Nat), (overBits f n c x).1 < 2 ^ n
  | 0, _, _ => Nat.one_pos
  | n + 1, c, x => by
    have hbit := b2n_lt_two (f c (decide (x % 2 = 1))).1
    have hrest := overBits_lt f n (f c (decide (x % 2 = 1))).2 (x / 2)
    rw [overBits_succ, Nat.pow_succ]
    dsimp only
    omega

/-- A bit step that undoes another from the same register undoes it over any number of bits. -/
theorem overBits_inverse {f g : BitVec 58 → Bool → Bool × BitVec 58} (h : ∀ c b, g c (f c b).1 = (b, (f c b).2)) :
    ∀ (n : Nat) (c : BitVec 58) (x : Nat), overBits g n c (overBits f n c x).1 = (x % 2 ^ n, (overBits f n c x).2)
  | 0, _, x => by simp [overBits, Nat.mod_one]
  | n + 1, c, x => by
    have hbit := b2n_lt_two (f c (decide (x % 2 = 1))).1
    have hrest : ∀ y, (b2n (f c (decide (x % 2 = 1))).1 + 2 * y) / 2 = y := fun y => by omega
    rw [overBits_succ f, overBits_succ g]
    simp only [decide_b2n_odd, hrest, h, overBits_inverse h n, b2n_decide_odd]
    rw [Nat.pow_succ', Nat.mod_mul]

theorem descrambleBit_scrambleBit (c : BitVec 58) (b : Bool) :
    descrambleBit c (scrambleBit c b).1 = (b, (scrambleBit c b).2) := by
  simp [descrambleBit, scrambleBit]

/-- The descrambler gives back what the scrambler took, and both registers hold the same bits. -/
theorem descramble_scramble (c : BitVec 58) (p : BitVec 64) :
    descramble c (scramble c p).1 = (p, (scramble c p).2) := by
  have hcarried : (BitVec.ofNat 64 (overBits scrambleBit 64 c p.toNat).1).toNat = (overBits scrambleBit 64 c p.toNat).1 := by
    rw [BitVec.toNat_ofNat, Nat.mod_eq_of_lt (overBits_lt ..)]
  simp only [descramble, scramble, hcarried, overBits_inverse descrambleBit_scrambleBit, Nat.mod_eq_of_lt p.isLt,
    BitVec.ofNat_toNat, BitVec.setWidth_eq]

theorem blockOf_toNat {h : Nat} (hh : h < 4) (p : BitVec 64) : (blockOf h p).toNat = h + 4 * p.toNat := by
  have hp := p.isLt
  rw [blockOf, BitVec.toNat_ofNat, Nat.mod_eq_of_lt hh, Nat.mod_eq_of_lt (by omega)]

theorem headerOf_blockOf {h : Nat} (hh : h < 4) (p : BitVec 64) : headerOf (blockOf h p) = h := by
  rw [headerOf, blockOf_toNat hh]
  omega

theorem payloadOf_blockOf {h : Nat} (hh : h < 4) (p : BitVec 64) : payloadOf (blockOf h p) = p := by
  have hquotient : (h + 4 * p.toNat) / 4 = p.toNat := by omega
  rw [payloadOf, blockOf_toNat hh, hquotient, BitVec.ofNat_toNat, BitVec.setWidth_eq]

section Blocks

variable {s : State} {a : Nat}

/-- A receiver reads the block that the source coded, whatever the polarity. -/
theorem takeBlock_reads {h : Nat} {x : BitVec 64} {b : BitVec 66} (hh : h < 4) (hwire : onWire s a [(h, x)] = [b]) :
    (takeBlock a b s).1 = readBlock h x := by
  have hcoded : (if rdB s (Reg.LANE_CFG 0 a) Fld.LANE_CFG_polarity then ~~~b else b) =
      blockOf h (scramble (laneOf s 0 a).scr x).1 := by
    simp only [onWire, encodeBlocks, List.map_cons, List.map_nil] at hwire
    split_ifs at hwire ⊢ with hinverts
    · rw [← List.head_eq_of_cons_eq hwire, BitVec.not_not]
    · exact (List.head_eq_of_cons_eq hwire).symm
  simp only [takeBlock, hcoded, headerOf_blockOf hh, payloadOf_blockOf hh, descramble_scramble]

/-! ### Blocks on an ACTIVE lane (R213, R214, R226) -/

variable {b : BitVec 66} {t : State}

theorem hwlUnknownBlock_control {k : Nat} {p : BitVec 64} (hhears : hwlReceives s a = true)
    (htaken : takeBlock a b s = (.control k p, t)) (hk : knownType k = false) :
    exec (.hwlUnknownBlock a b) s = .next (setFlag Flag.HWL_pkt_err (notIdle a (abandonPacket a 3 t))) := by
  rw [exec_hwlUnknownBlock, execHwlUnknownBlock, otherBlock, if_neg (by simp [hhears])]
  simp only [htaken, hk, Bool.false_eq_true, if_false]
  rfl

/-- A data block outside a packet is flagged. -/
theorem hwlUnknownBlock_data {p : BitVec 64} (hhears : hwlReceives s a = true) (htaken : takeBlock a b s = (.data p, t))
    (hpacket : (laneOf (dataArrives a (notIdle a t)) 0 a).packet = none) :
    exec (.hwlUnknownBlock a b) s = .next (setFlag Flag.HWL_pkt_err (dataArrives a (notIdle a t))) := by
  rw [exec_hwlUnknownBlock, execHwlUnknownBlock, otherBlock, if_neg (by simp [hhears])]
  simp only [htaken, dataBlock, hpacket]

theorem hwlTrainBlock_train {p : BitVec 64} (ha : a < 32) (htaken : takeBlock a b s = (.control 0x2D p, t)) :
    exec (.hwlTrainBlock ⟨a, b⟩) s = .next (notIdle a (abandonPacket a 3 t)) := by
  rw [exec_hwlTrainBlock, execHwlTrainBlock]
  simp only [htaken, ha, if_true]
  rfl

theorem onControl_acts {kind : Nat} {p : BitVec 64} (act : BitVec 64 → State → State) (hhears : hwlReceives s a = true)
    (htaken : takeBlock a b s = (.control kind p, t)) :
    onControl a kind b act s = act p (notIdle a (abandonPacket a 3 t)) := by
  rw [onControl, if_neg (by simp [hhears])]
  simp only [htaken, if_true]
  rfl

end Blocks

/-! ### IDLE (R194) -/

section Counting

variable {j : Nat} (hflags : j ≠ Reg.PERF_FLAGS) (hcount : j ≠ Reg.PERF_FLAG_CNT)
include hflags hcount

theorem rd_ctrAddOne (n v : Nat) (s : State) : rd (ctrAddOne n v s) j = rd s j := by
  unfold ctrAddOne
  dsimp only
  split
  · rfl
  · exact rd_flagOverflow hflags hcount

theorem rd_ctrAdd (n v : Nat) (s : State) : rd (ctrAdd n v s) j = rd s j := by
  have hover : ∀ u : State, rd (flagOverflow u) j = rd u j := fun _ => rd_flagOverflow hflags hcount
  unfold ctrAdd ctrCarry
  dsimp only
  split_ifs
  · rfl
  · exact (rd_ctrAddOne hflags hcount ..).trans (hover _)
  · exact hover _
  · exact rd_ctrAddOne hflags hcount ..

/-- Counting an event leaves every register but those of the counters' overflow, whatever form the register file has. -/
theorem rd_countEvent (u ev v : Nat) (s : State) : rd (countEvent u ev v s) j = rd s j := by
  have hfold : ∀ (f : State → Nat → State), (∀ s n, rd (f s n) j = rd s j) → ∀ (l : List Nat) (s : State),
      rd (l.foldl f s) j = rd s j := fun f hf l => by
    induction l with
    | nil => exact fun _ => rfl
    | cons n l ih => exact fun s => (ih (f s n)).trans (hf s n)
  unfold countEvent
  split
  · rfl
  · refine hfold _ (fun s n => ?_) _ s
    split
    · exact rd_ctrAdd hflags hcount ..
    · rfl

end Counting

section Idle

variable {s t : State} {a : Nat}

theorem laneIs_countEvent (u ev v st : Nat) : laneIs (countEvent u ev v s) 0 a st = laneIs s 0 a st := by
  rw [laneIs, laneState, rdF, rd_countEvent (laneStat_ne a (by decide)) (laneStat_ne a (by decide)), laneIs, laneState, rdF]

/-- An IDLE block outside a packet is counted; a lane that is not ACTIVE does not freeze. -/
theorem idleArrives_counted (hpacket : (laneOf s 0 a).packet = none) (hinactive : laneIs s 0 a Lane.active = false) :
    idleArrives a s = setLane 0 a { laneOf s 0 a with idle := (laneOf s 0 a).idle + 1 } (countEvent 0x20 0x12 1 s) := by
  have hlane : laneOf (countEvent 0x20 0x12 1 s) 0 a = laneOf s 0 a := by simp [laneOf]
  have hstill := (laneIs_countEvent (s := s) (a := a) 0x20 0x12 1 Lane.active).trans hinactive
  rw [idleArrives, abandonPacket_of_none hpacket]
  dsimp only
  rw [hlane]
  exact if_neg fun h => Bool.eq_false_iff.1 hstill h.2.1

theorem hwlIdleBlock_counted {b : BitVec 66} {p : BitVec 64} (htaken : takeBlock a b s = (.control 0x1E p, t))
    (hpacket : (laneOf t 0 a).packet = none) (hinactive : laneIs t 0 a Lane.active = false) :
    exec (.hwlIdleBlock ⟨a, b⟩) s =
      .next (setLane 0 a { laneOf t 0 a with idle := (laneOf t 0 a).idle + 1 } (countEvent 0x20 0x12 1 t)) := by
  rw [exec_hwlIdleBlock, execHwlIdleBlock]
  simp only [htaken, idleArrives_counted hpacket hinactive]

end Idle

/-! ### A register set to a value other than its reset value -/

/-- A key that is listed reads back what it was set to, whatever form the table has. -/
theorem tabGet_insert_same {α : Type} (f : Nat → α) (i : Nat) (v : α) : ∀ t : Tab α, tabGet f (tabInsert t i v) i = v
  | [] => if_pos rfl
  | (j, w) :: t => by
    simp only [tabInsert]
    split_ifs with hsame hbefore
    · exact if_pos rfl
    · exact if_pos rfl
    · simp only [tabGet, if_neg hsame, if_neg hbefore, tabGet_insert_same f i v t]

/-- A register set to a value other than its reset value reads back that value. -/
theorem rd_wr_nonreset_same {s : State} {i : Nat} {v : Word} (hv : v ≠ regReset i) : rd (wr i v s) i = v := by
  simp only [rd, wr, tabSet, if_neg hv]
  exact tabGet_insert_same regReset i v _

section Sleep

variable {s : State}

/-! ### Sleep and wake (R230, R231) -/

/-- An event leaves what HWL_STAT shows. -/
theorem rdF_hwlStat_postEvent (hregs : RegsCanonical s) (r : Route) (c u v : Nat) (x : BitVec 64) (f : Nat × Nat) :
    rdF (postEvent r c u v x s) Reg.HWL_STAT f = rdF s Reg.HWL_STAT f := by
  rw [rdF, (postEvent_keepsLow r c u v x s).low hregs _ (by decide) (by decide), rdF]

theorem toBuffered_regs (c : Nat) (s : State) : (toBuffered c s).regs = s.regs := by
  unfold toBuffered
  split <;> rfl

/-- Without a frame in progress there is nothing to patch. -/
theorem endHwFrame_noFrame (hcur : s.comp.cur = none) (hframe : s.hwl.frame = none) : endHwFrame s = closeFrame s := by
  rw [endHwFrame]
  simp only [hcur, patchReceiving, hframe]

/-- The first SLEEP between frames ends the silence checks and shows that the source sleeps. -/
theorem sourceSleeps_first (hawake : rdB s Reg.HWL_STAT Fld.HWL_STAT_sleeping = false) (hcur : s.comp.cur = none)
    (hframe : s.hwl.frame = none) (hregs : RegsCanonical s) :
    (sourceSleeps s).hwl.checking = false ∧ rdB (sourceSleeps s) Reg.HWL_STAT Fld.HWL_STAT_sleeping = true := by
  have hclosed : RegsCanonical (closeFrame s) := canonical_wrF (s := { s with hwl := _ }) hregs _ _ _
  rw [sourceSleeps, if_neg (by simp [hawake]), endHwFrame_noFrame hcur hframe]
  refine ⟨rfl, decide_eq_true ?_⟩
  refine (rdF_of_regs (toBuffered_regs 2 _) _ _).trans ((rdF_hwlStat_postEvent (canonical_wrF hclosed _ _ _) ..).trans ?_)
  exact rdF_wrF_fits hclosed _ (by decide) (by decide)

theorem wakeSource_wakes (hasleep : rdB s Reg.HWL_STAT Fld.HWL_STAT_sleeping = true) (hregs : RegsCanonical s) :
    (wakeSource s).hwl.checking = true ∧ rdB (wakeSource s) Reg.HWL_STAT Fld.HWL_STAT_sleeping = false := by
  have hshown : rdF (postEvent .device 0x0BF7 0x20 0 0 (wrF Reg.HWL_STAT Fld.HWL_STAT_sleeping 0 s)) Reg.HWL_STAT
      Fld.HWL_STAT_sleeping = 0 :=
    (rdF_hwlStat_postEvent (canonical_wrF hregs _ _ _) ..).trans (rdF_wrF_fits hregs _ (by decide) (by decide))
  rw [wakeSource, if_pos hasleep]
  exact ⟨rfl, decide_eq_false fun h => Nat.zero_ne_one (hshown.symm.trans h)⟩

/-! ### Silence and freeze (R232, R233) -/

/-- A check of a source that is silent already counts one more missing frame. -/
theorem silenceCheck_counts (hplane : planeOn s 0 = true) (hchecks : s.hwl.checking = true)
    (hawake : rdB s Reg.HWL_STAT Fld.HWL_STAT_sleeping = false) (hregs : RegsCanonical s)
    (hsilent : rdB s Reg.HWL_STAT Fld.HWL_STAT_silent = true) : exec .silenceCheck s = .next (freezeIfDue
      (bumpSat Reg.HWL_STAT Fld.HWL_STAT_missing 1 { s with hwl := { s.hwl with missed := s.hwl.missed + 1 } })) := by
  have hstill : rdB (bumpSat Reg.HWL_STAT Fld.HWL_STAT_missing 1 { s with hwl := { s.hwl with missed := s.hwl.missed + 1 } })
      Reg.HWL_STAT Fld.HWL_STAT_silent = true :=
    decide_eq_true ((rdF_wrF_field (s := { s with hwl := _ }) hregs _ _ (by decide) (by decide)).trans
      (of_decide_eq_true hsilent))
  rw [exec_silenceCheck, execSilenceCheck, if_neg (by simp [hplane, hchecks, hawake])]
  simp only [hstill, if_true]

/-- Showing the freeze leaves the count of missing frames. -/
theorem hwlMissing_wrF_frozen : rdF (wrF Reg.HWL_STAT Fld.HWL_STAT_frozen 1 s) Reg.HWL_STAT Fld.HWL_STAT_missing =
    rdF s Reg.HWL_STAT Fld.HWL_STAT_missing := by
  rw [rdF, wrF, rd_wr_nonreset_same (withField_ne_zero _ (by decide) (by decide)),
    field_withField_other _ _ (by decide) (by decide), rdF]

/-- The device freezes once enough frames are missing. -/
theorem freeze_due (hsilent : rdB s Reg.HWL_STAT Fld.HWL_STAT_silent = true)
    (hruns : rdB s Reg.HWL_STAT Fld.HWL_STAT_frozen = false)
    (hdue : min 600 (max 1 (rdF s Reg.HWL_HOLD_TIMEOUT Fld.HWL_HOLD_TIMEOUT_frames)) ≤ s.hwl.missed) : exec .freeze s =
      .next (postEvent .device 0x05F3 0x20 1 (dataAt 24 (rdF (wrF Reg.HWL_STAT Fld.HWL_STAT_frozen 1 s) Reg.HWL_STAT
        Fld.HWL_STAT_missing)) (wrF Reg.HWL_STAT Fld.HWL_STAT_frozen 1 s)) := by
  rw [exec_freeze, execFreeze, freezeIfDue, if_pos ⟨hsilent, Bool.eq_false_iff.1 hruns, hdue⟩, hwlMissing_wrF_frozen]

/-- A frozen device plays the policy's item, or reports that the hold cache lacks it. -/
theorem freezeTimeout_plays (hfrozen : rdB s Reg.HWL_STAT Fld.HWL_STAT_frozen = true)
    (hplays : rdB s Reg.HWL_STAT Fld.HWL_STAT_holding = false) (hdue : s.hold.due = false)
    (htime : rdF s Reg.HWL_FREEZE_TIMEOUT Fld.HWL_FREEZE_TIMEOUT_ms ≠ 0) (hitem : policyItem s ≠ 0) :
    exec .freezeTimeout s = .next (if itemResident s (policyItem s) then { s with hold := { s.hold with due := true } }
      else postEvent .device 0x05F5 0x20 2 (dataAt 24 (policyItem s)) s) := by
  have hnamed : rdF s Reg.HWL_HOLD_ITEM Fld.HWL_HOLD_ITEM_item ≠ 0 := hitem
  rw [exec_freezeTimeout, execFreezeTimeout]
  refine (if_neg (by simp [hfrozen, hplays, hdue, htime, hnamed])).trans ?_
  exact (apply_ite Host.Outcome.next ..).symm

end Sleep

/-- Settles O39: what a receiver reads, what each block does, then silence, freeze and the hold. -/
theorem headwaterBlocks : Obligations.HeadwaterBlocks := by
  refine ⟨fun s a => ⟨fun h x b => takeBlock_reads, fun c p x hx => ?descrambles, fun b k p t => hwlUnknownBlock_control,
    fun b p t => hwlUnknownBlock_data, fun b p t => hwlTrainBlock_train, fun b p t => hwlIdleBlock_counted,
    fun b p t u hhears htaken hu hasleep => ?sleepsOn, fun b p t u hhears htaken hu hawake _ hcur hframe hregs => ?sleeps,
    fun b p t u hhears htaken hu hrun hentry hasleep hregs => ?wakes⟩,
    fun s => ⟨silenceCheck_counts, freeze_due, fun hfrozen hplays hdue htime hitem hthere => ?plays,
      fun hfrozen hplays hdue htime hitem hlacks => ?lacks⟩⟩
  case descrambles =>
    have hscrambled : x = (scramble c p).1 := (congrArg Prod.fst hx).symm
    rw [hscrambled, descramble_scramble]
  case sleepsOn =>
    rw [exec_hwlSleepBlock, execHwlSleepBlock, onControl_acts _ hhears htaken, hu, sourceSleeps, if_pos hasleep]
  case sleeps =>
    rw [exec_hwlSleepBlock, execHwlSleepBlock, onControl_acts _ hhears htaken, hu]
    exact ⟨_, rfl, sourceSleeps_first hawake hcur hframe hregs⟩
  case wakes =>
    rw [exec_hwlWakeBlock, execHwlWakeBlock, onControl_acts _ hhears htaken, hu, idleTrigger_in_run hentry hrun]
    exact ⟨_, congrArg _ (if_pos hasleep), wakeSource_wakes (s := setPower _ u) hasleep hregs⟩
  case plays => rw [freezeTimeout_plays hfrozen hplays hdue htime hitem, if_pos hthere]
  case lacks => rw [freezeTimeout_plays hfrozen hplays hdue htime hitem, if_neg (by simp [hlacks])]

end Sys2Proof.Machine
end

section

/-! ## Line packets, frame starts and ends, and line deadlines of the Headwater link (R212, R218 to R222, R228, R229) -/

namespace Sys2Proof.Machine

/-! ### The commands' meanings -/

theorem exec_hwlLinePacket (a : Nat) (bs : List (BitVec 66)) (s : State) :
    exec (.hwlLinePacket a bs) s = .next (bs.foldl (lineBlock a) s) := rfl
theorem exec_frameStart (a h : Nat) (lo hi : BitVec 32) (late : Bool) (s : State) :
    exec (.frameStart a h lo hi late) s = execFrameStart a h lo hi late s := rfl
theorem exec_frameEnd (a h : Nat) (lo hi : BitVec 32) (s : State) :
    exec (.frameEnd a h lo hi) s = execFrameEnd a h lo hi s := rfl
theorem exec_lineDeadline (pl y : Nat) (s : State) : exec (.lineDeadline pl y) s = execLineDeadline pl y s := rfl

/-! ### The blocks of a line packet (R214) -/

section Blocks

variable {s t u : State} {a : Nat} {b : BitVec 66} {p : BitVec 64} {st data : List Byte}

/-- LINE_START opens a packet, and what the lane had open is abandoned. -/
theorem lineBlock_start (hhears : hwlReceives s a = true) (htaken : takeBlock a b s = (.control 0x78 p, t))
    (hu : notIdle a (abandonPacket a 3 t) = u) :
    lineBlock a s b = setLane 0 a { laneOf u 0 a with packet := some ((payloadBytes p).drop 1, []) } u := by
  subst hu
  rw [lineBlock, if_neg (by simp [hhears])]
  simp only [htaken]
  rfl

theorem lineBlock_data (hhears : hwlReceives s a = true) (htaken : takeBlock a b s = (.data p, t))
    (hu : dataArrives a (notIdle a t) = u) (hpacket : (laneOf u 0 a).packet = some (st, data)) :
    lineBlock a s b = setLane 0 a { laneOf u 0 a with packet := some (st, data ++ payloadBytes p) } u := by
  subst hu
  rw [lineBlock, if_neg (by simp [hhears])]
  simp only [htaken, dataBlock, hpacket]

/-- LINE_END with the count of data blocks that came closes the packet and has it checked. -/
theorem lineBlock_end {k : LinePacket} (hhears : hwlReceives s a = true) (htaken : takeBlock a b s = (.control 0x87 p, t))
    (hu : notIdle a t = u) (hpacket : (laneOf u 0 a).packet = some (st, data))
    (hk : packetOf st data ((payloadBytes p).drop 1) = k) (hcount : data.length = 8 * k.dataBlocks) :
    lineBlock a s b = checkPacket a k (setLane 0 a { laneOf u 0 a with packet := none } u) := by
  subst hu hk
  have hcomplete : ¬ data.length ≠ 8 * leAt ((payloadBytes p).drop 1) 4 2 := not_not_intro hcount
  rw [lineBlock, if_neg (by simp [hhears])]
  simp only [htaken, endPacket, hpacket, if_neg hcomplete]

end Blocks

/-! ### The checks of a packet (R218) -/

section Checks

variable {w : State} {a : Nat} {k : LinePacket}

theorem checkPacket_unfit (hfits : k.fits w.hwl.planes = false) :
    checkPacket a k w = noteFailure k.plane k.line 3 (setFlag Flag.HWL_fmt_err w) := by
  rw [checkPacket, if_pos (by simp [hfits]), discardLine]

variable (hfits : k.fits w.hwl.planes = true)
include hfits

theorem checkPacket_planeOff (hplane : (hwView w).enabled (16 + k.plane) = false) :
    checkPacket a k w = setFlag Flag.HWL_plane_off w := by
  rw [checkPacket, if_neg (by simp [hfits]), if_pos (by simp [hplane])]

variable (hplane : (hwView w).enabled (16 + k.plane) = true)
include hplane

theorem checkPacket_noFrame (hframe : w.hwl.frame = none) : checkPacket a k w = setFlag Flag.HWL_pkt_err w := by
  rw [checkPacket, if_neg (by simp [hfits]), if_neg (by simp [hplane])]
  simp only [hframe, Option.filter_none]

variable {f : HwFrame} {x : State} (hframe : w.hwl.frame = some f) (hopen : f.open_ = true)
  (hx : { w with hwl := { w.hwl with frame := some (brought a k.plane k.line f) } } = x)
include hframe hopen hx

/-- Within an open frame the lane has brought the line; then frame_lo, the deadline, the CRC and a copy are checked in that
order. -/
theorem checkPacket_open : checkPacket a k w =
    if k.frameLo ≠ f.lo then noteFailure k.plane k.line 3 (setFlag Flag.HWL_pkt_err x)
    else if deadlinePassed x (brought a k.plane k.line f) k.plane k.line then setFlag Flag.HWL_pkt_err x
    else if crc32c (k.startBytes ++ k.data) ≠ k.crc then noteFailure k.plane k.line 1 (setFlag Flag.HWL_crc_err x)
    else if f.has k.plane k.line then setFlag Flag.HWL_dup x
    else acceptLine a k (brought a k.plane k.line f) x := by
  subst hx
  rw [checkPacket, if_neg (by simp [hfits]), if_neg (by simp [hplane])]
  simp only [hframe, Option.filter_some, hopen, if_true]
  rfl

theorem checkPacket_otherFrame (hlo : k.frameLo ≠ f.lo) :
    checkPacket a k w = noteFailure k.plane k.line 3 (setFlag Flag.HWL_pkt_err x) := by
  rw [checkPacket_open hfits hplane hframe hopen hx, if_pos hlo]

variable (hlo : k.frameLo = f.lo)
include hlo

theorem checkPacket_late (hlate : deadlinePassed x (brought a k.plane k.line f) k.plane k.line = true) :
    checkPacket a k w = setFlag Flag.HWL_pkt_err x := by
  rw [checkPacket_open hfits hplane hframe hopen hx, if_neg (not_not_intro hlo), if_pos hlate]

variable (htimely : deadlinePassed x (brought a k.plane k.line f) k.plane k.line = false)
include htimely

theorem checkPacket_badCrc (hcrc : crc32c (k.startBytes ++ k.data) ≠ k.crc) :
    checkPacket a k w = noteFailure k.plane k.line 1 (setFlag Flag.HWL_crc_err x) := by
  rw [checkPacket_open hfits hplane hframe hopen hx, if_neg (not_not_intro hlo), if_neg (Bool.eq_false_iff.1 htimely),
    if_pos hcrc]

variable (hcrc : crc32c (k.startBytes ++ k.data) = k.crc)
include hcrc

/-- A packet that passes every check is accepted, unless the line had been accepted already. -/
theorem checkPacket_passes : checkPacket a k w =
    if f.has k.plane k.line then setFlag Flag.HWL_dup x else acceptLine a k (brought a k.plane k.line f) x := by
  rw [checkPacket_open hfits hplane hframe hopen hx, if_neg (not_not_intro hlo), if_neg (Bool.eq_false_iff.1 htimely),
    if_neg (not_not_intro hcrc)]

theorem checkPacket_copy (hhas : f.has k.plane k.line = true) : checkPacket a k w = setFlag Flag.HWL_dup x := by
  rw [checkPacket_passes hfits hplane hframe hopen hx hlo htimely hcrc, if_pos hhas]

theorem checkPacket_accepts (hhas : f.has k.plane k.line = false) :
    checkPacket a k w = acceptLine a k (brought a k.plane k.line f) x := by
  rw [checkPacket_passes hfits hplane hframe hopen hx hlo htimely hcrc, if_neg (Bool.eq_false_iff.1 hhas)]

end Checks

/-! ### FRAME_START and FRAME_END (R219, R222) -/

section Frames

variable {s t u : State} {a h : Nat} {lo hi : BitVec 32} {p : BitVec 64}

theorem frameStart_acts (late : Bool) (hhears : hwlReceives s a = true)
    (htaken : takeBlock a (wireOf h lo hi) s = (.control 0x33 p, t)) (hu : notIdle a (abandonPacket a 3 t) = u) :
    exec (.frameStart a h lo hi late) s = .next (frameStarts a (payloadByte p 2) (bitsAt p.toNat 32 32) late u) := by
  rw [exec_frameStart, execFrameStart, onControl_acts _ hhears htaken, hu]

theorem frameEnd_acts (hhears : hwlReceives s a = true) (htaken : takeBlock a (wireOf h lo hi) s = (.control 0x4B p, t))
    (hu : notIdle a (abandonPacket a 3 t) = u) :
    exec (.frameEnd a h lo hi) s = .next (frameEnds a (payloadByte p 2) u) := by
  rw [exec_frameEnd, execFrameEnd, onControl_acts _ hhears htaken, hu]

variable {f : HwFrame} {n mask : Nat}

theorem joinsFrame_of_open (hframe : u.hwl.frame = some f) (hopen : f.open_ = true) (hlo : f.lo = n)
    (hset : inSet f.mask a = true) (hnew : f.starts.contains a = false) : joinsFrame u a n = true := by
  rw [joinsFrame, hframe, Option.any_some, hopen, decide_eq_true hlo, hset, hnew]
  rfl

/-- In time, a FRAME_START of the open frame on another lane is absorbed. -/
theorem frameStarts_joins (hjoins : joinsFrame u a n = true) : frameStarts a n mask false u =
    { wakeSource u with hwl := { (wakeSource u).hwl with
      frame := (wakeSource u).hwl.frame.map (fun f => { f with starts := a :: f.starts }) } } := by
  rw [frameStarts, if_pos hjoins]
  rfl

theorem frameStarts_opens (hjoins : joinsFrame u a n = false) (hset : inSet (hwlMask u) a = true) (late : Bool) :
    frameStarts a n mask late u = openFrame a n mask (wakeSource (idleTrigger u)) := by
  rw [frameStarts, if_neg (Bool.eq_false_iff.1 hjoins), if_pos hset]

theorem frameEnds_noFrame (hframe : u.hwl.frame = none) : frameEnds a n u = setFlag Flag.HWL_pkt_err u := by
  simp only [frameEnds, hframe, Option.filter_none]

/-- FRAME_END of the one active lane ends the open frame: what is still missing is patched at once. -/
theorem frameEnds_onlyLane (hframe : u.hwl.frame = some f) (hopen : f.open_ = true) (hlo : f.lo = n) (hended : f.ended = [])
    (hlane : lanesOf f.mask = [a]) : frameEnds a n u = followResume (closeFrame (patchReceiving
      { u with hwl := { u.hwl with frame := some { f with ended := [a] } } })) := by
  have hfilter : u.hwl.frame.filter (fun f => f.open_ && decide (f.lo = n)) = some f := by
    rw [hframe, Option.filter_some, hopen, decide_eq_true hlo]
    rfl
  simp only [frameEnds, hfilter, hended, hlane, List.contains_nil, Bool.false_eq_true, if_false]
  exact if_pos (by simp)

end Frames

/-! ### LINE_DEADLINE (R221) -/

theorem lineDeadline_patches {s : State} {pl y : Nat} {c : CompFrame} (hcur : s.comp.cur = some c) (hplane : pl ≤ 1)
    (hline : y ∈ linesOf s pl) (hinside : y + (viewOf s).planeY pl < panelH s) (hdue : y + (viewOf s).planeY pl ≤ c.next) :
    exec (.lineDeadline pl y) s = .next (followResume (patchLine pl 2 s y)) := by
  rw [exec_lineDeadline, execLineDeadline]
  simp only [hcur]
  exact if_pos ⟨hplane, hline, .inl ⟨hinside, hdue⟩⟩

/-- Settles O40: the blocks of a packet, its checks in their order, then FRAME_START, FRAME_END and the deadline. -/
theorem headwaterFrames : Obligations.HeadwaterFrames := by
  refine fun s a => ⟨fun bs => exec_hwlLinePacket a bs s,
    fun b p t u hhears htaken hu => congrArg _ (lineBlock_start hhears htaken hu),
    fun b p t u st data hhears htaken hu hpacket => congrArg _ (lineBlock_data hhears htaken hu hpacket),
    fun b p t u st data k w x hhears htaken hu hpacket hk hcount hw => ?packet,
    fun h lo hi b p t u hhears hb htaken hu => ?starts, fun h lo hi b p t u hhears hb htaken hu => ?ends,
    fun pl y c => lineDeadline_patches⟩
  case packet =>
    have hchecked : exec (.hwlLinePacket a [b]) s = .next (checkPacket a k w) :=
      congrArg _ (hw ▸ lineBlock_end hhears htaken hu hpacket hk hcount)
    rw [hchecked]
    refine ⟨fun hfits => congrArg _ (checkPacket_unfit hfits),
      fun hfits hplane => congrArg _ (checkPacket_planeOff hfits hplane),
      fun hfits hplane hframe => congrArg _ (checkPacket_noFrame hfits hplane hframe),
      fun f hfits hplane hframe hopen hx => ⟨fun hlo => ?_, fun hlo hlate => ?_, fun hlo htimely hcrc => ?_,
        fun hlo htimely hcrc hhas => ?_, fun hlo htimely hcrc hhas => ?_⟩⟩
    · exact congrArg _ (checkPacket_otherFrame hfits hplane hframe hopen hx hlo)
    · exact congrArg _ (checkPacket_late hfits hplane hframe hopen hx hlo hlate)
    · exact congrArg _ (checkPacket_badCrc hfits hplane hframe hopen hx hlo htimely hcrc)
    · exact congrArg _ (checkPacket_copy hfits hplane hframe hopen hx hlo htimely hcrc hhas)
    · exact congrArg _ (checkPacket_accepts hfits hplane hframe hopen hx hlo htimely hcrc hhas)
  case starts =>
    subst hb
    rw [frameStart_acts false hhears htaken hu]
    exact ⟨fun f hframe hopen hlo hset hnew =>
        congrArg _ (frameStarts_joins (joinsFrame_of_open hframe hopen hlo hset hnew)),
      fun hjoins hset => congrArg _ (frameStarts_opens hjoins hset false)⟩
  case ends =>
    subst hb
    rw [frameEnd_acts hhears htaken hu]
    exact ⟨fun hframe => congrArg _ (frameEnds_noFrame hframe),
      fun f hframe hopen hlo hended hlane => congrArg _ (frameEnds_onlyLane hframe hopen hlo hended hlane)⟩

end Sys2Proof.Machine
end

section

/-! ## Scan frames, scan lines and the composition timeline (R245, R254, R255, R262 to R267, R272, R286 to R292, R416, R509,
R575) -/

namespace Sys2Proof.Machine

/-! ### The commands' meanings -/

theorem exec_compositionFrameStart (ds : List Nat) (s : State) :
    exec (.compositionFrameStart ds) s = execCompositionFrameStart ds s := rfl
theorem exec_compositionLineStart (r : LineReads) (s : State) :
    exec (.compositionLineStart r) s = execCompositionLineStart r s := rfl
theorem exec_latchInstant (s : State) : exec .latchInstant s = execLatchInstant s := rfl
theorem exec_liveFetchDone (i pl y : Nat) (ahead : Bool) (bs : Option (List Byte)) (s : State) :
    exec (.liveFetchDone i pl y ahead bs) s = execLiveFetchDone i pl y ahead bs s := rfl
theorem exec_snapshotFetchDone (p q n : Nat) (ls : Option (List (Nat × List Byte))) (s : State) :
    exec (.snapshotFetchDone p q n ls) s = execSnapshotFetchDone p q n ls s := rfl
theorem exec_scanFrameStart (s : State) : exec .scanFrameStart s = execScanFrameStart s := rfl
theorem exec_scanLineStart (s : State) : exec .scanLineStart s = execScanLineStart s := rfl

/-! ### The frame that supplies H1 (R575) -/

section Supply

variable {u : State} {f g : HwFrame} {k m : Nat}

theorem hadLead_of_le {ds : List Nat} {i : Nat} (h : f.lead ≤ ds.getD i 0) : hadLead ds (f, i) = true := decide_eq_true h

theorem hadLead_of_lt {ds : List Nat} {i : Nat} (h : ds.getD i 0 < f.lead) : hadLead ds (f, i) = false :=
  decide_eq_false (Nat.not_le.2 h)

/-- With no frame that waits, H1 has no lines. -/
theorem supplyH1_idle (ds : List Nat) (hopen : u.comp.h1Waiting = false) (hwaiting : u.comp.waiting = []) :
    supplyH1 ds u = (some (noSupply u), u) := by
  have hsame : { u with comp := { u.comp with waiting := [], h1Waiting := false } } = u := by
    rw [← hopen, ← hwaiting]
  simpa [supplyH1, hopen, hwaiting] using hsame

/-- The frame being received supplies H1 once it has had its lead. -/
theorem supplyH1_open (ks : List Nat) (hopen : u.comp.h1Waiting = true) (hwaiting : u.comp.waiting = [])
    (hframe : u.hwl.frame = some f) (hlead : f.lead ≤ k) :
    supplyH1 (k :: ks) u = (none, { u with comp := { u.comp with waiting := [], h1Waiting := false } }) := by
  have hhad : hadLead (k :: ks) (f, 0) = true := hadLead_of_le hlead
  simp [supplyH1, hopen, hwaiting, hframe, hhad]

/-- Before that it goes on waiting, and H1 has no lines. -/
theorem supplyH1_early (ks : List Nat) (hopen : u.comp.h1Waiting = true) (hwaiting : u.comp.waiting = [])
    (hframe : u.hwl.frame = some f) (hlead : k < f.lead) : supplyH1 (k :: ks) u = (some (noSupply u), u) := by
  have hearly : hadLead (k :: ks) (f, 0) = false := hadLead_of_lt hlead
  have hsame : { u with comp := { u.comp with waiting := [], h1Waiting := true } } = u := by
    rw [← hopen, ← hwaiting]
  simpa [supplyH1, hopen, hwaiting, hframe, hearly] using hsame

/-- Of two frames that have ended, the newer supplies H1 while the older still waits for its lead. -/
theorem supplyH1_newer (ks : List Nat) (hopen : u.comp.h1Waiting = false) (hwaiting : u.comp.waiting = [f, g])
    (hearly : k < f.lead) (hlead : g.lead ≤ m) : supplyH1 (k :: m :: ks) u =
      (some g, { u with comp := { u.comp with waiting := [f], h1Waiting := false } }) := by
  have hwaits : hadLead (k :: m :: ks) (f, 0) = false := hadLead_of_lt hearly
  have hhad : hadLead (k :: m :: ks) (g, 1) = true := hadLead_of_le hlead
  simp [supplyH1, hopen, hwaiting, hwaits, hhad]

end Supply

/-! ### COMPOSITION_FRAME_START (R254, R509) -/

section Composition

variable {s : State} {c : CompFrame}

theorem compositionFrameStart_starts {u v : State} {own : Option HwFrame} {ds : List Nat} (hplane : planeOn s 0 = false)
    (hclock : compClocked s = true) (hphase : s.raster.phase = .running) (hended : endFrame (applyWaiting s) = u)
    (hsupply : supplyH1 ds u = (own, v)) :
    exec (.compositionFrameStart ds) s = .next (startFrame false own u.raster.timerLag v) := by
  rw [exec_compositionFrameStart, execCompositionFrameStart, if_neg (by simp [hplane, hclock, hphase]), hended]
  simp only [hsupply]

theorem compositionFrameStart_unclocked (ds : List Nat) (hclock : compClocked s = false) :
    exec (.compositionFrameStart ds) s = .next s := by
  rw [exec_compositionFrameStart, execCompositionFrameStart, if_pos (by simp [hclock])]

/-! ### COMPOSITION_LINE_START (R254, R256, R272) -/

theorem corrected_zero (s : State) : corrected 0 s = s := (rfl)
theorem foundBad_nil (s : State) : foundBad [] s = s := (rfl)

/-- Only the lines of the picture are judged (R24). -/
theorem measure_unjudged (broken : Bool) (d : Nat) (s : State) :
    measure false broken d s = wrF Reg.RAST_LAG_STAT Fld.RAST_LAG_STAT_d (min d 4095) s := by
  rw [measure]
  exact if_neg fun h => Bool.false_ne_true h.1

/-- Past the picture a line start moves on and measures its distance alone. -/
theorem compositionLineStart_past (k : Nat) (hcur : s.comp.cur = some c) (hclock : compClocked s = true)
    (hpast : panelH s < c.next) : exec (.compositionLineStart ⟨k, 0, []⟩) s = .next (followResume
      (wrF Reg.RAST_LAG_STAT Fld.RAST_LAG_STAT_d (min (if c.fromHwl then k else c.lag) 4095)
        { s with comp := { s.comp with cur := some { c with next := c.next + 1 } } })) := by
  have hinside : ¬ c.next < panelH s := Nat.not_lt.2 hpast.le
  rw [exec_compositionLineStart, execCompositionLineStart]
  simp only [hcur, hclock, corrected_zero, foundBad_nil, if_neg hinside, if_neg hpast.ne',
    decide_eq_false hinside, measure_unjudged, Option.map_some]

theorem compositionLineStart_unclocked (r : LineReads) (hclock : compClocked s = false) :
    exec (.compositionLineStart r) s = .next s := by
  rw [exec_compositionLineStart, execCompositionLineStart, hclock]
  cases s.comp.cur <;> rfl

/-! ### Lines that the reads correct (R416) -/

/-- The last line corrected is one more of each count. -/
theorem corrected_succ (n : Nat) (s : State) : corrected (n + 1) s =
    countEvent 0x50 0x12 1 (bumpSat Reg.RSV_CORRECTED (0, 32) 1 (setFlag Flag.RSV_corrected (corrected n s))) := by
  rw [corrected, List.range_succ, List.foldl_append]
  rfl

@[simp] theorem corrected_still (n : Nat) (s : State) : (corrected n s).still = s.still :=
  foldl_still _ (fun _ _ => by simp) _ s

theorem canonical_corrected (h : RegsCanonical s) (n : Nat) : RegsCanonical (corrected n s) :=
  canonical_foldl _ (fun _ _ hs => canonical_countEvent (canonical_bumpSat (canonical_setFlag hs _) ..) ..) _ s h

/-- A field as wide as the register is the register's number. -/
theorem rdF_whole (s : State) (k : Nat) : rdF s k (0, 32) = (rd s k).toNat := by
  have hlt := (rd s k).isLt
  simp only [rdF, field, bitsAt]
  omega

theorem rdF_bumpSat_same (h : RegsCanonical s) (k : Nat) {f : Nat × Nat} (n : Nat) (hf : f.1 + f.2 ≤ 32) :
    rdF (bumpSat k f n s) k f = satAdd f.2 (rdF s k f) n := by
  have hpos := Nat.two_pow_pos f.2
  rw [bumpSat, rdF_wrF_same h k _ hf]
  exact Nat.mod_eq_of_lt (by unfold satAdd; omega)

/-- A flag is raised in its own registers and those of the counters' overflow. -/
theorem rd_setFlag_other (h : RegsCanonical s) {f : Flag} {j : Nat} (hreg : j ≠ f.reg) (hcnt : j ≠ f.cnt)
    (hflags : j ≠ Reg.PERF_FLAGS) (hcount : j ≠ Reg.PERF_FLAG_CNT) : rd (setFlag f s) j = rd s j := by
  rw [setFlag, rd_countEvent hflags hcount, bumpSat, rd_wrF_other (canonical_wrF h ..) _ _ hcnt, rd_wrF_other h _ _ hreg]

/-- While the count does not overflow, it rises by the lines corrected. -/
theorem rd_corrected (h : RegsCanonical s) : ∀ n, (rd s Reg.RSV_CORRECTED).toNat + n < 2 ^ 32 →
    (rd (corrected n s) Reg.RSV_CORRECTED).toNat = (rd s Reg.RSV_CORRECTED).toNat + n
  | 0, _ => rfl
  | n + 1, hfits => by
    have hflag : rd (setFlag Flag.RSV_corrected (corrected n s)) Reg.RSV_CORRECTED = rd (corrected n s) Reg.RSV_CORRECTED :=
      rd_setFlag_other (canonical_corrected h n) (by decide) (by decide) (by decide) (by decide)
    rw [corrected_succ, rd_countEvent (by decide) (by decide), ← rdF_whole,
      rdF_bumpSat_same (canonical_setFlag (canonical_corrected h n) _) _ _ (by decide), rdF_whole, hflag,
      rd_corrected h n (by omega)]
    simp only [satAdd]
    omega

/-- A line start first counts the lines that the reads since the last one corrected. -/
theorem compositionLineStart_corrects (k n : Nat) (hcur : s.comp.cur = some c) (hclock : compClocked s = true) :
    exec (.compositionLineStart ⟨k, n, []⟩) s = exec (.compositionLineStart ⟨k, 0, []⟩) (corrected n s) := by
  have hcomp : (corrected n s).comp = s.comp := by simp only [still_frame (corrected_still n s)]
  have hpower : (corrected n s).power = s.power := by simp only [still_frame (corrected_still n s)]
  have hclock' : compClocked (corrected n s) = true := by rw [compClocked, hpower]; exact hclock
  rw [exec_compositionLineStart, exec_compositionLineStart, execCompositionLineStart, execCompositionLineStart]
  simp only [hcomp, hcur, hclock, hclock', corrected_zero]

/-! ### LATCH_INSTANT (R255) -/

theorem latchInstant_latches (hcur : s.comp.cur = some c) (hline : c.latchLine < c.next) :
    exec .latchInstant s = .next (latch s) := by
  rw [exec_latchInstant, execLatchInstant]
  simp only [hcur, if_pos hline]

/-! ### LIVE_FETCH_DONE (R288, R291) -/

theorem readDue_zero (hcur : s.comp.cur = some c) (v : CView) (i ly : Nat) :
    readDue s v i ly 0 = decide (ly + v.field (Reg.COMP_Ln_POS i) Fld.COMP_Ln_POS_y ≤ c.next + 255) := by
  simp only [readDue, hcur, Nat.add_zero]

theorem liveFetchDone_stores {i pl y : Nat} {bs : List Byte} {f : Flip} (hi : i < 16) (hpl : pl < 3)
    (hlive : (viewOf s).kind i = 2) (hflip : (frameLayer s i).current = some f) (hcur : s.comp.cur = some c)
    (hdue : servedLine (viewOf s) i pl y + (viewOf s).field (Reg.COMP_Ln_POS i) Fld.COMP_Ln_POS_y ≤ c.next + 255) :
    exec (.liveFetchDone i pl y false (some bs)) s = .next (monitorAdd (hostOf s 1 i) bs.length (countEvent 0x30 0x11 1
      (setFrameLayer i { frameLayer s i with lines := tabSet (fun _ => []) (frameLayer s i).lines (16384 * pl + y) bs } s))) := by
  have hread : readDue s (viewOf s) i (servedLine (viewOf s) i pl y) 0 = true := by rw [readDue_zero hcur, decide_eq_true hdue]
  rw [exec_liveFetchDone, execLiveFetchDone]
  simp only [Bool.false_eq_true, if_false, hread, hlive, hflip, hcur]
  exact if_neg (by simp; omega)

theorem liveFetchDone_early {i pl y : Nat} (bs : Option (List Byte)) (hcur : s.comp.cur = some c)
    (hearly : c.next + 255 < servedLine (viewOf s) i pl y + (viewOf s).field (Reg.COMP_Ln_POS i) Fld.COMP_Ln_POS_y) :
    exec (.liveFetchDone i pl y false bs) s = .next s := by
  have hread : readDue s (viewOf s) i (servedLine (viewOf s) i pl y) 0 = false := by
    rw [readDue_zero hcur, decide_eq_false (Nat.not_le.2 hearly)]
  rw [exec_liveFetchDone, execLiveFetchDone]
  exact if_pos (.inr (.inr (.inr hread)))

end Composition

/-! ### SNAPSHOT_FETCH_DONE (R286, R287) -/

section Snapshot

variable {s : State} {p q n : Nat} {d : Dsc}

/-- The read of a flip that runs ends in its port's turn: the flip has arrived, or it fails. -/
theorem snapshotFetchDone_ends (data : Option (List (Nat × List Byte))) (hd : dscOf s p q n = some d)
    (hfetch : (layerOf s (d.u8 16)).fetching = some (p, q, n)) (hphase : d.phase = .running)
    (hturn : fetchTurn s p (d.u8 16) = true) : exec (.snapshotFetchDone p q n data) s = .next (match data with
      | some ls => arrive d (monitorAdd p (ls.foldl (fun a e => a + e.2.length) 0)
          (setLayer (d.u8 16) { layerOf s (d.u8 16) with fetched := planeTab ls } s))
      | none => leaveGroup d .fetchFault 0
          (postEvent (.resource (hostOf s 1 (d.u8 16))) 0x02F0 0x30 2 (dataAt 24 (d.u8 16) ||| dataAt 28 d.tag)
            (setFlag Flag.COMP_fetch_fault (freeTag .layer (layerTag (d.u8 16) true)
              (setLayer (d.u8 16) { layerOf s (d.u8 16) with fetching := none } s))))) := by
  rw [exec_snapshotFetchDone, execSnapshotFetchDone, hd]
  dsimp only
  rw [if_neg (by simp [hfetch, hphase, hturn])]
  cases data <;> rfl

end Snapshot

/-! ### SCAN_FRAME_START (R245, R266, R267) -/

section Scan

variable {s : State}

/-- The first scan frame of an enable starts once the Sluice lanes are trained and the rear cell has run ahead. -/
theorem scanFrameStart_first (hphase : s.raster.phase = .training) (htrained : sluiceTrains s = false)
    (hahead : leadIn s ≤ s.raster.line) : exec .scanFrameStart s =
      .next (endSequence (startScanFrame { s with raster := { s.raster with phase := .running } })) := by
  rw [exec_scanFrameStart, execScanFrameStart]
  simp only [hphase]
  exact if_neg (by simp [htrained, hahead])

/-- A regular frame is over after vtotal lines. -/
theorem frameOver_regular (hregular : s.raster.irregular = false) (hline : vtotal s ≤ s.raster.line) : frameOver s = true :=
  decide_eq_true (by rw [linesNow, hregular]; exact hline)

theorem scanFrameStart_running (hphase : s.raster.phase = .running) (hover : frameOver s = true) :
    exec .scanFrameStart s = .next (startScanFrame (endScanFrame s)) := by
  rw [exec_scanFrameStart, execScanFrameStart]
  simp only [hphase, if_pos hover]

theorem scanFrameStart_toBlack (hphase : s.raster.phase = .toBlack) (hover : frameOver s = true) :
    exec .scanFrameStart s = .next (startBlack (endScanFrame s)) := by
  rw [exec_scanFrameStart, execScanFrameStart]
  simp only [hphase, if_pos hover]

/-! ### SCAN_LINE_START (R262 to R265) -/

/-- The panel's timing outputs leave the number of the scan frame, the boot and the fuses. -/
@[simp] abbrev KeepsScan (s t : State) : Prop := t.sfn = s.sfn ∧ t.boot = s.boot ∧ t.fuses = s.fuses

theorem foldl_keepsScan {α : Type} {f : State → α → State} (h : ∀ s a, KeepsScan s (f s a)) (l : List α) (s : State) :
    KeepsScan s (l.foldl f s) :=
  List.foldlRecOn (motive := KeepsScan s) l f ⟨rfl, rfl, rfl⟩ fun t ⟨hsfn, hboot, hfuses⟩ a _ =>
    have ⟨hsfn', hboot', hfuses'⟩ := h t a
    ⟨hsfn'.trans hsfn, hboot'.trans hboot, hfuses'.trans hfuses⟩

theorem gtoRun_keepsScan (l k len : Nat) (s : State) (n : Nat) : KeepsScan s (gtoRun l k len s n) := by
  simp only [gtoRun]
  split_ifs <;> exact ⟨rfl, rfl, rfl⟩

theorem syncPulse_keepsScan (y len : Nat) (s : State) : KeepsScan s (syncPulse y len s) := by
  simp only [syncPulse]
  split
  · split <;> exact ⟨rfl, rfl, rfl⟩
  · split <;> exact ⟨rfl, rfl, rfl⟩
  · split <;> exact ⟨rfl, rfl, rfl⟩
  · exact ⟨rfl, rfl, rfl⟩

/-- Every output GTO runs over front line y of len ticks (R264). -/
def runOutputs (y len : Nat) (s : State) : State :=
  (List.range 24).foldl (fun s n => gtoRun (gtoLineOf s n y).1 (gtoLineOf s n y).2 len s n) s

theorem runOutputs_keepsScan (y len : Nat) (s : State) : KeepsScan s (runOutputs y len s) :=
  foldl_keepsScan (fun s n => gtoRun_keepsScan (gtoLineOf s n y).1 (gtoLineOf s n y).2 len s n) _ s

/-- What SCAN_LINE_START does before the raster goes on: the panel's timing outputs over the line, and its counts. -/
def lineOutputs (len : Nat) (s : State) : State :=
  let y := s.raster.line
  let t := runOutputs y len s |> syncPulse y len |> countEvent 0x70 0x10 1
  if y < panelH t then fixedAdd 3 1 t else t

theorem lineOutputs_keepsScan (len : Nat) (s : State) : KeepsScan s (lineOutputs len s) := by
  have hgto := runOutputs_keepsScan s.raster.line len s
  have hsync := syncPulse_keepsScan s.raster.line len (runOutputs s.raster.line len s)
  rw [lineOutputs]
  split <;> simp [hsync, hgto]

/-- A line of the running frame starts: its outputs run, and the raster goes on to the next line with a new fraction. -/
theorem scanLineStart_next (hphase : s.raster.phase = .running) (hline : s.raster.line < linesNow s) :
    exec .scanLineStart s = .next (setRaster { (lineOutputs (lineTicks s).1 s).raster with
      line := s.raster.line + 1, frac := (lineTicks s).2 } (lineOutputs (lineTicks s).1 s)) := by
  rw [exec_scanLineStart, execScanLineStart, if_neg (by simp [hphase]), if_neg (by simp [scanning, hphase, hline])]
  rfl

theorem lineTicks_frac_lt (s : State) : (lineTicks s).2 < 65536 := Nat.mod_lt _ (by decide)

theorem scanLineStart_advances (hphase : s.raster.phase = .running) (hline : s.raster.line < linesNow s) :
    ∃ t, exec .scanLineStart s = .next t ∧ t.raster.line = s.raster.line + 1 ∧ t.raster.frac < 65536 ∧ t.sfn = s.sfn ∧
      t.boot = s.boot ∧ t.fuses = s.fuses :=
  ⟨_, scanLineStart_next hphase hline, rfl, lineTicks_frac_lt s, lineOutputs_keepsScan ..⟩

end Scan

/-- Settles O42: the frames that start and what supplies H1, the line starts, the latch and the fetches, then the scan. -/
theorem timelines : Obligations.Timelines := by
  refine fun s => ⟨fun ds u hplane hclock hphase hended hopen hwaiting =>
      compositionFrameStart_starts hplane hclock hphase hended (supplyH1_idle ds hopen hwaiting),
    fun k ks f u hplane hclock hphase hended hopen hwaiting hframe hlead =>
      compositionFrameStart_starts hplane hclock hphase hended (supplyH1_open ks hopen hwaiting hframe hlead),
    fun k ks f u hplane hclock hphase hended hopen hwaiting hframe hlead =>
      compositionFrameStart_starts hplane hclock hphase hended (supplyH1_early ks hopen hwaiting hframe hlead),
    fun c k => compositionLineStart_past k, fun c => latchInstant_latches,
    fun i pl y bs f c => liveFetchDone_stores, fun i pl y bs c => liveFetchDone_early bs,
    fun p q n d ls => snapshotFetchDone_ends (some ls), fun p q n d => snapshotFetchDone_ends none,
    scanFrameStart_first,
    fun hphase hregular hline => scanFrameStart_running hphase (frameOver_regular hregular hline),
    fun hphase hregular hline => scanFrameStart_toBlack hphase (frameOver_regular hregular hline),
    scanLineStart_advances,
    fun k m ks f g u hplane hclock hphase hended hopen hwaiting hearly hlead =>
      compositionFrameStart_starts hplane hclock hphase hended (supplyH1_newer ks hopen hwaiting hearly hlead),
    compositionFrameStart_unclocked, compositionLineStart_unclocked,
    fun c k n => compositionLineStart_corrects k n, fun n hregs => rd_corrected hregs n⟩

end Sys2Proof.Machine
end

section

/-! ## The backlight link and the panel's temperature sensors (R319 to R323, R339) -/

namespace Sys2Proof.Machine

/-! ### The commands' meanings -/

theorem exec_bklStrobe (k a b : Nat) (s : State) : exec (.bklStrobe k a b) s = execBklStrobe k a b s := rfl
theorem exec_zoneData (k r f : Nat) (fits : Bool) (s : State) : exec (.zoneData k r f fits) s = execZoneData k r f fits s := rfl
theorem exec_bklStatus (k st c : Nat) (s : State) : exec (.bklStatus k st c) s = execBklStatus k st c s := rfl
theorem exec_panelTempPoll (rs : List (Option Nat)) (s : State) : exec (.panelTempPoll rs) s = execPanelTempPoll rs s := rfl

section Link

variable {s : State} {k : Nat}

/-! ### Strobes (R319, R321) -/

/-- While the backlight scans, an on and an off edge travel as one STROBE. -/
theorem bklStrobe_merges {a b : Nat} (hon : controllerOn s k = true) (ha : a < 36) (hb : b < 36)
    (hscan : scanningMode s = true) : exec (.bklStrobe k a b) s = .next (setFlag Flag.BKL_strobe_merge
      (noteStrobe k a b (spiFrame k [2, BitVec.ofNat 8 a, BitVec.ofNat 8 b] s))) := by
  have hedges : a ≠ 255 ∧ b ≠ 255 := ⟨by omega, by omega⟩
  rw [exec_bklStrobe, execBklStrobe, if_neg (by simp [hon, ha, hb, hscan, hedges])]
  exact congrArg _ (if_pos hedges)

/-- The STROBE of an on edge alone, whether the backlight scans or not. -/
theorem bklStrobe_lights {a : Nat} (hon : controllerOn s k = true) (ha : a < 36) : exec (.bklStrobe k a 255) s =
    .next (noteStrobe k a 255 (spiFrame k [2, BitVec.ofNat 8 a, 255#8] s)) := by
  have hedge : a ≠ 255 := by omega
  rw [exec_bklStrobe, execBklStrobe, if_neg (by simp [hon, ha, hedge])]
  exact congrArg _ (if_neg fun h => h.2 rfl)

/-! ### Zone data (R319 to R321) -/

/-- The ZONE_DATA of a row for a frame is taken up, to be sent or skipped. -/
def takeZoneData (k r f : Nat) (s : State) : State :=
  { s with pipe := { s.pipe with dataFor := tabSet (fun _ => 0) s.pipe.dataFor (rowKey k r) f } }

/-- The codes of the 16 zones of a row that a controller drives. -/
def rowCodes (s : State) (b : Tab Nat) (k r : Nat) : List Byte :=
  (List.range 16).flatMap fun j =>
    leBytes 2 (codeOf s (64 * r + 16 * k + j) (tabGet (fun _ => 65535) b (64 * r + 16 * k + j)))

variable {r f : Nat} {b : Tab Nat}

theorem zoneData_due (hon : linkOn s k = true) (hr : r < 36) (hzones : zonesOf s f = some b) (hturn : dataTurn s k r f = true)
    (fits : Bool) : exec (.zoneData k r f fits) s =
      if fits then .next (spiFrame k ([1, BitVec.ofNat 8 r, BitVec.ofNat 8 (f % 256)] ++ rowCodes (takeZoneData k r f s) b k r)
        { takeZoneData k r f s with fresh := (takeZoneData k r f s).fresh + 2304 })
      else .next (postEvent .device 0x0CF9 0x78 1 (dataAt 24 k ||| dataAt 25 r ||| dataAt 28 (f % 256))
        (setFlag Flag.BKL_spi_late (takeZoneData k r f s))) := by
  rw [exec_zoneData, execZoneData]
  simp only [hzones]
  exact if_neg (by simp [hon, hr, hturn])

/-! ### Status (R319, R323) -/

/-- STATUS has been sent to a controller in this scan frame. -/
def sendStatus (k : Nat) (s : State) : State :=
  countEvent 0x78 0x10 1 (emit (.spi k [4, 0]) { s with pipe := { s.pipe with statusSent := k :: s.pipe.statusSent } })

/-- A reply whose CRC fails is ignored and sets its flag. -/
theorem bklStatus_badCrc {st c : Nat} (hon : linkOn s k = true) (hdata : dataWaits s k = false)
    (hfirst : s.pipe.statusSent.contains k = false) (hcrc : crc8 [BitVec.ofNat 8 (st % 256), 0] ≠ c) :
    exec (.bklStatus k st c) s = .next (setFlag Flag.BKL_crc_err (sendStatus k s)) := by
  rw [exec_bklStatus, execBklStatus, if_neg (by simp only [hon, hfirst, hdata]; decide)]
  exact if_pos hcrc

/-- A valid status of 0 is stored, and no event reports it. -/
theorem bklStatus_zero (hon : linkOn s k = true) (hdata : dataWaits s k = false)
    (hfirst : s.pipe.statusSent.contains k = false) : exec (.bklStatus k 0 (crc8 [0, 0])) s =
      .next (wrF Reg.BKL_DRV_STAT (8 * k, 8) 0 (sendStatus k s)) := by
  rw [exec_bklStatus, execBklStatus, if_neg (by simp only [hon, hfirst, hdata]; decide)]
  exact (if_neg fun hbad => hbad rfl).trans (if_neg fun hfault => hfault.2 rfl)

end Link

section Sensors

variable {s : State} {rs : List (Option Nat)}

/-! ### The panel's temperature sensors (R339) -/

/-- Sensor n's turn in a poll. -/
def pollSensor (rs : List (Option Nat)) (s : State) (n : Nat) : State :=
  if sensorOn s n then
    readSensor n (rs.getD n none) (emit (.panelI3c (rdF s (Reg.PIPE_TSENSn_CFG n) Fld.PIPE_TSENSn_CFG_bus)
      (rdF s (Reg.PIPE_TSENSn_CFG n) Fld.PIPE_TSENSn_CFG_addr) (rdF s (Reg.PIPE_TSENSn_CFG n) Fld.PIPE_TSENSn_CFG_pointer)) s)
  else s

theorem panelTempPoll_polls (hrun : s.power.state = .run) :
    exec (.panelTempPoll rs) s = .next (followTemp ((List.range 8).foldl (pollSensor rs) s)) := by
  rw [exec_panelTempPoll, execPanelTempPoll, if_neg fun h => h.1 hrun]
  rfl

theorem pollSensor_off {n : Nat} (hoff : sensorOn s n = false) : pollSensor rs s n = s := if_neg (by simp [hoff])

/-- Sensors that are not enabled are passed over. -/
theorem foldl_pollSensor_off {l : List Nat} (hoff : ∀ n ∈ l, sensorOn s n = false) : l.foldl (pollSensor rs) s = s :=
  foldl_fixed_of_mem fun n hn => pollSensor_off (hoff n hn)

/-- Without a valid sensor, before the first good read, T stays the default. -/
theorem followTemp_unmeasured (htemp : s.pipe.temp = none) (hinvalid : ∀ n, n < 8 → sensorValid s n = false) :
    followTemp s = s := by
  have hnone : (List.range 8).filter (sensorValid s) = [] :=
    List.filter_eq_nil_iff.2 fun n hn => by simp [hinvalid n (List.mem_range.1 hn)]
  simp only [followTemp, hnone, htemp, if_true]

/-- A good read is stored: the sensor's value, that it is valid, and that it has not failed. -/
def storeReading (n v : Nat) (s : State) : State :=
  setSensorValid n true (wrF (Reg.PIPE_TSENSn_VAL n) Fld.PIPE_TSENSn_VAL_value v
    (setPipe { s.pipe with tempFails := tabSet (fun _ => 0) s.pipe.tempFails n 0 } s))

/-- A good read of a sensor that was lost is reported. -/
theorem readSensor_good (n v : Nat) (s : State) : readSensor n (some v) s =
    if tabGet (fun _ => 0) s.pipe.tempFails n = 4 then postEvent .device 0x03F1 0x31 0
      (dataAt 24 n ||| dataAt 28 (pattern 16 (roundShift (signed 16 v) 4))) (storeReading n v s)
    else storeReading n v s := rfl

theorem storeReading_tempCfg (hregs : RegsCanonical s) (n v : Nat) :
    RegsCanonical (storeReading n v s) ∧ rd (storeReading n v s) Reg.PIPE_TEMP_CFG = rd s Reg.PIPE_TEMP_CFG := by
  have hkey : Reg.PIPE_TEMP_CFG ≠ Reg.PIPE_TSENSn_VAL n := by unfold Reg.PIPE_TEMP_CFG Reg.PIPE_TSENSn_VAL; omega
  have hset : RegsCanonical (setPipe { s.pipe with tempFails := tabSet (fun _ => 0) s.pipe.tempFails n 0 } s) := hregs
  have hvalue := canonical_wrF hset (Reg.PIPE_TSENSn_VAL n) Fld.PIPE_TSENSn_VAL_value v
  have hvalid := canonical_wrF hvalue (Reg.PIPE_TSENSn_VAL n) Fld.PIPE_TSENSn_VAL_valid (b2n true)
  refine ⟨canonical_wrF hvalid .., ?_⟩
  rw [storeReading, setSensorValid, rd_wrF_other hvalid _ _ (by decide), rd_wrF_other hvalue _ _ hkey,
    rd_wrF_other hset _ _ hkey]
  rfl

/-- A good read leaves which sensors are enabled. -/
theorem sensorOn_readSensor_good (hregs : RegsCanonical s) (n v m : Nat) :
    sensorOn (readSensor n (some v) s) m = sensorOn s m := by
  obtain ⟨hcanon, hkept⟩ := storeReading_tempCfg hregs n v
  have hread : rd (readSensor n (some v) s) Reg.PIPE_TEMP_CFG = rd s Reg.PIPE_TEMP_CFG := by
    rw [readSensor_good]
    split
    · exact ((postEvent_keepsLow ..).low hcanon _ (by decide) (by decide)).trans hkept
    · exact hkept
  simp only [sensorOn, rdF, hread]

/-- With sensor 0 alone enabled, a poll reads it and passes over the other seven. -/
theorem foldl_pollSensor_first {v : Nat} (hregs : RegsCanonical s)
    (hone : rdF s Reg.PIPE_TEMP_CFG Fld.PIPE_TEMP_CFG_sensor_en = 1) :
    (List.range 8).foldl (pollSensor (some v :: rs)) s = readSensor 0 (some v) (emit (.panelI3c
      (rdF s (Reg.PIPE_TSENSn_CFG 0) Fld.PIPE_TSENSn_CFG_bus) (rdF s (Reg.PIPE_TSENSn_CFG 0) Fld.PIPE_TSENSn_CFG_addr)
      (rdF s (Reg.PIPE_TSENSn_CFG 0) Fld.PIPE_TSENSn_CFG_pointer)) s) := by
  have hon : ∀ n, sensorOn s n = decide (n = 0) := fun n => by
    rw [sensorOn, hone, bitAt, Bool.eq_iff_iff, Nat.testBit_one_eq_true_iff_self_eq_zero, decide_eq_true_iff]
  have hfirst : List.range 8 = 0 :: List.range' 1 7 := by decide
  rw [hfirst, List.foldl_cons, pollSensor, if_pos (by simp [hon]), List.getD_cons_zero]
  refine foldl_pollSensor_off fun n hn => ?_
  have hlater : n ≠ 0 := by have := (List.mem_range'_1.1 hn).1; omega
  rw [sensorOn_readSensor_good (canonical_emit hregs _)]
  exact (hon n).trans (decide_eq_false hlater)

end Sensors

/-- Settles O47: strobes, zone data and status of a controller, then a poll of no sensor and of the first. -/
theorem backlightLink : Obligations.BacklightLink := by
  refine fun s k => ⟨fun a b => bklStrobe_merges, fun a => bklStrobe_lights, fun r f b u hon hr hzones hturn hu => ?sent,
    fun r f b u hon hr hzones hturn hu => ?skipped, fun st c => bklStatus_badCrc, bklStatus_zero,
    fun rs hrun hnone htemp hinvalid => ?idle, fun v rs hregs hrun hone => ?reads⟩
  case sent =>
    subst hu
    exact zoneData_due hon hr hzones hturn true
  case skipped =>
    subst hu
    exact zoneData_due hon hr hzones hturn false
  case idle =>
    have hoff : ∀ n ∈ List.range 8, sensorOn s n = false := fun n _ => by rw [sensorOn, hnone, bitAt, Nat.zero_testBit]
    rw [panelTempPoll_polls hrun, foldl_pollSensor_off hoff, followTemp_unmeasured htemp hinvalid]
  case reads => rw [panelTempPoll_polls hrun, foldl_pollSensor_first hregs hone]

end Sys2Proof.Machine
end

section

/-! ## Dispatch, completion, retirement and deadlines of tiles (R316, R342, R354, R355, R357, R360 to R362, R370, R403) -/

namespace Sys2Proof.Machine

/-! ### The commands' meanings -/

theorem exec_tileDispatch (c x y : Nat) (nx : Bool) (f : Nat) (s : State) :
    exec (.tileDispatch c x y nx f) s = execTileDispatch c x y nx f s := rfl
theorem exec_tileComplete (c x y : Nat) (s : State) : exec (.tileComplete c x y) s = execTileComplete c x y s := rfl
theorem exec_tileRetire (c x y : Nat) (s : State) : exec (.tileRetire c x y) s = execTileRetire c x y s := rfl
theorem exec_tileDeadline (c x y : Nat) (nx : Bool) (s : State) :
    exec (.tileDeadline c x y nx) s = execTileDeadline c x y nx s := rfl
theorem exec_deadlineWarning (c x y : Nat) (s : State) : exec (.deadlineWarning c x y) s = execDeadlineWarning c x y s := rfl
theorem exec_stage6Deadline (s : State) : exec .stage6Deadline s = execStage6Deadline s := rfl

/-! ### Placing jobs leaves the raster -/

theorem foldl_raster {α : Type} {f : State → α → State} (h : ∀ s a, (f s a).raster = s.raster) (l : List α) (s : State) :
    (l.foldl f s).raster = s.raster :=
  List.foldlRecOn (motive := fun t => t.raster = s.raster) l f rfl fun t ht a _ => (h t a).trans ht

theorem enqueueFetch_raster (j : Job) (n : Nat) (s : State) : (enqueueFetch j n s).raster = s.raster := by
  induction n generalizing s with
  | zero => rfl
  | succ n ih =>
    simp only [enqueueFetch]
    split
    · rfl
    · exact ih _

theorem enqueueFetches_raster (c : Nat) (s : State) : (enqueueFetches c s).raster = s.raster :=
  foldl_raster (fun s j => enqueueFetch_raster j j.toFetch s) _ s

theorem padWrite_raster (c a : Nat) (bs : List Byte) (s : State) : (padWrite c a bs s).raster = s.raster := rfl

theorem placeStage_raster (j : Job) (stage ch : Nat) (a : StageArea) (s : State) :
    (placeStage j stage ch a s).raster = s.raster := by
  simp only [placeStage, tick, padWrite_raster]

theorem advanceJob_raster (n : Nat) (j : Job) (s : State) : (advanceJob n j s).raster = s.raster := by
  induction n generalizing j s with
  | zero => rfl
  | succ n ih =>
    unfold advanceJob
    split
    · rfl
    · extract_lets next cell b
      split
      · exact ih _ _
      · split
        · rfl
        · refine (foldl_raster (fun _ _ => ?_) _ _).trans (placeStage_raster ..)
          rfl

/-- A job takes its place with its input fetches queued, and a chain without fetches runs at once. -/
theorem placeJob_raster (c : Nat) (es : List Nat) (base : Nat) (j : Job) (s : State) :
    (placeJob c es base j s).raster = s.raster := by
  unfold placeJob
  extract_lets n placed pipe t
  have hqueued : t.raster = s.raster := enqueueFetches_raster c _
  have hruns : (if n = 0 then advanceJob (chainSteps placed.cell).length placed t else t).raster = s.raster := by
    split
    · exact (advanceJob_raster ..).trans hqueued
    · exact hqueued
  exact hruns

theorem serveReruns_raster (s : State) : (serveReruns s).raster = s.raster := by
  refine foldl_raster (fun s j => ?_) _ s
  dsimp only
  split
  · split
    · exact placeJob_raster ..
    · rfl
  · rfl

theorem scanning_serveReruns (s : State) : scanning (serveReruns s) = scanning s := by
  rw [scanning, serveReruns_raster, scanning]

/-- With no job that waits for an engine, none is placed. -/
theorem serveReruns_none {s : State} (h : s.pipe.reruns = []) : serveReruns s = s := by rw [serveReruns, h, List.foldl_nil]

/-! ### TILE_DISPATCH (R342, R357) -/

section Dispatch

variable {s : State} {c x y f : Nat} {nx : Bool} {sh : Shown}

theorem tileDispatch_frame (hscan : scanning s = true) :
    exec (.tileDispatch 2 x y nx f) s = .next (dispatchFrame x (serveReruns s)) := by
  simp [exec_tileDispatch, execTileDispatch, scanning_serveReruns, hscan]

/-- A tile of this scan frame reads the frame shown; one of the next reads the frame predicted, while no hold plays. -/
theorem tileDispatch_tile (hscan : scanning s = true) (hc : c ≠ 2) (hreruns : s.pipe.reruns = [])
    (hshown : nx = false ∧ sh = s.raster.shown ∨ nx = true ∧ s.hold.play = none ∧ predicted s f = true ∧ sh = .composed f) :
    exec (.tileDispatch c x y nx f) s = .next (dispatchTile c x y nx sh s) := by
  simp only [exec_tileDispatch, execTileDispatch, serveReruns_none hreruns, hscan, hc, Bool.not_true, Bool.false_eq_true,
    if_false]
  obtain ⟨rfl, rfl⟩ | ⟨rfl, hplay, hpredicted, rfl⟩ := hshown
  · rfl
  · simp [hplay, hpredicted]

/-- A job that may not go, or not before another, stays undispatched. -/
theorem dispatchTile_waits (h : (tileCould s c x y nx sh && !tileWaits s c x y nx sh && !(nx && frameFirst s c y)) = false) :
    dispatchTile c x y nx sh s = s := by
  have hstop : (!tileCould s c x y nx sh || tileWaits s c x y nx sh || (nx && frameFirst s c y)) = true := by
    simpa using congrArg not h
  rw [dispatchTile, if_pos hstop]

/-- Without tagging a job starts as it is. -/
theorem dispatchTile_starts (hcould : tileCould s c x y nx sh = true) (hfirst : tileWaits s c x y nx sh = false)
    (hframe : nx = true → frameFirst s c y = false) (htag : rdF s Reg.PERF_STAT Fld.PERF_STAT_tag_k = 0) :
    dispatchTile c x y nx sh s = startJob (if c = 1 then 1 else 0) (tileJob s c x y nx sh) 1 s := by
  have huntagged : tagStep s = (false, s) := if_pos htag
  have hgo : ¬ (!tileCould s c x y nx sh || tileWaits s c x y nx sh || (nx && frameFirst s c y)) = true := by
    simpa [hcould, hfirst] using hframe
  simp only [dispatchTile, if_neg hgo, huntagged, ite_self, Bool.false_eq_true, if_false]

end Dispatch

/-! ### TILE_COMPLETE (R360, R370) -/

section Complete

variable {s : State} {c x y : Nat} {j : Job}

theorem runningJob_is (h : runningJob s c x y = some j) : j.cell = c ∧ j.tc = x ∧ j.tr = y ∧ j.completed = false := by
  have hmatch := List.find?_some h
  simpa [and_assoc] using hmatch

/-- At the end of its chain a job completes where the reference kernels have read no errors. -/
theorem tileComplete_clean (hjob : runningJob s c x y = some j) (hend : (chainSteps c).length ≤ j.at_)
    (hreads : referenceReads s j = []) : exec (.tileComplete c x y) s = .next (completeJob j s) := by
  simp [exec_tileComplete, execTileComplete, hjob, List.getElem?_eq_none hend, hreads]

/-- Where they have read errors, those are met first, and a double-bit error keeps the job from completing. -/
theorem tileComplete_errors {w : Nat × Nat} {ws : List (Nat × Nat)} (hjob : runningJob s c x y = some j)
    (hend : (chainSteps c).length ≤ j.at_) (hreads : referenceReads s j = w :: ws) : exec (.tileComplete c x y) s =
      .next (if (meetErrors j.engine j.engine (w :: ws) s).1 = true then (meetErrors j.engine j.engine (w :: ws) s).2
        else completeJob j (meetErrors j.engine j.engine (w :: ws) s).2) := by
  simp [exec_tileComplete, execTileComplete, hjob, List.getElem?_eq_none hend, hreads]

theorem completeJob_tile (hcell : j.cell ≠ 2) : completeJob j s =
    noteSlack (j.engine / 64) (deadlineLine s (decide (j.sfn ≠ sfn s)) j.cell j.tr - s.raster.line).toNat
      (setJob { j with completed := true } s) := if_neg hcell

end Complete

/-! ### TILE_RETIRE (R355, R360) -/

section Retire

variable {s : State} {c x y : Nat} {j : Job}

/-- A completed job leaves the array: it retires while its key holds, and is discarded otherwise. -/
theorem tileRetire_leaves (hjobs : s.pipe.jobs = [j]) (hcell : j.cell = c) (htc : j.tc = x) (htr : j.tr = y)
    (hsfn : j.sfn = sfn s) (hdone : j.completed = true) (hscan : scanning s = true) (hopen : windowClosed s c = false) :
    exec (.tileRetire c x y) s = .next (serveReruns (if keyHolds s j then retireJob j s else discardJob j s)) := by
  simp only [exec_tileRetire, execTileRetire, hjobs, hcell, htc, htr, hsfn, hdone, hscan, hopen, and_self, decide_true,
    Bool.and_self, List.find?_cons_of_pos, Bool.not_true, Bool.or_self, Bool.false_eq_true, if_false]
  split <;> rfl

theorem tileRetire_closed (hclosed : windowClosed s c = true) : exec (.tileRetire c x y) s = .next s := by
  rw [exec_tileRetire, execTileRetire]
  split
  · rfl
  · rw [if_pos (by rw [hclosed, Bool.or_true])]

end Retire

/-! ### TILE_DEADLINE (R355, R361, R362, R370) -/

section Deadline

variable {s : State} {c x y : Nat} {j : Job}
variable (hscan : scanning s = true) (hexists : tileExists s c x y = true) (hopen : tileDone s c x y = false)
include hscan hexists hopen

/-- The engine of a job that has not completed is stopped, and the tile falls back. -/
theorem tileDeadline_running (hjobs : s.pipe.jobs = [j]) (hcell : j.cell = c) (htc : j.tc = x) (htr : j.tr = y)
    (hsfn : j.sfn = sfn s) (hrun : j.completed = false) : exec (.tileDeadline c x y false) s =
      .next (serveReruns (fallJob j (deadlineCause (stopEngine j.engine 0 s) c j.rerun) j.engine
        (dropJob j (stopEngine j.engine 0 s)))) := by
  simp [exec_tileDeadline, execTileDeadline, hscan, hexists, hopen, b2n, hjobs, hcell, htc, htr, hsfn, hrun]

/-- A job that waits to run again leaves, and the tile falls back. -/
theorem tileDeadline_rerun (hjobs : s.pipe.jobs = []) (hreruns : s.pipe.reruns = [j]) (hcell : j.cell = c) (htc : j.tc = x)
    (htr : j.tr = y) (hsfn : j.sfn = sfn s) : exec (.tileDeadline c x y false) s =
      .next (fallJob j (deadlineCause s c true) j.engine { s with pipe := { s.pipe with reruns := [] } }) := by
  simp [exec_tileDeadline, execTileDeadline, hscan, hexists, hopen, b2n, setPipe, hjobs, hreruns, hcell, htc, htr, hsfn]

/-- A tile that no job holds falls back at its role's first engine. -/
theorem tileDeadline_undispatched (hjobs : s.pipe.jobs = []) (hreruns : s.pipe.reruns = []) :
    exec (.tileDeadline c x y false) s =
      .next (fallBack false c x y (deadlineCause s c false) (firstEngine s (if c = 1 then 1 else 0)) s) := by
  simp [exec_tileDeadline, execTileDeadline, hscan, hexists, hopen, hjobs, hreruns]

end Deadline

/-! ### DEADLINE_WARNING and STAGE6_DEADLINE (R316, R354, R403) -/

section Warnings

variable {s : State} {c x y : Nat} {j : Job}

theorem deadlineWarning_warns (hjob : runningJob s c x y = some j)
    (hwarn : rdF s Reg.ENG_DEADLINE Fld.ENG_DEADLINE_warn ≠ 0) (hgroup : j.group = [])
    (hrun : (engineOf s j.engine).running = true) (hfirst : (engineOf s j.engine).dwarn = false) :
    exec (.deadlineWarning c x y) s =
      .next (setEngine j.engine { engineOf s j.engine with dwarn := true, dwarnPend := true } s) := by
  simp [exec_deadlineWarning, execDeadlineWarning, hjob, hwarn, hgroup, hrun, hfirst]

/-- Without a frame job there is none to stop: the zones of this frame serve the next. -/
theorem stage6Deadline_late (hscan : scanning s = true) (hzones : s.pipe.nextZones = none) (hjobs : s.pipe.jobs = [])
    (hreruns : s.pipe.reruns = []) : exec .stage6Deadline s = .next (setFlag Flag.BKL_zone_late
      { s with pipe := { s.pipe with
        nextZones := some s.pipe.zones, nextDimming := s.pipe.dimming, pubZones := s.pipe.zones } }) := by
  rw [exec_stage6Deadline, execStage6Deadline, if_neg (by simp [hscan, hzones])]
  simp only [hjobs, hreruns, List.find?_nil, List.filter_nil, setPipe]

end Warnings

/-- Settles O43, command by command; each case names what the command finds. -/
theorem tileCommands : Obligations.TileCommands := by
  refine fun s c x y => ⟨fun nx f sh hscan hc hreruns hshown => ?dispatch, fun f nx => tileDispatch_frame,
    fun j hjob hend hc hreads => ?completes, fun j hjobs hcell htc htr hsfn hdone hscan hopen hkey => ?retires,
    fun j hjobs hcell htc htr hsfn hdone hscan hopen hkey => ?discarded, fun j => tileDeadline_running,
    fun j => deadlineWarning_warns, stage6Deadline_late, tileRetire_closed, fun j => tileDeadline_rerun,
    tileDeadline_undispatched, fun j w ws => tileComplete_errors⟩
  case dispatch =>
    rw [tileDispatch_tile hscan hc hreruns hshown]
    exact ⟨fun hcould hfirst hframe htag => congrArg _ (dispatchTile_starts hcould hfirst hframe htag),
      fun hwaits => congrArg _ (dispatchTile_waits hwaits)⟩
  case completes =>
    obtain ⟨hcell, -, htr, -⟩ := runningJob_is hjob
    rw [tileComplete_clean hjob hend hreads, completeJob_tile (hcell ▸ hc), hcell, htr]
  case retires => rw [tileRetire_leaves hjobs hcell htc htr hsfn hdone hscan hopen, if_pos hkey]
  case discarded => rw [tileRetire_leaves hjobs hcell htc htr hsfn hdone hscan hopen, if_neg (by simp [hkey])]

end Sys2Proof.Machine
end

section

/-! ## Steps, and the words of the Eddy instructions (R381 to R383)

A step is exec of the front command. Every Eddy instruction is an issue of its own word with an effect of its own, so what a
fetch that fails does is proved once for all of them. -/

namespace Sys2Proof.Machine

/-- Settles O1: the two cases of the queue. -/
theorem stepRunsFront : Obligations.StepRunsFront :=
  ⟨fun c q s h => by simp only [step, h], fun s h => by simp only [step, h]⟩

/-! ### The round trip of the words -/

/-- Instruction by instruction; a command that is no Eddy instruction has no word. -/
theorem eddyDecode_eddyWord (i : Instr) : Laws.RoundTrip.Statement i := by
  cases i with
  | add => apply Laws.RoundTrip.add
  | sub => apply Laws.RoundTrip.sub
  | and => apply Laws.RoundTrip.and
  | or => apply Laws.RoundTrip.or
  | xor => apply Laws.RoundTrip.xor
  | shl => apply Laws.RoundTrip.shl
  | shr => apply Laws.RoundTrip.shr
  | sra => apply Laws.RoundTrip.sra
  | slt => apply Laws.RoundTrip.slt
  | sltu => apply Laws.RoundTrip.sltu
  | min => apply Laws.RoundTrip.min
  | minu => apply Laws.RoundTrip.minu
  | max => apply Laws.RoundTrip.max
  | maxu => apply Laws.RoundTrip.maxu
  | mul => apply Laws.RoundTrip.mul
  | mulh => apply Laws.RoundTrip.mulh
  | mulhu => apply Laws.RoundTrip.mulhu
  | addi => apply Laws.RoundTrip.addi
  | andi => apply Laws.RoundTrip.andi
  | ori => apply Laws.RoundTrip.ori
  | xori => apply Laws.RoundTrip.xori
  | shli => apply Laws.RoundTrip.shli
  | shri => apply Laws.RoundTrip.shri
  | srai => apply Laws.RoundTrip.srai
  | slti => apply Laws.RoundTrip.slti
  | sltiu => apply Laws.RoundTrip.sltiu
  | lui => apply Laws.RoundTrip.lui
  | jal => apply Laws.RoundTrip.jal
  | jalr => apply Laws.RoundTrip.jalr
  | br => apply Laws.RoundTrip.br
  | lw => apply Laws.RoundTrip.lw
  | lh => apply Laws.RoundTrip.lh
  | lhu => apply Laws.RoundTrip.lhu
  | lb => apply Laws.RoundTrip.lb
  | lbu => apply Laws.RoundTrip.lbu
  | sw => apply Laws.RoundTrip.sw
  | sh => apply Laws.RoundTrip.sh
  | sb => apply Laws.RoundTrip.sb
  | vld => apply Laws.RoundTrip.vld
  | vst => apply Laws.RoundTrip.vst
  | vldb => apply Laws.RoundTrip.vldb
  | aaddH => apply Laws.RoundTrip.aaddH
  | aaddW => apply Laws.RoundTrip.aaddW
  | aaddsH => apply Laws.RoundTrip.aaddsH
  | aaddsW => apply Laws.RoundTrip.aaddsW
  | aswpH => apply Laws.RoundTrip.aswpH
  | aswpW => apply Laws.RoundTrip.aswpW
  | vadd => apply Laws.RoundTrip.vadd
  | vsub => apply Laws.RoundTrip.vsub
  | vadds => apply Laws.RoundTrip.vadds
  | vsubs => apply Laws.RoundTrip.vsubs
  | vaddus => apply Laws.RoundTrip.vaddus
  | vsubus => apply Laws.RoundTrip.vsubus
  | vaddsu => apply Laws.RoundTrip.vaddsu
  | vmin => apply Laws.RoundTrip.vmin
  | vmax => apply Laws.RoundTrip.vmax
  | vminu => apply Laws.RoundTrip.vminu
  | vmaxu => apply Laws.RoundTrip.vmaxu
  | vand => apply Laws.RoundTrip.vand
  | vor => apply Laws.RoundTrip.vor
  | vxor => apply Laws.RoundTrip.vxor
  | vshl => apply Laws.RoundTrip.vshl
  | vshr => apply Laws.RoundTrip.vshr
  | vsra => apply Laws.RoundTrip.vsra
  | vmul => apply Laws.RoundTrip.vmul
  | vmulh => apply Laws.RoundTrip.vmulh
  | vmulhu => apply Laws.RoundTrip.vmulhu
  | vabsdu => apply Laws.RoundTrip.vabsdu
  | vavgu => apply Laws.RoundTrip.vavgu
  | vsel => apply Laws.RoundTrip.vsel
  | vshli => apply Laws.RoundTrip.vshli
  | vshri => apply Laws.RoundTrip.vshri
  | vsrai => apply Laws.RoundTrip.vsrai
  | vaddi => apply Laws.RoundTrip.vaddi
  | vmov => apply Laws.RoundTrip.vmov
  | vclz => apply Laws.RoundTrip.vclz
  | vrcp => apply Laws.RoundTrip.vrcp
  | vrsqrt => apply Laws.RoundTrip.vrsqrt
  | vlane => apply Laws.RoundTrip.vlane
  | vmvs => apply Laws.RoundTrip.vmvs
  | vcmp => apply Laws.RoundTrip.vcmp
  | pand => apply Laws.RoundTrip.pand
  | por => apply Laws.RoundTrip.por
  | pxor => apply Laws.RoundTrip.pxor
  | pandn => apply Laws.RoundTrip.pandn
  | pset => apply Laws.RoundTrip.pset
  | pget => apply Laws.RoundTrip.pget
  | vmac => apply Laws.RoundTrip.vmac
  | aclr => apply Laws.RoundTrip.aclr
  | aset => apply Laws.RoundTrip.aset
  | vrnd => apply Laws.RoundTrip.vrnd
  | lut1 => apply Laws.RoundTrip.lut1
  | lut2 => apply Laws.RoundTrip.lut2
  | mvq => apply Laws.RoundTrip.mvq
  | bar => apply Laws.RoundTrip.bar
  | wait => apply Laws.RoundTrip.wait
  | csrr => apply Laws.RoundTrip.csrr
  | csrw => apply Laws.RoundTrip.csrw
  | eret => apply Laws.RoundTrip.eret
  | halt => apply Laws.RoundTrip.halt
  | _ => exact fun _ _ h => nomatch h

/-- Settles O60: the round trip of each instruction. -/
theorem eddyRoundTrip : Obligations.EddyRoundTrip := eddyDecode_eddyWord

/-! ### Fetches that fail (R382) -/

/-- An Eddy instruction is issued by its engine, whatever its effect. -/
theorem exec_issues {i : Instr} (h : eddyWord i ≠ none) (s : State) : ∃ f, exec i s = issue (eddyEngine i) i f s := by
  cases i with
  | add | sub | and | or | xor | shl | shr | sra | slt | sltu | min | minu | max | maxu | mul | mulh | mulhu |
    addi | andi | ori | xori | shli | shri | srai | slti | sltiu | lui | jal | jalr | br | lw | lh | lhu | lb |
    lbu | sw | sh | sb | vld | vst | vldb | aaddH | aaddW | aaddsH | aaddsW | aswpH | aswpW | vadd | vsub | vadds
    | vsubs | vaddus | vsubus | vaddsu | vmin | vmax | vminu | vmaxu | vand | vor | vxor | vshl | vshr | vsra |
    vmul | vmulh | vmulhu | vabsdu | vavgu | vsel | vshli | vshri | vsrai | vaddi | vmov | vclz | vrcp | vrsqrt |
    vlane | vmvs | vcmp | pand | por | pxor | pandn | pset | pget | vmac | aclr | aset | vrnd | lut1 | lut2 | mvq
    | bar | wait | csrr | csrw | eret | halt => exact ⟨_, rfl⟩
  | _ => exact absurd rfl h

theorem issue_outside {s : State} {e : Nat} (h : nextWord s e = some none) (i : Instr) (f : State → State) :
    issue e i f s = .next (kernelFault e 2 s) := by simp only [issue, h]

theorem issue_other {s : State} {e : Nat} {i : Instr} {w : Word} (h : nextWord s e = some (some w)) (hw : eddyWord i ≠ some w)
    (f : State → State) : issue e i f s = .next s := by simp only [issue, h, if_neg hw]

theorem issue_stalled {s : State} {e : Nat} (h : nextWord s e = none) (i : Instr) (f : State → State) :
    issue e i f s = .next s := by simp only [issue, h]

/-- Settles O59: each outcome of the fetch but the instruction's own word. -/
theorem fetchFaults : Obligations.FetchFaults := by
  intro s i hi
  obtain ⟨f, hf⟩ := exec_issues hi s
  rw [hf]
  exact ⟨fun h => issue_outside h i f, fun w h hw => issue_other h hw f, fun h => issue_stalled h i f⟩

end Sys2Proof.Machine
end
section

/-! ## Scalar instructions (R383, R384) -/

namespace Sys2Proof.Machine

section Scalar

variable {s : State} {i : Instr}

/-! ### What an instruction that goes on leaves -/

/-- The results that the model and the rule spell alike. -/
theorem issue_advance (h : Issues s i) (f : Engine → Engine) : issue (eddyEngine i) i (advance (eddyEngine i) f) s =
    .next (goTo (eddyEngine i) ((engineOf s (eddyEngine i)).pc + 4) (f (engineOf s (eddyEngine i))) s) :=
  issue_goTo h rfl

/-- rd takes the value that the operation gives. -/
theorem issue_scalarOp (h : Issues s i) {rd ra rb : BitVec 5} {f : BitVec 32 → BitVec 32 → BitVec 32} {x : BitVec 32}
    (hx : f ((engineOf s (eddyEngine i)).sreg ra) ((engineOf s (eddyEngine i)).sreg rb) = x) :
    issue (eddyEngine i) i (scalarOp (eddyEngine i) rd ra rb f) s = .next (goTo (eddyEngine i)
      ((engineOf s (eddyEngine i)).pc + 4) ((engineOf s (eddyEngine i)).setS rd x) s) :=
  hx ▸ issue_advance h _

theorem issue_scalarImm (h : Issues s i) {rd ra : BitVec 5} {f : BitVec 32 → BitVec 32} {x : BitVec 32}
    (hx : f ((engineOf s (eddyEngine i)).sreg ra) = x) :
    issue (eddyEngine i) i (scalarImm (eddyEngine i) rd ra f) s = .next (goTo (eddyEngine i)
      ((engineOf s (eddyEngine i)).pc + 4) ((engineOf s (eddyEngine i)).setS rd x) s) :=
  hx ▸ issue_advance h _

/-- A fault of the instruction itself ends it within its bank cycle. -/
theorem issue_faults (h : Issues s i) {f : State → State} {c : Nat} (hf : ∀ s, f s = kernelFault (eddyEngine i) c s) :
    issue (eddyEngine i) i f s = .next (inCycle (eddyEngine i) (kernelFault (eddyEngine i) c) s) := by
  rw [issue_runs h, show f = kernelFault (eddyEngine i) c from funext hf]

end Scalar

/-! ### The results of R384 as numbers -/

section Results

variable (a b : BitVec 32)

theorem shiftLeft_eq_mul (n : Nat) : a <<< n = BitVec.ofNat 32 (a.toNat * 2 ^ n) :=
  BitVec.eq_of_toNat_eq (by rw [BitVec.toNat_shiftLeft, BitVec.toNat_ofNat, Nat.shiftLeft_eq])

theorem ushiftRight_eq_div (n : Nat) : a >>> n = BitVec.ofNat 32 (a.toNat / 2 ^ n) := by
  rw [← Nat.shiftRight_eq_div_pow, ← BitVec.toNat_ushiftRight, BitVec.ofNat_toNat, BitVec.setWidth_eq]

theorem sshiftRight_eq_div (n : Nat) : a.sshiftRight n = BitVec.ofInt 32 (a.toInt / (2 ^ n : Nat)) := by
  rw [BitVec.sshiftRight, Int.shiftRight_eq_div_pow]

theorem flag32_slt : flag32 (a.slt b) = if a.toInt < b.toInt then 1 else 0 := by simp [flag32, BitVec.slt]

theorem flag32_ult : flag32 (a.ult b) = if a.toNat < b.toNat then 1 else 0 := by simp [flag32, BitVec.ult]

/-- A signed minimum: of equal operands either is the value. -/
theorem ite_slt_left : (if a.slt b then a else b) = if a.toInt ≤ b.toInt then a else b := by
  by_cases h : a.toInt = b.toInt
  · rw [BitVec.eq_of_toInt_eq h, ite_self, ite_self]
  · simp only [BitVec.slt, decide_eq_true_eq, show a.toInt < b.toInt ↔ a.toInt ≤ b.toInt by omega]

theorem ite_slt_right : (if a.slt b then b else a) = if a.toInt ≤ b.toInt then b else a := by
  by_cases h : a.toInt = b.toInt
  · rw [BitVec.eq_of_toInt_eq h, ite_self, ite_self]
  · simp only [BitVec.slt, decide_eq_true_eq, show a.toInt < b.toInt ↔ a.toInt ≤ b.toInt by omega]

theorem ite_ult_left : (if a.ult b then a else b) = BitVec.ofNat 32 (min a.toNat b.toNat) := by
  simp only [BitVec.ult, decide_eq_true_eq]
  split
  · rw [min_eq_left (by omega), BitVec.ofNat_toNat, BitVec.setWidth_eq]
  · rw [min_eq_right (by omega), BitVec.ofNat_toNat, BitVec.setWidth_eq]

theorem ite_ult_right : (if a.ult b then b else a) = BitVec.ofNat 32 (max a.toNat b.toNat) := by
  simp only [BitVec.ult, decide_eq_true_eq]
  split
  · rw [max_eq_right (by omega), BitVec.ofNat_toNat, BitVec.setWidth_eq]
  · rw [max_eq_left (by omega), BitVec.ofNat_toNat, BitVec.setWidth_eq]

theorem mul_eq_ofNat : a * b = BitVec.ofNat 32 (a.toNat * b.toNat) :=
  BitVec.eq_of_toNat_eq (by rw [BitVec.toNat_mul, BitVec.toNat_ofNat])

theorem highWord_natCast (p : Nat) : highWord p = BitVec.ofNat 32 (p / 4294967296) := by
  rw [highWord, ← BitVec.ofInt_natCast]
  norm_cast

theorem add_signExtend (imm : BitVec 15) : a + imm.signExtend 32 = BitVec.ofInt 32 (a.toInt + imm.toInt) := by
  rw [BitVec.ofInt_add, BitVec.ofInt_toInt, BitVec.signExtend]

theorem toInt_signExtend_imm (imm : BitVec 15) : (imm.signExtend 32).toInt = imm.toInt :=
  BitVec.toInt_signExtend_of_le (by decide)

theorem zeroExtend_imm (imm : BitVec 15) : imm.zeroExtend 32 = BitVec.ofNat 32 imm.toNat := (BitVec.ofNat_toNat ..).symm

theorem lui_eq_mul (i : BitVec 20) : i.zeroExtend 32 <<< 12 = BitVec.ofNat 32 (4096 * i.toNat) := by
  have hi := i.isLt
  refine BitVec.eq_of_toNat_eq ?_
  rw [BitVec.toNat_shiftLeft, BitVec.toNat_ofNat, Nat.shiftLeft_eq, BitVec.zeroExtend, BitVec.toNat_setWidth]
  omega

end Results

/-! ### Branches -/

/-- The conditions of R384, by their numbers. -/
theorem condHolds_eq_some {c : BitVec 3} {b : Bool} {x y : BitVec 32}
    (h : c = 0 ∧ (b = true ↔ x = y) ∨ c = 1 ∧ (b = true ↔ x ≠ y) ∨ c = 2 ∧ (b = true ↔ x.toInt < y.toInt) ∨
      c = 3 ∧ (b = true ↔ y.toInt ≤ x.toInt) ∨ c = 4 ∧ (b = true ↔ x.toNat < y.toNat) ∨
      c = 5 ∧ (b = true ↔ y.toNat ≤ x.toNat)) : condHolds c x y = some b := by
  rcases h with ⟨rfl, h⟩ | ⟨rfl, h⟩ | ⟨rfl, h⟩ | ⟨rfl, h⟩ | ⟨rfl, h⟩ | ⟨rfl, h⟩ <;>
    exact congrArg some (Bool.eq_iff_iff.2 (by simp [h, BitVec.slt, BitVec.ult]))

theorem condHolds_undefined {c : BitVec 3} (h : 6 ≤ c.toNat) (x y : BitVec 32) : condHolds c x y = none := by
  obtain h | h : c.toNat = 6 ∨ c.toNat = 7 := by omega
  · simp only [condHolds, h]
  · simp only [condHolds, h]

theorem branch_taken {s : State} {e : Nat} {c : BitVec 3} {ra rb : BitVec 5} {b : Bool}
    (h : condHolds c ((engineOf s e).sreg ra) ((engineOf s e).sreg rb) = some b) (off : BitVec 12) :
    branch e c ra rb off s = goTo e (if b then jumpTarget (engineOf s e).pc off.toInt else (engineOf s e).pc + 4)
      (engineOf s e) s := by
  simp only [branch, h]

theorem branch_undefined {c : BitVec 3} (h : 6 ≤ c.toNat) (e : Nat) (ra rb : BitVec 5) (off : BitVec 12) (s : State) :
    branch e c ra rb off s = kernelFault e 1 s := by
  simp only [branch, condHolds_undefined h]

/-! ### The helpers of R384 -/

theorem roundShift_zero (x : Int) : roundShift x 0 = x := if_pos rfl

theorem clz16_bounds {x : Nat} (h0 : 0 < x) (h : x < 65536) :
    clz16 x ≤ 15 ∧ 2 ^ (15 - clz16 x) ≤ x ∧ x < 2 ^ (16 - clz16 x) := by
  have hlog : Nat.log2 x < 16 := (Nat.log2_lt (by omega)).2 h
  have hclz : clz16 x = 15 - Nat.log2 x := by rw [clz16, Nat.mod_eq_of_lt h, if_neg (by omega)]
  rw [hclz, show 15 - (15 - Nat.log2 x) = Nat.log2 x by omega, show 16 - (15 - Nat.log2 x) = Nat.log2 x + 1 by omega]
  exact ⟨by omega, Nat.log2_self_le (by omega), Nat.lt_log2_self⟩

/-! ### A target outside the code (R382) -/

theorem fetchWord_outside {k : Kernel} {pc : Nat} (h : k.codeBytes < pc / 4 * 4 + 4) (e hd : Nat) : fetchWord k e hd pc = none :=
  if_neg (by omega)

theorem nextWord_of_canIssue {s : State} {e : Nat} {k : Kernel} (h : canIssue s e = some k) :
    nextWord s e = some (fetchWord k e (engineOf s e).handle (engineOf s e).pc) := by rw [nextWord, h]; rfl

/-- Settles O48: each result is the operation's value as a number; then branches, helpers and targets. -/
theorem eddyScalars : Obligations.EddyScalars := by
  refine ⟨?registers, ?immediates, ⟨roundShift_zero, fun _ => rfl, fun _ _ => rfl, rfl, fun _ => clz16_bounds⟩, ?outside⟩
  case registers =>
    rintro s e v rd ra rb rfl
    exact ⟨fun h => issue_scalarOp h rfl, fun h => issue_scalarOp h rfl, fun h => issue_scalarOp h rfl,
      fun h => issue_scalarOp h rfl, fun h => issue_scalarOp h rfl, fun h => issue_scalarOp h (shiftLeft_eq_mul ..),
      fun h => issue_scalarOp h (ushiftRight_eq_div ..), fun h => issue_scalarOp h (sshiftRight_eq_div ..),
      fun h => issue_scalarOp h (flag32_slt ..), fun h => issue_scalarOp h (flag32_ult ..),
      fun h => issue_scalarOp h (ite_slt_left ..), fun h => issue_scalarOp h (ite_ult_left ..),
      fun h => issue_scalarOp h (ite_slt_right ..), fun h => issue_scalarOp h (ite_ult_right ..),
      fun h => issue_scalarOp h (mul_eq_ofNat ..), fun h => issue_scalarOp h rfl,
      fun h => issue_scalarOp h (highWord_natCast _)⟩
  case immediates =>
    rintro s e v rd ra imm rfl
    refine ⟨fun h => issue_scalarImm h (add_signExtend ..), fun h => issue_scalarImm h (congrArg _ (zeroExtend_imm imm)),
      fun h => issue_scalarImm h (congrArg _ (zeroExtend_imm imm)),
      fun h => issue_scalarImm h (congrArg _ (zeroExtend_imm imm)), fun h => issue_scalarImm h ?slti, fun h => issue_scalarImm h (flag32_ult ..),
      fun n h => issue_scalarImm h (shiftLeft_eq_mul ..), fun n h => issue_scalarImm h (ushiftRight_eq_div ..),
      fun n h => issue_scalarImm h (sshiftRight_eq_div ..), fun i h => issue_goTo h ?lui, fun i h => issue_goTo h rfl,
      fun h => issue_goTo h rfl, ?taken, fun rb c off h hc => issue_faults h (branch_undefined hc e ra rb off)⟩
    case slti => exact (flag32_slt ..).trans (by rw [toInt_signExtend_imm]; rfl)
    case lui => rw [← lui_eq_mul]; rfl
    case taken =>
      rintro rb c off b x y h rfl rfl hc
      exact issue_goTo h (branch_taken (condHolds_eq_some hc) off)
  case outside =>
    intro s i k hi hk hout
    obtain ⟨f, hf⟩ := exec_issues hi s
    rw [hf]
    exact issue_outside ((nextWord_of_canIssue hk).trans (congrArg some (fetchWord_outside hout ..))) i f

end Sys2Proof.Machine
end

section

/-! ## Vector operations (R388, R390), predicates (R389) and accumulators (R391, R392) -/

namespace Sys2Proof.Machine

/-! ### Lanes -/

theorem vlane_lt (x : BitVec 256) (i : Nat) : vlane x i < 65536 := Nat.mod_lt _ (by decide)

theorem activeLane_eq (p : BitVec 16) (i : Nat) : activeLane p i = p.getLsbD i := rfl

/-- The number that the first n lanes spell. -/
def lanesBelow (f : Nat → Nat) (n : Nat) : Nat := (List.range n).foldl (fun x i => x + f i % 65536 * 2 ^ (16 * i)) 0

theorem lanesBelow_succ (f : Nat → Nat) (n : Nat) :
    lanesBelow f (n + 1) = lanesBelow f n + f n % 65536 * 2 ^ (16 * n) := by
  simp only [lanesBelow, List.range_succ, List.foldl_append, List.foldl_cons, List.foldl_nil]

theorem lanesBelow_lt (f : Nat → Nat) (n : Nat) : lanesBelow f n < 2 ^ (16 * n) := by
  induction n with
  | zero => exact Nat.one_pos
  | succ n ih =>
    have hlane := Nat.mul_le_mul_right (2 ^ (16 * n)) (Nat.le_of_lt_succ (Nat.mod_lt (f n) (y := 65536) (by decide)))
    rw [lanesBelow_succ, Nat.mul_succ, Nat.pow_add]
    omega

/-- A lane below n reads back; the lanes above it are whole multiples. -/
theorem bitsAt_lanesBelow (f : Nat → Nat) {i n : Nat} (h : i < n) : bitsAt (lanesBelow f n) (16 * i) 16 = f i % 65536 := by
  induction n with
  | zero => omega
  | succ n ih =>
    unfold bitsAt at ih ⊢
    rw [lanesBelow_succ]
    obtain rfl | hi : i = n ∨ i < n := by omega
    · rw [Nat.add_mul_div_right _ _ (Nat.two_pow_pos _), Nat.div_eq_of_lt (lanesBelow_lt f i), Nat.zero_add]
      exact Nat.mod_mod ..
    · obtain ⟨k, rfl⟩ := Nat.exists_eq_add_of_lt hi
      rw [show 2 ^ (16 * (i + k + 1)) = 2 ^ 16 * 2 ^ (16 * k) * 2 ^ (16 * i) by rw [← Nat.pow_add, ← Nat.pow_add]; congr 1; omega,
        ← Nat.mul_assoc, Nat.add_mul_div_right _ _ (Nat.two_pow_pos _), Nat.mul_left_comm, Nat.add_mul_mod_self_left]
      exact ih hi

theorem vlane_ofLanes (f : Nat → Nat) {i : Nat} (h : i < 16) : vlane (ofLanes f) i = f i % 65536 := by
  have hof : ofLanes f = BitVec.ofNat 256 (lanesBelow f 16) := rfl
  rw [vlane, hof, BitVec.toNat_ofNat, Nat.mod_eq_of_lt (lanesBelow_lt f 16), bitsAt_lanesBelow f h]

/-! ### Writing active lanes (R388) -/

/-- Vector registers and st.sat are all that a write of lanes changes. The two are variables here, so that the kernel, which
compares the engines field by field, computes no lane. -/
theorem Engine.setV_sat (v : Engine) (i : BitVec 5) (x : BitVec 256) (b : Bool) :
    { v.setV i x with sat := b } = { v with v := tabSet (fun _ => 0) v.v i.toNat x, sat := b } := rfl

theorem Engine.frame_of_v_sat (v : Engine) (t : Tab (BitVec 256)) (b : Bool) :
    { v with v := t, sat := b }.s = v.s ∧ { v with v := t, sat := b }.p = v.p ∧ { v with v := t, sat := b }.a = v.a ∧
      { v with v := t, sat := b }.data = v.data := ⟨rfl, rfl, rfl, rfl⟩

section WriteLanes

variable (v : Engine) (vd : BitVec 5) (p : BitVec 16) (f : Nat → Nat × Bool)

theorem Engine.writeLanes_eq : v.writeLanes vd p f = { v with
    v := tabSet (fun _ => 0) v.v vd.toNat (blendLanes p (v.vreg vd) fun i => (f i).1),
    sat := v.sat || (activeLanes p).any fun i => (f i).2 } := by
  unfold Engine.writeLanes
  exact v.setV_sat ..

theorem Engine.writeLanes_frame : (v.writeLanes vd p f).s = v.s ∧ (v.writeLanes vd p f).p = v.p ∧
    (v.writeLanes vd p f).a = v.a ∧ (v.writeLanes vd p f).data = v.data := by
  rw [Engine.writeLanes_eq]
  exact v.frame_of_v_sat ..

theorem sat_writeLanes :
    (v.writeLanes vd p f).sat = (v.sat || (List.range 16).any fun k => p.getLsbD k && (f k).2) := by
  simp only [Engine.writeLanes_eq, activeLanes, List.any_filter, activeLane_eq]

variable {v} (hv : keysAbove 0 v.v = true)
include hv

theorem vreg_writeLanes (j : BitVec 5) : (v.writeLanes vd p f).vreg j =
    if j = vd then blendLanes p (v.vreg vd) fun i => (f i).1 else v.vreg j := by
  rw [Engine.vreg, Engine.writeLanes_eq, tabGet_set _ hv, ← Engine.vreg]
  simp only [BitVec.toNat_inj]

theorem vlane_writeLanes {i : Nat} (hi : i < 16) : vlane ((v.writeLanes vd p f).vreg vd) i =
    if p.getLsbD i then (f i).1 % 65536 else vlane (v.vreg vd) i := by
  rw [vreg_writeLanes vd p f hv, if_pos rfl, blendLanes, vlane_ofLanes _ hi, activeLane_eq, apply_ite (· % 65536),
    Nat.mod_eq_of_lt (vlane_lt ..)]

end WriteLanes

/-! ### Results of 16 bits -/

theorem plain_natCast (n : Nat) : plain n = (n % 65536, false) := by
  simp only [plain, pattern, Prod.mk.injEq, and_true]
  omega

theorem plain_of_lt {n : Nat} (h : n < 65536) : plain n = (n, false) := by rw [plain_natCast, Nat.mod_eq_of_lt h]

theorem pattern_signed {n : Nat} (h : n < 65536) : pattern 16 (signed 16 n) = n := by
  simp only [pattern, signed]
  omega

theorem plain_sub {a b : Nat} (hb : b < 65536) : plain ((a : Int) - b) = ((a + 65536 - b) % 65536, false) := by
  simp only [plain, pattern, Prod.mk.injEq, and_true]
  omega

theorem plain_min {a b : Nat} (ha : a < 65536) (hb : b < 65536) :
    plain (min (sx16 a) (sx16 b)) = (if signed 16 a ≤ signed 16 b then a else b, false) := by
  have hmin : min (sx16 a) (sx16 b) = signed 16 (if signed 16 a ≤ signed 16 b then a else b) := by
    split
    · next h => exact min_eq_left h
    · next h => exact min_eq_right (le_of_not_ge h)
  rw [hmin, plain, pattern_signed (by split <;> assumption)]

theorem plain_max {a b : Nat} (ha : a < 65536) (hb : b < 65536) :
    plain (max (sx16 a) (sx16 b)) = (if signed 16 a ≤ signed 16 b then b else a, false) := by
  have hmax : max (sx16 a) (sx16 b) = signed 16 (if signed 16 a ≤ signed 16 b then b else a) := by
    split
    · next h => exact max_eq_right h
    · next h => exact max_eq_left (le_of_not_ge h)
  rw [hmax, plain, pattern_signed (by split <;> assumption)]

theorem plain_absDiff {a b : Nat} (ha : a < 65536) (hb : b < 65536) :
    plain ((max a b - min a b : Nat) : Int) = (((a : Int) - b).natAbs, false) := by
  rw [plain_of_lt (by omega), show max a b - min a b = ((a : Int) - b).natAbs by omega]

theorem heldU_add (a b : Nat) : heldU ((a : Int) + b) = (min 65535 (a + b), decide (65535 < a + b)) := by
  have hsum : satU16 ((a : Int) + b) = min 65535 (a + b) := by
    unfold satU16 clampI
    split_ifs <;> omega
  have hheld : ((satU16 ((a : Int) + b) : Int) ≠ a + b) ↔ 65535 < a + b := by omega
  rw [heldU, decide_eq_decide.2 hheld, hsum]

theorem heldU_sub {a b : Nat} (ha : a < 65536) : heldU ((a : Int) - b) = (a - b, decide (a < b)) := by
  have hdiff : satU16 ((a : Int) - b) = a - b := by
    unfold satU16 clampI
    split_ifs <;> omega
  have hheld : ((satU16 ((a : Int) - b) : Int) ≠ a - b) ↔ a < b := by omega
  rw [heldU, decide_eq_decide.2 hheld, hdiff]

theorem satS_eq (x : Int) : satS 16 x = max (-32768) (min 32767 x) := by
  unfold satS clampI
  split_ifs <;> omega

theorem satU16_eq (x : Int) : (satU16 x : Int) = max 0 (min 65535 x) := by
  unfold satU16 clampI
  split_ifs <;> omega

theorem signed_pattern {x : Int} (hlow : -32768 ≤ x) (hhigh : x ≤ 32767) : signed 16 (pattern 16 x) = x := by
  simp only [pattern, signed]
  omega

theorem pattern_lt (x : Int) : pattern 16 x < 65536 := by
  unfold pattern
  omega

/-- A result held to s16 and one held to u16, with the flag that shows it. -/
theorem held_bounds (x : Int) : (heldS x).1 < 65536 ∧ signed 16 (heldS x).1 = max (-32768) (min 32767 x) ∧
    ((heldS x).2 = true ↔ x < -32768 ∨ 32767 < x) ∧ ((heldU x).1 : Int) = max 0 (min 65535 x) ∧
    ((heldU x).2 = true ↔ x < 0 ∨ 65535 < x) := by
  have hs := satS_eq x
  have hu := satU16_eq x
  refine ⟨pattern_lt _, (signed_pattern (by omega) (by omega)).trans hs, ?_, hu, ?_⟩
  · rw [heldS, decide_eq_true_eq]
    omega
  · rw [heldU, decide_eq_true_eq]
    omega

section Lanes

variable {s : State} {i : Instr}

/-- Active lanes take what the operation gives of two lanes. -/
theorem issue_laneOp (h : Issues s i) {pg : BitVec 3} {vd va vb : BitVec 5} {f : Nat → Nat → Nat × Bool} {g : Nat → Nat × Bool}
    (hg : ∀ n, vlane ((engineOf s (eddyEngine i)).vreg va) n < 65536 → vlane ((engineOf s (eddyEngine i)).vreg vb) n < 65536 →
      f (vlane ((engineOf s (eddyEngine i)).vreg va) n) (vlane ((engineOf s (eddyEngine i)).vreg vb) n) = g n) :
    issue (eddyEngine i) i (laneOp (eddyEngine i) pg vd va vb f) s = .next (goTo (eddyEngine i)
      ((engineOf s (eddyEngine i)).pc + 4)
      ((engineOf s (eddyEngine i)).writeLanes vd ((engineOf s (eddyEngine i)).preg pg) g) s) :=
  (funext fun n => hg n (vlane_lt ..) (vlane_lt ..) : _ = g) ▸ issue_advance h _

theorem issue_laneUn (h : Issues s i) {pg : BitVec 3} {vd va : BitVec 5} {f : Nat → Nat → Nat × Bool} {g : Nat → Nat × Bool}
    (hg : ∀ n, vlane ((engineOf s (eddyEngine i)).vreg va) n < 65536 →
      f n (vlane ((engineOf s (eddyEngine i)).vreg va) n) = g n) :
    issue (eddyEngine i) i (laneUn (eddyEngine i) pg vd va f) s = .next (goTo (eddyEngine i)
      ((engineOf s (eddyEngine i)).pc + 4)
      ((engineOf s (eddyEngine i)).writeLanes vd ((engineOf s (eddyEngine i)).preg pg) g) s) :=
  (funext fun n => hg n (vlane_lt ..) : _ = g) ▸ issue_advance h _

end Lanes

theorem laneShr_of_lt {a : Nat} (ha : a < 65536) (n : Nat) : laneShr a n = (a / 2 ^ n, false) :=
  plain_of_lt ((Nat.div_le_self ..).trans_lt ha)

/-- Settles O52: the result of each operation, then the writing of lanes and the two saturations. -/
theorem eddyVectors : Obligations.EddyVectors := by
  refine ⟨?operations, fun v vd j p f i hv hi => ?lanes, held_bounds⟩
  case lanes =>
    obtain ⟨hs, hp, ha, hdata⟩ := v.writeLanes_frame vd p f
    exact ⟨vlane_writeLanes vd p f hv hi, fun hj => (vreg_writeLanes vd p f hv j).trans (if_neg hj), hs, hp, ha, hdata,
      sat_writeLanes v vd p f⟩
  rintro s e v pg vd va vb a b rfl rfl rfl
  refine ⟨fun h => issue_laneOp h fun _ _ _ => plain_natCast _, fun h => issue_laneOp h fun _ _ hb => plain_sub hb,
    fun h => issue_laneOp h fun _ _ _ => rfl, fun h => issue_laneOp h fun _ _ _ => rfl,
    fun h => issue_laneOp h fun _ _ _ => heldU_add .., fun h => issue_laneOp h fun _ ha _ => heldU_sub ha,
    fun h => issue_laneOp h fun _ _ _ => rfl, fun h => issue_laneOp h fun _ ha hb => plain_min ha hb,
    fun h => issue_laneOp h fun _ ha hb => plain_max ha hb, fun h => issue_laneOp h fun _ ha hb => plain_of_lt (by omega),
    fun h => issue_laneOp h fun _ ha hb => plain_of_lt (by omega),
    fun h => issue_laneOp h fun _ ha hb => plain_absDiff ha hb, fun h => issue_laneOp h fun _ ha hb => plain_of_lt (by omega),
    fun h => issue_laneOp h fun _ _ _ => rfl, fun h => issue_laneOp h fun _ _ _ => rfl,
    fun h => issue_laneOp h fun _ _ _ => rfl, fun h => issue_laneOp h fun _ _ _ => plain_natCast _,
    fun h => issue_laneOp h fun _ ha _ => laneShr_of_lt ha _, fun h => issue_laneOp h fun _ _ _ => rfl,
    fun h => issue_laneOp h fun _ _ _ => plain_natCast _, fun h => issue_laneOp h fun _ _ _ => rfl,
    fun h => issue_laneOp h fun _ ha hb => plain_of_lt (Nat.div_lt_of_lt_mul (Nat.mul_lt_mul'' ha hb)),
    fun h => issue_goTo h rfl, fun n h => issue_laneUn h fun _ _ => plain_natCast _,
    fun n h => issue_laneUn h fun _ ha => laneShr_of_lt ha _, fun n h => issue_laneUn h fun _ _ => rfl,
    fun n h => issue_laneUn h fun _ _ => rfl⟩

end Sys2Proof.Machine
end

section

/-! ## Vector operations of one operand (R390), compares (R389), accumulators and lookups (R391 to R394) -/

namespace Sys2Proof.Machine

/-! ### Leading zeros and square roots (R390) -/

theorem length_filter_range_lt (m : Nat) : ∀ n, ((List.range n).filter fun i => decide (i < m)).length = min m n
  | 0 => (Nat.min_zero m).symm
  | n + 1 => by
    rw [List.range_succ, List.filter_append, List.length_append, length_filter_range_lt m n, List.filter_singleton]
    by_cases h : n < m
    · rw [decide_eq_true h, cond_true, List.length_singleton]
      omega
    · rw [decide_eq_false h, cond_false, List.length_nil]
      omega

theorem leadZeros_eq {x : Nat} (h : x < 65536) : leadZeros x = if x = 0 then 16 else 15 - Nat.log2 x := by
  split
  · next h0 => rw [h0]; rfl
  · next h0 =>
    have hlog : Nat.log2 x < 16 := (Nat.log2_lt h0).2 h
    have hbits : ∀ i, decide (2 ^ i ≤ x) = decide (i < Nat.log2 x + 1) := fun i =>
      decide_eq_decide.2 (by rw [← Nat.le_log2 h0]; omega)
    simp only [leadZeros, hbits, length_filter_range_lt]
    omega

/-- The root found so far after k bits, the highest first. -/
def rootBits (m k : Nat) : Nat :=
  (List.range k).foldl (fun n i => if (n + 2 ^ (17 - i)) ^ 2 ≤ m then n + 2 ^ (17 - i) else n) 0

/-- The root lies less than one unit of the last bit tried above what has been found. -/
theorem rootBits_bounds {m : Nat} (h : m < 2 ^ 36) {k : Nat} (hk : k ≤ 18) :
    rootBits m k ^ 2 ≤ m ∧ m < (rootBits m k + 2 ^ (18 - k)) ^ 2 := by
  induction k with
  | zero => exact ⟨(Nat.zero_pow (by decide)).trans_le m.zero_le, h.trans_eq (by norm_num [rootBits])⟩
  | succ k ih =>
    obtain ⟨hlow, hhigh⟩ := ih (by omega)
    have hunit : 2 ^ (18 - k) = 2 ^ (17 - k) + 2 ^ (17 - k) := by
      rw [show 18 - k = 17 - k + 1 by omega, Nat.pow_succ, Nat.mul_two]
    have hstep : rootBits m (k + 1) = if (rootBits m k + 2 ^ (17 - k)) ^ 2 ≤ m then rootBits m k + 2 ^ (17 - k)
        else rootBits m k := by
      rw [rootBits, List.range_succ, List.foldl_append]
      rfl
    rw [hstep, show 18 - (k + 1) = 17 - k by omega]
    split
    · next hle => exact ⟨hle, by rw [Nat.add_assoc, ← hunit]; exact hhigh⟩
    · next hlt => exact ⟨hlow, Nat.lt_of_not_le hlt⟩

theorem isqrt36_eq_sqrt {m : Nat} (h : m < 2 ^ 36) : isqrt36 m = Nat.sqrt m := by
  have hroot : isqrt36 m = rootBits m 18 := rfl
  rw [hroot]
  exact Nat.eq_sqrt'.2 (rootBits_bounds h le_rfl)

theorem rsqrt_eq (x : Nat) : rsqrt x =
    if x < 16384 then (65535, true) else (min 65535 ((Nat.sqrt (281474976710656 / x) + 1) / 2), false) := by
  unfold rsqrt
  split
  · rfl
  · next h =>
    have hm : 281474976710656 / x < 2 ^ 36 := Nat.div_lt_of_lt_mul (by omega)
    rw [show 2 ^ 48 = 281474976710656 by norm_num, isqrt36_eq_sqrt hm]

theorem recip_eq (x : Nat) : recip x =
    if x < 32768 then (65535, true) else (min 65535 ((2147483648 + x / 2) / x), false) := by
  norm_num [recip]

/-! ### Compares (R389) -/

/-- A lane as a compare reads it: signed for the conditions below 4. -/
def laneWord (c : BitVec 3) (x : Nat) : BitVec 32 := BitVec.ofInt 32 (if c.toNat < 4 then sx16 x else x)

theorem toInt_laneWord {c : BitVec 3} (h : c.toNat < 4) (x : Nat) : (laneWord c x).toInt = signed 16 x := by
  have hlow : -(2 ^ 31) ≤ signed 16 x := by unfold signed; omega
  have hhigh : signed 16 x < 2 ^ 31 := by unfold signed; omega
  rw [laneWord, if_pos h, sx16, BitVec.toInt_ofInt_eq_self (by decide) hlow hhigh]

theorem toNat_laneWord {c : BitVec 3} (h : ¬ c.toNat < 4) {x : Nat} (hx : x < 65536) : (laneWord c x).toNat = x := by
  rw [laneWord, if_neg h, BitVec.toNat_ofInt]
  omega

/-- The conditions of R389 on two lanes. -/
theorem condHolds_laneWord {c : BitVec 3} {holds : Nat → Nat → Bool}
    (h : c = 0 ∧ holds = (fun x y => decide (x = y)) ∨ c = 1 ∧ holds = (fun x y => decide (x ≠ y)) ∨
      c = 2 ∧ holds = (fun x y => decide (signed 16 x < signed 16 y)) ∨
      c = 3 ∧ holds = (fun x y => decide (signed 16 y ≤ signed 16 x)) ∨
      c = 4 ∧ holds = (fun x y => decide (x < y)) ∨ c = 5 ∧ holds = (fun x y => decide (y ≤ x)))
    {x y : Nat} (hx : x < 65536) (hy : y < 65536) : condHolds c (laneWord c x) (laneWord c y) = some (holds x y) := by
  have hinj : ∀ {c : BitVec 3}, c.toNat < 4 → (laneWord c x = laneWord c y ↔ x = y) := fun hc => by
    rw [← BitVec.toInt_inj, toInt_laneWord hc, toInt_laneWord hc]
    unfold signed
    omega
  refine condHolds_eq_some ?_
  rcases h with ⟨rfl, rfl⟩ | ⟨rfl, rfl⟩ | ⟨rfl, rfl⟩ | ⟨rfl, rfl⟩ | ⟨rfl, rfl⟩ | ⟨rfl, rfl⟩
  · exact .inl ⟨rfl, decide_eq_true_iff.trans (hinj (by decide)).symm⟩
  · exact .inr (.inl ⟨rfl, decide_eq_true_iff.trans (hinj (by decide)).not.symm⟩)
  · refine .inr (.inr (.inl ⟨rfl, ?_⟩))
    rw [decide_eq_true_iff, toInt_laneWord (by decide), toInt_laneWord (by decide)]
  · refine .inr (.inr (.inr (.inl ⟨rfl, ?_⟩)))
    rw [decide_eq_true_iff, toInt_laneWord (by decide), toInt_laneWord (by decide)]
  · refine .inr (.inr (.inr (.inr (.inl ⟨rfl, ?_⟩))))
    rw [decide_eq_true_iff, toNat_laneWord (by decide) hx, toNat_laneWord (by decide) hy]
  · refine .inr (.inr (.inr (.inr (.inr ⟨rfl, ?_⟩))))
    rw [decide_eq_true_iff, toNat_laneWord (by decide) hx, toNat_laneWord (by decide) hy]

section Compare

variable {s : State} {e : Nat} {pg pd c : BitVec 3} {va vb : BitVec 5}

theorem compareLanes_defined (hc : ¬ 5 < c.toNat) : compareLanes e pg pd c va vb s = advance e (fun v => v.setP pd
    (ofBits16 fun i => activeLane (v.preg pg) i && decide (condHolds c (laneWord c (vlane ((engineOf s e).vreg va) i))
      (laneWord c (vlane ((engineOf s e).vreg vb) i)) = some true))) s := if_neg hc

theorem compareLanes_holds {holds : Nat → Nat → Bool} (hc : ¬ 5 < c.toNat)
    (h : ∀ {x y : Nat}, x < 65536 → y < 65536 → condHolds c (laneWord c x) (laneWord c y) = some (holds x y)) :
    compareLanes e pg pd c va vb s = goTo e ((engineOf s e).pc + 4) ((engineOf s e).setP pd (ofBits16 fun i =>
      activeLane ((engineOf s e).preg pg) i && holds (vlane ((engineOf s e).vreg va) i) (vlane ((engineOf s e).vreg vb) i))) s := by
  simp only [compareLanes_defined hc, h (vlane_lt ..) (vlane_lt ..), Option.some_inj, Bool.decide_eq_true, advance]

theorem compareLanes_undefined (hc : 6 ≤ c.toNat) : compareLanes e pg pd c va vb s = kernelFault e 1 s := if_pos hc

end Compare

section Unary

variable {s : State} {i : Instr}

/-- vrcp and vrsqrt note a zero operand before vd is written. -/
theorem issue_laneRecip (h : Issues s i) (pg : BitVec 3) (vd va : BitVec 5) (f : Nat → Nat × Bool) :
    issue (eddyEngine i) i (laneRecip (eddyEngine i) pg vd va f) s = .next (goTo (eddyEngine i)
      ((engineOf s (eddyEngine i)).pc + 4) ((noteZero pg va (engineOf s (eddyEngine i))).writeLanes vd
        ((engineOf s (eddyEngine i)).preg pg) fun n => f (vlane ((engineOf s (eddyEngine i)).vreg va) n)) s) :=
  issue_goTo h rfl

end Unary

/-- Settles O53: the operations of one operand, then compares, then predicates. -/
theorem eddyUnaryAndPredicates : Obligations.EddyUnaryAndPredicates := by
  rintro s e v pg vd va a rfl rfl
  refine ⟨fun h => issue_laneUn h fun _ _ => rfl, fun h => issue_laneUn h fun _ hx => congrArg (·, false) (leadZeros_eq hx),
    ?reciprocal, ?root, fun h => issue_laneUn h fun _ _ => rfl,
    fun h => issue_goTo h rfl, ?compare, fun pd c vb h hc => issue_faults h fun s => compareLanes_undefined hc,
    fun pd pa pb h => issue_goTo h rfl, fun pd pa pb h => issue_goTo h rfl, fun pd pa pb h => issue_goTo h rfl,
    fun pd pa pb h => issue_goTo h rfl, fun pd pb h => issue_goTo h ?pset, fun pa pb h => issue_goTo h ?pget⟩
  case reciprocal =>
    simp only [← recip_eq]
    exact fun h => issue_laneRecip h pg vd va recip
  case root =>
    simp only [← rsqrt_eq]
    exact fun h => issue_laneRecip h pg vd va rsqrt
  case compare =>
    rintro pd c vb b holds rfl h hc
    have hdefined : ¬ 5 < c.toNat := by
      rcases hc with ⟨rfl, -⟩ | ⟨rfl, -⟩ | ⟨rfl, -⟩ | ⟨rfl, -⟩ | ⟨rfl, -⟩ | ⟨rfl, -⟩ <;> decide
    exact issue_goTo h (compareLanes_holds hdefined (condHolds_laneWord hc))
  case pset => rw [BitVec.ofNat_toNat]; rfl
  case pget => rw [BitVec.ofNat_toNat]; rfl

end Sys2Proof.Machine
end

section

/-! ## Accumulators and lookups (R391 to R394) -/

namespace Sys2Proof.Machine

section Spend

variable {s : State} {i : Instr}

/-- An instruction that goes on to a pc and uses up free values completes there. -/
theorem issue_spend_goTo (h : Issues s i) {f : State → State} {pc : Nat} {v : Engine}
    (hf : f s = spend (goTo (eddyEngine i) pc v s)) :
    issue (eddyEngine i) i f s = .next (spend (goTo (eddyEngine i) pc v s)) := by
  have hport : (clusterOf (spend (goTo (eddyEngine i) pc v s)) (eddyEngine i / 8)).portA = [] :=
    (congrArg Cluster.portA (clusterOf_goTo ..)).trans h.2.2
  rw [issue_effect h (by rw [hf]; exact hport), hf]

end Spend

/-! ### Lookups (R393, R394) -/

/-- An entry of a lookup as a number. -/
def lutEntry (s : State) (e : Nat) (sgn : Bool) (ea : Nat) : Int :=
  if sgn then sx16 (ofLe (eaRead s e ea 2)) else (ofLe (eaRead s e ea 2) : Int)

/-- A lookup whose entries may all be read. -/
theorem lookup_reaches {s : State} {e : Nat} {pg : BitVec 3} {vd vx vy sd : BitVec 5} {two sgn : Bool} {b : Nat → Nat}
    (hb : ∀ i, lutIndices (lutDesc ((engineOf s e).sreg sd)) two (vlane ((engineOf s e).vreg vx) i) (vlane ((engineOf s e).vreg vy) i) =
      lutIndices (lutDesc ((engineOf s e).sreg sd)) two (vlane ((engineOf s e).vreg vx) i) (b i))
    (h : LookupReaches s e pg sd two (fun i => vlane ((engineOf s e).vreg vx) i) b) :
    lookup e two pg vd vx vy sd sgn s = spend (goTo e ((engineOf s e).pc + 4) ((engineOf s e).writeLanes vd ((engineOf s e).preg pg)
      fun i => plain (lutValue (lutDesc ((engineOf s e).sreg sd)) (vlane ((engineOf s e).vreg vx) i) (vlane ((engineOf s e).vreg vy) i)
        ((lutIndices (lutDesc ((engineOf s e).sreg sd)) two (vlane ((engineOf s e).vreg vx) i) (b i)).map fun n =>
          lutEntry s e sgn ((lutDesc ((engineOf s e).sreg sd)).base + 2 * n)))) s) := by
  obtain ⟨hok, hquiet⟩ := h
  unfold lookup
  simp only [hb]
  have hnone : ((activeLanes ((engineOf s e).preg pg)).flatMap fun i =>
      (lutIndices (lutDesc ((engineOf s e).sreg sd)) two (vlane ((engineOf s e).vreg vx) i) (b i)).map fun n =>
        (lutDesc ((engineOf s e).sreg sd)).base + 2 * n).find? (fun ea => !eaOk s e ea 2) = none := by
    simp only [List.find?_eq_none, List.mem_flatMap, List.mem_map, Bool.not_eq_true', Bool.not_eq_false]
    rintro _ ⟨i, hi, n, hn, rfl⟩
    exact hok i hi n hn
  rw [hnone]
  simp only [List.flatMap_assoc, List.flatMap_map, List.map_map] at hquiet ⊢
  rw [eccAccess_quiet hquiet]
  rfl

/-- The value of lut1: the entry itself, or one between two entries. -/
theorem lutValue_one (d : LutDesc) (a b b' : Nat) (f : Nat → Int) : lutValue d a b ((lutIndices d false a b').map f) =
    if d.sh = 0 then f a else f (a / 2 ^ d.sh) +
      roundShift ((f (a / 2 ^ d.sh + 1) - f (a / 2 ^ d.sh)) * (a % 2 ^ d.sh : Nat)) d.sh := by
  by_cases h : d.sh = 0
  · simp [lutIndices, lutValue, h]
  · simp [lutIndices, lutValue, lerpQ, h]

/-- Settles O54: accumulators, then rounding, then lookups. -/
theorem eddyAccumulators : Obligations.EddyAccumulators := by
  rintro s e v pg k rfl
  refine ⟨?product, ?mac, fun h => issue_goTo h rfl, ?signed, ?unsigned, fun vd n h => issue_goTo h rfl, fun vd n h => issue_goTo h rfl,
    fun vd n h => issue_goTo h rfl, fun vd n h => issue_faults h fun _ => if_pos rfl, ?one, ?two⟩
  case product =>
    rintro va vb f rfl h
    exact issue_goTo h rfl
  case mac =>
    rintro va vb m f rfl h
    exact issue_goTo h rfl
  case signed =>
    rintro va n f rfl h
    exact issue_goTo h rfl
  case unsigned =>
    rintro va n f rfl h
    exact issue_goTo h rfl
  case one =>
    rintro vd vx sd g a d entry rfl rfl rfl h hreach
    refine issue_spend_goTo h ((lookup_reaches (fun _ => rfl) hreach).trans ?_)
    simp only [lutValue_one]
    rfl
  case two =>
    rintro vd vx vy sd g a b d rfl rfl rfl h hreach
    exact issue_spend_goTo h (lookup_reaches (fun _ => rfl) hreach)

end Sys2Proof.Machine
end

section

/-! ## Loads and stores (R380, R385) -/

namespace Sys2Proof.Machine

section Memory

variable {s : State} {e : Nat} {rd ra : BitVec 5} {off : BitVec 12} {n : Nat}

theorem loadS_reaches {ext : Nat → BitVec 32} (h : Reaches s e (alignEa (eaOf (engineOf s e) ra off) n) n) :
    loadS e rd ra off n ext s = spend (goTo e ((engineOf s e).pc + 4) ((engineOf s e).setS rd
      (ext (ofLe (eaRead s e (alignEa (eaOf (engineOf s e) ra off) n) n)))) s) :=
  (if_pos h.1).trans (eccAccess_quiet h.2 _)

theorem loadS_outside {ext : Nat → BitVec 32} (h : eaOk s e (alignEa (eaOf (engineOf s e) ra off) n) n = false) :
    loadS e rd ra off n ext s = kernelFault e (eaCause (alignEa (eaOf (engineOf s e) ra off) n)) s :=
  if_neg (Bool.eq_false_iff.1 h)

theorem vectorLoad_reaches {pg : BitVec 3} (h : Reaches s e (alignEa (eaOf (engineOf s e) ra off) 2) 32) :
    vectorLoad e pg rd ra off s = spend (goTo e ((engineOf s e).pc + 4) ((engineOf s e).writeLanes rd ((engineOf s e).preg pg)
      fun i => (leAt (eaRead s e (alignEa (eaOf (engineOf s e) ra off) 2) 32) (2 * i) 2, false)) s) :=
  (if_pos h.1).trans (eccAccess_quiet h.2 _)

theorem vectorBroadcast_reaches {pg : BitVec 3} (h : Reaches s e (alignEa (eaOf (engineOf s e) ra off) 2) 2) :
    vectorBroadcast e pg rd ra off s = spend (goTo e ((engineOf s e).pc + 4) ((engineOf s e).writeLanes rd
      ((engineOf s e).preg pg) fun _ => (ofLe (eaRead s e (alignEa (eaOf (engineOf s e) ra off) 2) 2), false)) s) :=
  (if_pos h.1).trans (eccAccess_quiet h.2 _)

/-- With no cycle of port A open, what an instruction does depends on the state it issues in alone. -/
theorem inCycle_congr {f g : State → State} (hport : (clusterOf s (e / 8)).portA = []) (h : f s = g s) :
    inCycle e f s = inCycle e g s := by
  unfold inCycle
  rw [closePort_closed hport, h]

theorem issue_inCycle {i : Instr} (h : Issues s i) {f g : State → State} (hf : f s = g s) :
    issue (eddyEngine i) i f s = .next (inCycle (eddyEngine i) g s) := by
  rw [issue_runs h, inCycle_congr h.2.2 hf]

theorem storeS_reaches (h : eaOk s e (alignEa (eaOf (engineOf s e) ra off) n) n = true) :
    storeS e rd ra off n s = advance e (fun v => v) (eaWrite e ((leBytes n ((engineOf s e).sreg rd).toNat).zipIdx.map fun b =>
      (alignEa (eaOf (engineOf s e) ra off) n + b.2, b.1)) s) :=
  if_pos h

theorem vectorStore_reaches {pg : BitVec 3} (h : eaOk s e (alignEa (eaOf (engineOf s e) ra off) 2) 32 = true) :
    vectorStore e pg rd ra off s = advance e (fun v => v) (eaWrite e (storeLanes (engineOf s e) ((engineOf s e).preg pg) rd
      (alignEa (eaOf (engineOf s e) ra off) 2)) s) :=
  if_pos h

end Memory

theorem alignEa_one (a : Nat) : alignEa a 1 = a := by rw [alignEa, Nat.div_one, Nat.mul_one]

/-- Settles O49: loads, stores and the fault of a word outside both areas. -/
theorem eddyMemory : Obligations.EddyMemory := by
  rintro s e v rd ra off a rfl rfl
  refine ⟨fun h hr => issue_spend_goTo h (loadS_reaches hr), fun h hr => issue_spend_goTo h (loadS_reaches hr),
    fun h hr => issue_spend_goTo h (loadS_reaches hr), fun h hr => issue_spend_goTo h ?lb, fun h hr => issue_spend_goTo h ?lbu,
    fun h hr => issue_inCycle h (storeS_reaches hr), fun h hr => issue_inCycle h (storeS_reaches hr), fun h hr => issue_inCycle h ?sb,
    fun pg h hr => issue_spend_goTo h (vectorLoad_reaches hr), fun pg h hr => issue_inCycle h (vectorStore_reaches hr),
    fun pg h hr => issue_spend_goTo h (vectorBroadcast_reaches hr), fun h hr => issue_inCycle h (loadS_outside hr)⟩
  case lb =>
    rw [← alignEa_one ((engineOf s e).sreg ra + off.signExtend 32).toNat] at hr ⊢
    exact loadS_reaches hr
  case lbu =>
    rw [← alignEa_one ((engineOf s e).sreg ra + off.signExtend 32).toNat] at hr ⊢
    exact loadS_reaches hr
  case sb =>
    rw [← alignEa_one ((engineOf s e).sreg ra + off.signExtend 32).toNat] at hr ⊢
    exact storeS_reaches hr

end Sys2Proof.Machine
end

section

/-! ## What an access by an engine leaves as it was (R368 to R370, R385, R387)

Two relations between the state before and after: AccessFrame says what an access by engine e changes at all (of its own engine the data
and the wrong bits, of its cluster the scratchpad, its queue and its patrol); SameBytes says that no byte of the two memories changed. -/

namespace Sys2Proof.Machine

/-- The engines are in canonical form, and the clusters. -/
abbrev EnginesWf (s : State) : Prop := tabWf (fun _ => ({} : Engine)) s.array.engines = true

abbrev ClustersWf (s : State) : Prop := tabWf (fun _ => ({} : Cluster)) s.array.clusters = true

theorem clusterOf_setCluster {s : State} (h : ClustersWf s) (c j : Nat) (k : Cluster) :
    clusterOf (setCluster c k s) j = if j = c then k else clusterOf s j :=
  tabGet_set _ ((tabWf_iff _ _).1 h).1 c j k

/-- Only the data of engine e and its wrong bits may differ between two engines. -/
def SameRegisters (v w : Engine) : Prop := ∃ d x, w = { v with data := d, flips := x }

theorem SameRegisters.refl (v : Engine) : SameRegisters v v := ⟨v.data, v.flips, rfl⟩

structure AccessFrame (e : Nat) (s t : State) : Prop where
  host : t.host = s.host
  pipe : t.pipe = s.pipe
  tables : t.tables = s.tables
  out : t.out = s.out
  engines : EnginesWf s → EnginesWf t ∧ (∀ f, f ≠ e → engineOf t f = engineOf s f) ∧ SameRegisters (engineOf s e) (engineOf t e)
  clusters : ClustersWf s → ClustersWf t ∧ ∀ c, c ≠ e / 8 → clusterOf t c = clusterOf s c

structure SameBytes (e : Nat) (s t : State) : Prop where
  data : EnginesWf s → (engineOf t e).data = (engineOf s e).data
  pad : ClustersWf s → (clusterOf t (e / 8)).pad = (clusterOf s (e / 8)).pad

section Frame

variable {e : Nat} {s t u : State}

theorem SameRegisters.trans {v w x : Engine} (h : SameRegisters v w) (k : SameRegisters w x) : SameRegisters v x := by
  obtain ⟨_, _, rfl⟩ := h
  obtain ⟨d, x, rfl⟩ := k
  exact ⟨d, x, rfl⟩

theorem AccessFrame.trans (h : AccessFrame e s t) (k : AccessFrame e t u) : AccessFrame e s u where
  host := k.host.trans h.host
  pipe := k.pipe.trans h.pipe
  tables := k.tables.trans h.tables
  out := k.out.trans h.out
  engines hwf := by
    obtain ⟨hwf, hothers, hown⟩ := h.engines hwf
    obtain ⟨hwf', hothers', hown'⟩ := k.engines hwf
    exact ⟨hwf', fun f hf => (hothers' f hf).trans (hothers f hf), hown.trans hown'⟩
  clusters hwf := by
    obtain ⟨hwf, hothers⟩ := h.clusters hwf
    obtain ⟨hwf', hothers'⟩ := k.clusters hwf
    exact ⟨hwf', fun c hc => (hothers' c hc).trans (hothers c hc)⟩

theorem SameBytes.trans (h : SameBytes e s t) (hf : AccessFrame e s t) (k : SameBytes e t u) : SameBytes e s u where
  data hwf := (k.data (hf.engines hwf).1).trans (h.data hwf)
  pad hwf := (k.pad (hf.clusters hwf).1).trans (h.pad hwf)

/-- An update of registers and counters. -/
theorem AccessFrame.of_array (hh : t.host = s.host) (hp : t.pipe = s.pipe) (ht : t.tables = s.tables) (ho : t.out = s.out)
    (ha : t.array = s.array) : AccessFrame e s t where
  host := hh
  pipe := hp
  tables := ht
  out := ho
  engines hwf := by
    simp only [EnginesWf, engineOf, ha]
    exact ⟨hwf, fun _ _ => trivial, .refl _⟩
  clusters hwf := by
    simp only [ClustersWf, clusterOf, ha]
    exact ⟨hwf, fun _ _ => trivial⟩

theorem SameBytes.of_array (ha : t.array = s.array) : SameBytes e s t where
  data _ := by simp only [engineOf, ha]
  pad _ := by simp only [clusterOf, ha]

theorem AccessFrame.refl (s : State) : AccessFrame e s s := .of_array rfl rfl rfl rfl rfl

theorem AccessFrame.setCluster (k : Cluster) (s : State) : AccessFrame e s (setCluster (e / 8) k s) where
  host := rfl
  pipe := rfl
  tables := rfl
  out := rfl
  engines hwf := ⟨hwf, fun _ _ => rfl, .refl _⟩
  clusters hwf := ⟨tabWf_set _ hwf .., fun c hc => by rw [clusterOf_setCluster hwf, if_neg hc]⟩

theorem SameBytes.setCluster {k : Cluster} (h : k.pad = (clusterOf s (e / 8)).pad) : SameBytes e s (setCluster (e / 8) k s) where
  data _ := rfl
  pad hwf := by rw [clusterOf_setCluster hwf, if_pos rfl, h]

theorem AccessFrame.setEngine {v : Engine} (h : SameRegisters (engineOf s e) v) : AccessFrame e s (setEngine e v s) where
  host := rfl
  pipe := rfl
  tables := rfl
  out := rfl
  engines hwf := ⟨tabWf_set _ hwf .., fun f hf => by rw [engineOf_setEngine hwf, if_neg hf],
    by rw [engineOf_setEngine hwf, if_pos rfl]; exact h⟩
  clusters hwf := ⟨hwf, fun _ _ => rfl⟩

theorem SameBytes.setEngine {v : Engine} (h : v.data = (engineOf s e).data) : SameBytes e s (setEngine e v s) where
  data hwf := by rw [engineOf_setEngine hwf, if_pos rfl, h]
  pad _ := rfl

/-- An access that changes no byte of the two memories. -/
structure QuietAccess (e : Nat) (s t : State) : Prop where
  frame : AccessFrame e s t
  bytes : SameBytes e s t

theorem QuietAccess.trans (h : QuietAccess e s t) (k : QuietAccess e t u) : QuietAccess e s u :=
  ⟨h.frame.trans k.frame, h.bytes.trans h.frame k.bytes⟩

theorem QuietAccess.of_array (hh : t.host = s.host) (hp : t.pipe = s.pipe) (ht : t.tables = s.tables) (ho : t.out = s.out)
    (ha : t.array = s.array) : QuietAccess e s t :=
  ⟨.of_array hh hp ht ho ha, .of_array ha⟩

theorem QuietAccess.refl (s : State) : QuietAccess e s s := .of_array rfl rfl rfl rfl rfl

theorem QuietAccess.setCluster {k : Cluster} (h : k.pad = (clusterOf s (e / 8)).pad) :
    QuietAccess e s (setCluster (e / 8) k s) := ⟨.setCluster .., .setCluster h⟩

theorem QuietAccess.foldl {α : Type} {f : State → α → State} {l : List α} (h : ∀ s, ∀ x ∈ l, QuietAccess e s (f s x)) (s : State) :
    QuietAccess e s (l.foldl f s) := by
  induction l generalizing s with
  | nil => exact .refl s
  | cons x l ih =>
    exact (h s x (List.mem_cons_self ..)).trans (ih (fun s y hy => h s y (List.mem_cons_of_mem _ hy)) (f s x))

/-! ### Patrol, check bits and the ports -/

theorem quiet_wrF (k : Nat) (f : Nat × Nat) (n : Nat) (s : State) : QuietAccess e s (wrF k f n s) :=
  .of_array rfl rfl rfl rfl rfl

theorem quiet_bumpSat (k : Nat) (f : Nat × Nat) (n : Nat) (s : State) : QuietAccess e s (bumpSat k f n s) :=
  .of_array rfl rfl rfl rfl rfl

theorem quiet_countEvent (unit ev v : Nat) (s : State) : QuietAccess e s (countEvent unit ev v s) :=
  .of_array (by simp) (by simp) (by simp) (by simp) (by simp)

theorem quiet_takeRegion (s : State) : QuietAccess e s (takeRegion (e / 8) s).2.2 := by
  unfold takeRegion
  dsimp only
  split
  · exact .setCluster rfl
  · dsimp only
    split
    · refine QuietAccess.trans ?_ (quiet_wrF ..)
      exact .setCluster rfl
    · exact .setCluster rfl

theorem quiet_abortVisit (s : State) : QuietAccess e s (abortVisit (e / 8) s) := by
  have hcount := ((quiet_takeRegion s).trans (quiet_bumpSat (Reg.ENG_Cc_PATROL (e / 8)) Fld.ENG_Cc_PATROL_aborts 1 _)).trans
    (quiet_countEvent (e := e) (unitOfCluster (e / 8)) 0x18 1 _)
  unfold abortVisit
  dsimp only
  split
  · exact hcount.trans (quiet_bumpSat ..)
  · exact hcount.trans (.setCluster rfl)

theorem quiet_touchVisit (ws : List (Nat × Nat)) (s : State) : QuietAccess e s (touchVisit e ws s) := by
  have htick : QuietAccess e s (tick s) := .of_array rfl rfl rfl rfl rfl
  unfold touchVisit
  split
  · split
    · exact htick.trans (quiet_abortVisit _)
    · exact htick
  · exact .refl s

/-- The words of an access lie in the engine's own memory or in its cluster's scratchpad. -/
theorem wordsAt_memory {ea n : Nat} {x : Nat × Nat} (h : x ∈ wordsAt s e ea n) : x.1 = e % 8 ∨ x.1 = 8 := by
  unfold wordsAt wordSpan at h
  split at h
  · obtain ⟨i, -, rfl⟩ := List.mem_map.1 h
    exact .inl rfl
  · obtain ⟨i, -, rfl⟩ := List.mem_map.1 h
    exact .inr rfl

theorem quiet_setWrong {x : Nat × Nat} (h : x.1 = e % 8 ∨ x.1 = 8) (n : Nat) (s : State) :
    QuietAccess e s (setWrong (e / 8) x n s) := by
  unfold setWrong
  split
  · exact .setCluster rfl
  · next hne =>
    have howner : 8 * (e / 8) + x.1 = e := by omega
    split
    · rw [howner]
      exact ⟨.setEngine ⟨_, _, rfl⟩, .setEngine rfl⟩
    · exact .refl s

theorem quiet_freshWords (eas : List Nat) (s : State) : QuietAccess e s (freshWords e eas s) := by
  unfold freshWords
  split
  · exact .refl s
  · refine .foldl (fun s x hx => quiet_setWrong ?_ 0 s) s
    obtain ⟨ea, -, hx⟩ := List.mem_flatMap.1 hx
    exact wordsAt_memory hx

theorem quiet_touchQueue (a : Nat) (s : State) : QuietAccess e s (touchQueue (e / 8) a s) := by
  unfold touchQueue
  dsimp only
  split
  · exact .refl s
  · exact .setCluster rfl

theorem quiet_openPort (bs : List (Nat × Byte)) (s : State) : QuietAccess e s (openPort e bs s) := by
  unfold openPort
  dsimp only
  split
  · exact .refl s
  · exact .setCluster rfl

theorem quiet_closePort (s : State) : QuietAccess e s (closePort e s) := by
  unfold closePort
  split
  · exact .refl s
  · exact .setCluster rfl

end Frame

/-! ### The bytes that a write puts -/

section Bytes

variable {e : Nat} {s : State}

theorem frame_eaPut (ea : Nat) (b : Byte) (s : State) : AccessFrame e s (eaPut e ea b s) := by
  unfold eaPut
  split
  · exact .setEngine ⟨_, _, rfl⟩
  · exact (AccessFrame.setCluster _ s).trans (quiet_touchQueue ..).frame

/-- n bytes from one EA on. -/
def putFrom (e ea : Nat) (f : Nat → Byte) (n : Nat) (s : State) : State :=
  (List.range n).foldl (fun s i => eaPut e (ea + i) (f i) s) s

theorem putFrom_succ (ea : Nat) (f : Nat → Byte) (n : Nat) (s : State) :
    putFrom e ea f (n + 1) s = eaPut e (ea + n) (f n) (putFrom e ea f n s) := by
  simp only [putFrom, List.range_succ, List.foldl_append, List.foldl_cons, List.foldl_nil]

theorem frame_putFrom (ea : Nat) (f : Nat → Byte) (n : Nat) (s : State) : AccessFrame e s (putFrom e ea f n s) := by
  induction n with
  | zero => exact .refl s
  | succ n ih => rw [putFrom_succ]; exact ih.trans (frame_eaPut ..)

/-- A range of n bytes and the byte after it. -/
theorem ite_range_succ {β : Type} (k b n : Nat) (f : Nat → β) (x : β) :
    (if k = b + n then f n else if b ≤ k ∧ k < b + n then f (k - b) else x) = if b ≤ k ∧ k < b + (n + 1) then f (k - b) else x := by
  by_cases hk : k = b + n
  · rw [if_pos hk, if_pos (by omega), hk, Nat.add_sub_cancel_left]
  · rw [if_neg hk]
    exact if_congr (by omega) rfl rfl

theorem keysAbove_set {α : Type} [DecidableEq α] (d : Nat → α) {t : Tab α} (h : keysAbove 0 t = true) (k : Nat) (v : α) :
    keysAbove 0 (tabSet d t k v) = true := by
  unfold tabSet
  split
  · exact keysAbove_erase k t 0 h
  · exact keysAbove_insert k v t 0 h (Nat.zero_le k)

theorem eaPut_pad {ea : Nat} (h : 0x80000 ≤ ea) (b : Byte) (s : State) : eaPut e ea b s =
    touchQueue (e / 8) (ea - 0x80000) (padWrite (e / 8) (ea - 0x80000) [b] s) := if_neg (Nat.not_lt.2 h)

theorem pad_padWrite_byte {s : State} (hwf : ClustersWf s) (c : Nat) {a : Nat} (h : a < 524288) (b : Byte) :
    (clusterOf (padWrite c a [b] s) c).pad = tabSet (fun _ => 0) (clusterOf s c).pad a b := by
  rw [padWrite, clusterOf_setCluster hwf, if_pos rfl]
  exact if_pos h

theorem pad_eaPut {s : State} (hwf : ClustersWf s) {ea : Nat} (h : 0x80000 ≤ ea) (hend : ea < 0x100000) (b : Byte) :
    (clusterOf (eaPut e ea b s) (e / 8)).pad = tabSet (fun _ => 0) (clusterOf s (e / 8)).pad (ea - 0x80000) b := by
  have hput : AccessFrame e s (padWrite (e / 8) (ea - 0x80000) [b] s) := .setCluster ..
  rw [eaPut_pad h, (quiet_touchQueue _ _).bytes.pad (hput.clusters hwf).1]
  exact pad_padWrite_byte hwf _ (by omega) b

theorem pad_putFrom {s : State} (hwf : ClustersWf s) (hkeys : keysAbove 0 (clusterOf s (e / 8)).pad = true) {ea : Nat}
    (f : Nat → Byte) {n : Nat} (h : 0x80000 ≤ ea) (hend : ea + n ≤ 0x100000) :
    keysAbove 0 (clusterOf (putFrom e ea f n s) (e / 8)).pad = true ∧
      ∀ k, tabGet (fun _ => 0) (clusterOf (putFrom e ea f n s) (e / 8)).pad k =
        if ea - 0x80000 ≤ k ∧ k < ea - 0x80000 + n then f (k - (ea - 0x80000))
        else tabGet (fun _ => 0) (clusterOf s (e / 8)).pad k := by
  induction n with
  | zero => exact ⟨hkeys, fun k => (if_neg (by omega)).symm⟩
  | succ n ih =>
    obtain ⟨hkeys', hbytes⟩ := ih (by omega)
    obtain ⟨hwf', -⟩ := (frame_putFrom (e := e) ea f n s).clusters hwf
    rw [putFrom_succ, pad_eaPut hwf' (by omega) (by omega)]
    refine ⟨keysAbove_set _ hkeys' .., fun k => ?_⟩
    rw [tabGet_set _ hkeys', hbytes, Nat.sub_add_comm h, ite_range_succ]

end Bytes

end Sys2Proof.Machine
end

section

/-! ## What a store leaves (R385) -/

namespace Sys2Proof.Machine

/-! ### The bytes of a number (R7) -/

theorem leBytes_eq_map (n x : Nat) : leBytes n x = (List.range n).map fun i => BitVec.ofNat 8 (x / 2 ^ (8 * i)) := by
  induction n generalizing x with
  | zero => rfl
  | succ n ih =>
    have hbyte : BitVec.ofNat 8 (x % 256) = BitVec.ofNat 8 x := BitVec.eq_of_toNat_eq (by simp)
    rw [leBytes, ih, List.range_succ_eq_map, List.map_cons, List.map_map, hbyte, Nat.mul_zero, Nat.pow_zero, Nat.div_one]
    refine congrArg (_ :: ·) (List.map_congr_left fun i _ => ?_)
    rw [Function.comp_apply, Nat.div_div_eq_div_mul, show 8 * i.succ = 8 + 8 * i by omega, Nat.pow_add]

/-- The bytes of a number, each with its EA. -/
theorem zipIdx_leBytes (ea n x : Nat) : ((leBytes n x).zipIdx.map fun b => (ea + b.2, b.1)) =
    (List.range n).map fun i => (ea + i, BitVec.ofNat 8 (x / 2 ^ (8 * i))) := by
  rw [leBytes_eq_map]
  refine List.ext_getElem (by simp) fun i h h' => ?_
  simp

/-! ### What a write leaves as it was -/

section Writes

variable {e : Nat} {s : State}

/-- The state that a write puts its bytes into: a visit of patrol may have been aborted, and words written whole carry fresh
check bits. -/
def readyToStore (e : Nat) (bytes : List (Nat × Byte)) (s : State) : State :=
  freshWords e (bytes.map (·.1)) (touchVisit e (wordsOf s e (bytes.map (·.1))) s)

theorem quiet_readyToStore (bytes : List (Nat × Byte)) (s : State) : QuietAccess e s (readyToStore e bytes s) :=
  (quiet_touchVisit ..).trans (quiet_freshWords ..)

theorem eaStore_eq_foldl (bytes : List (Nat × Byte)) (s : State) :
    eaStore e bytes s = bytes.foldl (fun s b => eaPut e b.1 b.2 s) (readyToStore e bytes s) := rfl

/-- The bytes of a number go to consecutive EAs. -/
theorem eaStore_number (ea n x : Nat) (s : State) : ∃ u, QuietAccess e s u ∧
    eaStore e ((leBytes n x).zipIdx.map fun b => (ea + b.2, b.1)) s =
      putFrom e ea (fun i => BitVec.ofNat 8 (x / 2 ^ (8 * i))) n u := by
  rw [zipIdx_leBytes, eaStore_eq_foldl, List.foldl_map]
  exact ⟨_, quiet_readyToStore _ s, rfl⟩

theorem frame_eaStore (bytes : List (Nat × Byte)) (s : State) : AccessFrame e s (eaStore e bytes s) := by
  have hput : ∀ (l : List (Nat × Byte)) u, AccessFrame e u (l.foldl (fun s b => eaPut e b.1 b.2 s) u) := fun l => by
    induction l with
    | nil => exact fun u => .refl u
    | cons b l ih => exact fun u => (frame_eaPut b.1 b.2 u).trans (ih _)
  rw [eaStore_eq_foldl]
  exact (quiet_readyToStore bytes s).frame.trans (hput bytes _)

/-- With no write of port A to clash with, a write puts all its bytes. -/
theorem quiet_eaWrite (h : (clusterOf s (e / 8)).portA = []) (bytes : List (Nat × Byte)) :
    QuietAccess e (eaStore e bytes s) (eaWrite e bytes s) := by
  have hlost : clashes (clusterOf s (e / 8)).portA bytes = [] := by simp [h, clashes]
  unfold eaWrite
  dsimp only
  rw [if_pos hlost]
  split
  · exact quiet_openPort bytes _
  · exact .refl _

theorem quiet_inCycle (h : (clusterOf s (e / 8)).portA = []) (f : State → State) : QuietAccess e (f s) (inCycle e f s) := by
  unfold inCycle
  rw [closePort_closed h]
  split
  · exact .refl _
  · exact quiet_closePort _

/-- An instruction of engine e leaves it as v, but for wrong bits that an access corrected, and changes no other engine or cluster. -/
structure Leaves (e : Nat) (v : Engine) (s t : State) : Prop where
  host : t.host = s.host
  pipe : t.pipe = s.pipe
  tables : t.tables = s.tables
  out : t.out = s.out
  enginesWf : EnginesWf t
  others : ∀ f, f ≠ e → engineOf t f = engineOf s f
  own : ∃ x, engineOf t e = { v with flips := x }
  clusters : ClustersWf s → ClustersWf t ∧ ∀ c, c ≠ e / 8 → clusterOf t c = clusterOf s c

theorem goTo_leaves (hwf : EnginesWf s) (pc : Nat) (v : Engine) :
    Leaves e { v with pc := pc, cycles := v.cycles + 1 } s (goTo e pc v s) where
  host := by simp
  pipe := by simp
  tables := by simp
  out := by simp
  enginesWf := by
    simp only [EnginesWf, goTo, countEvent_frame]
    exact tabWf_set _ hwf ..
  others f hf := (engineOf_goTo hwf e pc f v).trans (if_neg hf)
  own := ⟨v.flips, (engineOf_goTo hwf e pc e v).trans (if_pos rfl)⟩
  clusters hwf := by
    simp only [ClustersWf, goTo_clusters, clusterOf_goTo]
    exact ⟨hwf, fun _ _ => trivial⟩

theorem AccessFrame.leaves {t u : State} {v : Engine} (hwf : EnginesWf s) (h : AccessFrame e s t) (k : Leaves e v t u) :
    Leaves e v s u where
  host := k.host.trans h.host
  pipe := k.pipe.trans h.pipe
  tables := k.tables.trans h.tables
  out := k.out.trans h.out
  enginesWf := k.enginesWf
  others f hf := (k.others f hf).trans ((h.engines hwf).2.1 f hf)
  own := k.own
  clusters hwf := by
    obtain ⟨hwf', hothers⟩ := h.clusters hwf
    obtain ⟨hwf'', hothers'⟩ := k.clusters hwf'
    exact ⟨hwf'', fun c hc => (hothers' c hc).trans (hothers c hc)⟩

theorem Leaves.quiet {t u : State} {v : Engine} (h : Leaves e v s t) (k : QuietAccess e t u) : Leaves e v s u where
  host := k.frame.host.trans h.host
  pipe := k.frame.pipe.trans h.pipe
  tables := k.frame.tables.trans h.tables
  out := k.frame.out.trans h.out
  enginesWf := (k.frame.engines h.enginesWf).1
  others f hf := ((k.frame.engines h.enginesWf).2.1 f hf).trans (h.others f hf)
  own := by
    obtain ⟨-, -, d, x, hown⟩ := k.frame.engines h.enginesWf
    obtain ⟨y, hv⟩ := h.own
    have hdata := k.bytes.data h.enginesWf
    rw [hown, hv] at hdata
    exact ⟨x, by rw [hown, hv, ← show d = v.data from hdata]⟩
  clusters hwf := by
    obtain ⟨hwf', hothers⟩ := h.clusters hwf
    obtain ⟨hwf'', hothers'⟩ := k.frame.clusters hwf'
    exact ⟨hwf'', fun c hc => (hothers' c hc).trans (hothers c hc)⟩

/-- What a store leaves: beside its bytes, pc and the count of instructions. -/
theorem inCycle_stores (hwf : EnginesWf s) (hport : (clusterOf s (e / 8)).portA = []) (bytes : List (Nat × Byte)) :
    ∃ d x, Leaves e { engineOf s e with data := d, flips := x, pc := (engineOf s e).pc + 4, cycles := (engineOf s e).cycles + 1 } s
      (inCycle e (fun s => advance e (fun v => v) (eaWrite e bytes s)) s) := by
  have hmid := (frame_eaStore (e := e) bytes s).trans (quiet_eaWrite hport bytes).frame
  obtain ⟨hwfWrite, -, d, x, hown⟩ := hmid.engines hwf
  have hgo := goTo_leaves (e := e) hwfWrite ((engineOf (eaWrite e bytes s) e).pc + 4) (engineOf (eaWrite e bytes s) e)
  have hleaves := (hmid.leaves hwf hgo).quiet (quiet_inCycle hport fun s => advance e (fun v => v) (eaWrite e bytes s))
  rw [hown] at hleaves
  exact ⟨d, x, hleaves⟩

/-! ### The bytes that a store leaves -/

theorem pad_eaStore (hwf : ClustersWf s) (hkeys : keysAbove 0 (clusterOf s (e / 8)).pad = true) {ea n : Nat} (h : 0x80000 ≤ ea)
    (hend : ea + n ≤ 0x100000) (x k : Nat) :
    tabGet (fun _ => 0) (clusterOf (eaStore e ((leBytes n x).zipIdx.map fun b => (ea + b.2, b.1)) s) (e / 8)).pad k =
      if ea - 0x80000 ≤ k ∧ k < ea - 0x80000 + n then BitVec.ofNat 8 (x / 2 ^ (8 * (k - (ea - 0x80000))))
      else tabGet (fun _ => 0) (clusterOf s (e / 8)).pad k := by
  obtain ⟨u, ⟨hframe, hsame⟩, heq⟩ := eaStore_number (e := e) ea n x s
  have hpad := hsame.pad hwf
  rw [heq, (pad_putFrom (hframe.clusters hwf).1 (by rw [hpad]; exact hkeys) _ h hend).2, hpad]

end Writes

/-- The bytes that a store of n bytes writes, each with its EA. -/
def storedBytes (s : State) (e : Nat) (rd ra : BitVec 5) (off : BitVec 12) (n : Nat) : List (Nat × Byte) :=
  (leBytes n ((engineOf s e).sreg rd).toNat).zipIdx.map fun b => (alignEa (eaOf (engineOf s e) ra off) n + b.2, b.1)

theorem issue_storeS {s : State} {i : Instr} (h : Issues s i) {rd ra : BitVec 5} {off : BitVec 12} {n : Nat}
    (hok : eaOk s (eddyEngine i) (alignEa (eaOf (engineOf s (eddyEngine i)) ra off) n) n = true) :
    issue (eddyEngine i) i (storeS (eddyEngine i) rd ra off n) s = .next (inCycle (eddyEngine i) (fun t =>
      advance (eddyEngine i) (fun v => v) (eaWrite (eddyEngine i) (storedBytes s (eddyEngine i) rd ra off n) t)) s) :=
  issue_inCycle h (storeS_reaches hok)

/-! ### A store past the end of the scratchpad (O50) -/

/-- Engine 0 of a device in RUN is about to store 1 at EA 0x100000, past the end of the scratchpad, in a kernel whose data area
is taken to reach that far. -/
def storePastEnd : State :=
  let code := leBytes 4 ((eddyWord (.sw 0 1 2 0)).getD 0).toNat
  let k : Kernel :=
    { stage := 1, cells := 1, haloV := 0, haloH := 0, codeBytes := 4, dataBytes := 0x100004, scratchBytes := 0, maxCycles := 100,
      entry := 0, entryMover := 0, entryWarn := 0, paramOffset := 0, code := code, init := [], param := [] }
  setEngine 0 { running := true, handle := 1, s := [(1, 1), (2, 0x100000)] } { State.reset with
    power := { State.reset.power with state := .run }, tables := { State.reset.tables with kernels := [(1, some k)] } }

theorem issues_storePastEnd : Issues storePastEnd (.sw 0 1 2 0) := by
  refine ⟨⟨_, rfl, by decide +kernel⟩, ⟨?_, fun _ => ?_⟩, by decide +kernel⟩
  · simp only [List.forall_mem_singleton]
    decide +kernel
  · simp only [List.forall_mem_singleton]
    decide +kernel

/-- Refutes O50: nothing bounds the data area of a kernel, and a store that its data area allows at 0x100000 is no write of an
engine's own memory, while padWrite drops what lies past the end of the scratchpad. The byte of the scratchpad that the clause of
0x80000 ≤ a names stays 0. -/
theorem not_storeFrame : ¬ Obligations.StoreFrame := by
  intro h
  have hrun := issue_storeS (rd := 1) (ra := 2) (off := 0) (n := 4) issues_storePastEnd (by decide +kernel)
  obtain ⟨-, -, -, -, -, -, -, hpad⟩ := h storePastEnd _ 0 _ 1 2 0 0x100000 rfl (by decide +kernel) issues_storePastEnd
    (by decide +kernel) (by decide +kernel) (by decide +kernel) (by decide +kernel) (by decide +kernel) hrun
  obtain ⟨-, hbytes, -⟩ := hpad (by decide)
  have hdropped := hbytes 0 (by decide)
  exact absurd hdropped (by decide +kernel)

end Sys2Proof.Machine
end

section

/-! ## Atomics (R387) -/

namespace Sys2Proof.Machine

section Atomics

variable {s : State} {e : Nat} {rd ra rb : BitVec 5} {n : Nat} {f : Nat → BitVec 32 → Nat × Bool}

theorem atomic_reaches (h : ReachesPad s e (alignEa ((engineOf s e).sreg ra).toNat n) n) {old new : Nat} {held : Bool}
    (hold : ofLe (eaRead s e (alignEa ((engineOf s e).sreg ra).toNat n) n) = old)
    (hnew : f old ((engineOf s e).sreg rb) = (new, held)) :
    atomic e rd ra rb n f s = atomicEnd e rd old (alignEa ((engineOf s e).sreg ra).toNat n) n new held s := by
  subst hold
  have hrun : atomic e rd ra rb n f s = atomicEnd e rd _ _ n (f _ ((engineOf s e).sreg rb)).1 (f _ ((engineOf s e).sreg rb)).2 s :=
    (if_pos h.1).trans (eccAccess_quiet h.2 _)
  rw [hrun, hnew]

theorem atomic_outside (h : inPad (alignEa ((engineOf s e).sreg ra).toNat n) n = false) :
    atomic e rd ra rb n f s = kernelFault e 3 s := if_neg (Bool.eq_false_iff.1 h)

variable (old ea new : Nat) (held : Bool)

/-- The scratchpad that an atomic leaves is that of its store, and its engine takes rd, st.sat and the next pc. -/
theorem clusterOf_atomicEnd (c : Nat) : clusterOf (atomicEnd e rd old ea n new held s) c =
    clusterOf (eaStore e ((leBytes n new).zipIdx.map fun b => (ea + b.2, b.1)) s) c := by
  simp only [atomicEnd, spend, clusterOf, countEvent_frame, advance, goTo_clusters]

theorem engineOf_atomicEnd (hwf : EnginesWf s) : ∃ d x, engineOf (atomicEnd e rd old ea n new held s) e =
    { ({ engineOf s e with data := d, flips := x } : Engine).setS rd (BitVec.ofNat 32 old) with
      sat := (engineOf s e).sat || held, pc := (engineOf s e).pc + 4, cycles := (engineOf s e).cycles + 1 } := by
  obtain ⟨hwfStore, -, d, x, hown⟩ := (frame_eaStore (e := e) ((leBytes n new).zipIdx.map fun b => (ea + b.2, b.1)) s).engines hwf
  refine ⟨d, x, ?_⟩
  have hend : engineOf (atomicEnd e rd old ea n new held s) e = engineOf (advance e
      (fun v => { v.setS rd (BitVec.ofNat 32 old) with sat := v.sat || held })
      (eaStore e ((leBytes n new).zipIdx.map fun b => (ea + b.2, b.1)) s)) e := by
    simp only [atomicEnd, spend, engineOf, countEvent_frame]
  rw [hend, advance, engineOf_goTo hwfStore, if_pos rfl, hown]
  unfold Engine.setS
  split <;> rfl

end Atomics

/-- Settles O51: each atomic, its fault, then the state that it leaves. -/
theorem eddyAtomics : Obligations.EddyAtomics := by
  refine ⟨?atomics, ?state⟩
  case atomics =>
    rintro s e v rd ra rb h w rfl rfl rfl
    exact ⟨fun h hr => issue_inCycle h (atomic_reaches hr rfl rfl), fun h hr => issue_inCycle h (atomic_reaches hr rfl rfl),
      fun h hr => issue_inCycle h (atomic_reaches hr rfl rfl), fun h hr => issue_inCycle h (atomic_reaches hr rfl rfl),
      fun h hr => issue_inCycle h (atomic_reaches hr rfl rfl), fun h hr => issue_inCycle h (atomic_reaches hr rfl rfl),
      fun h hr => issue_inCycle h (atomic_outside hr), fun h hr => issue_inCycle h (atomic_outside hr),
      fun h hr => issue_inCycle h (atomic_outside hr), fun h hr => issue_inCycle h (atomic_outside hr),
      fun h hr => issue_inCycle h (atomic_outside hr), fun h hr => issue_inCycle h (atomic_outside hr)⟩
  case state =>
    intro s e rd old ea n new held hin hrd hengines hclusters hregs hpad
    obtain ⟨hlow, hhigh⟩ : 0x80000 ≤ ea ∧ ea + n ≤ 0x100000 := of_decide_eq_true hin
    obtain ⟨d, x, hown⟩ := engineOf_atomicEnd (e := e) (n := n) (rd := rd) old ea new held hengines
    simp only [hown, clusterOf_atomicEnd]
    refine ⟨?_, trivial, trivial, fun i hi => ?_, fun k hk => ?_⟩
    · exact (Engine.sreg_setS (v := { engineOf s e with data := d, flips := x }) hregs hrd _ rd).trans (if_pos rfl)
    · rw [pad_eaStore hclusters hpad hlow hhigh, if_pos (by omega), Nat.add_sub_cancel_left]
    · rw [pad_eaStore hclusters hpad hlow hhigh, if_neg (by omega)]

end Sys2Proof.Machine
end

section

/-! ## The frame of the register instructions (R380, R384, R388 to R392) -/

namespace Sys2Proof.Machine

/-- What a register instruction leaves of its engine: everything but registers, flags of st and where it goes on. -/
structure KeepsEngine (v w : Engine) : Prop where
  data : w.data = v.data
  stage : w.stage = v.stage
  mdone : w.mdone = v.mdone
  epc : w.epc = v.epc
  running : w.running = v.running
  cycles : w.cycles = v.cycles

section KeepsEngine

variable (v : Engine)

theorem KeepsEngine.refl : KeepsEngine v v := ⟨rfl, rfl, rfl, rfl, rfl, rfl⟩

theorem KeepsEngine.trans {v w x : Engine} (h : KeepsEngine v w) (k : KeepsEngine w x) : KeepsEngine v x :=
  ⟨k.data.trans h.data, k.stage.trans h.stage, k.mdone.trans h.mdone, k.epc.trans h.epc, k.running.trans h.running,
    k.cycles.trans h.cycles⟩

theorem setS_keepsEngine (i : BitVec 5) (x : BitVec 32) : KeepsEngine v (v.setS i x) := by
  unfold Engine.setS
  split
  · exact .refl v
  · exact ⟨rfl, rfl, rfl, rfl, rfl, rfl⟩

theorem setP_keepsEngine (i : BitVec 3) (x : BitVec 16) : KeepsEngine v (v.setP i x) := by
  unfold Engine.setP
  split
  · exact .refl v
  · exact ⟨rfl, rfl, rfl, rfl, rfl, rfl⟩

theorem v_sat_keepsEngine (t : Tab (BitVec 256)) (b : Bool) : KeepsEngine v { v with v := t, sat := b } :=
  ⟨rfl, rfl, rfl, rfl, rfl, rfl⟩

theorem setV_keepsEngine (i : BitVec 5) (x : BitVec 256) : KeepsEngine v (v.setV i x) := v_sat_keepsEngine v _ v.sat

theorem writeLanes_keepsEngine (vd : BitVec 5) (p : BitVec 16) (f : Nat → Nat × Bool) : KeepsEngine v (v.writeLanes vd p f) := by
  rw [Engine.writeLanes_eq]
  exact v_sat_keepsEngine ..

theorem setLanes_keepsEngine (k : BitVec 2) (p : BitVec 16) (f : Nat → BitVec 40) : KeepsEngine v (v.setLanes k p f) := by
  unfold Engine.setLanes
  induction activeLanes p generalizing v with
  | nil => exact .refl v
  | cons i l ih => exact .trans (w := v.setAcc k i (f i)) ⟨rfl, rfl, rfl, rfl, rfl, rfl⟩ (ih _)

theorem aovf_keepsEngine (b : Bool) : KeepsEngine v { v with aovf := b } := ⟨rfl, rfl, rfl, rfl, rfl, rfl⟩

theorem dz_keepsEngine (b : Bool) : KeepsEngine v { v with dz := b } := ⟨rfl, rfl, rfl, rfl, rfl, rfl⟩

end KeepsEngine

/-- An instruction that issues goes on with registers changed alone. -/
def GoesOn (s : State) (i : Instr) : Prop :=
  ∃ v, KeepsEngine (engineOf s (eddyEngine i)) v ∧ exec i s = .next (goTo (eddyEngine i) (pcAfter s i) v s)

theorem goesOn_of {s : State} {i : Instr} (h : Issues s i) {f : State → State} (hexec : exec i s = issue (eddyEngine i) i f s)
    {v : Engine} (hf : f s = goTo (eddyEngine i) (pcAfter s i) v s) (hv : KeepsEngine (engineOf s (eddyEngine i)) v) :
    GoesOn s i :=
  ⟨v, hv, hexec.trans (issue_goTo h hf)⟩

/-- Each group of register instructions changes registers in its own way. -/
theorem registersOnly_goesOn {s : State} {i : Instr} (hi : i.registersOnly = true) (h : Issues s i) : GoesOn s i := by
  cases i with
  | add | sub | and | or | xor | shl | shr | sra | slt | sltu | min | minu | max | maxu | mul | mulh | mulhu | addi | andi | ori |
    xori | slti | sltiu | shli | shri | srai | lui | jal | jalr | pget => exact goesOn_of h rfl rfl (setS_keepsEngine ..)
  | vadd | vsub | vadds | vsubs | vaddus | vsubus | vaddsu | vmin | vmax | vminu | vmaxu | vand | vor | vxor | vshl | vshr | vsra |
    vmul | vmulh | vmulhu | vabsdu | vavgu | vshli | vshri | vsrai | vaddi | vmov | vclz | vlane | vmvs =>
    exact goesOn_of h rfl rfl (writeLanes_keepsEngine ..)
  | vrcp | vrsqrt => exact goesOn_of h rfl rfl (.trans (dz_keepsEngine ..) (writeLanes_keepsEngine ..))
  | vsel => exact goesOn_of h rfl rfl (setV_keepsEngine ..)
  | pand | por | pxor | pandn | pset => exact goesOn_of h rfl rfl (setP_keepsEngine ..)
  | aclr => exact goesOn_of h rfl rfl (setLanes_keepsEngine ..)
  | vmac | aset => exact goesOn_of h rfl rfl (.trans (setLanes_keepsEngine ..) (aovf_keepsEngine ..))
  | _ => exact nomatch hi

/-- Going on writes no register but those of the counters' overflow. -/
theorem rd_goTo {j : Nat} (hflags : j ≠ Reg.PERF_FLAGS) (hcount : j ≠ Reg.PERF_FLAG_CNT) (e pc : Nat) (v : Engine) (s : State) :
    rd (goTo e pc v s) j = rd s j :=
  rd_countEvent hflags hcount ..

/-- Settles O57: the next state is that of going on, whose frame is known. -/
theorem registerFrame : Obligations.RegisterFrame := by
  intro s t i hi h hexec hwf
  obtain ⟨v, hv, hgo⟩ := registersOnly_goesOn hi h
  obtain rfl := Host.Outcome.next.inj (hgo.symm.trans hexec)
  obtain ⟨hpending, -, hout, hhost, hpipe, htables, hraster, -⟩ := goTo_frame (eddyEngine i) (pcAfter s i) v s
  have hown := (engineOf_goTo hwf (eddyEngine i) (pcAfter s i) (eddyEngine i) v).trans (if_pos rfl)
  rw [hown]
  exact ⟨fun f hf => (engineOf_goTo hwf ..).trans (if_neg hf), hv.data, hv.stage, hv.mdone, hv.epc, goTo_clusters .., htables,
    hhost, hpipe, hraster, hout, hpending, fun k hflags hcount _ => rd_goTo hflags hcount ..⟩

end Sys2Proof.Machine
end

section

/-! ## Control instructions (R395 to R405) -/

namespace Sys2Proof.Machine

section Control

variable {s : State} {e : Nat}

/-! ### The end of a bank cycle -/

theorem fresh_inCycle (h : (clusterOf s (e / 8)).portA = []) (f : State → State) : (inCycle e f s).fresh = (f s).fresh := by
  unfold inCycle closePort
  rw [if_pos h]
  split
  · rfl
  · split <;> rfl

theorem engineOf_inCycle (h : (clusterOf s (e / 8)).portA = []) (f : State → State) (g : Nat) :
    engineOf (inCycle e f s) g = engineOf (f s) g := by
  unfold inCycle closePort
  rw [if_pos h]
  split
  · rfl
  · split <;> rfl

/-! ### Mover requests (R395, R396) -/

/-- The slot that a request takes: a free value chooses it. -/
def requestSlot (s : State) (e : Nat) : Nat :=
  (freeSlots (clusterOf s (e / 8))).getD (Config.freeValue s.fresh % (freeSlots (clusterOf s (e / 8))).length) 0

theorem requestSlot_free (h : freeSlots (clusterOf s (e / 8)) ≠ []) : requestSlot s e ∈ freeSlots (clusterOf s (e / 8)) := by
  have hlt := Nat.mod_lt (Config.freeValue s.fresh) (List.length_pos_iff.2 h)
  rw [requestSlot, List.getD_eq_getElem _ _ hlt]
  exact List.getElem_mem hlt

/-- The engine as mvq leaves it, but for pc and the count of instructions. -/
def requested (rd : BitVec 5) (s : State) (e : Nat) : Engine :=
  { (engineOf s e).setS rd (BitVec.ofNat 32 (requestSlot s e)) with
    tags := (engineOf s e).tags ||| BitVec.ofNat 16 (2 ^ requestSlot s e), stall := .free }

/-- The cluster with one more request in its queue. -/
def withRequest (s : State) (e ea : Nat) : Cluster :=
  { clusterOf s (e / 8) with queue := (clusterOf s (e / 8)).queue ++
    [{ readRequest e (eaRead s e ea 16) with tag := requestSlot s e }] }

theorem moveQueue_fits {rd ra : BitVec 5} (h : RequestFits s e (alignEa ((engineOf s e).sreg ra).toNat 16)) :
    moveQueue e rd ra s = spend (countEvent (unitOfCluster (e / 8)) 0x15 1 (goTo e ((engineOf s e).pc + 4) (requested rd s e)
      (setCluster (e / 8) (withRequest s e (alignEa ((engineOf s e).sreg ra).toNat 16)) s))) := by
  obtain ⟨⟨k, hk, hin⟩, hquiet, hok, hfree⟩ := h
  unfold moveQueue
  simp only [hk, hin, Bool.not_true, Bool.false_eq_true, if_false]
  rw [eccAccess_quiet hquiet]
  unfold queueRequest
  simp only [hok, Bool.not_true, Bool.false_eq_true, if_false, if_neg hfree]
  rfl

/-! A request's events and free values leave the engines and clusters that it leaves. -/

theorem clusterOf_moved (pc c : Nat) (v : Engine) (s : State) :
    clusterOf (spend (countEvent (unitOfCluster (e / 8)) 0x15 1 (goTo e pc v s))) c = clusterOf s c := by
  simp only [clusterOf, spend, countEvent_frame, goTo_clusters]

theorem engineOf_moved (hwf : EnginesWf s) (pc : Nat) (v : Engine) :
    engineOf (spend (countEvent (unitOfCluster (e / 8)) 0x15 1 (goTo e pc v s))) e =
      { v with pc := pc, cycles := v.cycles + 1 } := by
  refine Eq.trans ?_ ((engineOf_goTo hwf e pc e v).trans (if_pos rfl))
  simp only [engineOf, spend, countEvent_frame]

theorem fresh_moved (pc : Nat) (v : Engine) (k : Cluster) (c : Nat) (s : State) :
    (spend (countEvent (unitOfCluster (e / 8)) 0x15 1 (goTo e pc v (setCluster c k s)))).fresh = s.fresh + 2 ^ 20 := by
  simp only [spend, countEvent_frame, goTo_frame, setCluster_frame]

/-! ### Waits (R399), CSRs (R402) -/

theorem waitFor_holds {m : Nat} (h0 : m ≠ 0) (h : waitHolds (engineOf s e) m = true) :
    waitFor e m s = goTo e ((engineOf s e).pc + 4) (engineOf s e) s := by
  rw [waitFor, if_neg h0, if_pos h]
  rfl

theorem waitFor_stalls {m : Nat} (h0 : m ≠ 0) (h : waitHolds (engineOf s e) m = false) :
    waitFor e m s = stallAt e (.waiting m) s := by
  rw [waitFor, if_neg h0, if_neg (by simp [h])]

theorem handlerReturn_in (h : (engineOf s e).inh = true) :
    handlerReturn e s = goTo e (engineOf s e).epc { engineOf s e with inh := false } s := if_pos h

theorem handlerReturn_out (h : (engineOf s e).inh = false) : handlerReturn e s = kernelFault e 1 s :=
  if_neg (Bool.eq_false_iff.1 h)

theorem toNat_ne_zero {n : Nat} {m : BitVec n} (h : m ≠ 0) : m.toNat ≠ 0 := fun h0 => h (BitVec.eq_of_toNat_eq (by simpa using h0))

end Control

/-- Settles O55: mover requests, then barriers, waits, CSRs, handler return and halt. -/
theorem eddyControl : Obligations.EddyControl := by
  rintro s e v rfl
  refine ⟨?mvq, fun id h hoff => issue_goTo h (congrFun (if_neg (Bool.eq_false_iff.1 hoff)) s), fun id h hon => issue_goTo h (congrFun (if_pos hon) s),
    fun m h h0 hm => issue_goTo h (waitFor_holds (toNat_ne_zero h0) hm),
    fun m h h0 hm => issue_goTo h (waitFor_stalls (toNat_ne_zero h0) hm), fun h => issue_inCycle h (if_pos rfl),
    fun rd c h hc => issue_spend_goTo h (if_neg (by omega)), fun ra h => issue_goTo h ?mdone, fun ra h => issue_goTo h rfl,
    fun ra h => issue_goTo h rfl, fun ra h => issue_goTo h rfl, fun h hin => issue_goTo h (handlerReturn_in hin),
    fun h hout => issue_inCycle h (handlerReturn_out hout), fun h => issue_goTo h rfl⟩
  case mvq =>
    intro rd ra h hfits
    have hmove := moveQueue_fits (rd := rd) hfits
    refine ⟨_, _, issue_runs h _, requestSlot_free hfits.2.2.2, ?_, fun hwf => ?_, fun hwf => ?_⟩
    · rw [fresh_inCycle h.2.2, hmove, fresh_moved]
    · have hcluster := (congrArg (clusterOf · (e / 8)) hmove).trans ((clusterOf_moved ..).trans
        ((clusterOf_setCluster hwf ..).trans (if_pos rfl)))
      have hport : (clusterOf (moveQueue e rd ra s) (e / 8)).portA = [] := (congrArg Cluster.portA hcluster).trans h.2.2
      rw [inCycle_closed h.2.2 hport]
      exact congrArg Cluster.queue hcluster
    · rw [engineOf_inCycle h.2.2, hmove, engineOf_moved (s := setCluster ..) hwf]
      rfl
  case mdone =>
    rw [BitVec.ofNat_toNat]
    rfl

/-! ## Every instruction completes (O56) -/

/-- An instruction completes where the rules say, running on and counted once. -/
def Completes (s : State) (i : Instr) : Prop :=
  ∃ t v, exec i s = .next t ∧ Leaves (eddyEngine i) v s t ∧ v.pc = pcAfter s i ∧ v.running = (engineOf s (eddyEngine i)).running ∧
    v.cycles = (engineOf s (eddyEngine i)).cycles + 1

/-- What follows an instruction's going on keeps the engine: an event is counted, free values are used up, the bank cycle ends. -/
theorem Leaves.ends {e : Nat} {s t : State} {v : Engine} {f : State → State} (hport : (clusterOf s (e / 8)).portA = [])
    (h : Leaves e v s t) (unit ev : Nat) (hf : f s = spend (countEvent unit ev 1 t)) : Leaves e v s (inCycle e f s) := by
  have hspent : QuietAccess e (countEvent unit ev 1 t) (f s) := hf ▸ .of_array rfl rfl rfl rfl rfl
  exact ((h.quiet (quiet_countEvent ..)).quiet hspent).quiet (quiet_inCycle hport f)

/-- What an atomic leaves of its engine: beside memory, rd, st.sat and where it goes on. -/
theorem inCycle_atomic {e : Nat} {s : State} (hwf : EnginesWf s) (hport : (clusterOf s (e / 8)).portA = []) (rd : BitVec 5)
    (old ea n new : Nat) (held : Bool) : ∃ v, Leaves e v s (inCycle e (atomicEnd e rd old ea n new held) s) ∧
      v.pc = (engineOf s e).pc + 4 ∧ v.running = (engineOf s e).running ∧ v.cycles = (engineOf s e).cycles + 1 := by
  have hstore := frame_eaStore (e := e) ((leBytes n new).zipIdx.map fun b => (ea + b.2, b.1)) s
  have hatomic : atomicEnd e rd old ea n new held s = spend (countEvent (unitOfCluster (e / 8)) 0x14 1 (advance e
      (fun v => { v.setS rd (BitVec.ofNat 32 old) with sat := v.sat || held })
      (eaStore e ((leBytes n new).zipIdx.map fun b => (ea + b.2, b.1)) s))) := rfl
  revert hstore hatomic
  generalize eaStore e ((leBytes n new).zipIdx.map fun b => (ea + b.2, b.1)) s = u
  intro hstore hatomic
  obtain ⟨hwfStore, -, d, x, hown⟩ := hstore.engines hwf
  have hkept := setS_keepsEngine (engineOf u e) rd (BitVec.ofNat 32 old)
  have hrun : (engineOf u e).running = (engineOf s e).running := by rw [hown]
  have hcycles : (engineOf u e).cycles = (engineOf s e).cycles := by rw [hown]
  have hpc : (engineOf u e).pc = (engineOf s e).pc := by rw [hown]
  exact ⟨_, (hstore.leaves hwf (goTo_leaves hwfStore ..)).ends hport _ _ hatomic, congrArg (· + 4) hpc, hkept.running.trans hrun,
    congrArg (· + 1) (hkept.cycles.trans hcycles)⟩

section Completes

variable {s : State} {i : Instr} (h : Issues s i) (hwf : EnginesWf s)
include h hwf

theorem completes_goTo {f : State → State} (hexec : exec i s = issue (eddyEngine i) i f s) {v : Engine} {pc : Nat}
    (hpc : pc = pcAfter s i) (hf : f s = goTo (eddyEngine i) pc v s) (hrun : v.running = (engineOf s (eddyEngine i)).running)
    (hcycles : v.cycles = (engineOf s (eddyEngine i)).cycles) : Completes s i :=
  ⟨_, _, hexec.trans (issue_goTo h hf), goTo_leaves hwf pc v, hpc, hrun, congrArg (· + 1) hcycles⟩

theorem completes_spend {f : State → State} (hexec : exec i s = issue (eddyEngine i) i f s) {v : Engine}
    (hpc : (engineOf s (eddyEngine i)).pc + 4 = pcAfter s i)
    (hf : f s = spend (goTo (eddyEngine i) ((engineOf s (eddyEngine i)).pc + 4) v s)) (hv : KeepsEngine (engineOf s (eddyEngine i)) v) :
    Completes s i :=
  ⟨_, _, hexec.trans (issue_spend_goTo h hf), (goTo_leaves hwf _ v).quiet (.of_array rfl rfl rfl rfl rfl), hpc, hv.running,
    congrArg (· + 1) hv.cycles⟩

theorem completes_store {bytes : List (Nat × Byte)} (hpc : (engineOf s (eddyEngine i)).pc + 4 = pcAfter s i)
    (hexec : exec i s = .next (inCycle (eddyEngine i) (fun t =>
      advance (eddyEngine i) (fun v => v) (eaWrite (eddyEngine i) bytes t)) s)) : Completes s i := by
  obtain ⟨d, x, hleaves⟩ := inCycle_stores hwf h.2.2 bytes
  exact ⟨_, _, hexec, hleaves, hpc, rfl, rfl⟩

theorem completes_atomic (hpc : (engineOf s (eddyEngine i)).pc + 4 = pcAfter s i) {rd : BitVec 5} {old ea n new : Nat} {held : Bool}
    (hexec : exec i s = .next (inCycle (eddyEngine i) (atomicEnd (eddyEngine i) rd old ea n new held) s)) : Completes s i := by
  obtain ⟨v, hleaves, hgo, hrun, hcycles⟩ := inCycle_atomic hwf h.2.2 rd old ea n new held
  exact ⟨_, v, hexec, hleaves, hgo.trans hpc, hrun, hcycles⟩

theorem completes_request (hpc : (engineOf s (eddyEngine i)).pc + 4 = pcAfter s i) {rd ra : BitVec 5}
    (hexec : exec i s = issue (eddyEngine i) i (moveQueue (eddyEngine i) rd ra) s)
    (hfits : RequestFits s (eddyEngine i) (alignEa ((engineOf s (eddyEngine i)).sreg ra).toNat 16)) : Completes s i := by
  have hqueued := AccessFrame.setCluster (e := eddyEngine i)
    (withRequest s (eddyEngine i) (alignEa ((engineOf s (eddyEngine i)).sreg ra).toNat 16)) s
  have hgo := hqueued.leaves hwf (goTo_leaves (hqueued.engines hwf).1 ((engineOf s (eddyEngine i)).pc + 4)
    (requested rd s (eddyEngine i)))
  have hkept := setS_keepsEngine (engineOf s (eddyEngine i)) rd (BitVec.ofNat 32 (requestSlot s (eddyEngine i)))
  exact ⟨_, _, hexec.trans (issue_runs h _), hgo.ends h.2.2 _ _ (moveQueue_fits hfits), hpc, hkept.running,
    congrArg (· + 1) hkept.cycles⟩

end Completes

/-- An engine that fetches runs a kernel. -/
theorem running_of_issues {s : State} {i : Instr} (h : Issues s i) : (engineOf s (eddyEngine i)).running = true := by
  obtain ⟨⟨w, -, hnext⟩, -⟩ := h
  by_contra hoff
  have hidle : canIssue s (eddyEngine i) = none := if_neg fun hall => hoff hall.2.1
  rw [nextWord, hidle] at hnext
  cases hnext

theorem condHolds_defined {c : BitVec 3} (h : c.toNat < 6) (x y : BitVec 32) : ∃ b, condHolds c x y = some b := by
  have hcases : c.toNat = 0 ∨ c.toNat = 1 ∨ c.toNat = 2 ∨ c.toNat = 3 ∨ c.toNat = 4 ∨ c.toNat = 5 := by omega
  unfold condHolds
  rcases hcases with hc | hc | hc | hc | hc | hc <;> rw [hc] <;> exact ⟨_, rfl⟩

theorem setCsr_keeps (v : Engine) (c : BitVec 3) (x : BitVec 32) :
    (v.setCsr c x).running = v.running ∧ (v.setCsr c x).cycles = v.cycles := by
  unfold Engine.setCsr
  split <;> exact ⟨rfl, rfl⟩

/-- Under what Legal asks of it, every instruction completes. -/
theorem completes_of_legal {s : State} {i : Instr} (h : Issues s i) (hlegal : Legal s i) (hwf : EnginesWf s) : Completes s i := by
  by_cases hreg : i.registersOnly = true
  · obtain ⟨v, hv, hgo⟩ := registersOnly_goesOn hreg h
    exact ⟨_, _, hgo, goTo_leaves hwf _ v, rfl, hv.running, congrArg (· + 1) hv.cycles⟩
  cases i with
  | br e c ra rb off =>
    obtain ⟨b, hb⟩ := condHolds_defined hlegal ((engineOf s e).sreg ra) ((engineOf s e).sreg rb)
    have htaken : b = true ↔ condHolds c ((engineOf s e).sreg ra) ((engineOf s e).sreg rb) = some true := by
      rw [hb, Option.some_inj]
    exact completes_goTo h hwf rfl (if_congr htaken rfl rfl) (branch_taken hb off) rfl rfl
  | vcmp e pg pd c va vb =>
    have hc : c.toNat < 6 := hlegal
    exact completes_goTo h hwf rfl rfl (compareLanes_defined (by omega)) (setP_keepsEngine ..).running (setP_keepsEngine ..).cycles
  | vrnd e pg k vd n m =>
    have hm : m.toNat < 3 := hlegal
    exact completes_goTo h hwf rfl rfl (if_neg (by omega)) (writeLanes_keepsEngine ..).running (writeLanes_keepsEngine ..).cycles
  | lw | lh | lhu | lb | lbu => exact completes_spend h hwf rfl rfl (loadS_reaches hlegal) (setS_keepsEngine ..)
  | vld => exact completes_spend h hwf rfl rfl (vectorLoad_reaches hlegal) (writeLanes_keepsEngine ..)
  | vldb => exact completes_spend h hwf rfl rfl (vectorBroadcast_reaches hlegal) (writeLanes_keepsEngine ..)
  | lut1 | lut2 => exact completes_spend h hwf rfl rfl (lookup_reaches (fun _ => rfl) hlegal) (writeLanes_keepsEngine ..)
  | csrr e rd c =>
    have hc : c.toNat ≤ 5 := hlegal
    exact completes_spend h hwf rfl rfl (if_neg (by omega)) (setS_keepsEngine ..)
  | csrw e ra c =>
    have hc : c.toNat ≤ 5 := hlegal
    obtain ⟨hrun, hcycles⟩ := setCsr_keeps (engineOf s e) c ((engineOf s e).sreg ra)
    exact completes_goTo h hwf rfl rfl (if_neg (by omega)) hrun hcycles
  | sw | sh | sb => exact completes_store h hwf rfl (issue_storeS h hlegal.1)
  | vst => exact completes_store h hwf rfl (issue_inCycle h (vectorStore_reaches hlegal.1))
  | aaddH | aaddW | aaddsH | aaddsW | aswpH | aswpW =>
    exact completes_atomic h hwf rfl (issue_inCycle h (atomic_reaches hlegal rfl rfl))
  | mvq => exact completes_request h hwf rfl rfl hlegal
  | bar e id =>
    by_cases hon : (engineOf s e).frameJob = true
    · exact completes_goTo h hwf rfl (if_pos hon).symm (congrFun (if_pos hon) s) rfl rfl
    · exact completes_goTo h hwf rfl (if_neg hon).symm (congrFun (if_neg hon) s) rfl rfl
  | wait e m =>
    have h0 := toNat_ne_zero hlegal
    by_cases hholds : waitHolds (engineOf s e) m.toNat = true
    · exact completes_goTo h hwf rfl (if_pos hholds).symm (waitFor_holds h0 hholds) rfl rfl
    · exact completes_goTo h hwf rfl (if_neg hholds).symm (waitFor_stalls h0 (Bool.eq_false_iff.2 hholds)) rfl rfl
  | eret => exact completes_goTo h hwf rfl rfl (handlerReturn_in hlegal) rfl rfl
  | halt => exact completes_goTo h hwf rfl rfl rfl rfl rfl
  | add | sub | and | or | xor | shl | shr | sra | slt | sltu | min | minu | max | maxu | mul | mulh | mulhu | addi | andi | ori |
    xori | slti | sltiu | shli | shri | srai | lui | jal | jalr | pget | vadd | vsub | vadds | vsubs | vaddus | vsubus | vaddsu |
    vmin | vmax | vminu | vmaxu | vand | vor | vxor | vshl | vshr | vsra | vmul | vmulh | vmulhu | vabsdu | vavgu | vshli | vshri |
    vsrai | vaddi | vmov | vclz | vlane | vmvs | vrcp | vrsqrt | vsel | pand | por | pxor | pandn | pset | aclr | vmac | aset =>
    exact absurd rfl hreg
  | _ => exact nomatch h.1.choose_spec.1

/-- Settles O56: a completed instruction's engine and the parts of the state that it leaves. -/
theorem eddyCompletes : Obligations.EddyCompletes := by
  intro s i h hlegal hwf
  obtain ⟨t, v, hexec, hleaves, hpc, hrun, hcycles⟩ := completes_of_legal h hlegal hwf
  obtain ⟨x, hown⟩ := hleaves.own
  refine ⟨t, hexec, ?_, ?_, ?_, hleaves.host, hleaves.pipe, hleaves.tables, hleaves.out⟩
  · rw [hown]; exact hpc
  · rw [hown]; exact hrun.trans (running_of_issues h)
  · rw [hown]; exact hcycles

end Sys2Proof.Machine
end

section

/-! ## Counter wraps (R493, R496) -/

namespace Sys2Proof.Machine

/-- The counters are in canonical form. -/
abbrev CtrsWf (s : State) : Prop := keysAbove 0 s.perf.ctrs = true

section Counters

variable {s : State} {n v : Nat}

theorem ctr_setCtr (h : CtrsWf s) (n j : Nat) (c : Ctr) : ctr (setCtr n c s) j = if j = n then c else ctr s j :=
  tabGet_set _ h n j c

theorem ctrsWf_setCtr (h : CtrsWf s) (n : Nat) (c : Ctr) : CtrsWf (setCtr n c s) :=
  keysAbove_set (fun _ => ({} : Ctr)) h n c

theorem ctr_flagOverflow (s : State) (j : Nat) : ctr (flagOverflow s) j = ctr s j := rfl

/-- A counter that does not wrap takes the sum. -/
theorem ctrAddOne_below (hsum : (ctr s n).value + v < 2 ^ 48) :
    ctrAddOne n v s = setCtr n { ctr s n with value := (ctr s n).value + v } s := if_pos hsum

/-- One that wraps takes the rest, counts one wrap and raises the flag: v lies below 2^48. -/
theorem ctrAddOne_wraps (hvalue : (ctr s n).value < 2 ^ 48) (hv : v < 2 ^ 48) (hsum : 2 ^ 48 ≤ (ctr s n).value + v) :
    ctrAddOne n v s = flagOverflow (setCtr n
      { value := (ctr s n).value + v - 2 ^ 48, ovf := min 255 ((ctr s n).ovf + 1) } s) := by
  have hquot : ((ctr s n).value + v) / 2 ^ 48 = 1 := by omega
  have hrem : ((ctr s n).value + v) % 2 ^ 48 = (ctr s n).value + v - 2 ^ 48 := by omega
  have hovf : satAdd 8 (ctr s n).ovf 1 = min 255 ((ctr s n).ovf + 1) := Nat.min_comm ..
  unfold ctrAddOne
  rw [if_neg (by omega), hquot, hrem, hovf]

theorem ctrAdd_unchained (h : ctrChained s n = false) : ctrAdd n v s = ctrAddOne n v s := if_neg (by simp [h])

/-- A chained even counter holds its sum modulo 2^48. -/
theorem ctrAdd_chained (heven : n % 2 = 0) (h : ctrChained s n = true) : ctrAdd n v s =
    if (ctr s n).value + v < 2 ^ 48 then setCtr n { ctr s n with value := ((ctr s n).value + v) % 2 ^ 48 } s
    else ctrCarry n (((ctr s n).value + v) / 2 ^ 48)
      (flagOverflow (setCtr n { ctr s n with value := ((ctr s n).value + v) % 2 ^ 48 } s)) := by
  have hchain : (ctrChained s n && decide (n % 2 = 0)) = true := by simp [h, heven]
  have hzero : ((ctr s n).value + v) / 2 ^ 48 = 0 ↔ (ctr s n).value + v < 2 ^ 48 := by omega
  unfold ctrAdd
  rw [if_pos hchain]
  exact if_congr hzero rfl rfl

theorem rdB_flagOverflow_setCtr (n m : Nat) (c : Ctr) (s : State) (f : Nat × Nat) :
    rdB (flagOverflow (setCtr n c s)) (Reg.PERF_CTRn_CFG m) f = rdB s (Reg.PERF_CTRn_CFG m) f := by
  have hflags : Reg.PERF_CTRn_CFG m ≠ Reg.PERF_FLAGS := by unfold Reg.PERF_CTRn_CFG Reg.PERF_FLAGS; omega
  have hcount : Reg.PERF_CTRn_CFG m ≠ Reg.PERF_FLAG_CNT := by unfold Reg.PERF_CTRn_CFG Reg.PERF_FLAG_CNT; omega
  rw [rdB, rdF, rd_flagOverflow hflags hcount]
  rfl

theorem rdF_flagOverflow (h : RegsCanonical s) : rdF (flagOverflow s) Reg.PERF_FLAGS (0, 1) = 1 := by
  rw [flagOverflow, bumpSat, rdF_wrF_other (canonical_wrF h ..) _ _ _ (by decide), rdF_wrF_same h _ _ (by decide)]
  rfl

theorem canonical_setCtr (h : RegsCanonical s) (n : Nat) (c : Ctr) : RegsCanonical (setCtr n c s) := h

/-! ### A chained pair -/

/-- The pair after an even counter counted v with its odd partner enabled. -/
theorem ctrAdd_pair (hwf : CtrsWf s) (hlow : (ctr s n).value < 2 ^ 48) (hhigh : (ctr s (n + 1)).value < 2 ^ 48) (hv : v < 2 ^ 48)
    (heven : n % 2 = 0) (hchain : ctrChained s n = true)
    (hon : rdB s (Reg.PERF_CTRn_CFG (n + 1)) Fld.PERF_CTRn_CFG_enable = true) :
    ctr (ctrAdd n v s) n = { ctr s n with value := ((ctr s n).value + v) % 2 ^ 48 } ∧
    ctr (ctrAdd n v s) (n + 1) = if (ctr s n).value + v < 2 ^ 48 then ctr s (n + 1)
      else if (ctr s (n + 1)).value + 1 < 2 ^ 48 then { ctr s (n + 1) with value := (ctr s (n + 1)).value + 1 }
      else { value := 0, ovf := min 255 ((ctr s (n + 1)).ovf + 1) } := by
  have hne : n + 1 ≠ n := by omega
  rw [ctrAdd_chained heven hchain]
  split
  · simp [ctr_setCtr hwf]
  · next hwraps =>
    have hquot : ((ctr s n).value + v) / 2 ^ 48 = 1 := by omega
    rw [hquot, ctrCarry, rdB_flagOverflow_setCtr, if_pos hon]
    have hwfLow := ctrsWf_setCtr hwf n { ctr s n with value := ((ctr s n).value + v) % 2 ^ 48 }
    have heq := (ctr_setCtr hwf n n { ctr s n with value := ((ctr s n).value + v) % 2 ^ 48 }).trans (if_pos rfl)
    have hodd := (ctr_setCtr hwf n (n + 1) { ctr s n with value := ((ctr s n).value + v) % 2 ^ 48 }).trans (if_neg hne)
    rw [← ctr_flagOverflow] at heq hodd
    split
    · next hfits =>
      rw [ctrAddOne_below (by rw [hodd]; exact hfits), hodd]
      exact ⟨(ctr_setCtr hwfLow ..).trans ((if_neg hne.symm).trans heq), (ctr_setCtr hwfLow ..).trans (if_pos rfl)⟩
    · next hover =>
      rw [ctrAddOne_wraps (by rw [hodd]; exact hhigh) (by decide) (by rw [hodd]; omega), hodd, ctr_flagOverflow, ctr_flagOverflow,
        show (ctr s (n + 1)).value + 1 - 2 ^ 48 = 0 by omega]
      exact ⟨(ctr_setCtr hwfLow ..).trans ((if_neg hne.symm).trans heq), (ctr_setCtr hwfLow ..).trans (if_pos rfl)⟩

/-- With its odd partner not enabled an even counter keeps its sum alone. -/
theorem ctrAdd_single (hwf : CtrsWf s) (heven : n % 2 = 0) (hchain : ctrChained s n = true)
    (hoff : rdB s (Reg.PERF_CTRn_CFG (n + 1)) Fld.PERF_CTRn_CFG_enable = false) :
    (ctr (ctrAdd n v s) n).value = ((ctr s n).value + v) % 2 ^ 48 ∧ ctr (ctrAdd n v s) (n + 1) = ctr s (n + 1) := by
  rw [ctrAdd_chained heven hchain, ctrCarry, rdB_flagOverflow_setCtr, if_neg (Bool.eq_false_iff.1 hoff)]
  split
  · simp [ctr_setCtr hwf]
  · simp [ctr_flagOverflow, ctr_setCtr hwf]

end Counters

/-- Settles O7: a single counter below its wrap and at it, then a chained pair with its odd partner enabled and not. -/
theorem counterWraps : Obligations.CounterWraps := by
  intro s n v hwf hlow hhigh hv
  refine ⟨fun hsingle hsum => ?below, fun hsingle hsum => ?wraps, fun heven hchain _ hon => ?pair,
    fun heven hchain _ hoff => ctrAdd_single hwf heven hchain hoff⟩
  case below =>
    rw [ctrAdd_unchained hsingle, ctrAddOne_below hsum]
    exact ⟨(ctr_setCtr hwf ..).trans (if_pos rfl), rfl⟩
  case wraps =>
    rw [ctrAdd_unchained hsingle, ctrAddOne_wraps hlow hv hsum]
    exact ⟨(ctr_flagOverflow ..).trans ((ctr_setCtr hwf ..).trans (if_pos rfl)), fun hregs => rdF_flagOverflow (canonical_setCtr hregs ..)⟩
  case pair =>
    obtain ⟨heq, hodd⟩ := ctrAdd_pair hwf hlow hhigh hv heven hchain hon
    have hvalue : (ctr (ctrAdd n v s) (n + 1)).value = if (ctr s n).value + v < 2 ^ 48 then (ctr s (n + 1)).value
        else if (ctr s (n + 1)).value + 1 < 2 ^ 48 then (ctr s (n + 1)).value + 1 else 0 := by
      rw [hodd]
      split_ifs <;> rfl
    have hovf : (ctr (ctrAdd n v s) (n + 1)).ovf = if (ctr s n).value + v < 2 ^ 48 then (ctr s (n + 1)).ovf
        else if (ctr s (n + 1)).value + 1 < 2 ^ 48 then (ctr s (n + 1)).ovf else min 255 ((ctr s (n + 1)).ovf + 1) := by
      rw [hodd]
      split_ifs <;> rfl
    have heven' : (ctr (ctrAdd n v s) n).value = ((ctr s n).value + v) % 2 ^ 48 := by rw [heq]
    refine ⟨by rw [heq], heven', ?_, ?_⟩
    · rw [hvalue, heven']
      split_ifs <;> omega
    · rw [hovf]
      split_ifs <;> omega

end Sys2Proof.Machine
end

section

/-! ## The events of an engine (O44) -/

namespace Sys2Proof.Machine

/-- A device in RUN with patrol off, and two entries for cluster 0, which no run of the device leaves: the second is shadowed by the
first, until a write of the default erases that. -/
def shadowedCluster : State := wrF Reg.ENG_CTRL Fld.ENG_CTRL_patrol_en 0 { State.reset with
  power := { State.reset.power with state := .run }
  array := { State.reset.array with clusters := [(0, {}), (0, { passLeft := some 5 })] } }

/-- Refutes O44: the last clause does not ask that the clusters are in canonical form. Spoiling a word of cluster 0 by no bit writes
the default cluster, which erases the first entry; the cluster is then the second one, which has a pass of patrol left, and the
visit is made: its region is taken. -/
theorem not_engineEvents : ¬ Obligations.EngineEvents := by
  intro h
  obtain ⟨-, -, -, -, -, -, -, -, -, -, -, -, -, -, -, -, -, -, hvisit⟩ := h shadowedCluster 0
  have hspoiled := Host.Outcome.next.inj (hvisit false 0 (0, 0) (by decide) (by decide +kernel))
  have hregion := congrArg (fun t => (clusterOf t 0).region) hspoiled
  exact absurd hregion (by decide +kernel)

end Sys2Proof.Machine
end

section

/-! ## The state after reset (O3) -/

namespace Sys2Proof.Machine

/-- No register is written yet, so each reads its reset value. -/
theorem rd_reset (k : Nat) : rd State.reset k = regReset k := rfl

theorem lanes_off_at_reset : ∀ l < 2, ∀ a < (if l = 0 then 32 else 128), laneIs State.reset l a Lane.off = true := by
  decide +kernel

/-- Settles O3: an empty register file, empty tables, and the reset value of each lane's state. -/
theorem resetState : Obligations.ResetState :=
  ⟨rfl, rd_reset, rfl, fun _ => rfl, rfl, ⟨rfl, trivial⟩, (rd_reset _).symm, fun l a hl ha => lanes_off_at_reset l hl a ha⟩

end Sys2Proof.Machine
end

section

/-! ## Wakes (R522 to R525) -/

namespace Sys2Proof.Machine

theorem exec_wakeSense (s : State) : exec .wakeSense s = execWakeSense s := rfl

theorem exec_hostLinkWake (p : Nat) (s : State) : exec (.hostLinkWake p) s = execHostLinkWake p s := rfl

section Wakes

variable {s : State}

/-- A wake that finds the device asleep, with no transition under way, begins the exit. -/
theorem wakeUp_begins {st : PState} (hst : s.power.state = st) (hasleep : st ≠ .run ∧ st ≠ .off) (hentry : s.power.entry = none)
    (hexit : s.power.exit = none) (w : Wake) (cause : Nat) :
    wakeUp w cause s = beginExit { from_ := st, wake := w, cause := cause } (recordWake w s) := by
  obtain ⟨hrun, hoff⟩ := hasleep
  subst hst
  simp only [wakeUp, hentry, hexit, hrun, hoff, or_self, if_false]

/-- During an entry the first wake is latched. -/
theorem wakeUp_latches {e : Entry} (hentry : s.power.entry = some e) (hfirst : e.wake = none) (w : Wake) (cause : Nat) :
    wakeUp w cause s = recordWake w (setPower { s.power with entry := some { e with wake := some w } } s) := by
  simp [wakeUp, hentry, hfirst]

theorem execWakeN_on {st : PState} (hst : s.power.state = st) (hon : st ≠ .off) : execWakeN s = .next (wakeUp { source := 1 } 2 s) := by
  have hoff : ¬ isOff s = true := fun h => hon (hst.symm.trans (isOff_iff.1 h).1)
  rw [execWakeN, if_neg hoff]

theorem rdF_recordWake_source (h : RegsCanonical s) (w : Wake) :
    rdF (recordWake w s) Reg.PWR_WAKE_STAT Fld.PWR_WAKE_STAT_source = w.source % 2 ^ Fld.PWR_WAKE_STAT_source.2 := by
  rw [recordWake, rdF_wrF_field (canonical_wrF h ..) _ _ (by decide) (by decide), rdF_wrF_same h _ _ (by decide)]

end Wakes

/-- Settles O14: WAKE_N in IDLE, WAKE_SENSE and a link's wake in SLEEP, and WAKE_N during an entry. -/
theorem wakesRecognised : Obligations.WakesRecognised := by
  intro s
  refine ⟨fun hst hentry hexit => ?idle, fun hst hentry hexit hen => ?sense, fun p hst hentry hexit hp hen => ?link,
    fun e hregs hst hentry hfirst => ?latched⟩
  case idle => rw [exec_wakeN, execWakeN_on hst (by decide), wakeUp_begins hst (by decide) hentry hexit]
  case sense => rw [exec_wakeSense, execWakeSense, if_pos ⟨.inl hst, hen⟩, wakeUp_begins hst (by decide) hentry hexit]
  case link => rw [exec_hostLinkWake, execHostLinkWake, if_pos ⟨hst, hp, hen⟩, wakeUp_begins hst (by decide) hentry hexit]
  case latched =>
    refine ⟨_, (exec_wakeN s).trans (execWakeN_on hst (by decide)), ?_⟩
    rw [wakeUp_latches hentry hfirst]
    exact ⟨rfl, rdF_recordWake_source (canonical_of_regs hregs rfl) _⟩

end Sys2Proof.Machine
end
section

/-! ## Fatal faults (R541, R544, R547) -/

namespace Sys2Proof.Machine

theorem exec_thermalTrip (s : State) : exec .thermalTrip s = execThermalTrip s := rfl

theorem exec_pllLockLoss (u : Nat) (s : State) : exec (.pllLockLoss u) s = execPllLockLoss u s := rfl

theorem exec_mgmtMemoryError (u : Nat) (s : State) : exec (.mgmtMemoryError u) s = execMgmtMemoryError u s := rfl

theorem exec_rsvInterfaceFailure (s : State) : exec .rsvInterfaceFailure s = execRsvInterfaceFailure s := rfl

theorem exec_watchdogExpiry (s : State) : exec .watchdogExpiry s = execWatchdogExpiry s := rfl

section Fatal

variable {s : State}

/-! ### What the record and the events leave (R543, R544) -/

theorem fatalRecord_mute (c u x w : Nat) (s : State) :
    (fatalRecord c u x w s).mute = { s with fault := { s.fault with fatals := upNs s :: s.fault.fatals } }.mute := by
  unfold fatalRecord bumpWrap
  dsimp only
  rw [wr_mute, tick_mute, foldl_mute _ fun _ _ => wr_mute ..]

theorem fatalToPort_mute (e : EventRec) (s : State) (p : Nat) : (fatalToPort e s p).mute = s.mute := by
  unfold fatalToPort
  dsimp only
  split_ifs <;> simp

/-- The state once a fault is recorded and told to the ports and to the BMC. -/
def fatalTold (c u x : Nat) (s : State) : State :=
  emit (.bmcAlert 0x0EF1) ([0, 1, 2, 3].foldl (fatalToPort (fatalEvent (fatalRecord c u x 0 s) c u
    (rd s Reg.FAULT_FATAL_NEXT).toNat)) (fatalRecord c u x 0 s))

/-- Telling a fault leaves boot, the rails and the raster. -/
theorem fatalTold_frame (c u x : Nat) (s : State) : (fatalTold c u x s).boot = s.boot ∧ (fatalTold c u x s).power = s.power ∧
    (fatalTold c u x s).raster = s.raster ∧ (fatalTold c u x s).pending = s.pending := by
  have htold : (fatalTold c u x s).mute = (fatalRecord c u x 0 s).mute :=
    (emit_mute ..).trans (foldl_mute _ (fun _ _ => fatalToPort_mute ..) _ _)
  obtain ⟨hpending, -, -, -, hboot, -, hpower, -, -, -, -, -, -, -, -, -, hraster, -⟩ := mute_frame (htold.trans (fatalRecord_mute ..))
  exact ⟨hboot, hpower, hraster, hpending⟩

/-- The event log's record leaves the same. -/
theorem logEvent_leaves (e : EventRec) (s : State) : (logEvent e s).boot = s.boot ∧ (logEvent e s).power = s.power ∧
    (logEvent e s).raster = s.raster ∧ (logEvent e s).pending = s.pending ∧ (logEvent e s).fault = s.fault := by
  obtain ⟨hpending, -, -, -, hboot, -, hpower, hfault, -, -, -, -, -, -, -, -, hraster, -⟩ := mute_frame (logEvent_mute e s)
  exact ⟨hboot, hpower, hraster, hpending, hfault⟩

/-- FAULT_N is held low and the class is remembered. -/
def holdPin (c : Nat) (t : State) : State := { t with fault := { t.fault with pinHeld := true, recovering := some c } }

theorem holdPin_leaves (c : Nat) (t : State) : (holdPin c t).power = t.power ∧ (holdPin c t).boot = t.boot ∧
    (holdPin c t).raster = t.raster ∧ (holdPin c t).pending = t.pending ∧ (holdPin c t).regs = t.regs ∧
    (holdPin c t).fault.pinHeld = true ∧ (holdPin c t).fault.recovering = some c := ⟨rfl, rfl, rfl, rfl, rfl, rfl, rfl⟩

/-- The reset is remembered. -/
def noteReset (t : State) : State := { t with fault := { t.fault with resets := upNs t :: t.fault.resets } }

/-- The device reset that follows a fatal fault, before it goes to the event log. -/
def fatalRestart (c : Nat) (t : State) : State :=
  holdPin c (setReason (if c = 3 then [6, 8] else [8]) (deviceReset (noteReset t)))

/-- The end of a fatal fault: a reset follows, but in STOPPED. -/
def fatalEnd (c : Nat) (e : EventRec) (t : State) : State :=
  if t.boot.phase = .stopped then logEvent e t else logEvent e (fatalRestart c t)

theorem fatalReset_eq (c u x : Nat) (s : State) : fatalReset c u x s =
    fatalEnd c (fatalEvent (fatalRecord c u x 0 s) c u (rd s Reg.FAULT_FATAL_NEXT).toNat) (fatalTold c u x s) := by
  unfold fatalReset fatalEnd fatalTold fatalRestart holdPin noteReset
  dsimp only

theorem fatalReset_stopped (hstop : s.boot.phase = .stopped) (c u x : Nat) : ∃ e, fatalReset c u x s = logEvent e (fatalTold c u x s) := by
  obtain ⟨hboot, -⟩ := fatalTold_frame c u x s
  have hphase : (fatalTold c u x s).boot.phase = .stopped := by rw [hboot, hstop]
  rw [fatalReset_eq, fatalEnd, if_pos hphase]
  exact ⟨_, rfl⟩

theorem fatalReset_restarts (hgo : s.boot.phase ≠ .stopped) (c u x : Nat) :
    ∃ e, fatalReset c u x s = logEvent e (fatalRestart c (fatalTold c u x s)) := by
  obtain ⟨hboot, -⟩ := fatalTold_frame c u x s
  have hphase : ¬ (fatalTold c u x s).boot.phase = .stopped := by rw [hboot]; exact hgo
  rw [fatalReset_eq, fatalEnd, if_neg hphase]
  exact ⟨_, rfl⟩

/-! ### What the reset leaves -/

theorem commandRail_leaves (n mv : Nat) (s : State) : (commandRail n mv s).regs = s.regs ∧ (commandRail n mv s).boot = s.boot ∧
    (commandRail n mv s).raster = s.raster ∧ (commandRail n mv s).pending = s.pending ∧
    (commandRail n mv s).power.rails = s.power.rails ∧ (commandRail n mv s).power.state = s.power.state := by
  unfold commandRail
  split <;> simp [pmbus]

theorem restoreVolts_leaves (s : State) : (restoreVolts s).regs = s.regs ∧ (restoreVolts s).boot = s.boot ∧
    (restoreVolts s).raster = s.raster ∧ (restoreVolts s).pending = s.pending ∧
    (restoreVolts s).power.rails = s.power.rails ∧ (restoreVolts s).power.state = s.power.state := by
  simp [restoreVolts, commandRail_leaves]

theorem noSource_raster (s : State) : (noSource s).pending = s.pending ∧ (noSource s).raster = s.raster := by
  simp [noSource]

/-- The state in which a device reset looks for a rail that is off. -/
def resetStart (s : State) : State := noSource (restoreVolts (restart false s))

theorem resetStart_leaves (s : State) : (resetStart s).raster = {} ∧ (resetStart s).pending = s.pending ∧
    (resetStart s).power.rails = s.power.rails ∧ (resetStart s).power.state = .run := by
  obtain ⟨-, -, hraster, hpending, hrails, hstate⟩ := restoreVolts_leaves (restart false s)
  obtain ⟨-, hpower, -⟩ := noSource_frame (restoreVolts (restart false s))
  obtain ⟨hpending', hraster'⟩ := noSource_raster (restoreVolts (restart false s))
  refine ⟨hraster'.trans (hraster.trans rfl), hpending'.trans (hpending.trans rfl), ?_, ?_⟩
  · rw [resetStart, hpower, hrails]
    rfl
  · rw [resetStart, hpower, hstate]
    rfl

/-- A reset with every rail on goes straight to the boot ROM. -/
theorem deviceReset_on (h : ∀ n, n < 8 → s.power.rails.contains n = true) : deviceReset s = setStage 1 .rom (resetStart s) := by
  obtain ⟨-, -, hrails, -⟩ := resetStart_leaves s
  have hnone : (List.range 8).find? (fun n => !(resetStart s).power.rails.contains n) = none := by
    rw [List.find?_eq_none, hrails]
    intro n hn
    rw [h n (List.mem_range.1 hn)]
    decide
  unfold resetStart at hnone ⊢
  unfold deviceReset
  simp only [hnone]

theorem deviceReset_off {n : Nat} (h : (List.range 8).find? (fun n => !(resetStart s).power.rails.contains n) = some n) :
    deviceReset s = setStage 1 (.rail n) (railOn n (resetStart s)) := by
  unfold resetStart at h ⊢
  unfold deviceReset
  simp only [h]

theorem regs_wrF_congr {s t : State} (h : t.regs = s.regs) (k : Nat) (f : Nat × Nat) (v : Nat) :
    (wrF k f v t).regs = (wrF k f v s).regs := by
  simp only [wrF, wr, rd, h]

theorem regs_setStage (n : Nat) (ph : StartPhase) (s : State) :
    (setStage n ph s).regs = (wrF Reg.BOOT_STATUS Fld.BOOT_STATUS_stage n s).regs := by
  simp [setStage]

/-- Either way VDDIO is on and the device in RUN. -/
theorem deviceReset_leaves (s : State) : (deviceReset s).power.rails.contains 0 = true ∧ (deviceReset s).power.state = .run ∧
    (deviceReset s).regs = (wrF Reg.BOOT_STATUS Fld.BOOT_STATUS_stage 1 (resetStart s)).regs := by
  obtain ⟨-, -, hrails, hstate⟩ := resetStart_leaves s
  rcases hfind : (List.range 8).find? (fun n => !(resetStart s).power.rails.contains n) with _ | n
  · have hall : ∀ n, n < 8 → s.power.rails.contains n = true := fun n hn => by
      simpa [hrails] using List.find?_eq_none.1 hfind n (List.mem_range.2 hn)
    rw [deviceReset_on hall]
    exact ⟨by rw [(setStage_frame ..).1, hrails, hall 0 (by decide)], by rw [(setStage_frame ..).1, hstate], regs_setStage ..⟩
  · have hoff : (resetStart s).power.rails.contains n = false := by simpa using List.find?_some hfind
    have hregs : (railOn n (resetStart s)).regs = (resetStart s).regs := (railOn_frame ..).1
    rw [deviceReset_off hfind, regs_setStage, regs_wrF_congr hregs, (setStage_frame ..).1, railOn_of_off hoff]
    refine ⟨?_, hstate, rfl⟩
    by_cases hio : (resetStart s).power.rails.contains 0 = true
    · exact List.contains_cons.trans (by rw [hio, Bool.or_true])
    · have hfirst : (List.range 8).find? (fun n => !(resetStart s).power.rails.contains n) = some 0 :=
        List.find?_cons_of_pos (by simpa using hio)
      obtain rfl := Option.some_inj.1 (hfirst.symm.trans hfind)
      exact List.contains_cons.trans (by rw [beq_self_eq_true, Bool.true_or])

theorem fatalRestart_leaves (c : Nat) (s : State) : (fatalRestart c s).fault.pinHeld = true ∧
    (fatalRestart c s).fault.recovering = some c ∧ inputsLive (fatalRestart c s) = true := by
  obtain ⟨hio, hstate, -⟩ := deviceReset_leaves (noteReset s)
  obtain ⟨hpower, -, -, -, -, hpin, hclass⟩ := holdPin_leaves c
    (setReason (if c = 3 then [6, 8] else [8]) (deviceReset (noteReset s)))
  obtain ⟨-, hreason, -⟩ := setReason_frame (if c = 3 then [6, 8] else [8]) (deviceReset (noteReset s))
  refine ⟨hpin, hclass, ?_⟩
  rw [fatalRestart, inputsLive, hpower, hreason, hio, hstate]
  rfl

/-- With every rail on the device starts at the boot ROM again, its raster forgotten. -/
theorem fatalRestart_on (h : ∀ n, n < 8 → s.power.rails.contains n = true) (c : Nat) :
    (fatalRestart c s).boot.phase = .rom ∧ (fatalRestart c s).raster = {} ∧ (fatalRestart c s).pending = s.pending := by
  obtain ⟨hraster, hpending, -⟩ := resetStart_leaves (noteReset s)
  obtain ⟨-, hboot, hraster', hpending', -⟩ := holdPin_leaves c
    (setReason (if c = 3 then [6, 8] else [8]) (deviceReset (noteReset s)))
  rw [fatalRestart, hboot, hraster', hpending', deviceReset_on (s := noteReset s) h]
  have hsame : (noteReset s).pending = s.pending := rfl
  simp [setReason, setStage, hraster, hpending, hsame]

/-! ### The records' registers (R544) -/

/-- The register file stays canonical, and the registers of the records keep their values. -/
structure KeepsRecords (s t : State) : Prop where
  canonical : RegsCanonical s → RegsCanonical t
  records : RegsCanonical s → ∀ k, Reg.FAULT_FATAL_NEXT ≤ k → k < Reg.FAULT_FATALi 32 → rd t k = rd s k

theorem KeepsRecords.trans {s t u : State} (h : KeepsRecords s t) (k : KeepsRecords t u) : KeepsRecords s u :=
  ⟨fun hs => k.canonical (h.canonical hs), fun hs r hlow hhigh =>
    (k.records (h.canonical hs) r hlow hhigh).trans (h.records hs r hlow hhigh)⟩

theorem KeepsRecords.of_regs {s t : State} (h : t.regs = s.regs) : KeepsRecords s t :=
  ⟨fun hs => canonical_of_regs hs h, fun _ _ _ _ => by simp only [rd, h]⟩

theorem foldl_keepsRecords {α : Type} {f : State → α → State} (h : ∀ s a, KeepsRecords s (f s a)) :
    ∀ (l : List α) (s : State), KeepsRecords s (l.foldl f s)
  | [], _ => .of_regs rfl
  | a :: l, s => (h s a).trans (foldl_keepsRecords h l (f s a))

theorem wrF_keepsRecords {k : Nat} (h : k < Reg.FAULT_FATAL_NEXT ∨ Reg.FAULT_FATALi 32 ≤ k) (f : Nat × Nat) (v : Nat) (s : State) :
    KeepsRecords s (wrF k f v s) :=
  ⟨fun hs => canonical_wrF hs .., fun hs r hlow hhigh => rd_wrF_other hs _ _ (by omega)⟩

theorem countEvent_keepsRecords (u ev v : Nat) (s : State) : KeepsRecords s (countEvent u ev v s) := by
  refine ⟨fun hs => canonical_countEvent hs .., fun _ r hlow _ => rd_countEvent ?_ ?_ ..⟩
  · exact (Nat.lt_of_lt_of_le (by decide) hlow).ne'
  · exact (Nat.lt_of_lt_of_le (by decide) hlow).ne'

theorem monitorAdd_keepsRecords (m v : Nat) (s : State) : KeepsRecords s (monitorAdd m v s) := .of_regs (by simp)

theorem sendMsix_keepsRecords (p v : Nat) (s : State) : KeepsRecords s (sendMsix p v s) := by
  unfold sendMsix
  split
  · exact wrF_keepsRecords (.inr (by unfold Reg.FAULT_FATALi Reg.MSIX_PBA portKey; omega)) ..
  · exact KeepsRecords.trans (t := emit ..) (.of_regs rfl) (monitorAdd_keepsRecords ..)

theorem sendEvq_keepsRecords (p : Nat) (s : State) : KeepsRecords s (sendEvq p s) := by
  unfold sendEvq
  split
  · exact KeepsRecords.trans (t := setEvq ..) (.of_regs rfl) (sendMsix_keepsRecords ..)
  · exact .of_regs rfl

theorem signalEvq_keepsRecords (p : Nat) (s : State) : KeepsRecords s (signalEvq p s) := by
  unfold signalEvq
  split
  · exact sendEvq_keepsRecords ..
  · exact .of_regs rfl

theorem writeEvent_keepsRecords (p : Nat) (e : EventRec) (s : State) : KeepsRecords s (writeEvent p e s) :=
  KeepsRecords.trans (t := emit _ (setEvq ..)) (.of_regs rfl)
    ((countEvent_keepsRecords ..).trans ((monitorAdd_keepsRecords ..).trans (signalEvq_keepsRecords ..)))

theorem fatalToPort_keepsRecords (e : EventRec) (s : State) (p : Nat) : KeepsRecords s (fatalToPort e s p) := by
  unfold fatalToPort
  dsimp only
  split_ifs
  · exact writeEvent_keepsRecords ..
  · exact (writeEvent_keepsRecords ..).trans (sendEvq_keepsRecords ..)
  · exact .of_regs rfl

theorem logEvent_keepsRecords (e : EventRec) (s : State) : KeepsRecords s (logEvent e s) := by
  unfold logEvent
  split
  · exact ((wrF_keepsRecords (.inl (by decide)) ..).trans (wrF_keepsRecords (.inl (by decide)) ..)).trans
      (countEvent_keepsRecords ..)
  · exact .of_regs rfl

theorem fatalTold_keepsRecords (c u x : Nat) (s : State) : KeepsRecords (fatalRecord c u x 0 s) (fatalTold c u x s) :=
  (foldl_keepsRecords (fun _ _ => fatalToPort_keepsRecords ..) _ _).trans (.of_regs rfl)

/-- Words written to a record leave every other register. -/
theorem foldl_wr_other (i : Nat) {k : Nat} : ∀ {l : List (Nat × Nat)} {s : State}, RegsCanonical s →
    (∀ e ∈ l, k ≠ Reg.FAULT_FATALi (i + e.1)) →
    RegsCanonical (l.foldl (fun s e => wr (Reg.FAULT_FATALi (i + e.1)) (BitVec.ofNat 32 e.2) s) s) ∧
      rd (l.foldl (fun s e => wr (Reg.FAULT_FATALi (i + e.1)) (BitVec.ofNat 32 e.2) s) s) k = rd s k
  | [], _, hs, _ => ⟨hs, rfl⟩
  | e :: l, s, hs, hk => by
    obtain ⟨hcanon, hkept⟩ := foldl_wr_other i (l := l) (canonical_wr hs (Reg.FAULT_FATALi (i + e.1)) (BitVec.ofNat 32 e.2))
      fun e' he' => hk e' (List.mem_cons_of_mem _ he')
    exact ⟨hcanon, hkept.trans (rd_wr_other hs _ (hk e List.mem_cons_self))⟩

/-- A record of the fault is written over the oldest one, and the count of the records goes up. -/
theorem rd_fatalRecord (h : RegsCanonical s) (c u x w : Nat) : RegsCanonical (fatalRecord c u x w s) ∧
    rd (fatalRecord c u x w s) Reg.FAULT_FATAL_NEXT = rd s Reg.FAULT_FATAL_NEXT + 1 ∧
    rd (fatalRecord c u x w s) (Reg.FAULT_FATALi (8 * ((rd s Reg.FAULT_FATAL_NEXT).toNat % 4))) =
      BitVec.ofNat 32 (c + 0x100 * u + 0x10000 * x) := by
  obtain ⟨noted, hnoted⟩ : ∃ t, t = { s with fault := { s.fault with fatals := upNs s :: s.fault.fatals } } := ⟨_, rfl⟩
  have hregs : noted.regs = s.regs := by rw [hnoted]
  have hnext : rd noted Reg.FAULT_FATAL_NEXT = rd s Reg.FAULT_FATAL_NEXT := by simp only [rd, hregs]
  have hcanon : RegsCanonical noted := canonical_of_regs h hregs
  obtain ⟨i, hi⟩ : ∃ i, i = 8 * ((rd s Reg.FAULT_FATAL_NEXT).toNat % 4) := ⟨_, rfl⟩
  obtain ⟨rest, hrest, hwords⟩ : ∃ rest : List (Nat × Nat), (∀ e ∈ rest, 0 < e.1) ∧
      (List.range 8).zip (fatalWords noted c u x w) = (0, c + 0x100 * u + 0x10000 * x) :: rest := by
    refine ⟨_, ?_, rfl⟩
    simp
  have hfirst : RegsCanonical (wr (Reg.FAULT_FATALi (i + 0)) (BitVec.ofNat 32 (c + 0x100 * u + 0x10000 * x)) noted) := canonical_wr hcanon ..
  obtain ⟨hrec, hword⟩ := foldl_wr_other i (k := Reg.FAULT_FATALi i) (l := rest) hfirst fun e he => by
    have := hrest e he
    unfold Reg.FAULT_FATALi
    omega
  obtain ⟨-, hcount⟩ := foldl_wr_other i (k := Reg.FAULT_FATAL_NEXT) (l := rest) hfirst fun e _ => by
    unfold Reg.FAULT_FATALi Reg.FAULT_FATAL_NEXT
    omega
  have hother (j : Nat) : Reg.FAULT_FATALi j ≠ Reg.FAULT_FATAL_NEXT := by
    unfold Reg.FAULT_FATALi Reg.FAULT_FATAL_NEXT
    omega
  have hrecord : fatalRecord c u x w s = bumpWrap Reg.FAULT_FATAL_NEXT 1 (tick (rest.foldl
      (fun s e => wr (Reg.FAULT_FATALi (i + e.1)) (BitVec.ofNat 32 e.2) s)
      (wr (Reg.FAULT_FATALi (i + 0)) (BitVec.ofNat 32 (c + 0x100 * u + 0x10000 * x)) noted))) := by
    unfold fatalRecord
    dsimp only
    rw [← hnoted, hnext, ← hi, hwords, List.foldl_cons]
  have htick (t : State) (k : Nat) : rd (tick t) k = rd t k := rfl
  have hticked := canonical_of_regs hrec (t := tick _) rfl
  rw [hrecord, ← hi, bumpWrap]
  refine ⟨canonical_wr hticked .., ?_, ?_⟩
  · rw [rd_wr_same hticked, htick, hcount, rd_wr_other hcanon _ (hother _).symm, hnext]
    rfl
  · rw [rd_wr_other hticked _ (hother _), htick, hword]
    exact rd_wr_same hcanon ..

theorem noteReset_regs (s : State) : (noteReset s).regs = s.regs := rfl

/-- A device reset keeps the AON registers. -/
theorem deviceReset_keeps (h : RegsCanonical s) : RegsCanonical (deviceReset s) ∧
    ∀ k, regScope k = .aon → rd (deviceReset s) k = rd s k := by
  obtain ⟨hvolts, -⟩ := restoreVolts_leaves (restart false s)
  obtain ⟨-, -, hreset⟩ := deviceReset_leaves s
  have hrestart : RegsCanonical (restart false s) := canonical_restart h false
  have hrestored : RegsCanonical (restoreVolts (restart false s)) := canonical_of_regs hrestart hvolts
  have hstart : RegsCanonical (resetStart s) := canonical_wrF hrestored ..
  refine ⟨canonical_of_regs (canonical_wrF hstart ..) hreset, fun k hk => ?_⟩
  have hboot : k ≠ Reg.BOOT_STATUS := by rintro rfl; exact absurd hk (by decide)
  calc rd (deviceReset s) k
      = rd (wrF Reg.BOOT_STATUS Fld.BOOT_STATUS_stage 1 (resetStart s)) k := by simp only [rd, hreset]
    _ = rd (resetStart s) k := rd_wrF_other hstart _ _ hboot
    _ = rd (restoreVolts (restart false s)) k := rd_wrF_other hrestored _ _ hboot
    _ = rd (restart false s) k := by simp only [rd, hvolts]
    _ = rd s k := rd_restart_aon h false hk

/-- The restart of a fatal fault keeps the AON registers but the one of its reason bits. -/
theorem fatalRestart_keeps (h : RegsCanonical s) (c : Nat) : RegsCanonical (fatalRestart c s) ∧
    ∀ k, regScope k = .aon → k ≠ Reg.AON_STATUS → rd (fatalRestart c s) k = rd s k := by
  obtain ⟨hreset, hkept⟩ := deviceReset_keeps (canonical_of_regs h (noteReset_regs s))
  obtain ⟨hreason, hreasons⟩ := setReason_keeps hreset (if c = 3 then [6, 8] else [8])
  obtain ⟨-, -, -, -, hregs, -⟩ := holdPin_leaves c (setReason (if c = 3 then [6, 8] else [8]) (deviceReset (noteReset s)))
  unfold fatalRestart
  refine ⟨canonical_of_regs hreason hregs, fun k hk hk' => ?_⟩
  rw [rd, hregs, ← rd, hreasons k hk', hkept k hk, rd, noteReset_regs, ← rd]

theorem regScope_fatal : ∀ i < 4, regScope (Reg.FAULT_FATALi (8 * i)) = .aon := by decide

theorem fatalReset_keeps (h : RegsCanonical s) (c u x : Nat) {k : Nat} (hk : regScope k = .aon) (hlow : Reg.FAULT_FATAL_NEXT ≤ k)
    (hhigh : k < Reg.FAULT_FATALi 32) : rd (fatalReset c u x s) k = rd (fatalRecord c u x 0 s) k := by
  obtain ⟨hrecord, -⟩ := rd_fatalRecord h c u x 0
  have htold := fatalTold_keepsRecords c u x s
  have hreason : k ≠ Reg.AON_STATUS := (Nat.lt_of_lt_of_le (by decide) hlow).ne'
  by_cases hstop : s.boot.phase = .stopped
  · obtain ⟨e, he⟩ := fatalReset_stopped hstop c u x
    rw [he]
    exact (htold.trans (logEvent_keepsRecords ..)).records hrecord k hlow hhigh
  · obtain ⟨e, he⟩ := fatalReset_restarts hstop c u x
    obtain ⟨hrestart, hkept⟩ := fatalRestart_keeps (htold.canonical hrecord) c
    rw [he, (logEvent_keepsRecords ..).records hrestart k hlow hhigh, hkept k hk hreason, htold.records hrecord k hlow hhigh]

/-! ### The five faults -/

theorem thermalTrip_leaves (h : s.power.rails ≠ []) : ∃ t, exec .thermalTrip s = .next t ∧ t.power.rails = [] ∧
    t.power.state = .off ∧ t.boot.phase = .railsOff ∧ t.boot.thermalStop = true := by
  have hpowered : ¬ (!isPowered s) = true := by simp [isPowered, h]
  rw [exec_thermalTrip, execThermalTrip, if_neg hpowered]
  exact ⟨_, rfl, rfl, rfl, rfl, rfl⟩

theorem fatalReset_boots (hgo : s.boot.phase ≠ .stopped) (hon : ∀ n, n < 8 → s.power.rails.contains n = true) (c u x : Nat) :
    (fatalReset c u x s).boot.phase = .rom ∧ (fatalReset c u x s).fault.recovering = some c ∧
      (fatalReset c u x s).fault.pinHeld = true ∧ (fatalReset c u x s).raster = {} ∧ (fatalReset c u x s).pending = s.pending := by
  obtain ⟨e, he⟩ := fatalReset_restarts hgo c u x
  obtain ⟨-, hpower, -, hpending⟩ := fatalTold_frame c u x s
  obtain ⟨hboot, -, hraster, hpending', hfault⟩ := logEvent_leaves e (fatalRestart c (fatalTold c u x s))
  obtain ⟨hpin, hclass, -⟩ := fatalRestart_leaves c (fatalTold c u x s)
  obtain ⟨hrom, hnone, hkept⟩ := fatalRestart_on (s := fatalTold c u x s) (by rw [hpower]; exact hon) c
  rw [he, hboot, hraster, hpending', hfault]
  exact ⟨hrom, hclass, hpin, hnone, hkept.trans hpending⟩

theorem fatalReset_stays (hstop : s.boot.phase = .stopped) (c u x : Nat) : (fatalReset c u x s).boot.phase = .stopped ∧
    (fatalReset c u x s).power.rails = s.power.rails ∧ (fatalReset c u x s).raster = s.raster ∧
    (fatalReset c u x s).pending = s.pending := by
  obtain ⟨e, he⟩ := fatalReset_stopped hstop c u x
  obtain ⟨hboot, hpower, hraster, hpending⟩ := fatalTold_frame c u x s
  obtain ⟨hboot', hpower', hraster', hpending', -⟩ := logEvent_leaves e (fatalTold c u x s)
  rw [he, hboot', hpower', hraster', hpending', hboot, hpower, hraster, hpending]
  exact ⟨hstop, rfl, rfl, rfl⟩

theorem fatalReset_holdsPin (hgo : s.boot.phase ≠ .stopped) (c u x : Nat) : faultPin (fatalReset c u x s) = true := by
  obtain ⟨e, he⟩ := fatalReset_restarts hgo c u x
  obtain ⟨-, hpower, -, -, hfault⟩ := logEvent_leaves e (fatalRestart c (fatalTold c u x s))
  obtain ⟨hpin, -, hlive⟩ := fatalRestart_leaves c (fatalTold c u x s)
  rw [inputsLive] at hlive
  rw [he, faultPin, inputsLive, hpower, hfault, hlive, hpin, Bool.or_true, Bool.true_and]

end Fatal

/-- Settles O16: the five faults, the restart or the stop that follows, and the record of the fault. -/
theorem fatalFaults : Obligations.FatalFaults := by
  refine ⟨fun s => ⟨thermalTrip_leaves, fun u hrun hu => ?pll, fun u hrun hu => ?memory, fun hon hstate => ?reservoir,
    fun hrun => ?watchdog, fun c u x hgo hon => ⟨_, rfl, fatalReset_boots hgo hon c u x⟩,
    fun c u x hstop => ⟨_, rfl, fatalReset_stays hstop c u x⟩⟩, fun s c u x h _ _ _ => ?record⟩
  case pll =>
    have hfatal : fatalPll u = true := List.contains_iff_mem.2 hu
    rw [exec_pllLockLoss, execPllLockLoss, hrun, hfatal]
    rfl
  case memory =>
    have hunit : [0x01, 0x02].contains u = true := by simpa using hu
    rw [exec_mgmtMemoryError, execMgmtMemoryError, hrun, hunit]
    rfl
  case reservoir =>
    have hmet : (isPowered s && !isOff s) = true := by simp [isPowered, isOff, hon, hstate]
    rw [exec_rsvInterfaceFailure, execRsvInterfaceFailure, if_pos hmet]
  case watchdog => rw [exec_watchdogExpiry, execWatchdogExpiry, if_pos hrun]
  case record =>
    obtain ⟨-, hnext, hword⟩ := rd_fatalRecord h c u x 0
    have hi := Nat.mod_lt (rd s Reg.FAULT_FATAL_NEXT).toNat (show 4 > 0 by decide)
    refine ⟨?_, ?_, fun hgo => fatalReset_holdsPin hgo c u x⟩
    · rw [fatalReset_keeps h c u x (by decide) (by decide) (by decide), hnext]
    · rw [fatalReset_keeps h c u x (regScope_fatal _ hi) (by unfold Reg.FAULT_FATALi Reg.FAULT_FATAL_NEXT; omega)
        (by unfold Reg.FAULT_FATALi; omega), hword]

end Sys2Proof.Machine
end

section

/-! ## The Reservoir's scrubber and region sizes (R413, R416 to R418) -/

namespace Sys2Proof.Machine

theorem exec_rsvScrubRead (r l x : Nat) (s : State) : exec (.rsvScrubRead r l x) s = execRsvScrubRead r l x s := rfl

theorem exec_rsvAllocWrite (p r : Nat) (v : Word) (s : State) : exec (.rsvAllocWrite p r v) s = execRsvAllocWrite p r v s := rfl

section Scrub

variable {s : State}

theorem nextScrub_within (h : s.rsv.scrubbed + 1 < 268435456) :
    nextScrub s = { s with rsv := { s.rsv with scrubbed := s.rsv.scrubbed + 1 } } := by
  rw [nextScrub, reservoirLines, if_pos h]

theorem corrected_one (s : State) :
    corrected 1 s = countEvent 0x50 0x12 1 (bumpSat Reg.RSV_CORRECTED (0, 32) 1 (setFlag Flag.RSV_corrected s)) := rfl

/-- A scrubbed line: the scrubber moves on, and what the read met follows. -/
theorem execRsvScrubRead_scrubbing (hscrub : rdB s Reg.RSV_STAT Fld.RSV_STAT_scrubbing = true) (hpower : panelPowered s = true)
    (r l x : Nat) : execRsvScrubRead r l x s =
      if x = 1 then .next (corrected 1 (nextScrub s))
      else if x = 2 ∧ r ≤ 5 then .next (tellBad r 2 l (spoil r l (nextScrub s)))
      else .next (nextScrub s) := by
  rw [execRsvScrubRead, hscrub, hpower]
  rfl

/-- A write of a region size outside READY: kept when the sizes that follow fit, and otherwise ignored with cfg_err. -/
theorem execRsvAllocWrite_open {p : Nat} (howner : ownerWrites s p = true) (hready : ready s = false) {r : Nat} (hr : r ≤ 1) {t : State}
    (v : Word) (ht : t = writeRwl (if r = 0 then Reg.RSV_ALLOC0 else Reg.RSV_ALLOC1) v s) :
    execRsvAllocWrite p r v s =
      if 12840 < rdF t Reg.RSV_ALLOC0 Fld.RSV_ALLOC0_demura + rdF t Reg.RSV_ALLOC0 Fld.RSV_ALLOC0_layer +
          rdF t Reg.RSV_ALLOC1 Fld.RSV_ALLOC1_hold + rdF t Reg.RSV_ALLOC1 Fld.RSV_ALLOC1_tables ∨
        rdF t Reg.RSV_ALLOC1 Fld.RSV_ALLOC1_tables < 128
      then .next (setFlag Flag.RSV_cfg_err s) else .next t := by
  have hopen : ¬ (!ownerWrites s p || ready s || decide (1 < r)) = true := by simp [howner, hready, hr]
  rw [execRsvAllocWrite, if_neg hopen, ht]

end Scrub

/-- Settles O45: a clean, a corrected and an uncorrectable line, and writes of the two size registers. -/
theorem reservoirUpkeep : Obligations.ReservoirUpkeep := by
  intro s
  refine ⟨fun r l hscrub hpower hin => ?clean, fun r l hscrub hpower hin => ?corrected, fun r l hscrub hpower hr => ?bad,
    fun p v howner hready hleast hsum => ?one, fun p v howner hready hless => ?refused, fun p v howner hready hleast hsum => ?zero⟩
  case clean => rw [exec_rsvScrubRead, execRsvScrubRead_scrubbing hscrub hpower, nextScrub_within hin]; rfl
  case corrected =>
    rw [exec_rsvScrubRead, execRsvScrubRead_scrubbing hscrub hpower, if_pos rfl, corrected_one, nextScrub_within hin]
  case bad => rw [exec_rsvScrubRead, execRsvScrubRead_scrubbing hscrub hpower, if_neg (by decide), if_pos ⟨rfl, hr⟩]
  case one =>
    rw [exec_rsvAllocWrite, execRsvAllocWrite_open howner hready (Nat.le_refl 1) v rfl, if_neg Nat.one_ne_zero, if_neg (by omega)]
  case refused =>
    rw [exec_rsvAllocWrite, execRsvAllocWrite_open howner hready (Nat.le_refl 1) v rfl, if_neg Nat.one_ne_zero, if_pos (.inr hless)]
  case zero =>
    rw [exec_rsvAllocWrite, execRsvAllocWrite_open howner hready (Nat.zero_le 1) v rfl, if_pos rfl, if_neg (by omega)]

end Sys2Proof.Machine
end

section

/-! ## The store's link, mount and loss (R426 to R428, R437) -/

namespace Sys2Proof.Machine

theorem exec_storeLinkUp (v w : Nat) (s : State) : exec (.storeLinkUp v w) s = execStoreLinkUp v w s := rfl

theorem exec_storeControllerReady (f : Bool) (z : Nat) (s : State) :
    exec (.storeControllerReady f z) s = execStoreControllerReady f z s := rfl

theorem exec_storeAbsentTimeout (s : State) : exec .storeAbsentTimeout s = execStoreAbsentTimeout s := rfl

theorem exec_storeMountRetry (s : State) : exec .storeMountRetry s = execStoreMountRetry s := rfl

theorem exec_storeLost (reason : Nat) (s : State) : exec (.storeLost reason) s = execStoreLost reason s := rfl

theorem exec_nvmeCompletion (i st : Nat) (bs : List Byte) (s : State) :
    exec (.nvmeCompletion i st bs) s = execNvmeCompletion i st bs s := rfl

theorem exec_nvmeCommandTimeout (i : Nat) (s : State) : exec (.nvmeCommandTimeout i) s = execNvmeCommandTimeout i s := rfl

section Store

variable {s : State}

/-! ### Commands on their way -/

/-- What a command asks of the controller, and for what. -/
def NvCmd.asks (c : NvCmd) : Nat × Nat × Nat × NvUse := (c.op, c.lba, c.lbas, c.use)

/-- A command joins those on their way, held back or not, and nothing else of the store changes but its number. -/
theorem sendNvme_leaves (queue op lba lbas : Nat) (data : List Byte) (use : NvUse) (s : State) : ∃ c : NvCmd,
    c.asks = (op, lba, lbas, use) ∧
      (sendNvme queue op lba lbas data use s).store =
        { s.store with nextCid := s.store.nextCid + 1, nvme := s.store.nvme ++ [c] } := by
  unfold sendNvme
  dsimp only
  split
  · exact ⟨_, rfl, rfl⟩
  · exact ⟨_, rfl, rfl⟩

/-- The commands on their way after one more was sent. -/
@[simp] theorem sendNvme_asks (queue op lba lbas : Nat) (data : List Byte) (use : NvUse) (s : State) :
    (sendNvme queue op lba lbas data use s).store.nvme.map NvCmd.asks = s.store.nvme.map NvCmd.asks ++ [(op, lba, lbas, use)] := by
  obtain ⟨c, hc, hstore⟩ := sendNvme_leaves queue op lba lbas data use s
  rw [hstore, List.map_append, List.map_singleton, hc]

@[simp] theorem sendNvme_store (queue op lba lbas : Nat) (data : List Byte) (use : NvUse) (s : State) :
    (sendNvme queue op lba lbas data use s).store.mounted = s.store.mounted ∧
      (sendNvme queue op lba lbas data use s).store.controller = s.store.controller ∧
      (sendNvme queue op lba lbas data use s).store.managed = s.store.managed := by
  obtain ⟨c, -, hstore⟩ := sendNvme_leaves queue op lba lbas data use s
  rw [hstore]
  exact ⟨rfl, rfl, rfl⟩

/-! ### The mount -/

theorem execStoreLinkUp_open (hreset : s.boot.perstN = some true) (hdown : rdB s Reg.STP_STAT Fld.STP_STAT_link_up = false)
    (v w : Nat) : execStoreLinkUp v w s = .next (wrF Reg.STP_STAT Fld.STP_STAT_width w (wrF Reg.STP_STAT Fld.STP_STAT_speed v
      (wrF Reg.STP_STAT Fld.STP_STAT_link_up 1 s))) := if_pos ⟨hreset, hdown⟩

theorem rdB_of_rdF {k : Nat} {f : Nat × Nat} (h : rdF s k f = 1) : rdB s k f = true := by
  rw [rdB, h]
  rfl

theorem linkUp_shown (h : RegsCanonical s) (v w : Nat) : rdB (wrF Reg.STP_STAT Fld.STP_STAT_width w
    (wrF Reg.STP_STAT Fld.STP_STAT_speed v (wrF Reg.STP_STAT Fld.STP_STAT_link_up 1 s))) Reg.STP_STAT Fld.STP_STAT_link_up = true := by
  refine rdB_of_rdF ?_
  have hup := canonical_wrF h Reg.STP_STAT Fld.STP_STAT_link_up 1
  rw [rdF_wrF_field (canonical_wrF hup ..) _ _ (by decide) (by decide), rdF_wrF_field hup _ _ (by decide) (by decide),
    rdF_wrF_same h _ _ (by decide)]
  rfl

/-- The admin commands of a mount, its event request, and the read of the metadata. -/
theorem controllerReady_asks (hmay : mayMount s = true) (hout : s.store.controller = false) (z : Nat) :
    ∃ t, exec (.storeControllerReady true z) s = .next t ∧ t.store.controller = true ∧ t.store.managed = min z 1953125000 ∧
      t.store.mounted = false ∧ t.store.nvme.map NvCmd.asks = s.store.nvme.map NvCmd.asks ++
        [(6, 1, 0, .admin), (6, 0, 0, .admin), (9, 7, 0, .admin), (0x0A, 7, 0, .admin), (9, 6, 0, .admin), (0x0A, 6, 0, .admin),
          (5, 1, 0, .admin), (5, 2, 0, .admin), (1, 1, 0, .admin), (1, 2, 0, .admin), (0x0C, 0, 0, .event),
          (2, 0, 64, .mountRead)] := by
  have hmounted : s.store.mounted = false := by
    simp only [mayMount, Bool.and_eq_true, Bool.not_eq_true'] at hmay
    obtain ⟨⟨⟨⟨-, hout⟩, -⟩, -⟩, -⟩ := hmay
    exact hout
  have hopen : ¬ (!mayMount s || s.store.controller) = true := by simp [hmay, hout]
  rw [exec_storeControllerReady, execStoreControllerReady, if_neg hopen, if_pos rfl]
  refine ⟨_, rfl, ?_⟩
  simp [sendAdmin, nvRead, setStore, hmounted]

/-! ### The end of a command (R437) -/

theorem execNvmeCompletion_done {i : Nat} {c : NvCmd} (hc : cmdOf s i = some c) {bs : List Byte}
    (hlen : c.queue = 0 ∨ c.op ≠ 2 ∨ bs.length = 4096 * c.lbas) : execNvmeCompletion i 0 bs s =
      .next (fatalRecovered (stopController (doneUse c bs (countIo c (dropCmd i s))))) := by
  have hwhole : ¬ (c.reads && decide (bs.length ≠ 4096 * c.lbas)) = true := by
    rcases hlen with h | h | h <;> simp [NvCmd.reads, h]
  simp only [execNvmeCompletion, hc]
  rw [if_pos trivial, if_neg hwhole]

theorem execNvmeCompletion_again {i st : Nat} {c : NvCmd} (hc : cmdOf s i = some c) (hst : st ≠ 0) (htries : c.tries < 2)
    (bs : List Byte) : execNvmeCompletion i st bs s = .next (emit c.out (setStore { s.store with
      nvme := s.store.nvme.map (fun e => if e.cid = i then { e with tries := e.tries + 1 } else e) } s)) := by
  simp only [execNvmeCompletion, hc]
  rw [if_neg hst, if_pos htries]

theorem execNvmeCompletion_failed {i st : Nat} {c : NvCmd} (hc : cmdOf s i = some c) (hst : st ≠ 0) (htries : 2 ≤ c.tries)
    (bs : List Byte) : execNvmeCompletion i st bs s =
      .next (stopController (failUse c.use (.status (st % 65536)) (storeError c st (dropCmd i s)))) := by
  simp only [execNvmeCompletion, hc]
  rw [if_neg hst, if_neg (Nat.not_lt.2 htries)]

/-- Once it has flushed, a shutdown with no command on its way deletes both queues of each kind and tells the controller. -/
theorem stopController_ends (hshut : s.store.shutting = true) (hflush : s.store.flushed = true) (hshn : s.store.shn = false)
    (hidle : s.store.nvme = []) : (stopController s).store.shn = true ∧ Out.controllerShutdown ∈ (stopController s).out ∧
      (stopController s).store.nvme.map NvCmd.asks =
        [(0, 1, 0, .admin), (0, 2, 0, .admin), (4, 1, 0, .admin), (4, 2, 0, .admin)] := by
  have hends : (s.store.shutting && s.store.flushed && !s.store.shn &&
      s.store.nvme.all (fun c => decide (c.queue = 0))) = true := by simp [hshut, hflush, hshn, hidle]
  rw [stopController, if_pos hends]
  refine ⟨rfl, List.mem_append_right _ List.mem_cons_self, ?_⟩
  simp [sendAdmin, setStore, emit, hidle]

/-! ### The loss of the store (R427) -/

theorem askUnit_leaves (u st : Nat) (s : State) : (askUnit u st s).boot = s.boot ∧ (askUnit u st s).tables = s.tables ∧
    (askUnit u st s).hold = s.hold ∧ (askUnit u st s).cdc = s.cdc ∧ (askUnit u st s).store = s.store := by
  unfold askUnit
  split <;> exact ⟨rfl, rfl, rfl, rfl, rfl⟩

/-- With no load, no hold item and no job from the store, nothing goes on from the bytes in the device. -/
theorem dropRead_of_idle (hloads : s.tables.loads = []) (hstaging : s.hold.staging = [])
    (hjobs : ∀ n, n < 8 → (cdcOf s n).job = none) : dropRead s = s := by
  have hlanes : ∀ l : List Nat, (∀ n ∈ l, n < 8) → l.foldl (fun s n => match (cdcOf s n).job with
      | some j => if j.store then failCodec n .absent s else s
      | none => s) s = s := by
    intro l hl
    induction l with
    | nil => rfl
    | cons n l ih =>
      rw [List.foldl_cons, hjobs n (hl n List.mem_cons_self)]
      exact ih fun m hm => hl m (List.mem_cons_of_mem _ hm)
  unfold dropRead
  simp only [hloads, List.filter_nil, List.foldl_nil, hstaging]
  exact hlanes (List.range 8) fun n hn => List.mem_range.1 hn

/-- The state in which the store is gone and its loss is told. -/
def storeTold (s : State) : State :=
  postEvent .device 0x06F1 0x14 2 (dataAt 24 1) (setFlag Flag.STP_lost (wrF Reg.STP_STAT Fld.STP_STAT_link_up 0
    (wrF Reg.STP_STAT Fld.STP_STAT_reason 1 (storeGone s))))

theorem storeTold_leaves (s : State) : (storeTold s).store.mounted = false ∧ (storeTold s).boot = s.boot ∧
    (storeTold s).tables = s.tables ∧ (storeTold s).hold = s.hold ∧ (storeTold s).cdc = s.cdc := by
  simp [storeTold, storeGone, followStore, setStore, askUnit_leaves]

theorem execStoreLost_idle (hlink : rdB s Reg.STP_STAT Fld.STP_STAT_link_up = true) (hmounted : s.store.mounted = true)
    (hidle : s.store.nvme = []) (hqueue : s.store.queued = []) : execStoreLost 1 s =
      .next (if loadsWait (dropRead (storeTold s)) then loadsEnd (dropRead (storeTold s)) else dropRead (storeTold s)) := by
  have hopen : ¬ (rdB s Reg.STP_STAT Fld.STP_STAT_link_up = false ∨ ((1 : Nat) ≠ 1 ∧ (1 : Nat) ≠ 6)) := by simp [hlink]
  rw [execStoreLost, if_neg hopen]
  simp only [hmounted, hidle, hqueue]
  rfl

theorem storeLost_leaves (hlink : rdB s Reg.STP_STAT Fld.STP_STAT_link_up = true) (hmounted : s.store.mounted = true)
    (hidle : s.store.nvme = []) (hqueue : s.store.queued = []) (hloads : s.tables.loads = []) (hstaging : s.hold.staging = [])
    (hjobs : ∀ n, n < 8 → (cdcOf s n).job = none) (hphase : s.boot.phase = .ready) :
    ∃ t, exec (.storeLost 1) s = .next t ∧ t.store.mounted = false ∧ t.boot = s.boot := by
  obtain ⟨hgone, hboot, htables, hhold, hcdc⟩ := storeTold_leaves s
  have hnone : dropRead (storeTold s) = storeTold s := dropRead_of_idle (by rw [htables, hloads]) (by rw [hhold, hstaging])
    fun n hn => by rw [cdcOf, hcdc]; exact hjobs n hn
  have hrun : ¬ loadsWait (storeTold s) = true := by simp [loadsWait, hboot, hphase]
  refine ⟨storeTold s, ?_, hgone, hboot⟩
  rw [exec_storeLost, execStoreLost_idle hlink hmounted hidle hqueue, hnone, if_neg hrun]

end Store

/-- Settles O31: the link, the controller, the absent store, the retry of a mount, the loss, and each end of an NVMe command. -/
theorem storeService : Obligations.StoreService := by
  intro s
  refine ⟨fun v w hreset hdown hregs _ _ => ?link, fun z hmay hout => controllerReady_asks hmay hout z,
    fun hreset hout hready hdown => ?absent, fun hmay => ?retry,
    fun hlink hmounted hidle hqueue hloads hstaging hjobs hphase =>
      storeLost_leaves hlink hmounted hidle hqueue hloads hstaging hjobs hphase,
    fun i c bs hc hlen => ?done, fun i c st hc hst htries => ?again, fun i c st hc hst htries => ?failed,
    fun i c hc huse => ?timeout, fun i c hc huse => ?event, fun hshut hflush hshn hidle => ?stop⟩
  case link => exact ⟨_, (exec_storeLinkUp v w s).trans (execStoreLinkUp_open hreset hdown v w), linkUp_shown hregs v w, rfl⟩
  case absent =>
    have hopen : ¬ (s.boot.perstN ≠ some true ∨ s.store.controller = true) := by simp [hreset, hout]
    rw [exec_storeAbsentTimeout, execStoreAbsentTimeout, if_neg hopen, if_pos hready]
    dsimp only
    rw [hdown]
    rfl
  case retry =>
    rw [exec_storeMountRetry, execStoreMountRetry, if_pos hmay]
    rfl
  case done => rw [exec_nvmeCompletion, execNvmeCompletion_done hc hlen]
  case again =>
    exact ⟨_, (exec_nvmeCompletion i st [] s).trans (execNvmeCompletion_again hc hst htries []), rfl, rfl, rfl⟩
  case failed => rw [exec_nvmeCompletion, execNvmeCompletion_failed hc hst htries]
  case timeout =>
    simp only [exec_nvmeCommandTimeout, execNvmeCommandTimeout, hc]
    rw [if_neg huse]
  case event =>
    simp only [exec_nvmeCommandTimeout, execNvmeCommandTimeout, hc]
    rw [if_pos huse]
  case stop =>
    obtain ⟨hstopped, htold, hasks⟩ := stopController_ends hshut hflush hshn hidle
    refine ⟨_, rfl, hstopped, htold, ?_⟩
    have hpairs := congrArg (List.map fun a : Nat × Nat × Nat × NvUse => (a.1, a.2.1)) hasks
    rwa [List.map_map] at hpairs

end Sys2Proof.Machine
end

section

/-! ## The Sluice link (R464 to R478) -/

namespace Sys2Proof.Machine

theorem exec_slkLinePacket (a y : Nat) (at_ : PacketTime) (n r : Bool) (s : State) :
    exec (.slkLinePacket a y at_ n r) s = execSlkLinePacket a y at_ n r s := rfl

theorem exec_cfgWrite (w : LaneIdle) (s : State) : exec (.cfgWrite w) s = execCfgWrite w s := rfl

theorem exec_slkDcfgGo (p : Nat) (v : Word) (s : State) : exec (.slkDcfgGo p v) s = execSlkDcfgGo p v s := rfl

theorem exec_roll (b : Nat) (rs : List (Option (Nat × Nat × Nat))) (s : State) : exec (.roll b rs) s = execRoll b rs s := rfl

theorem exec_statusPoll (a : Nat) (s : State) : exec (.statusPoll a) s = execStatusPoll a s := rfl

theorem exec_bcReply (b : Nat) (fr : List Byte) (s : State) : exec (.bcReply b fr) s = execBcReply b fr s := rfl

theorem exec_bcReplyTimeout (b : Nat) (c : Bool) (s : State) : exec (.bcReplyTimeout b c) s = execBcReplyTimeout b c s := rfl

theorem exec_bcAlertPulse (b w r : Nat) (s : State) : exec (.bcAlertPulse b w r) s = execBcAlertPulse b w r s := rfl

theorem exec_relock (a : Nat) (fr : List Byte) (s : State) : exec (.relock a fr) s = execRelock a fr s := rfl

section Sluice

variable {s : State} {a : Nat}

/-! ### What a packet and its events leave -/

/-- What the device has sent stays sent, and the frame number, the boot and the fuses stay. -/
structure SaysMore (s t : State) : Prop where
  sfn : t.sfn = s.sfn
  boot : t.boot = s.boot
  fuses : t.fuses = s.fuses
  out : s.out ⊆ t.out

theorem SaysMore.refl (s : State) : SaysMore s s := ⟨rfl, rfl, rfl, List.Subset.refl _⟩

theorem SaysMore.trans {s t u : State} (h : SaysMore s t) (k : SaysMore t u) : SaysMore s u :=
  ⟨k.sfn.trans h.sfn, k.boot.trans h.boot, k.fuses.trans h.fuses, List.Subset.trans h.out k.out⟩

theorem SaysMore.of_out {s t : State} (hsfn : t.sfn = s.sfn) (hboot : t.boot = s.boot) (hfuses : t.fuses = s.fuses)
    (hout : t.out = s.out) : SaysMore s t := ⟨hsfn, hboot, hfuses, hout ▸ List.Subset.refl _⟩

theorem foldl_saysMore {α : Type} {f : State → α → State} (h : ∀ s a, SaysMore s (f s a)) :
    ∀ (l : List α) (s : State), SaysMore s (l.foldl f s)
  | [], s => .refl s
  | a :: l, s => (h s a).trans (foldl_saysMore h l (f s a))

theorem emit_saysMore (o : Out) (s : State) : SaysMore s (emit o s) := ⟨rfl, rfl, rfl, List.subset_append_left ..⟩

theorem mem_emit (o : Out) (s : State) : o ∈ (emit o s).out := List.mem_append_right _ List.mem_cons_self

theorem tick_saysMore (s : State) : SaysMore s (tick s) := .of_out rfl rfl rfl rfl

theorem setLane_saysMore (link n : Nat) (l : LaneState) (s : State) : SaysMore s (setLane link n l s) := .of_out rfl rfl rfl rfl

theorem wrF_saysMore (k : Nat) (f : Nat × Nat) (v : Nat) (s : State) : SaysMore s (wrF k f v s) := .of_out rfl rfl rfl rfl

theorem bumpSat_saysMore (k : Nat) (f : Nat × Nat) (n : Nat) (s : State) : SaysMore s (bumpSat k f n s) := .of_out rfl rfl rfl rfl

theorem countEvent_saysMore (u e v : Nat) (s : State) : SaysMore s (countEvent u e v s) := .of_out (by simp) (by simp) (by simp) (by simp)

theorem monitorAdd_saysMore (m v : Nat) (s : State) : SaysMore s (monitorAdd m v s) := .of_out (by simp) (by simp) (by simp) (by simp)

theorem fixedAdd_saysMore (k v : Nat) (s : State) : SaysMore s (fixedAdd k v s) := .of_out (by simp) (by simp) (by simp) (by simp)

theorem setFlag_saysMore (f : Flag) (s : State) : SaysMore s (setFlag f s) := .of_out (by simp) (by simp) (by simp) (by simp)

theorem sendMsix_saysMore (p v : Nat) (s : State) : SaysMore s (sendMsix p v s) := by
  unfold sendMsix
  split
  · exact wrF_saysMore ..
  · exact (emit_saysMore ..).trans (monitorAdd_saysMore ..)

theorem sendEvq_saysMore (p : Nat) (s : State) : SaysMore s (sendEvq p s) := by
  unfold sendEvq
  split
  · exact SaysMore.trans (t := setEvq ..) (.of_out rfl rfl rfl rfl) (sendMsix_saysMore ..)
  · exact .refl s

theorem signalEvq_saysMore (p : Nat) (s : State) : SaysMore s (signalEvq p s) := by
  unfold signalEvq
  split
  · exact sendEvq_saysMore ..
  · exact .refl s

theorem writeEvent_saysMore (p : Nat) (e : EventRec) (s : State) : SaysMore s (writeEvent p e s) :=
  SaysMore.trans (t := setEvq ..) (.of_out rfl rfl rfl rfl) ((emit_saysMore ..).trans ((countEvent_saysMore ..).trans
    ((monitorAdd_saysMore ..).trans (signalEvq_saysMore ..))))

theorem logEvent_saysMore (e : EventRec) (s : State) : SaysMore s (logEvent e s) := by
  unfold logEvent
  split
  · exact setFlag_saysMore ..
  · exact .of_out rfl rfl rfl rfl

theorem reportLost_saysMore (p : Nat) (s : State) : SaysMore s (reportLost p s) := by
  have hlogged : SaysMore s (logEvent (eventsLost s p) (fixedAdd 7 1 (setPort p { portOf s p with lostSince := 0 } s))) :=
    SaysMore.trans (t := setPort ..) (.of_out rfl rfl rfl rfl) ((fixedAdd_saysMore ..).trans (logEvent_saysMore ..))
  unfold reportLost
  dsimp only
  split_ifs
  · exact hlogged.trans (writeEvent_saysMore ..)
  · exact hlogged
  · exact .refl s

theorem postToPort_saysMore (e : EventRec) (s : State) (p : Nat) : SaysMore s (postToPort e s p) := by
  unfold postToPort
  dsimp only
  split_ifs
  · exact .refl s
  · exact (reportLost_saysMore p s).trans (writeEvent_saysMore ..)
  · exact (reportLost_saysMore p s).trans (SaysMore.trans (t := setPort ..) (.of_out rfl rfl rfl rfl)
      ((bumpSat_saysMore ..).trans (setFlag_saysMore ..)))

theorem postEvent_saysMore (r : Route) (c u v : Nat) (x : BitVec 64) (s : State) : SaysMore s (postEvent r c u v x s) := by
  have hposted (e : EventRec) (ps : List Nat) : SaysMore s (ps.foldl (postToPort e) (fixedAdd 7 1 (tick s))) :=
    (tick_saysMore s).trans ((fixedAdd_saysMore ..).trans (foldl_saysMore (fun _ _ => postToPort_saysMore ..) ..))
  unfold postEvent
  dsimp only
  split_ifs
  · exact (hposted ..).trans ((logEvent_saysMore ..).trans (emit_saysMore ..))
  · exact (hposted ..).trans (emit_saysMore ..)
  · exact (hposted ..).trans (logEvent_saysMore ..)
  · exact hposted ..

theorem writeTag_saysMore (t : TagRec) (s : State) : SaysMore s (writeTag t s) := by
  unfold writeTag
  dsimp only
  split_ifs
  · exact .of_out rfl rfl rfl rfl
  · exact .of_out rfl rfl rfl rfl

theorem issueTags_saysMore (lane line : Nat) (s : State) : SaysMore s (issueTags lane line s) := by
  have hpipe (p : PipeState) : SaysMore s (setPipe p s) := .of_out rfl rfl rfl rfl
  unfold issueTags
  refine (hpipe _).trans (foldl_saysMore (fun t e => ?_) _ _)
  exact (writeTag_saysMore ..).trans (tick_saysMore ..)

theorem tellHeld_saysMore (lane i : Nat) (s : State) : SaysMore s (tellHeld lane i s) := by
  have hskips (n : Nat) (l : LaneState) : SaysMore s ((List.range n).foldl (fun s _ => setFlag Flag.SLK_skip s) (setLane 1 lane l s)) :=
    (setLane_saysMore ..).trans (foldl_saysMore (fun _ _ => setFlag_saysMore ..) ..)
  unfold tellHeld
  dsimp only
  split
  · split
    · exact hskips ..
    · exact (hskips ..).trans ((setFlag_saysMore ..).trans ((bumpSat_saysMore ..).trans ((countEvent_saysMore ..).trans
        (postEvent_saysMore ..))))
  · exact .refl s

/-! ### Line packets (R465 to R467) -/

theorem length_encodeBlocks : ∀ (es : List (Nat × BitVec 64)) (x : BitVec 58), (encodeBlocks x es).1.length = es.length
  | [], _ => rfl
  | e :: es, x => by rw [encodeBlocks, List.length_cons, List.length_cons, length_encodeBlocks es]

theorem length_dataBlocksOf : ∀ (n : Nat) (bs : List Byte), (dataBlocksOf n bs).length = n
  | 0, _ => rfl
  | n + 1, bs => by rw [dataBlocksOf, List.length_cons, length_dataBlocksOf n]

/-- Blocks of a lane go out as one wire record, after the IDLE blocks asked for. -/
theorem sendBlocks_sends (lane idle : Nat) (bs : List (Nat × BitVec 64)) (s : State) : ∃ ws, ws.length = idle + bs.length ∧
    Out.wire lane ws ∈ (sendBlocks lane idle bs s).out ∧ SaysMore s (sendBlocks lane idle bs s) := by
  refine ⟨_, ?_, mem_emit .., (setLane_saysMore ..).trans (emit_saysMore ..)⟩
  split <;> simp [length_encodeBlocks]

/-- The payload of a packet of drive values. -/
def packetPayload (s : State) (a : Nat) (vs : List Nat) : List Byte :=
  packValues (driveDepth s) (packetBlocks s) ((vs.drop (segWidth s * segOf a)).take (segWidth s))

/-- Its LINE_END bytes, of the packet's start and payload. -/
def packetEnding (s : State) (o : Nat) (start payload : List Byte) : List Byte :=
  leBytes 2 (crc16 (start ++ payload)) ++ leBytes 2 o ++ leBytes 2 (packetBlocks s)

/-- The state once a packet's blocks are on the wire. -/
def packetSent (a o i : Nat) (start payload : List Byte) (s : State) : State :=
  sendBlocks a i (controlOf 0x78 start :: dataBlocksOf (packetBlocks s) payload ++ [controlOf 0x87 (packetEnding s o start payload)])
    (emit (.sluice a 0x87 (packetEnding s o start payload)) (emit (.sluice a 0 payload) (emit (.sluice a 0x78 start) s)))

theorem packetSent_says (a o i : Nat) (start payload : List Byte) (s : State) : SaysMore s (packetSent a o i start payload s) ∧
    Out.sluice a 0x78 start ∈ (packetSent a o i start payload s).out ∧
    ∃ ws, ws.length = i + packetBlocks s + 2 ∧ Out.wire a ws ∈ (packetSent a o i start payload s).out := by
  obtain ⟨ws, hlen, hsent, hsays⟩ := sendBlocks_sends a i
    (controlOf 0x78 start :: dataBlocksOf (packetBlocks s) payload ++ [controlOf 0x87 (packetEnding s o start payload)])
    (emit (.sluice a 0x87 (packetEnding s o start payload)) (emit (.sluice a 0 payload) (emit (.sluice a 0x78 start) s)))
  have hlater : SaysMore (emit (.sluice a 0x78 start) s) (packetSent a o i start payload s) :=
    (emit_saysMore ..).trans ((emit_saysMore ..).trans hsays)
  refine ⟨(emit_saysMore ..).trans hlater, hlater.out (mem_emit ..), ws, ?_, hsent⟩
  rw [hlen, List.length_append, List.length_cons, length_dataBlocksOf, List.length_singleton]
  omega

/-- The counts of a packet whose blocks are on the wire. -/
def packetCounted (a d : Nat) (u : State) : State :=
  setStat 1 a Fld.LANE_STAT_frozen 0 (monitorAdd 8 (8 * d) (countEvent 0x60 0x10 1 u))

/-- What follows it: its counts, its tags, and the lines held before it, counted up to line k. -/
def packetDone (a y d k : Nat) (u : State) : State :=
  tellHeld a k (issueTags a y (setLane 1 a { laneOf (packetCounted a d u) 1 a with cfgSent := [] } (packetCounted a d u)))

theorem packetDone_saysMore (a y d k : Nat) (u : State) : SaysMore u (packetDone a y d k u) :=
  (countEvent_saysMore ..).trans ((monitorAdd_saysMore ..).trans (SaysMore.trans (t := setStat ..) (wrF_saysMore ..)
    ((setLane_saysMore ..).trans ((issueTags_saysMore ..).trans (tellHeld_saysMore ..)))))

theorem linePacket_goes {y o : Nat} {vs : List Nat} (hactive : laneIs s 1 a Lane.active = true) (hcarries : carriesSegment s a = true)
    (hscan : scanning s = true) (ha : a ≤ 127) (hy : y < panelH s) (hline : packetLine s (laneCell a) y false = some vs)
    (hfits : offsetFits s a o = true) (i : Nat) : ∃ k, exec (.slkLinePacket a y ⟨o, i⟩ false false) s =
      .next (packetDone a y (packetBlocks s) k
        (packetSent a o i (lineStart s (laneCell a) y (sfn s) false false) (packetPayload s a vs) s)) := by
  have hlate : packetLate s a o = false := by
    simp only [offsetFits, Bool.and_eq_true, Bool.not_eq_true'] at hfits
    exact hfits.left
  have hopen : ¬ (!laneIs s 1 a Lane.active || !carriesSegment s a || !packetsRun s false || decide (127 < a ∨ panelH s ≤ y) ||
      (!(false || packetLate s a o) && !offsetFits s a o)) = true := by
    have hin : ¬ (127 < a ∨ panelH s ≤ y) := by omega
    simp [hactive, hcarries, packetsRun, hscan, hin, hfits]
  rw [exec_slkLinePacket, execSlkLinePacket, if_neg hopen]
  simp only [hline, hlate, Bool.or_self, Bool.false_eq_true, if_false]
  exact ⟨_, rfl⟩

/-! ### Driver configuration (R470, R471, R483) -/

theorem cfgData_of_free {ad : Nat} (h : 16 ≤ ad) (a v : Nat) : cfgData s a ad v = (v, s) := by
  have h0 : ad ≠ 0 := by omega
  have h345 : ¬ (ad = 3 ∨ laneCell a = 0 ∧ (ad = 4 ∨ ad = 5)) ∧ ¬ (ad = 4 ∨ ad = 5) := by omega
  rw [cfgData]
  simp only [if_neg h0, if_neg h345.1, if_neg h345.2]

theorem cfgTime_of_off (h : s.raster.phase = .off) (a : Nat) : cfgTime s a = true := by simp [cfgTime, scanning, h]

theorem setDcfg_same (h : s.slk.dcfg = []) : { s with slk := { s.slk with dcfg := [] } } = s := by rw [← h]

theorem followDcfg_of_none (h : s.slk.dcfg = []) : followDcfg s = s := if_pos h

/-- A write to a driver outside scanning goes out. -/
theorem execCfgWrite_goes {ad v : Nat} {r : List (Nat × Nat)} (hqueue : (laneOf s 1 a).cfgQueue = (ad, v) :: r) (had : 16 ≤ ad)
    (hactive : laneIs s 1 a Lane.active = true) (hoff : s.raster.phase = .off) (hdriven : s.raster.driven = true)
    (hdcfg : s.slk.dcfg = []) {i : Nat} {out : List Byte} (hout : (leBytes 1 ad ++ leBytes 4 v ++ leBytes 1 ((laneOf s 1 a).cfgSeq % 256)) ++
      [BitVec.ofNat 8 (crc8 (BitVec.ofNat 8 0x99 :: leBytes 1 ad ++ leBytes 4 v ++ leBytes 1 ((laneOf s 1 a).cfgSeq % 256)))] = out) :
    execCfgWrite ⟨a, i⟩ s = .next (sendBlocks a i [controlOf 0x99 out] (emit (.sluice a 0x99 out)
      (setLane 1 a { laneOf s 1 a with
        cfgQueue := r, cfgSeq := (laneOf s 1 a).cfgSeq + 1, cfgSent := (laneOf s 1 a).cfgSent ++ [(ad, v)] } s))) := by
  obtain ⟨t, ht⟩ : ∃ t, t = sendBlocks a i [controlOf 0x99 out] (emit (.sluice a 0x99 out)
      (setLane 1 a { laneOf s 1 a with
        cfgQueue := r, cfgSeq := (laneOf s 1 a).cfgSeq + 1, cfgSent := (laneOf s 1 a).cfgSent ++ [(ad, v)] } s)) := ⟨_, rfl⟩
  have hsent : t.slk.dcfg = [] := by rw [ht]; exact hdcfg
  have hopen : ¬ (!laneIs s 1 a Lane.active || !cfgTime s a || !s.raster.driven) = true := by simp [hactive, cfgTime_of_off hoff, hdriven]
  have hbytes : ((BitVec.ofNat 8 0x99 :: leBytes 1 ad ++ leBytes 4 v ++ leBytes 1 ((laneOf s 1 a).cfgSeq % 256)) ++
      [BitVec.ofNat 8 (crc8 (BitVec.ofNat 8 0x99 :: leBytes 1 ad ++ leBytes 4 v ++
        leBytes 1 ((laneOf s 1 a).cfgSeq % 256)))]).drop 1 = out := by
    rw [← hout]
    rfl
  rw [execCfgWrite]
  simp only [hqueue]
  rw [if_neg hopen]
  simp only [cfgData_of_free had, hbytes, ← ht, hsent, List.filter_nil, ite_self, setDcfg_same hsent, ne_eq,
    not_true_eq_false, false_and, if_false, followDcfg_of_none hsent]

/-- The lanes of the mask that are ACTIVE are asked. -/
def dcfgActive (s : State) : List Nat := (dcfgMask s).filter (fun n => laneIs s 1 n Lane.active)

/-- A request for the drivers' configuration begins. -/
def dcfgBegun (s : State) : State := resultBegin Reg.SLK_DCFG_RESULT [Reg.SLK_DCFG_RDATA] s

/-- A write waits for a lane. -/
def dcfgQueued (e : Nat × Nat) (s : State) (n : Nat) : State :=
  setLane 1 n { laneOf s 1 n with cfgQueue := (laneOf s 1 n).cfgQueue ++ [e] } s

/-- A request of the owner while none runs: the device's own addresses are refused, and without an ACTIVE lane it has ended; a read
asks the first lane of the mask, and a write waits on each ACTIVE one. -/
theorem execSlkDcfgGo_asked {p : Nat} {v : Word} (howner : ownerWrites s p = true) (hgo : field v 0 1 = 1)
    (hidle : resultBusy s Reg.SLK_DCFG_RESULT = false) {ad : Nat} (had : rdF s Reg.SLK_DCFG_ADDR Fld.SLK_DCFG_ADDR_address = ad)
    {rw : Bool} (hrw : rdB s Reg.SLK_DCFG_ADDR Fld.SLK_DCFG_ADDR_read = rw) : execSlkDcfgGo p v s =
      if !rw && decide (ad = 0 ∨ (3 ≤ ad ∧ ad ≤ 15)) then .next (setFlag Flag.SLK_cfg_err s)
      else if dcfgActive s = [] then .next (resultEnd Reg.SLK_DCFG_RESULT 1 (dcfgBegun s))
      else if rw then
        .next (askDriver { lane := (dcfgMask s).headD 0, cmd := 2, args := leBytes 1 ad, dsc := none, dcfg := true } (dcfgBegun s))
      else
        let t := (dcfgActive s).foldl (dcfgQueued (ad, (rd (dcfgBegun s) Reg.SLK_DCFG_DATA).toNat)) (dcfgBegun s)
        .next { t with slk := { t.slk with dcfg := dcfgActive s } } := by
  subst had hrw
  have hopen : ¬ (!ownerWrites s p || decide (field v 0 1 = 0) || resultBusy s Reg.SLK_DCFG_RESULT) = true := by
    simp [howner, hgo, hidle]
  rw [execSlkDcfgGo, if_neg hopen]
  rfl

theorem dcfgActive_one (hmask : dcfgMask s = [a]) (hactive : laneIs s 1 a Lane.active = true) : dcfgActive s = [a] := by
  simp [dcfgActive, hmask, hactive]

/-- A request that has begun runs, and leaves the data and the lanes. -/
theorem dcfgBegun_leaves (h : RegsCanonical s) : resultBusy (dcfgBegun s) Reg.SLK_DCFG_RESULT = true ∧
    rd (dcfgBegun s) Reg.SLK_DCFG_DATA = rd s Reg.SLK_DCFG_DATA ∧ (dcfgBegun s).lanes = s.lanes := by
  have hseq := canonical_wrF h Reg.SLK_DCFG_RESULT (0, 8) (rdF s Reg.SLK_DCFG_RESULT (0, 8) + 1)
  have hvalid := canonical_wrF hseq Reg.SLK_DCFG_RESULT (8, 1) 0
  have hbusy := canonical_wrF hvalid Reg.SLK_DCFG_RESULT (9, 1) 1
  have hstatus := canonical_wrF hbusy Reg.SLK_DCFG_RESULT (10, 2) 0
  unfold dcfgBegun resultBegin
  rw [List.foldl_cons, List.foldl_nil]
  refine ⟨rdB_of_rdF ?_, ?_, by simp⟩
  · rw [rdF, rd_wr_other hstatus _ (by decide), ← rdF, rdF_wrF_field hbusy _ _ (by decide) (by decide),
      rdF_wrF_same hvalid _ _ (by decide)]
    rfl
  · rw [rd_wr_other hstatus _ (by decide), rd_wrF_other hbusy _ _ (by decide), rd_wrF_other hvalid _ _ (by decide),
      rd_wrF_other hseq _ _ (by decide), rd_wrF_other h _ _ (by decide)]

/-- A write to the one lane of the mask, ACTIVE, runs and waits there. -/
theorem slkDcfgGo_writes {p : Nat} {v : Word} (howner : ownerWrites s p = true) (hgo : field v 0 1 = 1)
    (hidle : resultBusy s Reg.SLK_DCFG_RESULT = false) (hwrite : rdB s Reg.SLK_DCFG_ADDR Fld.SLK_DCFG_ADDR_read = false)
    {ad : Nat} (had : rdF s Reg.SLK_DCFG_ADDR Fld.SLK_DCFG_ADDR_address = ad) (hfree : 16 ≤ ad)
    (hmask : dcfgMask s = [a]) (hactive : laneIs s 1 a Lane.active = true) (h : RegsCanonical s) :
    ∃ t, exec (.slkDcfgGo p v) s = .next t ∧ t.slk.dcfg = [a] ∧ resultBusy t Reg.SLK_DCFG_RESULT = true ∧
      (tabWf (fun _ => ({} : LaneState)) s.lanes.lane = true → (laneOf t 1 a).cfgQueue = (laneOf s 1 a).cfgQueue ++
        [(ad, (rd s Reg.SLK_DCFG_DATA).toNat)]) := by
  obtain ⟨hbusy, hdata, hlanes⟩ := dcfgBegun_leaves h
  have hone := dcfgActive_one hmask hactive
  have hown : ¬ (!false && decide (ad = 0 ∨ (3 ≤ ad ∧ ad ≤ 15))) = true := by
    have hother : ¬ (ad = 0 ∨ (3 ≤ ad ∧ ad ≤ 15)) := by omega
    simp [hother]
  have hsame : (laneOf (dcfgBegun s) 1 a) = laneOf s 1 a := by rw [laneOf, laneOf, hlanes]
  obtain ⟨u, hu⟩ : ∃ u, u = dcfgQueued (ad, (rd (dcfgBegun s) Reg.SLK_DCFG_DATA).toNat) (dcfgBegun s) a := ⟨_, rfl⟩
  have hregs : u.regs = (dcfgBegun s).regs := by rw [hu]; rfl
  refine ⟨{ u with slk := { u.slk with dcfg := [a] } }, ?_, rfl, ?_, fun htab => ?_⟩
  · rw [exec_slkDcfgGo, execSlkDcfgGo_asked howner hgo hidle had hwrite, if_neg hown, hone, if_neg (List.cons_ne_nil a []),
      if_neg Bool.false_ne_true, hu]
    rfl
  · exact (congrArg (fun r => decide (field (tabGet regReset r Reg.SLK_DCFG_RESULT) 9 1 = 1)) hregs).trans hbusy
  · have htab' : tabWf (fun _ => ({} : LaneState)) (dcfgBegun s).lanes.lane = true := by rw [hlanes]; exact htab
    have hlane : laneOf u 1 a = { laneOf (dcfgBegun s) 1 a with cfgQueue := (laneOf (dcfgBegun s) 1 a).cfgQueue ++
        [(ad, (rd (dcfgBegun s) Reg.SLK_DCFG_DATA).toNat)] } := by
      rw [hu, dcfgQueued, laneOf_setLane htab']
    rw [← hdata, ← hsame]
    exact congrArg LaneState.cfgQueue hlane

/-! ### The back-channel (R472 to R475) -/

/-- What the slot of a driver brings to a ROLL. -/
def rollSlot (rs : List (Option (Nat × Nat × Nat))) (s : State) (n : Nat) : State :=
  match rs.getD (n % 16) none with
  | some r => if crc8 [BitVec.ofNat 8 r.1, BitVec.ofNat 8 r.2.1] = r.2.2 then rollReport n r.1 r.2.1 s else slotMissed n true s
  | none => slotMissed n false s

theorem execRoll_prbs {b : Nat} (hb : b ≤ 7) (hfree : bcFree s b = true) (hprbs : laneIs s 1 (16 * b) Lane.prbs = true)
    (rs : List (Option (Nat × Nat × Nat))) : execRoll b rs s =
      .next ((bcLanes b).foldl (rollSlot rs) (emit (.backChannel b 15 0 [0xF0, BitVec.ofNat 8 (crc8 [0xF0])]) s)) := by
  have hmem : 16 * b ∈ bcLanes b := List.mem_map.2 ⟨0, List.mem_range.2 (by decide), Nat.zero_add _⟩
  have hruns : (bcLanes b).any (fun n => (1 ≤ laneState s 1 n && decide (laneState s 1 n ≤ 5)) || laneIs s 1 n Lane.prbs) = true :=
    List.any_eq_true.2 ⟨_, hmem, by rw [hprbs, Bool.or_true]⟩
  have hopen : ¬ (decide (7 < b) || !((bcLanes b).any (fun n => (1 ≤ laneState s 1 n && decide (laneState s 1 n ≤ 5)) ||
      laneIs s 1 n Lane.prbs)) || !bcFree s b) = true := by
    have hline : ¬ 7 < b := by omega
    rw [hruns, hfree]
    simp [hline]
  rw [execRoll, if_neg hopen]
  refine congrArg Host.Outcome.next (List.foldl_ext _ _ _ fun t n _ => ?_)
  rw [rollSlot]
  rcases rs.getD (n % 16) none with _ | ⟨status, fom, crc⟩ <;> rfl

theorem askedBc_of_sent {b : Nat} {q : BcReq} (hq : oldestBc s b = some q) (hheld : q.held = false) : askedBc s b = some q := by
  rw [askedBc, hq, Option.filter_some, hheld]
  rfl

/-- The fields of a reply are what stands between its echo and its CRC. -/
theorem fields_replyFrame {q : BcReq} {bs : List Byte} {n : Nat} (hlen : bs.length = n) :
    ((replyFrame q bs).drop 1).take n = bs := by
  rw [replyFrame]
  simp [← hlen]

theorem execBcReply_good {b : Nat} {q : BcReq} (hq : oldestBc s b = some q) (hheld : q.held = false) {bs : List Byte}
    (hlen : bs.length = replyLength q.cmd) :
    execBcReply b (replyFrame q bs) s = .next (takeReply q bs (setBcOk q.lane true (dropBc q s))) := by
  rw [execBcReply]
  simp only [askedBc_of_sent hq hheld, fields_replyFrame hlen]
  rw [if_pos ⟨trivial, hlen⟩]

theorem execBcReply_bad {b : Nat} {q : BcReq} (hq : oldestBc s b = some q) (hheld : q.held = false) {fr : List Byte}
    (hfr : fr ≠ replyFrame q ((fr.drop 1).take (replyLength q.cmd))) : execBcReply b fr s = .next (replyMissed q true s) := by
  rw [execBcReply]
  simp only [askedBc_of_sent hq hheld]
  rw [if_neg fun h => hfr h.left]

theorem execBcReplyTimeout_sent {b : Nat} {q : BcReq} (hq : oldestBc s b = some q) (hheld : q.held = false) (c : Bool) :
    execBcReplyTimeout b c s = .next (replyMissed q c s) := by
  rw [execBcReplyTimeout]
  simp only [askedBc_of_sent hq hheld]

theorem pumpBc_sends {b : Nat} {q : BcReq} (hq : oldestBc s b = some q) (hheld : q.held = true) (hfree : bcFree s b = true) :
    pumpBc b s = sendBc q { s with slk := { s.slk with bc := s.slk.bc.map (fun x => if x = q then { x with held := false } else x) } } := by
  have hgo : (q.held && bcFree s b) = true := by rw [hheld, hfree]; rfl
  rw [pumpBc]
  simp only [hq]
  rw [if_pos hgo]

theorem pumpBc_waits {b : Nat} (hfree : bcFree s b = false) : pumpBc b s = s := by
  rw [pumpBc]
  split
  · rw [hfree, Bool.and_false, if_neg Bool.false_ne_true]
  · rfl

theorem leAt_relockFrame (a : Nat) {f : Nat} (hf : f < 256) : leAt (relockFrame a f) 1 1 = f := by
  have hbyte : leAt (relockFrame a f) 1 1 = (BitVec.ofNat 8 f).toNat + 256 * 0 := rfl
  rw [hbyte, BitVec.toNat_ofNat]
  omega

end Sluice

/-- Settles O46: the line packet, the configuration of drivers, and each form of the back-channel. -/
theorem sluiceLink : Obligations.SluiceLink := by
  intro s a
  refine ⟨fun y o vs hactive hcarries hscan ha hy hline hfits i => ?packet,
    fun ad v r i out hqueue had hactive hoff hdriven hdcfg hout => ?config,
    fun p v howner hgo hidle hwrite had => ?own, fun p v howner hgo hidle had hmask => ?nobody,
    fun p v howner hgo hidle hwrite had hmask hactive hregs => slkDcfgGo_writes howner hgo hidle hwrite rfl had hmask hactive hregs,
    fun p v howner hgo hidle hread hmask hactive => ?read, fun b rs hb hfree hprbs => ?roll, fun ha hfree hactive => ?poll,
    fun b q bs hq hheld hlen => ?reply, fun b q c hq hheld hagain => ?silent, fun b q c hq hheld hagain => ?retry,
    fun b n row hb hlow hhigh => ?alert, fun f ha hf hfast => ?relock, fun b q fr hq hheld hfr => ?broken,
    fun b q hq hheld hfree => pumpBc_sends hq hheld hfree, fun b hfree => pumpBc_waits hfree, fun fr hfr => ?noise,
    fun hon hagain c => ?missedTwice, fun hon hagain c => ?missedOnce⟩
  case packet =>
    obtain ⟨k, hk⟩ := linePacket_goes hactive hcarries hscan ha hy hline hfits i
    obtain ⟨hsays, hstart, ws, hlen, hwire⟩ := packetSent_says a o i (lineStart s (laneCell a) y (sfn s) false false) (packetPayload s a vs) s
    obtain ⟨-, -, -, hlater⟩ := packetDone_saysMore a y (packetBlocks s) k
      (packetSent a o i (lineStart s (laneCell a) y (sfn s) false false) (packetPayload s a vs) s)
    obtain ⟨hsfn, hboot, hfuses, -⟩ := hsays.trans (packetDone_saysMore a y (packetBlocks s) k _)
    exact ⟨_, ws, hk, hlater hstart, hlater hwire, hlen, hsfn, hboot, hfuses⟩
  case config => rw [exec_cfgWrite, execCfgWrite_goes hqueue had hactive hoff hdriven hdcfg hout]
  case own =>
    rw [exec_slkDcfgGo, execSlkDcfgGo_asked howner hgo hidle had hwrite]
    rfl
  case nobody =>
    have hnone : dcfgActive s = [] := by rw [dcfgActive, hmask, List.filter_nil]
    have hother : ¬ (rdF s Reg.SLK_DCFG_ADDR Fld.SLK_DCFG_ADDR_address = 0 ∨
        (3 ≤ rdF s Reg.SLK_DCFG_ADDR Fld.SLK_DCFG_ADDR_address ∧ rdF s Reg.SLK_DCFG_ADDR Fld.SLK_DCFG_ADDR_address ≤ 15)) := by omega
    rw [exec_slkDcfgGo, execSlkDcfgGo_asked howner hgo hidle rfl rfl, decide_eq_false hother, Bool.and_false,
      if_neg Bool.false_ne_true, if_pos hnone, dcfgBegun]
  case read =>
    have hsome : dcfgActive s ≠ [] := by rw [dcfgActive_one hmask hactive]; exact List.cons_ne_nil a []
    rw [exec_slkDcfgGo, execSlkDcfgGo_asked howner hgo hidle rfl hread, Bool.not_true, Bool.false_and, if_neg Bool.false_ne_true,
      if_neg hsome, if_pos rfl, hmask, dcfgBegun]
    rfl
  case roll => exact (exec_roll b rs s).trans (execRoll_prbs hb hfree hprbs rs)
  case poll =>
    have hopen : ¬ (127 < a ∨ bcFree s (a / 16) = false) := by simp [hfree, ha]
    rw [exec_statusPoll, execStatusPoll, if_neg hopen, if_pos hactive]
  case reply => rw [exec_bcReply, execBcReply_good hq hheld hlen]
  case silent => rw [exec_bcReplyTimeout, execBcReplyTimeout_sent hq hheld, replyMissed, if_pos hagain]
  case retry =>
    rw [exec_bcReplyTimeout, execBcReplyTimeout_sent hq hheld, replyMissed, if_neg (by rw [hagain]; exact Bool.false_ne_true)]
  case alert =>
    have hlane : (950 + 100 * n - 950) / 100 = n := by omega
    rw [exec_bcAlertPulse, execBcAlertPulse]
    rw [hlane, if_neg (by omega), if_neg (by omega)]
  case relock =>
    have hopen : ¬ (!laneIs s 1 a Lane.fast || decide (127 < a) || decide (relockFrame a f ≠ relockFrame a f)) = true := by
      simp [hfast, ha]
    rw [exec_relock, execRelock]
    rw [leAt_relockFrame a hf, if_neg hopen]
  case broken => rw [exec_bcReply, execBcReply_bad hq hheld hfr]
  case noise =>
    have hclosed : (!laneIs s 1 a Lane.fast || decide (127 < a) || decide (fr ≠ relockFrame a (leAt fr 1 1))) = true := by
      rw [decide_eq_true hfr, Bool.or_true]
    rw [exec_relock, execRelock]
    rw [if_pos hclosed]
  case missedTwice => rw [slotMissed, if_neg (by rw [hon]; exact Bool.false_ne_true), if_pos hagain]
  case missedOnce =>
    rw [slotMissed, if_neg (by rw [hon]; exact Bool.false_ne_true), if_neg (by rw [hagain]; exact Bool.false_ne_true)]

end Sys2Proof.Machine
end

section

/-! ## Every command answers a next state and keeps the register file canonical

One rule for each function of the model, in the model's order: its result is canonical when its argument is. The proof
of a rule names the rules of what the function calls, in the order in which it calls them, so that only `wr`, the resets and
`restart` ever speak of the registers themselves. A command's rule says with it that the command answers a next state. -/

namespace Sys2Proof

open Machine

variable {s t : State}

-- The rules are many and short: elaborated side by side, they ask for more threads than there is stack for.
set_option Elab.async false

/-! ### The shapes of an update -/

/-- An update that spares the registers. -/
protected theorem RegsCanonical.same (h : RegsCanonical s) (ht : t.regs = s.regs := by dsimp only) : RegsCanonical t :=
  canonical_of_regs h ht

protected theorem RegsCanonical.ite {c : Prop} {_ : Decidable c} (hs : RegsCanonical s) (ht : RegsCanonical t) :
    RegsCanonical (if c then s else t) := by
  split
  · exact hs
  · exact ht

protected theorem RegsCanonical.foldl {α : Type} {f : State → α → State} {l : List α} (h : RegsCanonical s)
    (hf : ∀ s a, RegsCanonical s → RegsCanonical (f s a)) : RegsCanonical (l.foldl f s) :=
  List.foldlRecOn _ _ h fun t ht a _ => hf t a ht

/-- A command answers a next state, whose register file is canonical when the one before is. -/
def NextCanonical (s : State) (o : Host.Outcome State Fault Refusal) : Prop :=
  ∃ t, o = .next t ∧ (RegsCanonical s → RegsCanonical t)

protected theorem NextCanonical.next (h : RegsCanonical s → RegsCanonical t) : NextCanonical s (.next t) := ⟨t, rfl, h⟩

protected theorem NextCanonical.ite {c : Prop} {_ : Decidable c} {o p : Host.Outcome State Fault Refusal}
    (ho : NextCanonical s o) (hp : NextCanonical s p) : NextCanonical s (if c then o else p) := by
  split
  · exact ho
  · exact hp

/-! ### The shared operations on registers, flags, events and completions -/

protected theorem RegsCanonical.wr {k w} (h : RegsCanonical s) : RegsCanonical (wr k w s) :=
  canonical_wr h ..

protected theorem RegsCanonical.wrF {k f v} (h : RegsCanonical s) : RegsCanonical (wrF k f v s) :=
  h.wr

protected theorem RegsCanonical.bumpWrap {k n} (h : RegsCanonical s) : RegsCanonical (bumpWrap k n s) :=
  h.wr

protected theorem RegsCanonical.bumpSat {k f n} (h : RegsCanonical s) : RegsCanonical (bumpSat k f n s) :=
  h.wrF

protected theorem RegsCanonical.resetRegs {p} (h : RegsCanonical s) : RegsCanonical (resetRegs p s) :=
  tabWf_keep regReset (fun k => !p k) h

protected theorem RegsCanonical.freeBelow {bound} (h : RegsCanonical s) : RegsCanonical (freeBelow bound s).2 :=
  h.same rfl

protected theorem RegsCanonical.tick (h : RegsCanonical s) : RegsCanonical (tick s) :=
  h.same rfl

protected theorem RegsCanonical.emit {o} (h : RegsCanonical s) : RegsCanonical (emit o s) :=
  h.same rfl

protected theorem RegsCanonical.setCtr {n c} (h : RegsCanonical s) : RegsCanonical (setCtr n c s) :=
  h.same rfl

protected theorem RegsCanonical.flagOverflow (h : RegsCanonical s) : RegsCanonical (flagOverflow s) :=
  h.wrF.bumpSat

protected theorem RegsCanonical.ctrAddOne {n v} (h : RegsCanonical s) : RegsCanonical (ctrAddOne n v s) :=
  .ite h.setCtr h.setCtr.flagOverflow

protected theorem RegsCanonical.ctrCarry {n v} (h : RegsCanonical s) : RegsCanonical (ctrCarry n v s) :=
  .ite h.ctrAddOne h

protected theorem RegsCanonical.ctrAdd {n v} (h : RegsCanonical s) : RegsCanonical (ctrAdd n v s) :=
  .ite (.ite h.setCtr h.setCtr.flagOverflow.ctrCarry) h.ctrAddOne

protected theorem RegsCanonical.countEvent {unit ev v} (h : RegsCanonical s) :
    RegsCanonical (countEvent unit ev v s) :=
  .ite h (.foldl h fun _ _ h => .ite h.ctrAdd h)

protected theorem RegsCanonical.fixedAdd {k v} (h : RegsCanonical s) : RegsCanonical (fixedAdd k v s) :=
  .ite h (.ite h.same h.same.flagOverflow)

protected theorem RegsCanonical.monitorAdd {m v} (h : RegsCanonical s) : RegsCanonical (monitorAdd m v s) :=
  .ite h h.same

protected theorem RegsCanonical.setFlag {f} (h : RegsCanonical s) : RegsCanonical (setFlag f s) :=
  h.wrF.bumpSat.countEvent

protected theorem RegsCanonical.clearFlag {f} (h : RegsCanonical s) : RegsCanonical (clearFlag f s) :=
  h.wrF.wrF

protected theorem RegsCanonical.setPort {p v} (h : RegsCanonical s) : RegsCanonical (setPort p v s) :=
  h.same rfl

protected theorem RegsCanonical.setSq {p n v} (h : RegsCanonical s) : RegsCanonical (setSq p n v s) :=
  h.same rfl

protected theorem RegsCanonical.setCq {p n v} (h : RegsCanonical s) : RegsCanonical (setCq p n v s) :=
  h.same rfl

protected theorem RegsCanonical.setEvq {p v} (h : RegsCanonical s) : RegsCanonical (setEvq p v s) :=
  h.same rfl

protected theorem RegsCanonical.writeRw {k val} (h : RegsCanonical s) : RegsCanonical (writeRw k val s) := by
  unfold writeRw
  split
  · exact h.wr
  · exact h

protected theorem RegsCanonical.writeRwl {k val} (h : RegsCanonical s) : RegsCanonical (writeRwl k val s) := by
  unfold writeRwl
  split
  · exact h.wr
  · exact h

protected theorem RegsCanonical.sendMsix {p v} (h : RegsCanonical s) : RegsCanonical (sendMsix p v s) :=
  .ite h.wrF h.emit.monitorAdd

protected theorem RegsCanonical.sendEvq {p} (h : RegsCanonical s) : RegsCanonical (sendEvq p s) :=
  .ite h.setEvq.sendMsix h

protected theorem RegsCanonical.signalEvq {p} (h : RegsCanonical s) : RegsCanonical (signalEvq p s) :=
  .ite h.sendEvq h

protected theorem RegsCanonical.writeEvent {p e} (h : RegsCanonical s) : RegsCanonical (writeEvent p e s) :=
  h.setEvq.emit.countEvent.monitorAdd.signalEvq

protected theorem RegsCanonical.logEvent {e} (h : RegsCanonical s) : RegsCanonical (logEvent e s) :=
  .ite h.setFlag h.same

protected theorem RegsCanonical.reportLost {p} (h : RegsCanonical s) : RegsCanonical (reportLost p s) := by
  unfold reportLost
  extract_lets _ _ s1
  have h1 : RegsCanonical s1 := h.setPort.fixedAdd.logEvent
  exact .ite (.ite h1.writeEvent h1) h

protected theorem RegsCanonical.postToPort {e p} (h : RegsCanonical s) : RegsCanonical (postToPort e s p) :=
  .ite h (.ite h.reportLost.writeEvent h.reportLost.setPort.bumpSat.setFlag)

protected theorem RegsCanonical.postEvent {r code unit sev data} (h : RegsCanonical s) :
    RegsCanonical (postEvent r code unit sev data s) := by
  unfold postEvent
  extract_lets _ s1 s2 s3
  have h1 : RegsCanonical s1 := h.tick.fixedAdd
  have h2 : RegsCanonical s2 := .foldl h1 fun _ _ h => h.postToPort
  have h3 : RegsCanonical s3 := .ite h2.logEvent h2
  exact .ite h3.emit h3

protected theorem RegsCanonical.sendCq {p n} (h : RegsCanonical s) : RegsCanonical (sendCq p n s) :=
  .ite h.setCq.sendMsix h

protected theorem RegsCanonical.signalCq {p n} (h : RegsCanonical s) : RegsCanonical (signalCq p n s) :=
  .ite h.sendCq h

protected theorem RegsCanonical.writeCompletion {p n c} (h : RegsCanonical s) :
    RegsCanonical (writeCompletion p n c s) :=
  h.setCq.emit.countEvent.monitorAdd.signalCq

protected theorem RegsCanonical.postCompletion {p n c} (h : RegsCanonical s) :
    RegsCanonical (postCompletion p n c s) :=
  .ite h.writeCompletion (.ite h.setCq h.setCq.setFlag.postEvent)

protected theorem RegsCanonical.setDsc {d} (h : RegsCanonical s) : RegsCanonical (setDsc d s) :=
  h.same rfl

protected theorem RegsCanonical.dropDsc {d} (h : RegsCanonical s) : RegsCanonical (dropDsc d s) :=
  h.same rfl

protected theorem RegsCanonical.drainSq {p n} (h : RegsCanonical s) : RegsCanonical (drainSq p n s) :=
  .ite h.wrF.setSq h

protected theorem RegsCanonical.complete {d st frame res} (h : RegsCanonical s) :
    RegsCanonical (complete d st frame res s) :=
  .drainSq (.ite h.dropDsc.postCompletion.postEvent h.dropDsc.postCompletion)

protected theorem RegsCanonical.completeI {d st res} (h : RegsCanonical s) : RegsCanonical (completeI d st res s) :=
  h.complete

protected theorem RegsCanonical.refuseWith {d st unit} (h : RegsCanonical s) :
    RegsCanonical (refuseWith d st unit s) :=
  h.complete

protected theorem RegsCanonical.badWith {d st off} (h : RegsCanonical s) : RegsCanonical (badWith d st off s) :=
  h.complete

/-! ### The command catalogue -/

protected theorem RegsCanonical.setHost {kind idx x} (h : RegsCanonical s) : RegsCanonical (setHost kind idx x s) :=
  h.same rfl

/-! ### The host rings -/

protected theorem RegsCanonical.triggerFetch {p} (h : RegsCanonical s) : RegsCanonical (triggerFetch p s) :=
  .ite h (.ite h.setPort h.setPort.emit)

protected theorem NextCanonical.execPortKick {port val} : NextCanonical s (execPortKick port val s) :=
  .ite (.next fun h => h.triggerFetch) (.next id)

protected theorem NextCanonical.execPollTimerExpiry {port} : NextCanonical s (execPollTimerExpiry port s) :=
  .ite (.next id) (.next fun h => h.triggerFetch)

protected theorem RegsCanonical.doorbellBad {p ring w seen} (h : RegsCanonical s) :
    RegsCanonical (doorbellBad p ring w seen s) :=
  .ite h.setFlag h.setFlag.postEvent

protected theorem RegsCanonical.sqWord {p n w} (h : RegsCanonical s) : RegsCanonical (sqWord p n w s) := by
  unfold sqWord
  refine .ite h ?_
  dsimp only
  split
  · exact h
  · exact h.setSq
  · exact h.setSq.doorbellBad

protected theorem RegsCanonical.freeSlot {p e} (h : RegsCanonical s) : RegsCanonical (freeSlot p s e) :=
  .ite h.setSq h

protected theorem RegsCanonical.releaseHeld {p n fuel} (h : RegsCanonical s) :
    RegsCanonical (releaseHeld p n fuel s) := by
  induction fuel generalizing s with
  | zero => exact h
  | succ fuel ih =>
    unfold releaseHeld
    split
    · exact h.setCq
    · exact .ite (ih h.setCq.writeCompletion.drainSq) h

protected theorem RegsCanonical.cqWord {p n w} (h : RegsCanonical s) : RegsCanonical (cqWord p n w s) := by
  unfold cqWord
  refine .ite h ?_
  dsimp only
  split
  · exact h
  · exact .releaseHeld (.foldl h.setCq fun _ _ h => h.freeSlot)
  · exact h.setCq.doorbellBad

protected theorem RegsCanonical.evqWord {p w} (h : RegsCanonical s) : RegsCanonical (evqWord p w s) := by
  unfold evqWord
  refine .ite h ?_
  dsimp only
  split
  · exact h
  · exact h.setEvq.reportLost
  · exact h.setEvq.doorbellBad

protected theorem RegsCanonical.fetchEnds {p} (h : RegsCanonical s) : RegsCanonical (fetchEnds p s) :=
  .ite h.setPort.emit h.setPort

protected theorem RegsCanonical.acceptBlock {p ws} (h : RegsCanonical s) : RegsCanonical (acceptBlock p ws s) :=
  .foldl (.evqWord (.foldl h fun _ _ h => h.cqWord)) fun _ _ h => h.sqWord

protected theorem RegsCanonical.blockReadFailed {p} (h : RegsCanonical s) : RegsCanonical (blockReadFailed p s) :=
  .ite h.setPort.setFlag h.setPort.setFlag.postEvent

protected theorem NextCanonical.execDoorbellFetchDone {port words} :
    NextCanonical s (execDoorbellFetchDone port words s) := by
  unfold execDoorbellFetchDone
  extract_lets s1
  have h1 : RegsCanonical s → RegsCanonical s1 := fun h => h.countEvent
  refine .ite (.next id) ?_
  split
  · exact .next fun h => (h1 h).blockReadFailed.fetchEnds
  · exact .next fun h => (h1 h).setPort.monitorAdd.acceptBlock.fetchEnds

protected theorem RegsCanonical.setGroup {g} (h : RegsCanonical s) : RegsCanonical (setGroup g s) :=
  h.same rfl

protected theorem RegsCanonical.dropGroup {g} (h : RegsCanonical s) : RegsCanonical (dropGroup g s) :=
  h.same rfl

protected theorem RegsCanonical.failGroup {g st off} (h : RegsCanonical s) :
    RegsCanonical (failGroup g st off s) := by
  unfold failGroup
  exact .foldl h.dropGroup fun _ _ h => by
    split
    · exact h.badWith
    · exact h

protected theorem RegsCanonical.abortGroup {g} (h : RegsCanonical s) : RegsCanonical (abortGroup g s) := by
  unfold abortGroup
  exact .foldl h.dropGroup fun _ _ h => by
    split
    · split <;> exact h.complete
    · exact h

protected theorem RegsCanonical.failMember {d st v} (h : RegsCanonical s) : RegsCanonical (failMember d st v s) := by
  unfold failMember
  split
  · exact h.abortGroup
  · exact h.complete

protected theorem RegsCanonical.closeGroup {g} (h : RegsCanonical s) : RegsCanonical (closeGroup g s) :=
  .ite h.failGroup (.ite h.failGroup (.ite h.abortGroup h.setGroup))

protected theorem RegsCanonical.setOpen {p n g} (h : RegsCanonical s) : RegsCanonical (setOpen p n g s) :=
  h.setSq

protected theorem RegsCanonical.joinGroup {g d bad} (h : RegsCanonical s) : RegsCanonical (joinGroup g d bad s) := by
  unfold joinGroup
  extract_lets s1 s2
  have h1 : RegsCanonical s1 := h.badWith
  have h2 : RegsCanonical s2 := h.failGroup.badWith
  exact .ite (.ite h1 h1.dropGroup.setOpen) (.ite (.ite h2.setGroup h2.setOpen) (.ite h.setGroup h.setOpen.closeGroup))

protected theorem RegsCanonical.addDsc {d} (h : RegsCanonical s) : RegsCanonical (addDsc d s) :=
  h.same rfl

protected theorem RegsCanonical.parseDsc {d} (h : RegsCanonical s) : RegsCanonical (parseDsc d s) := by
  unfold parseDsc
  dsimp only
  split
  · exact h.addDsc.joinGroup
  · refine .ite (RegsCanonical.joinGroup (.addDsc ?_)) ?_
    · split
      · exact .setOpen h.same
      · exact h.same
    · split
      · exact h.addDsc.complete
      · exact h.addDsc

protected theorem RegsCanonical.takeTurn {p n} (h : RegsCanonical s) : RegsCanonical (takeTurn p n s) :=
  h.setPort

protected theorem NextCanonical.execDescriptorFetchDone {port sq raw} :
    NextCanonical s (execDescriptorFetchDone port sq raw s) := by
  unfold execDescriptorFetchDone
  refine .ite (.next id) ?_
  dsimp only
  split
  · exact .next fun h => h.setSq.setFlag.postEvent
  · exact .next fun h => h.takeTurn.setSq.countEvent.monitorAdd.parseDsc

protected theorem NextCanonical.withReady {p q n op} {f : Dsc → State → State}
    (hf : ∀ d s, RegsCanonical s → RegsCanonical (f d s)) : NextCanonical s (withReady p q n op f s) := by
  unfold withReady
  split
  · exact .next (hf _ _)
  · exact .next id

protected theorem RegsCanonical.setRunning {d} (h : RegsCanonical s) : RegsCanonical (setRunning d s) :=
  h.setDsc

protected theorem RegsCanonical.nextOrder (h : RegsCanonical s) : RegsCanonical (nextOrder s).2 :=
  h.same rfl

protected theorem RegsCanonical.dropOpen {p n} (h : RegsCanonical s) : RegsCanonical (dropOpen p n s) := by
  unfold dropOpen
  split
  · exact h.setOpen.abortGroup
  · exact h

protected theorem NextCanonical.execSqCfgWrite {port n val} : NextCanonical s (execSqCfgWrite port n val s) := by
  unfold execSqCfgWrite
  extract_lets _ _ s1
  have h1 : RegsCanonical s → RegsCanonical s1 := fun h => h.wrF.wrF
  refine .ite (.next id) ?_
  exact .ite (.ite (.next id) (.next fun h => h.setSq.dropOpen.drainSq)) (.ite (.next fun h => (h1 h).wrF.setSq) (.next h1))

protected theorem RegsCanonical.cfgCommon {k val} (h : RegsCanonical s) : RegsCanonical (cfgCommon k val s) :=
  .ite h.wrF.wrF h.wrF.wrF.wrF

protected theorem NextCanonical.execCqCfgWrite {port n val} : NextCanonical s (execCqCfgWrite port n val s) := by
  unfold execCqCfgWrite
  extract_lets _ _ s1
  have h1 : RegsCanonical s → RegsCanonical s1 := fun h => h.cfgCommon
  refine .ite (.next id) ?_
  refine .ite (.ite (.next fun h => (h1 h).wrF.setCq) (.next fun h => (h1 h).signalCq)) ?_
  exact .ite (.next fun h => (h1 h).wrF.setCq) (.next h1)

protected theorem RegsCanonical.tellFailures {p} (h : RegsCanonical s) : RegsCanonical (tellFailures p s) :=
  .ite (.foldl h.setPort fun _ _ h => h.postToPort) h

protected theorem NextCanonical.execEvqCfgWrite {port val} : NextCanonical s (execEvqCfgWrite port val s) := by
  unfold execEvqCfgWrite
  extract_lets _ _ s1
  have h1 : RegsCanonical s → RegsCanonical s1 := fun h => h.cfgCommon
  refine .ite (.next id) ?_
  refine .ite (.ite (.next fun h => (h1 h).wrF.setEvq) (.next fun h => (h1 h).signalEvq)) ?_
  exact .ite (.next fun h => (h1 h).wrF.setEvq.reportLost.tellFailures) (.next h1)

protected theorem NextCanonical.execCoalesceTimerExpiry {port ring} :
    NextCanonical s (execCoalesceTimerExpiry port ring s) :=
  .ite (.next id) (.next fun h => .ite h.sendEvq h.sendCq)

/-! ### What every block asks of the power sequencer -/

protected theorem RegsCanonical.setPower {p} (h : RegsCanonical s) : RegsCanonical (setPower p s) :=
  h.same rfl

protected theorem RegsCanonical.resultBegin {k data} (h : RegsCanonical s) : RegsCanonical (resultBegin k data s) :=
  .foldl h.wrF.wrF.wrF.wrF fun _ _ h => h.wr

protected theorem RegsCanonical.resultEnd {k st} (h : RegsCanonical s) : RegsCanonical (resultEnd k st s) :=
  h.wrF.wrF.wrF

protected theorem RegsCanonical.pmbus {n cmd val} (h : RegsCanonical s) : RegsCanonical (pmbus n cmd val s) :=
  h.emit

protected theorem RegsCanonical.railOn {n} (h : RegsCanonical s) : RegsCanonical (railOn n s) :=
  .ite h h.setPower.pmbus.emit.pmbus

protected theorem RegsCanonical.railOff {n} (h : RegsCanonical s) : RegsCanonical (railOff n s) :=
  .ite h.setPower.pmbus h

protected theorem RegsCanonical.commandRail {rail mv} (h : RegsCanonical s) : RegsCanonical (commandRail rail mv s) :=
  .ite h h.setPower.pmbus

protected theorem RegsCanonical.restoreVolts (h : RegsCanonical s) : RegsCanonical (restoreVolts s) :=
  .foldl h fun _ _ h => h.commandRail

protected theorem RegsCanonical.recordWake {w} (h : RegsCanonical s) : RegsCanonical (recordWake w s) :=
  h.wrF.wrF

protected theorem RegsCanonical.beginExit {e} (h : RegsCanonical s) : RegsCanonical (beginExit e s) := by
  unfold beginExit
  dsimp only
  split
  · exact h.setPower.resultBegin
  · exact h.setPower.resultBegin.commandRail.railOn

protected theorem RegsCanonical.wakeUp {w cause} (h : RegsCanonical s) : RegsCanonical (wakeUp w cause s) := by
  unfold wakeUp
  split
  · exact .ite h h.setPower.recordWake
  · exact h
  · exact .ite h h.recordWake.beginExit

protected theorem RegsCanonical.idleTrigger (h : RegsCanonical s) : RegsCanonical (idleTrigger s) :=
  .ite h.setPower.wakeUp h.setPower

protected theorem RegsCanonical.setOp {d n} (h : RegsCanonical s) : RegsCanonical (setOp d n s) :=
  .ite h.setPower.wrF h.setPower

protected theorem RegsCanonical.serveOps {fuel} (h : RegsCanonical s) : RegsCanonical (serveOps fuel s) := by
  induction fuel generalizing s with
  | zero => exact h
  | succ fuel ih =>
    unfold serveOps
    split
    · exact h
    · split
      · exact h
      · exact .ite (ih h.setPower) (.ite h.setPower.commandRail h.setPower)

protected theorem RegsCanonical.wantOp {d n cause} (h : RegsCanonical s) : RegsCanonical (wantOp d n cause s) :=
  h.setPower.serveOps

protected theorem RegsCanonical.followCompOp (h : RegsCanonical s) : RegsCanonical (followCompOp s) :=
  h.wantOp

/-! ### Resets, start-up failures and fatal faults -/

protected theorem RegsCanonical.setReason {bits} (h : RegsCanonical s) : RegsCanonical (setReason bits s) :=
  .foldl h fun _ _ h => h.wrF

protected theorem RegsCanonical.restart {full} (h : RegsCanonical s) : RegsCanonical (restart full s) :=
  canonical_restart h full

protected theorem RegsCanonical.setStage {stage ph} (h : RegsCanonical s) : RegsCanonical (setStage stage ph s) :=
  h.wrF.same rfl

protected theorem RegsCanonical.noSource (h : RegsCanonical s) : RegsCanonical (noSource s) :=
  h.wrF

protected theorem RegsCanonical.deviceReset (h : RegsCanonical s) : RegsCanonical (deviceReset s) := by
  unfold deviceReset
  extract_lets s1
  have h1 : RegsCanonical s1 := h.restart.restoreVolts.noSource
  split
  · exact h1.railOn.setStage
  · exact h1.setStage

protected theorem RegsCanonical.ownerReset (h : RegsCanonical s) : RegsCanonical (ownerReset s) := by
  unfold ownerReset
  exact h.deviceReset.setReason

protected theorem RegsCanonical.enterStopped (h : RegsCanonical s) : RegsCanonical (enterStopped s) := by
  unfold enterStopped
  exact h.setStage.same

protected theorem RegsCanonical.bootFailure {code slot detail} (h : RegsCanonical s) :
    RegsCanonical (bootFailure code slot detail s) := by
  unfold bootFailure
  extract_lets _ _ s1 _ s2 s3
  have h1 : RegsCanonical s1 := .ite h.wrF h
  have h2 : RegsCanonical s2 := h1.tick.fixedAdd.logEvent
  have h3 : RegsCanonical s3 := .ite h2.emit h2
  exact .ite h1.postEvent h3.same

protected theorem RegsCanonical.fatalRecord {cls unit detail status} (h : RegsCanonical s) :
    RegsCanonical (fatalRecord cls unit detail status s) :=
  .bumpWrap (.tick (.foldl h.same fun _ _ h => h.wr))

protected theorem RegsCanonical.fatalToPort {e p} (h : RegsCanonical s) : RegsCanonical (fatalToPort e s p) :=
  .ite (.ite h.writeEvent h.writeEvent.sendEvq) h

protected theorem RegsCanonical.fatalReset {cls unit detail} (h : RegsCanonical s) :
    RegsCanonical (fatalReset cls unit detail s) := by
  unfold fatalReset
  extract_lets _ s1 _ s2 _ s3 s4
  have h1 : RegsCanonical s1 := h.fatalRecord
  have h2 : RegsCanonical s2 := .emit (.foldl h1 fun _ _ h => h.fatalToPort)
  have h3 : RegsCanonical s3 := h2.same
  have h4 : RegsCanonical s4 := h3.deviceReset.setReason
  exact .ite h2.logEvent h4.same.logEvent

protected theorem RegsCanonical.railsOff (h : RegsCanonical s) : RegsCanonical (railsOff s) := by
  unfold railsOff
  exact .same (.foldl h fun _ _ h => .ite h.pmbus h)

protected theorem RegsCanonical.powerStart (h : RegsCanonical s) : RegsCanonical (powerStart s) := by
  unfold powerStart
  exact h.restart.noSource.setReason.setStage.railOn.same

/-! ### Reservoir allocation and tables -/

protected theorem RegsCanonical.alloc {r tag n} (h : RegsCanonical s) (ht : alloc r tag n s = some t) :
    RegsCanonical t := by
  unfold Machine.alloc at ht
  dsimp only at ht
  split at ht
  · exact Option.some_inj.1 ht ▸ h
  · split at ht
    · exact Option.some_inj.1 ht ▸ h.same
    · exact absurd ht nofun

protected theorem RegsCanonical.allocTwice {tag n} (h : RegsCanonical s) (ht : allocTwice tag n s = some t) :
    RegsCanonical t := by
  obtain ⟨u, hu, ht⟩ := Option.bind_eq_some_iff.1 ht
  exact (h.alloc hu).alloc ht

protected theorem RegsCanonical.freeTag {r tag} (h : RegsCanonical s) : RegsCanonical (freeTag r tag s) :=
  h.same rfl

protected theorem RegsCanonical.retag {r old new} (h : RegsCanonical s) : RegsCanonical (retag r old new s) :=
  h.same rfl

protected theorem RegsCanonical.followBlocked (h : RegsCanonical s) : RegsCanonical (followBlocked s) :=
  h.wrF

protected theorem RegsCanonical.recordMissing (h : RegsCanonical s) : RegsCanonical (recordMissing s) := by
  unfold recordMissing
  split
  · exact h
  · refine .ite h ?_
    split
    · exact h
    · exact h.same.bootFailure

protected theorem RegsCanonical.showActive (h : RegsCanonical s) : RegsCanonical (showActive s) :=
  h.wrF.wrF.wrF.wrF

protected theorem RegsCanonical.setDegraded {d} (h : RegsCanonical s) : RegsCanonical (setDegraded d s) :=
  h.same.wrF

protected theorem RegsCanonical.degrade {cell stage} (h : RegsCanonical s) : RegsCanonical (degrade cell stage s) :=
  .ite h h.setDegraded

protected theorem RegsCanonical.undegrade {cell stage} (h : RegsCanonical s) :
    RegsCanonical (undegrade cell stage s) :=
  h.setDegraded

protected theorem RegsCanonical.loseTable {id} (h : RegsCanonical s) : RegsCanonical (loseTable id s) :=
  h.same.freeTag.showActive.followBlocked

protected theorem RegsCanonical.activate {id} (h : RegsCanonical s) : RegsCanonical (activate id s) :=
  h.same.freeTag.retag.showActive.followBlocked

protected theorem RegsCanonical.dropStaged {id} (h : RegsCanonical s) : RegsCanonical (dropStaged id s) :=
  h.same.freeTag

/-! ### Confidence rectangles -/

protected theorem RegsCanonical.setRect {r v} (h : RegsCanonical s) : RegsCanonical (setRect r v s) :=
  h.same rfl

protected theorem RegsCanonical.followWaiting {r} (h : RegsCanonical s) : RegsCanonical (followWaiting r s) :=
  h.wrF

protected theorem RegsCanonical.endCheck {port sq seq st frame res} (h : RegsCanonical s) :
    RegsCanonical (endCheck port sq seq st frame res s) := by
  unfold endCheck
  split
  · exact h.complete
  · exact h

protected theorem RegsCanonical.clearRect {r} (h : RegsCanonical s) : RegsCanonical (clearRect r s) := by
  unfold clearRect
  extract_lets _ s1 s2 s3
  have h1 : RegsCanonical s1 := h.setRect
  have h2 : RegsCanonical s2 := .foldl h1 fun _ _ h => h.endCheck
  have h3 : RegsCanonical s3 := by
    unfold s3
    split
    · exact h2.endCheck
    · exact h2
  exact h3.wrF.wr.followWaiting

protected theorem RegsCanonical.followChkActive {r} (h : RegsCanonical s) : RegsCanonical (followChkActive r s) :=
  h.wrF

protected theorem RegsCanonical.disableRect {r} (h : RegsCanonical s) : RegsCanonical (disableRect r s) :=
  h.clearRect.wrF.followChkActive

protected theorem RegsCanonical.recheckRects (h : RegsCanonical s) : RegsCanonical (recheckRects s) :=
  .foldl h fun _ _ h => .ite h.disableRect.setFlag h

protected theorem RegsCanonical.logMismatch {r flags frame computed expected} (h : RegsCanonical s) :
    RegsCanonical (logMismatch r flags frame computed expected s) :=
  .bumpWrap (.tick (.foldl h fun _ _ h => h.wr))

protected theorem RegsCanonical.mismatch {r flags frame computed expected told} (h : RegsCanonical s) :
    RegsCanonical (mismatch r flags frame computed expected told s) := by
  unfold mismatch
  extract_lets _ s1
  have h1 : RegsCanonical s1 := h.logMismatch.bumpSat.setFlag.countEvent
  exact .ite h1.postEvent h1

protected theorem RegsCanonical.setLastMatch {r ok} (h : RegsCanonical s) : RegsCanonical (setLastMatch r ok s) :=
  h.wrF

protected theorem RegsCanonical.comparePerFrame {r flags frame computed e} (h : RegsCanonical s) :
    RegsCanonical (comparePerFrame r flags frame computed s e) :=
  .endCheck (.setLastMatch (.ite h h.mismatch))

protected theorem RegsCanonical.compareSticky {r flags frame computed} (h : RegsCanonical s) :
    RegsCanonical (compareSticky r flags frame computed s) := by
  unfold compareSticky
  extract_lets _ _ s1
  have h1 : RegsCanonical s1 := h.setLastMatch.setRect
  exact .ite (.ite h1 h1.postEvent) h.setRect.setLastMatch.bumpSat.mismatch

protected theorem RegsCanonical.rectComputed {r frame crc dropped} (h : RegsCanonical s) :
    RegsCanonical (rectComputed r frame crc dropped s) := by
  unfold rectComputed
  extract_lets _ _ _ s1 s2 _ _ s3 s4
  have h1 : RegsCanonical s1 := h.setRect.followWaiting.countEvent
  have h2 : RegsCanonical s2 := by
    unfold s2
    split
    · exact h1.endCheck
    · exact h1
  have h3 : RegsCanonical s3 := .foldl h2 fun _ _ h => h.comparePerFrame
  have h4 : RegsCanonical s4 := .foldl h3 fun _ _ h => h.setFlag.endCheck
  exact .ite h4.compareSticky h4

/-! ### The serial lanes -/

protected theorem RegsCanonical.setLane {link lane l} (h : RegsCanonical s) : RegsCanonical (setLane link lane l s) :=
  h.same rfl

protected theorem RegsCanonical.setStat {link lane f v} (h : RegsCanonical s) :
    RegsCanonical (setStat link lane f v s) :=
  h.wrF

protected theorem RegsCanonical.followActive (h : RegsCanonical s) : RegsCanonical (followActive s) :=
  .ite h.wrF.same h.wrF

protected theorem RegsCanonical.followDcfg (h : RegsCanonical s) : RegsCanonical (followDcfg s) :=
  .ite h (.ite h.same.resultEnd h.same)

protected theorem RegsCanonical.sendBc {q} (h : RegsCanonical s) : RegsCanonical (sendBc q s) :=
  h.emit

protected theorem RegsCanonical.pumpBc {bc} (h : RegsCanonical s) : RegsCanonical (pumpBc bc s) := by
  unfold pumpBc
  split
  · exact .ite h.same.sendBc h
  · exact h

protected theorem RegsCanonical.askDriver {q} (h : RegsCanonical s) : RegsCanonical (askDriver q s) :=
  h.same.pumpBc

protected theorem RegsCanonical.eyeRuns {link lane} (h : RegsCanonical s) : RegsCanonical (eyeRuns link lane s) :=
  .ite h.setLane.askDriver h.setLane

protected theorem RegsCanonical.showLock {lane st} (h : RegsCanonical s) : RegsCanonical (showLock lane st s) :=
  .ite h.setStat.setStat (.ite h.setStat.setStat (.ite h.setStat (.ite h h.setStat.setStat)))

protected theorem RegsCanonical.sendBlocks {lane idle bs} (h : RegsCanonical s) :
    RegsCanonical (sendBlocks lane idle bs s) :=
  h.setLane.emit

protected theorem RegsCanonical.sendTraining {lane phase} (h : RegsCanonical s) :
    RegsCanonical (sendTraining lane phase s) :=
  h.sendBlocks.setLane.tick

protected theorem RegsCanonical.trainSignal {lane st} (h : RegsCanonical s) :
    RegsCanonical (trainSignal lane st s) := by
  unfold trainSignal
  dsimp only
  refine .ite (.ite (.ite h.emit h.emit.sendTraining) h) ?_
  refine .ite (.ite (.ite h.emit h.emit.sendTraining) h) ?_
  exact .ite (.ite (.ite h.emit h.emit.sendTraining) h) (.ite (.ite (.ite h.emit h.emit.sendTraining) h) h)

protected theorem RegsCanonical.goLane {link lane st} (h : RegsCanonical s) :
    RegsCanonical (goLane link lane st s) := by
  unfold goLane
  extract_lets s1 s2 _ _ s3
  have h1 : RegsCanonical s1 := h.setStat
  have h2 : RegsCanonical s2 := .ite h1.showLock h1.trainSignal.pumpBc
  have h3 : RegsCanonical s3 := h2.setLane.setStat.setStat.followDcfg
  exact .ite h2.followActive (.followActive (.ite h3.eyeRuns h3))

protected theorem RegsCanonical.laneEvent {link lane code sev v} (h : RegsCanonical s) :
    RegsCanonical (laneEvent link lane code sev v s) :=
  h.postEvent

protected theorem RegsCanonical.trainResult {j} (h : RegsCanonical s) : RegsCanonical (trainResult j s) := by
  unfold trainResult
  split
  · exact h
  · split
    · exact h.completeI
    · exact h.complete

protected theorem RegsCanonical.endJobs (h : RegsCanonical s) : RegsCanonical (endJobs s) :=
  .foldl h.same fun _ _ h => h.trainResult

protected theorem RegsCanonical.jobLaneEnds {link lane ok} (h : RegsCanonical s) :
    RegsCanonical (jobLaneEnds link lane ok s) :=
  h.same.endJobs

protected theorem RegsCanonical.jobLaneGone {link lane} (h : RegsCanonical s) :
    RegsCanonical (jobLaneGone link lane s) :=
  h.same.jobLaneEnds

protected theorem RegsCanonical.countRetrain {f link lane} (h : RegsCanonical s) :
    RegsCanonical (countRetrain f link lane s) :=
  h.bumpSat

protected theorem RegsCanonical.startSettings {link lane} (h : RegsCanonical s) :
    RegsCanonical (startSettings link lane s) :=
  .ite h.wr h

protected theorem RegsCanonical.beginSteps {link lane} (h : RegsCanonical s) :
    RegsCanonical (beginSteps link lane s) :=
  h.startSettings.setLane.goLane

protected theorem RegsCanonical.noteHeld {lane row} (h : RegsCanonical s) : RegsCanonical (noteHeld lane row s) :=
  .ite h.setLane h

protected theorem RegsCanonical.startTraining {link lane cause} (h : RegsCanonical s) :
    RegsCanonical (startTraining link lane cause s) := by
  unfold startTraining
  extract_lets s1 _ s2 _ s3 s4
  have h1 : RegsCanonical s1 := .ite h.noteHeld h
  have h2 : RegsCanonical s2 := .ite h1.setLane h1
  have h3 : RegsCanonical s3 := h2.setLane
  have h4 : RegsCanonical s4 := h3.beginSteps.countRetrain
  exact .ite h.goLane.jobLaneGone (.ite h.goLane.setFlag.jobLaneGone (.ite h4.laneEvent h4))

protected theorem RegsCanonical.startFast {link lane} (h : RegsCanonical s) : RegsCanonical (startFast link lane s) :=
  .countRetrain (.goLane (.setLane (.ite h.noteHeld h)))

protected theorem RegsCanonical.takeWaiting {link lane} (h : RegsCanonical s) :
    RegsCanonical (takeWaiting link lane s) :=
  .ite h (.ite h.same.startFast h.same.startTraining)

protected theorem RegsCanonical.failTraining {link lane step} (h : RegsCanonical s) :
    RegsCanonical (failTraining link lane step s) :=
  h.setLane.goLane.laneEvent.jobLaneEnds.takeWaiting

protected theorem RegsCanonical.markBack {lane} (h : RegsCanonical s) : RegsCanonical (markBack lane s) := by
  unfold markBack
  exact h.setLane.same

protected theorem RegsCanonical.becomeActive {link lane} (h : RegsCanonical s) :
    RegsCanonical (becomeActive link lane s) := by
  unfold becomeActive
  extract_lets _ s1 _ s2
  have h1 : RegsCanonical s1 := h.setLane
  have h2 : RegsCanonical s2 := .ite h1.setLane.tick h1.markBack
  exact h2.goLane.jobLaneEnds.takeWaiting

protected theorem RegsCanonical.noteFailure {p line c} (h : RegsCanonical s) :
    RegsCanonical (noteFailure p line c s) := by
  unfold noteFailure
  split
  · exact h
  · exact .ite h h.same

protected theorem RegsCanonical.abandonPacket {lane cause} (h : RegsCanonical s) :
    RegsCanonical (abandonPacket lane cause s) := by
  unfold abandonPacket
  split
  · exact h
  · exact h.setLane.setFlag.noteFailure

protected theorem RegsCanonical.notIdle {lane} (h : RegsCanonical s) : RegsCanonical (notIdle lane s) :=
  h.setLane

protected theorem RegsCanonical.dataArrives {lane} (h : RegsCanonical s) : RegsCanonical (dataArrives lane s) :=
  .ite h (.ite h.setLane h.setStat)

protected theorem RegsCanonical.endTrial {link lane} (h : RegsCanonical s) :
    RegsCanonical (endTrial link lane s) := by
  unfold endTrial
  extract_lets _ s1
  have h1 : RegsCanonical s1 := h.setLane
  split
  · exact h
  · exact .ite h1.wrF h1.wrF

protected theorem RegsCanonical.markLoss {lane} (h : RegsCanonical s) : RegsCanonical (markLoss lane s) := by
  unfold markLoss
  extract_lets _ s1
  have h1 : RegsCanonical s1 := h.setLane
  split
  · exact h1
  · exact h1.same

protected theorem RegsCanonical.loseLock {link lane cause} (h : RegsCanonical s) :
    RegsCanonical (loseLock link lane cause s) := by
  unfold loseLock
  extract_lets _ _ _ s1 s2 _ s3
  have h1 : RegsCanonical s1 := h.tick.endTrial.setFlag
  have h2 : RegsCanonical s2 := .ite h1.abandonPacket.markLoss h1
  have h3 : RegsCanonical s3 := h2.setLane
  exact .ite h.setLane.endTrial.goLane (.ite h3.goLane.laneEvent.startTraining h2.setLane.startFast.laneEvent)

protected theorem RegsCanonical.dropLock {lane cause} (h : RegsCanonical s) : RegsCanonical (dropLock lane cause s) :=
  .ite h.setLane.setStat h.setLane.setStat.setStat

protected theorem NextCanonical.execLaneLockLost {link lane cause} :
    NextCanonical s (execLaneLockLost link lane cause s) :=
  .ite (.next fun h => h.loseLock) (.ite (.next fun h => h.beginSteps) (.ite (.next fun h => h.dropLock) (.next id)))

protected theorem RegsCanonical.fastDone {link lane} (h : RegsCanonical s) : RegsCanonical (fastDone link lane s) :=
  h.goLane.laneEvent.becomeActive

protected theorem NextCanonical.execFastRetrainTimeout {link lane} :
    NextCanonical s (execFastRetrainTimeout link lane s) := by
  unfold execFastRetrainTimeout
  extract_lets _ s1 s2
  have h1 : RegsCanonical s → RegsCanonical s1 := fun h => h.setFlag
  have h2 : RegsCanonical s → RegsCanonical s2 := fun h => (h1 h).setLane
  exact .ite (.next id) (.ite (.next fun h => (h2 h).startTraining) (.next fun h => (h2 h).countRetrain))

protected theorem NextCanonical.execRetrainCountReset {link lane} :
    NextCanonical s (execRetrainCountReset link lane s) :=
  .ite (.next fun h => h.setLane) (.next id)

protected theorem NextCanonical.execHwlSignalDetect {lane} : NextCanonical s (execHwlSignalDetect lane s) := by
  unfold execHwlSignalDetect
  extract_lets s1
  have h1 : RegsCanonical s → RegsCanonical s1 := fun h => .ite h.startTraining h.beginSteps
  exact .ite (.next fun h => .ite (h1 h).goLane (h1 h)) (.next id)

protected theorem NextCanonical.execCdrLock {lane} : NextCanonical s (execCdrLock lane s) :=
  .ite (.next fun h => h.goLane) (.ite (.next fun h => h.setStat) (.next id))

protected theorem RegsCanonical.slip {link lane n} (h : RegsCanonical s) : RegsCanonical (slip link lane n s) :=
  h.wrF.setLane

protected theorem RegsCanonical.nextBoundary {lane} (h : RegsCanonical s) : RegsCanonical (nextBoundary lane s) :=
  .ite h (.ite h.setLane.failTraining h.setLane.slip)

protected theorem RegsCanonical.gainLock {lane} (h : RegsCanonical s) : RegsCanonical (gainLock lane s) :=
  .ite h.setLane.wrF.goLane (.ite h.setStat h)

protected theorem RegsCanonical.receiveHeader {lane x} (h : RegsCanonical s) :
    RegsCanonical (receiveHeader lane x s) := by
  unfold receiveHeader
  extract_lets _ _ s1 s2
  have h1 : RegsCanonical s1 := h.setLane
  have h2 : RegsCanonical s2 := h.setLane.bumpSat
  exact .ite (.ite h1.gainLock h1) (.ite h2 (.ite h2.loseLock (.ite h2.nextBoundary (.ite h2.dropLock h2))))

protected theorem RegsCanonical.takeBlock {lane b} (h : RegsCanonical s) : RegsCanonical (takeBlock lane b s).2 :=
  h.setLane.receiveHeader

/-- What the block said beside the state it left. -/
protected theorem RegsCanonical.took {lane b said} (h : RegsCanonical s) (ht : takeBlock lane b s = (said, t)) :
    RegsCanonical t := by
  have hs := h.takeBlock (lane := lane) (b := b)
  rwa [ht] at hs

protected theorem RegsCanonical.hearBlock {lane b} (h : RegsCanonical s) : RegsCanonical (hearBlock lane b s) :=
  .ite h.takeBlock h

protected theorem RegsCanonical.receiveBlocks {lane at_ bs} (h : RegsCanonical s) :
    RegsCanonical (receiveBlocks lane at_ bs s) := by
  induction bs generalizing s with
  | nil => exact h
  | cons b bs ih => exact .ite (ih h.takeBlock) h.takeBlock

protected theorem RegsCanonical.seedScrambler {lane bs} (h : RegsCanonical s) :
    RegsCanonical (seedScrambler lane bs s) :=
  h.setLane

protected theorem NextCanonical.execBlockLock {r} : NextCanonical s (execBlockLock r s) := by
  unfold execBlockLock
  split
  · refine .ite ?_ (.ite (.next fun h => h.receiveBlocks) (.next id))
    split
    · extract_lets s1
      have h1 : RegsCanonical s → RegsCanonical s1 := fun h => h.slip.setStat.seedScrambler
      exact .next fun h => (h1 h).setLane
    · exact .next id

protected theorem NextCanonical.execLaneTrainingTimeout {link lane} :
    NextCanonical s (execLaneTrainingTimeout link lane s) := by
  unfold execLaneTrainingTimeout
  refine .ite (.next fun h => h.failTraining) ?_
  refine .ite (.next fun h => h.failTraining) ?_
  refine .ite (.ite (.next fun h => h.nextBoundary) (.next fun h => h.failTraining)) ?_
  exact .ite (.ite (.next fun h => h.failTraining) (.next fun h => h.failTraining)) (.next id)

protected theorem RegsCanonical.driverLocks {lane status} (h : RegsCanonical s) :
    RegsCanonical (driverLocks lane status s) :=
  h.setStat.setStat

protected theorem NextCanonical.execLaneTrainingDone {link lane status fom crc} :
    NextCanonical s (execLaneTrainingDone link lane status fom crc s) := by
  unfold execLaneTrainingDone
  refine .ite (.next fun h => h.becomeActive) ?_
  exact .ite (.next fun h => h.fastDone) (.ite (.next fun h => h.driverLocks.setStat.becomeActive) (.next id))

protected theorem NextCanonical.execInvalidSyncHeader {lane block} :
    NextCanonical s (execInvalidSyncHeader lane block s) := by
  unfold execInvalidSyncHeader
  split
  · next ht => exact .next fun h => h.abandonPacket.notIdle.took ht
  · exact .next fun h => h.hearBlock

protected theorem NextCanonical.execLaneTrain {port sq seq} : NextCanonical s (execLaneTrain port sq seq s) :=
  .withReady fun _ _ h =>
    .endJobs (.foldl h.setRunning.same fun _ _ h => .ite (.startFast (.ite h.abandonPacket h)) h.startTraining)

protected theorem NextCanonical.execLaneBitSlip {port sq seq} : NextCanonical s (execLaneBitSlip port sq seq s) :=
  .withReady fun _ _ h => .ite h.refuseWith (.ite h.slip.completeI h.setRunning.askDriver)

protected theorem NextCanonical.execLaneSlipWrite {port link lane val} :
    NextCanonical s (execLaneSlipWrite port link lane val s) := by
  unfold execLaneSlipWrite
  dsimp only
  refine .ite (.next id) ?_
  exact .ite (.next fun h => h.setFlag) (.ite (.next fun h => h.slip) (.next fun h => h.askDriver))

protected theorem NextCanonical.execLaneCfgWrite {port link lane val} :
    NextCanonical s (execLaneCfgWrite port link lane val s) := by
  unfold execLaneCfgWrite
  extract_lets _ s1 _ s2
  have h1 : RegsCanonical s → RegsCanonical s1 := fun h => h.writeRw
  have h2 : RegsCanonical s → RegsCanonical s2 := fun h => (h1 h).wrF
  refine .ite (.next id) ?_
  refine .ite ?_ (.ite (.next fun h => (h1 h).setLane.endTrial.goLane.jobLaneGone) (.next h1))
  exact .ite (.next fun h => (h2 h).setFlag) (.ite (.next fun h => (h2 h).startTraining) (.next h2))

protected theorem RegsCanonical.stepTaps {lane steps} (h : RegsCanonical s) : RegsCanonical (stepTaps lane steps s) :=
  .foldl h fun _ _ h => h.wrF

protected theorem RegsCanonical.tryCtle {lane x} (h : RegsCanonical s) : RegsCanonical (tryCtle lane x s) :=
  .ite (.ite h.setLane.wrF (.ite h.setLane.wrF h)) (.ite h.setLane.wrF h.setLane.endTrial)

protected theorem RegsCanonical.trialWindow {lane fom} (h : RegsCanonical s) :
    RegsCanonical (trialWindow lane fom s) := by
  unfold trialWindow
  split
  · exact h
  · exact .ite h.setLane (.ite h.setLane (.ite h.tryCtle h.setLane.endTrial))

protected theorem NextCanonical.execCtleTrial {lane} : NextCanonical s (execCtleTrial lane s) :=
  .ite (.next fun h => h.tryCtle) (.next id)

protected theorem RegsCanonical.eyeStart {link lane dsc} (h : RegsCanonical s) :
    RegsCanonical (eyeStart link lane dsc s) :=
  .ite h.resultBegin.setLane h.resultBegin.setLane.eyeRuns

protected theorem RegsCanonical.eyeEnd {link lane st} (h : RegsCanonical s) :
    RegsCanonical (eyeEnd link lane st s) := by
  unfold eyeEnd
  extract_lets _ s1 _ s2
  have h1 : RegsCanonical s1 := h.resultEnd
  have h2 : RegsCanonical s2 := h1.setLane
  split
  · exact h2.completeI
  · exact h2

protected theorem NextCanonical.execLaneEyeScan {port sq seq} : NextCanonical s (execLaneEyeScan port sq seq s) :=
  .withReady fun _ _ h => .ite h.setFlag.complete h.setRunning.eyeStart

protected theorem NextCanonical.execLaneEyeStartWrite {port link lane val} :
    NextCanonical s (execLaneEyeStartWrite port link lane val s) :=
  .ite (.next id) (.ite (.next fun h => h.setFlag) (.next fun h => h.eyeStart))

protected theorem RegsCanonical.eyeData {link lane fom r} (h : RegsCanonical s) :
    RegsCanonical (eyeData link lane fom r s) :=
  h.wr.wr

protected theorem NextCanonical.execEyeScanDone {link lane left right top bottom centre answered} :
    NextCanonical s (execEyeScanDone link lane left right top bottom centre answered s) :=
  .ite (.next id) (.ite (.next fun h => h.eyeData.eyeEnd.tick) (.next fun h => h.eyeEnd))

protected theorem RegsCanonical.recentreDue {lane} (h : RegsCanonical s) : RegsCanonical (recentreDue lane s) :=
  .ite h.setStat.eyeEnd h.setStat

protected theorem RegsCanonical.countGood {lane fom} (h : RegsCanonical s) : RegsCanonical (countGood lane fom s) :=
  h.setLane

protected theorem RegsCanonical.adaptWindow {lane fom} (h : RegsCanonical s) :
    RegsCanonical (adaptWindow lane fom s) :=
  .ite (.ite h.setLane h.setLane.wrF) (.ite h.setLane h.countGood)

protected theorem NextCanonical.execFomWindow {lane disagree steps} :
    NextCanonical s (execFomWindow lane disagree steps s) := by
  unfold execFomWindow
  extract_lets _ _ s1 _ s2
  have h1 : RegsCanonical s → RegsCanonical s1 := fun h => h.setStat
  have h2 : RegsCanonical s → RegsCanonical s2 := fun h => (h1 h).setLane
  refine .ite (.next id) ?_
  refine .ite (.next fun h => (h2 h).stepTaps.trialWindow) ?_
  refine .ite (.next fun h => (h2 h).stepTaps.adaptWindow) ?_
  exact .ite (.next fun h => .ite (h2 h).countGood (h2 h)) (.ite (.next fun h => (h2 h).recentreDue) (.next h2))

protected theorem RegsCanonical.freezeLane {link lane} (h : RegsCanonical s) :
    RegsCanonical (freezeLane link lane s) :=
  h.endTrial.setStat.setStat

protected theorem NextCanonical.execIdleFreeze {link lane} : NextCanonical s (execIdleFreeze link lane s) :=
  .ite (.next fun h => h.freezeLane) (.next id)

protected theorem RegsCanonical.idleArrives {lane} (h : RegsCanonical s) : RegsCanonical (idleArrives lane s) := by
  unfold idleArrives
  extract_lets s1 _ _ s2
  have h1 : RegsCanonical s1 := h.abandonPacket.countEvent
  have h2 : RegsCanonical s2 := h1.setLane
  exact .ite h2.freezeLane h2

protected theorem NextCanonical.execHwlIdleBlock {b} : NextCanonical s (execHwlIdleBlock b s) := by
  unfold execHwlIdleBlock
  split
  · next ht => exact .next fun h => (h.took ht).idleArrives
  · exact .next fun h => h.hearBlock

protected theorem NextCanonical.execRecentreDone {scan} : NextCanonical s (execRecentreDone scan s) := by
  unfold execRecentreDone
  extract_lets _ _ s1 _ _ s2 _ s3
  have h1 : RegsCanonical s → RegsCanonical s1 := fun h => h.setLane
  have h2 : RegsCanonical s → RegsCanonical s2 := fun h => (h1 h).setStat.setStat.setFlag.laneEvent
  have h3 : RegsCanonical s → RegsCanonical s3 := fun h => .ite (h2 h).setStat.setLane (h2 h)
  exact .ite (.next id) (.ite (.next fun h => (h3 h).eyeRuns) (.next h3))

protected theorem RegsCanonical.prbsAdvance {link lane n bits} (h : RegsCanonical s) :
    RegsCanonical (prbsAdvance link lane n bits s) := by
  unfold prbsAdvance
  extract_lets _ s1 _ s2
  have h1 : RegsCanonical s1 := h.setLane.wr.bumpSat.wrF
  have h2 : RegsCanonical s2 := h.setLane
  exact .ite h (.ite (.foldl h1 fun _ _ h => h.setFlag) (.ite h2.emit h2))

protected theorem RegsCanonical.prbsPattern {link lane pat user} (h : RegsCanonical s) :
    RegsCanonical (prbsPattern link lane pat user s) := by
  unfold prbsPattern
  extract_lets _ s1
  have h1 : RegsCanonical s1 := .ite h.askDriver h
  exact .ite h (.ite h1.goLane.setLane.wr.wr.wr.wr.tick (.ite h1.setLane.wr.startTraining h1))

protected theorem RegsCanonical.prbsInject {link lane n} (h : RegsCanonical s) :
    RegsCanonical (prbsInject link lane n s) :=
  .ite h.setFlag h.setLane

protected theorem NextCanonical.execLanePrbs {port sq seq} : NextCanonical s (execLanePrbs port sq seq s) :=
  .withReady fun _ _ h =>
    .ite h.refuseWith (.completeI (.ite h.wrF.wrF.wr.wr.prbsPattern h.wrF.wrF.wr.wr.prbsPattern.prbsInject))

protected theorem NextCanonical.execPrbsCtrlWrite {port link lane val} :
    NextCanonical s (execPrbsCtrlWrite port link lane val s) := by
  unfold execPrbsCtrlWrite
  extract_lets s1
  have h1 : RegsCanonical s → RegsCanonical s1 := fun h => h.writeRw
  exact .ite (.next id) (.ite (.next fun h => h.setFlag) (.next fun h => .ite (h1 h) (h1 h).prbsPattern))

protected theorem NextCanonical.execPrbsInjectWrite {port link lane n bits val} :
    NextCanonical s (execPrbsInjectWrite port link lane n bits val s) := by
  unfold execPrbsInjectWrite
  extract_lets s1
  have h1 : RegsCanonical s → RegsCanonical s1 := fun h => h.prbsAdvance
  exact .ite (.next h1) (.next fun h => (h1 h).prbsInject)

protected theorem NextCanonical.execPrbsBitsLoRead {port link lane n bits} :
    NextCanonical s (execPrbsBitsLoRead port link lane n bits s) := by
  unfold execPrbsBitsLoRead
  extract_lets s1
  have h1 : RegsCanonical s → RegsCanonical s1 := fun h => h.prbsAdvance
  exact .ite (.next h1) (.next fun h => (h1 h).wr.emit)

protected theorem NextCanonical.execPrbsCheckerLocked {r} : NextCanonical s (execPrbsCheckerLocked r s) :=
  .next fun h => h.prbsAdvance

protected theorem NextCanonical.execPrbsCheckerUnlock {lane n bits} :
    NextCanonical s (execPrbsCheckerUnlock lane n bits s) :=
  .ite (.next fun h => h.prbsAdvance) (.next id)

/-! ### Composition, latch instants and commit groups -/

protected theorem RegsCanonical.setLayer {n l} (h : RegsCanonical s) : RegsCanonical (setLayer n l s) :=
  h.same rfl

protected theorem RegsCanonical.followLayers (h : RegsCanonical s) : RegsCanonical (followLayers s) :=
  .foldl h fun _ _ h => h.wrF.wrF

protected theorem RegsCanonical.setHwRead {f} (h : RegsCanonical s) : RegsCanonical (setHwRead f s) := by
  unfold setHwRead
  split
  · split <;> exact h.same
  · exact h.same

protected theorem RegsCanonical.setFrameLayer {n l} (h : RegsCanonical s) : RegsCanonical (setFrameLayer n l s) := by
  unfold setFrameLayer
  split
  · split
    · exact h.same
    · exact h.setLayer
  · exact h.setLayer

protected theorem RegsCanonical.countPatch (h : RegsCanonical s) : RegsCanonical (countPatch s) :=
  h.bumpSat.setFlag.countEvent

protected theorem RegsCanonical.patchLine {p other line} (h : RegsCanonical s) :
    RegsCanonical (patchLine p other s line) := by
  unfold patchLine
  split
  · exact h.setHwRead.countPatch
  · exact h

protected theorem RegsCanonical.patchReceived {p other line} (h : RegsCanonical s) :
    RegsCanonical (patchReceived p other s line) := by
  unfold patchReceived
  split
  · exact h.same.countPatch
  · exact h

protected theorem RegsCanonical.patchMissing (h : RegsCanonical s) : RegsCanonical (patchMissing s) :=
  .foldl h fun _ _ h => .foldl h fun _ _ h => h.patchLine

protected theorem RegsCanonical.patchReceiving (h : RegsCanonical s) : RegsCanonical (patchReceiving s) := by
  unfold patchReceiving
  split
  · exact h
  · exact .foldl h fun _ _ h => .ite (.foldl h fun _ _ h => h.patchReceived) h

protected theorem RegsCanonical.followResume (h : RegsCanonical s) : RegsCanonical (followResume s) :=
  .ite h.same.wrF.wrF.wrF h

protected theorem RegsCanonical.setFrameOpen {b} (h : RegsCanonical s) : RegsCanonical (setFrameOpen b s) :=
  h.wrF

protected theorem RegsCanonical.closeFrame (h : RegsCanonical s) : RegsCanonical (closeFrame s) :=
  h.same.setFrameOpen

protected theorem RegsCanonical.postPatches {f} (h : RegsCanonical s) : RegsCanonical (postPatches f s) :=
  .foldl h fun _ _ h => .foldl h fun _ _ h => .foldl h fun _ _ h => .foldl h fun _ _ h => h.postEvent

protected theorem RegsCanonical.completeFlip {f st frame res} (h : RegsCanonical s) :
    RegsCanonical (completeFlip f st frame res s) := by
  unfold completeFlip
  split
  · exact h.complete
  · exact h

protected theorem RegsCanonical.freeVersion {layer used} (h : RegsCanonical s) :
    RegsCanonical (freeVersion layer used s) := by
  unfold freeVersion
  split
  · exact .ite h.setLayer.retag h.freeTag
  · exact h.freeTag

protected theorem RegsCanonical.freeOld {n} (h : RegsCanonical s) : RegsCanonical (freeOld n s) :=
  .foldl h fun _ _ h => .ite h.setLayer.freeTag h

protected theorem RegsCanonical.retireCurrent {layer n} (h : RegsCanonical s) :
    RegsCanonical (retireCurrent layer n s) := by
  unfold retireCurrent
  dsimp only
  split
  · exact h
  · exact .ite (.completeFlip (.ite h.setLayer h.setLayer.freeVersion)) (.ite h.setLayer h.setLayer.freeVersion)

protected theorem RegsCanonical.retireFlips {n} (h : RegsCanonical s) : RegsCanonical (retireFlips n s) :=
  .foldl h fun _ _ h => .foldl h.setLayer fun _ _ h => h.completeFlip

protected theorem RegsCanonical.applySettings {n d} (h : RegsCanonical s) : RegsCanonical (applySettings n s d) := by
  unfold applySettings
  extract_lets _ _ _ s1 s2 _ s3
  have h1 : RegsCanonical s1 := .ite h.retireCurrent h
  have h2 : RegsCanonical s2 := h1.wrF.wrF.wrF.wrF.wrF.wrF.wrF.wrF.wrF.wrF.wrF.wrF.wrF.wrF.wrF.wrF
  have h3 : RegsCanonical s3 := .ite h.retireCurrent h
  split
  · exact h.wrF.wrF.wrF
  · exact h2.setLayer
  · exact h3.wrF
  · exact .ite h.setLayer h.setLayer
  · exact h

protected theorem RegsCanonical.applyFlip {n late d} (h : RegsCanonical s) :
    RegsCanonical (applyFlip n late d s) := by
  unfold applyFlip
  extract_lets _ s1 s2 _ _ _ s3 _ s4
  have h1 : RegsCanonical s1 := h.retireCurrent
  have h2 : RegsCanonical s2 := .wrF (.wrF (.wrF (.wrF (.foldl h1 fun _ _ h => h.wrF.wrF))))
  have h3 : RegsCanonical s3 := h2.setDsc
  have h4 : RegsCanonical s4 := .ite h3.freeTag h3
  exact .ite h4.setLayer h3.setLayer.retag

protected theorem RegsCanonical.groupArrives {g} (h : RegsCanonical s) : RegsCanonical (groupArrives g s) :=
  .ite h.failGroup h.nextOrder.setGroup.idleTrigger

protected theorem RegsCanonical.followGroup {id} (h : RegsCanonical s) : RegsCanonical (followGroup id s) := by
  unfold followGroup
  split
  · exact .ite h.groupArrives h
  · exact h

protected theorem RegsCanonical.arrive {d} (h : RegsCanonical s) : RegsCanonical (arrive d s) :=
  h.setDsc.followGroup

protected theorem RegsCanonical.leaveGroup {d st res} (h : RegsCanonical s) :
    RegsCanonical (leaveGroup d st res s) := by
  unfold leaveGroup
  extract_lets s1
  have h1 : RegsCanonical s1 := by
    unfold s1
    split
    · exact .ite h.dropGroup h.setGroup
    · exact h
  exact h1.complete.followGroup

protected theorem RegsCanonical.sweepFetch {n} (h : RegsCanonical s) : RegsCanonical (sweepFetch s n) := by
  unfold sweepFetch
  split
  · exact .ite h.setLayer.freeTag h
  · exact h

protected theorem RegsCanonical.sweepFetches (h : RegsCanonical s) : RegsCanonical (sweepFetches s) :=
  .foldl h fun _ _ h => h.sweepFetch

protected theorem RegsCanonical.dropFetch {n} (h : RegsCanonical s) : RegsCanonical (dropFetch n s) := by
  unfold dropFetch
  extract_lets _ s1
  have h1 : RegsCanonical s1 := h.setLayer.freeTag
  split
  · exact h
  · split
    · exact h1.leaveGroup
    · exact h1

protected theorem RegsCanonical.flipReaches {d} (h : RegsCanonical s) : RegsCanonical (flipReaches d s) := by
  unfold flipReaches
  extract_lets n
  split
  · exact h.failMember
  · split
    · exact h.failMember
    · refine .ite h.arrive ?_
      split
      · exact h.sweepFetches.dropFetch.failMember
      · next ht => exact (h.sweepFetches.dropFetch.alloc ht).nextOrder.setRunning.setLayer

protected theorem RegsCanonical.waitForFetch {g flips} (h : RegsCanonical s) :
    RegsCanonical (waitForFetch g flips s) := by
  unfold waitForFetch
  exact .foldl h.setGroup fun _ _ h => by
    split
    · exact h.flipReaches
    · exact h

/-- A group that is tried leaves both states canonical: the present one and the one with the accepted settings. -/
theorem canonical_tryGroup {n g} {t : Tried} (hnow : RegsCanonical t.now) (hafter : RegsCanonical t.after) :
    RegsCanonical (tryGroup n t g).now ∧ RegsCanonical (tryGroup n t g).after := by
  have hset : RegsCanonical ((membersOf t.now g).foldl (applySettings n) t.after) :=
    .foldl hafter fun _ _ h => h.applySettings
  unfold tryGroup
  dsimp only
  split
  · exact ⟨hnow, hafter⟩
  · split
    · exact ⟨hnow.abortGroup, hafter⟩
    · split
      · exact ⟨hnow, hset⟩
      · exact ⟨hnow.waitForFetch, hafter⟩

protected theorem RegsCanonical.finishMember {n ms e} (h : RegsCanonical s) :
    RegsCanonical (finishMember n ms s e) := by
  unfold finishMember
  dsimp only
  split
  · exact h.applyFlip
  · exact .ite h.complete h.activate.complete
  · exact h.complete

protected theorem RegsCanonical.completeSnapshots {n} (h : RegsCanonical s) :
    RegsCanonical (completeSnapshots n s) := by
  unfold completeSnapshots
  exact .foldl h fun _ _ h => by
    split
    · exact .ite h.completeFlip h
    · exact h

protected theorem RegsCanonical.checkAhead (h : RegsCanonical s) : RegsCanonical (checkAhead s) :=
  .foldl h fun _ _ h => .ite h.setLayer h

protected theorem RegsCanonical.applyGroup {n ms g} (h : RegsCanonical s) : RegsCanonical (applyGroup n ms s g) :=
  .foldl (.foldl h fun _ _ h => h.applySettings) fun _ _ h => h.finishMember

protected theorem RegsCanonical.applyGroups {n} (h : RegsCanonical s) : RegsCanonical (applyGroups n s) := by
  have htried : RegsCanonical ((dueGroups s n).foldl (tryGroup n) { now := s, after := s }).now := by
    refine (List.foldlRecOn (motive := fun t : Tried => RegsCanonical t.now ∧ RegsCanonical t.after) _ _ ⟨h, h⟩ ?_).1
    exact fun t ⟨hnow, hafter⟩ g _ => canonical_tryGroup hnow hafter
  exact .followLayers (.checkAhead (.sweepFetches (.completeSnapshots
    (.foldl (.foldl htried fun _ _ h => h.applyGroup) fun _ _ h => h.dropGroup))))

protected theorem RegsCanonical.latch (h : RegsCanonical s) : RegsCanonical (latch s) := by
  unfold latch
  extract_lets _ _ s1 _ s2
  have h1 : RegsCanonical s1 := .foldl h fun _ _ h => .foldl h fun _ _ h => .ite h.patchLine h
  have h2 : RegsCanonical s2 := by
    unfold s2
    split
    · exact h1.same
    · exact h1
  split
  · exact h
  · exact .ite h h2.applyGroups.followResume

protected theorem RegsCanonical.openSlot (h : RegsCanonical s) : RegsCanonical (openSlot s) :=
  h.same rfl

protected theorem RegsCanonical.freshRow {slot y} (h : RegsCanonical s) : RegsCanonical (freshRow slot y s) :=
  h.same rfl

protected theorem RegsCanonical.frameWhole (h : RegsCanonical s) : RegsCanonical (frameWhole s) := by
  unfold frameWhole
  split
  · exact h
  · exact .ite h (.freeOld (.retireFlips (.foldl h.same fun _ _ h => h.wrF)))

protected theorem RegsCanonical.putLine {y copied px} (h : RegsCanonical s) :
    RegsCanonical (putLine y copied px s) := by
  unfold putLine
  split
  · exact h
  · exact h.same.freshRow

protected theorem RegsCanonical.notePatched (h : RegsCanonical s) : RegsCanonical (notePatched s) := by
  unfold notePatched
  split
  · exact .ite h.wrF h
  · exact h

protected theorem RegsCanonical.patchedLine {planesOut y} (h : RegsCanonical s) :
    RegsCanonical (patchedLine planesOut y s) := by
  unfold patchedLine
  split
  · exact h.putLine.notePatched
  · exact h.same.putLine

protected theorem RegsCanonical.computeRect {r} (h : RegsCanonical s) : RegsCanonical (computeRect s r) := by
  unfold computeRect
  split
  · exact .ite h.rectComputed h
  · exact h

protected theorem RegsCanonical.computeRects (h : RegsCanonical s) : RegsCanonical (computeRects s) :=
  .foldl h fun _ _ h => .ite h.computeRect h

protected theorem RegsCanonical.endLayer {cfn n} (h : RegsCanonical s) : RegsCanonical (endLayer cfn s n) := by
  unfold endLayer
  extract_lets _ _ _ s1 s2
  have h1 : RegsCanonical s1 := h.setLayer
  have h2 : RegsCanonical s2 := by
    unfold s2
    split
    · exact h1.postEvent
    · exact h1
  split
  · exact h2.setFlag.postEvent.completeFlip
  · exact h2

protected theorem RegsCanonical.countLine (h : RegsCanonical s) : RegsCanonical (countLine s) :=
  h.countEvent.fixedAdd.fixedAdd

protected theorem RegsCanonical.endFrame (h : RegsCanonical s) : RegsCanonical (endFrame s) := by
  unfold endFrame
  extract_lets s1
  have h1 : RegsCanonical s1 := h.patchMissing
  split
  · exact h
  · extract_lets s2 s3 s4 s5 s6 s7
    have h2 : RegsCanonical s2 := .foldl h1 fun _ _ h => .countLine (.patchedLine (.ite h.countPatch h))
    have h3 : RegsCanonical s3 := .ite h1 h2.frameWhole
    have h4 : RegsCanonical s4 := h3.computeRects.latch
    have h5 : RegsCanonical s5 := by
      unfold s5
      split
      · exact .ite h4 h4.postPatches
      · exact h4
    have h6 : RegsCanonical s6 := .foldl h5 fun _ _ h => h.endLayer
    have h7 : RegsCanonical s7 := h6.followResume
    exact h7.same.followLayers

protected theorem RegsCanonical.applyWaiting (h : RegsCanonical s) : RegsCanonical (applyWaiting s) :=
  .ite h.applyGroups h

protected theorem RegsCanonical.takeAhead {k} (h : RegsCanonical s) : RegsCanonical (takeAhead s k) :=
  h.setLayer

protected theorem RegsCanonical.frameFetches (h : RegsCanonical s) : RegsCanonical (frameFetches s) :=
  .foldl h fun _ _ h => .ite h.triggerFetch h

protected theorem RegsCanonical.startFrame {fromHwl own lag} (h : RegsCanonical s) :
    RegsCanonical (startFrame fromHwl own lag s) := by
  unfold startFrame
  extract_lets s1 _ _ _ _ s2
  have h1 : RegsCanonical s1 := h.endFrame.openSlot
  have h2 : RegsCanonical s2 := h1.same
  exact .frameFetches (.followLayers (.foldl h2 fun _ _ h => h.takeAhead))

/-! ### Checks and counters -/

protected theorem RegsCanonical.defineRect {d} (h : RegsCanonical s) : RegsCanonical (defineRect d s) := by
  unfold defineRect
  extract_lets _ s1
  have h1 : RegsCanonical s1 := h.clearRect.wr.wr.wrF.wrF.wr.followChkActive
  exact .ite h1.completeI h1.setRect.setRunning

protected theorem NextCanonical.execCheckRect {port sq seq} : NextCanonical s (execCheckRect port sq seq s) :=
  .withReady fun _ _ h => .ite h.defineRect h.refuseWith

protected theorem RegsCanonical.installSticky {d} (h : RegsCanonical s) : RegsCanonical (installSticky d s) :=
  h.setRect.wr.wrF.completeI

protected theorem RegsCanonical.expectFrame {d} (h : RegsCanonical s) : RegsCanonical (expectFrame d s) := by
  unfold expectFrame
  dsimp only
  split
  · exact h.comparePerFrame
  · exact .ite h.badWith (.ite h.setFlag.complete (.ite h.refuseWith h.setRect.followWaiting.setRunning))

protected theorem NextCanonical.execCheckExpect {port sq seq} : NextCanonical s (execCheckExpect port sq seq s) :=
  .withReady fun _ _ h => .ite h.installSticky h.expectFrame

protected theorem RegsCanonical.ctrConfig {n mode unit ev} (h : RegsCanonical s) :
    RegsCanonical (ctrConfig n mode unit ev s) :=
  h.wrF.wrF.wrF.wrF.wrF

protected theorem RegsCanonical.ctrPreset {n preset counts} (h : RegsCanonical s) :
    RegsCanonical (ctrPreset n preset counts s) :=
  .setCtr (.ite (.ctrCarry (.ite h.flagOverflow h)) (.ite h.flagOverflow h))

protected theorem NextCanonical.execCtrProgram {port sq seq} : NextCanonical s (execCtrProgram port sq seq s) :=
  .withReady fun _ _ h => .ite h.refuseWith h.ctrPreset.ctrConfig.completeI

protected theorem RegsCanonical.takeSnapshot (h : RegsCanonical s) : RegsCanonical (takeSnapshot s) :=
  h.same.tick

protected theorem NextCanonical.execCtrSnapshot {port sq seq} : NextCanonical s (execCtrSnapshot port sq seq s) :=
  .withReady fun _ _ h => h.takeSnapshot.completeI

protected theorem RegsCanonical.holdCtr {n} (h : RegsCanonical s) : RegsCanonical (holdCtr s n) :=
  .ite h.setCtr h

protected theorem NextCanonical.execCtrFreeze {port sq seq} : NextCanonical s (execCtrFreeze port sq seq s) :=
  .withReady fun _ _ h => .completeI (.wrF (.tick (.same (.ite (.foldl h fun _ _ h => h.holdCtr) h))))

protected theorem NextCanonical.execCounterWrap {n} : NextCanonical s (execCounterWrap n s) :=
  .ite (.next fun h => h.flagOverflow) (.ite (.next id) (.next fun h => h.ctrAdd))

protected theorem NextCanonical.execBwMonitor {port sq seq} : NextCanonical s (execBwMonitor port sq seq s) :=
  .withReady fun _ _ h => h.same.wrF.completeI

protected theorem NextCanonical.execBwWindowEnd {monitor lo hi} :
    NextCanonical s (execBwWindowEnd monitor lo hi s) := by
  unfold execBwWindowEnd
  extract_lets _ _ _ _ _ _ s1
  have h1 : RegsCanonical s → RegsCanonical s1 := fun h => h.tick
  exact .ite (.next id) (.next fun h => (h1 h).same)

protected theorem NextCanonical.execTagConfig {port sq seq} : NextCanonical s (execTagConfig port sq seq s) :=
  .withReady fun _ _ h => h.same.wrF.completeI

protected theorem RegsCanonical.tagStep (h : RegsCanonical s) : RegsCanonical (tagStep s).2 := by
  unfold tagStep
  dsimp only
  split
  · exact h
  · exact h.same

protected theorem RegsCanonical.writeTag {x} (h : RegsCanonical s) : RegsCanonical (writeTag x s) :=
  .ite h.same h.same.wrF.bumpSat

/-! ### The Headwater link -/

protected theorem RegsCanonical.controlBlock {lane} (h : RegsCanonical s) : RegsCanonical (controlBlock lane s) :=
  h.abandonPacket.notIdle

protected theorem RegsCanonical.acceptLine {lane k f} (h : RegsCanonical s) :
    RegsCanonical (acceptLine lane k f s) := by
  unfold acceptLine
  extract_lets s1
  have h1 : RegsCanonical s1 := .ite h h.setFlag
  exact h1.same.bumpWrap.countEvent.monitorAdd.followResume

protected theorem RegsCanonical.discardLine {k fl cause} (h : RegsCanonical s) :
    RegsCanonical (discardLine k fl cause s) :=
  h.setFlag.noteFailure

protected theorem RegsCanonical.checkPacket {lane k} (h : RegsCanonical s) :
    RegsCanonical (checkPacket lane k s) := by
  unfold checkPacket
  refine .ite h.discardLine ?_
  refine .ite h.setFlag ?_
  split
  · exact h.setFlag
  · extract_lets _ _ s1
    have h1 : RegsCanonical s1 := h.same
    exact .ite h1.discardLine (.ite h1.setFlag (.ite h1.discardLine (.ite h1.setFlag h1.acceptLine)))

protected theorem RegsCanonical.endPacket {lane en} (h : RegsCanonical s) : RegsCanonical (endPacket lane en s) := by
  unfold endPacket
  split
  · exact h.setFlag
  · exact .ite h.abandonPacket h.setLane.checkPacket

protected theorem RegsCanonical.dataBlock {lane p} (h : RegsCanonical s) : RegsCanonical (dataBlock lane p s) := by
  unfold dataBlock
  extract_lets s1
  have h1 : RegsCanonical s1 := h.notIdle.dataArrives
  split
  · exact h1.setLane
  · exact h1.setFlag

protected theorem RegsCanonical.otherBlock {lane b} (h : RegsCanonical s) : RegsCanonical (otherBlock lane b s) := by
  unfold otherBlock
  split
  · exact h.hearBlock
  · split
    · next ht => exact (h.took ht).dataBlock
    · next ht => exact .ite (h.took ht).controlBlock (h.took ht).controlBlock.setFlag
    · exact h.controlBlock.takeBlock

protected theorem RegsCanonical.lineBlock {lane b} (h : RegsCanonical s) : RegsCanonical (lineBlock lane s b) := by
  unfold lineBlock
  split
  · exact h.hearBlock
  · split
    · next ht => exact (h.took ht).dataBlock
    · next ht => exact (h.took ht).controlBlock.setLane
    · next ht => exact (h.took ht).notIdle.endPacket
    · exact h.otherBlock

protected theorem NextCanonical.execHwlLinePacket {lane blocks} : NextCanonical s (execHwlLinePacket lane blocks s) :=
  .next fun h => .foldl h fun _ _ h => h.lineBlock

protected theorem NextCanonical.execHwlUnknownBlock {lane block} :
    NextCanonical s (execHwlUnknownBlock lane block s) :=
  .next fun h => h.otherBlock

protected theorem RegsCanonical.onControl {lane kind b act} (h : RegsCanonical s)
    (hact : ∀ p s, RegsCanonical s → RegsCanonical (act p s)) : RegsCanonical (onControl lane kind b act s) := by
  unfold onControl
  split
  · exact h.hearBlock
  · split
    · next ht => exact .ite (hact _ _ (h.took ht).controlBlock) h.otherBlock
    · exact h.otherBlock

protected theorem NextCanonical.execHwlTrainBlock {b} : NextCanonical s (execHwlTrainBlock b s) := by
  unfold execHwlTrainBlock
  split
  · next ht => exact .ite (.next fun h => (h.took ht).controlBlock) (.next id)
  · exact .next fun h => h.otherBlock

protected theorem RegsCanonical.wakeSource (h : RegsCanonical s) : RegsCanonical (wakeSource s) := by
  unfold wakeSource
  exact .same (.ite h.wrF.postEvent h)

protected theorem RegsCanonical.followRot (h : RegsCanonical s) : RegsCanonical (followRot s) :=
  h.same rfl

protected theorem RegsCanonical.endHwFrame (h : RegsCanonical s) : RegsCanonical (endHwFrame s) := by
  unfold endHwFrame
  extract_lets s1 _ s2
  have h1 : RegsCanonical s1 := h.patchReceiving
  have h2 : RegsCanonical s2 := by
    unfold s2
    split
    · exact .ite h.endFrame (.ite h1.same h1)
    · exact h.patchReceiving
  exact h2.closeFrame

protected theorem RegsCanonical.checkSequence {lo} (h : RegsCanonical s) : RegsCanonical (checkSequence lo s) :=
  .ite h.setFlag.postEvent h

protected theorem RegsCanonical.keepWaiting (h : RegsCanonical s) : RegsCanonical (keepWaiting s) :=
  .ite h.same h

protected theorem RegsCanonical.openFrame {lane lo mask} (h : RegsCanonical s) :
    RegsCanonical (openFrame lane lo mask s) := by
  unfold openFrame
  extract_lets s1 s2 s3 s4 _ s5 _ _ _ _ s6 s7 _ s8 _ _ s9 _ s10
  have h1 : RegsCanonical s1 := h.checkSequence
  have h2 : RegsCanonical s2 := .ite h1 h1.setFlag
  have h3 : RegsCanonical s3 := h2.wrF
  have h4 : RegsCanonical s4 := .keepWaiting (.endHwFrame (.ite h3.applyWaiting h3))
  have h5 : RegsCanonical s5 := .ite h4.postEvent h4
  have h6 : RegsCanonical s6 := h5.same
  have h7 : RegsCanonical s7 := h6.setFrameOpen.recheckRects
  have h8 : RegsCanonical s8 := .ite h7.same.startFrame (.ite h7.same h7)
  have h9 : RegsCanonical s9 := .ite h8.same h8
  have h10 : RegsCanonical s10 := .ite h9.same h9
  exact h10.followResume

protected theorem RegsCanonical.frameStarts {lane lo mask late} (h : RegsCanonical s) :
    RegsCanonical (frameStarts lane lo mask late s) := by
  unfold frameStarts
  extract_lets s1 _ s2
  have h1 : RegsCanonical s1 := h.wakeSource
  have h2 : RegsCanonical s2 := h1.same
  exact .ite (.ite h2.setFlag h2) (.ite h.idleTrigger.wakeSource.openFrame h)

protected theorem NextCanonical.execFrameStart {lane header low high late} :
    NextCanonical s (execFrameStart lane header low high late s) :=
  .next fun h => .onControl h fun _ _ h => h.frameStarts

protected theorem RegsCanonical.frameEnds {lane lo} (h : RegsCanonical s) : RegsCanonical (frameEnds lane lo s) := by
  unfold frameEnds
  split
  · exact h.setFlag
  · exact .ite h.same.patchReceiving.closeFrame.followResume h.same

protected theorem NextCanonical.execFrameEnd {lane header low high} :
    NextCanonical s (execFrameEnd lane header low high s) :=
  .next fun h => .onControl h fun _ _ h => h.frameEnds

protected theorem NextCanonical.execLineDeadline {plane line} : NextCanonical s (execLineDeadline plane line s) := by
  unfold execLineDeadline
  split
  · exact .next id
  · exact .ite (.next fun h => h.patchLine.followResume) (.next id)

protected theorem RegsCanonical.toBuffered {cause} (h : RegsCanonical s) : RegsCanonical (toBuffered cause s) :=
  .ite h.same h

protected theorem RegsCanonical.sourceSleeps (h : RegsCanonical s) : RegsCanonical (sourceSleeps s) := by
  unfold sourceSleeps
  exact .ite h h.endHwFrame.wrF.postEvent.toBuffered.same

protected theorem NextCanonical.execHwlSleepBlock {b} : NextCanonical s (execHwlSleepBlock b s) :=
  .next fun h => .onControl h fun _ _ h => h.sourceSleeps

protected theorem NextCanonical.execHwlWakeBlock {b} : NextCanonical s (execHwlWakeBlock b s) :=
  .next fun h => .onControl h fun _ _ h => .ite h.idleTrigger.wakeSource h.idleTrigger

protected theorem RegsCanonical.freezeIfDue (h : RegsCanonical s) : RegsCanonical (freezeIfDue s) :=
  .ite h.wrF.postEvent h

protected theorem NextCanonical.execSilenceCheck : NextCanonical s (execSilenceCheck s) := by
  unfold execSilenceCheck
  extract_lets _ s1 s2
  have h1 : RegsCanonical s → RegsCanonical s1 := fun h => h.same.bumpSat
  have h2 : RegsCanonical s → RegsCanonical s2 := fun h => .ite (h1 h) (h1 h).wrF.endHwFrame.postEvent.toBuffered
  exact .ite (.next id) (.next fun h => (h2 h).freezeIfDue)

protected theorem NextCanonical.execFreeze : NextCanonical s (execFreeze s) :=
  .next fun h => h.freezeIfDue

protected theorem NextCanonical.execFreezeTimeout : NextCanonical s (execFreezeTimeout s) :=
  .ite (.next id) (.ite (.next fun h => h.same) (.next fun h => h.postEvent))

/-! ### Commands of the compositor -/

protected theorem NextCanonical.execSetBackground {port sq seq} : NextCanonical s (execSetBackground port sq seq s) :=
  .withReady fun _ _ h => h.arrive

protected theorem NextCanonical.execLayerConfig {port sq seq} : NextCanonical s (execLayerConfig port sq seq s) :=
  .withReady fun _ _ h => .ite h.failMember h.arrive

protected theorem NextCanonical.execLayerFlip {port sq seq} : NextCanonical s (execLayerFlip port sq seq s) :=
  .withReady fun _ _ h => h.flipReaches

protected theorem NextCanonical.execLayerEnable {port sq seq} : NextCanonical s (execLayerEnable port sq seq s) :=
  .withReady fun _ _ h => .ite h.failMember h.arrive

protected theorem NextCanonical.execLayerMatrix {port sq seq} : NextCanonical s (execLayerMatrix port sq seq s) :=
  .withReady fun _ _ h => h.arrive

protected theorem NextCanonical.execTableActivateC {port sq seq} :
    NextCanonical s (execTableActivateC port sq seq s) :=
  .withReady fun _ _ h => .ite h.failMember h.arrive

protected theorem NextCanonical.execSnapshotFetchDone {port sq seq data} :
    NextCanonical s (execSnapshotFetchDone port sq seq data s) := by
  unfold execSnapshotFetchDone
  split
  · exact .next id
  · dsimp only
    refine .ite (.next id) ?_
    split
    · exact .next fun h => h.setLayer.monitorAdd.arrive
    · exact .next fun h => h.setLayer.freeTag.setFlag.postEvent.leaveGroup

protected theorem NextCanonical.execLiveFetchDone {layer plane line forNext bytes} :
    NextCanonical s (execLiveFetchDone layer plane line forNext bytes s) := by
  unfold execLiveFetchDone
  dsimp only
  refine .ite (.next id) ?_
  refine .ite ?_ ?_
  · split
    · exact .next id
    · split
      · exact .next fun h => h.setLayer.countEvent.monitorAdd
      · exact .next fun h => h.setLayer
  · split
    · split
      · exact .next fun h => h.setFrameLayer.countEvent.monitorAdd
      · exact .next fun h => h.setFrameLayer
    · exact .next id

protected theorem RegsCanonical.judgeUnderruns {y} (h : RegsCanonical s) : RegsCanonical (judgeUnderruns y s) :=
  .foldl h fun _ _ h => .ite h.setFrameLayer.setFlag.countEvent h

protected theorem RegsCanonical.timelineEvent {mode cause d} (h : RegsCanonical s) :
    RegsCanonical (timelineEvent mode cause d s) :=
  h.postEvent

protected theorem RegsCanonical.runLine {y} (h : RegsCanonical s) : RegsCanonical (runLine y s) := by
  unfold runLine
  extract_lets s1 s2 _ s3
  have h1 : RegsCanonical s1 := .foldl h fun _ _ h => .ite h.patchLine h
  have h2 : RegsCanonical s2 := h1.judgeUnderruns
  have h3 : RegsCanonical s3 := .ite h2.same.putLine h2.patchedLine
  exact h3.countLine

protected theorem RegsCanonical.supplyH1 {distances} (h : RegsCanonical s) :
    RegsCanonical (supplyH1 distances s).2 := by
  unfold supplyH1
  dsimp only
  split
  · exact h.same
  · split <;> exact h.same

protected theorem NextCanonical.execCompositionFrameStart {distances} :
    NextCanonical s (execCompositionFrameStart distances s) := by
  unfold execCompositionFrameStart
  extract_lets s1
  have h1 : RegsCanonical s → RegsCanonical s1 := fun h => h.applyWaiting.endFrame
  exact .ite (.next id) (.next fun h => (h1 h).supplyH1.startFrame)

protected theorem NextCanonical.execLatchInstant : NextCanonical s (execLatchInstant s) := by
  unfold execLatchInstant
  split
  · exact .ite (.next fun h => h.latch) (.next id)
  · exact .next id

/-! ### Raster timing and the reference loop -/

protected theorem RegsCanonical.followGeometry (h : RegsCanonical s) : RegsCanonical (followGeometry s) :=
  h.wrF.wrF.wr.wrF.wrF

protected theorem RegsCanonical.setLock {l} (h : RegsCanonical s) : RegsCanonical (setLock l s) :=
  h.same rfl

protected theorem RegsCanonical.setHouseOffset {j} (h : RegsCanonical s) : RegsCanonical (setHouseOffset j s) := by
  unfold setHouseOffset
  split
  · exact .ite h.tick.setLock.wrF h
  · exact h

protected theorem RegsCanonical.goLock {new e j} (h : RegsCanonical s) : RegsCanonical (goLock new e j s) := by
  unfold goLock
  extract_lets _ _ s1 s2
  have h1 : RegsCanonical s1 := h.wrF.setLock.postEvent
  have h2 : RegsCanonical s2 := .ite h1.setFlag.wrF h1
  exact .ite h (.ite h2.setHouseOffset h2)

protected theorem RegsCanonical.judgeCrash {e} (h : RegsCanonical s) : RegsCanonical (judgeCrash e s) :=
  .ite h.setLock h

protected theorem RegsCanonical.loopStep {e} (h : RegsCanonical s) : RegsCanonical (loopStep e s) :=
  h.same.wr

protected theorem RegsCanonical.holdCorrection {ns} (h : RegsCanonical s) : RegsCanonical (holdCorrection ns s) :=
  h.setLock

protected theorem RegsCanonical.recordGap {ns} (h : RegsCanonical s) : RegsCanonical (recordGap ns s) :=
  h.holdCorrection.setLock

protected theorem RegsCanonical.reportPhase {e j} (h : RegsCanonical s) : RegsCanonical (reportPhase e j s) :=
  .ite h.wr.wrF.wr (.ite h.wr.wrF.setLock h.wr.wrF)

protected theorem RegsCanonical.acceptEdge {since step} (h : RegsCanonical s) :
    RegsCanonical (acceptEdge since step s) := by
  unfold acceptEdge
  extract_lets _ s1
  have h1 : RegsCanonical s1 := h.setLock.wrF.countEvent
  split
  · extract_lets s2 s3 _ s4 s5 _ _ _ s6 s7
    have h2 : RegsCanonical s2 := .ite h1.reportPhase h1
    have h3 : RegsCanonical s3 := h2.goLock
    have h4 : RegsCanonical s4 := .ite h3.setLock h2
    have h5 : RegsCanonical s5 := h4.judgeCrash
    have h6 : RegsCanonical s6 := h5.setLock
    have h7 : RegsCanonical s7 := .ite h6.goLock (.ite h6.goLock.judgeCrash h6)
    exact .ite h2 (.ite h4 h7.loopStep)

protected theorem RegsCanonical.refEvent {code input} (h : RegsCanonical s) : RegsCanonical (refEvent code input s) :=
  h.postEvent

protected theorem NextCanonical.execRefFrameEdge {gap since} : NextCanonical s (execRefFrameEdge gap since s) := by
  unfold execRefFrameEdge
  extract_lets _ s1 _ _ _ _ _ s2
  have h1 : RegsCanonical s → RegsCanonical s1 := fun h => h.recordGap
  have h2 : RegsCanonical s → RegsCanonical s2 := fun h => .ite (h1 h).setFlag (h1 h)
  refine .ite (.next id) ?_
  split
  · exact .ite (.next fun h => (h2 h).setLock) (.next fun h => (h2 h).refEvent.acceptEdge)
  · exact .next fun h => (h1 h).acceptEdge
  · extract_lets _ s3
    have h3 : RegsCanonical s → RegsCanonical s3 := fun h => (h2 h).setFlag.postEvent
    refine .ite (.ite (.next fun h => (h2 h).setLock) (.next fun h => (h2 h).acceptEdge)) ?_
    exact .ite (.next fun h => (h3 h).setLock) (.next fun h => (h3 h).acceptEdge)

protected theorem NextCanonical.execRefFrameLost : NextCanonical s (execRefFrameLost s) := by
  unfold execRefFrameLost
  extract_lets _ s1 _ s2 _ s3
  have h1 : RegsCanonical s → RegsCanonical s1 := fun h => h.setLock.setFlag.wrF.wrF.refEvent
  have h2 : RegsCanonical s → RegsCanonical s2 := fun h => (h1 h).holdCorrection
  have h3 : RegsCanonical s → RegsCanonical s3 := fun h => (h2 h).setLock
  exact .ite (.next id) (.ite (.next fun h => (h3 h).wr.goLock) (.next h3))

protected theorem NextCanonical.execRef10mPresent : NextCanonical s (execRef10mPresent s) := by
  unfold execRef10mPresent
  extract_lets s1 _ _ s2
  have h1 : RegsCanonical s → RegsCanonical s1 := fun h => h.wrF
  have h2 : RegsCanonical s → RegsCanonical s2 := fun h => (h1 h).wrF.setLock
  exact .ite (.next id) (.ite (.next fun h => .ite (h2 h).refEvent (h2 h)) (.next h1))

protected theorem NextCanonical.execRef10mLost : NextCanonical s (execRef10mLost s) := by
  unfold execRef10mLost
  extract_lets s1
  have h1 : RegsCanonical s → RegsCanonical s1 := fun h => h.wrF
  exact .ite (.next id) (.ite (.next fun h => (h1 h).wrF.wrF.setLock.refEvent) (.next h1))

protected theorem NextCanonical.execRefTodMessage {msg afterMs} :
    NextCanonical s (execRefTodMessage msg afterMs s) := by
  unfold execRefTodMessage
  refine .ite (.next id) ?_
  split
  · exact .next fun h => h.setFlag.postEvent
  · exact .next fun h => h.setLock

protected theorem NextCanonical.execRefPpsEdge : NextCanonical s (execRefPpsEdge s) := by
  unfold execRefPpsEdge
  extract_lets _ _ _ s1
  have h1 : RegsCanonical s → RegsCanonical s1 := fun h => h.setLock.wrF.wrF
  refine .ite (.next id) ?_
  split
  · exact .next h1
  · extract_lets s2
    have h2 : RegsCanonical s → RegsCanonical s2 := fun h => (h1 h).same.tick
    exact .ite (.next h2) (.next fun h => (h2 h).wrF.postEvent)

protected theorem NextCanonical.execRefPpsLost : NextCanonical s (execRefPpsLost s) :=
  .ite (.next fun h => h.wrF.wrF.refEvent) (.next id)

protected theorem RegsCanonical.restartLock {old} (h : RegsCanonical s) : RegsCanonical (restartLock old s) := by
  unfold restartLock
  extract_lets _ _ _ s1 s2
  have h1 : RegsCanonical s1 := h.setLock.wrF
  have h2 : RegsCanonical s2 := h1.goLock
  exact .ite h (.ite h1.wr.goLock (.ite h1.wr.goLock (.ite h1.goLock h2.setLock)))

protected theorem RegsCanonical.effectTimeLock {d} (h : RegsCanonical s) : RegsCanonical (effectTimeLock d s) :=
  h.wrF.wrF.wrF.restartLock

protected theorem RegsCanonical.setPhaseOffset {w} (h : RegsCanonical s) : RegsCanonical (setPhaseOffset w s) :=
  .ite h.wr.setLock h.wr

protected theorem NextCanonical.execTimeStamp {port sq seq} : NextCanonical s (execTimeStamp port sq seq s) := by
  unfold execTimeStamp
  exact .withReady fun _ _ h => by
    dsimp only
    split <;> exact h.complete

protected theorem NextCanonical.execTimeSet {port sq seq} : NextCanonical s (execTimeSet port sq seq s) :=
  .withReady fun _ _ h => .ite h.refuseWith h.same.tick.completeI

protected theorem RegsCanonical.answerRead {port off v} (h : RegsCanonical s) :
    RegsCanonical (answerRead port off v s) :=
  h.emit

protected theorem NextCanonical.captureRead {port lo hi v} : NextCanonical s (captureRead port lo hi v s) :=
  .ite (.next fun h => h.wr.answerRead) (.next id)

protected theorem NextCanonical.execRastSfnLoRead {port} : NextCanonical s (execRastSfnLoRead port s) :=
  .captureRead

protected theorem NextCanonical.execRastCfnLoRead {port} : NextCanonical s (execRastCfnLoRead port s) :=
  .captureRead

protected theorem NextCanonical.execHfnOffsetLoRead {port} : NextCanonical s (execHfnOffsetLoRead port s) :=
  .captureRead

protected theorem NextCanonical.execRastTimeNsRead {port} : NextCanonical s (execRastTimeNsRead port s) :=
  .ite (.next fun h => h.tick.wr.wrF.answerRead) (.next id)

/-! ### The raster -/

protected theorem RegsCanonical.followWindow (h : RegsCanonical s) : RegsCanonical (followWindow s) :=
  h.wrF.wrF

protected theorem RegsCanonical.loadRoles {old mask} (h : RegsCanonical s) : RegsCanonical (loadRoles old mask s) :=
  .foldl h.same fun _ _ h => h.wrF

protected theorem RegsCanonical.setRoles {mask} (h : RegsCanonical s) : RegsCanonical (setRoles mask s) :=
  h.loadRoles.same.wrF

protected theorem RegsCanonical.changeMode {mode cause} (h : RegsCanonical s) :
    RegsCanonical (changeMode mode cause s) :=
  .ite h h.wrF.timelineEvent

protected theorem RegsCanonical.setFloor {n} (h : RegsCanonical s) : RegsCanonical (setFloor n s) :=
  h.wrF.wrF.followCompOp

protected theorem RegsCanonical.offSegments (h : RegsCanonical s) : RegsCanonical (offSegments s) :=
  .foldl h fun _ _ h => .ite h h.goLane.jobLaneGone

protected theorem RegsCanonical.applyPanel {p} (h : RegsCanonical s) : RegsCanonical (applyPanel p s) := by
  unfold applyPanel
  extract_lets _ _ _ s1 _ s2 s3
  have h1 : RegsCanonical s1 := h.same
  have h2 : RegsCanonical s2 := h1.wrF.wrF.wrF.wrF.wrF.wrF.setRoles.offSegments.followGeometry.followWindow
  have h3 : RegsCanonical s3 := .ite h2 h2.wrF.changeMode
  exact h3.setFloor.followBlocked.recheckRects

protected theorem NextCanonical.execSetPanel {port sq seq} : NextCanonical s (execSetPanel port sq seq s) :=
  .withReady fun _ _ h => .ite h.complete (.ite h.refuseWith h.applyPanel.completeI.recordMissing)

protected theorem RegsCanonical.setTimeline {mode auto lag} (h : RegsCanonical s) :
    RegsCanonical (setTimeline mode auto lag s) :=
  h.wrF.wrF.wrF.followWindow.same.changeMode

protected theorem NextCanonical.execRastCtrlTimelineWrite {port val} :
    NextCanonical s (execRastCtrlTimelineWrite port val s) := by
  unfold execRastCtrlTimelineWrite
  extract_lets _ s1
  have h1 : RegsCanonical s → RegsCanonical s1 := fun h => h.wrF.wrF
  refine .ite (.next id) ?_
  refine .ite (.next fun h => h.setFlag.idleTrigger) ?_
  exact .ite (.next fun h => (h1 h).same.idleTrigger) (.next fun h => h.setTimeline.idleTrigger)

protected theorem NextCanonical.execRastGeomWrite {port val} : NextCanonical s (execRastGeomWrite port val s) := by
  unfold execRastGeomWrite
  extract_lets _ _ s1
  have h1 : RegsCanonical s → RegsCanonical s1 := fun h => .ite h.writeRw.followGeometry h.setFlag
  exact .ite (.next id) (.next fun h => (h1 h).idleTrigger)

protected theorem RegsCanonical.writeRearLead {v} (h : RegsCanonical s) : RegsCanonical (writeRearLead v s) :=
  .ite h (.ite h.setFlag h.wrF)

protected theorem NextCanonical.execRastLagWrite {port val} : NextCanonical s (execRastLagWrite port val s) := by
  unfold execRastLagWrite
  extract_lets s1 _ s2
  have h1 : RegsCanonical s → RegsCanonical s1 := fun h => h.writeRearLead
  have h2 : RegsCanonical s → RegsCanonical s2 := fun h => .ite (h1 h).wrF (h1 h)
  exact .ite (.next id) (.next fun h => (h2 h).wrF.followWindow.idleTrigger)

protected theorem NextCanonical.execPipeFmtWrite {port val} : NextCanonical s (execPipeFmtWrite port val s) := by
  unfold execPipeFmtWrite
  extract_lets _ _ s1
  have h1 : RegsCanonical s → RegsCanonical s1 := fun h => .ite h.wrF.offSegments h.setFlag
  exact .ite (.next id) (.next fun h => (h1 h).idleTrigger)

protected theorem RegsCanonical.followGovernor (h : RegsCanonical s) : RegsCanonical (followGovernor s) :=
  .ite h (.foldl h fun _ _ h => .ite h h.wantOp)

protected theorem NextCanonical.execEngCtrlRearRoleWrite {port val} :
    NextCanonical s (execEngCtrlRearRoleWrite port val s) := by
  unfold execEngCtrlRearRoleWrite
  extract_lets _ s1
  have h1 : RegsCanonical s → RegsCanonical s1 := fun h => h.wrF.wrF
  exact .ite (.next id) (.ite (.next fun h => h.setFlag) (.next fun h => (h1 h).setRoles.followGovernor))

protected theorem RegsCanonical.setRaster {r} (h : RegsCanonical s) : RegsCanonical (setRaster r s) :=
  h.same rfl

protected theorem RegsCanonical.trainForRaster {link} (h : RegsCanonical s) : RegsCanonical (trainForRaster link s) :=
  .foldl h.same fun _ _ h => .ite h.startTraining h

protected theorem RegsCanonical.beginEnable {who} (h : RegsCanonical s) : RegsCanonical (beginEnable who s) := by
  unfold beginEnable
  extract_lets _ _ _ _ _ s1 _ s2 _ s3 _ _ s4 s5
  have h1 : RegsCanonical s1 := h.setRaster
  have h2 : RegsCanonical s2 := h1.same
  have h3 : RegsCanonical s3 := h2.same
  have h4 : RegsCanonical s4 := h3.same
  have h5 : RegsCanonical s5 := .foldl h4 fun _ _ h => .ite h.setLane h
  exact h5.wrF.trainForRaster

protected theorem RegsCanonical.backlightOff (h : RegsCanonical s) : RegsCanonical (backlightOff s) := by
  unfold backlightOff
  exact .same (.foldl h fun _ _ h => .ite h.emit.countEvent h)

protected theorem RegsCanonical.beginReverse {who} (h : RegsCanonical s) : RegsCanonical (beginReverse who s) :=
  h.setRaster.wrF.backlightOff

protected theorem RegsCanonical.checkRates (h : RegsCanonical s) : RegsCanonical (checkRates s) :=
  .ite h.wrF h.wrF.setFlag

protected theorem RegsCanonical.serveRaster {d} (h : RegsCanonical s) : RegsCanonical (serveRaster d s) := by
  unfold serveRaster
  extract_lets _ s1
  have h1 : RegsCanonical s1 := h.checkRates
  refine .ite (.ite h.completeI (.ite h.complete (.ite h1.setRunning.beginEnable h1.refuseWith))) ?_
  exact .ite h.setRunning.beginReverse h.completeI

protected theorem RegsCanonical.serveQueue {fuel} (h : RegsCanonical s) : RegsCanonical (serveQueue fuel s) := by
  induction fuel generalizing s with
  | zero => exact h
  | succ fuel ih =>
    unfold serveQueue
    refine .ite h (.ite h.beginReverse ?_)
    split
    · exact h
    · dsimp only
      split
      · exact ih h.setRaster.serveRaster
      · exact ih h.setRaster

protected theorem RegsCanonical.endSequence (h : RegsCanonical s) : RegsCanonical (endSequence s) := by
  unfold endSequence
  extract_lets _ _ s1 s2
  have h1 : RegsCanonical s1 := h.setRaster
  have h2 : RegsCanonical s2 := by
    unfold s2
    split
    · exact h1.completeI
    · exact h1
  exact h2.serveQueue

protected theorem NextCanonical.execRasterEnable {port sq seq} : NextCanonical s (execRasterEnable port sq seq s) :=
  .withReady fun _ _ h => .ite h.serveRaster h.setRaster.setRunning

protected theorem RegsCanonical.finishFalling (h : RegsCanonical s) : RegsCanonical (finishFalling s) := by
  unfold finishFalling
  split
  · exact .ite h h.setRaster.endSequence
  · exact h

protected theorem RegsCanonical.endBlack (h : RegsCanonical s) : RegsCanonical (endBlack s) := by
  unfold endBlack
  extract_lets s1 s2
  have h1 : RegsCanonical s1 := .foldl h fun _ _ h => .ite h h.goLane.jobLaneGone
  have h2 : RegsCanonical s2 := .foldl h1 fun _ _ h => .ite h.emit h
  exact h2.setRaster.finishFalling

protected theorem NextCanonical.execPanelPowerStep : NextCanonical s (execPanelPowerStep s) := by
  unfold execPanelPowerStep
  split
  · split
    · exact .next fun h => h.setRaster
    · exact .next fun h => h.setRaster.trainForRaster
  · split
    · exact .next fun h => h.setRaster.finishFalling
    · exact .next id
  · exact .next id

protected theorem RegsCanonical.gtoRun {l k len n} (h : RegsCanonical s) : RegsCanonical (gtoRun l k len s n) :=
  .ite h.setRaster.emit h.setRaster

protected theorem RegsCanonical.syncPulse {y len} (h : RegsCanonical s) : RegsCanonical (syncPulse y len s) := by
  unfold syncPulse
  dsimp only
  split
  · exact .ite h.emit h
  · exact .ite h.emit h
  · exact .ite h.emit h
  · exact h

protected theorem NextCanonical.execScanLineStart : NextCanonical s (execScanLineStart s) := by
  unfold execScanLineStart
  extract_lets _ s1
  have h1 : RegsCanonical s → RegsCanonical s1 := fun h => .foldl h fun _ _ h => h.gtoRun
  refine .ite (.next fun h => (h1 h).setRaster) ?_
  refine .ite (.next id) ?_
  split
  · extract_lets s2 s3
    have h2 : RegsCanonical s → RegsCanonical s2 := fun h => .countEvent (.syncPulse (.foldl h fun _ _ h => h.gtoRun))
    have h3 : RegsCanonical s → RegsCanonical s3 := fun h => .ite (h2 h).fixedAdd (h2 h)
    exact .next fun h => (h3 h).setRaster

/-! ### The panel pipeline -/

protected theorem RegsCanonical.setPipe {p} (h : RegsCanonical s) : RegsCanonical (setPipe p s) :=
  h.same rfl

protected theorem RegsCanonical.putDrive {cell x drive} (h : RegsCanonical s) :
    RegsCanonical (putDrive cell x drive s) :=
  h.setPipe

protected theorem RegsCanonical.putHistory {cell x y} (h : RegsCanonical s) : RegsCanonical (putHistory cell x y s) :=
  h.setPipe

protected theorem RegsCanonical.storeIdleFrame (h : RegsCanonical s) : RegsCanonical (storeIdleFrame s) :=
  .setPipe (.same (.openSlot (.foldl h fun _ _ h => h.freshRow)))

protected theorem RegsCanonical.takeIdleHistory (h : RegsCanonical s) : RegsCanonical (takeIdleHistory s) := by
  unfold takeIdleHistory
  split
  · exact .ite h.setPipe h
  · exact h

/-! ### Rectangles of the drive -/

protected theorem RegsCanonical.computeDrive {n r} (h : RegsCanonical s) : RegsCanonical (computeDrive n s r) :=
  .ite h.rectComputed h

protected theorem RegsCanonical.computeDrives {n} (h : RegsCanonical s) : RegsCanonical (computeDrives n s) :=
  .foldl h fun _ _ h => .ite h.computeDrive h

protected theorem RegsCanonical.idleDrives {n} (h : RegsCanonical s) : RegsCanonical (idleDrives n s) :=
  .foldl h fun _ _ h => .ite h.rectComputed h

protected theorem NextCanonical.execCheckFrameComputed {rect} : NextCanonical s (execCheckFrameComputed rect s) :=
  .ite (.next id) (.ite (.next fun h => h.computeDrive) (.next fun h => h.computeRect))

/-! ### The unit state table -/

protected theorem RegsCanonical.askUnit {u st} (h : RegsCanonical s) : RegsCanonical (askUnit u st s) :=
  .ite h h.same

protected theorem RegsCanonical.writeUnit {u st} (h : RegsCanonical s) : RegsCanonical (writeUnit u st s) :=
  h.same.setFlag.postEvent

protected theorem NextCanonical.execUnitStateUpdate {unit} : NextCanonical s (execUnitStateUpdate unit s) := by
  unfold execUnitStateUpdate
  split
  · exact .next id
  · exact .next fun h => h.writeUnit

/-! ### The Eddy array around its engines -/

protected theorem RegsCanonical.setEngine {e v} (h : RegsCanonical s) : RegsCanonical (setEngine e v s) :=
  h.same rfl

protected theorem RegsCanonical.setCluster {c v} (h : RegsCanonical s) : RegsCanonical (setCluster c v s) :=
  h.same rfl

protected theorem RegsCanonical.followEngines {c} (h : RegsCanonical s) : RegsCanonical (followEngines c s) :=
  h.wrF

protected theorem RegsCanonical.followFences (h : RegsCanonical s) : RegsCanonical (followFences s) :=
  .wrF (.foldl h fun _ _ h => h.wr)

protected theorem RegsCanonical.setJob {j} (h : RegsCanonical s) : RegsCanonical (setJob j s) :=
  h.setPipe

protected theorem RegsCanonical.clearEngine {e} (h : RegsCanonical s) : RegsCanonical (clearEngine e s) :=
  h.setEngine

protected theorem RegsCanonical.enqueueFetch {j n} (h : RegsCanonical s) : RegsCanonical (enqueueFetch j n s) := by
  induction n generalizing s with
  | zero => exact h.setJob
  | succ n ih =>
    unfold enqueueFetch
    dsimp only
    split
    · exact h.setJob
    · exact ih h.setCluster

protected theorem RegsCanonical.enqueueFetches {c} (h : RegsCanonical s) : RegsCanonical (enqueueFetches c s) :=
  .foldl h fun _ _ h => h.enqueueFetch

protected theorem RegsCanonical.dropJob {j} (h : RegsCanonical s) : RegsCanonical (dropJob j s) := by
  unfold dropJob
  extract_lets _ s1 s2
  have h1 : RegsCanonical s1 := h.setPipe
  have h2 : RegsCanonical s2 := .foldl h1 fun _ _ h => h.clearEngine
  exact h2.setCluster.enqueueFetches.followEngines

protected theorem RegsCanonical.publishStats (h : RegsCanonical s) : RegsCanonical (publishStats s) :=
  .ite h (.setPipe (.wr (.wr (.wr (.foldl h fun _ _ h => h.wr)))))

protected theorem RegsCanonical.keepTag {cell g} (h : RegsCanonical s) : RegsCanonical (keepTag cell g s) :=
  .ite h.writeTag h.setPipe

protected theorem RegsCanonical.fallTile {cell tc tr cause engine} (h : RegsCanonical s) :
    RegsCanonical (fallTile cell tc tr cause engine s) := by
  unfold fallTile
  extract_lets _ s1 _ _ _ _ _ _ _ s2 s3
  have h1 : RegsCanonical s1 := h
  have h2 : RegsCanonical s2 := .foldl h fun _ _ h => h.dropJob
  have h3 : RegsCanonical s3 := h2.putDrive.putHistory
  refine .ite h ?_
  exact .publishStats (.countEvent (.fixedAdd (.bumpSat (.setFlag (.foldl h3.setPipe fun _ _ h => h.keepTag)))))

protected theorem RegsCanonical.fallBack {next cell tc tr cause engine} (h : RegsCanonical s) :
    RegsCanonical (fallBack next cell tc tr cause engine s) :=
  .ite h.setPipe h.fallTile

protected theorem RegsCanonical.fallJob {j cause e} (h : RegsCanonical s) : RegsCanonical (fallJob j cause e s) :=
  .fallBack (.ite h h.setPipe)

protected theorem RegsCanonical.engineLeaves {e j} (h : RegsCanonical s) : RegsCanonical (engineLeaves e j s) :=
  .ite h.dropJob h.clearEngine.setJob.followEngines

protected theorem RegsCanonical.fallEngine {e cause} (h : RegsCanonical s) : RegsCanonical (fallEngine e cause s) :=
  .foldl h fun _ _ h => .ite h.engineLeaves h.dropJob.fallJob

protected theorem RegsCanonical.tellFallen (h : RegsCanonical s) : RegsCanonical (tellFallen s) :=
  .setPipe (.foldl h fun _ _ h => h.postEvent)

protected theorem RegsCanonical.tellFence {c engine cause} (h : RegsCanonical s) :
    RegsCanonical (tellFence c engine cause s) :=
  h.followFences.setFlag.postEvent

protected theorem RegsCanonical.refuseEnables {u} (h : RegsCanonical s) : RegsCanonical (refuseEnables u s) := by
  unfold refuseEnables
  extract_lets _ _ s1
  have h1 : RegsCanonical s1 := h.same
  exact .foldl h1 fun _ _ h => by
    split
    · exact h.refuseWith
    · exact h

protected theorem RegsCanonical.fenceCluster {c cause} (h : RegsCanonical s) :
    RegsCanonical (fenceCluster c cause s) :=
  .ite h (.tellFence (.foldl h.setCluster.wrF.askUnit fun _ _ h => h.fallEngine))

protected theorem RegsCanonical.fenceClocks {q} (h : RegsCanonical s) : RegsCanonical (fenceClocks q s) :=
  .foldl h fun _ _ h => .wrF (.setCluster (.ite h h.askUnit))

protected theorem RegsCanonical.fenceQuadrant {q cause} (h : RegsCanonical s) :
    RegsCanonical (fenceQuadrant q cause s) := by
  unfold fenceQuadrant
  extract_lets s1 s2 s3
  have h1 : RegsCanonical s1 := h.fenceClocks
  have h2 : RegsCanonical s2 := h1.askUnit.refuseEnables
  have h3 : RegsCanonical s3 := .foldl h2 fun _ _ h => h.fallEngine
  exact h3.tellFence

protected theorem RegsCanonical.fenceEngine {e cause} (h : RegsCanonical s) : RegsCanonical (fenceEngine e cause s) :=
  .ite h (.ite h.setEngine.wrF.tellFence.fenceCluster h.setEngine.wrF.tellFence)

protected theorem RegsCanonical.stopEngine {e cause} (h : RegsCanonical s) :
    RegsCanonical (stopEngine e cause s) := by
  unfold stopEngine
  extract_lets _ _ _ s1
  have h1 : RegsCanonical s1 := h.setEngine.tick.bumpSat.setFlag.postEvent
  exact .ite h1.fenceEngine h1

protected theorem RegsCanonical.setBind {cell stage b} (h : RegsCanonical s) :
    RegsCanonical (setBind cell stage b s) :=
  h.same rfl

protected theorem RegsCanonical.noteKernelFault {cell stage} (h : RegsCanonical s) :
    RegsCanonical (noteKernelFault cell stage s) :=
  .ite h (.ite h.setBind.tick h.setBind.same.degrade.postEvent)

protected theorem RegsCanonical.kernelFault {e cause} (h : RegsCanonical s) : RegsCanonical (kernelFault e cause s) :=
  h.setFlag.postEvent.stopEngine.noteKernelFault.fallEngine

protected theorem RegsCanonical.padWrite {c a bs} (h : RegsCanonical s) : RegsCanonical (padWrite c a bs s) :=
  h.setCluster

protected theorem RegsCanonical.placeStage {j stage ch a} (h : RegsCanonical s) :
    RegsCanonical (placeStage j stage ch a s) :=
  h.padWrite.padWrite.padWrite.padWrite.padWrite.tick

protected theorem RegsCanonical.advanceJob {fuel j} (h : RegsCanonical s) : RegsCanonical (advanceJob fuel j s) := by
  induction fuel generalizing j s with
  | zero => exact h.setJob
  | succ fuel ih =>
    unfold advanceJob
    split
    · exact h.setJob
    · dsimp only
      split
      · exact ih h.same
      · exact .ite h.setJob (.foldl h.setJob.placeStage fun _ _ h => h.setEngine)

protected theorem RegsCanonical.placeJob {c es base j} (h : RegsCanonical s) :
    RegsCanonical (placeJob c es base j s) := by
  unfold placeJob
  extract_lets _ _ _ s1
  have h1 : RegsCanonical s1 := h.setPipe.enqueueFetches
  exact .followEngines (.ite h1.advanceJob h1)

protected theorem RegsCanonical.startJob {role j n} (h : RegsCanonical s) : RegsCanonical (startJob role j n s) := by
  unfold startJob
  dsimp only
  split
  · exact h
  · exact h.setPipe.placeJob

protected theorem RegsCanonical.dispatchTile {cell tc tr next shown} (h : RegsCanonical s) :
    RegsCanonical (dispatchTile cell tc tr next shown s) := by
  have htag {j : Job} : RegsCanonical (if j.recomputed then (false, s) else tagStep s).2 := by
    split
    · exact h
    · exact h.tagStep
  exact .ite h htag.startJob

protected theorem RegsCanonical.dispatchFrame {n} (h : RegsCanonical s) : RegsCanonical (dispatchFrame n s) :=
  .ite h h.setPipe.startJob

protected theorem RegsCanonical.serveReruns (h : RegsCanonical s) : RegsCanonical (serveReruns s) := by
  unfold serveReruns
  exact .foldl h fun _ _ h => by
    dsimp only
    split
    · exact .ite h.setPipe.placeJob h
    · exact h

protected theorem NextCanonical.execTileDispatch {cell tc tr next cfn} :
    NextCanonical s (execTileDispatch cell tc tr next cfn s) := by
  unfold execTileDispatch
  extract_lets s1
  have h1 : RegsCanonical s → RegsCanonical s1 := fun h => h.serveReruns
  refine .ite (.next h1) ?_
  refine .ite (.next fun h => (h1 h).dispatchFrame) ?_
  exact .ite (.next fun h => .ite (h1 h) (h1 h).dispatchTile) (.next fun h => (h1 h).dispatchTile)

protected theorem RegsCanonical.noteSlack {q slack} (h : RegsCanonical s) : RegsCanonical (noteSlack q slack s) :=
  h.setPipe

protected theorem RegsCanonical.discardJob {j} (h : RegsCanonical s) : RegsCanonical (discardJob j s) :=
  .countEvent (.bumpSat (.setPipe (.ite h.setPipe h.dropJob)))

protected theorem RegsCanonical.retireJob {j} (h : RegsCanonical s) : RegsCanonical (retireJob j s) := by
  unfold retireJob
  extract_lets _ _ _ s1 _ _ s2 s3
  have h1 : RegsCanonical s1 := h.dropJob.putDrive.putHistory
  have h2 : RegsCanonical s2 := h1.setPipe
  have h3 : RegsCanonical s3 := by
    unfold s3
    split
    · exact h2.keepTag
    · exact h2
  exact h3.tick.fixedAdd.countEvent.countEvent.publishStats

protected theorem NextCanonical.execTileRetire {cell tc tr} : NextCanonical s (execTileRetire cell tc tr s) := by
  unfold execTileRetire
  split
  · exact .next id
  · refine .ite (.next id) ?_
    exact .ite (.next fun h => h.retireJob.serveReruns) (.next fun h => h.discardJob.serveReruns)

protected theorem NextCanonical.execTileDeadline {cell tc tr next} :
    NextCanonical s (execTileDeadline cell tc tr next s) := by
  unfold execTileDeadline
  refine .ite (.next id) ?_
  dsimp only
  split
  · exact .ite (.next id) (.next fun h => .serveReruns (.fallJob (.dropJob (.ite h h.stopEngine))))
  · exact .next fun h => h.setPipe.fallJob
  · exact .next fun h => h.fallBack

protected theorem NextCanonical.execStage6Deadline : NextCanonical s (execStage6Deadline s) := by
  unfold execStage6Deadline
  extract_lets s1 _ s2
  have h1 : RegsCanonical s → RegsCanonical s1 := fun h => by
    unfold s1
    split
    · exact .dropJob (.foldl h fun _ _ h => .ite h.stopEngine h)
    · exact h
  have h2 : RegsCanonical s → RegsCanonical s2 := fun h => (h1 h).setPipe
  exact .ite (.next id) (.next fun h => (h2 h).setPipe.setFlag)

protected theorem NextCanonical.execDeadlineWarning {cell tc tr} :
    NextCanonical s (execDeadlineWarning cell tc tr s) := by
  unfold execDeadlineWarning
  split
  · exact .next id
  · exact .ite (.next id) (.next fun h => .foldl h fun _ _ h => h.setEngine)

protected theorem NextCanonical.execMaxCyclesExpiry {engine} : NextCanonical s (execMaxCyclesExpiry engine s) :=
  .ite (.next fun h => h.stopEngine.fallEngine.serveReruns) (.next id)

protected theorem RegsCanonical.takeRegion {c} (h : RegsCanonical s) : RegsCanonical (takeRegion c s).2.2 := by
  unfold takeRegion
  dsimp only
  split
  · exact h.setCluster
  · exact .ite h.setCluster.wrF h.setCluster

protected theorem RegsCanonical.abortVisit {c} (h : RegsCanonical s) : RegsCanonical (abortVisit c s) :=
  .ite h.takeRegion.bumpSat.countEvent.bumpSat h.takeRegion.bumpSat.countEvent.setCluster

protected theorem RegsCanonical.touchVisit {e words} (h : RegsCanonical s) : RegsCanonical (touchVisit e words s) :=
  .ite (.ite h.tick.abortVisit h.tick) h

protected theorem RegsCanonical.enableCluster {c} (h : RegsCanonical s) : RegsCanonical (enableCluster c s) := by
  unfold enableCluster
  extract_lets _ s1 s2
  have h1 : RegsCanonical s1 := h.setCluster
  have h2 : RegsCanonical s2 := .foldl h1 fun _ _ h => h.setEngine.wrF
  exact h2.wrF.followFences.askUnit

protected theorem RegsCanonical.failPass {c} (h : RegsCanonical s) : RegsCanonical (failPass c s) :=
  h.setCluster.askUnit.refuseEnables

protected theorem RegsCanonical.setWrong {c x n} (h : RegsCanonical s) : RegsCanonical (setWrong c x n s) :=
  .ite h.setCluster (.ite h.setEngine h)

protected theorem RegsCanonical.spoilWords {c flips} (h : RegsCanonical s) : RegsCanonical (spoilWords c flips s) :=
  .foldl h fun _ _ h => .ite h.setWrong h

protected theorem NextCanonical.execPatrolVisit {c aborted bits word spad priv} :
    NextCanonical s (execPatrolVisit c aborted bits word spad priv s) := by
  refine .ite (.next id) ?_
  extract_lets s1 _ _ _ s2 _ s3
  have h1 : RegsCanonical s → RegsCanonical s1 := fun h => h.spoilWords
  have h2 : RegsCanonical s → RegsCanonical s2 := fun h => (h1 h).takeRegion.setCluster
  have h3 : RegsCanonical s → RegsCanonical s3 := fun h => (h2 h).setFlag.postEvent
  exact .ite (.next h1) (.ite (.next fun h => (h1 h).abortVisit) (.ite (.next h2) (.ite (.next fun h => (h3 h).bumpSat)
    (.ite (.next fun h => (h3 h).fenceCluster.failPass) (.next fun h => (h3 h).fenceCluster)))))

/-! ### The backlight link -/

protected theorem RegsCanonical.noteStrobe {k onRow offRow} (h : RegsCanonical s) :
    RegsCanonical (noteStrobe k onRow offRow s) :=
  .ite h.same h.same

protected theorem RegsCanonical.spiFrame {k bytes} (h : RegsCanonical s) : RegsCanonical (spiFrame k bytes s) :=
  h.emit.countEvent

protected theorem NextCanonical.execBklStrobe {controller onRow offRow} :
    NextCanonical s (execBklStrobe controller onRow offRow s) := by
  unfold execBklStrobe
  extract_lets _ s1
  have h1 : RegsCanonical s → RegsCanonical s1 := fun h => h.spiFrame.noteStrobe
  exact .ite (.next id) (.next fun h => .ite (h1 h).setFlag (h1 h))

protected theorem NextCanonical.execZoneData {controller row frame fits} :
    NextCanonical s (execZoneData controller row frame fits s) := by
  unfold execZoneData
  extract_lets _ _ s1
  have h1 : RegsCanonical s → RegsCanonical s1 := fun h => h.same
  split
  · exact .next id
  · exact .ite (.next id) (.ite (.next fun h => h.same.spiFrame) (.next fun h => (h1 h).setFlag.postEvent))

protected theorem NextCanonical.execBklStatus {controller status crc} :
    NextCanonical s (execBklStatus controller status crc s) := by
  unfold execBklStatus
  extract_lets _ _ s1 _ s2
  have h1 : RegsCanonical s → RegsCanonical s1 := fun h => h.same.emit.countEvent
  have h2 : RegsCanonical s → RegsCanonical s2 := fun h => (h1 h).wrF
  refine .ite (.next id) ?_
  exact .ite (.next fun h => (h1 h).setFlag) (.ite (.next fun h => (h2 h).setFlag.postEvent) (.next h2))

protected theorem NextCanonical.execBklStatsSfnLoRead {port} : NextCanonical s (execBklStatsSfnLoRead port s) :=
  .captureRead

protected theorem RegsCanonical.setSensorValid {n v} (h : RegsCanonical s) : RegsCanonical (setSensorValid n v s) :=
  h.wrF.wrF

protected theorem RegsCanonical.readSensor {n r} (h : RegsCanonical s) : RegsCanonical (readSensor n r s) := by
  unfold readSensor
  dsimp only
  split
  · exact .ite h.setPipe.wrF.setSensorValid.postEvent h.setPipe.wrF.setSensorValid
  · exact .ite h.setPipe (.ite h.setPipe.setSensorValid.setFlag.postEvent h.setPipe)

protected theorem RegsCanonical.followTemp (h : RegsCanonical s) : RegsCanonical (followTemp s) := by
  unfold followTemp
  dsimp only
  split
  · exact .ite h h.setPipe
  · exact .ite h.setPipe (.ite h h.setPipe.setFlag.postEvent)

protected theorem NextCanonical.execPanelTempPoll {reads} : NextCanonical s (execPanelTempPoll reads s) :=
  .ite (.next id) (.next fun h => .followTemp (.foldl h fun _ _ h => .ite h.emit.readSensor h))

/-! ### Error correction of the scratchpads -/

protected theorem RegsCanonical.correctWord {c x} (h : RegsCanonical s) : RegsCanonical (correctWord c s x) :=
  h.setWrong.bumpSat

protected theorem RegsCanonical.meetDouble {who c x} (h : RegsCanonical s) :
    RegsCanonical (meetDouble who c s x) := by
  unfold meetDouble
  extract_lets s1 _ _ s2 _ _ _ s3
  have h1 : RegsCanonical s1 := h.bumpSat.setFlag.postEvent
  have h2 : RegsCanonical s2 := h1.setCluster.tick
  have h3 : RegsCanonical s3 := h1.setEngine.tick
  exact .ite (.ite h2.fenceCluster h2) (.ite h3.fenceEngine.fallEngine h3)

protected theorem RegsCanonical.rewriteRegion {c x} (h : RegsCanonical s) : RegsCanonical (rewriteRegion c s x) :=
  .ite h.setCluster h.setEngine

protected theorem RegsCanonical.abandonJob {e} (h : RegsCanonical s) : RegsCanonical (abandonJob e s) := by
  unfold abandonJob
  split
  · exact h
  · exact .ite h.dropJob.setPipe.serveReruns (.ite h.dropJob h.dropJob.fallJob)

protected theorem RegsCanonical.meetErrors {who e words} (h : RegsCanonical s) :
    RegsCanonical (meetErrors who e words s).2 := by
  unfold meetErrors
  extract_lets c one two copies t
  have ht : RegsCanonical t :=
    .foldl (.foldl (.foldl h fun _ _ h => h.correctWord) fun _ _ h => h.meetDouble) fun _ _ h => h.rewriteRegion
  split
  · exact ht
  · exact ht.abandonJob

protected theorem RegsCanonical.eccAccess {e words f} (h : RegsCanonical s)
    (hf : ∀ s, RegsCanonical s → RegsCanonical (f s)) :
    RegsCanonical (eccAccess e words f s) :=
  .ite (hf _ h.touchVisit) (.ite h.touchVisit.meetErrors (hf _ h.touchVisit.meetErrors))

protected theorem RegsCanonical.completeJob {j} (h : RegsCanonical s) : RegsCanonical (completeJob j s) :=
  .ite h.setPipe.dropJob.serveReruns h.setJob.noteSlack

protected theorem NextCanonical.execTileComplete {cell tc tr} : NextCanonical s (execTileComplete cell tc tr s) := by
  unfold execTileComplete
  split
  · exact .next id
  · split
    · exact .next id
    · split
      · exact .next fun h => h.completeJob
      · exact .next fun h => .ite h.meetErrors h.meetErrors.completeJob

protected theorem RegsCanonical.scrubEngine {e} (h : RegsCanonical s) : RegsCanonical (scrubEngine s e) := by
  unfold scrubEngine
  extract_lets _ _ _ s1
  have h1 : RegsCanonical s1 := .foldl (.foldl h fun _ _ h => h.correctWord) fun _ _ h => h.meetDouble
  exact h1.setEngine

protected theorem RegsCanonical.scrubPrivate (h : RegsCanonical s) : RegsCanonical (scrubPrivate s) :=
  .foldl h fun _ _ h => h.scrubEngine

/-! ### The Eddy engine -/

protected theorem RegsCanonical.touchQueue {c a} (h : RegsCanonical s) : RegsCanonical (touchQueue c a s) :=
  .ite h h.setCluster

protected theorem RegsCanonical.eaPut {e ea b} (h : RegsCanonical s) : RegsCanonical (eaPut e ea b s) :=
  .ite h.setEngine h.padWrite.touchQueue

protected theorem RegsCanonical.freshWords {e eas} (h : RegsCanonical s) : RegsCanonical (freshWords e eas s) :=
  .ite h (.foldl h fun _ _ h => h.setWrong)

protected theorem RegsCanonical.eaStore {e bytes} (h : RegsCanonical s) : RegsCanonical (eaStore e bytes s) :=
  .foldl h.touchVisit.freshWords fun _ _ h => h.eaPut

protected theorem RegsCanonical.closePort {e} (h : RegsCanonical s) : RegsCanonical (closePort e s) :=
  .ite h h.setCluster

protected theorem RegsCanonical.openPort {e bytes} (h : RegsCanonical s) : RegsCanonical (openPort e bytes s) :=
  .ite h h.setCluster

protected theorem RegsCanonical.loseWrites {e n} (h : RegsCanonical s) : RegsCanonical (loseWrites e n s) :=
  h.setEngine.bumpSat.setFlag.countEvent

protected theorem RegsCanonical.eaWrite {e bytes} (h : RegsCanonical s) : RegsCanonical (eaWrite e bytes s) :=
  .ite h.eaStore.openPort (.ite h.eaStore (.ite h.tick.eaStore.loseWrites h.tick.eaStore))

protected theorem RegsCanonical.inCycle {e f} (h : RegsCanonical s)
    (hf : ∀ s, RegsCanonical s → RegsCanonical (f s)) :
    RegsCanonical (inCycle e f s) :=
  .ite (hf _ h.closePort) (hf _ h).closePort

protected theorem NextCanonical.issue {e i f} (hf : ∀ s, RegsCanonical s → RegsCanonical (f s)) :
    NextCanonical s (issue e i f s) := by
  unfold issue
  split
  · exact .next id
  · exact .next fun h => h.kernelFault
  · exact .ite (.next fun h => .inCycle h fun _ h => .eccAccess h hf) (.next id)

protected theorem RegsCanonical.goTo {e pc v} (h : RegsCanonical s) : RegsCanonical (goTo e pc v s) :=
  h.setEngine.countEvent

protected theorem RegsCanonical.advance {e f} (h : RegsCanonical s) : RegsCanonical (advance e f s) :=
  h.goTo

protected theorem RegsCanonical.finishRequest {c r} (h : RegsCanonical s) : RegsCanonical (finishRequest c r s) :=
  h.same.setCluster.enqueueFetches.setEngine

protected theorem RegsCanonical.moverWrites {c r} (h : RegsCanonical s) : RegsCanonical (moverWrites c r s) :=
  h.setCluster

protected theorem RegsCanonical.startFetched {e} (h : RegsCanonical s) : RegsCanonical (startFetched e s) := by
  unfold startFetched
  split
  · exact .ite h h.advanceJob.followEngines
  · exact h

protected theorem RegsCanonical.finishFetch {c r} (h : RegsCanonical s) : RegsCanonical (finishFetch c r s) :=
  h.setCluster.enqueueFetches.startFetched

protected theorem NextCanonical.execMoverRequestDone {cluster} :
    NextCanonical s (execMoverRequestDone cluster s) := by
  unfold execMoverRequestDone
  split
  · refine .ite (.ite (.next fun h => h.finishFetch) (.ite (.next fun h => h.finishRequest.moverWrites) ?_)) (.next id)
    exact .next fun h => .ite h.meetErrors h.meetErrors.finishRequest
  · exact .next id

protected theorem NextCanonical.execMoverStarve {cluster i cycles} :
    NextCanonical s (execMoverStarve cluster i cycles s) := by
  unfold execMoverStarve
  dsimp only
  split
  · exact .next id
  · exact .ite (.next id) (.next fun h => h.setCluster.setFlag.bumpSat.postEvent)

protected theorem NextCanonical.execHandlerEntry {engine} : NextCanonical s (execHandlerEntry engine s) := by
  unfold execHandlerEntry
  dsimp only
  refine .ite (.next id) ?_
  split
  · exact .next id
  · split
    · exact .next id
    · exact .next fun h => h.setEngine

protected theorem NextCanonical.execBarrierRelease {engine} : NextCanonical s (execBarrierRelease engine s) := by
  unfold execBarrierRelease
  dsimp only
  split
  · exact .ite (.next fun h => .foldl h fun _ _ h => h.setEngine) (.next id)
  · exact .next id

protected theorem NextCanonical.execWaitRelease {engine} : NextCanonical s (execWaitRelease engine s) := by
  unfold execWaitRelease
  dsimp only
  split
  · exact .ite (.next fun h => h.setEngine) (.next id)
  · exact .next id

protected theorem RegsCanonical.endJobStage {j} (h : RegsCanonical s) : RegsCanonical (endJobStage j s) := by
  unfold endJobStage
  split
  · exact h
  · exact h.same.advanceJob

protected theorem NextCanonical.execStageEnd {engine} : NextCanonical s (execStageEnd engine s) := by
  unfold execStageEnd
  dsimp only
  refine .ite (.next id) ?_
  split
  · exact .next id
  · exact .ite (.next fun h => h.setEngine) (.next fun h => .ite h.setEngine.meetErrors h.setEngine.meetErrors.endJobStage)

protected theorem NextCanonical.execInstructionUndefined {engine} :
    NextCanonical s (execInstructionUndefined engine s) := by
  unfold execInstructionUndefined
  split
  · exact .next id
  · exact .next fun h => h.kernelFault
  · exact .ite (.next id) (.next fun h => h.kernelFault)

/-! ### Scalar, memory, atomic and control instructions -/

protected theorem RegsCanonical.spend (h : RegsCanonical s) : RegsCanonical (spend s) :=
  h.same rfl

protected theorem RegsCanonical.scalarOp {e rd ra rb f} (h : RegsCanonical s) :
    RegsCanonical (scalarOp e rd ra rb f s) :=
  h.advance

protected theorem RegsCanonical.scalarImm {e rd ra f} (h : RegsCanonical s) : RegsCanonical (scalarImm e rd ra f s) :=
  h.advance

protected theorem NextCanonical.execAdd {e rd ra rb} : NextCanonical s (execAdd e rd ra rb s) :=
  .issue fun _ h => h.scalarOp

protected theorem NextCanonical.execSub {e rd ra rb} : NextCanonical s (execSub e rd ra rb s) :=
  .issue fun _ h => h.scalarOp

protected theorem NextCanonical.execAnd {e rd ra rb} : NextCanonical s (execAnd e rd ra rb s) :=
  .issue fun _ h => h.scalarOp

protected theorem NextCanonical.execOr {e rd ra rb} : NextCanonical s (execOr e rd ra rb s) :=
  .issue fun _ h => h.scalarOp

protected theorem NextCanonical.execXor {e rd ra rb} : NextCanonical s (execXor e rd ra rb s) :=
  .issue fun _ h => h.scalarOp

protected theorem NextCanonical.execShl {e rd ra rb} : NextCanonical s (execShl e rd ra rb s) :=
  .issue fun _ h => h.scalarOp

protected theorem NextCanonical.execShr {e rd ra rb} : NextCanonical s (execShr e rd ra rb s) :=
  .issue fun _ h => h.scalarOp

protected theorem NextCanonical.execSra {e rd ra rb} : NextCanonical s (execSra e rd ra rb s) :=
  .issue fun _ h => h.scalarOp

protected theorem NextCanonical.execSlt {e rd ra rb} : NextCanonical s (execSlt e rd ra rb s) :=
  .issue fun _ h => h.scalarOp

protected theorem NextCanonical.execSltu {e rd ra rb} : NextCanonical s (execSltu e rd ra rb s) :=
  .issue fun _ h => h.scalarOp

protected theorem NextCanonical.execMin {e rd ra rb} : NextCanonical s (execMin e rd ra rb s) :=
  .issue fun _ h => h.scalarOp

protected theorem NextCanonical.execMinu {e rd ra rb} : NextCanonical s (execMinu e rd ra rb s) :=
  .issue fun _ h => h.scalarOp

protected theorem NextCanonical.execMax {e rd ra rb} : NextCanonical s (execMax e rd ra rb s) :=
  .issue fun _ h => h.scalarOp

protected theorem NextCanonical.execMaxu {e rd ra rb} : NextCanonical s (execMaxu e rd ra rb s) :=
  .issue fun _ h => h.scalarOp

protected theorem NextCanonical.execMul {e rd ra rb} : NextCanonical s (execMul e rd ra rb s) :=
  .issue fun _ h => h.scalarOp

protected theorem NextCanonical.execMulh {e rd ra rb} : NextCanonical s (execMulh e rd ra rb s) :=
  .issue fun _ h => h.scalarOp

protected theorem NextCanonical.execMulhu {e rd ra rb} : NextCanonical s (execMulhu e rd ra rb s) :=
  .issue fun _ h => h.scalarOp

protected theorem NextCanonical.execAddi {e rd ra imm} : NextCanonical s (execAddi e rd ra imm s) :=
  .issue fun _ h => h.scalarImm

protected theorem NextCanonical.execAndi {e rd ra imm} : NextCanonical s (execAndi e rd ra imm s) :=
  .issue fun _ h => h.scalarImm

protected theorem NextCanonical.execOri {e rd ra imm} : NextCanonical s (execOri e rd ra imm s) :=
  .issue fun _ h => h.scalarImm

protected theorem NextCanonical.execXori {e rd ra imm} : NextCanonical s (execXori e rd ra imm s) :=
  .issue fun _ h => h.scalarImm

protected theorem NextCanonical.execSlti {e rd ra imm} : NextCanonical s (execSlti e rd ra imm s) :=
  .issue fun _ h => h.scalarImm

protected theorem NextCanonical.execSltiu {e rd ra imm} : NextCanonical s (execSltiu e rd ra imm s) :=
  .issue fun _ h => h.scalarImm

protected theorem NextCanonical.execShli {e rd ra sh} : NextCanonical s (execShli e rd ra sh s) :=
  .issue fun _ h => h.scalarImm

protected theorem NextCanonical.execShri {e rd ra sh} : NextCanonical s (execShri e rd ra sh s) :=
  .issue fun _ h => h.scalarImm

protected theorem NextCanonical.execSrai {e rd ra sh} : NextCanonical s (execSrai e rd ra sh s) :=
  .issue fun _ h => h.scalarImm

protected theorem NextCanonical.execLui {e rd imm} : NextCanonical s (execLui e rd imm s) :=
  .issue fun _ h => h.advance

protected theorem RegsCanonical.jumpTo {e rd pc} (h : RegsCanonical s) : RegsCanonical (jumpTo e rd pc s) :=
  h.goTo

protected theorem NextCanonical.execJal {e rd imm} : NextCanonical s (execJal e rd imm s) :=
  .issue fun _ h => h.jumpTo

protected theorem NextCanonical.execJalr {e rd ra imm} : NextCanonical s (execJalr e rd ra imm s) :=
  .issue fun _ h => h.jumpTo

protected theorem RegsCanonical.branch {e cond ra rb off} (h : RegsCanonical s) :
    RegsCanonical (branch e cond ra rb off s) := by
  unfold branch
  dsimp only
  split
  · exact h.kernelFault
  · exact h.goTo

protected theorem NextCanonical.execBr {e cond ra rb off} : NextCanonical s (execBr e cond ra rb off s) :=
  .issue fun _ h => h.branch

protected theorem RegsCanonical.loadS {e rd ra off n ext} (h : RegsCanonical s) :
    RegsCanonical (loadS e rd ra off n ext s) :=
  .ite (.eccAccess h fun _ h => h.advance.spend) h.kernelFault

protected theorem RegsCanonical.storeS {e rd ra off n} (h : RegsCanonical s) :
    RegsCanonical (storeS e rd ra off n s) :=
  .ite h.eaWrite.advance h.kernelFault

protected theorem NextCanonical.execLw {e rd ra off} : NextCanonical s (execLw e rd ra off s) :=
  .issue fun _ h => h.loadS

protected theorem NextCanonical.execLh {e rd ra off} : NextCanonical s (execLh e rd ra off s) :=
  .issue fun _ h => h.loadS

protected theorem NextCanonical.execLhu {e rd ra off} : NextCanonical s (execLhu e rd ra off s) :=
  .issue fun _ h => h.loadS

protected theorem NextCanonical.execLb {e rd ra off} : NextCanonical s (execLb e rd ra off s) :=
  .issue fun _ h => h.loadS

protected theorem NextCanonical.execLbu {e rd ra off} : NextCanonical s (execLbu e rd ra off s) :=
  .issue fun _ h => h.loadS

protected theorem NextCanonical.execSw {e rd ra off} : NextCanonical s (execSw e rd ra off s) :=
  .issue fun _ h => h.storeS

protected theorem NextCanonical.execSh {e rd ra off} : NextCanonical s (execSh e rd ra off s) :=
  .issue fun _ h => h.storeS

protected theorem NextCanonical.execSb {e rd ra off} : NextCanonical s (execSb e rd ra off s) :=
  .issue fun _ h => h.storeS

protected theorem RegsCanonical.vectorLoad {e pg vd ra off} (h : RegsCanonical s) :
    RegsCanonical (vectorLoad e pg vd ra off s) :=
  .ite (.eccAccess h fun _ h => h.advance.spend) h.kernelFault

protected theorem RegsCanonical.vectorStore {e pg vs ra off} (h : RegsCanonical s) :
    RegsCanonical (vectorStore e pg vs ra off s) :=
  .ite h.eaWrite.advance h.kernelFault

protected theorem RegsCanonical.vectorBroadcast {e pg vd ra off} (h : RegsCanonical s) :
    RegsCanonical (vectorBroadcast e pg vd ra off s) :=
  .ite (.eccAccess h fun _ h => h.advance.spend) h.kernelFault

protected theorem NextCanonical.execVld {e pg vd ra off} : NextCanonical s (execVld e pg vd ra off s) :=
  .issue fun _ h => h.vectorLoad

protected theorem NextCanonical.execVst {e pg vd ra off} : NextCanonical s (execVst e pg vd ra off s) :=
  .issue fun _ h => h.vectorStore

protected theorem NextCanonical.execVldb {e pg vd ra off} : NextCanonical s (execVldb e pg vd ra off s) :=
  .issue fun _ h => h.vectorBroadcast

protected theorem RegsCanonical.atomic {e rd ra rb n f} (h : RegsCanonical s) :
    RegsCanonical (atomic e rd ra rb n f s) :=
  .ite (.eccAccess h fun _ h => h.eaStore.advance.countEvent.spend) h.kernelFault

protected theorem NextCanonical.execAaddH {e rd ra rb} : NextCanonical s (execAaddH e rd ra rb s) :=
  .issue fun _ h => h.atomic

protected theorem NextCanonical.execAaddW {e rd ra rb} : NextCanonical s (execAaddW e rd ra rb s) :=
  .issue fun _ h => h.atomic

protected theorem NextCanonical.execAaddsH {e rd ra rb} : NextCanonical s (execAaddsH e rd ra rb s) :=
  .issue fun _ h => h.atomic

protected theorem NextCanonical.execAaddsW {e rd ra rb} : NextCanonical s (execAaddsW e rd ra rb s) :=
  .issue fun _ h => h.atomic

protected theorem NextCanonical.execAswpH {e rd ra rb} : NextCanonical s (execAswpH e rd ra rb s) :=
  .issue fun _ h => h.atomic

protected theorem NextCanonical.execAswpW {e rd ra rb} : NextCanonical s (execAswpW e rd ra rb s) :=
  .issue fun _ h => h.atomic

protected theorem RegsCanonical.queueRequest {e rd ea} (h : RegsCanonical s) :
    RegsCanonical (queueRequest e rd ea s) :=
  .ite h.kernelFault (.ite h.setEngine h.setCluster.advance.countEvent.spend)

protected theorem RegsCanonical.moveQueue {e rd ra} (h : RegsCanonical s) : RegsCanonical (moveQueue e rd ra s) :=
  .ite h.kernelFault (.eccAccess h fun _ h => h.queueRequest)

protected theorem NextCanonical.execMvq {e rd ra} : NextCanonical s (execMvq e rd ra s) :=
  .issue fun _ h => h.moveQueue

protected theorem RegsCanonical.stallAt {e w} (h : RegsCanonical s) : RegsCanonical (stallAt e w s) :=
  h.goTo

protected theorem NextCanonical.execBar {e id} : NextCanonical s (execBar e id s) := by
  refine .issue fun _ h => ?_
  split
  · exact h.stallAt
  · exact h.advance

protected theorem RegsCanonical.waitFor {e mask} (h : RegsCanonical s) : RegsCanonical (waitFor e mask s) :=
  .ite h.kernelFault (.ite h.advance h.stallAt)

protected theorem NextCanonical.execWait {e mask} : NextCanonical s (execWait e mask s) :=
  .issue fun _ h => h.waitFor

protected theorem NextCanonical.execCsrr {e rd csr} : NextCanonical s (execCsrr e rd csr s) :=
  .issue fun _ h => .ite h.kernelFault h.advance.spend

protected theorem NextCanonical.execCsrw {e ra csr} : NextCanonical s (execCsrw e ra csr s) :=
  .issue fun _ h => .ite h.kernelFault h.advance

protected theorem RegsCanonical.handlerReturn {e} (h : RegsCanonical s) : RegsCanonical (handlerReturn e s) :=
  .ite h.goTo h.kernelFault

protected theorem NextCanonical.execEret {e} : NextCanonical s (execEret e s) :=
  .issue fun _ h => h.handlerReturn

protected theorem NextCanonical.execHalt {e} : NextCanonical s (execHalt e s) :=
  .issue fun _ h => h.stallAt

/-! ### Vector, predicate and accumulator instructions -/

protected theorem RegsCanonical.laneOp {e pg vd va vb f} (h : RegsCanonical s) :
    RegsCanonical (laneOp e pg vd va vb f s) :=
  h.advance

protected theorem RegsCanonical.laneUn {e pg vd va f} (h : RegsCanonical s) : RegsCanonical (laneUn e pg vd va f s) :=
  h.advance

protected theorem NextCanonical.execVadd {e pg vd va vb} : NextCanonical s (execVadd e pg vd va vb s) :=
  .issue fun _ h => h.laneOp

protected theorem NextCanonical.execVsub {e pg vd va vb} : NextCanonical s (execVsub e pg vd va vb s) :=
  .issue fun _ h => h.laneOp

protected theorem NextCanonical.execVadds {e pg vd va vb} : NextCanonical s (execVadds e pg vd va vb s) :=
  .issue fun _ h => h.laneOp

protected theorem NextCanonical.execVsubs {e pg vd va vb} : NextCanonical s (execVsubs e pg vd va vb s) :=
  .issue fun _ h => h.laneOp

protected theorem NextCanonical.execVaddus {e pg vd va vb} : NextCanonical s (execVaddus e pg vd va vb s) :=
  .issue fun _ h => h.laneOp

protected theorem NextCanonical.execVsubus {e pg vd va vb} : NextCanonical s (execVsubus e pg vd va vb s) :=
  .issue fun _ h => h.laneOp

protected theorem NextCanonical.execVaddsu {e pg vd va vb} : NextCanonical s (execVaddsu e pg vd va vb s) :=
  .issue fun _ h => h.laneOp

protected theorem NextCanonical.execVmin {e pg vd va vb} : NextCanonical s (execVmin e pg vd va vb s) :=
  .issue fun _ h => h.laneOp

protected theorem NextCanonical.execVmax {e pg vd va vb} : NextCanonical s (execVmax e pg vd va vb s) :=
  .issue fun _ h => h.laneOp

protected theorem NextCanonical.execVminu {e pg vd va vb} : NextCanonical s (execVminu e pg vd va vb s) :=
  .issue fun _ h => h.laneOp

protected theorem NextCanonical.execVmaxu {e pg vd va vb} : NextCanonical s (execVmaxu e pg vd va vb s) :=
  .issue fun _ h => h.laneOp

protected theorem NextCanonical.execVand {e pg vd va vb} : NextCanonical s (execVand e pg vd va vb s) :=
  .issue fun _ h => h.laneOp

protected theorem NextCanonical.execVor {e pg vd va vb} : NextCanonical s (execVor e pg vd va vb s) :=
  .issue fun _ h => h.laneOp

protected theorem NextCanonical.execVxor {e pg vd va vb} : NextCanonical s (execVxor e pg vd va vb s) :=
  .issue fun _ h => h.laneOp

protected theorem NextCanonical.execVshl {e pg vd va vb} : NextCanonical s (execVshl e pg vd va vb s) :=
  .issue fun _ h => h.laneOp

protected theorem NextCanonical.execVshr {e pg vd va vb} : NextCanonical s (execVshr e pg vd va vb s) :=
  .issue fun _ h => h.laneOp

protected theorem NextCanonical.execVsra {e pg vd va vb} : NextCanonical s (execVsra e pg vd va vb s) :=
  .issue fun _ h => h.laneOp

protected theorem NextCanonical.execVmul {e pg vd va vb} : NextCanonical s (execVmul e pg vd va vb s) :=
  .issue fun _ h => h.laneOp

protected theorem NextCanonical.execVmulh {e pg vd va vb} : NextCanonical s (execVmulh e pg vd va vb s) :=
  .issue fun _ h => h.laneOp

protected theorem NextCanonical.execVmulhu {e pg vd va vb} : NextCanonical s (execVmulhu e pg vd va vb s) :=
  .issue fun _ h => h.laneOp

protected theorem NextCanonical.execVabsdu {e pg vd va vb} : NextCanonical s (execVabsdu e pg vd va vb s) :=
  .issue fun _ h => h.laneOp

protected theorem NextCanonical.execVavgu {e pg vd va vb} : NextCanonical s (execVavgu e pg vd va vb s) :=
  .issue fun _ h => h.laneOp

protected theorem NextCanonical.execVsel {e pg vd va vb} : NextCanonical s (execVsel e pg vd va vb s) :=
  .issue fun _ h => h.advance

protected theorem NextCanonical.execVshli {e pg vd va imm} : NextCanonical s (execVshli e pg vd va imm s) :=
  .issue fun _ h => h.laneUn

protected theorem NextCanonical.execVshri {e pg vd va imm} : NextCanonical s (execVshri e pg vd va imm s) :=
  .issue fun _ h => h.laneUn

protected theorem NextCanonical.execVsrai {e pg vd va imm} : NextCanonical s (execVsrai e pg vd va imm s) :=
  .issue fun _ h => h.laneUn

protected theorem NextCanonical.execVaddi {e pg vd va imm} : NextCanonical s (execVaddi e pg vd va imm s) :=
  .issue fun _ h => h.laneUn

protected theorem RegsCanonical.laneRecip {e pg vd va f} (h : RegsCanonical s) :
    RegsCanonical (laneRecip e pg vd va f s) :=
  h.advance

protected theorem NextCanonical.execVmov {e pg vd va} : NextCanonical s (execVmov e pg vd va s) :=
  .issue fun _ h => h.laneUn

protected theorem NextCanonical.execVclz {e pg vd va} : NextCanonical s (execVclz e pg vd va s) :=
  .issue fun _ h => h.laneUn

protected theorem NextCanonical.execVrcp {e pg vd va} : NextCanonical s (execVrcp e pg vd va s) :=
  .issue fun _ h => h.laneRecip

protected theorem NextCanonical.execVrsqrt {e pg vd va} : NextCanonical s (execVrsqrt e pg vd va s) :=
  .issue fun _ h => h.laneRecip

protected theorem NextCanonical.execVlane {e pg vd va} : NextCanonical s (execVlane e pg vd va s) :=
  .issue fun _ h => h.laneUn

protected theorem NextCanonical.execVmvs {e pg vd ra} : NextCanonical s (execVmvs e pg vd ra s) :=
  .issue fun _ h => h.advance

protected theorem RegsCanonical.compareLanes {e pg pd cond va vb} (h : RegsCanonical s) :
    RegsCanonical (compareLanes e pg pd cond va vb s) :=
  .ite h.kernelFault h.advance

protected theorem NextCanonical.execVcmp {e pg pd cond va vb} : NextCanonical s (execVcmp e pg pd cond va vb s) :=
  .issue fun _ h => h.compareLanes

protected theorem RegsCanonical.predOp {e pd pa pb f} (h : RegsCanonical s) : RegsCanonical (predOp e pd pa pb f s) :=
  h.advance

protected theorem NextCanonical.execPand {e pd pa pb} : NextCanonical s (execPand e pd pa pb s) :=
  .issue fun _ h => h.predOp

protected theorem NextCanonical.execPor {e pd pa pb} : NextCanonical s (execPor e pd pa pb s) :=
  .issue fun _ h => h.predOp

protected theorem NextCanonical.execPxor {e pd pa pb} : NextCanonical s (execPxor e pd pa pb s) :=
  .issue fun _ h => h.predOp

protected theorem NextCanonical.execPandn {e pd pa pb} : NextCanonical s (execPandn e pd pa pb s) :=
  .issue fun _ h => h.predOp

protected theorem NextCanonical.execPset {e pd ra pb} : NextCanonical s (execPset e pd ra pb s) :=
  .issue fun _ h => h.advance

protected theorem NextCanonical.execPget {e rd pa pb} : NextCanonical s (execPget e rd pa pb s) :=
  .issue fun _ h => h.advance

protected theorem RegsCanonical.multiplyAdd {e pg k va vb mode} (h : RegsCanonical s) :
    RegsCanonical (multiplyAdd e pg k va vb mode s) :=
  h.advance

protected theorem NextCanonical.execVmac {e pg ak va vb mode} : NextCanonical s (execVmac e pg ak va vb mode s) :=
  .issue fun _ h => h.multiplyAdd

protected theorem NextCanonical.execAclr {e pg ak} : NextCanonical s (execAclr e pg ak s) :=
  .issue fun _ h => h.advance

protected theorem NextCanonical.execAset {e pg ak va sh sgn} : NextCanonical s (execAset e pg ak va sh sgn s) :=
  .issue fun _ h => h.advance

protected theorem NextCanonical.execVrnd {e pg ak vd sh mode} : NextCanonical s (execVrnd e pg ak vd sh mode s) :=
  .issue fun _ h => .ite h.kernelFault h.advance

protected theorem RegsCanonical.lookup {e two pg vd vx vy sd sgn} (h : RegsCanonical s) :
    RegsCanonical (lookup e two pg vd vx vy sd sgn s) := by
  unfold lookup
  dsimp only
  split
  · exact h.kernelFault
  · exact .eccAccess h fun _ h => h.advance.spend

protected theorem NextCanonical.execLut1 {e pg vd vx sd sgn} : NextCanonical s (execLut1 e pg vd vx sd sgn s) :=
  .issue fun _ h => h.lookup

protected theorem NextCanonical.execLut2 {e pg vd vx vy sd sgn} : NextCanonical s (execLut2 e pg vd vx vy sd sgn s) :=
  .issue fun _ h => h.lookup

/-! ### What every store operation shares -/

protected theorem RegsCanonical.setStore {v} (h : RegsCanonical s) : RegsCanonical (setStore v s) :=
  h.same rfl

protected theorem RegsCanonical.sendNvme {queue op lba lbas data use} (h : RegsCanonical s) :
    RegsCanonical (sendNvme queue op lba lbas data use s) :=
  .ite h.setStore.emit h.setStore

protected theorem RegsCanonical.sendHeld {done cmds} (h : RegsCanonical s) :
    RegsCanonical (sendHeld done cmds s) := by
  induction cmds generalizing done s with
  | nil => exact h.setStore
  | cons c rest ih => exact .ite (ih h.emit) (ih h)

protected theorem RegsCanonical.sendAdmin {op arg} (h : RegsCanonical s) : RegsCanonical (sendAdmin op arg s) :=
  h.sendNvme

protected theorem RegsCanonical.nvRead {queue lba lbas use} (h : RegsCanonical s) :
    RegsCanonical (nvRead queue lba lbas use s) :=
  h.sendNvme

protected theorem RegsCanonical.nvWrite {lba data use} (h : RegsCanonical s) :
    RegsCanonical (nvWrite lba data use s) :=
  h.sendNvme

protected theorem RegsCanonical.nvFlush {use} (h : RegsCanonical s) : RegsCanonical (nvFlush use s) :=
  h.sendNvme

protected theorem RegsCanonical.followStore (h : RegsCanonical s) : RegsCanonical (followStore s) :=
  h.wr.wr.wrF

protected theorem RegsCanonical.endDsc {w st res} (h : RegsCanonical s) : RegsCanonical (endDsc w st res s) := by
  unfold endDsc
  split
  · exact h.completeI
  · exact h

protected theorem RegsCanonical.nvFailEnd {f w} (h : RegsCanonical s) : RegsCanonical (NvFail.end_ f w s) := by
  unfold NvFail.end_
  split <;> exact h.endDsc

/-! ### The codec lanes -/

protected theorem RegsCanonical.setCdc {n l} (h : RegsCanonical s) : RegsCanonical (setCdc n l s) :=
  h.same.wrF.wrF

protected theorem RegsCanonical.endBuf {e} (h : RegsCanonical s) : RegsCanonical (endBuf s e) :=
  h.endDsc

protected theorem RegsCanonical.closeBuf {n b st} (h : RegsCanonical s) : RegsCanonical (closeBuf n b st s) := by
  unfold closeBuf
  dsimp only
  split
  · exact .ite h.setCdc h.endBuf
  · exact h.endBuf

protected theorem RegsCanonical.followJob {n} (h : RegsCanonical s) : RegsCanonical (followJob n s) := by
  unfold followJob
  split
  · exact h
  · exact h.wr.wr.wr

protected theorem RegsCanonical.endJob {n abort st res} (h : RegsCanonical s) :
    RegsCanonical (endJob n abort st res s) := by
  unfold endJob
  extract_lets _ _ _ s1
  have h1 : RegsCanonical s1 := h.setCdc
  split
  · exact h
  · exact .endDsc (.foldl h1 fun _ _ h => h.endBuf)

protected theorem RegsCanonical.followEnd {n} (h : RegsCanonical s) : RegsCanonical (followEnd n s) := by
  unfold followEnd
  split
  · exact .ite h.endJob h
  · exact h

protected theorem RegsCanonical.pauseJob {n bytes} (h : RegsCanonical s) : RegsCanonical (pauseJob n bytes s) :=
  h.setCdc.setFlag.postEvent

protected theorem RegsCanonical.placeBlock {n bytes fuel} (h : RegsCanonical s) :
    RegsCanonical (placeBlock n bytes fuel s) := by
  induction fuel generalizing s with
  | zero => exact h
  | succ fuel ih =>
    unfold placeBlock
    dsimp only
    split
    · exact h
    · exact h.pauseJob
    · exact .ite h.setCdc.emit.monitorAdd.followJob (ih (.ite h.setCdc.setFlag.closeBuf h.setCdc.closeBuf))

protected theorem RegsCanonical.fetchInput {n} (h : RegsCanonical s) : RegsCanonical (fetchInput n s) := by
  unfold fetchInput
  split
  · exact .ite h (.ite h.setCdc h.nvRead)
  · exact h

protected theorem RegsCanonical.giveBlock {n bytes} (h : RegsCanonical s) : RegsCanonical (giveBlock n bytes s) :=
  h.placeBlock.followEnd.fetchInput

protected theorem RegsCanonical.beginJob {n d} (h : RegsCanonical s) : RegsCanonical (beginJob n d s) :=
  h.setRunning.setCdc.wrF.wrF.wrF.followJob

protected theorem RegsCanonical.startAt {n lba} (h : RegsCanonical s) : RegsCanonical (startAt n lba s) :=
  h.setCdc

protected theorem NextCanonical.execCodecJob {port sq seq} : NextCanonical s (execCodecJob port sq seq s) :=
  .withReady fun _ _ h => .ite h.complete (.ite h.beginJob (.ite h.complete (.ite h.badWith h.beginJob.startAt.fetchInput)))

protected theorem NextCanonical.execCodecOutBuf {port sq seq} : NextCanonical s (execCodecOutBuf port sq seq s) := by
  unfold execCodecOutBuf
  exact .withReady fun _ _ h => by
    extract_lets _ _ _ s1
    have h1 : RegsCanonical s1 := h.setRunning.setCdc
    split
    · exact h1.giveBlock
    · exact h1

protected theorem RegsCanonical.cancelLane {n} (h : RegsCanonical s) : RegsCanonical (cancelLane n s) := by
  unfold cancelLane
  extract_lets _ s1 s2
  have h1 : RegsCanonical s1 := h.setCdc
  have h2 : RegsCanonical s2 := .foldl h1 fun _ _ h => h.endBuf
  split
  · exact h2.endDsc
  · exact h2

protected theorem NextCanonical.execCodecCancel {port sq seq} : NextCanonical s (execCodecCancel port sq seq s) :=
  .withReady fun _ _ h => h.cancelLane.completeI

protected theorem RegsCanonical.inputRead {n k j} (h : RegsCanonical s) : RegsCanonical (inputRead n k j s) :=
  .ite h.wr.monitorAdd h.wr.monitorAdd.monitorAdd

protected theorem RegsCanonical.produced {n used j bytes coded d short} (h : RegsCanonical s) :
    RegsCanonical (produced n used j bytes coded d short s) := by
  unfold produced
  extract_lets _ _ s1
  have h1 : RegsCanonical s1 := h.setCdc.followJob.countEvent.monitorAdd
  exact .ite h1 h1.monitorAdd

protected theorem RegsCanonical.compressBlock {n j input} (h : RegsCanonical s) :
    RegsCanonical (compressBlock n j input s) :=
  .ite h.produced.setFlag.endJob h.produced.giveBlock

protected theorem RegsCanonical.decompressBlock {n j input} (h : RegsCanonical s) :
    RegsCanonical (decompressBlock n j input s) := by
  unfold decompressBlock
  refine .ite h.inputRead.endJob ?_
  split
  · exact h.inputRead.setFlag.postEvent.endJob
  · exact h.produced.giveBlock

protected theorem NextCanonical.execCodecBlockDone {lane bytes} :
    NextCanonical s (execCodecBlockDone lane bytes s) := by
  unfold execCodecBlockDone
  split
  · exact .next id
  · refine .ite (.next id) ?_
    dsimp only
    refine .ite ?_ ?_
    · split
      · exact .next id
      · exact .next fun h => .ite h.decompressBlock h.compressBlock
    · split
      · exact .next fun h => h.endJob
      · exact .ite (.next fun h => .ite h.decompressBlock h.compressBlock) (.next id)

protected theorem RegsCanonical.failCodec {n f} (h : RegsCanonical s) : RegsCanonical (failCodec n f s) := by
  unfold failCodec
  split <;> exact h.endJob

/-! ### Composition lines -/

protected theorem RegsCanonical.redoTiles {l} (h : RegsCanonical s) : RegsCanonical (redoTiles l s) :=
  h.same rfl

protected theorem RegsCanonical.discardAll (h : RegsCanonical s) : RegsCanonical (discardAll s) :=
  .foldl h fun _ _ h => h.discardJob

protected theorem RegsCanonical.leaveLocked {d} (h : RegsCanonical s) : RegsCanonical (leaveLocked d s) :=
  h.same.redoTiles.discardAll.wrF.wrF.setFlag.bumpSat.timelineEvent

protected theorem RegsCanonical.measure {judged broken d} (h : RegsCanonical s) :
    RegsCanonical (measure judged broken d s) :=
  .ite h.wrF.leaveLocked h.wrF

protected theorem RegsCanonical.noteRow {y} (h : RegsCanonical s) : RegsCanonical (noteRow y s) :=
  .ite h h.same

/-! ### Tables and kernels -/

protected theorem RegsCanonical.setTables {x} (h : RegsCanonical s) : RegsCanonical (setTables x s) :=
  h.same rfl

protected theorem RegsCanonical.allocTables {ts} (h : RegsCanonical s) (ht : allocTables ts s = some t) :
    RegsCanonical t := by
  induction ts generalizing s with
  | nil => exact Option.some_inj.1 ht ▸ h
  | cons e rest ih =>
    obtain ⟨u, hu, ht⟩ := Option.bind_eq_some_iff.1 ht
    split at hu
    · exact ih (h.alloc hu) ht
    · exact ih (h.allocTwice hu) ht

protected theorem RegsCanonical.stageTable {e} (h : RegsCanonical s) : RegsCanonical (stageTable s e) :=
  h.freeTag.retag.setTables

protected theorem RegsCanonical.measureTables {d} (h : RegsCanonical s) : RegsCanonical (measureTables d s) := by
  unfold measureTables
  exact h.same

protected theorem RegsCanonical.measureKernels {d} (h : RegsCanonical s) : RegsCanonical (measureKernels d s) := by
  unfold measureKernels
  exact h.same

protected theorem RegsCanonical.loadTables {img room res} (h : RegsCanonical s) (ht : loadTables img room s = .done res t) :
    RegsCanonical t := by
  unfold Machine.loadTables at ht
  split at ht
  · dsimp only at ht
    split at ht
    · exact absurd ht nofun
    · split at ht
      · exact absurd ht nofun
      · split at ht
        · exact absurd ht nofun
        · split at ht
          · exact absurd ht nofun
          · next hu =>
            obtain ⟨-, rfl⟩ := LoadEnd.done.inj ht
            exact .measureTables (.foldl (h.allocTables hu) fun _ _ h => h.stageTable)
  · exact absurd ht nofun

protected theorem RegsCanonical.newHandle (h : RegsCanonical s) : RegsCanonical (newHandle s).2 :=
  RegsCanonical.freeBelow (bound := 65535) h

protected theorem RegsCanonical.loadKernel {img room res} (h : RegsCanonical s) (ht : loadKernel img room s = .done res t) :
    RegsCanonical t := by
  unfold Machine.loadKernel at ht
  -- under another name the kernel does not run the allocator to compare matches on what it answers
  obtain ⟨allocate, ha⟩ : ∃ a, a = Machine.allocTwice := ⟨_, rfl⟩
  rw [← ha] at ht
  split at ht
  · split at ht
    · exact absurd ht nofun
    · next hk =>
      have hn := h.newHandle
      rw [hk] at hn
      split at ht
      · exact absurd ht nofun
      · next hu =>
        obtain ⟨-, rfl⟩ := LoadEnd.done.inj ht
        rw [ha] at hu
        exact (hn.allocTwice hu).setTables.measureKernels
  · exact absurd ht nofun

protected theorem RegsCanonical.dropLoad {w} (h : RegsCanonical s) : RegsCanonical (dropLoad w s) :=
  h.setTables

protected theorem RegsCanonical.beginLoad {d} (h : RegsCanonical s) : RegsCanonical (beginLoad d s) :=
  .ite h.setTables.setRunning (.ite h.complete (.ite h.badWith h.setTables.setRunning.nvRead))

protected theorem NextCanonical.execTableLoad {port sq seq} : NextCanonical s (execTableLoad port sq seq s) :=
  .withReady fun _ _ h => h.beginLoad

protected theorem NextCanonical.execKernelLoad {port sq seq} : NextCanonical s (execKernelLoad port sq seq s) :=
  .withReady fun _ _ h => h.beginLoad

protected theorem NextCanonical.execTableDrop {port sq seq} : NextCanonical s (execTableDrop port sq seq s) :=
  .withReady fun _ _ h => .ite h.refuseWith (.ite h.complete h.dropStaged.completeI)

protected theorem NextCanonical.execKernelUnload {port sq seq} : NextCanonical s (execKernelUnload port sq seq s) :=
  .withReady fun _ _ h => .ite h.refuseWith (.ite h.complete h.setTables.freeTag.completeI)

protected theorem RegsCanonical.followDefects (h : RegsCanonical s) : RegsCanonical (followDefects s) :=
  h.wrF

protected theorem RegsCanonical.activateDefault {id x} (h : RegsCanonical s) :
    RegsCanonical (activateDefault id x s) := by
  have hroom : RegsCanonical ((Machine.allocTwice id x.length s).getD s) := by
    rcases ht : Machine.allocTwice id x.length s with _ | t
    · exact h
    · exact h.allocTwice ht
  exact .ite h hroom.setTables

protected theorem RegsCanonical.activateS {id} (h : RegsCanonical s) : RegsCanonical (activateS id s) :=
  h.activate.followWindow.followDefects

protected theorem RegsCanonical.clearAreas {cell stage} (h : RegsCanonical s) :
    RegsCanonical (clearAreas cell stage s) :=
  .foldl h fun _ _ h => .ite h.setEngine h

protected theorem RegsCanonical.setArea {cell stage a} (h : RegsCanonical s) :
    RegsCanonical (setArea cell stage a s) :=
  h.setTables

protected theorem RegsCanonical.repack {cell} (h : RegsCanonical s) : RegsCanonical (repack cell s) :=
  List.foldlRecOn (motive := fun e : State × Nat × Nat => RegsCanonical e.1) _ _ h fun _ h _ _ => h.setArea

protected theorem RegsCanonical.placeKernel {cell stage} (h : RegsCanonical s) :
    RegsCanonical (placeKernel cell stage s) :=
  .ite h.clearAreas (.ite h.setArea.clearAreas h.repack.clearAreas)

protected theorem RegsCanonical.bindKernel {cell stage handle param} (h : RegsCanonical s) :
    RegsCanonical (bindKernel cell stage handle param s) :=
  h.undegrade.setBind.placeKernel.followWindow

protected theorem RegsCanonical.bindReference {e} (h : RegsCanonical s) : RegsCanonical (bindReference s e) :=
  .degrade (.ite h h.bindKernel)

/-! ### The hold library -/

protected theorem RegsCanonical.setHold {v} (h : RegsCanonical s) : RegsCanonical (setHold v s) :=
  h.same rfl

protected theorem RegsCanonical.followHold (h : RegsCanonical s) : RegsCanonical (followHold s) :=
  h.wrF.wrF

protected theorem RegsCanonical.itemMissing {item} (h : RegsCanonical s) : RegsCanonical (itemMissing item s) :=
  h.postEvent

protected theorem RegsCanonical.beginStage {item who} (h : RegsCanonical s) :
    RegsCanonical (beginStage item who s) := by
  unfold beginStage
  split
  · exact h.setHold
  · exact h.setHold.nvRead

protected theorem RegsCanonical.beginBackground {item} (h : RegsCanonical s) :
    RegsCanonical (beginBackground item s) :=
  .beginStage (.ite h h.setHold)

protected theorem RegsCanonical.endStage {item ok f} (h : RegsCanonical s)
    (hf : ∀ w s, RegsCanonical s → RegsCanonical (f w s)) :
    RegsCanonical (endStage item ok f s) := by
  unfold endStage
  extract_lets _ _ s1 s2 _ _ s3
  have h2 : RegsCanonical s2 := .foldl h.setHold fun _ _ h => hf _ _ h
  have h3 : RegsCanonical s3 := h2.setHold
  exact .ite h3.itemMissing h3

protected theorem RegsCanonical.refuseStage {item} (h : RegsCanonical s) : RegsCanonical (refuseStage item s) :=
  .endStage h fun _ _ h => h.endDsc

protected theorem NextCanonical.execHoldStage {port sq seq} : NextCanonical s (execHoldStage port sq seq s) :=
  .withReady fun _ _ h => .ite h.completeI (.ite h.complete (.ite h.refuseWith h.setRunning.beginStage))

protected theorem RegsCanonical.holdTableRead {item bs} (h : RegsCanonical s) :
    RegsCanonical (holdTableRead item bs s) :=
  .ite h.refuseStage h.nvRead

protected theorem RegsCanonical.holdItemRead {item lba bs} (h : RegsCanonical s) :
    RegsCanonical (holdItemRead item lba bs s) :=
  h.setHold

protected theorem NextCanonical.execHoldStageDone {item} : NextCanonical s (execHoldStageDone item s) := by
  unfold execHoldStageDone
  extract_lets +onlyGivenNames b width height n
  refine .ite (.next id) (.ite (.next fun h => h.refuseStage) ?_)
  split
  · exact .next fun h => .endStage h fun _ _ h => h.endDsc
  · next ht =>
    split
    · exact .next fun h => h.refuseStage
    · exact .next fun h => .endStage (h.alloc ht).setHold.followHold fun _ _ h => h.endDsc

protected theorem NextCanonical.execHoldPolicy {port sq seq} : NextCanonical s (execHoldPolicy port sq seq s) :=
  .withReady fun _ _ h =>
    .freezeIfDue (.completeI (.ite h.wrF.wrF.wrF (.ite h.wrF.wrF.wrF.beginBackground h.wrF.wrF.wrF.itemMissing)))

protected theorem NextCanonical.execHoldEvict {port sq seq} : NextCanonical s (execHoldEvict port sq seq s) :=
  .withReady fun _ _ h => .ite h.complete h.setHold.freeTag.followHold.completeI

/-! ### Port resets and links -/

protected theorem RegsCanonical.loseLayer {p n} (h : RegsCanonical s) : RegsCanonical (loseLayer p s n) :=
  .ite h (.postEvent (.setFlag (.setLayer (.ite h.setFrameLayer h))))

protected theorem RegsCanonical.loseFetch {p n} (h : RegsCanonical s) : RegsCanonical (loseFetch p s n) := by
  unfold loseFetch
  split
  · exact .ite h.setLayer.freeTag h
  · exact h

protected theorem RegsCanonical.loseChecks {p r} (h : RegsCanonical s) : RegsCanonical (loseChecks p s r) :=
  .ite h h.setRect.followWaiting

protected theorem RegsCanonical.loseBinds {p} (h : RegsCanonical s) : RegsCanonical (loseBinds p s) :=
  .foldl h fun _ _ h => h.freeTag

protected theorem RegsCanonical.dropPort {p} (h : RegsCanonical s) : RegsCanonical (dropPort p s) := by
  unfold dropPort
  extract_lets s1 _ s2 s3 s4 s5 s6 _ _ _ _ _ s7 s8
  have h1 : RegsCanonical s1 := h.loseBinds
  have h2 : RegsCanonical s2 := h1.same
  have h3 : RegsCanonical s3 := h2.setPort.resetRegs
  have h4 : RegsCanonical s4 := .foldl h3 fun _ _ h => .ite h.cancelLane h
  have h5 : RegsCanonical s5 := .foldl h4 fun _ _ h => h.loseChecks
  have h6 : RegsCanonical s6 := .foldl h5 fun _ _ h => h.loseFetch
  have h7 : RegsCanonical s7 := h6.same
  have h8 : RegsCanonical s8 := .foldl h7 fun _ _ h => h.loseLayer
  exact h8.same.followLayers.recordMissing

protected theorem RegsCanonical.abortPort {p keep} (h : RegsCanonical s) : RegsCanonical (abortPort p keep s) :=
  .foldl h fun _ _ h => h.complete

protected theorem NextCanonical.execPortReset {port cause} : NextCanonical s (execPortReset port cause s) := by
  unfold execPortReset
  extract_lets s1 _ s2
  have h1 : RegsCanonical s → RegsCanonical s1 := fun h => .dropPort (.ite h.abortPort h)
  have h2 : RegsCanonical s → RegsCanonical s2 := fun h => .ite (h1 h) (h1 h).setPort.askUnit
  exact .ite (.next id) (.next fun h => (h2 h).setFlag.postEvent)

protected theorem NextCanonical.execHostLinkUp {port} : NextCanonical s (execHostLinkUp port s) :=
  .ite (.next id) (.next fun h => h.setPort.askUnit)

/-! ### The power sequencer -/

protected theorem RegsCanonical.writeLog (h : RegsCanonical s) : RegsCanonical (writeLog s) :=
  h.nvRead

protected theorem RegsCanonical.mergeLog {count bs} (h : RegsCanonical s) : RegsCanonical (mergeLog count bs s) :=
  h.nvWrite

protected theorem RegsCanonical.writeHead (h : RegsCanonical s) : RegsCanonical (writeHead s) :=
  h.nvWrite

protected theorem RegsCanonical.endTransition {target reached unit st replayed} (h : RegsCanonical s) :
    RegsCanonical (endTransition target reached unit st replayed s) :=
  h.wr.resultEnd

protected theorem RegsCanonical.postState {old new cause who} (h : RegsCanonical s) :
    RegsCanonical (postState old new cause who s) :=
  h.postEvent.emit

protected theorem RegsCanonical.endRequest {d st res} (h : RegsCanonical s) :
    RegsCanonical (endRequest d st res s) := by
  unfold endRequest
  split
  · exact h.endDsc
  · exact h

protected theorem RegsCanonical.goOnShutting (h : RegsCanonical s) : RegsCanonical (goOnShutting s) :=
  .ite h (.ite h.nvFlush h.writeLog)

protected theorem RegsCanonical.beginShutdown (h : RegsCanonical s) : RegsCanonical (beginShutdown s) :=
  .ite h (.ite h.setStore h.setStore.goOnShutting)

protected theorem RegsCanonical.askForEntry {u} (h : RegsCanonical s) : RegsCanonical (askForEntry u s) :=
  .ite h.serveQueue (.ite h.beginShutdown h)

protected theorem RegsCanonical.stopHeadwater (h : RegsCanonical s) : RegsCanonical (stopHeadwater s) := by
  unfold stopHeadwater
  extract_lets s1 s2 _ _ s3
  have h1 : RegsCanonical s1 := .foldl h fun _ _ h => .ite h.setLane h
  have h2 : RegsCanonical s2 := h1.endHwFrame
  have h3 : RegsCanonical s3 := h2.same
  exact .foldl h3 fun _ _ h => .ite h h.setLane.goLane.jobLaneGone

protected theorem RegsCanonical.stopSluice (h : RegsCanonical s) : RegsCanonical (stopSluice s) :=
  .foldl h fun _ _ h => .ite h h.goLane.jobLaneGone

protected theorem RegsCanonical.stopQuadrant {q} (h : RegsCanonical s) : RegsCanonical (stopQuadrant q s) := by
  unfold stopQuadrant
  exact .same (.foldl h fun _ _ h => h.dropJob)

protected theorem RegsCanonical.storeShut (h : RegsCanonical s) : RegsCanonical (storeShut s) :=
  .ite h.same h.setStore.same.wrF.wrF.wrF.askUnit

protected theorem RegsCanonical.stopComposition (h : RegsCanonical s) : RegsCanonical (stopComposition s) := by
  unfold stopComposition
  split
  · exact .same (.foldl h fun _ _ h => h.endLayer)
  · exact h

protected theorem RegsCanonical.quiesce {e u} (h : RegsCanonical s) : RegsCanonical (quiesce e u s) := by
  unfold quiesce
  dsimp only
  refine .ite h.stopHeadwater ?_
  refine .ite (.ite h h.stopSluice) ?_
  refine .ite (.ite h h.stopComposition) ?_
  refine .ite (.ite h.storeIdleFrame h) ?_
  exact .ite (.ite h h.stopQuadrant) (.ite h.storeShut (.ite h.wrF.wrF (.ite h.abortPort h)))

protected theorem RegsCanonical.railsFor {st} (h : RegsCanonical s) : RegsCanonical (railsFor st s) := by
  unfold railsFor
  split
  · exact h.railOff.commandRail
  · exact h.railOff.railOff.railOff.railOff.commandRail
  · exact h

protected theorem RegsCanonical.dropPorts (h : RegsCanonical s) : RegsCanonical (dropPorts s) :=
  .foldl h fun _ _ h => .ite h.dropPort.setPort.askUnit h

protected theorem RegsCanonical.goOff (h : RegsCanonical s) : RegsCanonical (goOff s) :=
  h.railsOff.restart.setPower

protected theorem RegsCanonical.showIdle (h : RegsCanonical s) : RegsCanonical (showIdle s) := by
  unfold showIdle
  extract_lets s1
  have h1 : RegsCanonical s1 := .foldl h fun _ _ h => h.dropJob
  exact .ite h1.setRaster h1

protected theorem RegsCanonical.enterState {e} (h : RegsCanonical s) : RegsCanonical (enterState e s) := by
  unfold enterState
  extract_lets _ _ _ _ _ s1 s2 s3 s4 _ s5
  have h1 : RegsCanonical s1 := h.setPower.postState.endRequest.endTransition
  have h2 : RegsCanonical s2 := .ite h1.setFlag h1
  have h3 : RegsCanonical s3 := .ite h2.showIdle h2
  have h4 : RegsCanonical s4 := .ite h3.dropPorts h3
  have h5 : RegsCanonical s5 := h4.setPower.railsFor
  split
  · exact h5.goOff
  · exact h5.goOff.powerStart
  · exact h5.beginExit
  · exact h5

protected theorem RegsCanonical.askNext {fuel} (h : RegsCanonical s) : RegsCanonical (askNext fuel s) := by
  induction fuel generalizing s with
  | zero => exact h
  | succ fuel ih =>
    unfold askNext
    split
    · exact h
    · split
      · exact h
      · exact .ite (ih h.setPower.quiesce) h.askForEntry

protected theorem RegsCanonical.beginEntry {r} (h : RegsCanonical s) : RegsCanonical (beginEntry r s) :=
  h.setPower.resultBegin.askNext

protected theorem RegsCanonical.startRequest {r} (h : RegsCanonical s) : RegsCanonical (startRequest r s) := by
  unfold startRequest
  dsimp only
  refine .ite h.resultBegin.endTransition.endRequest ?_
  exact .ite h.recordWake.beginExit (.ite h.beginExit (.ite h.resultBegin.enterState (.ite h.beginExit h.beginEntry)))

protected theorem RegsCanonical.serveSlot (h : RegsCanonical s) : RegsCanonical (serveSlot s) := by
  unfold serveSlot
  split
  · exact .ite h h.setPower.startRequest
  · exact h.serveOps

protected theorem RegsCanonical.supersede {r} (h : RegsCanonical s) : RegsCanonical (supersede r s) := by
  unfold supersede
  extract_lets s1 s2
  have h1 : RegsCanonical s1 := h.setFlag
  have h2 : RegsCanonical s2 := .ite h1.wrF h1
  split
  · exact h2.complete
  · exact h2

protected theorem RegsCanonical.requestPower {r} (h : RegsCanonical s) : RegsCanonical (requestPower r s) := by
  unfold requestPower
  refine .ite h.startRequest ?_
  split
  · exact h.setPower
  · exact .ite h h.setPower.supersede

protected theorem RegsCanonical.finishEntry (h : RegsCanonical s) : RegsCanonical (finishEntry s) := by
  unfold finishEntry
  split
  · exact h.enterState.serveSlot
  · exact h

protected theorem RegsCanonical.bringUpHeadwater (h : RegsCanonical s) : RegsCanonical (bringUpHeadwater s) :=
  .foldl h fun _ _ h => .ite h.startTraining h

protected theorem RegsCanonical.bringUpSluice (h : RegsCanonical s) : RegsCanonical (bringUpSluice s) :=
  .foldl h fun _ _ h => .ite h.startTraining h

protected theorem RegsCanonical.resumeSilence (h : RegsCanonical s) : RegsCanonical (resumeSilence s) :=
  h.same.wrF.followActive

protected theorem RegsCanonical.remount (h : RegsCanonical s) : RegsCanonical (remount s) :=
  h.setStore.wrF

protected theorem RegsCanonical.restartUnit {u} (h : RegsCanonical s) : RegsCanonical (restartUnit s u) :=
  .ite (.ite h.beginEnable h.bringUpSluice) (.ite h.bringUpHeadwater.resumeSilence (.ite h.wrF.wrF h))

protected theorem RegsCanonical.abortEntry {e u} (h : RegsCanonical s) : RegsCanonical (abortEntry e u s) := by
  unfold abortEntry
  extract_lets _ s1 s2 s3 _ _ s4
  have h1 : RegsCanonical s1 := h.setPower
  have h2 : RegsCanonical s2 := .ite h1.remount h1
  have h3 : RegsCanonical s3 := .foldl h2 fun _ _ h => h.restartUnit
  have h4 : RegsCanonical s4 := h3.setFlag.bumpSat.bumpSat.postEvent.endRequest.endTransition
  exact h4.serveQueue.serveSlot

/-- The update inside `resume`, at any state: after a chain of calls the kernel would compare it with the whole chain. -/
protected theorem RegsCanonical.setBootPipe {b p} (h : RegsCanonical s) :
    RegsCanonical { s with boot := b, pipe := p } :=
  h.same

protected theorem RegsCanonical.resume (h : RegsCanonical s) : RegsCanonical (resume s) := by
  unfold resume
  extract_lets s1 _ _ s2
  have h1 : RegsCanonical s1 := h.wrF.wrF.bringUpHeadwater.resumeSilence
  have h2 : RegsCanonical s2 := h1.setBootPipe
  exact .ite h2.beginEnable h2.bringUpSluice.serveQueue

protected theorem RegsCanonical.finishExit {x} (h : RegsCanonical s) : RegsCanonical (finishExit x s) := by
  unfold finishExit
  extract_lets _ _ s1 s2 s3
  have h1 : RegsCanonical s1 := h.setPower
  have h2 : RegsCanonical s2 := .scrubPrivate (.ite h1 h1.resume)
  have h3 : RegsCanonical s3 := h2.postState.endRequest.endTransition
  split
  · exact h3.startRequest
  · exact h3.serveSlot

/-! ### S opcodes -/

protected theorem RegsCanonical.startPlay {p} (h : RegsCanonical s) : RegsCanonical (startPlay p s) :=
  h.setHold.postEvent

protected theorem RegsCanonical.noteLast (h : RegsCanonical s) : RegsCanonical (noteLast s) := by
  unfold noteLast
  split
  · exact .ite h h.setHold.postEvent
  · exact h

protected theorem RegsCanonical.dropBind {d} (h : RegsCanonical s) : RegsCanonical (dropBind d s) :=
  .ite h.dropLoad.freeTag h

protected theorem RegsCanonical.effectBind {d} (h : RegsCanonical s) : RegsCanonical (effectBind d s) :=
  h.dropLoad.freeTag.retag.bindKernel

protected theorem RegsCanonical.effectPlay {d} (h : RegsCanonical s) : RegsCanonical (effectPlay d s) :=
  h.wrF.startPlay.noteLast

protected theorem RegsCanonical.effectStop (h : RegsCanonical s) : RegsCanonical (effectStop s) :=
  h.setHold.wrF

protected theorem RegsCanonical.sEffect {d} (h : RegsCanonical s) : RegsCanonical (sEffect d s).2 := by
  unfold sEffect
  split
  · exact h.setTimeline
  · exact h.activateS
  · exact h.effectBind
  · exact h.effectPlay
  · exact h.effectStop
  · exact h.effectTimeLock
  · exact h.setPhaseOffset
  · exact h

protected theorem RegsCanonical.applyS {k d} (h : RegsCanonical s) : RegsCanonical (applyS k d s) := by
  unfold applyS
  split
  · exact h.dropBind.complete
  · exact h.sEffect.complete

protected theorem RegsCanonical.supersedeS {k d} (h : RegsCanonical s) : RegsCanonical (supersedeS k d s) :=
  .ite h.dropBind.complete h.dropBind.complete

protected theorem RegsCanonical.applyDue {k ds} (h : RegsCanonical s) : RegsCanonical (applyDue k ds s) := by
  induction ds generalizing s with
  | nil => exact h
  | cons d ds ih => exact ih (.ite h.supersedeS h.applyS)

protected theorem RegsCanonical.frameOpcodes {k} (h : RegsCanonical s) : RegsCanonical (frameOpcodes k s) :=
  .foldl h.applyDue fun _ _ h => h.setDsc

protected theorem RegsCanonical.takeRequest (h : RegsCanonical s) : RegsCanonical (takeRequest s) := by
  unfold takeRequest
  extract_lets _ s1
  have h1 : RegsCanonical s1 := h.setRaster
  split
  · exact .ite h1.setTimeline h1.wrF.setFlag
  · exact h

protected theorem RegsCanonical.idleOpcodes (h : RegsCanonical s) : RegsCanonical (idleOpcodes s) :=
  .ite h (.foldl h.takeRequest fun _ _ h => .ite h.applyS h)

protected theorem RegsCanonical.reachUnit {d} (h : RegsCanonical s) : RegsCanonical (reachUnit d s) :=
  h.nextOrder.setDsc.idleTrigger.idleOpcodes

protected theorem NextCanonical.execSetTimeline {port sq seq} : NextCanonical s (execSetTimeline port sq seq s) :=
  .withReady fun _ _ h => h.reachUnit

protected theorem NextCanonical.execTableActivateS {port sq seq} :
    NextCanonical s (execTableActivateS port sq seq s) :=
  .withReady fun _ _ h => h.reachUnit

protected theorem NextCanonical.execHoldPlay {port sq seq} : NextCanonical s (execHoldPlay port sq seq s) :=
  .withReady fun _ _ h => .ite h.reachUnit h.complete

protected theorem NextCanonical.execHoldStop {port sq seq} : NextCanonical s (execHoldStop port sq seq s) :=
  .withReady fun _ _ h => h.reachUnit

protected theorem NextCanonical.execTimeLock {port sq seq} : NextCanonical s (execTimeLock port sq seq s) :=
  .withReady fun _ _ h => h.reachUnit

protected theorem NextCanonical.execTimePhase {port sq seq} : NextCanonical s (execTimePhase port sq seq s) :=
  .withReady fun _ _ h => h.reachUnit

protected theorem NextCanonical.execKernelBind {port sq seq param} :
    NextCanonical s (execKernelBind port sq seq param s) := by
  refine .withReady fun d s h => ?_
  extract_lets n
  refine .ite h.reachUnit ?_
  rcases param with _ | bs
  · exact h.complete
  · rcases ht : Machine.allocTwice (bindTag s.host.nextOrder) n s with _ | u
    · exact h.refuseWith
    · exact (h.allocTwice ht).setTables.monitorAdd.reachUnit

/-! ### The start of a scan frame -/

protected theorem RegsCanonical.tellBad {region outcome line} (h : RegsCanonical s) :
    RegsCanonical (tellBad region outcome line s) :=
  h.setFlag.bumpSat.postEvent

protected theorem RegsCanonical.loseTag {tag} (h : RegsCanonical s) : RegsCanonical (loseTag s tag) := by
  unfold loseTag
  dsimp only
  refine .ite h.loseTable.followDefects.recordMissing ?_
  refine .ite h.dropStaged ?_
  exact .ite (.foldl h fun _ _ h => .ite h h.bindReference.postEvent)
    (.foldl h fun _ _ h => .ite h h.bindReference.postEvent)

protected theorem RegsCanonical.loseTables (h : RegsCanonical s) : RegsCanonical (loseTables s) :=
  .foldl (.same (.foldl h fun _ _ h => h.tellBad)) fun _ _ h => h.loseTag

protected theorem RegsCanonical.readBad {b} (h : RegsCanonical s) : RegsCanonical (readBad s b) := by
  unfold readBad
  extract_lets _ _ _ s1
  have h1 : RegsCanonical s1 := h.tellBad
  split
  · exact .ite h.tellBad h
  · exact h.tellBad.same
  · split
    · exact .ite h.tellBad h
    · exact h
  · split
    · exact .ite h.tellBad h
    · exact h
  · split
    · dsimp only
      refine .ite ?_ h
      refine .ite ?_ h.tellBad
      split
      · exact h.tellBad.nvRead
      · exact h.tellBad
    · exact h
  · exact .ite h.tellBad.same h.same

protected theorem RegsCanonical.readBadLines (h : RegsCanonical s) : RegsCanonical (readBadLines s) :=
  .foldl h fun _ _ h => h.readBad

protected theorem RegsCanonical.flushTags (h : RegsCanonical s) : RegsCanonical (flushTags s) :=
  .foldl h.setPipe fun _ _ h => h.writeTag

protected theorem RegsCanonical.runGovernor (h : RegsCanonical s) : RegsCanonical (runGovernor s) :=
  .ite h (.foldl h fun _ _ h => .ite h.setPipe h.setPipe.wantOp)

protected theorem RegsCanonical.endScanFrame (h : RegsCanonical s) : RegsCanonical (endScanFrame s) := by
  unfold endScanFrame
  extract_lets _ s1 s2 s3 s4
  have h1 : RegsCanonical s1 := h.tellFallen.flushTags
  have h2 : RegsCanonical s2 := .ite h1.idleDrives h1.computeDrives
  have h3 : RegsCanonical s3 := .ite h2.leaveLocked h2
  have h4 : RegsCanonical s4 := h3.wrF.wrF
  exact h4.runGovernor

protected theorem RegsCanonical.makeCrash (h : RegsCanonical s) : RegsCanonical (makeCrash s) := by
  unfold makeCrash
  split
  · exact h.setRaster
  · exact h.setRaster.setFlag.postEvent

protected theorem RegsCanonical.frameMode (h : RegsCanonical s) : RegsCanonical (frameMode s) := by
  unfold frameMode
  extract_lets _ _ s1 _ s2 s3
  have h1 : RegsCanonical s1 := h.setRaster
  have h2 : RegsCanonical s2 := by
    unfold s2
    split
    · exact h1.setRaster.changeMode
    · exact h1
  have h3 : RegsCanonical s3 := h2.takeRequest
  exact .ite h3.setRaster.changeMode h3.setRaster

protected theorem RegsCanonical.framePlay {fresh} (h : RegsCanonical s) : RegsCanonical (framePlay fresh s) := by
  unfold framePlay
  extract_lets _ _ _ _ s1 _ s2
  have h1 : RegsCanonical s1 := h.setHold
  have h2 : RegsCanonical s2 := h.setHold
  refine .ite (.ite h1.wrF.startPlay.noteLast h1) ?_
  refine .ite h2.same.wrF.postEvent ?_
  split
  · exact .ite h h.setHold.noteLast
  · exact h

protected theorem RegsCanonical.writeHistory {flags cfn} (h : RegsCanonical s) :
    RegsCanonical (writeHistory flags cfn s) :=
  .foldl h.setLock fun _ _ h => h.wr

protected theorem RegsCanonical.frameOd {x cell} (h : RegsCanonical s) : RegsCanonical (frameOd x s cell) :=
  .ite h.wr.setPipe.setFlag.postEvent h.wr.setPipe

protected theorem RegsCanonical.frameLight (h : RegsCanonical s) : RegsCanonical (frameLight s) :=
  .tick (.setRaster (.wr (.setRaster (.foldl h.wrF.wrF fun _ _ h => h.frameOd))))

protected theorem RegsCanonical.replaceKernels (h : RegsCanonical s) : RegsCanonical (replaceKernels s) :=
  .foldl h.setTables fun _ _ h => h.bindReference

protected theorem RegsCanonical.moveRoles (h : RegsCanonical s) : RegsCanonical (moveRoles s) := by
  unfold moveRoles
  extract_lets _ _ _ _ _ s1
  have h1 : RegsCanonical s1 := .loadRoles (.foldl h fun _ _ h => .ite h.dropJob h.discardJob)
  exact .ite h1.same.followWindow h

protected theorem RegsCanonical.resumeJobs (h : RegsCanonical s) : RegsCanonical (resumeJobs s) :=
  .foldl h fun _ _ h => h.advanceJob

protected theorem RegsCanonical.frameJobs (h : RegsCanonical s) : RegsCanonical (frameJobs s) := by
  unfold frameJobs
  extract_lets _ s1 _ s2 _ s3
  have h1 : RegsCanonical s1 := .foldl h fun _ _ h => h.dropJob
  have h2 : RegsCanonical s2 := h1.setPipe
  have h3 : RegsCanonical s3 := .resumeJobs (.foldl h2 fun _ _ h => h.discardJob)
  exact .foldl h3.setPipe fun _ _ h => h.fallTile

protected theorem RegsCanonical.framePipe {wasIdle} (h : RegsCanonical s) : RegsCanonical (framePipe wasIdle s) :=
  h.same.setPipe.takeIdleHistory.wrF

protected theorem RegsCanonical.frameSelect {old} (h : RegsCanonical s) : RegsCanonical (frameSelect old s) :=
  h.setRaster.writeHistory.setPower

protected theorem RegsCanonical.startScanFrame (h : RegsCanonical s) : RegsCanonical (startScanFrame s) := by
  unfold startScanFrame
  extract_lets _ _ s1 _ s2 s3 s4 _ s5 s6 s7 s8
  have h1 : RegsCanonical s1 := h.same.countEvent
  have h2 : RegsCanonical s2 := h1.setRaster
  have h3 : RegsCanonical s3 := .ite h2.finishEntry h2
  have h4 : RegsCanonical s4 := h3.loseTables.framePipe.replaceKernels.moveRoles
  have h5 : RegsCanonical s5 := h4.frameOpcodes.makeCrash
  have h6 : RegsCanonical s6 := h5.frameMode.framePlay.frameSelect.readBadLines.frameLight
  have h7 : RegsCanonical s7 := .ite h6.setFlag h6
  have h8 : RegsCanonical s8 := h7.frameJobs
  exact h8.setRaster

protected theorem RegsCanonical.startBlack (h : RegsCanonical s) : RegsCanonical (startBlack s) := by
  unfold startBlack
  extract_lets s1 s2 _ _ s3
  have h1 : RegsCanonical s1 := h.same.countEvent
  have h2 : RegsCanonical s2 := .framePipe (.foldl h1 fun _ _ h => h.dropJob)
  have h3 : RegsCanonical s3 := h2.setRaster.setPower
  exact h3.writeHistory.frameLight.idleOpcodes

protected theorem NextCanonical.execScanFrameStart : NextCanonical s (execScanFrameStart s) := by
  unfold execScanFrameStart
  split
  · exact .ite (.next id) (.next fun h => h.setRaster.startScanFrame.endSequence)
  · exact .ite (.next fun h => h.endScanFrame.startScanFrame) (.next id)
  · exact .ite (.next fun h => h.endScanFrame.startBlack) (.next id)
  · exact .ite (.next fun h => h.endScanFrame.endBlack.idleOpcodes) (.next id)
  · exact .next id

/-! ### Power requests, wakes and rails -/

protected theorem NextCanonical.execPowerReq {port sq seq} : NextCanonical s (execPowerReq port sq seq s) :=
  .withReady fun _ _ h => .requestPower (.ite (.ite h.setRunning.idleTrigger h.setRunning.setPower) h.setRunning)

protected theorem NextCanonical.execBmcPowerReq {target} : NextCanonical s (execBmcPowerReq target s) :=
  .ite (.next fun h => h.requestPower) (.next id)

protected theorem NextCanonical.execIdlePolicy : NextCanonical s (execIdlePolicy s) :=
  .ite (.next fun h => h.setPower.requestPower) (.next id)

protected theorem NextCanonical.execSleepPolicy : NextCanonical s (execSleepPolicy s) :=
  .ite (.next fun h => h.requestPower) (.next id)

protected theorem RegsCanonical.settleEntry (h : RegsCanonical s) : RegsCanonical (settleEntry s) := by
  unfold settleEntry
  split
  · exact .ite h.finishEntry h
  · exact h

protected theorem RegsCanonical.answerEntry {e u} (h : RegsCanonical s) : RegsCanonical (answerEntry e u s) :=
  .ite h.abortEntry (.ite h h.setPower.quiesce.askNext.settleEntry)

protected theorem NextCanonical.execUnitAgree : NextCanonical s (execUnitAgree s) := by
  unfold execUnitAgree
  split
  · split
    · exact .next fun h => h.answerEntry
    · exact .next fun h => h.settleEntry
  · exact .next id

protected theorem NextCanonical.execStpShutdownTimeout : NextCanonical s (execStpShutdownTimeout s) := by
  unfold execStpShutdownTimeout
  split
  · exact .ite (.next fun h => h.abortEntry) (.next id)
  · exact .next id

protected theorem RegsCanonical.startFromOff (h : RegsCanonical s) : RegsCanonical (startFromOff s) :=
  h.recordWake.powerStart

protected theorem NextCanonical.execWakeN : NextCanonical s (execWakeN s) :=
  .ite (.next fun h => h.startFromOff) (.next fun h => h.wakeUp)

protected theorem NextCanonical.execWakeFromOff : NextCanonical s (execWakeFromOff s) :=
  .ite (.next fun h => h.startFromOff) (.next id)

protected theorem NextCanonical.execWakeSense : NextCanonical s (execWakeSense s) :=
  .ite (.next fun h => h.wakeUp) (.next id)

protected theorem NextCanonical.execHostLinkWake {port} : NextCanonical s (execHostLinkWake port s) :=
  .ite (.next fun h => h.wakeUp) (.next id)

protected theorem NextCanonical.execPowerExitDone : NextCanonical s (execPowerExitDone s) := by
  unfold execPowerExitDone
  split
  · exact .ite (.next id) (.ite (.next fun h => h.ownerReset) (.next fun h => h.finishExit))
  · exact .next id

protected theorem RegsCanonical.followQuad {q} (h : RegsCanonical s) : RegsCanonical (followQuad q s) :=
  .ite h h.wantOp

protected theorem NextCanonical.execOpLimit {port sq seq} : NextCanonical s (execOpLimit port sq seq s) :=
  .withReady fun _ _ h => .ite h.refuseWith (.completeI (.ite h.wrF.wrF.followCompOp h.wrF.wrF.followQuad))

protected theorem RegsCanonical.switchOp {c} (h : RegsCanonical s) : RegsCanonical (switchOp c s) := by
  unfold switchOp
  extract_lets _ _ s1 _ s2 s3
  have h1 : RegsCanonical s1 := .ite h.emit h
  have h2 : RegsCanonical s2 := h1.setPower.setOp
  have h3 : RegsCanonical s3 := .ite h2.postEvent h2
  exact h3.commandRail.serveOps

protected theorem NextCanonical.execOpSwitch : NextCanonical s (execOpSwitch s) := by
  unfold execOpSwitch
  split
  · exact .ite (.next id) (.next fun h => h.switchOp)
  · exact .next id

protected theorem NextCanonical.execOpPllTimeout : NextCanonical s (execOpPllTimeout s) := by
  unfold execOpPllTimeout
  extract_lets _ s1
  have h1 : RegsCanonical s → RegsCanonical s1 := fun h => h.setPower.setFlag
  split
  · extract_lets s2
    have h2 : RegsCanonical s → RegsCanonical s2 := fun h => .ite (h1 h).fenceQuadrant (h1 h)
    exact .next fun h => (h2 h).serveOps
  · exact .next id

protected theorem NextCanonical.execVoltageFail {vout} : NextCanonical s (execVoltageFail vout s) := by
  unfold execVoltageFail
  split
  · exact .ite (.next fun h => h.setPower.setFlag.postEvent.serveOps) (.next id)
  · exact .next id

protected theorem NextCanonical.execRailTelemetry {readings} : NextCanonical s (execRailTelemetry readings s) := by
  unfold execRailTelemetry
  refine .ite (.next id) ?_
  exact .next fun h => .foldl h fun _ _ h => by
    extract_lets s1
    have h1 : RegsCanonical s1 := h.emit.emit
    split
    · exact h1.wrF.wrF
    · exact h1

protected theorem NextCanonical.execReadTemperaturePoll {temps} :
    NextCanonical s (execReadTemperaturePoll temps s) := by
  unfold execReadTemperaturePoll
  extract_lets _ s1 _ _ s2
  have h1 : RegsCanonical s → RegsCanonical s1 := fun h => .foldl h fun _ _ h => h.emit
  have h2 : RegsCanonical s → RegsCanonical s2 := fun h => (h1 h).setPower
  exact .ite (.next id) (.next fun h => (h2 h).same)

protected theorem RegsCanonical.loseRails {ph} (h : RegsCanonical s) : RegsCanonical (loseRails ph s) := by
  unfold loseRails
  exact h.railsOff.restart.same

protected theorem RegsCanonical.railFault {rail word} (h : RegsCanonical s) : RegsCanonical (railFault rail word s) :=
  .ite h.setPower.fatalRecord.loseRails.wrF h.setPower.fatalRecord.loseRails

protected theorem NextCanonical.execPmbusAlert {words} : NextCanonical s (execPmbusAlert words s) := by
  unfold execPmbusAlert
  extract_lets s1 _ s2 s3
  have h1 : RegsCanonical s → RegsCanonical s1 := fun h => .foldl h fun _ _ h => h.emit
  have h2 : RegsCanonical s → RegsCanonical s2 := fun h => .foldl (h1 h) fun _ _ h => h.setFlag.postEvent
  have h3 : RegsCanonical s → RegsCanonical s3 := fun h => .foldl (h2 h) fun _ _ h => h.pmbus
  split
  · exact .next fun h => (h3 h).railFault
  · exact .next h3

protected theorem NextCanonical.execThermalTrip : NextCanonical s (execThermalTrip s) := by
  unfold execThermalTrip
  extract_lets s1
  have h1 : RegsCanonical s → RegsCanonical s1 := fun h => h.fatalRecord.setReason.loseRails
  exact .ite (.next id) (.next fun h => (h1 h).same)

protected theorem NextCanonical.execPllLockLoss {unit} : NextCanonical s (execPllLockLoss unit s) :=
  .ite (.next fun h => h.fatalReset) (.next id)

protected theorem NextCanonical.execMgmtMemoryError {unit} : NextCanonical s (execMgmtMemoryError unit s) :=
  .ite (.next fun h => h.fatalReset) (.next id)

protected theorem NextCanonical.execRsvInterfaceFailure : NextCanonical s (execRsvInterfaceFailure s) :=
  .ite (.next fun h => h.fatalReset) (.next id)

protected theorem NextCanonical.execWatchdogExpiry : NextCanonical s (execWatchdogExpiry s) :=
  .ite (.next fun h => h.fatalReset) (.next id)

protected theorem RegsCanonical.capChange (h : RegsCanonical s) : RegsCanonical (capChange s) := by
  unfold capChange
  split
  · exact .ite h.setPower h
  · exact h

protected theorem RegsCanonical.setCap {on hot} (h : RegsCanonical s) : RegsCanonical (setCap on hot s) := by
  unfold setCap
  extract_lets s1 s2 s3
  have h1 : RegsCanonical s1 := h.wrF
  have h2 : RegsCanonical s2 := .ite h1.setFlag.capChange h1
  have h3 : RegsCanonical s3 := h2.postEvent
  exact .serveOps (.foldl h3 fun _ _ h => .ite (.ite h.wantOp h) h.followQuad)

protected theorem RegsCanonical.judgeHeat {hot} (h : RegsCanonical s) : RegsCanonical (judgeHeat hot s) := by
  unfold judgeHeat
  dsimp only
  split
  · exact .ite h.setCap h
  · exact .ite h.setCap (.ite h.setCap h)

protected theorem NextCanonical.execSensorRefresh {values} : NextCanonical s (execSensorRefresh values s) := by
  unfold execSensorRefresh
  extract_lets s1
  have h1 : RegsCanonical s → RegsCanonical s1 := fun h => by
    unfold s1
    exact .foldl h fun _ _ h => by
      split
      · exact h.wrF.wrF
      · exact h.wrF
  refine .ite (.next id) ?_
  split
  · exact .next fun h => (h1 h).wrF
  · dsimp only
    exact .next fun h => .judgeHeat (.wrF (.foldl h fun _ _ h => by
      split
      · exact h.wrF.wrF
      · exact h.wrF))

/-! ### The store -/

protected theorem NextCanonical.execStoreRead {port sq seq} : NextCanonical s (execStoreRead port sq seq s) :=
  .withReady fun _ _ h => .ite h.complete (.ite h.badWith h.setRunning.nvRead)

protected theorem NextCanonical.execStoreWrite {port sq seq data} :
    NextCanonical s (execStoreWrite port sq seq data s) := by
  unfold execStoreWrite
  exact .withReady fun _ _ h => by
    refine .ite h.complete ?_
    refine .ite h.badWith ?_
    refine .ite h.refuseWith ?_
    split
    · exact h.complete
    · exact .ite h h.setRunning.monitorAdd.nvWrite

protected theorem NextCanonical.execStoreInfo {port sq seq} : NextCanonical s (execStoreInfo port sq seq s) :=
  .withReady fun _ _ h => .ite h.complete h.completeI

protected theorem RegsCanonical.writeDir {c} (h : RegsCanonical s) : RegsCanonical (writeDir c s) :=
  h.setStore.nvWrite

protected theorem RegsCanonical.beginCreate {d} (h : RegsCanonical s) : RegsCanonical (beginCreate d s) := by
  unfold beginCreate
  dsimp only
  split
  · exact h.tick.writeDir
  · exact h.refuseWith

protected theorem RegsCanonical.beginDelete {d} (h : RegsCanonical s) : RegsCanonical (beginDelete d s) :=
  .ite h.refuseWith (.ite h.complete h.setStore.sendNvme)

protected theorem RegsCanonical.beginChange {d} (h : RegsCanonical s) : RegsCanonical (beginChange d s) :=
  .ite h.beginCreate h.beginDelete

protected theorem RegsCanonical.serveChanges {ws} (h : RegsCanonical s) : RegsCanonical (serveChanges ws s) := by
  induction ws generalizing s with
  | nil => exact h.setStore
  | cons w rest ih =>
    refine .ite h.setStore ?_
    split
    · exact ih h.beginChange
    · exact ih h

protected theorem RegsCanonical.askChange {d} (h : RegsCanonical s) : RegsCanonical (askChange d s) :=
  h.setRunning.serveChanges

protected theorem NextCanonical.execStoreCreate {port sq seq} : NextCanonical s (execStoreCreate port sq seq s) :=
  .withReady fun _ _ h => .ite h.complete (.ite h.badWith h.askChange)

protected theorem NextCanonical.execStoreDelete {port sq seq} : NextCanonical s (execStoreDelete port sq seq s) :=
  .withReady fun _ _ h => .ite h.complete h.askChange

protected theorem RegsCanonical.writeSuper {c} (h : RegsCanonical s) : RegsCanonical (writeSuper c s) :=
  h.nvWrite

protected theorem RegsCanonical.endChange {c} (h : RegsCanonical s) : RegsCanonical (endChange c s) := by
  unfold endChange
  extract_lets _ _ s1 s2
  have h1 : RegsCanonical s1 := h.setStore.followStore
  have h2 : RegsCanonical s2 := .ite h1 h1.setHost
  exact h2.endDsc.serveChanges

protected theorem RegsCanonical.askLog {d done total} (h : RegsCanonical s) : RegsCanonical (askLog d done total s) :=
  h.nvRead

protected theorem NextCanonical.execDiagLogRead {port sq seq} : NextCanonical s (execDiagLogRead port sq seq s) :=
  .withReady fun _ _ h => .ite h.complete (.ite h.completeI h.setDsc.askLog)

protected theorem RegsCanonical.logEntriesRead {w done total bs} (h : RegsCanonical s) :
    RegsCanonical (logEntriesRead w done total bs s) := by
  unfold logEntriesRead
  split
  · exact h
  · exact .ite h.emit.monitorAdd.askLog h.emit.monitorAdd.completeI

protected theorem NextCanonical.execEventLogFlush : NextCanonical s (execEventLogFlush s) :=
  .ite (.next fun h => h.writeLog) (.next id)

protected theorem NextCanonical.execSmartPoll : NextCanonical s (execSmartPoll s) :=
  .ite (.next fun h => h.sendNvme) (.next id)

protected theorem RegsCanonical.smartRead {bs} (h : RegsCanonical s) : RegsCanonical (smartRead bs s) :=
  h.setStore.wrF

protected theorem RegsCanonical.loadFails {e img} (h : RegsCanonical s) : RegsCanonical (loadFails e img s) :=
  .bootFailure (.foldl h fun _ _ h => h.bindReference)

protected theorem RegsCanonical.loadsEnd (h : RegsCanonical s) : RegsCanonical (loadsEnd s) :=
  h.same rfl

protected theorem RegsCanonical.nextLoad {es} (h : RegsCanonical s) : RegsCanonical (nextLoad es s) := by
  induction es generalizing s with
  | nil => exact RegsCanonical.recordMissing (.loadsEnd (.setStore h.same))
  | cons e rest ih => exact .ite h.setStore.nvRead (ih h.loadFails)

protected theorem RegsCanonical.nextDemura {es} (h : RegsCanonical s) : RegsCanonical (nextDemura es s) := by
  induction es generalizing s with
  | nil => exact h.setStore.recordMissing
  | cons e rest ih => exact .ite h.setStore.nvRead (ih h.loadFails.recordMissing)

protected theorem RegsCanonical.beginLoads (h : RegsCanonical s) : RegsCanonical (beginLoads s) :=
  .ite h.nvRead h.loadsEnd

protected theorem RegsCanonical.manifestRead {bs} (h : RegsCanonical s) : RegsCanonical (manifestRead bs s) := by
  unfold manifestRead
  split
  · exact h.nextLoad
  · exact h.loadsEnd

protected theorem RegsCanonical.noteVerify {img ty room} (h : RegsCanonical s) :
    RegsCanonical (noteVerify img ty room s) := by
  unfold noteVerify
  split
  · exact h
  · exact h.setFlag

protected theorem RegsCanonical.takeImage {e img} (h : RegsCanonical s) : RegsCanonical (takeImage e img s) := by
  unfold takeImage
  dsimp only
  refine .ite ?_ (.ite ?_ h.loadFails)
  · split
    · next ht => exact .foldl (h.noteVerify.loadTables ht) fun _ _ h => h.activateS
    · exact h.noteVerify.loadFails
  · split
    · next ht => exact .ite (h.noteVerify.loadKernel ht).bindKernel (h.noteVerify.loadKernel ht).loadFails
    · exact h.noteVerify.loadFails

protected theorem RegsCanonical.bootImageRead {i img} (h : RegsCanonical s) :
    RegsCanonical (bootImageRead i img s) := by
  unfold bootImageRead
  refine .ite ?_ ?_
  · split
    · exact h
    · exact .ite h.setStore.nextLoad h.takeImage.nextLoad
  · split
    · exact h
    · exact h.takeImage.setStore.recordMissing.nextDemura

protected theorem RegsCanonical.bootImageFails {i} (h : RegsCanonical s) : RegsCanonical (bootImageFails i s) := by
  unfold bootImageFails
  refine .ite ?_ ?_
  · split
    · exact h
    · exact h.loadFails.nextLoad
  · split
    · exact h
    · exact h.loadFails.setStore.recordMissing.nextDemura

protected theorem NextCanonical.execStoreLinkUp {speed width} : NextCanonical s (execStoreLinkUp speed width s) :=
  .ite (.next fun h => h.wrF.wrF.wrF) (.next id)

protected theorem RegsCanonical.mountFails {reason} (h : RegsCanonical s) : RegsCanonical (mountFails reason s) :=
  .ite h.setStore.wrF.askUnit.loadsEnd h.setStore.wrF.askUnit

protected theorem NextCanonical.execStoreAbsentTimeout : NextCanonical s (execStoreAbsentTimeout s) := by
  unfold execStoreAbsentTimeout
  extract_lets s1
  have h1 : RegsCanonical s → RegsCanonical s1 := fun h => .ite h h.bootFailure
  exact .ite (.next id) (.next fun h => (h1 h).mountFails)

protected theorem NextCanonical.execStoreMountRetry : NextCanonical s (execStoreMountRetry s) :=
  .ite (.next fun h => h.setStore) (.next id)

protected theorem NextCanonical.execStoreControllerReady {formatOk nsze} :
    NextCanonical s (execStoreControllerReady formatOk nsze s) := by
  unfold execStoreControllerReady
  extract_lets _ s1
  have h1 : RegsCanonical s → RegsCanonical s1 := fun h =>
    h.setStore.sendAdmin.sendAdmin.sendAdmin.sendAdmin.sendAdmin.sendAdmin.sendAdmin.sendAdmin.sendAdmin.sendAdmin.sendNvme
  exact .ite (.next id) (.ite (.next fun h => (h1 h).nvRead) (.next fun h => (h1 h).mountFails))

protected theorem RegsCanonical.mounted {formatted next} (h : RegsCanonical s) :
    RegsCanonical (mounted formatted next s) := by
  unfold mounted
  extract_lets _ _ s1 s2 s3
  have h1 : RegsCanonical s1 := h.setStore.followStore.wrF.wrF.askUnit
  have h2 : RegsCanonical s2 := h1.postEvent
  have h3 : RegsCanonical s3 := .ite h2 h2.writeLog
  exact .ite h3.beginLoads h3

protected theorem RegsCanonical.useSuper {meta_ b which} (h : RegsCanonical s) :
    RegsCanonical (useSuper meta_ b which s) :=
  h.setStore.mounted

protected theorem RegsCanonical.beginFormat (h : RegsCanonical s) : RegsCanonical (beginFormat s) :=
  h.tick.setStore.nvWrite

protected theorem RegsCanonical.formatStep {step} (h : RegsCanonical s) : RegsCanonical (formatStep step s) := by
  unfold formatStep
  split
  · exact h.nvWrite
  · exact h.nvWrite
  · exact h.nvFlush
  · exact h.nvWrite
  · exact h.nvFlush
  · exact h.mounted

protected theorem RegsCanonical.metadataRead {m} (h : RegsCanonical s) : RegsCanonical (metadataRead m s) :=
  .ite h.beginFormat (.ite h.mountFails (.ite h.useSuper (.ite h.useSuper h.mountFails)))

protected theorem RegsCanonical.endLoad {d img} (h : RegsCanonical s) : RegsCanonical (endLoad d img s) := by
  unfold endLoad
  extract_lets n s1 r s2
  have h1 : RegsCanonical s1 := h.dropLoad.noteVerify
  have h2 : RegsCanonical s2 := by
    unfold s2
    rcases hr : r with ⟨res, u⟩ | ⟨st, res⟩
    · rcases ite_eq_iff.1 hr with ⟨-, ht⟩ | ⟨-, ht⟩
      · exact (h1.loadTables ht).completeI
      · exact (h1.loadKernel ht).completeI
    · exact h1.complete
  exact h2.recordMissing.idleOpcodes

protected theorem NextCanonical.execImageLoadDone {port sq seq data} :
    NextCanonical s (execImageLoadDone port sq seq data s) := by
  unfold execImageLoadDone
  split
  · refine .ite (.next id) ?_
    refine .ite ?_ ?_
    · split
      · exact .next fun h => h.endLoad
      · exact .next id
    · split
      · exact .next fun h => h.dropLoad.complete.recordMissing.idleOpcodes
      · exact .ite (.next fun h => h.monitorAdd.endLoad) (.next id)
  · exact .next id

/-! ### The Reservoir scrubber -/

protected theorem RegsCanonical.nextScrub (h : RegsCanonical s) : RegsCanonical (nextScrub s) :=
  .ite h.same h.same.bumpWrap

protected theorem RegsCanonical.zeroDemura {tag rel} (h : RegsCanonical s) : RegsCanonical (zeroDemura tag rel s) :=
  .ite h (.ite h.setTables h.setTables)

protected theorem RegsCanonical.spoilLayer {n rel} (h : RegsCanonical s) : RegsCanonical (spoilLayer n rel s) := by
  unfold spoilLayer
  dsimp only
  split
  · exact h.setLayer
  · exact h

protected theorem RegsCanonical.spoilHistory {slot rel} (h : RegsCanonical s) :
    RegsCanonical (spoilHistory slot rel s) :=
  .ite h (.ite h.setPipe h.setPipe)

protected theorem RegsCanonical.spoil {region line} (h : RegsCanonical s) : RegsCanonical (spoil region line s) := by
  unfold spoil
  dsimp only
  split
  · exact .ite (.ite h h.same) h
  · exact .ite (.ite h.spoilHistory h.spoilHistory.same) h
  · split
    · exact h
    · split
      · exact .ite h.zeroDemura h.zeroDemura.same
      · exact .ite (.ite h.spoilLayer h) (.same (.ite h.spoilLayer h))
      · exact .ite h h.same
  · exact h

protected theorem RegsCanonical.corrected {n} (h : RegsCanonical s) : RegsCanonical (corrected n s) :=
  .foldl h fun _ _ h => h.setFlag.bumpSat.countEvent

protected theorem NextCanonical.execRsvScrubRead {region line result} :
    NextCanonical s (execRsvScrubRead region line result s) := by
  unfold execRsvScrubRead
  extract_lets s1
  have h1 : RegsCanonical s → RegsCanonical s1 := fun h => h.nextScrub
  refine .ite (.next id) ?_
  exact .ite (.next fun h => (h1 h).corrected) (.ite (.next fun h => (h1 h).spoil.tellBad) (.next h1))

protected theorem NextCanonical.execRsvAllocWrite {port reg val} :
    NextCanonical s (execRsvAllocWrite port reg val s) := by
  unfold execRsvAllocWrite
  extract_lets _ s1
  have h1 : RegsCanonical s → RegsCanonical s1 := fun h => h.writeRwl
  exact .ite (.next id) (.ite (.next fun h => h.setFlag) (.next h1))

/-! ### Composition line starts -/

protected theorem RegsCanonical.foundBad {lines} (h : RegsCanonical s) : RegsCanonical (foundBad lines s) :=
  .foldl (.foldl h fun _ _ h => h.spoil) fun _ _ h => h.readBad

protected theorem NextCanonical.execCompositionLineStart {reads} :
    NextCanonical s (execCompositionLineStart reads s) := by
  unfold execCompositionLineStart
  extract_lets s1
  have h1 : RegsCanonical s → RegsCanonical s1 := fun h => h.corrected.foundBad
  split
  · exact .next id
  · exact .next id
  · extract_lets _ s2 s3 _ s4
    have h2 : RegsCanonical s → RegsCanonical s2 := fun h => .ite (h1 h).runLine.noteRow (h1 h)
    have h3 : RegsCanonical s → RegsCanonical s3 := fun h => .ite (h2 h).frameWhole (h2 h)
    have h4 : RegsCanonical s → RegsCanonical s4 := fun h => (h3 h).same
    exact .next fun h => (h4 h).measure.followResume

/-! ### The Sluice link -/

protected theorem RegsCanonical.issueTags {lane line} (h : RegsCanonical s) : RegsCanonical (issueTags lane line s) :=
  .foldl h.setPipe fun _ _ h => h.writeTag.tick

protected theorem RegsCanonical.issueAhead {lane line} (h : RegsCanonical s) :
    RegsCanonical (issueAhead lane line s) :=
  h.setPipe.tick

protected theorem RegsCanonical.tellHeld {lane i} (h : RegsCanonical s) : RegsCanonical (tellHeld lane i s) := by
  unfold tellHeld
  extract_lets _ s1
  have h1 : RegsCanonical s1 := h.setLane
  split
  · extract_lets _ s2
    have h2 : RegsCanonical s2 := .foldl h1 fun _ _ h => h.setFlag
    exact .ite h2 h2.setFlag.bumpSat.countEvent.postEvent
  · exact h

protected theorem NextCanonical.execSlkLinePacket {lane line at_ next repair} :
    NextCanonical s (execSlkLinePacket lane line at_ next repair s) := by
  unfold execSlkLinePacket
  refine .ite (.next id) ?_
  extract_lets +onlyGivenNames cell n
  split
  · exact .next id
  · extract_lets _ _ _ _ _ s1 _ s2 s3
    have h2 : RegsCanonical s → RegsCanonical s2 := fun h =>
      h.emit.emit.emit.sendBlocks.countEvent.monitorAdd.setStat.setLane
    have h3 : RegsCanonical s → RegsCanonical s3 := fun h => .ite (h2 h).setFlag.countEvent (h2 h)
    exact .next fun h => .tellHeld (.ite (h3 h).issueAhead (h3 h).issueTags)

protected theorem RegsCanonical.cfgData {lane addr data} (h : RegsCanonical s) :
    RegsCanonical (cfgData s lane addr data).2 := by
  unfold cfgData
  dsimp only
  split
  · exact h
  · split
    · exact h
    · split
      · exact h.freeBelow
      · exact h

protected theorem NextCanonical.execCfgWrite {w} : NextCanonical s (execCfgWrite w s) := by
  unfold execCfgWrite
  dsimp only
  split
  · exact .next id
  · refine .ite (.next id) (.ite (.next fun h => ?_) (.next fun h => ?_))
    · exact (h.cfgData.setLane.emit.sendBlocks).same.resultEnd
    · exact (h.cfgData.setLane.emit.sendBlocks).same.followDcfg

protected theorem NextCanonical.execSlkDcfgGo {port val} : NextCanonical s (execSlkDcfgGo port val s) := by
  unfold execSlkDcfgGo
  extract_lets _ _ _ _ s1 _ s2
  have h1 : RegsCanonical s → RegsCanonical s1 := fun h => h.resultBegin
  have h2 : RegsCanonical s → RegsCanonical s2 := fun h => .foldl (h1 h) fun _ _ h => h.setLane
  refine .ite (.next id) ?_
  refine .ite (.next fun h => h.setFlag) ?_
  exact .ite (.next fun h => (h1 h).resultEnd) (.ite (.next fun h => (h1 h).askDriver) (.next fun h => (h2 h).same))

protected theorem RegsCanonical.deemphStep {lane fom} (h : RegsCanonical s) :
    RegsCanonical (deemphStep lane fom s) := by
  unfold deemphStep
  dsimp only
  split
  · exact .ite h.setLane.wrF h.setLane.wrF
  · exact .ite h.setLane (.ite h.setLane.wrF h.setLane.wrF)

protected theorem RegsCanonical.sweepReport {lane fom} (h : RegsCanonical s) :
    RegsCanonical (sweepReport lane fom s) :=
  .ite (.trainSignal (.ite h.setLane.wrF h.setLane.wrF)) (.ite h.becomeActive h)

protected theorem RegsCanonical.setBcOk {lane ok} (h : RegsCanonical s) : RegsCanonical (setBcOk lane ok s) :=
  h.wrF

protected theorem RegsCanonical.rollReport {lane status fom} (h : RegsCanonical s) :
    RegsCanonical (rollReport lane status fom s) := by
  unfold rollReport
  extract_lets _ _ s1 s2 s3 s4
  have h1 : RegsCanonical s1 := h.setBcOk.setLane
  have h2 : RegsCanonical s2 := .ite h1.askDriver h1
  have h3 : RegsCanonical s3 := h2.driverLocks.setStat
  have h4 : RegsCanonical s4 := .ite h3.wrF h3
  exact .ite h2 (.ite h4.goLane (.ite h4.wrF.goLane (.ite h4.sweepReport (.ite h4.deemphStep h4))))

protected theorem RegsCanonical.bcError {lane crc} (h : RegsCanonical s) : RegsCanonical (bcError lane crc s) :=
  h.setBcOk.setFlag.postEvent

protected theorem RegsCanonical.slotMissed {lane crc} (h : RegsCanonical s) : RegsCanonical (slotMissed lane crc s) :=
  .ite h.setBcOk (.ite h.setLane.bcError h.setLane)

protected theorem NextCanonical.execRoll {bc replies} : NextCanonical s (execRoll bc replies s) := by
  unfold execRoll
  extract_lets _ s1
  have h1 : RegsCanonical s → RegsCanonical s1 := fun h => h.emit
  refine .ite (.next id) ?_
  exact .next fun h => .foldl (h1 h) fun _ _ h => by
    split
    · exact .ite h.rollReport h.slotMissed
    · exact h.slotMissed

protected theorem NextCanonical.execStatusPoll {lane} : NextCanonical s (execStatusPoll lane s) := by
  unfold execStatusPoll
  refine .ite (.next id) ?_
  exact .ite (.next fun h => h.askDriver) (.ite (.next fun h => h.askDriver.askDriver) (.next id))

protected theorem RegsCanonical.driverLoses {lane row} (h : RegsCanonical s) :
    RegsCanonical (driverLoses lane row s) :=
  .ite h h.noteHeld.loseLock.driverLocks

protected theorem RegsCanonical.statusReply {lane bs} (h : RegsCanonical s) :
    RegsCanonical (statusReply lane bs s) := by
  unfold statusReply
  extract_lets _ _ _ s1 s2
  have h1 : RegsCanonical s1 := h.wrF.wrF.bumpSat.setStat.driverLocks
  have h2 : RegsCanonical s2 := .ite h1.setFlag.postEvent h1
  exact .ite h2.driverLoses h2

protected theorem NextCanonical.execBcAlertPulse {bc width row} : NextCanonical s (execBcAlertPulse bc width row s) :=
  .ite (.next id) (.ite (.next fun h => h.postEvent) (.next fun h => h.driverLoses))

protected theorem NextCanonical.execRelock {lane frame} : NextCanonical s (execRelock lane frame s) :=
  .ite (.next id) (.next fun h => h.setStat.driverLocks.fastDone)

protected theorem RegsCanonical.dropBc {q} (h : RegsCanonical s) : RegsCanonical (dropBc q s) :=
  h.same.pumpBc

protected theorem RegsCanonical.eyeReply {lane bs} (h : RegsCanonical s) : RegsCanonical (eyeReply lane bs s) :=
  .ite h.askDriver (.ite h h.eyeData.eyeEnd)

protected theorem RegsCanonical.prbsReply {lane bs} (h : RegsCanonical s) : RegsCanonical (prbsReply lane bs s) :=
  h.setLane.wrF.wr.wr

protected theorem RegsCanonical.takeReply {q bs} (h : RegsCanonical s) : RegsCanonical (takeReply q bs s) := by
  unfold takeReply
  extract_lets s1
  have h1 : RegsCanonical s1 := h.slip
  split
  · exact h.statusReply
  · exact .ite h.wr.resultEnd h
  · split
    · exact h1.endDsc
    · exact h1
  · exact h.askDriver
  · exact h.eyeReply
  · exact h.prbsReply
  · exact h

protected theorem RegsCanonical.failRequest {q crc} (h : RegsCanonical s) : RegsCanonical (failRequest q crc s) := by
  unfold failRequest
  extract_lets s1
  have h1 : RegsCanonical s1 := h.dropBc.bcError
  refine .ite h1.resultEnd ?_
  refine .ite h1.eyeEnd ?_
  split
  · exact h1.endDsc
  · exact h1

protected theorem RegsCanonical.replyMissed {q crc} (h : RegsCanonical s) : RegsCanonical (replyMissed q crc s) :=
  .ite h.failRequest h.same.pumpBc

protected theorem NextCanonical.execBcReply {bc frame} : NextCanonical s (execBcReply bc frame s) := by
  unfold execBcReply
  split
  · exact .ite (.next fun h => h.dropBc.setBcOk.takeReply) (.next fun h => h.replyMissed)
  · exact .next id

protected theorem NextCanonical.execBcReplyTimeout {bc crc} : NextCanonical s (execBcReplyTimeout bc crc s) := by
  unfold execBcReplyTimeout
  split
  · exact .next fun h => h.replyMissed
  · exact .next id

/-! ### The field record -/

protected theorem RegsCanonical.capture {cause} (h : RegsCanonical s) : RegsCanonical (capture cause s) :=
  .ite h.takeSnapshot.same.tick.nvWrite h.takeSnapshot.same.tick

protected theorem NextCanonical.execDiagFieldRecord {port sq seq} :
    NextCanonical s (execDiagFieldRecord port sq seq s) :=
  .withReady fun _ _ h => h.capture.emit.monitorAdd.completeI

protected theorem RegsCanonical.bmcReply {asked bytes} (h : RegsCanonical s) :
    RegsCanonical (bmcReply asked bytes s) :=
  h.emit

protected theorem NextCanonical.execBmcFieldCapture : NextCanonical s (execBmcFieldCapture s) :=
  .ite (.next fun h => h.capture) (.next id)

protected theorem NextCanonical.execBmcFieldRead {page} : NextCanonical s (execBmcFieldRead page s) :=
  .ite (.next fun h => h.bmcReply) (.next id)

protected theorem RegsCanonical.fatalRecovered (h : RegsCanonical s) : RegsCanonical (fatalRecovered s) := by
  unfold fatalRecovered
  split
  · exact .ite h.same.setFlag.postEvent.capture h
  · exact h

/-! ### The end of an NVMe command -/

protected theorem RegsCanonical.dropChange {w f} (h : RegsCanonical s) : RegsCanonical (dropChange w f s) :=
  h.setStore.nvFailEnd.serveChanges

protected theorem RegsCanonical.endFlush (h : RegsCanonical s) : RegsCanonical (endFlush s) :=
  h.setStore

protected theorem RegsCanonical.stopController (h : RegsCanonical s) : RegsCanonical (stopController s) :=
  .ite h.sendAdmin.sendAdmin.sendAdmin.sendAdmin.emit.setStore h

protected theorem RegsCanonical.logFails (h : RegsCanonical s) : RegsCanonical (logFails s) :=
  .ite h.nvFlush h

protected theorem RegsCanonical.askEvent (h : RegsCanonical s) : RegsCanonical (askEvent s) :=
  h.sendNvme

protected theorem RegsCanonical.holdLost {line} (h : RegsCanonical s) : RegsCanonical (holdLost line s) :=
  h.postEvent

protected theorem RegsCanonical.holdRepaired {item line frame bs} (h : RegsCanonical s) :
    RegsCanonical (holdRepaired item line frame bs s) := by
  unfold holdRepaired
  split
  · dsimp only
    split
    · exact .ite h.setHold.same h
    · exact h.holdLost
  · exact h

protected theorem RegsCanonical.failUse {u f} (h : RegsCanonical s) : RegsCanonical (failUse u f s) := by
  unfold failUse
  split
  · exact h.mountFails
  · exact h.mountFails
  · exact h.logFails
  · exact h.logFails
  · exact h.logFails
  · exact h.logFails
  · exact h.nvFailEnd
  · exact h.nvFailEnd
  · exact h.nvFailEnd
  · exact h.dropChange
  · exact h.dropChange
  · exact h.dropLoad.nvFailEnd.recordMissing.idleOpcodes
  · exact h.bootFailure.loadsEnd
  · exact h.bootImageFails
  · exact .endStage h fun _ _ h => h.nvFailEnd
  · exact .endStage h fun _ _ h => h.nvFailEnd
  · exact h.holdLost
  · exact .ite h.failCodec h
  · exact h
  · exact h
  · exact h
  · exact .ite h h.askEvent
  · exact h
  · exact h.endFlush

protected theorem RegsCanonical.hostReadDone {w bs} (h : RegsCanonical s) : RegsCanonical (hostReadDone w bs s) := by
  unfold hostReadDone
  split
  · exact h.emit.monitorAdd.completeI
  · exact h

protected theorem RegsCanonical.dirStep {k c} (h : RegsCanonical s) : RegsCanonical (dirStep k c s) := by
  unfold dirStep
  split
  · exact h.nvFlush
  · exact h.writeSuper
  · exact h.nvFlush
  · exact h.endChange

protected theorem RegsCanonical.codecRead {lane w bs} (h : RegsCanonical s) :
    RegsCanonical (codecRead lane w bs s) := by
  unfold codecRead
  split
  · exact .ite h.setCdc h
  · exact h

protected theorem RegsCanonical.imageRead {w bs} (h : RegsCanonical s) : RegsCanonical (imageRead w bs s) :=
  h.setTables

protected theorem RegsCanonical.doneUse {c bs} (h : RegsCanonical s) : RegsCanonical (doneUse c bs s) := by
  unfold doneUse
  split
  · exact h.metadataRead
  · exact h.formatStep
  · exact h.mergeLog
  · exact h.setStore.writeHead
  · exact h.nvFlush
  · exact h.goOnShutting
  · exact h.hostReadDone
  · exact h.endDsc
  · split
    · exact h.writeDir
    · exact h
  · split
    · exact h.dirStep
    · exact h
  · exact h.imageRead
  · exact h.manifestRead
  · exact h.bootImageRead
  · exact h.holdTableRead
  · exact h.holdItemRead
  · exact h.holdRepaired
  · exact h.codecRead
  · exact h.logEntriesRead
  · exact h
  · exact h.smartRead
  · exact h
  · exact h.askEvent
  · exact h
  · exact h.endFlush

protected theorem RegsCanonical.dropCmd {cid} (h : RegsCanonical s) : RegsCanonical (dropCmd cid s) :=
  h.sendHeld

protected theorem RegsCanonical.countIo {c} (h : RegsCanonical s) : RegsCanonical (countIo c s) :=
  .ite h (.ite h.countEvent.monitorAdd (.ite h.countEvent.monitorAdd h))

protected theorem RegsCanonical.storeError {c status} (h : RegsCanonical s) : RegsCanonical (storeError c status s) :=
  .ite h.setFlag.postEvent h.setFlag.postEvent.sendNvme

protected theorem NextCanonical.execNvmeCompletion {cid status data} :
    NextCanonical s (execNvmeCompletion cid status data s) := by
  unfold execNvmeCompletion
  split
  · exact .next id
  · refine .ite ?_ ?_
    · exact .ite (.next id) (.next fun h => h.dropCmd.countIo.doneUse.stopController.fatalRecovered)
    · exact .ite (.next fun h => h.setStore.emit) (.next fun h => h.dropCmd.storeError.failUse.stopController)

protected theorem NextCanonical.execNvmeCommandTimeout {cid} : NextCanonical s (execNvmeCommandTimeout cid s) := by
  unfold execNvmeCommandTimeout
  split
  · exact .next id
  · exact .ite (.next id) (.next fun h => h.dropCmd.sendAdmin.failUse.stopController)

protected theorem RegsCanonical.failAll {cmds waiting} (h : RegsCanonical s) :
    RegsCanonical (failAll cmds waiting s) := by
  unfold failAll
  extract_lets s1
  have h1 : RegsCanonical s1 := by
    unfold s1
    exact .foldl h fun _ _ h => by
      split
      · exact h
      · exact h
      · exact h.failUse
  exact .foldl h1 fun _ _ h => h.nvFailEnd

protected theorem RegsCanonical.dropRead (h : RegsCanonical s) : RegsCanonical (dropRead s) := by
  unfold dropRead
  extract_lets s1 s2
  have h1 : RegsCanonical s1 := .foldl h fun _ _ h => h.dropLoad.endDsc.recordMissing.idleOpcodes
  have h2 : RegsCanonical s2 := .foldl h1 fun _ _ h => .endStage h fun _ _ h => h.nvFailEnd
  exact .foldl h2 fun _ _ h => by
    split
    · exact .ite h.failCodec h
    · exact h

protected theorem RegsCanonical.storeGone (h : RegsCanonical s) : RegsCanonical (storeGone s) :=
  h.setStore.followStore.askUnit

protected theorem NextCanonical.execStoreLost {reason} : NextCanonical s (execStoreLost reason s) := by
  unfold execStoreLost
  extract_lets _ _ _ s1 s2 s3
  have h1 : RegsCanonical s → RegsCanonical s1 := fun h => h.storeGone.wrF.wrF
  have h2 : RegsCanonical s → RegsCanonical s2 := fun h => .ite (h1 h).setFlag.postEvent (h1 h)
  have h3 : RegsCanonical s → RegsCanonical s3 := fun h => (h2 h).failAll.dropRead
  exact .ite (.next id) (.next fun h => .ite (h3 h).loadsEnd (h3 h))

/-! ### Power-up and boot -/

protected theorem RegsCanonical.setBoot {b} (h : RegsCanonical s) : RegsCanonical (setBoot b s) :=
  h.same rfl

protected theorem NextCanonical.execVddAonPowerUp : NextCanonical s (execVddAonPowerUp s) :=
  .ite (.next fun h => h.setBoot) (.next id)

protected theorem NextCanonical.execVddAonLoss : NextCanonical s (execVddAonLoss s) :=
  .next fun _ => rfl

protected theorem NextCanonical.execResetNLow : NextCanonical s (execResetNLow s) := by
  unfold execResetNLow
  extract_lets s1
  have h1 : RegsCanonical s → RegsCanonical s1 := fun h => h.restart
  exact .ite (.next id) (.next fun h => (h1 h).setBoot)

protected theorem NextCanonical.execPowerOn {bscan} : NextCanonical s (execPowerOn bscan s) := by
  unfold execPowerOn
  extract_lets _ s1
  have h1 : RegsCanonical s → RegsCanonical s1 := fun h => h.setBoot.powerStart
  exact .ite (.next fun h => .ite (h1 h).setBoot (h1 h)) (.next id)

protected theorem RegsCanonical.railsGood (h : RegsCanonical s) : RegsCanonical (railsGood s) :=
  .setStage (.ite h.wrF h)

protected theorem RegsCanonical.afterRail {n} (h : RegsCanonical s) : RegsCanonical (afterRail n s) := by
  unfold afterRail
  extract_lets _ s1 s2
  have h1 : RegsCanonical s1 := h.setBoot
  have h2 : RegsCanonical s2 := h.railOn
  refine .ite h.setBoot ?_
  refine .ite ?_ (.ite h2.setBoot h.railsGood)
  split
  · exact h1.railOn
  · exact h1

protected theorem RegsCanonical.nextExitRail {x} (h : RegsCanonical s) : RegsCanonical (nextExitRail x s) := by
  unfold nextExitRail
  split
  · exact h.setPower.railOn
  · exact h.setPower

protected theorem RegsCanonical.railMissed {n} (h : RegsCanonical s) : RegsCanonical (railMissed n s) :=
  .ite h.loseRails.wrF h.railsOff.setBoot

protected theorem RegsCanonical.exitRailMissed {x n} (h : RegsCanonical s) : RegsCanonical (exitRailMissed x n s) :=
  .ite h.loseRails.wrF (.setPower (.foldl h fun _ _ h => h.railOff))

protected theorem NextCanonical.execRailPowerGoodTimeout {n} : NextCanonical s (execRailPowerGoodTimeout n s) := by
  unfold execRailPowerGoodTimeout
  split
  · exact .ite (.next fun h => h.railMissed) (.next id)
  · exact .ite (.next fun h => h.railMissed) (.next id)
  · split
    · exact .ite (.next fun h => h.exitRailMissed) (.next id)
    · exact .next id

protected theorem NextCanonical.execRailPowerGood {r} : NextCanonical s (execRailPowerGood r s) := by
  unfold execRailPowerGood
  dsimp only
  refine .ite .execRailPowerGoodTimeout ?_
  split
  · exact .ite (.next fun h => h.emit.afterRail) (.next id)
  · exact .ite (.next fun h => h.emit.afterRail) (.next id)
  · split
    · exact .ite (.next fun h => h.emit.nextExitRail) (.next id)
    · exact .next id

protected theorem NextCanonical.execRailRetryWait : NextCanonical s (execRailRetryWait s) := by
  unfold execRailRetryWait
  extract_lets _ s1 _ s2
  have h1 : RegsCanonical s → RegsCanonical s1 := fun h => h.railOn
  have h2 : RegsCanonical s → RegsCanonical s2 := fun h => h.powerStart.setReason
  refine .ite ?_ (.ite (.next fun h => (h1 h).setBoot) (.next fun h => (h2 h).same))
  split
  · refine .ite ?_ (.next id)
    dsimp only
    exact .next fun h => (by split; exacts [h.setPower.railOn, h])
  · exact .next id

protected theorem NextCanonical.execStrapSample {ownerSel merge01 merge23 bmcAddr} :
    NextCanonical s (execStrapSample ownerSel merge01 merge23 bmcAddr s) :=
  .ite (.next fun h => h.same.afterRail) (.next id)

protected theorem RegsCanonical.runFirmware {source recovery img d} (h : RegsCanonical s) :
    RegsCanonical (runFirmware source recovery img d s) :=
  h.freeBelow.wrF.wrF.wrF.wrF.setStage.setBoot

protected theorem RegsCanonical.toRecovery (h : RegsCanonical s) : RegsCanonical (toRecovery s) :=
  h.setStage

protected theorem RegsCanonical.slotFails {slot img v} (h : RegsCanonical s) :
    RegsCanonical (slotFails slot img v s) := by
  unfold slotFails
  extract_lets s1
  have h1 : RegsCanonical s1 := h.setFlag
  split
  · exact h1.bootFailure
  · exact h1

protected theorem RegsCanonical.trySlots {first slots} (h : RegsCanonical s) :
    RegsCanonical (trySlots first slots s) := by
  induction slots generalizing first s with
  | nil => exact h.bootFailure.toRecovery
  | cons e rest ih =>
    unfold trySlots
    split
    · exact .runFirmware (by split; exacts [h.bootFailure, h])
    · exact ih h.slotFails

protected theorem NextCanonical.execBootImageVerified {identified slotA slotB} :
    NextCanonical s (execBootImageVerified identified slotA slotB s) := by
  unfold execBootImageVerified
  extract_lets s1 s2
  have h1 : RegsCanonical s → RegsCanonical s1 := fun h => h.wrF
  have h2 : RegsCanonical s → RegsCanonical s2 := fun h => (h1 h).wr.wr
  refine .ite (.next id) ?_
  refine .ite (.next fun h => (h1 h).bootFailure.toRecovery) ?_
  exact .ite (.next fun h => (h2 h).bootFailure.toRecovery) (.next fun h => (h2 h).wrF.trySlots)

protected theorem NextCanonical.execBootClearDone {ok} : NextCanonical s (execBootClearDone ok s) := by
  unfold execBootClearDone
  split
  · exact .ite (.next fun h => h.setStage) (.next fun h => h.bootFailure.enterStopped)
  · exact .next id

protected theorem NextCanonical.execRsvTrainDone {ok} : NextCanonical s (execRsvTrainDone ok s) := by
  unfold execRsvTrainDone
  extract_lets s1
  have h1 : RegsCanonical s → RegsCanonical s1 := fun h => h.wrF.wrF
  split
  · exact .ite (.next fun h => h.bootFailure.enterStopped) (.next fun h => .ite (h1 h).setStage (h1 h).setStage)
  · exact .next id

protected theorem NextCanonical.execLaneCalibrationDone : NextCanonical s (execLaneCalibrationDone s) := by
  unfold execLaneCalibrationDone
  extract_lets _ s1 s2
  have h1 : RegsCanonical s → RegsCanonical s1 := fun h => h.setBoot
  have h2 : RegsCanonical s → RegsCanonical s2 := fun h => (h1 h).setStage
  refine .ite (.next id) ?_
  refine .ite (.next fun h => (h1 h).wrF.enterStopped) ?_
  exact .ite (.next fun h => (h2 h).beginLoads) (.ite (.next fun h => (h2 h).loadsEnd) (.next h2))

protected theorem NextCanonical.execStpPerstRelease : NextCanonical s (execStpPerstRelease s) :=
  .ite (.next fun h => h.setBoot) (.next id)

protected theorem RegsCanonical.setReady {ms} (h : RegsCanonical s) : RegsCanonical (setReady ms s) := by
  unfold setReady
  extract_lets s1 _ s2 s3
  have h1 : RegsCanonical s1 := h.wrF.setStage.wr.wrF.followHold
  have h2 : RegsCanonical s2 := h1.same
  have h3 : RegsCanonical s3 := .foldl h2 fun _ _ h => h.tellFailures
  exact h3.activateDefault.activateDefault.activateDefault.followWindow.nextDemura.recordMissing.fatalRecovered

protected theorem NextCanonical.execReady {ms} : NextCanonical s (execReady ms s) :=
  .ite (.next fun h => .ite h.setStage h.setReady) (.next id)

protected theorem RegsCanonical.holdLimit {ms} (h : RegsCanonical s) : RegsCanonical (holdLimit ms s) :=
  h.bootFailure.setReady

protected theorem NextCanonical.execBootHoldLimitExpiry {ms} : NextCanonical s (execBootHoldLimitExpiry ms s) :=
  .ite (.next fun h => h.holdLimit) (.next id)

protected theorem NextCanonical.execBootCtrlHold {port val} : NextCanonical s (execBootCtrlHold port val s) :=
  .ite (.next fun h => h.writeRw) (.next id)

protected theorem NextCanonical.execBootCtrlRelease {port ms} : NextCanonical s (execBootCtrlRelease port ms s) :=
  .ite (.next fun h => h.setReady) (.next id)

protected theorem NextCanonical.execBootHoldLimitWrite {port val elapsed ms} :
    NextCanonical s (execBootHoldLimitWrite port val elapsed ms s) := by
  unfold execBootHoldLimitWrite
  extract_lets s1
  have h1 : RegsCanonical s → RegsCanonical s1 := fun h => h.wr
  exact .ite (.next id) (.ite (.next fun h => (h1 h).holdLimit) (.next h1))

protected theorem NextCanonical.execBootXferOpen {port} : NextCanonical s (execBootXferOpen port s) :=
  .ite (.next fun h => h.setBoot) (.next id)

protected theorem NextCanonical.execBootXferDataWrite {port off data} :
    NextCanonical s (execBootXferDataWrite port off data s) :=
  .ite (.next fun h => h.setBoot) (.next id)

protected theorem NextCanonical.execBootCtrlRecoveryGo {port} : NextCanonical s (execBootCtrlRecoveryGo port s) :=
  .ite (.next fun h => h.wrF.wrF.wrF) (.next id)

protected theorem NextCanonical.execRecoveryVerifyDone : NextCanonical s (execRecoveryVerifyDone s) := by
  unfold execRecoveryVerifyDone
  extract_lets _ s1
  have h1 : RegsCanonical s → RegsCanonical s1 := fun h => h.wrF.wrF
  refine .ite (.next id) ?_
  split
  · exact .next fun h => (h1 h).wrF.runFirmware
  · exact .next fun h => (h1 h).slotFails.bootFailure

protected theorem NextCanonical.execTopReset {port key} : NextCanonical s (execTopReset port key s) :=
  .ite (.next id) (.ite (.next fun h => h.setPower.wakeUp) (.next fun h => h.ownerReset))

/-! ### The security core -/

protected theorem RegsCanonical.setSec {v} (h : RegsCanonical s) : RegsCanonical (setSec v s) :=
  h.same rfl

protected theorem NextCanonical.execSecAttest {port sq seq} : NextCanonical s (execSecAttest port sq seq s) :=
  .withReady fun _ _ h => h.tick.emit.monitorAdd.completeI

protected theorem NextCanonical.execSecCert {port sq seq} : NextCanonical s (execSecCert port sq seq s) :=
  .withReady fun _ _ h => h.emit.monitorAdd.completeI

protected theorem RegsCanonical.lapse (h : RegsCanonical s) : RegsCanonical (lapse s) := by
  unfold lapse
  split
  · exact h.setSec.setFlag
  · exact h

protected theorem NextCanonical.execSecChallenge {port sq seq} : NextCanonical s (execSecChallenge port sq seq s) :=
  .withReady fun _ _ h => h.lapse.tick.setSec.emit.monitorAdd.completeI

protected theorem NextCanonical.execChallengeExpiry : NextCanonical s (execChallengeExpiry s) :=
  .next fun h => h.lapse

protected theorem RegsCanonical.beginFuse {op d} (h : RegsCanonical s) : RegsCanonical (beginFuse op d s) :=
  h.setSec.setRunning

protected theorem NextCanonical.execSecEnrol {port sq seq data} :
    NextCanonical s (execSecEnrol port sq seq data s) := by
  unfold execSecEnrol
  exact .withReady fun _ _ h => by
    extract_lets _ s1 s2
    have h1 : RegsCanonical s1 := h.setSec
    have h2 : RegsCanonical s2 := h1.monitorAdd
    refine .ite h ?_
    split
    · exact h.complete
    · refine .ite h.complete ?_
      split
      · exact h1.refuseWith
      · refine .ite h1.refuseWith ?_
        split
        · exact h1.complete
        · exact .ite h2.beginFuse h2.complete

protected theorem NextCanonical.execSecRevoke {port sq seq} : NextCanonical s (execSecRevoke port sq seq s) :=
  .withReady fun _ _ h => .ite h (.ite h.refuseWith h.beginFuse)

protected theorem NextCanonical.execSecRollback {port sq seq} : NextCanonical s (execSecRollback port sq seq s) :=
  .withReady fun _ _ h => .ite h (.ite h.refuseWith (.ite h.completeI h.beginFuse))

protected theorem RegsCanonical.tellRevoked {op} (h : RegsCanonical s) : RegsCanonical (tellRevoked op s) := by
  unfold tellRevoked
  split
  · exact h.postEvent
  · exact h

protected theorem NextCanonical.execFuseProgrammingDone : NextCanonical s (execFuseProgrammingDone s) := by
  unfold execFuseProgrammingDone
  split
  · exact .next id
  · extract_lets _ s1
    have h1 : RegsCanonical s → RegsCanonical s1 := fun h => h.same.setSec.setFlag
    exact .next fun h => (h1 h).endDsc.tellRevoked

protected theorem NextCanonical.execSecFwUpdate {port sq seq data} :
    NextCanonical s (execSecFwUpdate port sq seq data s) := by
  unfold execSecFwUpdate
  exact .withReady fun _ _ h => by
    extract_lets s1
    have h1 : RegsCanonical s1 := h.monitorAdd
    refine .ite h ?_
    split
    · exact h.complete
    · split
      · exact .ite h1.refuseWith h1.setSec.setRunning
      · exact h1.setFlag.complete

protected theorem NextCanonical.execFwFlashWriteDone {ok} : NextCanonical s (execFwFlashWriteDone ok s) := by
  unfold execFwFlashWriteDone
  split
  · exact .next id
  · extract_lets _ s1
    have h1 : RegsCanonical s → RegsCanonical s1 := fun h => h.setSec
    exact .ite (.next fun h => (h1 h).wr.setFlag.endDsc) (.next fun h => (h1 h).setSec.endDsc)

protected theorem RegsCanonical.clearMemories (h : RegsCanonical s) : RegsCanonical (clearMemories s) :=
  .followDefects (.showActive (.same (.foldl h fun _ _ h => h.cancelLane)))

protected theorem NextCanonical.execPrivateTestModeOpen {response} :
    NextCanonical s (execPrivateTestModeOpen response s) := by
  unfold execPrivateTestModeOpen
  extract_lets _ s1 _ s2 _ _ s3
  have h1 : RegsCanonical s → RegsCanonical s1 := fun h => h.emit
  have h2 : RegsCanonical s → RegsCanonical s2 := fun h => (h1 h).same.tick.clearMemories
  have h3 : RegsCanonical s → RegsCanonical s3 := fun h => (h2 h).storeGone.failAll.dropRead
  refine .ite (.next id) ?_
  exact .ite (.next fun h => h.emit.tick) (.next fun h => (h3 h).setSec.followBlocked.recordMissing)

/-! ### Unit enables and fences -/

protected theorem RegsCanonical.fenceUnit {u} (h : RegsCanonical s) : RegsCanonical (fenceUnit u s) := by
  unfold fenceUnit
  extract_lets _ s1 s2 s3
  have h1 : RegsCanonical s1 := .ite h.fenceClocks (.foldl h fun _ _ h => h.setCluster.wrF)
  have h2 : RegsCanonical s2 := h1.askUnit
  have h3 : RegsCanonical s3 := .foldl h2 fun _ _ h => .foldl h fun _ _ h => h.fallEngine
  exact .ite h h3.followFences.setFlag

protected theorem RegsCanonical.awaitUnit {u enable d} (h : RegsCanonical s) :
    RegsCanonical (awaitUnit u enable d s) :=
  h.same.setRunning

protected theorem NextCanonical.execDiagUnitFence {port sq seq} : NextCanonical s (execDiagUnitFence port sq seq s) :=
  .withReady fun _ _ h => .ite h.refuseWith (.ite h.refuseWith h.refuseEnables.fenceUnit.awaitUnit)

protected theorem NextCanonical.execDiagUnitEnable {port sq seq} :
    NextCanonical s (execDiagUnitEnable port sq seq s) :=
  .withReady fun _ _ h => .ite h.refuseWith (.ite h.awaitUnit h.setCluster.awaitUnit)

protected theorem RegsCanonical.enableQuadrant {q} (h : RegsCanonical s) : RegsCanonical (enableQuadrant q s) := by
  unfold enableQuadrant
  extract_lets s1
  have h1 : RegsCanonical s1 := .foldl h fun _ _ h => .wrF (.setCluster (.ite h h.askUnit))
  exact h1.followFences.askUnit

protected theorem RegsCanonical.enableUnit {u} (h : RegsCanonical s) : RegsCanonical (enableUnit u s) :=
  .ite h.enableQuadrant h.enableCluster

protected theorem RegsCanonical.takeAwaiting {p} (h : RegsCanonical s) : RegsCanonical (takeAwaiting p s).2 :=
  h.same rfl

protected theorem NextCanonical.execDataPathAcknowledge {unit} : NextCanonical s (execDataPathAcknowledge unit s) :=
  .next fun h => .foldl (.ite h.takeAwaiting.enableUnit h.takeAwaiting) fun _ _ h => h.endDsc

protected theorem NextCanonical.execDiagUnitEnableTimeout {unit} :
    NextCanonical s (execDiagUnitEnableTimeout unit s) :=
  .next fun h => .foldl (.ite h.takeAwaiting h.takeAwaiting.setCluster) fun _ _ h => h.endDsc

protected theorem NextCanonical.execBmcStatus : NextCanonical s (execBmcStatus s) :=
  .ite (.next fun h => h.bmcReply) (.next id)

protected theorem NextCanonical.execBmcUnitTable {first} : NextCanonical s (execBmcUnitTable first s) :=
  .ite (.next fun h => h.bmcReply) (.next id)

protected theorem NextCanonical.execBmcPowerResult : NextCanonical s (execBmcPowerResult s) :=
  .ite (.next fun h => h.bmcReply) (.next id)

/-! ### Register writes -/

protected theorem RegsCanonical.clearBit {k cs b} (h : RegsCanonical s) : RegsCanonical (clearBit k cs b s) :=
  h.clearFlag

protected theorem RegsCanonical.clearFlags {k val} (h : RegsCanonical s) : RegsCanonical (clearFlags k val s) := by
  unfold clearFlags
  split
  · exact .foldl h fun _ _ h => .ite h.clearBit h
  · exact h

protected theorem RegsCanonical.clearAon {val} (h : RegsCanonical s) : RegsCanonical (clearAon val s) :=
  .foldl (.ite h.wrF h) fun _ _ h => .ite h.wrF h

protected theorem NextCanonical.execFlagClear {port off val} : NextCanonical s (execFlagClear port off val s) := by
  unfold execFlagClear
  extract_lets _ s1
  have h1 : RegsCanonical s → RegsCanonical s1 := fun h => h.clearFlags
  refine .ite (.ite (.next fun h => h.clearAon) (.next id)) ?_
  exact .ite (.ite (.next fun h => h.clearFlags) (.next id))
    (.ite (.next fun h => .ite (h1 h).idleTrigger (h1 h)) (.next id))

protected theorem RegsCanonical.unmask {p v} (h : RegsCanonical s) : RegsCanonical (unmask p v s) :=
  .ite h.wrF.emit h

protected theorem RegsCanonical.writePort {p o val} (h : RegsCanonical s) : RegsCanonical (writePort p o val s) := by
  unfold writePort
  extract_lets s1
  have h1 : RegsCanonical s1 := h.writeRw
  exact .ite h (.ite h1.unmask (.ite h1.signalEvq (.ite h1.signalCq h1)))

protected theorem RegsCanonical.writeHeldRegs {k val} (h : RegsCanonical s) :
    RegsCanonical (writeHeldRegs k val s) := by
  unfold writeHeldRegs
  split
  · split
    · exact h.same
    · exact h
  · exact h

protected theorem RegsCanonical.afterWrite {k val oldMode} (h : RegsCanonical s) :
    RegsCanonical (afterWrite k val oldMode s) := by
  unfold afterWrite
  extract_lets _ s1 s2 s3 s4 s5 s6 s7
  have h1 : RegsCanonical s1 := .ite h.writeHeldRegs.followLayers h
  have h2 : RegsCanonical s2 := .ite h1.restartLock h1
  have h3 : RegsCanonical s3 := .ite h2.followBlocked.recordMissing h2
  have h4 : RegsCanonical s4 := .ite h3.followWindow h3
  have h5 : RegsCanonical s5 := .ite h4.followActive h4
  have h6 : RegsCanonical s6 := .ite h5.followRot h5
  have h7 : RegsCanonical s7 := .ite h6.freezeIfDue h6
  exact .ite h7.idleTrigger h7

protected theorem RegsCanonical.endTrialAt {k} (h : RegsCanonical s) : RegsCanonical (endTrialAt k s) :=
  .ite h.setLane h

protected theorem RegsCanonical.writeGlobal {k val} (h : RegsCanonical s) : RegsCanonical (writeGlobal k val s) :=
  .ite (.ite h h.wr.idleTrigger) (.ite h.writeRw.endTrialAt h.writeRw.afterWrite)

protected theorem RegsCanonical.writeWord {p o val} (h : RegsCanonical s) : RegsCanonical (writeWord p o val s) :=
  .ite h (.ite (.ite h.writePort h) (.ite (.ite h.writeRw h) (.ite h.writeGlobal h)))

protected theorem NextCanonical.execRegisterWrite {port off size val} :
    NextCanonical s (execRegisterWrite port off size val s) := by
  unfold execRegisterWrite
  extract_lets _ _ s1
  have h1 : RegsCanonical s → RegsCanonical s1 := fun h => h.monitorAdd
  exact .ite (.next fun h => (h1 h).writeWord) (.ite (.next fun h => (h1 h).writeWord.writeWord) (.next h1))

protected theorem NextCanonical.execTopHostPermWrite {port m val} :
    NextCanonical s (execTopHostPermWrite port m val s) := by
  unfold execTopHostPermWrite
  extract_lets _ s1
  have h1 : RegsCanonical s → RegsCanonical s1 := fun h => h.writeRw
  exact .ite (.next id) (.ite (.next h1) (.next fun h => (h1 h).postEvent))

protected theorem RegsCanonical.assignOne {kind host i} (h : RegsCanonical s) :
    RegsCanonical (assignOne kind host s i) := by
  unfold assignOne
  extract_lets s1 s2
  have h1 : RegsCanonical s1 := .ite h.setCtr.wr h
  have h2 : RegsCanonical s2 := .ite h1.disableRect h1
  exact .ite h h2.setHost

protected theorem NextCanonical.execAssign {port sq seq} : NextCanonical s (execAssign port sq seq s) :=
  .withReady fun _ _ h => .ite h.refuseWith (.ite h.complete (.completeI (.foldl h fun _ _ h => h.assignOne)))

protected theorem NextCanonical.execChkFrameLoRead {port rect} : NextCanonical s (execChkFrameLoRead port rect s) :=
  .ite (.next id) (.next fun h => h.wr.wr.answerRead)

/-! ### Commands and steps -/

/-- Every command has its rule above. -/
protected theorem NextCanonical.exec (c : Instr) : NextCanonical s (exec c s) := by
  unfold Machine.exec
  cases c
  exacts [.execAdd, .execSub, .execAnd, .execOr, .execXor, .execShl, .execShr, .execSra, .execSlt, .execSltu, .execMin,
    .execMinu, .execMax, .execMaxu, .execMul, .execMulh, .execMulhu, .execAddi, .execAndi, .execOri, .execXori, .execShli,
    .execShri, .execSrai, .execSlti, .execSltiu, .execLui, .execJal, .execJalr, .execBr, .execLw, .execLh, .execLhu,
    .execLb, .execLbu, .execSw, .execSh, .execSb, .execVld, .execVst, .execVldb, .execAaddH, .execAaddW, .execAaddsH,
    .execAaddsW, .execAswpH, .execAswpW, .execVadd, .execVsub, .execVadds, .execVsubs, .execVaddus, .execVsubus,
    .execVaddsu, .execVmin, .execVmax, .execVminu, .execVmaxu, .execVand, .execVor, .execVxor, .execVshl, .execVshr,
    .execVsra, .execVmul, .execVmulh, .execVmulhu, .execVabsdu, .execVavgu, .execVsel, .execVshli, .execVshri, .execVsrai,
    .execVaddi, .execVmov, .execVclz, .execVrcp, .execVrsqrt, .execVlane, .execVmvs, .execVcmp, .execPand, .execPor,
    .execPxor, .execPandn, .execPset, .execPget, .execVmac, .execAclr, .execAset, .execVrnd, .execLut1, .execLut2,
    .execMvq, .execBar, .execWait, .execCsrr, .execCsrw, .execEret, .execHalt, .execPowerOn, .execRailPowerGood,
    .execRailPowerGoodTimeout, .execStrapSample, .execPortReset, .execBootImageVerified, .execBootClearDone,
    .execRsvTrainDone, .execStoreLinkUp, .execStoreControllerReady, .execReady, .execBootHoldLimitExpiry,
    .execBootCtrlHold, .execBootCtrlRelease, .execBootCtrlRecoveryGo, .execBootXferOpen, .execBootXferDataWrite,
    .execBootHoldLimitWrite, .execTopReset, .execFlagClear, .execRegisterWrite, .execTopHostPermWrite, .execRastGeomWrite,
    .execRastLagWrite, .execRastCtrlTimelineWrite, .execPipeFmtWrite, .execEngCtrlRearRoleWrite, .execRsvAllocWrite,
    .execPortKick, .execPollTimerExpiry, .execDoorbellFetchDone, .execDescriptorFetchDone, .execSqCfgWrite,
    .execCqCfgWrite, .execEvqCfgWrite, .execCoalesceTimerExpiry, .execSetPanel, .execSetTimeline, .execAssign,
    .execSetBackground, .execRasterEnable, .execLayerConfig, .execLayerFlip, .execLayerEnable, .execLayerMatrix,
    .execTableLoad, .execTableActivateC, .execTableActivateS, .execTableDrop, .execKernelLoad, .execKernelBind,
    .execKernelUnload, .execImageLoadDone, .execHoldStage, .execHoldStageDone, .execHoldPlay, .execHoldStop,
    .execHoldPolicy, .execHoldEvict, .execStoreRead, .execStoreWrite, .execStoreCreate, .execStoreDelete, .execStoreInfo,
    .execNvmeCompletion, .execNvmeCommandTimeout, .execStoreLost, .execCodecJob, .execCodecOutBuf, .execCodecCancel,
    .execCodecBlockDone, .execCheckRect, .execCheckExpect, .execCheckFrameComputed, .execCtrProgram, .execCtrSnapshot,
    .execCtrFreeze, .execBwMonitor, .execBwWindowEnd, .execTagConfig, .execPowerReq, .execOpLimit, .execLaneTrain,
    .execLaneBitSlip, .execLaneEyeScan, .execLanePrbs, .execTimeLock, .execTimePhase, .execTimeStamp, .execTimeSet,
    .execSecAttest, .execSecChallenge, .execSecEnrol, .execSecRevoke, .execSecFwUpdate, .execFwFlashWriteDone,
    .execSecRollback, .execSecCert, .execDiagFieldRecord, .execDiagUnitEnable, .execDiagUnitFence, .execDiagLogRead,
    .execBmcUnitTable, .execBmcFieldRead, .execBmcPowerReq, .execLaneCfgWrite, .execLaneSlipWrite, .execLaneEyeStartWrite,
    .execPrbsCtrlWrite, .execPrbsInjectWrite, .execPrbsBitsLoRead, .execRastSfnLoRead, .execRastCfnLoRead,
    .execHfnOffsetLoRead, .execRastTimeNsRead, .execBklStatsSfnLoRead, .execChkFrameLoRead, .execLaneTrainingDone,
    .execLaneTrainingTimeout, .execLaneLockLost, .execFastRetrainTimeout, .execRetrainCountReset, .execFomWindow,
    .execCtleTrial, .execIdleFreeze, .execRecentreDone, .execEyeScanDone, .execHwlLinePacket, .execFrameStart,
    .execFrameEnd, .execHwlSleepBlock, .execHwlWakeBlock, .execHwlTrainBlock, .execHwlIdleBlock, .execHwlUnknownBlock,
    .execLineDeadline, .execRefFrameEdge, .execRefTodMessage, .execCompositionFrameStart, .execCompositionLineStart,
    .execLiveFetchDone, .execSnapshotFetchDone, .execTileDispatch, .execTileComplete, .execTileRetire, .execTileDeadline,
    .execDeadlineWarning, .execMaxCyclesExpiry, .execMoverRequestDone, .execMoverStarve, .execPatrolVisit,
    .execHandlerEntry, .execBarrierRelease, .execWaitRelease, .execStageEnd, .execInstructionUndefined, .execRsvScrubRead,
    .execBklStrobe, .execZoneData, .execBklStatus, .execSlkLinePacket, .execCfgWrite, .execSlkDcfgGo, .execRoll,
    .execStatusPoll, .execBcReply, .execBcReplyTimeout, .execBcAlertPulse, .execRelock, .execHostLinkWake,
    .execVoltageFail, .execRailTelemetry, .execPmbusAlert, .execPllLockLoss, .execMgmtMemoryError, .execSensorRefresh,
    .execPanelTempPoll, .execUnitStateUpdate, .execHwlSignalDetect, .execCdrLock, .execBlockLock, .execInvalidSyncHeader,
    .execPrbsCheckerLocked, .execPrbsCheckerUnlock, .execHostLinkUp, .execCounterWrap, .execDataPathAcknowledge,
    .execDiagUnitEnableTimeout, .execReadTemperaturePoll, .execPrivateTestModeOpen, .execWakeFromOff, .execVddAonLoss,
    .execWatchdogExpiry, .execLaneCalibrationDone, .execStpPerstRelease, .execStoreAbsentTimeout, .execRecoveryVerifyDone,
    .execPanelPowerStep, .execStoreMountRetry, .execEventLogFlush, .execSmartPoll, .execChallengeExpiry, .execBmcStatus,
    .execBmcFieldCapture, .execBmcPowerResult, .execSilenceCheck, .execFreeze, .execFreezeTimeout, .execRefFrameLost,
    .execRef10mPresent, .execRef10mLost, .execRefPpsEdge, .execScanFrameStart, .execLatchInstant, .execStage6Deadline,
    .execIdlePolicy, .execSleepPolicy, .execUnitAgree, .execStpShutdownTimeout, .execWakeN, .execWakeSense,
    .execPowerExitDone, .execOpSwitch, .execOpPllTimeout, .execThermalTrip, .execRsvInterfaceFailure, .execResetNLow,
    .execVddAonPowerUp, .execRailRetryWait, .execScanLineStart, .execFuseProgrammingDone, .execRefPpsLost]

protected theorem NextCanonical.step : NextCanonical s (step s) := by
  unfold Machine.step
  split
  · exact .next fun h => h
  · next c rest _ =>
    obtain ⟨t, ht, hc⟩ := NextCanonical.exec (s := { s with pending := rest }) c
    exact ⟨t, ht, fun h => hc h.same⟩

end Sys2Proof

namespace Sys2Proof.Machine

/-- Settles O2: every command has a rule that names its next state, and a step is a command or idles. -/
theorem nothingStops : Obligations.NothingStops := by
  unfold Obligations.NothingStops
  exact ⟨fun c s => (NextCanonical.exec (s := s) c).imp fun _ ⟨ht, _⟩ => ht,
    fun s => (NextCanonical.step (s := s)).imp fun _ ⟨ht, _⟩ => ht⟩

/-- Settles O4: every command's rule carries the canonical form over to its next state. -/
theorem regsStayCanonical : Obligations.RegsStayCanonical := by
  unfold Obligations.RegsStayCanonical
  intro s t h ht
  obtain ⟨u, hu, hc⟩ := NextCanonical.step (s := s)
  obtain rfl := Host.Outcome.next.inj (hu.symm.trans ht)
  exact hc h

end Sys2Proof.Machine
end
